-- ==== Sys2Proof/Word.lean ====
section
/-! DEFINITION. Sys2Proof/Word.lean: the word types and their plainest arithmetic. -/

namespace Sys2Proof

/-- A register word (R12). -/
abbrev Word := BitVec 32

/-- One byte of a frame, a record, an image or a memory. -/
abbrev Byte := BitVec 8

/-- A byte string, first byte first. -/
abbrev Bytes := List (BitVec 8)

end Sys2Proof
end

