-- ==== Sys2Proof/Syntax.lean ====
section
/-! DEFINITION. Sys2Proof/Syntax.lean: the commands, one constructor per row of the operation table, with their operands. -/

namespace Sys2Proof

/-- The two host interfaces (R27). -/
inductive Iface where
  | pcie | spi
  deriving DecidableEq, Repr

/-- A decoded IRIG-B frame (R94, R95): its BCD fields, the IEEE 1344 fields that code B004 carries (local offset in seconds, pending leap
second with true for a deletion, time quality, parity), and the ticks of the timing clock since its on-time point. -/
structure IrigFrame where
  year : Nat
  day : Nat
  hour : Nat
  minute : Nat
  second : Nat
  localOfs : Int
  leap : Option Bool
  quality : Nat
  parityOk : Bool
  ago : Nat
  deriving DecidableEq, Repr

/-- A part of a TIME exchange with the twin (R98, R744): the Oznis lane, the TIME frame that it has brought (none: the request is due), and the twin's
accuracy estimate in ns and its TRACE. -/
structure TimeExchange where
  lane : Nat
  rx : Option (List Byte)
  estNs : Nat
  trace : Bool
  deriving DecidableEq, Repr

/-- Factors that a calibration measured for a channel (R172): gain with 1.0 = 0x0100_0000 and offset in codes, full mode and low-power mode. -/
structure CalFact where
  ch : Nat
  gain : Nat
  ofs : Int
  gainLp : Nat
  ofsLp : Int
  deriving DecidableEq, Repr


/-- The release of a frame (R297) at a tick, and the real backlogs of the ingress queues 0 to 2 that the wings report: wing, queue, frames (R374). -/
structure Release where
  t : Nat
  lag : List (Nat × Nat × Nat)
  deriving DecidableEq, Repr

/-- What the other end of a link shows: half duplex, as the PHY reports it (R287), and low-power idle (R331). -/
structure LinkPeer where
  half : Bool
  lpi : Bool
  deriving DecidableEq, Repr

/-- The wings' digests of the closing wingbeat as they are compared (R719, R720): N, the digests of wing 0 and wing 1, the SUBMASK of the sub-digests that
differ, and the safety objects whose flags differ with the flag of wing 0. -/
structure DigestIn where
  n : Nat
  w0 : Nat
  w1 : Nat
  mask : Nat
  differ : List (Nat × Bool)
  deriving DecidableEq, Repr

/-- The commands and events of the block, one constructor per row of the operation table. Every one carries `t`, the tick of the
timing clock since the entry to SELFTEST at which it happens. -/
inductive Instr where
  /-- REGISTER_WRITE (R18): A host write to a register that has no row of its own acts according to the access code of each of its fields. -/
  | registerWrite (t : Nat) (i : Iface) (en addr : Nat) (data : Word)
  /-- RC_READ (R18): A read of an RC register returns its value and clears it to its reset value atomically. -/
  | rcRead (t : Nat) (i : Iface) (en addr : Nat)
  /-- LATCHED_READ (R865): A read of a _LO register latches its _HI register for the interface that made the read. -/
  | latchedRead (t : Nat) (i : Iface) (en addr : Nat)
  /-- ACC_ERR_CLR (R862): A write of 1 to GLB_ACC_ERR_CLR clears VALID and OVERFLOW so that the next access error is captured. -/
  | accErrClr (t : Nat) (i : Iface) (data : Word)
  /-- GLB_CTL_WRITE (R870): A write to GLB_CTL sets the write locks, and a write that would set both locks is refused. -/
  | glbCtlWrite (t : Nat) (i : Iface) (data : Word)
  /-- SPI_WRITE_FRAME (R827): An 11-byte SPI write frame is CRC-checked, performed, and answered with STATUS. -/
  | spiWriteFrame (t : Nat) (bytes : List Byte)
  /-- SPI_READ_FRAME (R827): A 13-byte SPI read frame returns the data, its CRC and STATUS, or RETRY when the data is not ready. -/
  | spiReadFrame (t : Nat) (bytes : List Byte) (late : Bool)
  /-- POWER_ON (R839): The supplies rise from outside their limits and the device performs a power-on reset. -/
  | powerOn (t : Nat)
  /-- SUPPLY_FAULT (R904): A rail that leaves its tolerance after RESET holds the wings in reset and causes a power-on reset. -/
  | supplyFault (t : Nat)
  /-- BOARD_RESET (R839): RESET_N held low resets the module and keeps the journal regions in self-refresh. -/
  | boardReset (t : Nat) (low : Nat)
  /-- RESET_RELEASE (R846): The rise of RESET_N samples the straps and, once the PLL locks, enters SELFTEST with a new power epoch. -/
  | resetRelease (t : Nat) (twinId debugEn pupaHold refclkSel : Bool)
  /-- HOST_RESET (R840): A write of the key 0xA5C3 with RESET 1 to GLB_RESET_CTL resets the module. -/
  | hostReset (t : Nat) (i : Iface)
  /-- WATCHDOG_RESET (R839): When the module watchdog has gone unserviced for 50 ms, the module resets. -/
  | watchdogReset (t : Nat)
  /-- SELFTEST_DONE (R846): At the end of SELFTEST the device goes to pupa when the tests pass and to SAFE when a test fails. -/
  | selftestDone (t : Nat) (failed : Nat)
  /-- IMAGE_LOADED (R792): The qualifying instar is loaded on both wings and the device enters CALIBRATE, or waits in pupa. -/
  | imageLoaded (t : Nat)
  /-- PUPA_GO (R849): A write of 1 to GLB_BOOT_CTL.PUPA_GO releases a held pupa when a slot qualifies. -/
  | pupaGo (t : Nat) (i : Iface) (data : Word)
  /-- CALIBRATION_DONE (R172): The calibration of the selected quadrants ends, writing the gain and offset factors or setting CAL_FAIL, and power-up calibration leads to SYNC. -/
  | calibrationDone (t : Nat) (quads : List Nat) (facts : List CalFact)
  /-- SYNC_TIMEOUT (R850): When SYNC_TIMEOUT expires without a lock, the device moves to DEGRADED. -/
  | syncTimeout (t : Nat)
  /-- PWRFAIL_FALL (R842): The fall of PWRFAIL_N starts the ordered power-fail actions: record, holds, low-power mode, keep flush, ledger write and save. -/
  | pwrfailFall (t : Nat)
  /-- PWRFAIL_END (R844): When PWRFAIL_N has been high for 100 ms, the save is invalidated and service resumes. -/
  | pwrfailEnd (t : Nat)
  /-- ENDPOINT_RESET (R820): A PCIe fundamental, hot or function-level reset clears only the endpoint and the host ring registers. -/
  | endpointReset (t : Nat) (flr : Bool)
  /-- D3HOT_ENTRY (R821): In D3hot the endpoint stops messages and DMA, and every host ring stalls. -/
  | d3hotEntry (t : Nat)
  /-- BASE_RATE_SAMPLE (R137): The decimator produces a corrected base-rate word for each channel and the chain up to the resampler advances. The
  bitstreams since the last word come as channel and 400 bits, in three bundles however divided; with them the readings of the die's reference monitor in ppm (R145). -/
  | baseRateSample (t : Nat) (q : Nat) (a b c : List (Nat × Nat)) (refs : List Int)
  /-- SAMPLE_TICK (R41): The resampler produces one output sample, which feeds the moving average and the threshold units. -/
  | sampleTick (t : Nat)
  /-- FLUTTER_BOUNDARY (R43): Every 16th sample tick runs the tracker, the phasors, the detectors and the flutter checks. -/
  | flutterBoundary (t : Nat) (cks : List (Nat × (Int × Int))) (sense : Nat) (mis : Option (Nat × Nat))
  /-- TRACKED_CYCLE_BOUNDARY (R275): Every 128th sample tick the sub-synchronous watch bins are computed and type 4 detectors are evaluated. -/
  | trackedCycleBoundary (t : Nat)
  /-- CHECK_FRAME_BOUNDARY (R153): At every third tracked-cycle boundary each check converter starts an injected or rotational check, or stays idle. -/
  | checkFrameBoundary (t : Nat)
  /-- WINGBEAT_BOUNDARY (R62): The ordered boundary actions run: overrun check, claim change, commit, domain switch, slot close and statistics. -/
  | wingbeatBoundary (t : Nat) (dig : Option DigestIn)
  /-- SLOW_WINDOW_LEAVE (R405): A slot leaves the slow window ALN_SLOW_LEN wingbeats after its close, going to the slow export and K_ARCHIVE. -/
  | slowWindowLeave (t : Nat)
  /-- EXPORT_WRITE (R422): An export entry passes the claim gate and is written to the host ring, or is skipped when the ring lacks room. -/
  | exportWrite (t : Nat)
  /-- PTP_MASTER_SEND (R90): At its message interval a master port sends Sync and Announce with the clockClass of the output time. -/
  | ptpMasterSend (t : Nat) (p : Nat)
  /-- PPS_EDGE (R91): A PPS edge is stamped and marks a TAI second, updating its domain. -/
  | ppsEdge (t : Nat) (n : Nat)
  /-- PPS_TOD_ARM (R92): A write of ARM to TIM_PPS_TOD_ARM arms the TAI second that the next edge marks. -/
  | ppsTodArm (t : Nat) (i : Iface) (n : Nat) (data : Word)
  /-- IRIG_FRAME (R97): An IRIG-B frame is decoded and converted to TAI, or rejected and counted. -/
  | irigFrame (t : Nat) (f : IrigFrame)
  /-- TWIN_TIME_EXCHANGE (R98): Every 250 µs a two-way TIME exchange over the Oznis link disciplines a twin domain. -/
  | twinTimeExchange (t : Nat) (x : TimeExchange)
  /-- SOURCE_LOST (R104): When a source timeout expires, the domain goes to HOLDOVER or FREE. -/
  | sourceLost (t : Nat) (k : Nat)
  /-- HOLDOVER_LIMIT (R104): When HOLD_LIM seconds have passed in HOLDOVER, the domain becomes LOST. -/
  | holdoverLimit (t : Nat) (k : Nat)
  /-- FORCE_SWITCH (R109): A write of 1 to TIM_CTL.FORCE_SWITCH starts an outstanding refused switch at the next boundary. -/
  | forceSwitch (t : Nat) (i : Iface) (data : Word)
  /-- SLEW_DONE (R110): When the residual slew falls below 2.5 ns, the output time follows the new domain and SLEW_DONE is written. -/
  | slewDone (t : Nat)
  /-- DOMAIN_REVERT (R113): When the preferred domain has been locked for 60 s with REVERT set, the device switches back to it. -/
  | domainRevert (t : Nat)
  /-- TIM_SNAP (R125): A write to TIM_SNAP copies the output and elapsed times into the snapshot registers. -/
  | timSnap (t : Nat) (i : Iface) (data : Word)
  /-- LEAP (R121): At the end of the UTC day a pending leap second changes TIM_LEAP_OFS and a LEAP record is written. -/
  | leap (t : Nat)
  /-- LEAP_PEND_START (R122): Sixty seconds before a leap second LEAP_PEND is set. -/
  | leapPendStart (t : Nat)
  /-- LEAP_OCC_END (R122): LEAP_OCC clears 86,400 s after the leap. -/
  | leapOccEnd (t : Nat)
  /-- PPS_OUT_PULSE (R131): PPS_OUT rises at the top of each second and falls after WIDTH ms. -/
  | ppsOutPulse (t : Nat)
  /-- CNV_SNAP (R139): A write to CNV_Q[q]_SNAP requests a snapshot of the corrected words of a quadrant. -/
  | cnvSnap (t : Nat) (i : Iface) (q : Nat) (data : Word)
  /-- CNV_SNAP_ALL (R141): A write to CNV_SNAP_ALL requests a snapshot of all quadrants on one sample. -/
  | cnvSnapAll (t : Nat) (i : Iface) (data : Word)
  /-- SNAPSHOT_LATCH (R139): At the next base-rate sample the requested words are latched and SNAP_SEQ is incremented. -/
  | snapshotLatch (t : Nat)
  /-- CK_INJ (R158): A write to CNV_CK[k]_INJ queues an injected check, merges it, or refuses it. -/
  | ckInj (t : Nat) (i : Iface) (k : Nat) (data : Word)
  /-- RES_STATUS_READ (R164): A read of RES_STATUS captures the front result buffer into the read view. -/
  | resStatusRead (t : Nat) (i : Iface) (k : Nat)
  /-- RES_CONSUME (R166): A read of RES_CONSUME captures the view, clears VALID, and promotes the back buffer. -/
  | resConsume (t : Nat) (i : Iface) (k : Nat)
  /-- CAL_START (R173): A write of START with QMASK requests a runtime calibration, or is refused as BUSY or TOO_SOON. -/
  | calStart (t : Nat) (i : Iface) (data : Word)
  /-- LP_REQUEST (R180): A write to CNV_LP_CTL.HOST_LP requests low-power entry or exit for quadrants. -/
  | lpRequest (t : Nat) (i : Iface) (data : Word)
  /-- SETTLE_END (R232): SETTLE clears once 96 base-rate samples have followed the marked edge. -/
  | settleEnd (t : Nat)
  /-- FIR_SWAP (R200): A write to FLT_CH[n]_SWAP starts, pends, replaces, or ignores a bank swap. -/
  | firSwap (t : Nat) (i : Iface) (n : Nat) (data : Word)
  /-- FADE_DONE (R202): A cross-fade completes, the incoming bank becomes LIVE, and any pending request is acted on. -/
  | fadeDone (t : Nat) (n : Nat)
  /-- COEF_WRITE (R204): A coefficient write to FLT_COEF_DATA is accepted and advances the tap, or is refused as BANK_LOCKED. -/
  | coefWrite (t : Nat) (i : Iface) (data : Word)
  /-- COEF_READ (R243): A read of FLT_COEF_DATA returns the coefficient and advances the tap. -/
  | coefRead (t : Nat) (i : Iface)
  /-- HOST_FREEZE (R210): A write of FREEZE to FLT_CH[n]_FREEZE_CTL makes a host freeze of a held channel. -/
  | hostFreeze (t : Nat) (i : Iface) (n : Nat) (data : Word)
  /-- FREEZE_RELEASE (R211): A write of RELEASE to FREEZE_CTL releases any freeze. -/
  | freezeRelease (t : Nat) (i : Iface) (n : Nat) (data : Word)
  /-- FREEZE_TAIL_END (R211): A triggered freeze is released after TAIL inactive sample ticks. -/
  | freezeTailEnd (t : Nat) (n : Nat)
  /-- FREEZE_MAX_END (R211): A freeze is released once it has lasted FLT_FREEZE_MAX ticks. -/
  | freezeMaxEnd (t : Nat) (n : Nat)
  /-- TRK_HOLD_LIMIT (R218): After HOLD_LIM flutters with no valid candidate, the tracker enters RETURN. -/
  | trkHoldLimit (t : Nat)
  /-- TRK_REF_RETURN (R216): After 64 valid flutters the tracker returns to a higher-priority reference. -/
  | trkRefReturn (t : Nat)
  /-- DECSYNC_PIN (R229): A DECSYNC pin edge requests a phase reset, which is accepted or ignored. -/
  | decsyncPin (t : Nat) (width : Nat)
  /-- DECSYNC_COMMAND (R229): A write of 1 to FLT_CTL.DECSYNC requests a phase reset. -/
  | decsyncCommand (t : Nat) (i : Iface) (data : Word)
  /-- AO_MIN_HOLD_END (R280): When MIN_HOLD expires, an AO pin with no active source returns. -/
  | aoMinHoldEnd (t : Nat) (a : Nat)
  /-- AO_UNLATCH (R280): A write to PHS_AO_UNLATCH unlatches AO pins whose sources are inactive. -/
  | aoUnlatch (t : Nat) (i : Iface) (data : Word)
  /-- PHS_CH_STATUS_READ (R283): A read of PHS_CH[n]_STATUS captures the latest interpolated phasor into the read view. -/
  | phsChStatusRead (t : Nat) (i : Iface) (n : Nat)
  /-- FRAME_RECEIVED (R290): A frame ends at a port and is sorted by length and FCS, timestamped, filtered and buffered. -/
  | frameReceived (t : Nat) (p : Nat) (bytes : List Byte) (fcsOk : Bool) (sfd : Nat)
  /-- FRAME_RELEASE (R297): 500 ns after its end a frame is released in merged order to PRP discard and the classifier. -/
  | frameRelease (r : Release)
  /-- PRP_AGE_OUT (R303): A discard-table entry unseen for NET_PRP_AGE ms is removed. -/
  | prpAgeOut (t : Nat)
  /-- LINK_CHANGE (R288): A port link goes up or down, writing a LINK record. -/
  | linkChange (t : Nat) (p : Nat) (up : Bool) (speed : Nat) (peer : LinkPeer)
  /-- FRAME_TRANSMIT_END (R309): At a frame boundary the port starts the head frame of the highest non-empty queue. -/
  | frameTransmitEnd (t : Nat) (p : Nat)
  /-- PAUSE_HOLD_END (R316): The pause time of a received PAUSE frame expires and transmission resumes. -/
  | pauseHoldEnd (t : Nat) (p : Nat)
  /-- PAUSE_WATCHDOG (R317): A pause held for WD µs is released, and pause is ignored for IGN ms. -/
  | pauseWatchdog (t : Nat) (p : Nat)
  /-- PAUSE_IGNORE_END (R318): The pause-ignore period ends and the watchdog count restarts. -/
  | pauseIgnoreEnd (t : Nat) (p : Nat)
  /-- LPI_ENTRY (R319): After queues have been empty for IDLE µs, an EEE port asks its PHY for low-power idle. -/
  | lpiEntry (t : Nat) (p : Nat)
  /-- LPI_WAKE (R321): After the wake time T_w, the frame that ended low-power idle starts. -/
  | lpiWake (t : Nat) (p : Nat)
  /-- PLCA_LOST (R324): When PLCA status falls, the T port falls back to CSMA/CD. -/
  | plcaLost (t : Nat) (p : Nat)
  /-- COLLISION (R325): A collision on a T port jams and backs off, or discards the frame. -/
  | collision (t : Nat) (p : Nat) (late : Bool)
  /-- BACKOFF_END (R325): The random back-off wait ends and transmission is retried. -/
  | backoffEnd (t : Nat) (p : Nat)
  /-- GAP_MARKER_DEQUEUE (R373): A dequeued ingress gap marker writes INGRESS_GAP and counts QUEUE_DROP. -/
  | gapMarkerDequeue (t : Nat) (q : Nat)
  /-- ING_LOOKUP (R337): A write to ING_LOOKUP_ID_HI starts a point-table lookup. -/
  | ingLookup (t : Nat) (i : Iface) (data : Word)
  /-- KEYS_DERIVED (R355): Point and command key derivation completes and KEYS_READY is set. -/
  | keysDerived (t : Nat)
  /-- C37_CMD_DATA_OFF (R418): Command 0x0001 clears DATA_ON of a stream. -/
  | c37CmdDataOff (t : Nat) (n : Nat)
  /-- C37_CMD_DATA_ON (R418): Command 0x0002 sets DATA_ON of a stream. -/
  | c37CmdDataOn (t : Nat) (n : Nat)
  /-- C37_CMD_HEADER (R418): Command 0x0003 sends the header frame. -/
  | c37CmdHeader (t : Nat) (n : Nat)
  /-- C37_CMD_CFG1 (R418): Command 0x0004 sends a CFG-1 frame. -/
  | c37CmdCfg1 (t : Nat) (n : Nat)
  /-- C37_CMD_CFG2 (R418): Command 0x0005 sends the CFG-2 frame. -/
  | c37CmdCfg2 (t : Nat) (n : Nat)
  /-- GOOSE_RETRANSMIT (R427): A GOOSE block retransmits at intervals that double up to MAX_T. -/
  | gooseRetransmit (t : Nat) (g : Nat)
  /-- ALN_ENT_STATUS_READ (R434): A read of ALN_ENT_STATUS captures the selected roost entry. -/
  | alnEntStatusRead (t : Nat) (i : Iface)
  /-- OSC_SIG_STATUS_READ (R470): A read of OSC_SIG_STATUS captures the selected signal view. -/
  | oscSigStatusRead (t : Nat) (i : Iface)
  /-- OSC_TRK_STATUS_READ (R471): A read of OSC_TRK[t]_STATUS captures the estimates and pins the mode shape. -/
  | oscTrkStatusRead (t : Nat) (i : Iface) (tr : Nat)
  /-- SHAPE_PART_READ (R469): A read of SHAPE_PART returns the participation and advances SHAPE_SEL. -/
  | shapePartRead (t : Nat) (i : Iface) (tr : Nat)
  /-- ISL_UNLATCH (R489): A write to ISL_UNLATCH unlatches a latched group at the next boundary, or is counted as ignored. -/
  | islUnlatch (t : Nat) (i : Iface) (data : Word)
  /-- HOST_CMD_TRIP (R497): ISL_HOST_CMD OP TRIP sets a host TRIP demand for a command group. -/
  | hostCmdTrip (t : Nat) (i : Iface) (data : Word)
  /-- HOST_CMD_CURTAIL (R497): ISL_HOST_CMD OP CURTAIL sets a host CURTAIL demand with a setpoint. -/
  | hostCmdCurtail (t : Nat) (i : Iface) (data : Word)
  /-- HOST_CMD_HOLD (R497): ISL_HOST_CMD OP HOLD sets a host HOLD demand. -/
  | hostCmdHold (t : Nat) (i : Iface) (data : Word)
  /-- HOST_CMD_CLEAR (R497): ISL_HOST_CMD OP CLEAR removes the host demand. -/
  | hostCmdClear (t : Nat) (i : Iface) (data : Word)
  /-- HOST_CMD_RELEASE (R498): ISL_HOST_CMD OP RELEASE emits RELEASE when the demand set is empty. -/
  | hostCmdRelease (t : Nat) (i : Iface) (data : Word)
  /-- COMMAND_REPEAT (R504): A scale command is resent identically after REP_INT ms, up to REPEAT sends. -/
  | commandRepeat (t : Nat) (c : Nat)
  /-- CMD_ACK_END (R514): After ACK_WB wingbeats, CMD_ACK is written with the acknowledgement counts. -/
  | cmdAckEnd (t : Nat) (c : Nat)
  /-- ISL_GRP_STATUS_READ (R518): A read of ISL_GRP_STATUS captures the selected group view. -/
  | islGrpStatusRead (t : Nat) (i : Iface)
  /-- ISL_CG_STATUS_READ (R519): A read of ISL_CG[c]_STATUS captures LAST_SEQ, UNACK and SENT_CNT. -/
  | islCgStatusRead (t : Nat) (i : Iface) (c : Nat)
  /-- ITEM_COMPLETE (R530): A work item completes on a core, yielding its outputs and completion, and the core takes the next item. -/
  | itemComplete (t : Nat) (w core cycles status : Nat)
  /-- AFFINITY_PATIENCE_END (R544): An affinity item waiting SCH_PATIENCE µs goes to the lowest idle core. -/
  | affinityPatienceEnd (t : Nat) (w id : Nat)
  /-- TCP_TIMER (R527): A stream connection timer event runs K_TCP. -/
  | tcpTimer (t : Nat) (c : Nat)
  /-- NECTAR_TICK (R546): Every 100 µs the nectar bucket updates and the level may change. -/
  | nectarTick (t : Nat) (power : Nat) (temps : List Int)
  /-- WEAR_SECOND (R554): Each powered second adds to HOURS and EQ of each wing die. -/
  | wearSecond (t : Nat) (temps : List Int)
  /-- WEAR_HOUR (R556): The hourly ledger write adjusts the wear cap by AHEAD. -/
  | wearHour (t : Nat)
  /-- TJ_MAX (R550): A die reaching 105 °C sets TJ_MAX and slows or holds work. -/
  | tjMax (t : Nat) (sensor : Nat) (temp : Int)
  /-- QUEUE_PUSH (R570): An item's first word is admitted or dropped whole at a queue. -/
  | queuePush (t : Nat) (w q : Nat) (head : Option (Nat × Nat × Option Nat)) (words : List (BitVec 64))
  /-- QUEUE_POP (R571): A consumer pops an item, returning a credit in credit mode. -/
  | queuePop (t : Nat) (w q n ce : Nat) (ue : Bool)
  /-- QUEUE_FLUSH (R579): QUE_CMD FLUSH discards every item of a queue, or is refused. -/
  | queueFlush (t : Nat) (i : Iface) (data : Word)
  /-- QUEUE_DROP_REM (R578): QUE_CMD DROP_REM discards the unread remainder of the head item. -/
  | queueDropRem (t : Nat) (i : Iface) (data : Word)
  /-- SCRUB_PASS (R585): The scrubber reads and corrects all queue memory every 100 ms. -/
  | scrubPass (t : Nat) (w : Nat) (ces : List Nat) (ues : List (Nat × Nat))
  /-- VIRTUAL_SERVICE_TICK (R575): Every VSERV ns the virtual depth falls by one. -/
  | virtualServiceTick (t : Nat) (q : Nat)
  /-- DI_CHANGE (R596): A DI input that holds a new level for DEBOUNCE ticks changes on the event bus. -/
  | diChange (t : Nat) (mask levels : Nat)
  /-- HOLDOFF_END (R603): A pattern unit's holdoff expires. -/
  | holdoffEnd (t : Nat) (u : Nat)
  /-- DI_MISMATCH (R597): When the standby's and the shared DI value differ for over 1 ms, a mismatch is counted. -/
  | diMismatch (t : Nat) (n : Nat)
  /-- ACQ_ENTRY_COPY (R610): A chosen entry is copied to the host ring when it has room and passes the gate. -/
  | acqEntryCopy (t : Nat)
  /-- CAPTURE_RESUME (R614): Capture resumes below ACQ_RESUME_MB with a gap record. -/
  | captureResume (t : Nat)
  /-- WAVE_BLOCK (R615): A wave group gathers a full block and hands it to compression. -/
  | waveBlock (t : Nat) (g : Nat)
  /-- ACQ_RING_TAIL_WRITE (R611): A write of ACQ_RING_TAIL is applied on both wings at the next flutter boundary. -/
  | acqRingTailWrite (t : Nat) (i : Iface) (data : Word)
  /-- CMP_JOB_TAKE (R650): A host compression descriptor is taken when the completion ring has room. -/
  | cmpJobTake (t : Nat)
  /-- CMP_JOB_DONE (R639): A compression or decompression job ends with its STATUS, and the engine takes the next job. -/
  | cmpJobDone (t : Nat) (w e : Nat) (verifyOk dmaOk : Bool)
  /-- CMP_COMPLETION_WRITE (R652): A completion entry is written in SQ_INDEX order through the claim gate. -/
  | cmpCompletionWrite (t : Nat)
  /-- REC_INTAKE_TAKE (R662): The active wing takes a record from intake and assigns its SEQ. -/
  | recIntakeTake (t : Nat)
  /-- REC_READABLE (R665): Once both mirrored copies are written, a record passes the gate and becomes readable. -/
  | recReadable (t : Nat)
  /-- KEEP_RING_WRITE (R670): A KEEP record is written to both keep-ring copies. -/
  | keepRingWrite (t : Nat) (okA okB : Bool)
  /-- KEEP_BUDGET_REFILL (R671): The keep budget refills at KEEP_RATE records per second. -/
  | keepBudgetRefill (t : Nat)
  /-- REC_MIRROR_TIMEOUT (R667): A standby record unmatched by a mirror for 10 ms is discarded. -/
  | recMirrorTimeout (t : Nat)
  /-- REC_RP_STATUS_READ (R675): A read of REC_RP[i]_STATUS captures the record at the cursor, with OK, NOT_YET or STALE. -/
  | recRpStatusRead (t : Nat) (i : Iface) (p : Nat)
  /-- REC_RP_CONSUME (R675): A read of REC_RP[i]_CONSUME captures the record and advances the cursor on OK. -/
  | recRpConsume (t : Nat) (i : Iface) (p : Nat)
  /-- REC_CURSOR_WRITE (R680): A write to REC_RP[i]_CUR_HI applies both halves of the cursor. -/
  | recCursorWrite (t : Nat) (i : Iface) (p : Nat) (data : Word)
  /-- REC_QUOTA_WRITE (R679): A quota write is applied, or refused when the quotas would exceed 128 MiB. -/
  | recQuotaWrite (t : Nat) (i : Iface) (p : Nat) (data : Word)
  /-- KEY_INSTALL (R694): A submitted INSTALL message is checked and its key stored in a slot. -/
  | keyInstall (t : Nat) (i : Iface) (data : Word)
  /-- KEY_DELETE (R694): A submitted DELETE message is checked and its slot emptied. -/
  | keyDelete (t : Nat) (i : Iface) (data : Word)
  /-- KEY_AUTHORITY (R691): A submitted AUTHORITY message loads or rotates an owner authority. -/
  | keyAuthority (t : Nat) (i : Iface) (data : Word)
  /-- KEY_OWN (R690): A submitted OWN message writes the owner hashes to a blank module in pupa. -/
  | keyOwn (t : Nat) (i : Iface) (data : Word)
  /-- KEY_MSG_CLEAR (R707): A write of CLEAR to KEY_MSG_CTL zeroes KEY_MSG_DATA. -/
  | keyMsgClear (t : Nat) (i : Iface) (data : Word)
  /-- KEY_STORE_DONE (R696): An accepted key message has both copies stored and RESULT reads ACCEPTED. -/
  | keyStoreDone (t : Nat) (okA okB : Bool)
  /-- KEY_SLOT_INFO_READ (R708): A read of KEY_SLOT_INFO captures the selected slot view. -/
  | keySlotInfoRead (t : Nat) (i : Iface)
  /-- WING_HEARTBEAT (R717): Every 100 µs each wing sends a heartbeat over the link and through the arbiter. -/
  | wingHeartbeat (t : Nat) (w : Nat) (link arb : Bool)
  /-- HEARTBEAT_MISS (R717): A heartbeat not received 20 µs after its tick is missed, and three misses declare a failure or a fault. -/
  | heartbeatMiss (t : Nat) (w : Nat) (link arb : Bool)
  /-- TAKEOVER (R723): At the takeover instant the new active unit claims and continues outputs, time and rings. -/
  | takeover (t : Nat)
  /-- DIGEST_ATTRIBUTION (R721): The mismatch tests end and fault the failing wing, or the standby. -/
  | digestAttribution (t : Nat) (fail0 fail1 : Bool)
  /-- OZNIS_HEARTBEAT (R742): An Oznis heartbeat frame is sent or received on a lane every 250 µs. -/
  | oznisHeartbeat (t : Nat) (l : Nat) (rx : Option (List Byte)) (peerOk : Bool)
  /-- OZNIS_HEARTBEAT_MISS (R742): Late Oznis heartbeats take a lane or the link down. -/
  | oznisHeartbeatMiss (t : Nat) (l : Nat)
  /-- OZNIS_RETRANSMIT (R742): An unacknowledged Oznis data frame is resent on the other lane after 20 µs. -/
  | oznisRetransmit (t : Nat) (linkSeq : Nat)
  /-- OUTPUT_FRAME (R729): The standby twin receives a mirrored output and acknowledges it. -/
  | outputFrame (t : Nat) (l : Nat) (bytes : List Byte)
  /-- OUTPUT_ACK (R729): The active twin receives OUTPUT_ACK and passes the output. -/
  | outputAck (t : Nat) (l : Nat) (bytes : List Byte)
  /-- OUTPUT_ACK_TIMEOUT (R729): No acknowledgement within 20 µs: the output passes and TWIN_CURRENT clears. -/
  | outputAckTimeout (t : Nat) (linkSeq : Nat)
  /-- REPORT_FRAME (R728): A forwarded accepted record is placed in the standby twin's roost. -/
  | reportFrame (t : Nat) (l : Nat) (bytes : List Byte)
  /-- RESYNC_FRAME (R739): A state-stream frame is taken in during resynchronisation. -/
  | resyncFrame (t : Nat) (prog : Nat)
  /-- HEALTH_FRAME (R744): An Oznis HEALTH frame carries the twin's health report. -/
  | healthFrame (t : Nat) (l : Nat) (bytes : List Byte)
  /-- TXN_PREPARE (R737): The standby twin validates a PREPARE and answers ACK or NAK. -/
  | txnPrepare (t : Nat) (l : Nat) (bytes : List Byte) (elems : List (Nat × List Byte)) (rootsOk : Bool)
  /-- TXN_ACK (R799): An ACK from the twin schedules the commit. -/
  | txnAck (t : Nat) (l : Nat) (bytes : List Byte)
  /-- TXN_NAK (R799): A NAK from the twin refuses the commit as TWIN_NAK. -/
  | txnNak (t : Nat) (l : Nat) (bytes : List Byte)
  /-- TWIN_PREPARE_TIMEOUT (R799): No answer to PREPARE within 50 ms refuses the commit. -/
  | twinPrepareTimeout (t : Nat)
  /-- BEACON_SEND (R733): The active twin sends a signed claim beacon every 1 ms and at each claim change. -/
  | beaconSend (t : Nat)
  /-- BEACON_RECEIVED (R734): A received beacon is verified, and a higher claim makes an active unit stand down. -/
  | beaconReceived (t : Nat) (payload : List Byte)
  /-- TWIN_B_CLAIM_WAIT (R736): Twin B claims when 20 ms after its RUN pass with no sign of twin A. -/
  | twinBClaimWait (t : Nat)
  /-- WING_REPAIR (R738): A write of REPAIR to WNG_CTL resets the faulted wing die and runs its SELFTEST. -/
  | wingRepair (t : Nat) (i : Iface) (data : Word)
  /-- WING_SWITCH (R740): A write of SWITCH to WNG_CTL orders a takeover at the next boundary when the standby is redundant. -/
  | wingSwitch (t : Nat) (i : Iface) (data : Word)
  /-- RESYNC_CONVERGE (R739): A resynchronising unit converges and becomes STANDBY. -/
  | resyncConverge (t : Nat) (w : Nat) (twin : Bool)
  /-- SELFTEST_SLICE (R741): Each second the standby runs one self-test slice and publishes HEALTH. -/
  | selftestSlice (t : Nat) (failed : Bool)
  /-- WNG_OUT_STATUS_READ (R750): A read of WNG_OUT_STATUS captures the selected output sequence. -/
  | wngOutStatusRead (t : Nat) (i : Iface)
  /-- CLOCK_LOSS (R761): The clock monitor detects a failed clock, which faults a wing or enters SAFE. -/
  | clockLoss (t : Nat) (w0 w1 : Bool)
  /-- SAF_CLEAR (R757): A write of 1 to SAF_CLEAR ends forcing of objects whose cause is gone. -/
  | safClear (t : Nat) (i : Iface) (data : Word)
  /-- PROOF_START (R774): A write of START to SAF_PROOF_CTL releases a safety pin for PULSE µs, or is refused. -/
  | proofStart (t : Nat) (i : Iface) (data : Word)
  /-- PROOF_SAMPLE (R774): The proof readback is sampled after release and after restore, and the result is stored. -/
  | proofSample (t : Nat) (level : Bool)
  /-- TXN_BEGIN (R799): TXN_CMD BEGIN opens a transaction, or resumes a restored one. -/
  | txnBegin (t : Nat) (i : Iface) (data : Word)
  /-- TXN_COMMIT (R799): TXN_CMD COMMIT starts validation, or is refused. -/
  | txnCommit (t : Nat) (i : Iface) (data : Word)
  /-- TXN_ROLLBACK (R799): TXN_CMD ROLLBACK discards the shadows and the staging. -/
  | txnRollback (t : Nat) (i : Iface) (data : Word)
  /-- TXN_LOAD_IMAGE (R813): TXN_CMD LOAD_IMAGE stages an image from host memory. -/
  | txnLoadImage (t : Nat) (i : Iface) (data : Word)
  /-- TXN_CLEAR_STAGING (R814): TXN_CMD CLEAR_STAGING empties the staging area. -/
  | txnClearStaging (t : Nat) (i : Iface) (data : Word)
  /-- TXN_CONFIRM (R809): TXN_CMD CONFIRM ends probation and confirms the slot. -/
  | txnConfirm (t : Nat) (i : Iface) (data : Word)
  /-- TXN_REVERT (R809): TXN_CMD REVERT returns to the other slot, or is refused as NO_PREVIOUS. -/
  | txnRevert (t : Nat) (i : Iface) (data : Word)
  /-- TXN_LOAD_RESET (R796): TXN_CMD LOAD_RESET stores a full image and resets the wings into pupa. -/
  | txnLoadReset (t : Nat) (i : Iface) (data : Word)
  /-- TXN_BAD_OP (R814): An undefined TXN_CMD OP is refused as BAD_OP. -/
  | txnBadOp (t : Nat) (i : Iface) (data : Word)
  /-- TXN_IMG_WDATA (R798): A write to TXN_IMG_WDATA appends four bytes to staging, or is refused as TOO_LARGE. -/
  | txnImgWdata (t : Nat) (i : Iface) (data : Word)
  /-- TXN_TIMEOUT_EXPIRY (R799): An open transaction idle for TXN_TIMEOUT s is discarded. -/
  | txnTimeoutExpiry (t : Nat)
  /-- TXN_VALIDATION_DONE (R800): Validation ends, refusing with a code or starting the store. -/
  | txnValidationDone (t : Nat)
  /-- TXN_STORE_DONE (R802): The store of the new slot ends and the commit is scheduled, prepared or refused. -/
  | txnStoreDone (t : Nat) (ok : Bool)
  /-- PROBATION_END (R809): When probation has run TXN_PROBATION wingbeats, the slot is CONFIRMED. -/
  | probationEnd (t : Nat)
  /-- HOST_RING_TAKE (R833): The active wing takes a host ring descriptor when credit, room and limit allow. -/
  | hostRingTake (t : Nat) (r : Nat)
  /-- HOST_RING_ACK (R834): After the argument is copied to both wings, SQ_ACK advances and the submission is accepted. -/
  | hostRingAck (t : Nat) (r : Nat)
  /-- HOST_RING_COMPLETION (R836): A completion entry is written in SQ_INDEX order through the claim gate. -/
  | hostRingCompletion (t : Nat) (r : Nat)
  /-- HOST_RING_ENABLE (R838): A write to GLB_HR[r]_CTL.EN starts or stops the taking of descriptors. -/
  | hostRingEnable (t : Nat) (i : Iface) (r : Nat) (data : Word)
  /-- PORT_LOOP_OFF (R876): TST_PORT[p]_CTL MODE 0 ends a port loop-back. -/
  | portLoopOff (t : Nat) (i : Iface) (p : Nat) (data : Word)
  /-- PORT_LOOP_MAC (R876): MODE 1 requests a MAC loop-back on a port. -/
  | portLoopMac (t : Nat) (i : Iface) (p : Nat) (data : Word)
  /-- PORT_LOOP_PCS (R876): MODE 2 requests a PCS loop-back on an F or M port. -/
  | portLoopPcs (t : Nat) (i : Iface) (p : Nat) (data : Word)
  /-- PORT_LOOP_PMA (R876): MODE 3 requests a near-end PMA loop-back. -/
  | portLoopPma (t : Nat) (i : Iface) (p : Nat) (data : Word)
  /-- PORT_LOOP_REMOTE (R876): MODE 4 requests a remote loop-back toward the partner. -/
  | portLoopRemote (t : Nat) (i : Iface) (p : Nat) (data : Word)
  /-- PORT_LOOP_T1S_ANALOG (R876): MODE 5 requests an analogue loop-back inside a T port PHY. -/
  | portLoopT1sAnalog (t : Nat) (i : Iface) (p : Nat) (data : Word)
  /-- PORT_LOOP_GENERATE (R878): START sends COUNT pattern frames of LEN bytes. -/
  | portLoopGenerate (t : Nat) (i : Iface) (p : Nat) (data : Word)
  /-- LOOP_DONE (R879): 1 ms after the last frame DONE and PASS are set and TST_RESULT is written. -/
  | loopDone (t : Nat) (p : Nat)
  /-- LOOP_TIMEOUT (R872): A loop-back ends itself after TST_TIMEOUT seconds. -/
  | loopTimeout (t : Nat) (kind idx : Nat)
  /-- QUAD_LOOP_OFF (R880): TST_Q[q]_CTL MODE 0 ends a quadrant test. -/
  | quadLoopOff (t : Nat) (i : Iface) (q : Nat) (data : Word)
  /-- QUAD_TONE (R880): MODE 1 injects the test tone at the input node. -/
  | quadTone (t : Nat) (i : Iface) (q : Nat) (data : Word)
  /-- QUAD_REF_POS (R880): MODE 2 drives +1.6 V from the reference. -/
  | quadRefPos (t : Nat) (i : Iface) (q : Nat) (data : Word)
  /-- QUAD_REF_NEG (R880): MODE 3 drives −1.6 V from the reference. -/
  | quadRefNeg (t : Nat) (i : Iface) (q : Nat) (data : Word)
  /-- QUAD_BITSTREAM (R880): MODE 4 replaces the modulator output with a coded tone. -/
  | quadBitstream (t : Nat) (i : Iface) (q : Nat) (data : Word)
  /-- QUAD_SYNTH (R880): MODE 5 replaces resampled samples with the computed tone. -/
  | quadSynth (t : Nat) (i : Iface) (q : Nat) (data : Word)
  /-- OZ_LOOP_OFF (R884): TST_OZ[l]_CTL MODE 0 ends a lane loop-back. -/
  | ozLoopOff (t : Nat) (i : Iface) (l : Nat) (data : Word)
  /-- OZ_LOOP_SERIAL (R884): MODE 1 loops an Oznis lane from serialiser to deserialiser. -/
  | ozLoopSerial (t : Nat) (i : Iface) (l : Nat) (data : Word)
  /-- OZ_LOOP_FRAMING (R884): MODE 2 loops an Oznis lane at the framing layer. -/
  | ozLoopFraming (t : Nat) (i : Iface) (l : Nat) (data : Word)
  /-- PCIE_LOOP (R886): TST_PCIE_LB.EN, written through SPI, loops the PCIe PCS and checks a pattern. -/
  | pcieLoop (t : Nat) (i : Iface) (data : Word) (errs : Nat)
  /-- PPS_LOOP (R887): TST_PPS_CTL.EN starts a PPS_OUT to PPS_IN loop, or is refused as IN_USE. -/
  | ppsLoop (t : Nat) (i : Iface) (data : Word)
  /-- PROD_MODE_WRITE (R875): A write to TST_CTL.PROD_MODE sets it only under DEBUG_EN. -/
  | prodModeWrite (t : Nat) (i : Iface) (data : Word)
  /-- PDELAY_REQ_SEND (R87): At its peer-delay request interval each port with a PTP role sends Pdelay_Req to measure the path delay. -/
  | pdelayReqSend (t : Nat) (p : Nat)
  /-- PLCA_STATUS_UP (R324): A T port whose PLCA status was false regains it, for example when a follower receives the BEACON again, and it leaves CSMA/CD. -/
  | plcaStatusUp (t : Nat) (p : Nat)
  /-- D3HOT_EXIT (R821): The host returns the endpoint from D3hot to D0, after which messages, DMA and the host rings resume. -/
  | d3hotExit (t : Nat)
  /-- PCIE_LINK_UP (R820): PCIe link training completes, GLB_PCIE_STATUS shows the link up, and host access and ring DMA become possible again. -/
  | pcieLinkUp (t : Nat) (speed width : Nat)
  /-- PCIE_LOOPBACK_SLAVE (R886): The host root port directs the endpoint into the Loopback state, where it acts as loopback slave and TST_PCIE_STATUS shows this. -/
  | pcieLoopbackSlave (t : Nat)
  /-- LOCKSTEP_MISMATCH (R523): The lockstep comparison of a supervisor pair finds a mismatch, which is a wing fault. -/
  | lockstepMismatch (t : Nat) (w : Nat)
  /-- JOURNAL_DRAM_UE (R718): An uncorrectable DRAM error in a journal region faults its wing. -/
  | journalDramUe (t : Nat) (w : Nat)
  /-- WING_SELFTEST_DONE (R738): The SELFTEST of a repaired wing die ends, and the wing enters RESYNC or stays FAULTED with a UNIT_FAULT record. -/
  | wingSelftestDone (t : Nat) (w : Nat) (pass : Bool)
  /-- PROOF_DUE (R775): A safety pin's stored proof becomes older than SAF_PROOF_INT days, which sets SAF_STATUS.PROOF_DUE and raises its interrupt. -/
  | proofDue (t : Nat)
  deriving DecidableEq, Repr

end Sys2Proof
end

