-- ==== Sys2Proof/Decode.lean ====
section
/-! DEFINITION. Sys2Proof/Decode.lean: commands from words. The operation table gives no row any bits: a command reaches the block over its buses, its links
and its pins, not as a word, so no word spells one. -/

namespace Sys2Proof

/-- The command that a word of the operation table spells: none, since no row of the table has bits. (DESIGN CHOICE: notes/assumptions/1) -/
def decodeTableWord (_nbits _w : Nat) : Option Instr := none

end Sys2Proof
end

