-- ==== Sys2Proof/Config.lean ====
section
/-! DEFINITION. Sys2Proof/Config.lean: what the spec leaves open or names by an outside standard without stating its result.
Every constant here is opaque: it has no body that a proof could see, and a statement holds whatever it is. -/

namespace Sys2Proof.Config

/-- A fresh free value for each count of the state's counter `freeCtr`. (DESIGN CHOICE: notes/assumptions/149) -/
opaque freeNat : Nat → Nat

/-- What a count register holds after its largest value, where the spec states neither wrapping nor saturation, by address. (DESIGN CHOICE: notes/assumptions/15) -/
opaque countPast : Nat → Word

/-- Whether the quotient a / b that lies half way between two codes takes the one further from zero (R11 names the nearest and settles
no tie). (DESIGN CHOICE: notes/assumptions/40) -/
opaque tieUp : Int → Nat → Bool

/-- What a single-precision field that holds an infinity or a NaN counts as, m × 2^e by its word (R367, R410). (DESIGN CHOICE: notes/assumptions/65) -/
opaque f32Bad : Nat → Int × Int

/-! Cryptography, named by standard (SHA-256, ECDSA P-256, AES-GMAC, AES-CMAC, AES-KW, the derivation of R353 and R500). -/

/-- SHA-256 of a byte string (R782, R789), 32 bytes. -/
opaque sha256Of : Bytes → Vector Byte 32
def sha256 (b : Bytes) : Bytes := (sha256Of b).toList
/-- Does an ECDSA P-256 signature verify: public key, hash, signature (R782, R694)? (PRESUMED: notes/assumptions/19) -/
opaque ecdsaVerify : Bytes → Bytes → Bytes → Bool
/-- AES-GMAC: key, initialisation vector, additional data; the 16-byte tag (R350, R501, R733). (PRESUMED: notes/assumptions/19) -/
opaque gmac : Bytes → Bytes → Bytes → Bytes
/-- AES-CMAC: key, message; the 16-byte tag (R353, R683, R689). -/
opaque cmacOf : Bytes → Bytes → Vector Byte 16
def cmac (k m : Bytes) : Bytes := (cmacOf k m).toList
/-- AES key wrapping under RFC 3394 with the default IV: key, key bytes (R684). (PRESUMED: notes/assumptions/19; DEDUCED: notes/assumptions/95) -/
opaque wrap : Bytes → Bytes → Bytes
/-- AES key unwrapping under RFC 3394: key, wrapped bytes; none when the integrity check fails (R694). (PRESUMED: notes/assumptions/19) -/
opaque unwrap : Bytes → Bytes → Option Bytes
/-- HMAC-SHA-256: key, message; the 32-byte value (R689). -/
opaque hmacOf : Bytes → Bytes → Vector Byte 32
def hmac (k m : Bytes) : Bytes := (hmacOf k m).toList
/-- The 256-bit device root of the module (R682), which nothing returns. (DESIGN CHOICE: notes/assumptions/20) -/
opaque deviceRoot : Bytes
/-- The test root of a module with DEBUG_EN (R702). (DESIGN CHOICE: notes/assumptions/20) -/
opaque testRoot : Bytes

/-! Time base. -/

/-- The increment that a domain's servo asks for: offsets of the last updates, newest first, in 2^−32 ns, and the increment (R81). (DESIGN CHOICE: notes/assumptions/21) -/
opaque servo : List Int → Nat → Nat

/-- The increment that a domain's servo asks for after a PPS edge of no known second: ticks since the edge before, and the increment (R81, R93). (DESIGN CHOICE: notes/assumptions/21) -/
opaque servoFreq : Nat → Nat → Nat
/-- By how much a source's accuracy exceeds 10 s where its code says only that it is worse, in ns (R919). (DESIGN CHOICE: notes/assumptions/166) -/
opaque accPast : Nat

/-- Bytes of an Announce message that the spec does not give: priorities, clock variance, time source (R90). (PRESUMED: notes/assumptions/23) -/
opaque ptpByte : Nat → Byte
/-- The TLVs of an Announce message of a profile (R87): true for IEEE C37.238-2017. How many bytes, of at most 128, and the bytes. (PRESUMED: notes/assumptions/158) -/
opaque ptpTlvsOf : Bool → Nat × Vector Byte 128
def ptpTlvs (p : Bool) : Bytes := (ptpTlvsOf p).2.toList.take (ptpTlvsOf p).1

/-- The receive window that a stream's TCP segments announce (R416). (PRESUMED: notes/assumptions/69) -/
opaque tcpWindow : Nat
/-- Missing wingbeats in a row after which K_SLOTSCAN writes POINT_SILENT (R527). (DESIGN CHOICE: notes/assumptions/146) -/
opaque silentAfter : Nat

/-! Signal processing whose coefficients or number formats the spec does not give. -/

/-- Fraction bits that estimates keep beyond a code or a µHz (R192, R247). (DESIGN CHOICE: notes/assumptions/22) -/
opaque fxBits : Nat
/-- Cosine and sine of an angle in 2^−32 turn, times 2^30, in the number format of the phasor engine (R248, R249). (DESIGN CHOICE: notes/assumptions/22) -/
opaque cosT : Nat → Int
opaque sinT : Nat → Int
/-- Angle of a vector (imaginary part, real part) in 2^−32 turn. (DESIGN CHOICE: notes/assumptions/22) -/
opaque atan2 : Int → Int → Nat
/-- Coefficients of the resampler's kernel by phase, 0 to 1,024, and tap, newest word first, and their fraction bits (R219). (DESIGN CHOICE: notes/assumptions/22, 193) -/
opaque kernel : Nat → Nat → Int
opaque kernelBits : Nat
/-- Codes of a decimator word per unit of the sinc filter's output, in 2^−64 (R132, R193): the ones-density at full scale is not stated. (DESIGN CHOICE: notes/assumptions/172) -/
opaque decGain : Nat
/-- The change of tracked frequency in µHz that the tracker asks for: bandwidth code, the reference's one-cycle DFT at this flutter boundary and at the one before,
frequency (R214). (DESIGN CHOICE: notes/assumptions/39, 193) -/
opaque trackStep : Nat → Int × Int → Int × Int → Nat → Int
/-- The decimator word of a delta-sigma coding of a tone, from the tone's value (R880). (DESIGN CHOICE: notes/assumptions/43) -/
opaque dsmWord : Int → Int
/-- Golomb-Rice parameters that a level tries for the mapped residues of a partition (R638), levels 1 to 8: one and what else. (DESIGN CHOICE: notes/assumptions/52) -/
opaque riceKs : Nat → List Nat → Nat × List Nat
/-- Does a lazy match give way: its length and the length one byte on (R638)? (DESIGN CHOICE: notes/assumptions/52) -/
opaque lazyYields : Nat → Nat → Bool
/-- Coefficients of the first half of the reference bank, whose second half mirrors it (R195, R196). (DESIGN CHOICE: notes/assumptions/22, 193) -/
opaque firHalf : Nat → BitVec 24
/-- Coefficient of the reference bank by tap: linear phase, with a delay of 31.5 samples. -/
def firRef (tap : Nat) : Int := (firHalf (min tap (63 - tap))).toInt
/-- The value a converter delivers where the spec does not state it. (DESIGN CHOICE: notes/assumptions/43) -/
opaque adcFree : Nat → Int

/-! The oscillation watch, whose fixed-point formats and ROM tables the spec does not give (R444 to R459). -/

/-- Fraction bits of the bank and of the trackers. (DESIGN CHOICE: notes/assumptions/77) -/
opaque oscBits : Nat
/-- exp(−a / b) times 2^32, as the engines' tables hold it (R445, R450, R554). (DESIGN CHOICE: notes/assumptions/77, 147) -/
opaque expNeg : Nat → Nat → Int
/-- A quotient as the engine's arithmetic rounds it. (DESIGN CHOICE: notes/assumptions/77) -/
opaque oscQ : Int → Int → Int
/-- A square root as the engine's arithmetic rounds it. (DESIGN CHOICE: notes/assumptions/77) -/
opaque oscRoot : Nat → Nat
/-- Eigenvalues, largest first, and the first eigenvector of a 4 × 4 matrix given by rows (R451). (DESIGN CHOICE: notes/assumptions/77) -/
opaque oscEig : List (Int × Int) → List Int × List (Int × Int)
/-- ln of an energy times 2^32, but for a term that is the same for every energy (R456). (DESIGN CHOICE: notes/assumptions/77) -/
opaque oscLn : Nat → Int

/-- Level at which K_ARCHIVE compresses (R405). (DESIGN CHOICE: notes/assumptions/127) -/
opaque arcLevel : Nat

/-- RAMP of a RELEASE, for which no register or record gives a value (R499). (DESIGN CHOICE: notes/assumptions/85) -/
opaque cmdRamp : Nat

/-- Number of the first frame of a generator, and bytes of a pattern frame on an Oznis lane (R878, R884). (DESIGN CHOICE: notes/assumptions/27) -/
opaque genFirst : Nat
opaque ozPattern : Nat

/-- The public part of the Aelaugan catalogue key in ROM (R524). (DESIGN CHOICE: notes/assumptions/148) -/
opaque catalogueKey : Bytes

/-- Words of queue memory that the device's own queues take, item words of one of them, and the first word of each queue (R568, R569, R592). The first is at most the whole memory. (PRESUMED: notes/assumptions/158) -/
opaque queDevWordsOf : Fin 1048577
def queDevWords : Nat := queDevWordsOf.val
opaque queItemWords : Nat → Nat
opaque queDevCapOf : Nat → Fin 65535
opaque queBase : Nat → Nat

end Sys2Proof.Config
end

