-- ==== Sys2Proof/Machine/RegAddr.lean ====
section
/-! DEFINITION. Sys2Proof/Machine/RegAddr.lean: the BAR0 byte address of every register of the map (R853, R856, R857),
one function of its array indices per register, named as the spec names it without the index brackets. -/

namespace Sys2Proof.Reg


/-! TIM registers (R125). -/

def TIM_CTL : Nat := 0x20000
def TIM_STATUS : Nat := 0x20004
def TIM_EPOCH : Nat := 0x20008
def TIM_SNAP : Nat := 0x2000C
def TIM_OUT_SEC_LO : Nat := 0x20010
def TIM_OUT_SEC_HI : Nat := 0x20014
def TIM_OUT_NS : Nat := 0x20018
def TIM_OUT_FRAC : Nat := 0x2001C
def TIM_ELAPSED_SEC : Nat := 0x20020
def TIM_ELAPSED_NS : Nat := 0x20024
def TIM_SLEW_MAX : Nat := 0x20030
def TIM_SWITCH_MAX_OFS : Nat := 0x20034
def TIM_SLEW_RESID : Nat := 0x20038
def TIM_LEAP_OFS : Nat := 0x20040
def TIM_LEAP_CTL : Nat := 0x20044
def TIM_PPS_OUT_CTL : Nat := 0x20048
def TIM_INT_STATUS : Nat := 0x2004C
def TIM_INT_EN : Nat := 0x20050
def TIM_DOM_CFG (d : Nat) : Nat := 0x20100 + 0x80 * d
def TIM_DOM_STATE (d : Nat) : Nat := 0x20104 + 0x80 * d
def TIM_DOM_OFS (d : Nat) : Nat := 0x20108 + 0x80 * d
def TIM_DOM_INCR_LO (d : Nat) : Nat := 0x2010C + 0x80 * d
def TIM_DOM_INCR_HI (d : Nat) : Nat := 0x20110 + 0x80 * d
def TIM_DOM_ACC (d : Nat) : Nat := 0x20114 + 0x80 * d
def TIM_DOM_HOLD_LIM (d : Nat) : Nat := 0x20118 + 0x80 * d
def TIM_DOM_LOCK_THR (d : Nat) : Nat := 0x2011C + 0x80 * d
def TIM_DOM_GM_ID_LO (d : Nat) : Nat := 0x20120 + 0x80 * d
def TIM_DOM_GM_ID_HI (d : Nat) : Nat := 0x20124 + 0x80 * d
def TIM_DOM_PATH_DLY (d : Nat) : Nat := 0x20128 + 0x80 * d
def TIM_DOM_LOSS_CNT (d : Nat) : Nat := 0x2012C + 0x80 * d
def TIM_PORT_PTP_CFG (p : Nat) : Nat := 0x20400 + 0x40 * p
def TIM_PORT_RX_LAT (p : Nat) : Nat := 0x20404 + 0x40 * p
def TIM_PORT_TX_LAT (p : Nat) : Nat := 0x20408 + 0x40 * p
def TIM_PORT_ASYM (p : Nat) : Nat := 0x2040C + 0x40 * p
def TIM_PPS_CFG (n : Nat) : Nat := 0x20600 + 0x20 * n
def TIM_PPS_TOD_LO (n : Nat) : Nat := 0x20604 + 0x20 * n
def TIM_PPS_TOD_HI (n : Nat) : Nat := 0x20608 + 0x20 * n
def TIM_PPS_TOD_ARM (n : Nat) : Nat := 0x2060C + 0x20 * n
def TIM_PPS_LAST_NS (n : Nat) : Nat := 0x20610 + 0x20 * n
def TIM_IRIG_CFG : Nat := 0x20700
def TIM_IRIG_YEAR : Nat := 0x20704
def TIM_IRIG_ERR_CNT : Nat := 0x20708

/-! CNV registers (R185). -/

def CNV_CTL : Nat := 0x40000
def CNV_STATUS : Nat := 0x40004
def CNV_CAL_CTL : Nat := 0x40008
def CNV_CAL_TIME : Nat := 0x4000C
def CNV_LP_CTL : Nat := 0x40010
def CNV_SNAP_ALL : Nat := 0x40014
def CNV_CHK_TOL_ABS : Nat := 0x40018
def CNV_CHK_TOL_REL : Nat := 0x4001C
def CNV_INT_STATUS : Nat := 0x40020
def CNV_INT_EN : Nat := 0x40024
def CNV_INVALID (i : Nat) : Nat := 0x40040 + 0x4 * i
def CNV_Q_SNAP (q : Nat) : Nat := 0x40100 + 0x20 * q
def CNV_Q_SNAP_SEQ (q : Nat) : Nat := 0x40104 + 0x20 * q
def CNV_Q_REF_MON (q : Nat) : Nat := 0x40108 + 0x20 * q
def CNV_Q_CAL_AGE (q : Nat) : Nat := 0x4010C + 0x20 * q
def CNV_CK_INJ (k : Nat) : Nat := 0x40400 + 0x40 * k
def CNV_CK_INJ_STATUS (k : Nat) : Nat := 0x40404 + 0x40 * k
def CNV_CK_RES_STATUS (k : Nat) : Nat := 0x40408 + 0x40 * k
def CNV_CK_RES_IC (k : Nat) : Nat := 0x4040C + 0x40 * k
def CNV_CK_RES_QC (k : Nat) : Nat := 0x40410 + 0x40 * k
def CNV_CK_RES_ID (k : Nat) : Nat := 0x40414 + 0x40 * k
def CNV_CK_RES_QD (k : Nat) : Nat := 0x40418 + 0x40 * k
def CNV_CK_RES_ERR (k : Nat) : Nat := 0x4041C + 0x40 * k
def CNV_CK_RES_CONSUME (k : Nat) : Nat := 0x40420 + 0x40 * k
def CNV_CK_POS (k : Nat) : Nat := 0x40424 + 0x40 * k
def CNV_CK_FAIL_CNT (k : Nat) : Nat := 0x40428 + 0x40 * k
def CNV_CH_CFG (n : Nat) : Nat := 0x41000 + 0x20 * n
def CNV_CH_STATUS (n : Nat) : Nat := 0x41004 + 0x20 * n
def CNV_CH_GAIN (n : Nat) : Nat := 0x41008 + 0x20 * n
def CNV_CH_OFS (n : Nat) : Nat := 0x4100C + 0x20 * n
def CNV_CH_GAIN_LP (n : Nat) : Nat := 0x41010 + 0x20 * n
def CNV_CH_OFS_LP (n : Nat) : Nat := 0x41014 + 0x20 * n
def CNV_CH_SNAP (n : Nat) : Nat := 0x41018 + 0x20 * n
def CNV_CH_FAIL_CNT (n : Nat) : Nat := 0x4101C + 0x20 * n

/-! FLT registers (R243). -/

def FLT_CTL : Nat := 0x80000
def FLT_STATUS : Nat := 0x80004
def FLT_DECSYNC_CNT : Nat := 0x80008
def FLT_DECSYNC_IGN_CNT : Nat := 0x8000C
def FLT_SYNC_SEC_LO : Nat := 0x80010
def FLT_SYNC_SEC_HI : Nat := 0x80014
def FLT_SYNC_NS : Nat := 0x80018
def FLT_VC_DELAY : Nat := 0x8001C
def FLT_FREEZE_MAX : Nat := 0x80020
def FLT_INT_STATUS : Nat := 0x80024
def FLT_INT_EN : Nat := 0x80028
def FLT_ERR : Nat := 0x8002C
def FLT_COEF_SEL : Nat := 0x80030
def FLT_COEF_DATA : Nat := 0x80034
def FLT_TRK_CFG : Nat := 0x80100
def FLT_TRK_ROCOF_MAX : Nat := 0x80104
def FLT_TRK_MIN_AMP : Nat := 0x80108
def FLT_TRK_HOLD_LIM : Nat := 0x8010C
def FLT_TRK_STATUS : Nat := 0x80110
def FLT_TRK_FREQ : Nat := 0x80114
def FLT_TRK_SWITCH_CNT : Nat := 0x80118
def FLT_TRK_REF (i : Nat) : Nat := 0x80120 + 0x4 * i
def FLT_VC_CFG (v : Nat) : Nat := 0x80800 + 0x20 * v
def FLT_VC_SCALE (v : Nat) : Nat := 0x80804 + 0x20 * v
def FLT_VC_STATUS (v : Nat) : Nat := 0x80808 + 0x20 * v
def FLT_VC_MISS_CNT (v : Nat) : Nat := 0x8080C + 0x20 * v
def FLT_CH_CFG (n : Nat) : Nat := 0x81000 + 0x40 * n
def FLT_CH_STATUS (n : Nat) : Nat := 0x81004 + 0x40 * n
def FLT_CH_XF_LEN (n : Nat) : Nat := 0x81008 + 0x40 * n
def FLT_CH_SWAP (n : Nat) : Nat := 0x8100C + 0x40 * n
def FLT_CH_PHASE_DLY (n : Nat) : Nat := 0x81010 + 0x40 * n
def FLT_CH_FREEZE_CFG (n : Nat) : Nat := 0x81014 + 0x40 * n
def FLT_CH_FREEZE_CTL (n : Nat) : Nat := 0x81018 + 0x40 * n
def FLT_CH_DC_EST (n : Nat) : Nat := 0x8101C + 0x40 * n
def FLT_CH_GD (n : Nat) : Nat := 0x81020 + 0x40 * n
def FLT_CH_MEAN (n : Nat) : Nat := 0x81024 + 0x40 * n
def FLT_CH_RMS (n : Nat) : Nat := 0x81028 + 0x40 * n
def FLT_THR_CFG (n : Nat) (u : Nat) : Nat := 0x88000 + 0x40 * n + 0x10 * u
def FLT_THR_LEVEL (n : Nat) (u : Nat) : Nat := 0x88004 + 0x40 * n + 0x10 * u
def FLT_THR_HYST (n : Nat) (u : Nat) : Nat := 0x88008 + 0x40 * n + 0x10 * u
def FLT_THR_MIN_DUR (n : Nat) (u : Nat) : Nat := 0x8800C + 0x40 * n + 0x10 * u

/-! PHS registers (R282). -/

def PHS_CTL : Nat := 0xC0000
def PHS_STATUS : Nat := 0xC0004
def PHS_INT_STATUS : Nat := 0xC0008
def PHS_INT_EN : Nat := 0xC000C
def PHS_DET_ACTIVE (i : Nat) : Nat := 0xC0010 + 0x4 * i
def PHS_AO_UNLATCH : Nat := 0xC0020
def PHS_AO_SRC_LO (a : Nat) : Nat := 0xC0100 + 0x10 * a
def PHS_AO_SRC_HI (a : Nat) : Nat := 0xC0104 + 0x10 * a
def PHS_AO_CFG (a : Nat) : Nat := 0xC0108 + 0x10 * a
def PHS_AO_STATUS (a : Nat) : Nat := 0xC010C + 0x10 * a
def PHS_DET_CFG (d : Nat) : Nat := 0xC0800 + 0x20 * d
def PHS_DET_LEVEL (d : Nat) : Nat := 0xC0804 + 0x20 * d
def PHS_DET_HYST (d : Nat) : Nat := 0xC0808 + 0x20 * d
def PHS_DET_AUX (d : Nat) : Nat := 0xC080C + 0x20 * d
def PHS_DET_STATUS (d : Nat) : Nat := 0xC0810 + 0x20 * d
def PHS_DET_VALUE (d : Nat) : Nat := 0xC0814 + 0x20 * d
def PHS_DET_ON_CNT (d : Nat) : Nat := 0xC0818 + 0x20 * d
def PHS_CH_CFG (n : Nat) : Nat := 0xC2000 + 0x40 * n
def PHS_CH_SCALE (n : Nat) : Nat := 0xC2004 + 0x40 * n
def PHS_CH_STATUS (n : Nat) : Nat := 0xC2008 + 0x40 * n
def PHS_CH_MAG (n : Nat) : Nat := 0xC200C + 0x40 * n
def PHS_CH_ANG (n : Nat) : Nat := 0xC2010 + 0x40 * n
def PHS_CH_FREQ (n : Nat) : Nat := 0xC2014 + 0x40 * n
def PHS_CH_ROCOF (n : Nat) : Nat := 0xC2018 + 0x40 * n
def PHS_CH_RPT_SEC (n : Nat) : Nat := 0xC201C + 0x40 * n
def PHS_CH_RPT_NS (n : Nat) : Nat := 0xC2020 + 0x40 * n
def PHS_CH_QUAL (n : Nat) : Nat := 0xC2024 + 0x40 * n
def PHS_CH_SSW_PEAK (n : Nat) : Nat := 0xC2028 + 0x40 * n
def PHS_CH_SSW_FREQ (n : Nat) : Nat := 0xC202C + 0x40 * n

/-! NET registers (R330). -/

def NET_PORT_CFG (p : Nat) : Nat := 0x100000 + 0x1000 * p
def NET_PORT_STATUS (p : Nat) : Nat := 0x100004 + 0x1000 * p
def NET_PORT_MAX_FRM (p : Nat) : Nat := 0x100008 + 0x1000 * p
def NET_PORT_MAC_LO (p : Nat) : Nat := 0x10000C + 0x1000 * p
def NET_PORT_MAC_HI (p : Nat) : Nat := 0x100010 + 0x1000 * p
def NET_PORT_PAUSE_CFG (p : Nat) : Nat := 0x100014 + 0x1000 * p
def NET_PORT_EEE_CFG (p : Nat) : Nat := 0x100018 + 0x1000 * p
def NET_PORT_PLCA_CFG (p : Nat) : Nat := 0x10001C + 0x1000 * p
def NET_PORT_INT_STATUS (p : Nat) : Nat := 0x100020 + 0x1000 * p
def NET_PORT_INT_EN (p : Nat) : Nat := 0x100024 + 0x1000 * p
def NET_PORT_MCAST_SEL (p : Nat) : Nat := 0x100028 + 0x1000 * p
def NET_PORT_MCAST_LO (p : Nat) : Nat := 0x10002C + 0x1000 * p
def NET_PORT_MCAST_HI (p : Nat) : Nat := 0x100030 + 0x1000 * p
def NET_PORT_RX_OCT_LO (p : Nat) : Nat := 0x100100 + 0x1000 * p
def NET_PORT_RX_OCT_HI (p : Nat) : Nat := 0x100104 + 0x1000 * p
def NET_PORT_RX_FRM (p : Nat) : Nat := 0x100108 + 0x1000 * p
def NET_PORT_RX_RUNT (p : Nat) : Nat := 0x10010C + 0x1000 * p
def NET_PORT_RX_OVERSIZE (p : Nat) : Nat := 0x100110 + 0x1000 * p
def NET_PORT_RX_FCS_ERR (p : Nat) : Nat := 0x100114 + 0x1000 * p
def NET_PORT_RX_OVF_DROP (p : Nat) : Nat := 0x100118 + 0x1000 * p
def NET_PORT_RX_PAUSE (p : Nat) : Nat := 0x10011C + 0x1000 * p
def NET_PORT_RX_PFC_DROP (p : Nat) : Nat := 0x100120 + 0x1000 * p
def NET_PORT_RX_FILTER_DROP (p : Nat) : Nat := 0x100124 + 0x1000 * p
def NET_PORT_TX_OCT_LO (p : Nat) : Nat := 0x100128 + 0x1000 * p
def NET_PORT_TX_OCT_HI (p : Nat) : Nat := 0x10012C + 0x1000 * p
def NET_PORT_TX_FRM (p : Nat) : Nat := 0x100130 + 0x1000 * p
def NET_PORT_TX_REFUSED (p : Nat) : Nat := 0x100134 + 0x1000 * p
def NET_PORT_TX_PAUSED_US (p : Nat) : Nat := 0x100138 + 0x1000 * p
def NET_PORT_PAUSE_WD_CNT (p : Nat) : Nat := 0x10013C + 0x1000 * p
def NET_PORT_COLL (p : Nat) : Nat := 0x100140 + 0x1000 * p
def NET_PORT_LATE_COLL (p : Nat) : Nat := 0x100144 + 0x1000 * p
def NET_PORT_EXCESS_COLL (p : Nat) : Nat := 0x100148 + 0x1000 * p
def NET_PORT_LPI_ENTRY (p : Nat) : Nat := 0x10014C + 0x1000 * p
def NET_PORT_LPI_US (p : Nat) : Nat := 0x100150 + 0x1000 * p
def NET_PORT_LINK_DOWN_CNT (p : Nat) : Nat := 0x100154 + 0x1000 * p
def NET_PORT_TX_SEG_JOBS (p : Nat) : Nat := 0x100158 + 0x1000 * p
def NET_CTL : Nat := 0x108000
def NET_PRP_AGE : Nat := 0x108004
def NET_PRP_ENTRIES : Nat := 0x108008
def NET_PRP_DUP_CNT : Nat := 0x10800C
def NET_PRP_WRONG_LAN_CNT : Nat := 0x108010
def NET_PRP_EVICT_CNT : Nat := 0x108014
def NET_PRP_OLD_CNT : Nat := 0x108018
def NET_PRP_TX_SEQ_F : Nat := 0x10801C
def NET_PRP_TX_SEQ_M : Nat := 0x108020

/-! ING registers (R380). -/

def ING_CFG : Nat := 0x180000
def ING_STATUS : Nat := 0x180004
def ING_SR_UDP_PORT : Nat := 0x180008
def ING_C37_UDP_PORT : Nat := 0x18000C
def ING_TX_BASE : Nat := 0x180010
def ING_FUTURE_TOL : Nat := 0x180014
def ING_C37_TOL : Nat := 0x180018
def ING_INT_STATUS : Nat := 0x18001C
def ING_INT_EN : Nat := 0x180020
def ING_ACC_CNT_LO : Nat := 0x180024
def ING_ACC_CNT_HI : Nat := 0x180028
def ING_CAM_USED : Nat := 0x18002C
def ING_PT_SEL : Nat := 0x180030
def ING_PT_DATA (i : Nat) : Nat := 0x180040 + 0x4 * i
def ING_LOOKUP_ID_LO : Nat := 0x180060
def ING_LOOKUP_ID_HI : Nat := 0x180064
def ING_LOOKUP_RES : Nat := 0x180068
def ING_C37_SEL : Nat := 0x180070
def ING_C37_STATUS : Nat := 0x180074
def ING_C37_IDCODE : Nat := 0x180078
def ING_C37_FRM_CNT : Nat := 0x18007C
def ING_DROP_CNT (c : Nat) : Nat := 0x180080 + 0x4 * c
def ING_PORT_IPV4 (p : Nat) : Nat := 0x180100 + 0x10 * p
def ING_PORT_TRUST (p : Nat) : Nat := 0x180104 + 0x10 * p
def ING_PORT_RX_CNT (p : Nat) : Nat := 0x180108 + 0x10 * p
def ING_TRUST_VLAN (i : Nat) : Nat := 0x180200 + 0x4 * i
def ING_IQ_DEPTH (q : Nat) : Nat := 0x180300 + 0x10 * q
def ING_IQ_CAP (q : Nat) : Nat := 0x180304 + 0x10 * q
def ING_IQ_GAP_CNT (q : Nat) : Nat := 0x180308 + 0x10 * q
def ING_IQ_MAX_DEPTH (q : Nat) : Nat := 0x18030C + 0x10 * q
def ING_SV_CFG (s : Nat) : Nat := 0x180400 + 0x10 * s
def ING_SV_CONFREV (s : Nat) : Nat := 0x180404 + 0x10 * s
def ING_SV_RX_CNT (s : Nat) : Nat := 0x180408 + 0x10 * s
def ING_SV_ERR_CNT (s : Nat) : Nat := 0x18040C + 0x10 * s
def ING_VC_MAP (v : Nat) : Nat := 0x180600 + 0x4 * v

/-! ALN registers (R432). -/

def ALN_CTL : Nat := 0x1C0000
def ALN_STATUS : Nat := 0x1C0004
def ALN_WAIT : Nat := 0x1C0008
def ALN_SLOW_LEN : Nat := 0x1C000C
def ALN_OPEN_SEQ_LO : Nat := 0x1C0010
def ALN_OPEN_SEQ_HI : Nat := 0x1C0014
def ALN_CLOSED_SEQ_LO : Nat := 0x1C0018
def ALN_CLOSED_SEQ_HI : Nat := 0x1C001C
def ALN_INT_STATUS : Nat := 0x1C0020
def ALN_INT_EN : Nat := 0x1C0024
def ALN_MISS_THR : Nat := 0x1C0028
def ALN_LAST_PRESENT : Nat := 0x1C002C
def ALN_LAST_MISSING : Nat := 0x1C0030
def ALN_LATE_CNT : Nat := 0x1C0034
def ALN_DUP_CNT : Nat := 0x1C0038
def ALN_DUP_DIFF_CNT : Nat := 0x1C003C
def ALN_EARLY_CNT : Nat := 0x1C0040
def ALN_EARLY_DROP : Nat := 0x1C0044
def ALN_EARLY_DEPTH : Nat := 0x1C0048
def ALN_LATE_HIST (b : Nat) : Nat := 0x1C0050 + 0x4 * b
def ALN_LOC_EN (i : Nat) : Nat := 0x1C0080 + 0x4 * i
def ALN_ENT_SEL : Nat := 0x1C0100
def ALN_ENT_STATUS : Nat := 0x1C0104
def ALN_ENT_SEQ_LO : Nat := 0x1C0108
def ALN_ENT_SEQ_HI : Nat := 0x1C010C
def ALN_ENT_DATA (i : Nat) : Nat := 0x1C0110 + 0x4 * i
def ALN_EXP_CFG : Nat := 0x1C0200
def ALN_EXP_FIRST : Nat := 0x1C0204
def ALN_EXP_COUNT : Nat := 0x1C0208
def ALN_EXP_BASE_LO : Nat := 0x1C020C
def ALN_EXP_BASE_HI : Nat := 0x1C0210
def ALN_EXP_SIZE : Nat := 0x1C0214
def ALN_EXP_HEAD : Nat := 0x1C0218
def ALN_EXP_TAIL : Nat := 0x1C021C
def ALN_EXP_DROP_CNT : Nat := 0x1C0220
def ALN_STR_CFG (s : Nat) : Nat := 0x1C1000 + 0x40 * s
def ALN_STR_STATUS (s : Nat) : Nat := 0x1C1004 + 0x40 * s
def ALN_STR_DST_IPV4 (s : Nat) : Nat := 0x1C1008 + 0x40 * s
def ALN_STR_PORTS (s : Nat) : Nat := 0x1C100C + 0x40 * s
def ALN_STR_FRM_CNT (s : Nat) : Nat := 0x1C1010 + 0x40 * s
def ALN_STR_DROP_CNT (s : Nat) : Nat := 0x1C1014 + 0x40 * s
def ALN_STR_LAST_SEQ_LO (s : Nat) : Nat := 0x1C1018 + 0x40 * s
def ALN_STR_LAST_SEQ_HI (s : Nat) : Nat := 0x1C101C + 0x40 * s
def ALN_STR_CMD_CNT (s : Nat) : Nat := 0x1C1020 + 0x40 * s
def ALN_STR_CMD_IGN_CNT (s : Nat) : Nat := 0x1C1024 + 0x40 * s
def ALN_GO_CFG (g : Nat) : Nat := 0x1C2000 + 0x20 * g
def ALN_GO_STATUS (g : Nat) : Nat := 0x1C2004 + 0x20 * g
def ALN_GO_STNUM (g : Nat) : Nat := 0x1C2008 + 0x20 * g
def ALN_GO_SQNUM (g : Nat) : Nat := 0x1C200C + 0x20 * g
def ALN_GO_TX_CNT (g : Nat) : Nat := 0x1C2010 + 0x20 * g
def ALN_GO_VAL_LO (g : Nat) : Nat := 0x1C2014 + 0x20 * g
def ALN_GO_VAL_HI (g : Nat) : Nat := 0x1C2018 + 0x20 * g

/-! OSC registers (R469). -/

def OSC_CTL : Nat := 0x200000
def OSC_CFG : Nat := 0x200004
def OSC_TRK_TAU : Nat := 0x200008
def OSC_STATUS : Nat := 0x20000C
def OSC_INT_STATUS : Nat := 0x200010
def OSC_INT_EN : Nat := 0x200014
def OSC_UPD_SEQ_LO : Nat := 0x200018
def OSC_UPD_SEQ_HI : Nat := 0x20001C
def OSC_ALARM : Nat := 0x200020
def OSC_SIG_INVALID_CNT : Nat := 0x200024
def OSC_SIG_SEL : Nat := 0x200100
def OSC_SIG_STATUS : Nat := 0x200104
def OSC_SIG_DATA (i : Nat) : Nat := 0x200110 + 0x4 * i
def OSC_TRK_CFG (t : Nat) : Nat := 0x201000 + 0x100 * t
def OSC_TRK_LIST (t : Nat) : Nat := 0x201004 + 0x100 * t
def OSC_TRK_REF (t : Nat) : Nat := 0x201008 + 0x100 * t
def OSC_TRK_DAMP_THR (t : Nat) : Nat := 0x20100C + 0x100 * t
def OSC_TRK_AMP_THR (t : Nat) : Nat := 0x201010 + 0x100 * t
def OSC_TRK_AMP_HYST (t : Nat) : Nat := 0x201014 + 0x100 * t
def OSC_TRK_AMP_MIN (t : Nat) : Nat := 0x201018 + 0x100 * t
def OSC_TRK_PERSIST (t : Nat) : Nat := 0x20101C + 0x100 * t
def OSC_TRK_AO_MASK (t : Nat) : Nat := 0x201020 + 0x100 * t
def OSC_TRK_STATUS (t : Nat) : Nat := 0x201024 + 0x100 * t
def OSC_TRK_FREQ (t : Nat) : Nat := 0x201028 + 0x100 * t
def OSC_TRK_DAMP (t : Nat) : Nat := 0x20102C + 0x100 * t
def OSC_TRK_AMP (t : Nat) : Nat := 0x201030 + 0x100 * t
def OSC_TRK_AMP_MAX (t : Nat) : Nat := 0x201034 + 0x100 * t
def OSC_TRK_LAMBDA_RT (t : Nat) (j : Nat) : Nat := 0x201038 + 0x100 * t + 0x4 * j
def OSC_TRK_SHAPE_SEL (t : Nat) : Nat := 0x201048 + 0x100 * t
def OSC_TRK_SHAPE_DATA (t : Nat) : Nat := 0x20104C + 0x100 * t
def OSC_TRK_SHAPE_PART (t : Nat) : Nat := 0x201050 + 0x100 * t
def OSC_TRK_ALARM_CNT (t : Nat) : Nat := 0x201054 + 0x100 * t
def OSC_TRK_LAST_SEQ_LO (t : Nat) : Nat := 0x201058 + 0x100 * t
def OSC_TRK_LAST_SEQ_HI (t : Nat) : Nat := 0x20105C + 0x100 * t

/-! ISL registers (R517). -/

def ISL_CTL : Nat := 0x240000
def ISL_STATUS : Nat := 0x240004
def ISL_INT_STATUS : Nat := 0x240008
def ISL_INT_EN : Nat := 0x24000C
def ISL_CMD_UDP_PORT : Nat := 0x240010
def ISL_UPD_SEQ_LO : Nat := 0x240014
def ISL_UPD_SEQ_HI : Nat := 0x240018
def ISL_UNLATCH_IGN_CNT : Nat := 0x24001C
def ISL_ALARM (i : Nat) : Nat := 0x240040 + 0x4 * i
def ISL_GRP_SEL : Nat := 0x240100
def ISL_GRP_STATUS : Nat := 0x240104
def ISL_GRP_DATA (i : Nat) : Nat := 0x240110 + 0x4 * i
def ISL_HOST_CMD : Nat := 0x240300
def ISL_HOST_CMD_STATUS : Nat := 0x240304
def ISL_UNLATCH : Nat := 0x240308
def ISL_REF_CFG (r : Nat) : Nat := 0x240400 + 0x8 * r
def ISL_REF_STATUS (r : Nat) : Nat := 0x240404 + 0x8 * r
def ISL_CG_STATUS (c : Nat) : Nat := 0x244000 + 0x10 * c
def ISL_CG_LAST_SEQ (c : Nat) : Nat := 0x244004 + 0x10 * c
def ISL_CG_UNACK (c : Nat) : Nat := 0x244008 + 0x10 * c
def ISL_CG_SENT_CNT (c : Nat) : Nat := 0x24400C + 0x10 * c

/-! SCH registers (R563). -/

def SCH_CTL : Nat := 0x280000
def SCH_STATUS : Nat := 0x280004
def SCH_PATIENCE : Nat := 0x280008
def SCH_FRAME : Nat := 0x28000C
def SCH_INT_STATUS : Nat := 0x280010
def SCH_INT_EN : Nat := 0x280014
def SCH_WING_SEL : Nat := 0x280018
def SCH_CRIT_END : Nat := 0x28001C
def SCH_CRIT_END_MAX : Nat := 0x280020
def SCH_OVERRUN_CNT : Nat := 0x280024
def SCH_CAT_ROM : Nat := 0x280028
def SCH_PATCH_CNT : Nat := 0x28002C
def SCH_STATS_BASE_LO : Nat := 0x280030
def SCH_STATS_BASE_HI : Nat := 0x280034
def SCH_STATS_SIZE : Nat := 0x280038
def SCH_STATS_HEAD : Nat := 0x28003C
def SCH_STATS_TAIL : Nat := 0x280040
def SCH_STATS_DROP_CNT : Nat := 0x280044
def SCH_LATE_SAT_CNT : Nat := 0x280048
def SCH_CLASS_DEPTH (c : Nat) : Nat := 0x280100 + 0x10 * c
def SCH_CLASS_MAX_DEPTH (c : Nat) : Nat := 0x280104 + 0x10 * c
def SCH_CLASS_DONE (c : Nat) : Nat := 0x280108 + 0x10 * c
def SCH_CLASS_LATE_CNT (c : Nat) : Nat := 0x28010C + 0x10 * c
def SCH_WAIT_HIST (c : Nat) (b : Nat) : Nat := 0x280200 + 0x20 * c + 0x4 * b
def SCH_LATE_HIST (b : Nat) : Nat := 0x280280 + 0x4 * b
def SCH_RL_CFG (i : Nat) : Nat := 0x280400 + 0x10 * i
def SCH_RL_DEPTH (i : Nat) : Nat := 0x280404 + 0x10 * i
def SCH_RL_DEFICIT (i : Nat) : Nat := 0x280408 + 0x10 * i
def SCH_RL_NOCREDIT_CNT (i : Nat) : Nat := 0x28040C + 0x10 * i
def SCH_CORE_STATUS (k : Nat) : Nat := 0x280800 + 0x10 * k
def SCH_CORE_LOAD (k : Nat) : Nat := 0x280804 + 0x10 * k
def SCH_CORE_ITEMS (k : Nat) : Nat := 0x280808 + 0x10 * k
def SCH_CORE_MEM_ERR_CNT (k : Nat) : Nat := 0x28080C + 0x10 * k
def SCH_CAT_SEL : Nat := 0x281000
def SCH_CAT_INFO : Nat := 0x281004
def SCH_CAT_WC_FIX : Nat := 0x281008
def SCH_CAT_WC_VAR : Nat := 0x28100C

/-! PWR registers (R565). -/

def PWR_CTL : Nat := 0x4C0000
def PWR_STATUS : Nat := 0x4C0004
def PWR_LIMIT : Nat := 0x4C0008
def PWR_NECTAR : Nat := 0x4C000C
def PWR_NECTAR_CAP : Nat := 0x4C0010
def PWR_NECTAR_LOW : Nat := 0x4C0014
def PWR_NECTAR_DEFER : Nat := 0x4C0018
def PWR_T_DERATE : Nat := 0x4C001C
def PWR_POWER : Nat := 0x4C0020
def PWR_TEMP_MAX : Nat := 0x4C0024
def PWR_CLK : Nat := 0x4C0028
def PWR_INT_STATUS : Nat := 0x4C002C
def PWR_INT_EN : Nat := 0x4C0030
def PWR_ENERGY_LO : Nat := 0x4C0034
def PWR_ENERGY_HI : Nat := 0x4C0038
def PWR_TEMP (s : Nat) : Nat := 0x4C0040 + 0x4 * s
def PWR_WEAR_HOURS (w : Nat) : Nat := 0x4C0080 + 0x10 * w
def PWR_WEAR_EQ (w : Nat) : Nat := 0x4C0084 + 0x10 * w
def PWR_WEAR_AHEAD (w : Nat) : Nat := 0x4C0088 + 0x10 * w
def PWR_WEAR_CAP (w : Nat) : Nat := 0x4C008C + 0x10 * w

/-! QUE registers (R592). -/

def QUE_STATUS : Nat := 0x2C0000
def QUE_WORDS_USED : Nat := 0x2C0004
def QUE_INT_STATUS : Nat := 0x2C0008
def QUE_INT_EN : Nat := 0x2C000C
def QUE_CE_TOTAL : Nat := 0x2C0010
def QUE_UE_TOTAL : Nat := 0x2C0014
def QUE_SCRUB_PASS : Nat := 0x2C0018
def QUE_CMD : Nat := 0x2C0020
def QUE_CMD_STATUS : Nat := 0x2C0024
def QUE_WING_SEL : Nat := 0x2C0028
def QUE_Q_CFG (q : Nat) : Nat := 0x2C1000 + 0x40 * q
def QUE_Q_CAP (q : Nat) : Nat := 0x2C1004 + 0x40 * q
def QUE_Q_VSERV (q : Nat) : Nat := 0x2C1008 + 0x40 * q
def QUE_Q_VCAP (q : Nat) : Nat := 0x2C100C + 0x40 * q
def QUE_Q_BASE (q : Nat) : Nat := 0x2C1010 + 0x40 * q
def QUE_Q_DEPTH (q : Nat) : Nat := 0x2C1014 + 0x40 * q
def QUE_Q_OCC (q : Nat) : Nat := 0x2C1018 + 0x40 * q
def QUE_Q_MAX_DEPTH (q : Nat) : Nat := 0x2C101C + 0x40 * q
def QUE_Q_DROP_CNT (q : Nat) : Nat := 0x2C1020 + 0x40 * q
def QUE_Q_GAP_CNT (q : Nat) : Nat := 0x2C1024 + 0x40 * q
def QUE_Q_FLUSH_CNT (q : Nat) : Nat := 0x2C1028 + 0x40 * q
def QUE_Q_CE_CNT (q : Nat) : Nat := 0x2C102C + 0x40 * q
def QUE_Q_UE_CNT (q : Nat) : Nat := 0x2C1030 + 0x40 * q
def QUE_Q_CREDIT (q : Nat) : Nat := 0x2C1034 + 0x40 * q
def QUE_Q_VDEPTH (q : Nat) : Nat := 0x2C1038 + 0x40 * q

/-! ACQ registers (R620). -/

def ACQ_CTL : Nat := 0x300000
def ACQ_STATUS : Nat := 0x300004
def ACQ_INT_STATUS : Nat := 0x300008
def ACQ_INT_EN : Nat := 0x30000C
def ACQ_PRE : Nat := 0x300010
def ACQ_POST : Nat := 0x300014
def ACQ_RESUME_MB : Nat := 0x300018
def ACQ_RING_BASE_LO : Nat := 0x30001C
def ACQ_RING_BASE_HI : Nat := 0x300020
def ACQ_RING_SIZE : Nat := 0x300024
def ACQ_RING_HEAD : Nat := 0x300028
def ACQ_RING_TAIL : Nat := 0x30002C
def ACQ_SEQ_LO : Nat := 0x300030
def ACQ_SEQ_HI : Nat := 0x300034
def ACQ_UNSENT : Nat := 0x300038
def ACQ_HISTORY : Nat := 0x30003C
def ACQ_PAUSE_CNT : Nat := 0x300040
def ACQ_LOST_CNT : Nat := 0x300044
def ACQ_DI_MISMATCH_CNT : Nat := 0x300048
def ACQ_BUS (i : Nat) : Nat := 0x300100 + 0x4 * i
def ACQ_REC_EN (i : Nat) : Nat := 0x300140 + 0x4 * i
def ACQ_DI_CFG (n : Nat) : Nat := 0x300200 + 0x4 * n
def ACQ_PU_CFG (u : Nat) : Nat := 0x301000 + 0x100 * u
def ACQ_PU_HOLDOFF (u : Nat) : Nat := 0x301004 + 0x100 * u
def ACQ_PU_STATUS (u : Nat) : Nat := 0x301008 + 0x100 * u
def ACQ_PU_MARK_CNT (u : Nat) : Nat := 0x30100C + 0x100 * u
def ACQ_PU_MASK (u : Nat) (i : Nat) : Nat := 0x301010 + 0x100 * u + 0x4 * i
def ACQ_PU_VALUE (u : Nat) (i : Nat) : Nat := 0x301050 + 0x100 * u + 0x4 * i
def ACQ_WG_CFG (g : Nat) : Nat := 0x302000 + 0x40 * g
def ACQ_WG_CH_LO (g : Nat) : Nat := 0x302004 + 0x40 * g
def ACQ_WG_CH_HI (g : Nat) : Nat := 0x302008 + 0x40 * g
def ACQ_WG_BLOCK_CNT (g : Nat) : Nat := 0x30200C + 0x40 * g
def ACQ_WG_RAW_CNT (g : Nat) : Nat := 0x302010 + 0x40 * g

/-! CMP registers (R656). -/

def CMP_CTL : Nat := 0x340000
def CMP_STATUS : Nat := 0x340004
def CMP_INT_STATUS : Nat := 0x340008
def CMP_INT_EN : Nat := 0x34000C
def CMP_WING_SEL : Nat := 0x340010
def CMP_SQ_BASE_LO : Nat := 0x340020
def CMP_SQ_BASE_HI : Nat := 0x340024
def CMP_SQ_SIZE : Nat := 0x340028
def CMP_SQ_HEAD : Nat := 0x34002C
def CMP_SQ_TAIL : Nat := 0x340030
def CMP_CQ_BASE_LO : Nat := 0x340034
def CMP_CQ_BASE_HI : Nat := 0x340038
def CMP_CQ_SIZE : Nat := 0x34003C
def CMP_CQ_HEAD : Nat := 0x340040
def CMP_CQ_TAIL : Nat := 0x340044
def CMP_HOST_IDX : Nat := 0x340048
def CMP_HOST_ABORT_CNT : Nat := 0x34004C
def CMP_BAD_DESC_CNT : Nat := 0x340050
def CMP_E_STATUS (e : Nat) : Nat := 0x340100 + 0x40 * e
def CMP_E_JOBS (e : Nat) : Nat := 0x340104 + 0x40 * e
def CMP_E_IN_LO (e : Nat) : Nat := 0x340108 + 0x40 * e
def CMP_E_IN_HI (e : Nat) : Nat := 0x34010C + 0x40 * e
def CMP_E_OUT_LO (e : Nat) : Nat := 0x340110 + 0x40 * e
def CMP_E_OUT_HI (e : Nat) : Nat := 0x340114 + 0x40 * e
def CMP_E_NOT_SMALLER_CNT (e : Nat) : Nat := 0x340118 + 0x40 * e
def CMP_E_OUT_FULL_CNT (e : Nat) : Nat := 0x34011C + 0x40 * e
def CMP_E_VERIFY_FAIL_CNT (e : Nat) : Nat := 0x340120 + 0x40 * e
def CMP_E_BUSY_US (e : Nat) : Nat := 0x340124 + 0x40 * e

/-! REC registers (R680). -/

def REC_CTL : Nat := 0x380000
def REC_STATUS : Nat := 0x380004
def REC_INT_STATUS : Nat := 0x380008
def REC_INT_EN : Nat := 0x38000C
def REC_NEWEST_LO : Nat := 0x380010
def REC_NEWEST_HI : Nat := 0x380014
def REC_OLDEST_LO : Nat := 0x380018
def REC_OLDEST_HI : Nat := 0x38001C
def REC_SEQ_FLOOR_LO : Nat := 0x380020
def REC_SEQ_FLOOR_HI : Nat := 0x380024
def REC_FILL : Nat := 0x380028
def REC_LOST_CNT : Nat := 0x38002C
def REC_NV_SKIP_CNT : Nat := 0x380030
def REC_NV_OLDEST_LO : Nat := 0x380034
def REC_NV_OLDEST_HI : Nat := 0x380038
def REC_NV_NEWEST_LO : Nat := 0x38003C
def REC_NV_NEWEST_HI : Nat := 0x380040
def REC_NV_FILL : Nat := 0x380044
def REC_NV_ERR_CNT : Nat := 0x380048
def REC_KEEP_SEL : Nat := 0x380050
def REC_KEEP_CFG : Nat := 0x380054
def REC_RP_CTL (i : Nat) : Nat := 0x381000 + 0x1000 * i
def REC_RP_QUOTA (i : Nat) : Nat := 0x381004 + 0x1000 * i
def REC_RP_CUR_LO (i : Nat) : Nat := 0x381008 + 0x1000 * i
def REC_RP_CUR_HI (i : Nat) : Nat := 0x38100C + 0x1000 * i
def REC_RP_STATUS (i : Nat) : Nat := 0x381010 + 0x1000 * i
def REC_RP_CONSUME (i : Nat) : Nat := 0x381014 + 0x1000 * i
def REC_RP_SKIP (i : Nat) : Nat := 0x381018 + 0x1000 * i
def REC_RP_PINNED (i : Nat) : Nat := 0x381020 + 0x1000 * i
def REC_RP_DATA (i : Nat) (j : Nat) : Nat := 0x381100 + 0x1000 * i + 0x4 * j

/-! KEY registers (R707). -/

def KEY_STATUS : Nat := 0x3C0000
def KEY_INT_STATUS : Nat := 0x3C0004
def KEY_INT_EN : Nat := 0x3C0008
def KEY_DEV_ID (i : Nat) : Nat := 0x3C0010 + 0x4 * i
def KEY_CTR_LO : Nat := 0x3C0020
def KEY_CTR_HI : Nat := 0x3C0024
def KEY_CTR_FUSES : Nat := 0x3C0028
def KEY_AUTH_REVOKE : Nat := 0x3C002C
def KEY_MSG_CTL : Nat := 0x3C0030
def KEY_MSG_STATUS : Nat := 0x3C0034
def KEY_MSG_LEN : Nat := 0x3C0038
def KEY_UPDATE_CNT : Nat := 0x3C003C
def KEY_REFUSE_CNT : Nat := 0x3C0040
def KEY_MSG_DATA (j : Nat) : Nat := 0x3C0100 + 0x4 * j
def KEY_SLOT_SEL : Nat := 0x3C0400
def KEY_SLOT_INFO : Nat := 0x3C0404
def KEY_SLOT_ID : Nat := 0x3C0408
def KEY_SLOT_KCV : Nat := 0x3C040C
def KEY_SLOT_CTR_LO : Nat := 0x3C0410
def KEY_SLOT_CTR_HI : Nat := 0x3C0414
def KEY_SLOT_PUB (j : Nat) : Nat := 0x3C0420 + 0x4 * j
def KEY_AUTH_HASH (a : Nat) (e : Nat) (j : Nat) : Nat := 0x3C0600 + 0x80 * a + 0x20 * e + 0x4 * j

/-! WNG registers (R750). -/

def WNG_CTL : Nat := 0x400000
def WNG_STATUS : Nat := 0x400004
def WNG_CLAIM : Nat := 0x400008
def WNG_HIGHEST_EPOCH : Nat := 0x40000C
def WNG_PEER_CLAIM : Nat := 0x400010
def WNG_INT_STATUS : Nat := 0x400014
def WNG_INT_EN : Nat := 0x400018
def WNG_TAKEOVER_CNT : Nat := 0x40001C
def WNG_DIGEST_SEQ_LO : Nat := 0x400020
def WNG_DIGEST_SEQ_HI : Nat := 0x400024
def WNG_DIGEST_W0_LO : Nat := 0x400028
def WNG_DIGEST_W0_HI : Nat := 0x40002C
def WNG_DIGEST_W1_LO : Nat := 0x400030
def WNG_DIGEST_W1_HI : Nat := 0x400034
def WNG_MISMATCH_CNT : Nat := 0x400038
def WNG_HB_MISS_CNT : Nat := 0x40003C
def WNG_FAULT_CAUSE : Nat := 0x400040
def WNG_RESYNC_PROG : Nat := 0x400044
def WNG_HEALTH : Nat := 0x400048
def WNG_SELFTEST_AGE : Nat := 0x40004C
def WNG_BEACON_UDP_PORT : Nat := 0x400050
def WNG_BEACON_GROUP : Nat := 0x400054
def WNG_BEACON_CFG : Nat := 0x400058
def WNG_BEACON_BAD_CNT : Nat := 0x40005C
def WNG_OUT_SEL : Nat := 0x400060
def WNG_OUT_STATUS : Nat := 0x400064
def WNG_OUT_SEQ_LO : Nat := 0x400068
def WNG_OUT_SEQ_HI : Nat := 0x40006C
def WNG_LANE_STATUS (l : Nat) : Nat := 0x400100 + 0x20 * l
def WNG_LANE_RX_CNT (l : Nat) : Nat := 0x400104 + 0x20 * l
def WNG_LANE_CRC_ERR (l : Nat) : Nat := 0x400108 + 0x20 * l
def WNG_LANE_HB_MISS (l : Nat) : Nat := 0x40010C + 0x20 * l
def WNG_LANE_RETX_CNT (l : Nat) : Nat := 0x400110 + 0x20 * l

/-! SAF registers (R778). -/

def SAF_CTL : Nat := 0x440000
def SAF_STATUS : Nat := 0x440004
def SAF_INT_STATUS : Nat := 0x440008
def SAF_INT_EN : Nat := 0x44000C
def SAF_SAFE_CAUSE : Nat := 0x440010
def SAF_PARTNER_TOL_MAG : Nat := 0x440014
def SAF_PARTNER_TOL_ANG : Nat := 0x440018
def SAF_AO_SAFETY : Nat := 0x44001C
def SAF_PROOF_INT : Nat := 0x440020
def SAF_PROOF_CTL : Nat := 0x440024
def SAF_PROOF_CFG : Nat := 0x440028
def SAF_PROOF_STATUS : Nat := 0x44002C
def SAF_CLEAR : Nat := 0x440030
def SAF_FLUTTER_MISMATCH_CNT : Nat := 0x440034
def SAF_AO_FAULT : Nat := 0x440038
def SAF_FORCED_TRK : Nat := 0x44003C
def SAF_PARTNER_FAIL (i : Nat) : Nat := 0x440040 + 0x4 * i
def SAF_FORCED_DET (i : Nat) : Nat := 0x440060 + 0x4 * i
def SAF_FORCED_ISL (i : Nat) : Nat := 0x440080 + 0x4 * i
def SAF_AO_PROOF_SEC (a : Nat) : Nat := 0x440100 + 0x4 * a

/-! TXN registers (R813). -/

def TXN_STATUS : Nat := 0x10000
def TXN_CMD : Nat := 0x10004
def TXN_RESULT : Nat := 0x10008
def TXN_INSTAR : Nat := 0x1000C
def TXN_INSTAR_HIGH : Nat := 0x10010
def TXN_PROBATION : Nat := 0x10014
def TXN_PROB_LEFT : Nat := 0x10018
def TXN_TIMEOUT : Nat := 0x1001C
def TXN_AT_LO : Nat := 0x10020
def TXN_AT_HI : Nat := 0x10024
def TXN_BOUNDARY_LO : Nat := 0x10028
def TXN_BOUNDARY_HI : Nat := 0x1002C
def TXN_IMG_BASE_LO : Nat := 0x10030
def TXN_IMG_BASE_HI : Nat := 0x10034
def TXN_IMG_LEN : Nat := 0x10038
def TXN_IMG_WDATA : Nat := 0x1003C
def TXN_STAGED : Nat := 0x10040
def TXN_SHADOW_BYTES : Nat := 0x10044
def TXN_ERR_SECT : Nat := 0x10048
def TXN_ERR_OFS : Nat := 0x1004C
def TXN_INT_STATUS : Nat := 0x10050
def TXN_INT_EN : Nat := 0x10054
def TXN_REFUSED_WR_CNT : Nat := 0x10058
def TXN_SLOT_STATUS (s : Nat) : Nat := 0x10080 + 0x10 * s
def TXN_SLOT_INSTAR (s : Nat) : Nat := 0x10084 + 0x10 * s
def TXN_SLOT_LEN (s : Nat) : Nat := 0x10088 + 0x10 * s
def TXN_SLOT_GEN (s : Nat) : Nat := 0x1008C + 0x10 * s

/-! GLB registers (R851). -/

def GLB_BOOT_STATE : Nat := 0x2000
def GLB_BOOT_CTL : Nat := 0x2004
def GLB_RESET_CTL : Nat := 0x2008
def GLB_RESET_CAUSE : Nat := 0x200C
def GLB_PCIE_STATUS : Nat := 0x2010
def GLB_PF_SAVE_US : Nat := 0x2014
def GLB_HOST_OUTSTANDING : Nat := 0x2018
def GLB_SPI_ERR_CNT : Nat := 0x201C
def GLB_STATE_TIME (s : Nat) : Nat := 0x2040 + 0x4 * s
def GLB_HR_CTL (r : Nat) : Nat := 0x2100 + 0x40 * r
def GLB_HR_STATUS (r : Nat) : Nat := 0x2104 + 0x40 * r
def GLB_HR_SQ_BASE_LO (r : Nat) : Nat := 0x2108 + 0x40 * r
def GLB_HR_SQ_BASE_HI (r : Nat) : Nat := 0x210C + 0x40 * r
def GLB_HR_SQ_SIZE (r : Nat) : Nat := 0x2110 + 0x40 * r
def GLB_HR_SQ_HEAD (r : Nat) : Nat := 0x2114 + 0x40 * r
def GLB_HR_SQ_TAIL (r : Nat) : Nat := 0x2118 + 0x40 * r
def GLB_HR_SQ_ACK (r : Nat) : Nat := 0x211C + 0x40 * r
def GLB_HR_CQ_BASE_LO (r : Nat) : Nat := 0x2120 + 0x40 * r
def GLB_HR_CQ_BASE_HI (r : Nat) : Nat := 0x2124 + 0x40 * r
def GLB_HR_CQ_SIZE (r : Nat) : Nat := 0x2128 + 0x40 * r
def GLB_HR_CQ_HEAD (r : Nat) : Nat := 0x212C + 0x40 * r
def GLB_HR_CQ_TAIL (r : Nat) : Nat := 0x2130 + 0x40 * r
def GLB_HR_IDX_LO (r : Nat) : Nat := 0x2134 + 0x40 * r
def GLB_HR_IDX_HI (r : Nat) : Nat := 0x2138 + 0x40 * r

/-! GLB registers (R868). -/

def GLB_ID : Nat := 0x0
def GLB_REV : Nat := 0x4
def GLB_MAP_VER : Nat := 0x8
def GLB_SCRATCH : Nat := 0xC
def GLB_CTL : Nat := 0x10
def GLB_STATUS : Nat := 0x14
def GLB_INT_STATUS : Nat := 0x18
def GLB_INT_EN : Nat := 0x1C
def GLB_INT_SUMMARY : Nat := 0x20
def GLB_ACC_ERR_INFO : Nat := 0x24
def GLB_ACC_ERR_ADDR : Nat := 0x28
def GLB_ACC_ERR_DATA : Nat := 0x2C
def GLB_ACC_ERR_CLR : Nat := 0x30
def GLB_ACC_ERR_CNT : Nat := 0x34
def GLB_STRAPS : Nat := 0x38

/-! TST registers (R893). -/

def TST_CTL : Nat := 0x480000
def TST_STATUS : Nat := 0x480004
def TST_INT_STATUS : Nat := 0x480008
def TST_INT_EN : Nat := 0x48000C
def TST_LB_RESULT : Nat := 0x480010
def TST_TIMEOUT : Nat := 0x480014
def TST_AO_SENSE : Nat := 0x480018
def TST_AO_CMD : Nat := 0x48001C
def TST_PPS_CTL : Nat := 0x480020
def TST_PPS_OFS : Nat := 0x480024
def TST_PPS_MAX : Nat := 0x480028
def TST_PPS_CNT : Nat := 0x48002C
def TST_PCIE_LB : Nat := 0x480030
def TST_PCIE_ERR_CNT : Nat := 0x480034
def TST_PCIE_STATUS : Nat := 0x480038
def TST_LOOP_MAP : Nat := 0x48003C
def TST_OZ_CTL (l : Nat) : Nat := 0x480040 + 0x10 * l
def TST_OZ_TX_CNT (l : Nat) : Nat := 0x480044 + 0x10 * l
def TST_OZ_RX_CNT (l : Nat) : Nat := 0x480048 + 0x10 * l
def TST_OZ_ERR_CNT (l : Nat) : Nat := 0x48004C + 0x10 * l
def TST_Q_CTL (q : Nat) : Nat := 0x480100 + 0x20 * q
def TST_Q_CH_LO (q : Nat) : Nat := 0x480104 + 0x20 * q
def TST_Q_CH_HI (q : Nat) : Nat := 0x480108 + 0x20 * q
def TST_Q_TONE_FREQ (q : Nat) : Nat := 0x48010C + 0x20 * q
def TST_Q_TONE_AMP (q : Nat) : Nat := 0x480110 + 0x20 * q
def TST_Q_TONE_PHASE (q : Nat) : Nat := 0x480114 + 0x20 * q
def TST_PORT_CTL (p : Nat) : Nat := 0x481000 + 0x40 * p
def TST_PORT_STATUS (p : Nat) : Nat := 0x481004 + 0x40 * p
def TST_PORT_GEN (p : Nat) : Nat := 0x481008 + 0x40 * p
def TST_PORT_RX_CNT (p : Nat) : Nat := 0x48100C + 0x40 * p
def TST_PORT_ERR_CNT (p : Nat) : Nat := 0x481010 + 0x40 * p
def TST_PORT_DISC_CNT (p : Nat) : Nat := 0x481014 + 0x40 * p

end Sys2Proof.Reg
end

