-- ==== Sys2Proof/Machine/RegMap.lean ====
section
/-! DEFINITION. Sys2Proof/Machine/RegMap.lean: the register map as data (R853 and the register and field tables of chapters 3 to 23):
for every register its address, its array strides and counts, its access code (R18), its reset value, the bits a write reaches
through that code, the bits that act when written whatever the code (R21), and the values its description allows (R861). -/

namespace Sys2Proof.Machine

/-- The access codes of R18. -/
inductive Access where
  | rw | rws | ro | wo | w1c | w1s | rc
  deriving DecidableEq, Repr

/-- A field and the values its description states (R861, R800): bits hi to lo, allowed closed intervals. -/
structure FieldRange where
  hi : Nat
  lo : Nat
  allowed : List (Nat × Nat)
  deriving DecidableEq, Repr

/-- One register or array of registers. `act` holds the bits that perform an action when written (R21). -/
structure RegRow where
  base : Nat
  dims : List (Nat × Nat)
  acc : Access
  reset : Nat
  wmask : Nat
  act : Nat
  ranges : List FieldRange
  deriving DecidableEq, Repr

/-- Registers of block TIM. -/
def regTima : List RegRow := [
  ⟨0x20000, [], .rws, 0x0, 0x3, 0x4, []⟩,  -- TIM_CTL
  ⟨0x20004, [], .ro, 0x0, 0x0, 0x0, []⟩,  -- TIM_STATUS
  ⟨0x20008, [], .ro, 0x0, 0x0, 0x0, []⟩,  -- TIM_EPOCH
  ⟨0x2000C, [], .wo, 0x0, 0x1, 0x1, []⟩,  -- TIM_SNAP
  ⟨0x20010, [], .ro, 0x0, 0x0, 0x0, []⟩,  -- TIM_OUT_SEC_LO
  ⟨0x20014, [], .ro, 0x0, 0x0, 0x0, []⟩,  -- TIM_OUT_SEC_HI
  ⟨0x20018, [], .ro, 0x0, 0x0, 0x0, []⟩,  -- TIM_OUT_NS
  ⟨0x2001C, [], .ro, 0x0, 0x0, 0x0, []⟩,  -- TIM_OUT_FRAC
  ⟨0x20020, [], .ro, 0x0, 0x0, 0x0, []⟩,  -- TIM_ELAPSED_SEC
  ⟨0x20024, [], .ro, 0x0, 0x0, 0x0, []⟩,  -- TIM_ELAPSED_NS
  ⟨0x20030, [], .rws, 0x1F4, 0xFFFFFFFF, 0x0, [⟨31, 0, [(10, 5000)]⟩]⟩,  -- TIM_SLEW_MAX
  ⟨0x20034, [], .rws, 0xF4240, 0xFFFFFFFF, 0x0, [⟨31, 0, [(1, 100000000)]⟩]⟩,  -- TIM_SWITCH_MAX_OFS
  ⟨0x20038, [], .ro, 0x0, 0x0, 0x0, []⟩,  -- TIM_SLEW_RESID
  ⟨0x20040, [], .rws, 0x0, 0xFFFF, 0x0, []⟩,  -- TIM_LEAP_OFS
  ⟨0x20044, [], .rw, 0x0, 0x3, 0x0, []⟩,  -- TIM_LEAP_CTL
  ⟨0x20048, [], .rw, 0x64, 0xFF, 0x0, [⟨7, 1, [(1, 100)]⟩]⟩,  -- TIM_PPS_OUT_CTL
  ⟨0x2004C, [], .w1c, 0x0, 0x7F, 0x0, []⟩,  -- TIM_INT_STATUS
  ⟨0x20050, [], .rw, 0x0, 0x7F, 0x0, []⟩,  -- TIM_INT_EN
  ⟨0x20100, [(0x80, 2)], .rws, 0x0, 0xFF7F, 0x0, [⟨2, 0, [(0, 4)]⟩]⟩,  -- TIM_DOM[d]_CFG
  ⟨0x20104, [(0x80, 2)], .ro, 0x0, 0x0, 0x0, []⟩,  -- TIM_DOM[d]_STATE
  ⟨0x20108, [(0x80, 2)], .ro, 0x0, 0x0, 0x0, []⟩,  -- TIM_DOM[d]_OFS
  ⟨0x2010C, [(0x80, 2)], .ro, 0x80000000, 0x0, 0x0, []⟩,  -- TIM_DOM[d]_INCR_LO
  ⟨0x20110, [(0x80, 2)], .ro, 0x2, 0x0, 0x0, []⟩,  -- TIM_DOM[d]_INCR_HI
  ⟨0x20114, [(0x80, 2)], .ro, 0xFFFFFFFF, 0x0, 0x0, []⟩,  -- TIM_DOM[d]_ACC
  ⟨0x20118, [(0x80, 2)], .rws, 0x12C, 0xFFFFFFFF, 0x0, [⟨31, 0, [(1, 86400)]⟩]⟩,  -- TIM_DOM[d]_HOLD_LIM
  ⟨0x2011C, [(0x80, 2)], .rws, 0x64, 0xFFFFFFFF, 0x0, [⟨31, 0, [(10, 100000)]⟩]⟩,  -- TIM_DOM[d]_LOCK_THR
  ⟨0x20120, [(0x80, 2)], .ro, 0x0, 0x0, 0x0, []⟩,  -- TIM_DOM[d]_GM_ID_LO
  ⟨0x20124, [(0x80, 2)], .ro, 0x0, 0x0, 0x0, []⟩,  -- TIM_DOM[d]_GM_ID_HI
  ⟨0x20128, [(0x80, 2)], .ro, 0x0, 0x0, 0x0, []⟩,  -- TIM_DOM[d]_PATH_DLY
  ⟨0x2012C, [(0x80, 2)], .rc, 0x0, 0x0, 0x0, []⟩,  -- TIM_DOM[d]_LOSS_CNT
  ⟨0x20400, [(0x40, 8)], .rws, 0x0, 0x7FFFF, 0x0, [⟨1, 0, [(0, 2)]⟩]⟩,  -- TIM_PORT[p]_PTP_CFG
  ⟨0x20404, [(0x40, 2)], .rws, 0x2E, 0xFFFFFFFF, 0x0, [⟨31, 0, [(0, 4095)]⟩]⟩,  -- TIM_PORT[p]_RX_LAT
  ⟨0x20484, [(0x40, 2)], .rws, 0xA8, 0xFFFFFFFF, 0x0, [⟨31, 0, [(0, 4095)]⟩]⟩,  -- TIM_PORT[p]_RX_LAT
  ⟨0x20504, [(0x40, 4)], .rws, 0x92E, 0xFFFFFFFF, 0x0, [⟨31, 0, [(0, 4095)]⟩]⟩,  -- TIM_PORT[p]_RX_LAT
  ⟨0x20408, [(0x40, 2)], .rws, 0x22, 0xFFFFFFFF, 0x0, [⟨31, 0, [(0, 4095)]⟩]⟩,  -- TIM_PORT[p]_TX_LAT
  ⟨0x20488, [(0x40, 2)], .rws, 0x88, 0xFFFFFFFF, 0x0, [⟨31, 0, [(0, 4095)]⟩]⟩,  -- TIM_PORT[p]_TX_LAT
  ⟨0x20508, [(0x40, 4)], .rws, 0x5B4, 0xFFFFFFFF, 0x0, [⟨31, 0, [(0, 4095)]⟩]⟩,  -- TIM_PORT[p]_TX_LAT
  ⟨0x2040C, [(0x40, 8)], .rws, 0x0, 0xFFFFFFFF, 0x0, []⟩,  -- TIM_PORT[p]_ASYM
  ⟨0x20600, [(0x20, 2)], .rws, 0x0, 0xFFFF0001, 0x0, []⟩,  -- TIM_PPS[n]_CFG
  ⟨0x20604, [(0x20, 2)], .rw, 0x0, 0xFFFFFFFF, 0x0, []⟩,  -- TIM_PPS[n]_TOD_LO
  ⟨0x20608, [(0x20, 2)], .rw, 0x0, 0xFFFF, 0x0, []⟩,  -- TIM_PPS[n]_TOD_HI
  ⟨0x2060C, [(0x20, 2)], .w1s, 0x0, 0x1, 0x1, []⟩,  -- TIM_PPS[n]_TOD_ARM
  ⟨0x20610, [(0x20, 2)], .ro, 0x0, 0x0, 0x0, []⟩,  -- TIM_PPS[n]_LAST_NS
  ⟨0x20700, [], .rws, 0x0, 0xFFFF0003, 0x0, []⟩,  -- TIM_IRIG_CFG
  ⟨0x20704, [], .rw, 0x0, 0xFFFF, 0x0, []⟩ ]  -- TIM_IRIG_YEAR

/-- Registers of block TIM. -/
def regTimb : List RegRow := [
  ⟨0x20708, [], .rc, 0x0, 0x0, 0x0, []⟩ ]  -- TIM_IRIG_ERR_CNT

/-- Registers of block CNV. -/
def regCnv : List RegRow := [
  ⟨0x40000, [], .rws, 0x200, 0xF00, 0x0, [⟨11, 8, [(1, 15)]⟩]⟩,  -- CNV_CTL
  ⟨0x40004, [], .ro, 0x0, 0x0, 0x0, []⟩,  -- CNV_STATUS
  ⟨0x40008, [], .rw, 0x0, 0x30F0, 0x1, []⟩,  -- CNV_CAL_CTL
  ⟨0x4000C, [], .ro, 0x0, 0x0, 0x0, []⟩,  -- CNV_CAL_TIME
  ⟨0x40010, [], .rw, 0x0, 0xF, 0x0, []⟩,  -- CNV_LP_CTL
  ⟨0x40014, [], .wo, 0x0, 0x1, 0x1, []⟩,  -- CNV_SNAP_ALL
  ⟨0x40018, [], .rws, 0x347, 0xFFFFFFFF, 0x0, [⟨31, 0, [(0, 65535)]⟩]⟩,  -- CNV_CHK_TOL_ABS
  ⟨0x4001C, [], .rws, 0x3E8, 0xFFFFFFFF, 0x0, [⟨31, 0, [(0, 100000)]⟩]⟩,  -- CNV_CHK_TOL_REL
  ⟨0x40020, [], .w1c, 0x0, 0x7F, 0x0, []⟩,  -- CNV_INT_STATUS
  ⟨0x40024, [], .rw, 0x0, 0x7F, 0x0, []⟩,  -- CNV_INT_EN
  ⟨0x40040, [(0x4, 6)], .ro, 0xFFFFFFFF, 0x0, 0x0, []⟩,  -- CNV_INVALID[i]
  ⟨0x40100, [(0x20, 4)], .wo, 0x0, 0x1, 0x1, []⟩,  -- CNV_Q[q]_SNAP
  ⟨0x40104, [(0x20, 4)], .ro, 0x0, 0x0, 0x0, []⟩,  -- CNV_Q[q]_SNAP_SEQ
  ⟨0x40108, [(0x20, 4)], .ro, 0x0, 0x0, 0x0, []⟩,  -- CNV_Q[q]_REF_MON
  ⟨0x4010C, [(0x20, 4)], .ro, 0xFFFFFFFF, 0x0, 0x0, []⟩,  -- CNV_Q[q]_CAL_AGE
  ⟨0x40400, [(0x40, 16)], .wo, 0x0, 0xFF, 0xFF, []⟩,  -- CNV_CK[k]_INJ
  ⟨0x40404, [(0x40, 16)], .ro, 0x400, 0x0, 0x0, []⟩,  -- CNV_CK[k]_INJ_STATUS
  ⟨0x40408, [(0x40, 16)], .ro, 0x0, 0x0, 0x0, []⟩,  -- CNV_CK[k]_RES_STATUS
  ⟨0x4040C, [(0x40, 16)], .ro, 0x0, 0x0, 0x0, []⟩,  -- CNV_CK[k]_RES_IC
  ⟨0x40410, [(0x40, 16)], .ro, 0x0, 0x0, 0x0, []⟩,  -- CNV_CK[k]_RES_QC
  ⟨0x40414, [(0x40, 16)], .ro, 0x0, 0x0, 0x0, []⟩,  -- CNV_CK[k]_RES_ID
  ⟨0x40418, [(0x40, 16)], .ro, 0x0, 0x0, 0x0, []⟩,  -- CNV_CK[k]_RES_QD
  ⟨0x4041C, [(0x40, 16)], .ro, 0x0, 0x0, 0x0, []⟩,  -- CNV_CK[k]_RES_ERR
  ⟨0x40420, [(0x40, 16)], .rc, 0x0, 0x0, 0x0, []⟩,  -- CNV_CK[k]_RES_CONSUME
  ⟨0x40424, [(0x40, 16)], .ro, 0x0, 0x0, 0x0, []⟩,  -- CNV_CK[k]_POS
  ⟨0x40428, [(0x40, 16)], .rc, 0x0, 0x0, 0x0, []⟩,  -- CNV_CK[k]_FAIL_CNT
  ⟨0x41000, [(0x20, 192)], .rws, 0x1, 0x3FF, 0x0, []⟩,  -- CNV_CH[n]_CFG
  ⟨0x41004, [(0x20, 192)], .ro, 0x3, 0x0, 0x0, []⟩,  -- CNV_CH[n]_STATUS
  ⟨0x41008, [(0x20, 192)], .ro, 0x1000000, 0x0, 0x0, []⟩,  -- CNV_CH[n]_GAIN
  ⟨0x4100C, [(0x20, 192)], .ro, 0x0, 0x0, 0x0, []⟩,  -- CNV_CH[n]_OFS
  ⟨0x41010, [(0x20, 192)], .ro, 0x1000000, 0x0, 0x0, []⟩,  -- CNV_CH[n]_GAIN_LP
  ⟨0x41014, [(0x20, 192)], .ro, 0x0, 0x0, 0x0, []⟩,  -- CNV_CH[n]_OFS_LP
  ⟨0x41018, [(0x20, 192)], .ro, 0x0, 0x0, 0x0, []⟩,  -- CNV_CH[n]_SNAP
  ⟨0x4101C, [(0x20, 192)], .rc, 0x0, 0x0, 0x0, []⟩ ]  -- CNV_CH[n]_FAIL_CNT

/-- Registers of block FLT. -/
def regFlt : List RegRow := [
  ⟨0x80000, [], .rws, 0x1, 0x1, 0x2, []⟩,  -- FLT_CTL
  ⟨0x80004, [], .ro, 0x0, 0x0, 0x0, []⟩,  -- FLT_STATUS
  ⟨0x80008, [], .ro, 0x0, 0x0, 0x0, []⟩,  -- FLT_DECSYNC_CNT
  ⟨0x8000C, [], .rc, 0x0, 0x0, 0x0, []⟩,  -- FLT_DECSYNC_IGN_CNT
  ⟨0x80010, [], .ro, 0x0, 0x0, 0x0, []⟩,  -- FLT_SYNC_SEC_LO
  ⟨0x80014, [], .ro, 0x0, 0x0, 0x0, []⟩,  -- FLT_SYNC_SEC_HI
  ⟨0x80018, [], .ro, 0x0, 0x0, 0x0, []⟩,  -- FLT_SYNC_NS
  ⟨0x8001C, [], .rws, 0x7D0, 0xFFFFFFFF, 0x0, [⟨31, 0, [(250, 10000)]⟩]⟩,  -- FLT_VC_DELAY
  ⟨0x80020, [], .rws, 0x3200, 0xFFFFFFFF, 0x0, [⟨31, 0, [(128, 65535)]⟩]⟩,  -- FLT_FREEZE_MAX
  ⟨0x80024, [], .w1c, 0x0, 0xFF, 0x0, []⟩,  -- FLT_INT_STATUS
  ⟨0x80028, [], .rw, 0x0, 0xFF, 0x0, []⟩,  -- FLT_INT_EN
  ⟨0x8002C, [], .ro, 0x0, 0x0, 0x0, []⟩,  -- FLT_ERR
  ⟨0x80030, [], .rw, 0x0, 0x3F01FF, 0x0, []⟩,  -- FLT_COEF_SEL
  ⟨0x80034, [], .rw, 0x0, 0xFFFFFF, 0x0, []⟩,  -- FLT_COEF_DATA
  ⟨0x80100, [], .rws, 0x2, 0x3, 0x0, []⟩,  -- FLT_TRK_CFG
  ⟨0x80104, [], .rws, 0x2710, 0xFFFFFFFF, 0x0, [⟨31, 0, [(100, 30000)]⟩]⟩,  -- FLT_TRK_ROCOF_MAX
  ⟨0x80108, [], .rws, 0xCCCCD, 0xFFFFFFFF, 0x0, []⟩,  -- FLT_TRK_MIN_AMP
  ⟨0x8010C, [], .rws, 0x190, 0xFFFFFFFF, 0x0, [⟨31, 0, [(1, 65535)]⟩]⟩,  -- FLT_TRK_HOLD_LIM
  ⟨0x80110, [], .ro, 0x0, 0x0, 0x0, []⟩,  -- FLT_TRK_STATUS
  ⟨0x80114, [], .ro, 0x0, 0x0, 0x0, []⟩,  -- FLT_TRK_FREQ
  ⟨0x80118, [], .rc, 0x0, 0x0, 0x0, []⟩,  -- FLT_TRK_SWITCH_CNT
  ⟨0x80120, [(0x4, 4)], .rws, 0x0, 0x1FF, 0x0, []⟩,  -- FLT_TRK_REF[i]
  ⟨0x80800, [(0x20, 64)], .rws, 0x0, 0x7, 0x0, [⟨1, 0, [(0, 2)]⟩]⟩,  -- FLT_VC[v]_CFG
  ⟨0x80804, [(0x20, 64)], .rws, 0x1000000, 0xFFFFFFFF, 0x0, []⟩,  -- FLT_VC[v]_SCALE
  ⟨0x80808, [(0x20, 64)], .ro, 0x103, 0x0, 0x0, []⟩,  -- FLT_VC[v]_STATUS
  ⟨0x8080C, [(0x20, 64)], .rc, 0x0, 0x0, 0x0, []⟩,  -- FLT_VC[v]_MISS_CNT
  ⟨0x81000, [(0x40, 256)], .rws, 0x800021, 0x3FF007F, 0x0, [⟨5, 1, [(8, 24)]⟩,⟨25, 16, [(1, 1023)]⟩]⟩,  -- FLT_CH[n]_CFG
  ⟨0x81004, [(0x40, 256)], .ro, 0x200, 0x0, 0x0, []⟩,  -- FLT_CH[n]_STATUS
  ⟨0x81008, [(0x40, 256)], .rw, 0x100, 0xFFFFFFFF, 0x0, [⟨31, 0, [(1, 65535)]⟩]⟩,  -- FLT_CH[n]_XF_LEN
  ⟨0x8100C, [(0x40, 256)], .wo, 0x0, 0x1, 0x1, []⟩,  -- FLT_CH[n]_SWAP
  ⟨0x81010, [(0x40, 256)], .rws, 0x0, 0x3FF, 0x0, []⟩,  -- FLT_CH[n]_PHASE_DLY
  ⟨0x81014, [(0x40, 256)], .rws, 0x800000, 0xFFFF3FFF, 0x0, [⟨31, 16, [(1, 65535)]⟩]⟩,  -- FLT_CH[n]_FREEZE_CFG
  ⟨0x81018, [(0x40, 256)], .wo, 0x0, 0x3, 0x3, []⟩,  -- FLT_CH[n]_FREEZE_CTL
  ⟨0x8101C, [(0x40, 256)], .ro, 0x0, 0x0, 0x0, []⟩,  -- FLT_CH[n]_DC_EST
  ⟨0x81020, [(0x40, 256)], .ro, 0x0, 0x0, 0x0, []⟩,  -- FLT_CH[n]_GD
  ⟨0x81024, [(0x40, 256)], .ro, 0x0, 0x0, 0x0, []⟩,  -- FLT_CH[n]_MEAN
  ⟨0x81028, [(0x40, 256)], .ro, 0x0, 0x0, 0x0, []⟩,  -- FLT_CH[n]_RMS
  ⟨0x88000, [(0x40, 256), (0x10, 4)], .rws, 0x0, 0x1FF007F, 0x0, [⟨24, 16, [(0, 383)]⟩]⟩,  -- FLT_THR[n][u]_CFG
  ⟨0x88004, [(0x40, 256), (0x10, 4)], .rws, 0x0, 0xFFFFFFFF, 0x0, []⟩,  -- FLT_THR[n][u]_LEVEL
  ⟨0x88008, [(0x40, 256), (0x10, 4)], .rws, 0x0, 0xFFFFFFFF, 0x0, []⟩,  -- FLT_THR[n][u]_HYST
  ⟨0x8800C, [(0x40, 256), (0x10, 4)], .rws, 0x1, 0xFFFF, 0x0, [⟨15, 0, [(1, 65535)]⟩]⟩ ]  -- FLT_THR[n][u]_MIN_DUR

/-- Registers of block PHS. -/
def regPhs : List RegRow := [
  ⟨0xC0000, [], .rws, 0x104, 0x13F, 0x0, [⟨5, 0, [(2, 32)]⟩]⟩,  -- PHS_CTL
  ⟨0xC0004, [], .ro, 0x0, 0x0, 0x0, []⟩,  -- PHS_STATUS
  ⟨0xC0008, [], .w1c, 0x0, 0x1F, 0x0, []⟩,  -- PHS_INT_STATUS
  ⟨0xC000C, [], .rw, 0x0, 0x1F, 0x0, []⟩,  -- PHS_INT_EN
  ⟨0xC0010, [(0x4, 2)], .ro, 0x0, 0x0, 0x0, []⟩,  -- PHS_DET_ACTIVE[i]
  ⟨0xC0020, [], .wo, 0x0, 0xFFFF, 0xFFFF, []⟩,  -- PHS_AO_UNLATCH
  ⟨0xC0100, [(0x10, 16)], .rws, 0x0, 0xFFFFFFFF, 0x0, []⟩,  -- PHS_AO[a]_SRC_LO
  ⟨0xC0104, [(0x10, 16)], .rws, 0x0, 0xFFFFFFFF, 0x0, []⟩,  -- PHS_AO[a]_SRC_HI
  ⟨0xC0108, [(0x10, 16)], .rws, 0x6400, 0xFF01, 0x0, []⟩,  -- PHS_AO[a]_CFG
  ⟨0xC010C, [(0x10, 16)], .ro, 0x0, 0x0, 0x0, []⟩,  -- PHS_AO[a]_STATUS
  ⟨0xC0800, [(0x20, 64)], .rws, 0x20, 0xFFFFFFF, 0x0, [⟨8, 5, [(1, 8)]⟩]⟩,  -- PHS_DET[d]_CFG
  ⟨0xC0804, [(0x20, 64)], .rws, 0x0, 0xFFFFFFFF, 0x0, []⟩,  -- PHS_DET[d]_LEVEL
  ⟨0xC0808, [(0x20, 64)], .rws, 0x0, 0xFFFFFFFF, 0x0, []⟩,  -- PHS_DET[d]_HYST
  ⟨0xC080C, [(0x20, 64)], .rws, 0x2D02, 0xFFFF, 0x0, []⟩,  -- PHS_DET[d]_AUX
  ⟨0xC0810, [(0x20, 64)], .ro, 0x0, 0x0, 0x0, []⟩,  -- PHS_DET[d]_STATUS
  ⟨0xC0814, [(0x20, 64)], .ro, 0x0, 0x0, 0x0, []⟩,  -- PHS_DET[d]_VALUE
  ⟨0xC0818, [(0x20, 64)], .rc, 0x0, 0x0, 0x0, []⟩,  -- PHS_DET[d]_ON_CNT
  ⟨0xC2000, [(0x40, 256)], .rws, 0x0, 0xFFFF0001, 0x0, []⟩,  -- PHS_CH[n]_CFG
  ⟨0xC2004, [(0x40, 256)], .rws, 0x2D411, 0xFFFFFFFF, 0x0, []⟩,  -- PHS_CH[n]_SCALE
  ⟨0xC2008, [(0x40, 256)], .ro, 0x0, 0x0, 0x0, []⟩,  -- PHS_CH[n]_STATUS
  ⟨0xC200C, [(0x40, 256)], .ro, 0x0, 0x0, 0x0, []⟩,  -- PHS_CH[n]_MAG
  ⟨0xC2010, [(0x40, 256)], .ro, 0x0, 0x0, 0x0, []⟩,  -- PHS_CH[n]_ANG
  ⟨0xC2014, [(0x40, 256)], .ro, 0x0, 0x0, 0x0, []⟩,  -- PHS_CH[n]_FREQ
  ⟨0xC2018, [(0x40, 256)], .ro, 0x0, 0x0, 0x0, []⟩,  -- PHS_CH[n]_ROCOF
  ⟨0xC201C, [(0x40, 256)], .ro, 0x0, 0x0, 0x0, []⟩,  -- PHS_CH[n]_RPT_SEC
  ⟨0xC2020, [(0x40, 256)], .ro, 0x0, 0x0, 0x0, []⟩,  -- PHS_CH[n]_RPT_NS
  ⟨0xC2024, [(0x40, 256)], .ro, 0x0, 0x0, 0x0, []⟩,  -- PHS_CH[n]_QUAL
  ⟨0xC2028, [(0x40, 256)], .ro, 0x0, 0x0, 0x0, []⟩,  -- PHS_CH[n]_SSW_PEAK
  ⟨0xC202C, [(0x40, 256)], .ro, 0x0, 0x0, 0x0, []⟩ ]  -- PHS_CH[n]_SSW_FREQ

/-- Registers of block NET. -/
def regNeta : List RegRow := [
  ⟨0x100000, [(0x1000, 2)], .rws, 0x2, 0x1BFF, 0x0, []⟩,  -- NET_PORT[p]_CFG
  ⟨0x102000, [(0x1000, 2)], .rws, 0x1020, 0x1BFF, 0x0, []⟩,  -- NET_PORT[p]_CFG
  ⟨0x104000, [(0x1000, 4)], .rws, 0x100, 0x1BFF, 0x0, []⟩,  -- NET_PORT[p]_CFG
  ⟨0x100004, [(0x1000, 8)], .ro, 0x0, 0x0, 0x0, []⟩,  -- NET_PORT[p]_STATUS
  ⟨0x100008, [(0x1000, 8)], .rws, 0x5F8, 0x3FFF, 0x0, []⟩,  -- NET_PORT[p]_MAX_FRM
  ⟨0x10000C, [(0x1000, 8)], .rws, 0x0, 0xFFFFFFFF, 0x0, []⟩,  -- NET_PORT[p]_MAC_LO
  ⟨0x100010, [(0x1000, 8)], .rws, 0x0, 0xFFFF, 0x0, []⟩,  -- NET_PORT[p]_MAC_HI
  ⟨0x100014, [(0x1000, 8)], .rws, 0x6403E8, 0xFFFFFFFF, 0x0, [⟨15, 0, [(10, 65535)]⟩,⟨31, 16, [(1, 65535)]⟩]⟩,  -- NET_PORT[p]_PAUSE_CFG
  ⟨0x100018, [(0x1000, 8)], .rws, 0x3E8, 0xFFFFFF, 0x0, [⟨15, 0, [(10, 65535)]⟩]⟩,  -- NET_PORT[p]_EEE_CFG
  ⟨0x10001C, [(0x1000, 8)], .rws, 0x200800, 0xFFFFFFFF, 0x0, []⟩,  -- NET_PORT[p]_PLCA_CFG
  ⟨0x100020, [(0x1000, 8)], .w1c, 0x0, 0xFF, 0x0, []⟩,  -- NET_PORT[p]_INT_STATUS
  ⟨0x100024, [(0x1000, 8)], .rw, 0x0, 0xFF, 0x0, []⟩,  -- NET_PORT[p]_INT_EN
  ⟨0x100028, [(0x1000, 8)], .rw, 0x0, 0x3F, 0x0, []⟩,  -- NET_PORT[p]_MCAST_SEL
  ⟨0x10002C, [(0x1000, 8)], .rw, 0x0, 0xFFFFFFFF, 0x0, []⟩,  -- NET_PORT[p]_MCAST_LO
  ⟨0x100030, [(0x1000, 8)], .rw, 0x0, 0x1FFFF, 0x0, []⟩,  -- NET_PORT[p]_MCAST_HI
  ⟨0x100100, [(0x1000, 8)], .ro, 0x0, 0x0, 0x0, []⟩,  -- NET_PORT[p]_RX_OCT_LO
  ⟨0x100104, [(0x1000, 8)], .ro, 0x0, 0x0, 0x0, []⟩,  -- NET_PORT[p]_RX_OCT_HI
  ⟨0x100108, [(0x1000, 8)], .ro, 0x0, 0x0, 0x0, []⟩,  -- NET_PORT[p]_RX_FRM
  ⟨0x10010C, [(0x1000, 8)], .rc, 0x0, 0x0, 0x0, []⟩,  -- NET_PORT[p]_RX_RUNT
  ⟨0x100110, [(0x1000, 8)], .rc, 0x0, 0x0, 0x0, []⟩,  -- NET_PORT[p]_RX_OVERSIZE
  ⟨0x100114, [(0x1000, 8)], .rc, 0x0, 0x0, 0x0, []⟩,  -- NET_PORT[p]_RX_FCS_ERR
  ⟨0x100118, [(0x1000, 8)], .rc, 0x0, 0x0, 0x0, []⟩,  -- NET_PORT[p]_RX_OVF_DROP
  ⟨0x10011C, [(0x1000, 8)], .ro, 0x0, 0x0, 0x0, []⟩,  -- NET_PORT[p]_RX_PAUSE
  ⟨0x100120, [(0x1000, 8)], .rc, 0x0, 0x0, 0x0, []⟩,  -- NET_PORT[p]_RX_PFC_DROP
  ⟨0x100124, [(0x1000, 8)], .ro, 0x0, 0x0, 0x0, []⟩,  -- NET_PORT[p]_RX_FILTER_DROP
  ⟨0x100128, [(0x1000, 8)], .ro, 0x0, 0x0, 0x0, []⟩,  -- NET_PORT[p]_TX_OCT_LO
  ⟨0x10012C, [(0x1000, 8)], .ro, 0x0, 0x0, 0x0, []⟩,  -- NET_PORT[p]_TX_OCT_HI
  ⟨0x100130, [(0x1000, 8)], .ro, 0x0, 0x0, 0x0, []⟩,  -- NET_PORT[p]_TX_FRM
  ⟨0x100134, [(0x1000, 8)], .rc, 0x0, 0x0, 0x0, []⟩,  -- NET_PORT[p]_TX_REFUSED
  ⟨0x100138, [(0x1000, 8)], .ro, 0x0, 0x0, 0x0, []⟩,  -- NET_PORT[p]_TX_PAUSED_US
  ⟨0x10013C, [(0x1000, 8)], .rc, 0x0, 0x0, 0x0, []⟩,  -- NET_PORT[p]_PAUSE_WD_CNT
  ⟨0x100140, [(0x1000, 8)], .ro, 0x0, 0x0, 0x0, []⟩,  -- NET_PORT[p]_COLL
  ⟨0x100144, [(0x1000, 8)], .rc, 0x0, 0x0, 0x0, []⟩,  -- NET_PORT[p]_LATE_COLL
  ⟨0x100148, [(0x1000, 8)], .rc, 0x0, 0x0, 0x0, []⟩,  -- NET_PORT[p]_EXCESS_COLL
  ⟨0x10014C, [(0x1000, 8)], .ro, 0x0, 0x0, 0x0, []⟩,  -- NET_PORT[p]_LPI_ENTRY
  ⟨0x100150, [(0x1000, 8)], .ro, 0x0, 0x0, 0x0, []⟩,  -- NET_PORT[p]_LPI_US
  ⟨0x100154, [(0x1000, 8)], .rc, 0x0, 0x0, 0x0, []⟩,  -- NET_PORT[p]_LINK_DOWN_CNT
  ⟨0x100158, [(0x1000, 8)], .ro, 0x0, 0x0, 0x0, []⟩,  -- NET_PORT[p]_TX_SEG_JOBS
  ⟨0x108000, [], .rws, 0x0, 0x3, 0x0, []⟩,  -- NET_CTL
  ⟨0x108004, [], .rws, 0x190, 0xFFFFFFFF, 0x0, [⟨31, 0, [(10, 10000)]⟩]⟩,  -- NET_PRP_AGE
  ⟨0x108008, [], .ro, 0x0, 0x0, 0x0, []⟩,  -- NET_PRP_ENTRIES
  ⟨0x10800C, [], .ro, 0x0, 0x0, 0x0, []⟩,  -- NET_PRP_DUP_CNT
  ⟨0x108010, [], .rc, 0x0, 0x0, 0x0, []⟩,  -- NET_PRP_WRONG_LAN_CNT
  ⟨0x108014, [], .rc, 0x0, 0x0, 0x0, []⟩,  -- NET_PRP_EVICT_CNT
  ⟨0x108018, [], .rc, 0x0, 0x0, 0x0, []⟩ ]  -- NET_PRP_OLD_CNT

/-- Registers of block NET. -/
def regNetb : List RegRow := [
  ⟨0x10801C, [], .ro, 0x0, 0x0, 0x0, []⟩,  -- NET_PRP_TX_SEQ_F
  ⟨0x108020, [], .ro, 0x0, 0x0, 0x0, []⟩ ]  -- NET_PRP_TX_SEQ_M

/-- Registers of block ING. -/
def regIng : List RegRow := [
  ⟨0x180000, [], .rws, 0x40, 0x1FF, 0x0, []⟩,  -- ING_CFG
  ⟨0x180004, [], .ro, 0x2, 0x0, 0x0, []⟩,  -- ING_STATUS
  ⟨0x180008, [], .rws, 0x25B2, 0xFFFF, 0x0, []⟩,  -- ING_SR_UDP_PORT
  ⟨0x18000C, [], .rws, 0x1269, 0xFFFF, 0x0, []⟩,  -- ING_C37_UDP_PORT
  ⟨0x180010, [], .ro, 0x0, 0x0, 0x0, []⟩,  -- ING_TX_BASE
  ⟨0x180014, [], .rws, 0x3E8, 0xFFFFFFFF, 0x0, [⟨31, 0, [(1, 100000)]⟩]⟩,  -- ING_FUTURE_TOL
  ⟨0x180018, [], .rws, 0x3E8, 0xFFFFFFFF, 0x0, [⟨31, 0, [(0, 100000)]⟩]⟩,  -- ING_C37_TOL
  ⟨0x18001C, [], .w1c, 0x0, 0x7F, 0x0, []⟩,  -- ING_INT_STATUS
  ⟨0x180020, [], .rw, 0x0, 0x7F, 0x0, []⟩,  -- ING_INT_EN
  ⟨0x180024, [], .ro, 0x0, 0x0, 0x0, []⟩,  -- ING_ACC_CNT_LO
  ⟨0x180028, [], .ro, 0x0, 0x0, 0x0, []⟩,  -- ING_ACC_CNT_HI
  ⟨0x18002C, [], .ro, 0x0, 0x0, 0x0, []⟩,  -- ING_CAM_USED
  ⟨0x180030, [], .rw, 0x0, 0x1FFFF, 0x0, []⟩,  -- ING_PT_SEL
  ⟨0x180040, [(0x4, 8)], .rws, 0x0, 0xFFFFFFFF, 0x0, []⟩,  -- ING_PT_DATA[i]
  ⟨0x180060, [], .rw, 0x0, 0xFFFFFFFF, 0x0, []⟩,  -- ING_LOOKUP_ID_LO
  ⟨0x180064, [], .rw, 0x0, 0xFFFFFFFF, 0x0, []⟩,  -- ING_LOOKUP_ID_HI
  ⟨0x180068, [], .ro, 0x0, 0x0, 0x0, []⟩,  -- ING_LOOKUP_RES
  ⟨0x180070, [], .rw, 0x0, 0xFFF, 0x0, []⟩,  -- ING_C37_SEL
  ⟨0x180074, [], .ro, 0x0, 0x0, 0x0, []⟩,  -- ING_C37_STATUS
  ⟨0x180078, [], .ro, 0x0, 0x0, 0x0, []⟩,  -- ING_C37_IDCODE
  ⟨0x18007C, [], .ro, 0x0, 0x0, 0x0, []⟩,  -- ING_C37_FRM_CNT
  ⟨0x180080, [(0x4, 32)], .rc, 0x0, 0x0, 0x0, []⟩,  -- ING_DROP_CNT[c]
  ⟨0x180100, [(0x10, 8)], .rws, 0x0, 0xFFFFFFFF, 0x0, []⟩,  -- ING_PORT[p]_IPV4
  ⟨0x180104, [(0x10, 8)], .rws, 0x0, 0x3, 0x0, []⟩,  -- ING_PORT[p]_TRUST
  ⟨0x180108, [(0x10, 8)], .ro, 0x0, 0x0, 0x0, []⟩,  -- ING_PORT[p]_RX_CNT
  ⟨0x180200, [(0x4, 16)], .rws, 0x0, 0xFF1FFF, 0x0, []⟩,  -- ING_TRUST_VLAN[i]
  ⟨0x180300, [(0x10, 4)], .ro, 0x0, 0x0, 0x0, []⟩,  -- ING_IQ[q]_DEPTH
  ⟨0x180304, [(0x10, 4)], .ro, 0x0, 0x0, 0x0, []⟩,  -- ING_IQ[q]_CAP
  ⟨0x180308, [(0x10, 4)], .rc, 0x0, 0x0, 0x0, []⟩,  -- ING_IQ[q]_GAP_CNT
  ⟨0x18030C, [(0x10, 4)], .rc, 0x0, 0x0, 0x0, []⟩,  -- ING_IQ[q]_MAX_DEPTH
  ⟨0x180400, [(0x10, 16)], .rws, 0x0, 0x7FFFFFFF, 0x0, []⟩,  -- ING_SV[s]_CFG
  ⟨0x180404, [(0x10, 16)], .rws, 0x0, 0xFFFFFFFF, 0x0, []⟩,  -- ING_SV[s]_CONFREV
  ⟨0x180408, [(0x10, 16)], .ro, 0x0, 0x0, 0x0, []⟩,  -- ING_SV[s]_RX_CNT
  ⟨0x18040C, [(0x10, 16)], .rc, 0x0, 0x0, 0x0, []⟩,  -- ING_SV[s]_ERR_CNT
  ⟨0x180600, [(0x4, 64)], .rws, 0x0, 0x3FF, 0x0, [⟨8, 4, [(0, 23)]⟩]⟩ ]  -- ING_VC_MAP[v]

/-- Registers of block ALN. -/
def regAlna : List RegRow := [
  ⟨0x1C0000, [], .rws, 0x0, 0x1, 0x0, []⟩,  -- ALN_CTL
  ⟨0x1C0004, [], .ro, 0x0, 0x0, 0x0, []⟩,  -- ALN_STATUS
  ⟨0x1C0008, [], .rws, 0x2, 0xF, 0x0, [⟨3, 0, [(1, 15)]⟩]⟩,  -- ALN_WAIT
  ⟨0x1C000C, [], .rws, 0x0, 0x3FF, 0x0, []⟩,  -- ALN_SLOW_LEN
  ⟨0x1C0010, [], .ro, 0x0, 0x0, 0x0, []⟩,  -- ALN_OPEN_SEQ_LO
  ⟨0x1C0014, [], .ro, 0x0, 0x0, 0x0, []⟩,  -- ALN_OPEN_SEQ_HI
  ⟨0x1C0018, [], .ro, 0x0, 0x0, 0x0, []⟩,  -- ALN_CLOSED_SEQ_LO
  ⟨0x1C001C, [], .ro, 0x0, 0x0, 0x0, []⟩,  -- ALN_CLOSED_SEQ_HI
  ⟨0x1C0020, [], .w1c, 0x0, 0x3F, 0x0, []⟩,  -- ALN_INT_STATUS
  ⟨0x1C0024, [], .rw, 0x0, 0x3F, 0x0, []⟩,  -- ALN_INT_EN
  ⟨0x1C0028, [], .rws, 0x10200, 0xFFFFFFFF, 0x0, []⟩,  -- ALN_MISS_THR
  ⟨0x1C002C, [], .ro, 0x0, 0x0, 0x0, []⟩,  -- ALN_LAST_PRESENT
  ⟨0x1C0030, [], .ro, 0x0, 0x0, 0x0, []⟩,  -- ALN_LAST_MISSING
  ⟨0x1C0034, [], .rc, 0x0, 0x0, 0x0, []⟩,  -- ALN_LATE_CNT
  ⟨0x1C0038, [], .rc, 0x0, 0x0, 0x0, []⟩,  -- ALN_DUP_CNT
  ⟨0x1C003C, [], .rc, 0x0, 0x0, 0x0, []⟩,  -- ALN_DUP_DIFF_CNT
  ⟨0x1C0040, [], .rc, 0x0, 0x0, 0x0, []⟩,  -- ALN_EARLY_CNT
  ⟨0x1C0044, [], .rc, 0x0, 0x0, 0x0, []⟩,  -- ALN_EARLY_DROP
  ⟨0x1C0048, [], .ro, 0x0, 0x0, 0x0, []⟩,  -- ALN_EARLY_DEPTH
  ⟨0x1C0050, [(0x4, 8)], .rc, 0x0, 0x0, 0x0, []⟩,  -- ALN_LATE_HIST[b]
  ⟨0x1C0080, [(0x4, 8)], .rws, 0x0, 0xFFFFFFFF, 0x0, []⟩,  -- ALN_LOC_EN[i]
  ⟨0x1C0100, [], .rw, 0x0, 0xF01FFFF, 0x0, [⟨16, 0, [(0, 65791)]⟩]⟩,  -- ALN_ENT_SEL
  ⟨0x1C0104, [], .ro, 0x0, 0x0, 0x0, []⟩,  -- ALN_ENT_STATUS
  ⟨0x1C0108, [], .ro, 0x0, 0x0, 0x0, []⟩,  -- ALN_ENT_SEQ_LO
  ⟨0x1C010C, [], .ro, 0x0, 0x0, 0x0, []⟩,  -- ALN_ENT_SEQ_HI
  ⟨0x1C0110, [(0x4, 8)], .ro, 0x0, 0x0, 0x0, []⟩,  -- ALN_ENT_DATA[i]
  ⟨0x1C0200, [], .rws, 0x0, 0x3, 0x0, []⟩,  -- ALN_EXP_CFG
  ⟨0x1C0204, [], .rws, 0x0, 0x1FFFF, 0x0, []⟩,  -- ALN_EXP_FIRST
  ⟨0x1C0208, [], .rws, 0x1, 0x1FFFF, 0x0, [⟨16, 0, [(1, 65792)]⟩]⟩,  -- ALN_EXP_COUNT
  ⟨0x1C020C, [], .rw, 0x0, 0xFFFFFFFF, 0x0, []⟩,  -- ALN_EXP_BASE_LO
  ⟨0x1C0210, [], .rw, 0x0, 0xFFFFFFFF, 0x0, []⟩,  -- ALN_EXP_BASE_HI
  ⟨0x1C0214, [], .rw, 0x0, 0xFFFFFFFF, 0x0, []⟩,  -- ALN_EXP_SIZE
  ⟨0x1C0218, [], .ro, 0x0, 0x0, 0x0, []⟩,  -- ALN_EXP_HEAD
  ⟨0x1C021C, [], .rw, 0x0, 0xFFFFFFFF, 0x0, []⟩,  -- ALN_EXP_TAIL
  ⟨0x1C0220, [], .rc, 0x0, 0x0, 0x0, []⟩,  -- ALN_EXP_DROP_CNT
  ⟨0x1C1000, [(0x40, 64)], .rws, 0x100, 0xFFFF7F, 0x0, [⟨15, 8, [(1, 255)]⟩]⟩,  -- ALN_STR[s]_CFG
  ⟨0x1C1004, [(0x40, 64)], .ro, 0x0, 0x0, 0x0, []⟩,  -- ALN_STR[s]_STATUS
  ⟨0x1C1008, [(0x40, 64)], .rws, 0x0, 0xFFFFFFFF, 0x0, []⟩,  -- ALN_STR[s]_DST_IPV4
  ⟨0x1C100C, [(0x40, 64)], .rws, 0x0, 0xFFFFFFFF, 0x0, []⟩,  -- ALN_STR[s]_PORTS
  ⟨0x1C1010, [(0x40, 64)], .ro, 0x0, 0x0, 0x0, []⟩,  -- ALN_STR[s]_FRM_CNT
  ⟨0x1C1014, [(0x40, 64)], .rc, 0x0, 0x0, 0x0, []⟩,  -- ALN_STR[s]_DROP_CNT
  ⟨0x1C1018, [(0x40, 64)], .ro, 0x0, 0x0, 0x0, []⟩,  -- ALN_STR[s]_LAST_SEQ_LO
  ⟨0x1C101C, [(0x40, 64)], .ro, 0x0, 0x0, 0x0, []⟩,  -- ALN_STR[s]_LAST_SEQ_HI
  ⟨0x1C1020, [(0x40, 64)], .ro, 0x0, 0x0, 0x0, []⟩,  -- ALN_STR[s]_CMD_CNT
  ⟨0x1C1024, [(0x40, 64)], .rc, 0x0, 0x0, 0x0, []⟩ ]  -- ALN_STR[s]_CMD_IGN_CNT

/-- Registers of block ALN. -/
def regAlnb : List RegRow := [
  ⟨0x1C2000, [(0x20, 16)], .rws, 0x3E80400, 0xFFFFFF01, 0x0, []⟩,  -- ALN_GO[g]_CFG
  ⟨0x1C2004, [(0x20, 16)], .ro, 0x0, 0x0, 0x0, []⟩,  -- ALN_GO[g]_STATUS
  ⟨0x1C2008, [(0x20, 16)], .ro, 0x0, 0x0, 0x0, []⟩,  -- ALN_GO[g]_STNUM
  ⟨0x1C200C, [(0x20, 16)], .ro, 0x0, 0x0, 0x0, []⟩,  -- ALN_GO[g]_SQNUM
  ⟨0x1C2010, [(0x20, 16)], .ro, 0x0, 0x0, 0x0, []⟩,  -- ALN_GO[g]_TX_CNT
  ⟨0x1C2014, [(0x20, 16)], .ro, 0x0, 0x0, 0x0, []⟩,  -- ALN_GO[g]_VAL_LO
  ⟨0x1C2018, [(0x20, 16)], .ro, 0x0, 0x0, 0x0, []⟩ ]  -- ALN_GO[g]_VAL_HI

/-- Registers of block OSC. -/
def regOsc : List RegRow := [
  ⟨0x200000, [], .rws, 0x0, 0x1, 0x0, []⟩,  -- OSC_CTL
  ⟨0x200004, [], .rws, 0x1F40022, 0xFFF00FF, 0x0, [⟨3, 0, [(1, 8)]⟩,⟨27, 16, [(16, 4095)]⟩]⟩,  -- OSC_CFG
  ⟨0x200008, [], .rws, 0x4E20, 0xFFFFFFFF, 0x0, [⟨31, 0, [(1000, 600000)]⟩]⟩,  -- OSC_TRK_TAU
  ⟨0x20000C, [], .ro, 0x0, 0x0, 0x0, []⟩,  -- OSC_STATUS
  ⟨0x200010, [], .w1c, 0x0, 0x1F, 0x0, []⟩,  -- OSC_INT_STATUS
  ⟨0x200014, [], .rw, 0x0, 0x1F, 0x0, []⟩,  -- OSC_INT_EN
  ⟨0x200018, [], .ro, 0x0, 0x0, 0x0, []⟩,  -- OSC_UPD_SEQ_LO
  ⟨0x20001C, [], .ro, 0x0, 0x0, 0x0, []⟩,  -- OSC_UPD_SEQ_HI
  ⟨0x200020, [], .ro, 0x0, 0x0, 0x0, []⟩,  -- OSC_ALARM
  ⟨0x200024, [], .ro, 0x0, 0x0, 0x0, []⟩,  -- OSC_SIG_INVALID_CNT
  ⟨0x200100, [], .rw, 0x0, 0x730FFF, 0x0, [⟨17, 16, [(0, 2)]⟩]⟩,  -- OSC_SIG_SEL
  ⟨0x200104, [], .ro, 0x0, 0x0, 0x0, []⟩,  -- OSC_SIG_STATUS
  ⟨0x200110, [(0x4, 8)], .rws, 0x0, 0xFFFFFFFF, 0x0, []⟩,  -- OSC_SIG_DATA[i]
  ⟨0x201000, [(0x100, 16)], .rws, 0x3F0000, 0xFFFF0F, 0x0, []⟩,  -- OSC_TRK[t]_CFG
  ⟨0x201004, [(0x100, 16)], .rws, 0x10000, 0x1FFF0FFF, 0x0, []⟩,  -- OSC_TRK[t]_LIST
  ⟨0x201008, [(0x100, 16)], .rws, 0x3200000, 0xFFFF0FFF, 0x0, []⟩,  -- OSC_TRK[t]_REF
  ⟨0x20100C, [(0x100, 16)], .rws, 0x32012C, 0xFFFFFFFF, 0x0, []⟩,  -- OSC_TRK[t]_DAMP_THR
  ⟨0x201010, [(0x100, 16)], .rws, 0x7FFFFFFF, 0xFFFFFFFF, 0x0, []⟩,  -- OSC_TRK[t]_AMP_THR
  ⟨0x201014, [(0x100, 16)], .rws, 0x0, 0xFFFFFFFF, 0x0, []⟩,  -- OSC_TRK[t]_AMP_HYST
  ⟨0x201018, [(0x100, 16)], .rws, 0x0, 0xFFFFFFFF, 0x0, []⟩,  -- OSC_TRK[t]_AMP_MIN
  ⟨0x20101C, [(0x100, 16)], .rws, 0x10001, 0xFFFFFFFF, 0x0, []⟩,  -- OSC_TRK[t]_PERSIST
  ⟨0x201020, [(0x100, 16)], .rws, 0x0, 0xFFFF, 0x0, []⟩,  -- OSC_TRK[t]_AO_MASK
  ⟨0x201024, [(0x100, 16)], .ro, 0x0, 0x0, 0x0, []⟩,  -- OSC_TRK[t]_STATUS
  ⟨0x201028, [(0x100, 16)], .ro, 0x0, 0x0, 0x0, []⟩,  -- OSC_TRK[t]_FREQ
  ⟨0x20102C, [(0x100, 16)], .ro, 0x0, 0x0, 0x0, []⟩,  -- OSC_TRK[t]_DAMP
  ⟨0x201030, [(0x100, 16)], .ro, 0x0, 0x0, 0x0, []⟩,  -- OSC_TRK[t]_AMP
  ⟨0x201034, [(0x100, 16)], .ro, 0x0, 0x0, 0x0, []⟩,  -- OSC_TRK[t]_AMP_MAX
  ⟨0x201038, [(0x100, 16), (0x4, 4)], .ro, 0x0, 0x0, 0x0, []⟩,  -- OSC_TRK[t]_LAMBDA_RT[j]
  ⟨0x201048, [(0x100, 16)], .rw, 0x0, 0xFFF, 0x0, []⟩,  -- OSC_TRK[t]_SHAPE_SEL
  ⟨0x20104C, [(0x100, 16)], .ro, 0x0, 0x0, 0x0, []⟩,  -- OSC_TRK[t]_SHAPE_DATA
  ⟨0x201050, [(0x100, 16)], .ro, 0x0, 0x0, 0x0, []⟩,  -- OSC_TRK[t]_SHAPE_PART
  ⟨0x201054, [(0x100, 16)], .rc, 0x0, 0x0, 0x0, []⟩,  -- OSC_TRK[t]_ALARM_CNT
  ⟨0x201058, [(0x100, 16)], .ro, 0x0, 0x0, 0x0, []⟩,  -- OSC_TRK[t]_LAST_SEQ_LO
  ⟨0x20105C, [(0x100, 16)], .ro, 0x0, 0x0, 0x0, []⟩ ]  -- OSC_TRK[t]_LAST_SEQ_HI

/-- Registers of block ISL. -/
def regIsl : List RegRow := [
  ⟨0x240000, [], .rws, 0x0, 0x1, 0x0, []⟩,  -- ISL_CTL
  ⟨0x240004, [], .ro, 0x0, 0x0, 0x0, []⟩,  -- ISL_STATUS
  ⟨0x240008, [], .w1c, 0x0, 0x7F, 0x0, []⟩,  -- ISL_INT_STATUS
  ⟨0x24000C, [], .rw, 0x0, 0x7F, 0x0, []⟩,  -- ISL_INT_EN
  ⟨0x240010, [], .rws, 0x25B3, 0xFFFF, 0x0, []⟩,  -- ISL_CMD_UDP_PORT
  ⟨0x240014, [], .ro, 0x0, 0x0, 0x0, []⟩,  -- ISL_UPD_SEQ_LO
  ⟨0x240018, [], .ro, 0x0, 0x0, 0x0, []⟩,  -- ISL_UPD_SEQ_HI
  ⟨0x24001C, [], .rc, 0x0, 0x0, 0x0, []⟩,  -- ISL_UNLATCH_IGN_CNT
  ⟨0x240040, [(0x4, 32)], .ro, 0x0, 0x0, 0x0, []⟩,  -- ISL_ALARM[i]
  ⟨0x240100, [], .rw, 0x0, 0x103FF, 0x0, []⟩,  -- ISL_GRP_SEL
  ⟨0x240104, [], .ro, 0x0, 0x0, 0x0, []⟩,  -- ISL_GRP_STATUS
  ⟨0x240110, [(0x4, 17)], .rws, 0x0, 0xFFFFFFFF, 0x0, []⟩,  -- ISL_GRP_DATA[i]
  ⟨0x240300, [], .wo, 0x0, 0xFFFF73FF, 0xFFFF73FF, []⟩,  -- ISL_HOST_CMD
  ⟨0x240304, [], .ro, 0x0, 0x0, 0x0, []⟩,  -- ISL_HOST_CMD_STATUS
  ⟨0x240308, [], .wo, 0x0, 0x3FF, 0x3FF, []⟩,  -- ISL_UNLATCH
  ⟨0x240400, [(0x8, 32)], .rws, 0x0, 0xFFFFF, 0x0, []⟩,  -- ISL_REF[r]_CFG
  ⟨0x240404, [(0x8, 32)], .ro, 0x0, 0x0, 0x0, []⟩,  -- ISL_REF[r]_STATUS
  ⟨0x244000, [(0x10, 1024)], .ro, 0x0, 0x0, 0x0, []⟩,  -- ISL_CG[c]_STATUS
  ⟨0x244004, [(0x10, 1024)], .ro, 0x0, 0x0, 0x0, []⟩,  -- ISL_CG[c]_LAST_SEQ
  ⟨0x244008, [(0x10, 1024)], .ro, 0x0, 0x0, 0x0, []⟩,  -- ISL_CG[c]_UNACK
  ⟨0x24400C, [(0x10, 1024)], .ro, 0x0, 0x0, 0x0, []⟩ ]  -- ISL_CG[c]_SENT_CNT

/-- Registers of block SCH. -/
def regSch : List RegRow := [
  ⟨0x280000, [], .rws, 0x10308, 0xFFFF1F, 0x0, [⟨4, 0, [(1, 16)]⟩,⟨15, 8, [(1, 255)]⟩,⟨23, 16, [(1, 255)]⟩]⟩,  -- SCH_CTL
  ⟨0x280004, [], .ro, 0x0, 0x0, 0x0, []⟩,  -- SCH_STATUS
  ⟨0x280008, [], .rws, 0x14, 0xFFFFFFFF, 0x0, [⟨31, 0, [(0, 1000)]⟩]⟩,  -- SCH_PATIENCE
  ⟨0x28000C, [], .rws, 0x400, 0xFFFFFFFF, 0x0, [⟨31, 0, [(16, 65535)]⟩]⟩,  -- SCH_FRAME
  ⟨0x280010, [], .w1c, 0x0, 0x7F, 0x0, []⟩,  -- SCH_INT_STATUS
  ⟨0x280014, [], .rw, 0x0, 0x7F, 0x0, []⟩,  -- SCH_INT_EN
  ⟨0x280018, [], .rw, 0x0, 0x1, 0x0, []⟩,  -- SCH_WING_SEL
  ⟨0x28001C, [], .ro, 0x0, 0x0, 0x0, []⟩,  -- SCH_CRIT_END
  ⟨0x280020, [], .rc, 0x0, 0x0, 0x0, []⟩,  -- SCH_CRIT_END_MAX
  ⟨0x280024, [], .rc, 0x0, 0x0, 0x0, []⟩,  -- SCH_OVERRUN_CNT
  ⟨0x280028, [], .ro, 0x0, 0x0, 0x0, []⟩,  -- SCH_CAT_ROM
  ⟨0x28002C, [], .ro, 0x0, 0x0, 0x0, []⟩,  -- SCH_PATCH_CNT
  ⟨0x280030, [], .rw, 0x0, 0xFFFFFFFF, 0x0, []⟩,  -- SCH_STATS_BASE_LO
  ⟨0x280034, [], .rw, 0x0, 0xFFFFFFFF, 0x0, []⟩,  -- SCH_STATS_BASE_HI
  ⟨0x280038, [], .rw, 0x0, 0xFFFFFFFF, 0x0, []⟩,  -- SCH_STATS_SIZE
  ⟨0x28003C, [], .ro, 0x0, 0x0, 0x0, []⟩,  -- SCH_STATS_HEAD
  ⟨0x280040, [], .rw, 0x0, 0xFFFFFFFF, 0x0, []⟩,  -- SCH_STATS_TAIL
  ⟨0x280044, [], .rc, 0x0, 0x0, 0x0, []⟩,  -- SCH_STATS_DROP_CNT
  ⟨0x280048, [], .rc, 0x0, 0x0, 0x0, []⟩,  -- SCH_LATE_SAT_CNT
  ⟨0x280100, [(0x10, 3)], .ro, 0x0, 0x0, 0x0, []⟩,  -- SCH_CLASS[c]_DEPTH
  ⟨0x280104, [(0x10, 3)], .rc, 0x0, 0x0, 0x0, []⟩,  -- SCH_CLASS[c]_MAX_DEPTH
  ⟨0x280108, [(0x10, 3)], .ro, 0x0, 0x0, 0x0, []⟩,  -- SCH_CLASS[c]_DONE
  ⟨0x28010C, [(0x10, 3)], .rc, 0x0, 0x0, 0x0, []⟩,  -- SCH_CLASS[c]_LATE_CNT
  ⟨0x280200, [(0x20, 3), (0x4, 8)], .rc, 0x0, 0x0, 0x0, []⟩,  -- SCH_WAIT_HIST[c][b]
  ⟨0x280280, [(0x4, 8)], .rc, 0x0, 0x0, 0x0, []⟩,  -- SCH_LATE_HIST[b]
  ⟨0x280400, [(0x10, 64)], .rws, 0x100, 0x1FF03, 0x0, [⟨15, 8, [(1, 255)]⟩]⟩,  -- SCH_RL[i]_CFG
  ⟨0x280404, [(0x10, 64)], .ro, 0x0, 0x0, 0x0, []⟩,  -- SCH_RL[i]_DEPTH
  ⟨0x280408, [(0x10, 64)], .ro, 0x0, 0x0, 0x0, []⟩,  -- SCH_RL[i]_DEFICIT
  ⟨0x28040C, [(0x10, 64)], .rc, 0x0, 0x0, 0x0, []⟩,  -- SCH_RL[i]_NOCREDIT_CNT
  ⟨0x280800, [(0x10, 16)], .ro, 0x0, 0x0, 0x0, []⟩,  -- SCH_CORE[k]_STATUS
  ⟨0x280804, [(0x10, 16)], .ro, 0x0, 0x0, 0x0, []⟩,  -- SCH_CORE[k]_LOAD
  ⟨0x280808, [(0x10, 16)], .ro, 0x0, 0x0, 0x0, []⟩,  -- SCH_CORE[k]_ITEMS
  ⟨0x28080C, [(0x10, 16)], .rc, 0x0, 0x0, 0x0, []⟩,  -- SCH_CORE[k]_MEM_ERR_CNT
  ⟨0x281000, [], .rw, 0x0, 0xFFFF, 0x0, []⟩,  -- SCH_CAT_SEL
  ⟨0x281004, [], .ro, 0x0, 0x0, 0x0, []⟩,  -- SCH_CAT_INFO
  ⟨0x281008, [], .ro, 0x0, 0x0, 0x0, []⟩,  -- SCH_CAT_WC_FIX
  ⟨0x28100C, [], .ro, 0x0, 0x0, 0x0, []⟩ ]  -- SCH_CAT_WC_VAR

/-- Registers of block PWR. -/
def regPwr : List RegRow := [
  ⟨0x4C0000, [], .rws, 0x1, 0x1, 0x0, []⟩,  -- PWR_CTL
  ⟨0x4C0004, [], .ro, 0x0, 0x0, 0x0, []⟩,  -- PWR_STATUS
  ⟨0x4C0008, [], .rws, 0x226, 0xFFFFFFFF, 0x0, [⟨31, 0, [(200, 550)]⟩]⟩,  -- PWR_LIMIT
  ⟨0x4C000C, [], .ro, 0x0, 0x0, 0x0, []⟩,  -- PWR_NECTAR
  ⟨0x4C0010, [], .rws, 0x7D0, 0xFFFFFFFF, 0x0, [⟨31, 0, [(100, 60000)]⟩]⟩,  -- PWR_NECTAR_CAP
  ⟨0x4C0014, [], .rws, 0x3E8, 0xFFFFFFFF, 0x0, []⟩,  -- PWR_NECTAR_LOW
  ⟨0x4C0018, [], .rws, 0x5DC, 0xFFFFFFFF, 0x0, []⟩,  -- PWR_NECTAR_DEFER
  ⟨0x4C001C, [], .rws, 0x3B6, 0xFFFFFFFF, 0x0, [⟨31, 0, [(800, 1040)]⟩]⟩,  -- PWR_T_DERATE
  ⟨0x4C0020, [], .ro, 0x0, 0x0, 0x0, []⟩,  -- PWR_POWER
  ⟨0x4C0024, [], .ro, 0x0, 0x0, 0x0, []⟩,  -- PWR_TEMP_MAX
  ⟨0x4C0028, [], .ro, 0x6400640, 0x0, 0x0, []⟩,  -- PWR_CLK
  ⟨0x4C002C, [], .w1c, 0x0, 0x1F, 0x0, []⟩,  -- PWR_INT_STATUS
  ⟨0x4C0030, [], .rw, 0x0, 0x1F, 0x0, []⟩,  -- PWR_INT_EN
  ⟨0x4C0034, [], .ro, 0x0, 0x0, 0x0, []⟩,  -- PWR_ENERGY_LO
  ⟨0x4C0038, [], .ro, 0x0, 0x0, 0x0, []⟩,  -- PWR_ENERGY_HI
  ⟨0x4C0040, [(0x4, 9)], .ro, 0x0, 0x0, 0x0, []⟩,  -- PWR_TEMP[s]
  ⟨0x4C0080, [(0x10, 2)], .ro, 0x0, 0x0, 0x0, []⟩,  -- PWR_WEAR[w]_HOURS
  ⟨0x4C0084, [(0x10, 2)], .ro, 0x0, 0x0, 0x0, []⟩,  -- PWR_WEAR[w]_EQ
  ⟨0x4C0088, [(0x10, 2)], .ro, 0x0, 0x0, 0x0, []⟩,  -- PWR_WEAR[w]_AHEAD
  ⟨0x4C008C, [(0x10, 2)], .ro, 0x640, 0x0, 0x0, []⟩ ]  -- PWR_WEAR[w]_CAP

/-- Registers of block QUE. -/
def regQue : List RegRow := [
  ⟨0x2C0000, [], .ro, 0x0, 0x0, 0x0, []⟩,  -- QUE_STATUS
  ⟨0x2C0004, [], .ro, 0x0, 0x0, 0x0, []⟩,  -- QUE_WORDS_USED
  ⟨0x2C0008, [], .w1c, 0x0, 0xF, 0x0, []⟩,  -- QUE_INT_STATUS
  ⟨0x2C000C, [], .rw, 0x0, 0xF, 0x0, []⟩,  -- QUE_INT_EN
  ⟨0x2C0010, [], .rc, 0x0, 0x0, 0x0, []⟩,  -- QUE_CE_TOTAL
  ⟨0x2C0014, [], .rc, 0x0, 0x0, 0x0, []⟩,  -- QUE_UE_TOTAL
  ⟨0x2C0018, [], .ro, 0x0, 0x0, 0x0, []⟩,  -- QUE_SCRUB_PASS
  ⟨0x2C0020, [], .wo, 0x0, 0x31FF, 0x31FF, []⟩,  -- QUE_CMD
  ⟨0x2C0024, [], .ro, 0x0, 0x0, 0x0, []⟩,  -- QUE_CMD_STATUS
  ⟨0x2C0028, [], .rw, 0x0, 0x1, 0x0, []⟩,  -- QUE_WING_SEL
  ⟨0x2C1000, [(0x40, 512)], .rws, 0x0, 0x1F1F1F, 0x0, []⟩,  -- QUE_Q[q]_CFG
  ⟨0x2C1004, [(0x40, 512)], .rws, 0x0, 0x1FFFF, 0x0, []⟩,  -- QUE_Q[q]_CAP
  ⟨0x2C1008, [(0x40, 512)], .rws, 0x0, 0xFFFFFFFF, 0x0, []⟩,  -- QUE_Q[q]_VSERV
  ⟨0x2C100C, [(0x40, 512)], .rws, 0x0, 0x1FFFF, 0x0, []⟩,  -- QUE_Q[q]_VCAP
  ⟨0x2C1010, [(0x40, 512)], .ro, 0x0, 0x0, 0x0, []⟩,  -- QUE_Q[q]_BASE
  ⟨0x2C1014, [(0x40, 512)], .ro, 0x0, 0x0, 0x0, []⟩,  -- QUE_Q[q]_DEPTH
  ⟨0x2C1018, [(0x40, 512)], .ro, 0x0, 0x0, 0x0, []⟩,  -- QUE_Q[q]_OCC
  ⟨0x2C101C, [(0x40, 512)], .rc, 0x0, 0x0, 0x0, []⟩,  -- QUE_Q[q]_MAX_DEPTH
  ⟨0x2C1020, [(0x40, 512)], .rc, 0x0, 0x0, 0x0, []⟩,  -- QUE_Q[q]_DROP_CNT
  ⟨0x2C1024, [(0x40, 512)], .rc, 0x0, 0x0, 0x0, []⟩,  -- QUE_Q[q]_GAP_CNT
  ⟨0x2C1028, [(0x40, 512)], .rc, 0x0, 0x0, 0x0, []⟩,  -- QUE_Q[q]_FLUSH_CNT
  ⟨0x2C102C, [(0x40, 512)], .rc, 0x0, 0x0, 0x0, []⟩,  -- QUE_Q[q]_CE_CNT
  ⟨0x2C1030, [(0x40, 512)], .rc, 0x0, 0x0, 0x0, []⟩,  -- QUE_Q[q]_UE_CNT
  ⟨0x2C1034, [(0x40, 512)], .ro, 0x0, 0x0, 0x0, []⟩,  -- QUE_Q[q]_CREDIT
  ⟨0x2C1038, [(0x40, 512)], .ro, 0x0, 0x0, 0x0, []⟩ ]  -- QUE_Q[q]_VDEPTH

/-- Registers of block ACQ. -/
def regAcq : List RegRow := [
  ⟨0x300000, [], .rws, 0x0, 0x3, 0x0, []⟩,  -- ACQ_CTL
  ⟨0x300004, [], .ro, 0x0, 0x0, 0x0, []⟩,  -- ACQ_STATUS
  ⟨0x300008, [], .w1c, 0x0, 0x3F, 0x0, []⟩,  -- ACQ_INT_STATUS
  ⟨0x30000C, [], .rw, 0x0, 0x3F, 0x0, []⟩,  -- ACQ_INT_EN
  ⟨0x300010, [], .rws, 0x7D0, 0xFFFFFFFF, 0x0, [⟨31, 0, [(1, 60000)]⟩]⟩,  -- ACQ_PRE
  ⟨0x300014, [], .rws, 0x3E8, 0xFFFFFFFF, 0x0, [⟨31, 0, [(1, 60000)]⟩]⟩,  -- ACQ_POST
  ⟨0x300018, [], .rws, 0x200, 0xFFFFFFFF, 0x0, [⟨31, 0, [(64, 960)]⟩]⟩,  -- ACQ_RESUME_MB
  ⟨0x30001C, [], .rw, 0x0, 0xFFFFFFFF, 0x0, []⟩,  -- ACQ_RING_BASE_LO
  ⟨0x300020, [], .rw, 0x0, 0xFFFFFFFF, 0x0, []⟩,  -- ACQ_RING_BASE_HI
  ⟨0x300024, [], .rw, 0x0, 0xFFFFFFFF, 0x0, []⟩,  -- ACQ_RING_SIZE
  ⟨0x300028, [], .ro, 0x0, 0x0, 0x0, []⟩,  -- ACQ_RING_HEAD
  ⟨0x30002C, [], .rw, 0x0, 0xFFFFFFFF, 0x0, []⟩,  -- ACQ_RING_TAIL
  ⟨0x300030, [], .ro, 0x0, 0x0, 0x0, []⟩,  -- ACQ_SEQ_LO
  ⟨0x300034, [], .ro, 0x0, 0x0, 0x0, []⟩,  -- ACQ_SEQ_HI
  ⟨0x300038, [], .ro, 0x0, 0x0, 0x0, []⟩,  -- ACQ_UNSENT
  ⟨0x30003C, [], .ro, 0x0, 0x0, 0x0, []⟩,  -- ACQ_HISTORY
  ⟨0x300040, [], .rc, 0x0, 0x0, 0x0, []⟩,  -- ACQ_PAUSE_CNT
  ⟨0x300044, [], .rc, 0x0, 0x0, 0x0, []⟩,  -- ACQ_LOST_CNT
  ⟨0x300048, [], .rc, 0x0, 0x0, 0x0, []⟩,  -- ACQ_DI_MISMATCH_CNT
  ⟨0x300100, [(0x4, 16)], .ro, 0x0, 0x0, 0x0, []⟩,  -- ACQ_BUS[i]
  ⟨0x300140, [(0x4, 16)], .rws, 0x0, 0xFFFFFFFF, 0x0, []⟩,  -- ACQ_REC_EN[i]
  ⟨0x300200, [(0x4, 64)], .rws, 0x1, 0x1FFFF, 0x0, []⟩,  -- ACQ_DI[n]_CFG
  ⟨0x301000, [(0x100, 16)], .rws, 0x0, 0x1FF07, 0x0, []⟩,  -- ACQ_PU[u]_CFG
  ⟨0x301004, [(0x100, 16)], .rws, 0x0, 0xFFFFFFFF, 0x0, [⟨31, 0, [(0, 60000000)]⟩]⟩,  -- ACQ_PU[u]_HOLDOFF
  ⟨0x301008, [(0x100, 16)], .ro, 0x0, 0x0, 0x0, []⟩,  -- ACQ_PU[u]_STATUS
  ⟨0x30100C, [(0x100, 16)], .ro, 0x0, 0x0, 0x0, []⟩,  -- ACQ_PU[u]_MARK_CNT
  ⟨0x301010, [(0x100, 16), (0x4, 16)], .rws, 0x0, 0xFFFFFFFF, 0x0, []⟩,  -- ACQ_PU[u]_MASK[i]
  ⟨0x301050, [(0x100, 16), (0x4, 16)], .rws, 0x0, 0xFFFFFFFF, 0x0, []⟩,  -- ACQ_PU[u]_VALUE[i]
  ⟨0x302000, [(0x40, 8)], .rws, 0x11108, 0xFFFFF, 0x0, [⟨2, 1, [(0, 2)]⟩,⟨7, 3, [(1, 2), (4, 4), (8, 8), (16, 16)]⟩,⟨11, 8, [(1, 8)]⟩,⟨15, 12, [(1, 8)]⟩,⟨19, 16, [(1, 9)]⟩]⟩,  -- ACQ_WG[g]_CFG
  ⟨0x302004, [(0x40, 8)], .rws, 0x0, 0xFFFFFFFF, 0x0, []⟩,  -- ACQ_WG[g]_CH_LO
  ⟨0x302008, [(0x40, 8)], .rws, 0x0, 0xFFFFFFFF, 0x0, []⟩,  -- ACQ_WG[g]_CH_HI
  ⟨0x30200C, [(0x40, 8)], .ro, 0x0, 0x0, 0x0, []⟩,  -- ACQ_WG[g]_BLOCK_CNT
  ⟨0x302010, [(0x40, 8)], .rc, 0x0, 0x0, 0x0, []⟩ ]  -- ACQ_WG[g]_RAW_CNT

/-- Registers of block CMP. -/
def regCmp : List RegRow := [
  ⟨0x340000, [], .rws, 0x0, 0x1, 0x0, []⟩,  -- CMP_CTL
  ⟨0x340004, [], .ro, 0x3, 0x0, 0x0, []⟩,  -- CMP_STATUS
  ⟨0x340008, [], .w1c, 0x0, 0x1F, 0x0, []⟩,  -- CMP_INT_STATUS
  ⟨0x34000C, [], .rw, 0x0, 0x1F, 0x0, []⟩,  -- CMP_INT_EN
  ⟨0x340010, [], .rw, 0x0, 0x1, 0x0, []⟩,  -- CMP_WING_SEL
  ⟨0x340020, [], .rw, 0x0, 0xFFFFFFFF, 0x0, []⟩,  -- CMP_SQ_BASE_LO
  ⟨0x340024, [], .rw, 0x0, 0xFFFFFFFF, 0x0, []⟩,  -- CMP_SQ_BASE_HI
  ⟨0x340028, [], .rw, 0x0, 0x1FFF, 0x0, []⟩,  -- CMP_SQ_SIZE
  ⟨0x34002C, [], .rw, 0x0, 0xFFF, 0x0, []⟩,  -- CMP_SQ_HEAD
  ⟨0x340030, [], .ro, 0x0, 0x0, 0x0, []⟩,  -- CMP_SQ_TAIL
  ⟨0x340034, [], .rw, 0x0, 0xFFFFFFFF, 0x0, []⟩,  -- CMP_CQ_BASE_LO
  ⟨0x340038, [], .rw, 0x0, 0xFFFFFFFF, 0x0, []⟩,  -- CMP_CQ_BASE_HI
  ⟨0x34003C, [], .rw, 0x0, 0x1FFF, 0x0, []⟩,  -- CMP_CQ_SIZE
  ⟨0x340040, [], .ro, 0x0, 0x0, 0x0, []⟩,  -- CMP_CQ_HEAD
  ⟨0x340044, [], .rw, 0x0, 0xFFF, 0x0, []⟩,  -- CMP_CQ_TAIL
  ⟨0x340048, [], .ro, 0x0, 0x0, 0x0, []⟩,  -- CMP_HOST_IDX
  ⟨0x34004C, [], .rc, 0x0, 0x0, 0x0, []⟩,  -- CMP_HOST_ABORT_CNT
  ⟨0x340050, [], .rc, 0x0, 0x0, 0x0, []⟩,  -- CMP_BAD_DESC_CNT
  ⟨0x340100, [(0x40, 2)], .ro, 0x0, 0x0, 0x0, []⟩,  -- CMP_E[e]_STATUS
  ⟨0x340104, [(0x40, 2)], .ro, 0x0, 0x0, 0x0, []⟩,  -- CMP_E[e]_JOBS
  ⟨0x340108, [(0x40, 2)], .ro, 0x0, 0x0, 0x0, []⟩,  -- CMP_E[e]_IN_LO
  ⟨0x34010C, [(0x40, 2)], .ro, 0x0, 0x0, 0x0, []⟩,  -- CMP_E[e]_IN_HI
  ⟨0x340110, [(0x40, 2)], .ro, 0x0, 0x0, 0x0, []⟩,  -- CMP_E[e]_OUT_LO
  ⟨0x340114, [(0x40, 2)], .ro, 0x0, 0x0, 0x0, []⟩,  -- CMP_E[e]_OUT_HI
  ⟨0x340118, [(0x40, 2)], .rc, 0x0, 0x0, 0x0, []⟩,  -- CMP_E[e]_NOT_SMALLER_CNT
  ⟨0x34011C, [(0x40, 2)], .rc, 0x0, 0x0, 0x0, []⟩,  -- CMP_E[e]_OUT_FULL_CNT
  ⟨0x340120, [(0x40, 2)], .rc, 0x0, 0x0, 0x0, []⟩,  -- CMP_E[e]_VERIFY_FAIL_CNT
  ⟨0x340124, [(0x40, 2)], .ro, 0x0, 0x0, 0x0, []⟩ ]  -- CMP_E[e]_BUSY_US

/-- Registers of block REC. -/
def regRec : List RegRow := [
  ⟨0x380000, [], .rw, 0x4010, 0xFFFF, 0x0, [⟨7, 0, [(1, 255)]⟩,⟨15, 8, [(1, 255)]⟩]⟩,  -- REC_CTL
  ⟨0x380004, [], .ro, 0x0, 0x0, 0x0, []⟩,  -- REC_STATUS
  ⟨0x380008, [], .w1c, 0x0, 0x3F, 0x0, []⟩,  -- REC_INT_STATUS
  ⟨0x38000C, [], .rw, 0x0, 0x3F, 0x0, []⟩,  -- REC_INT_EN
  ⟨0x380010, [], .ro, 0x0, 0x0, 0x0, []⟩,  -- REC_NEWEST_LO
  ⟨0x380014, [], .ro, 0x0, 0x0, 0x0, []⟩,  -- REC_NEWEST_HI
  ⟨0x380018, [], .ro, 0x0, 0x0, 0x0, []⟩,  -- REC_OLDEST_LO
  ⟨0x38001C, [], .ro, 0x0, 0x0, 0x0, []⟩,  -- REC_OLDEST_HI
  ⟨0x380020, [], .ro, 0x0, 0x0, 0x0, []⟩,  -- REC_SEQ_FLOOR_LO
  ⟨0x380024, [], .ro, 0x0, 0x0, 0x0, []⟩,  -- REC_SEQ_FLOOR_HI
  ⟨0x380028, [], .ro, 0x0, 0x0, 0x0, []⟩,  -- REC_FILL
  ⟨0x38002C, [], .rc, 0x0, 0x0, 0x0, []⟩,  -- REC_LOST_CNT
  ⟨0x380030, [], .rc, 0x0, 0x0, 0x0, []⟩,  -- REC_NV_SKIP_CNT
  ⟨0x380034, [], .ro, 0x0, 0x0, 0x0, []⟩,  -- REC_NV_OLDEST_LO
  ⟨0x380038, [], .ro, 0x0, 0x0, 0x0, []⟩,  -- REC_NV_OLDEST_HI
  ⟨0x38003C, [], .ro, 0x0, 0x0, 0x0, []⟩,  -- REC_NV_NEWEST_LO
  ⟨0x380040, [], .ro, 0x0, 0x0, 0x0, []⟩,  -- REC_NV_NEWEST_HI
  ⟨0x380044, [], .ro, 0x0, 0x0, 0x0, []⟩,  -- REC_NV_FILL
  ⟨0x380048, [], .rc, 0x0, 0x0, 0x0, []⟩,  -- REC_NV_ERR_CNT
  ⟨0x380050, [], .rw, 0x0, 0xFFFF, 0x0, []⟩,  -- REC_KEEP_SEL
  ⟨0x380054, [], .rw, 0x0, 0x1, 0x0, []⟩,  -- REC_KEEP_CFG
  ⟨0x381000, [(0x1000, 2)], .rw, 0x0, 0x3, 0x0, []⟩,  -- REC_RP[i]_CTL
  ⟨0x381004, [(0x1000, 2)], .rw, 0x10, 0x7F, 0x0, []⟩,  -- REC_RP[i]_QUOTA
  ⟨0x381008, [(0x1000, 2)], .rw, 0x0, 0xFFFFFFFF, 0x0, []⟩,  -- REC_RP[i]_CUR_LO
  ⟨0x38100C, [(0x1000, 2)], .rw, 0x0, 0xFFFFFFFF, 0x0, []⟩,  -- REC_RP[i]_CUR_HI
  ⟨0x381010, [(0x1000, 2)], .ro, 0x1, 0x0, 0x0, []⟩,  -- REC_RP[i]_STATUS
  ⟨0x381014, [(0x1000, 2)], .rc, 0x1, 0x0, 0x0, []⟩,  -- REC_RP[i]_CONSUME
  ⟨0x381018, [(0x1000, 2)], .ro, 0x0, 0x0, 0x0, []⟩,  -- REC_RP[i]_SKIP
  ⟨0x381020, [(0x1000, 2)], .ro, 0x0, 0x0, 0x0, []⟩,  -- REC_RP[i]_PINNED
  ⟨0x381100, [(0x1000, 2), (0x4, 262)], .ro, 0x0, 0x0, 0x0, []⟩ ]  -- REC_RP[i]_DATA[j]

/-- Registers of block KEY. -/
def regKey : List RegRow := [
  ⟨0x3C0000, [], .ro, 0x0, 0x0, 0x0, []⟩,  -- KEY_STATUS
  ⟨0x3C0004, [], .w1c, 0x0, 0xF, 0x0, []⟩,  -- KEY_INT_STATUS
  ⟨0x3C0008, [], .rw, 0x0, 0xF, 0x0, []⟩,  -- KEY_INT_EN
  ⟨0x3C0010, [(0x4, 4)], .ro, 0x0, 0x0, 0x0, []⟩,  -- KEY_DEV_ID[i]
  ⟨0x3C0020, [], .ro, 0x0, 0x0, 0x0, []⟩,  -- KEY_CTR_LO
  ⟨0x3C0024, [], .ro, 0x0, 0x0, 0x0, []⟩,  -- KEY_CTR_HI
  ⟨0x3C0028, [], .ro, 0x0, 0x0, 0x0, []⟩,  -- KEY_CTR_FUSES
  ⟨0x3C002C, [], .ro, 0x0, 0x0, 0x0, []⟩,  -- KEY_AUTH_REVOKE
  ⟨0x3C0030, [], .wo, 0x0, 0x3, 0x3, []⟩,  -- KEY_MSG_CTL
  ⟨0x3C0034, [], .ro, 0x0, 0x0, 0x0, []⟩,  -- KEY_MSG_STATUS
  ⟨0x3C0038, [], .rw, 0x0, 0x3FF, 0x0, []⟩,  -- KEY_MSG_LEN
  ⟨0x3C003C, [], .ro, 0x0, 0x0, 0x0, []⟩,  -- KEY_UPDATE_CNT
  ⟨0x3C0040, [], .rc, 0x0, 0x0, 0x0, []⟩,  -- KEY_REFUSE_CNT
  ⟨0x3C0100, [(0x4, 128)], .rw, 0x0, 0xFFFFFFFF, 0x0, []⟩,  -- KEY_MSG_DATA[j]
  ⟨0x3C0400, [], .rw, 0x0, 0xFF, 0x0, []⟩,  -- KEY_SLOT_SEL
  ⟨0x3C0404, [], .ro, 0x0, 0x0, 0x0, []⟩,  -- KEY_SLOT_INFO
  ⟨0x3C0408, [], .ro, 0x0, 0x0, 0x0, []⟩,  -- KEY_SLOT_ID
  ⟨0x3C040C, [], .ro, 0x0, 0x0, 0x0, []⟩,  -- KEY_SLOT_KCV
  ⟨0x3C0410, [], .ro, 0x0, 0x0, 0x0, []⟩,  -- KEY_SLOT_CTR_LO
  ⟨0x3C0414, [], .ro, 0x0, 0x0, 0x0, []⟩,  -- KEY_SLOT_CTR_HI
  ⟨0x3C0420, [(0x4, 16)], .ro, 0x0, 0x0, 0x0, []⟩,  -- KEY_SLOT_PUB[j]
  ⟨0x3C0600, [(0x80, 2), (0x20, 4), (0x4, 8)], .ro, 0x0, 0x0, 0x0, []⟩ ]  -- KEY_AUTH[a]_HASH[e][j]

/-- Registers of block WNG. -/
def regWng : List RegRow := [
  ⟨0x400000, [], .rws, 0x0, 0x3, 0xC, []⟩,  -- WNG_CTL
  ⟨0x400004, [], .ro, 0x0, 0x0, 0x0, []⟩,  -- WNG_STATUS
  ⟨0x400008, [], .ro, 0x0, 0x0, 0x0, []⟩,  -- WNG_CLAIM
  ⟨0x40000C, [], .ro, 0x0, 0x0, 0x0, []⟩,  -- WNG_HIGHEST_EPOCH
  ⟨0x400010, [], .ro, 0x0, 0x0, 0x0, []⟩,  -- WNG_PEER_CLAIM
  ⟨0x400014, [], .w1c, 0x0, 0xFF, 0x0, []⟩,  -- WNG_INT_STATUS
  ⟨0x400018, [], .rw, 0x0, 0xFF, 0x0, []⟩,  -- WNG_INT_EN
  ⟨0x40001C, [], .rc, 0x0, 0x0, 0x0, []⟩,  -- WNG_TAKEOVER_CNT
  ⟨0x400020, [], .ro, 0x0, 0x0, 0x0, []⟩,  -- WNG_DIGEST_SEQ_LO
  ⟨0x400024, [], .ro, 0x0, 0x0, 0x0, []⟩,  -- WNG_DIGEST_SEQ_HI
  ⟨0x400028, [], .ro, 0x0, 0x0, 0x0, []⟩,  -- WNG_DIGEST_W0_LO
  ⟨0x40002C, [], .ro, 0x0, 0x0, 0x0, []⟩,  -- WNG_DIGEST_W0_HI
  ⟨0x400030, [], .ro, 0x0, 0x0, 0x0, []⟩,  -- WNG_DIGEST_W1_LO
  ⟨0x400034, [], .ro, 0x0, 0x0, 0x0, []⟩,  -- WNG_DIGEST_W1_HI
  ⟨0x400038, [], .rc, 0x0, 0x0, 0x0, []⟩,  -- WNG_MISMATCH_CNT
  ⟨0x40003C, [], .rc, 0x0, 0x0, 0x0, []⟩,  -- WNG_HB_MISS_CNT
  ⟨0x400040, [], .ro, 0x0, 0x0, 0x0, []⟩,  -- WNG_FAULT_CAUSE
  ⟨0x400044, [], .ro, 0x0, 0x0, 0x0, []⟩,  -- WNG_RESYNC_PROG
  ⟨0x400048, [], .ro, 0x0, 0x0, 0x0, []⟩,  -- WNG_HEALTH
  ⟨0x40004C, [], .ro, 0xFFFFFFFF, 0x0, 0x0, []⟩,  -- WNG_SELFTEST_AGE
  ⟨0x400050, [], .rws, 0x25B4, 0xFFFF, 0x0, []⟩,  -- WNG_BEACON_UDP_PORT
  ⟨0x400054, [], .rws, 0x0, 0xFFFFFFFF, 0x0, []⟩,  -- WNG_BEACON_GROUP
  ⟨0x400058, [], .rws, 0x0, 0xFFFF0FFF, 0x0, []⟩,  -- WNG_BEACON_CFG
  ⟨0x40005C, [], .rc, 0x0, 0x0, 0x0, []⟩,  -- WNG_BEACON_BAD_CNT
  ⟨0x400060, [], .rw, 0x0, 0xFFF, 0x0, []⟩,  -- WNG_OUT_SEL
  ⟨0x400064, [], .ro, 0x0, 0x0, 0x0, []⟩,  -- WNG_OUT_STATUS
  ⟨0x400068, [], .ro, 0x0, 0x0, 0x0, []⟩,  -- WNG_OUT_SEQ_LO
  ⟨0x40006C, [], .ro, 0x0, 0x0, 0x0, []⟩,  -- WNG_OUT_SEQ_HI
  ⟨0x400100, [(0x20, 2)], .ro, 0x0, 0x0, 0x0, []⟩,  -- WNG_LANE[l]_STATUS
  ⟨0x400104, [(0x20, 2)], .ro, 0x0, 0x0, 0x0, []⟩,  -- WNG_LANE[l]_RX_CNT
  ⟨0x400108, [(0x20, 2)], .rc, 0x0, 0x0, 0x0, []⟩,  -- WNG_LANE[l]_CRC_ERR
  ⟨0x40010C, [(0x20, 2)], .rc, 0x0, 0x0, 0x0, []⟩,  -- WNG_LANE[l]_HB_MISS
  ⟨0x400110, [(0x20, 2)], .rc, 0x0, 0x0, 0x0, []⟩ ]  -- WNG_LANE[l]_RETX_CNT

/-- Registers of block SAF. -/
def regSaf : List RegRow := [
  ⟨0x440000, [], .rws, 0x8, 0x7F, 0x0, [⟨6, 0, [(2, 64)]⟩]⟩,  -- SAF_CTL
  ⟨0x440004, [], .ro, 0x0, 0x0, 0x0, []⟩,  -- SAF_STATUS
  ⟨0x440008, [], .w1c, 0x0, 0x7F, 0x0, []⟩,  -- SAF_INT_STATUS
  ⟨0x44000C, [], .rw, 0x0, 0x7F, 0x0, []⟩,  -- SAF_INT_EN
  ⟨0x440010, [], .ro, 0x0, 0x0, 0x0, []⟩,  -- SAF_SAFE_CAUSE
  ⟨0x440014, [], .rws, 0xC8, 0xFFFF, 0x0, []⟩,  -- SAF_PARTNER_TOL_MAG
  ⟨0x440018, [], .rws, 0xB6, 0xFFFF, 0x0, []⟩,  -- SAF_PARTNER_TOL_ANG
  ⟨0x44001C, [], .rws, 0x0, 0xFFFF, 0x0, []⟩,  -- SAF_AO_SAFETY
  ⟨0x440020, [], .rws, 0x16D, 0xFFFFFFFF, 0x0, [⟨31, 0, [(1, 3650)]⟩]⟩,  -- SAF_PROOF_INT
  ⟨0x440024, [], .wo, 0x0, 0x10F, 0x10F, []⟩,  -- SAF_PROOF_CTL
  ⟨0x440028, [], .rws, 0xC8, 0x3FF, 0x0, [⟨9, 0, [(10, 1000)]⟩]⟩,  -- SAF_PROOF_CFG
  ⟨0x44002C, [], .ro, 0x0, 0x0, 0x0, []⟩,  -- SAF_PROOF_STATUS
  ⟨0x440030, [], .wo, 0x0, 0x1, 0x1, []⟩,  -- SAF_CLEAR
  ⟨0x440034, [], .rc, 0x0, 0x0, 0x0, []⟩,  -- SAF_FLUTTER_MISMATCH_CNT
  ⟨0x440038, [], .ro, 0x0, 0x0, 0x0, []⟩,  -- SAF_AO_FAULT
  ⟨0x44003C, [], .ro, 0x0, 0x0, 0x0, []⟩,  -- SAF_FORCED_TRK
  ⟨0x440040, [(0x4, 6)], .ro, 0x0, 0x0, 0x0, []⟩,  -- SAF_PARTNER_FAIL[i]
  ⟨0x440060, [(0x4, 2)], .ro, 0x0, 0x0, 0x0, []⟩,  -- SAF_FORCED_DET[i]
  ⟨0x440080, [(0x4, 32)], .ro, 0x0, 0x0, 0x0, []⟩,  -- SAF_FORCED_ISL[i]
  ⟨0x440100, [(0x4, 16)], .ro, 0x0, 0x0, 0x0, []⟩ ]  -- SAF_AO[a]_PROOF_SEC

/-- Registers of block TXN. -/
def regTxn : List RegRow := [
  ⟨0x10000, [], .ro, 0x0, 0x0, 0x0, []⟩,  -- TXN_STATUS
  ⟨0x10004, [], .wo, 0x0, 0x1F, 0x1F, []⟩,  -- TXN_CMD
  ⟨0x10008, [], .ro, 0x0, 0x0, 0x0, []⟩,  -- TXN_RESULT
  ⟨0x1000C, [], .ro, 0x0, 0x0, 0x0, []⟩,  -- TXN_INSTAR
  ⟨0x10010, [], .ro, 0x0, 0x0, 0x0, []⟩,  -- TXN_INSTAR_HIGH
  ⟨0x10014, [], .rws, 0x258, 0xFFFF, 0x0, []⟩,  -- TXN_PROBATION
  ⟨0x10018, [], .ro, 0x0, 0x0, 0x0, []⟩,  -- TXN_PROB_LEFT
  ⟨0x1001C, [], .rw, 0x3C, 0xFFF, 0x0, [⟨11, 0, [(1, 3600)]⟩]⟩,  -- TXN_TIMEOUT
  ⟨0x10020, [], .rw, 0x0, 0xFFFFFFFF, 0x0, []⟩,  -- TXN_AT_LO
  ⟨0x10024, [], .rw, 0x0, 0xFFFFFFFF, 0x0, []⟩,  -- TXN_AT_HI
  ⟨0x10028, [], .ro, 0x0, 0x0, 0x0, []⟩,  -- TXN_BOUNDARY_LO
  ⟨0x1002C, [], .ro, 0x0, 0x0, 0x0, []⟩,  -- TXN_BOUNDARY_HI
  ⟨0x10030, [], .rw, 0x0, 0xFFFFFFFF, 0x0, []⟩,  -- TXN_IMG_BASE_LO
  ⟨0x10034, [], .rw, 0x0, 0xFFFFFFFF, 0x0, []⟩,  -- TXN_IMG_BASE_HI
  ⟨0x10038, [], .rw, 0x0, 0xFFFFFF, 0x0, []⟩,  -- TXN_IMG_LEN
  ⟨0x1003C, [], .wo, 0x0, 0xFFFFFFFF, 0xFFFFFFFF, []⟩,  -- TXN_IMG_WDATA
  ⟨0x10040, [], .ro, 0x0, 0x0, 0x0, []⟩,  -- TXN_STAGED
  ⟨0x10044, [], .ro, 0x0, 0x0, 0x0, []⟩,  -- TXN_SHADOW_BYTES
  ⟨0x10048, [], .ro, 0x0, 0x0, 0x0, []⟩,  -- TXN_ERR_SECT
  ⟨0x1004C, [], .ro, 0x0, 0x0, 0x0, []⟩,  -- TXN_ERR_OFS
  ⟨0x10050, [], .w1c, 0x0, 0x1F, 0x0, []⟩,  -- TXN_INT_STATUS
  ⟨0x10054, [], .rw, 0x0, 0x1F, 0x0, []⟩,  -- TXN_INT_EN
  ⟨0x10058, [], .rc, 0x0, 0x0, 0x0, []⟩,  -- TXN_REFUSED_WR_CNT
  ⟨0x10080, [(0x10, 2)], .ro, 0x0, 0x0, 0x0, []⟩,  -- TXN_SLOT[s]_STATUS
  ⟨0x10084, [(0x10, 2)], .ro, 0x0, 0x0, 0x0, []⟩,  -- TXN_SLOT[s]_INSTAR
  ⟨0x10088, [(0x10, 2)], .ro, 0x0, 0x0, 0x0, []⟩,  -- TXN_SLOT[s]_LEN
  ⟨0x1008C, [(0x10, 2)], .ro, 0x0, 0x0, 0x0, []⟩ ]  -- TXN_SLOT[s]_GEN

/-- Registers of block GLB. -/
def regGlb : List RegRow := [
  ⟨0x2000, [], .ro, 0x1, 0x0, 0x0, []⟩,  -- GLB_BOOT_STATE
  ⟨0x2004, [], .wo, 0x0, 0x1, 0x1, []⟩,  -- GLB_BOOT_CTL
  ⟨0x2008, [], .wo, 0x0, 0xFFFF0001, 0xFFFF0001, []⟩,  -- GLB_RESET_CTL
  ⟨0x200C, [], .ro, 0x0, 0x0, 0x0, []⟩,  -- GLB_RESET_CAUSE
  ⟨0x2010, [], .ro, 0x0, 0x0, 0x0, []⟩,  -- GLB_PCIE_STATUS
  ⟨0x2014, [], .ro, 0x0, 0x0, 0x0, []⟩,  -- GLB_PF_SAVE_US
  ⟨0x2018, [], .ro, 0x0, 0x0, 0x0, []⟩,  -- GLB_HOST_OUTSTANDING
  ⟨0x201C, [], .rc, 0x0, 0x0, 0x0, []⟩,  -- GLB_SPI_ERR_CNT
  ⟨0x2040, [(0x4, 8)], .ro, 0xFFFFFFFF, 0x0, 0x0, []⟩,  -- GLB_STATE_TIME[s]
  ⟨0x2100, [(0x40, 8)], .rw, 0x0, 0x3, 0x0, []⟩,  -- GLB_HR[r]_CTL
  ⟨0x2104, [(0x40, 8)], .ro, 0x0, 0x0, 0x0, []⟩,  -- GLB_HR[r]_STATUS
  ⟨0x2108, [(0x40, 8)], .rw, 0x0, 0xFFFFFFFF, 0x0, []⟩,  -- GLB_HR[r]_SQ_BASE_LO
  ⟨0x210C, [(0x40, 8)], .rw, 0x0, 0xFFFFFFFF, 0x0, []⟩,  -- GLB_HR[r]_SQ_BASE_HI
  ⟨0x2110, [(0x40, 8)], .rw, 0x0, 0x1FFF, 0x0, []⟩,  -- GLB_HR[r]_SQ_SIZE
  ⟨0x2114, [(0x40, 8)], .rw, 0x0, 0xFFF, 0x0, []⟩,  -- GLB_HR[r]_SQ_HEAD
  ⟨0x2118, [(0x40, 8)], .ro, 0x0, 0x0, 0x0, []⟩,  -- GLB_HR[r]_SQ_TAIL
  ⟨0x211C, [(0x40, 8)], .ro, 0x0, 0x0, 0x0, []⟩,  -- GLB_HR[r]_SQ_ACK
  ⟨0x2120, [(0x40, 8)], .rw, 0x0, 0xFFFFFFFF, 0x0, []⟩,  -- GLB_HR[r]_CQ_BASE_LO
  ⟨0x2124, [(0x40, 8)], .rw, 0x0, 0xFFFFFFFF, 0x0, []⟩,  -- GLB_HR[r]_CQ_BASE_HI
  ⟨0x2128, [(0x40, 8)], .rw, 0x0, 0x1FFF, 0x0, []⟩,  -- GLB_HR[r]_CQ_SIZE
  ⟨0x212C, [(0x40, 8)], .ro, 0x0, 0x0, 0x0, []⟩,  -- GLB_HR[r]_CQ_HEAD
  ⟨0x2130, [(0x40, 8)], .rw, 0x0, 0xFFF, 0x0, []⟩,  -- GLB_HR[r]_CQ_TAIL
  ⟨0x2134, [(0x40, 8)], .ro, 0x0, 0x0, 0x0, []⟩,  -- GLB_HR[r]_IDX_LO
  ⟨0x2138, [(0x40, 8)], .ro, 0x0, 0x0, 0x0, []⟩,  -- GLB_HR[r]_IDX_HI
  ⟨0x0, [], .ro, 0x61921FD7, 0x0, 0x0, []⟩,  -- GLB_ID
  ⟨0x4, [], .ro, 0xB0B0, 0x0, 0x0, []⟩,  -- GLB_REV
  ⟨0x8, [], .ro, 0x10000, 0x0, 0x0, []⟩,  -- GLB_MAP_VER
  ⟨0xC, [], .rw, 0x0, 0xFFFFFFFF, 0x0, []⟩,  -- GLB_SCRATCH
  ⟨0x10, [], .rw, 0x0, 0x3, 0x0, []⟩,  -- GLB_CTL
  ⟨0x14, [], .ro, 0x1, 0x0, 0x0, []⟩,  -- GLB_STATUS
  ⟨0x18, [], .w1c, 0x0, 0x3F, 0x0, []⟩,  -- GLB_INT_STATUS
  ⟨0x1C, [], .rw, 0x0, 0x3F, 0x0, []⟩,  -- GLB_INT_EN
  ⟨0x20, [], .ro, 0x0, 0x0, 0x0, []⟩,  -- GLB_INT_SUMMARY
  ⟨0x24, [], .ro, 0x0, 0x0, 0x0, []⟩,  -- GLB_ACC_ERR_INFO
  ⟨0x28, [], .ro, 0x0, 0x0, 0x0, []⟩,  -- GLB_ACC_ERR_ADDR
  ⟨0x2C, [], .ro, 0x0, 0x0, 0x0, []⟩,  -- GLB_ACC_ERR_DATA
  ⟨0x30, [], .wo, 0x0, 0x1, 0x1, []⟩,  -- GLB_ACC_ERR_CLR
  ⟨0x34, [], .rc, 0x0, 0x0, 0x0, []⟩,  -- GLB_ACC_ERR_CNT
  ⟨0x38, [], .ro, 0x0, 0x0, 0x0, []⟩ ]  -- GLB_STRAPS

/-- Registers of block TST. -/
def regTst : List RegRow := [
  ⟨0x480000, [], .rw, 0x0, 0x1, 0x0, []⟩,  -- TST_CTL
  ⟨0x480004, [], .ro, 0x0, 0x0, 0x0, []⟩,  -- TST_STATUS
  ⟨0x480008, [], .w1c, 0x0, 0xF, 0x0, []⟩,  -- TST_INT_STATUS
  ⟨0x48000C, [], .rw, 0x0, 0xF, 0x0, []⟩,  -- TST_INT_EN
  ⟨0x480010, [], .ro, 0x0, 0x0, 0x0, []⟩,  -- TST_LB_RESULT
  ⟨0x480014, [], .rw, 0x3C, 0xFFF, 0x0, [⟨11, 0, [(1, 3600)]⟩]⟩,  -- TST_TIMEOUT
  ⟨0x480018, [], .ro, 0x0, 0x0, 0x0, []⟩,  -- TST_AO_SENSE
  ⟨0x48001C, [], .ro, 0x0, 0x0, 0x0, []⟩,  -- TST_AO_CMD
  ⟨0x480020, [], .rw, 0x0, 0x3, 0x0, []⟩,  -- TST_PPS_CTL
  ⟨0x480024, [], .ro, 0x0, 0x0, 0x0, []⟩,  -- TST_PPS_OFS
  ⟨0x480028, [], .rc, 0x0, 0x0, 0x0, []⟩,  -- TST_PPS_MAX
  ⟨0x48002C, [], .rc, 0x0, 0x0, 0x0, []⟩,  -- TST_PPS_CNT
  ⟨0x480030, [], .rw, 0x0, 0x1, 0x0, []⟩,  -- TST_PCIE_LB
  ⟨0x480034, [], .rc, 0x0, 0x0, 0x0, []⟩,  -- TST_PCIE_ERR_CNT
  ⟨0x480038, [], .ro, 0x0, 0x0, 0x0, []⟩,  -- TST_PCIE_STATUS
  ⟨0x48003C, [], .ro, 0x0, 0x0, 0x0, []⟩,  -- TST_LOOP_MAP
  ⟨0x480040, [(0x10, 2)], .rw, 0x0, 0x7, 0x0, []⟩,  -- TST_OZ[l]_CTL
  ⟨0x480044, [(0x10, 2)], .ro, 0x0, 0x0, 0x0, []⟩,  -- TST_OZ[l]_TX_CNT
  ⟨0x480048, [(0x10, 2)], .ro, 0x0, 0x0, 0x0, []⟩,  -- TST_OZ[l]_RX_CNT
  ⟨0x48004C, [(0x10, 2)], .rc, 0x0, 0x0, 0x0, []⟩,  -- TST_OZ[l]_ERR_CNT
  ⟨0x480100, [(0x20, 4)], .rw, 0x0, 0x7, 0x0, []⟩,  -- TST_Q[q]_CTL
  ⟨0x480104, [(0x20, 4)], .rw, 0x0, 0xFFFFFFFF, 0x0, []⟩,  -- TST_Q[q]_CH_LO
  ⟨0x480108, [(0x20, 4)], .rw, 0x0, 0xFFFF, 0x0, []⟩,  -- TST_Q[q]_CH_HI
  ⟨0x48010C, [(0x20, 4)], .rw, 0xC350, 0xFFFFFFFF, 0x0, [⟨31, 0, [(1000, 3200000)]⟩]⟩,  -- TST_Q[q]_TONE_FREQ
  ⟨0x480110, [(0x20, 4)], .rw, 0x8000, 0xFFFF, 0x0, []⟩,  -- TST_Q[q]_TONE_AMP
  ⟨0x480114, [(0x20, 4)], .rw, 0x0, 0xFFFF, 0x0, []⟩,  -- TST_Q[q]_TONE_PHASE
  ⟨0x481000, [(0x40, 8)], .rw, 0x0, 0x17, 0x8, []⟩,  -- TST_PORT[p]_CTL
  ⟨0x481004, [(0x40, 8)], .ro, 0x0, 0x0, 0x0, []⟩,  -- TST_PORT[p]_STATUS
  ⟨0x481008, [(0x40, 8)], .rw, 0x3E80040, 0xFFFF3FFF, 0x0, [⟨31, 16, [(1, 65535)]⟩]⟩,  -- TST_PORT[p]_GEN
  ⟨0x48100C, [(0x40, 8)], .ro, 0x0, 0x0, 0x0, []⟩,  -- TST_PORT[p]_RX_CNT
  ⟨0x481010, [(0x40, 8)], .rc, 0x0, 0x0, 0x0, []⟩,  -- TST_PORT[p]_ERR_CNT
  ⟨0x481014, [(0x40, 8)], .rc, 0x0, 0x0, 0x0, []⟩ ]  -- TST_PORT[p]_DISC_CNT

/-- The blocks of R853: base, last address and registers. -/
def blocks : List (Nat × Nat × List RegRow) := [
  (0x0, 0xFFFF, regGlb),
  (0x10000, 0x1FFFF, regTxn),
  (0x20000, 0x3FFFF, regTima ++ regTimb),
  (0x40000, 0x7FFFF, regCnv),
  (0x80000, 0xBFFFF, regFlt),
  (0xC0000, 0xFFFFF, regPhs),
  (0x100000, 0x17FFFF, regNeta ++ regNetb),
  (0x180000, 0x1BFFFF, regIng),
  (0x1C0000, 0x1FFFFF, regAlna ++ regAlnb),
  (0x200000, 0x23FFFF, regOsc),
  (0x240000, 0x27FFFF, regIsl),
  (0x280000, 0x2BFFFF, regSch),
  (0x2C0000, 0x2FFFFF, regQue),
  (0x300000, 0x33FFFF, regAcq),
  (0x340000, 0x37FFFF, regCmp),
  (0x380000, 0x3BFFFF, regRec),
  (0x3C0000, 0x3FFFFF, regKey),
  (0x400000, 0x43FFFF, regWng),
  (0x440000, 0x47FFFF, regSaf),
  (0x480000, 0x4BFFFF, regTst),
  (0x4C0000, 0x4FFFFF, regPwr) ]

/-- Does the offset fall on an element of the array with these strides and counts (R856, R857)? -/
def dimsHit : List (Nat × Nat) → Nat → Bool
  | [], o => o == 0
  | (st, n) :: rest, o => if o / st < n then dimsHit rest (o % st) else false

/-- Is `addr` an address of this row? -/
def RegRow.hit (r : RegRow) (addr : Nat) : Bool := r.base ≤ addr && dimsHit r.dims (addr - r.base)

/-- The register at an address, none at an undefined address (R859). -/
def regAt (addr : Nat) : Option RegRow :=
  match blocks.find? (fun b => b.1 ≤ addr && addr ≤ b.2.1) with
  | none => none
  | some b => b.2.2.find? (fun r => r.hit addr)

/-- The reset value of the register at an address; 0 where no register is defined. -/
def resetOf (addr : Nat) : BitVec 32 :=
  match regAt addr with
  | none => 0
  | some r => BitVec.ofNat 32 r.reset

/-- Number of register addresses of a row (R854). -/
def RegRow.count (r : RegRow) : Nat := r.dims.foldl (fun a d => a * d.2) 1

/-- Registers of a block (R854). -/
def blockCount (rs : List RegRow) : Nat := rs.foldl (fun a r => a + r.count) 0

end Sys2Proof.Machine
end

