-- ==== Sys2Proof/Machine/StBase.lean ====
section
/-! DEFINITION. Sys2Proof/Machine/StBase.lean: the parts of the state that every family uses: straps and pins, the nonvolatile die,
the host interface, the time base, the event recorder and the units with their claims. -/

namespace Sys2Proof.Machine

/-! Pins and straps. -/

/-- Levels at the pins of the module that the device reads or drives (R869, R879, R907). -/
structure Pins where
  /-- Level of each strap pin: TWIN_ID, DEBUG_EN, PUPA_HOLD, REFCLK_SEL (R899). -/
  twinId : Bool
  debugEn : Bool
  pupaHold : Bool
  refclkSel : Bool
  /-- Straps sampled at the last rise of RESET_N: bits as GLB_STRAPS (R869). -/
  sampled : Nat
  /-- RESET_N is low. -/
  resetLow : Bool
  /-- PWRFAIL_N is low, or has not yet been high for 100 ms; and after that until the next wingbeat boundary (R844). -/
  pwrfailLow : Bool
  pwrHold : Bool
  /-- Level of PPS_OUT (R131). -/
  ppsOut : Bool
  /-- Commanded alarm level of AO0 to AO15, bit a for AOa (R280). -/
  aoCmd : Nat
  /-- Drivers released: pins whose driver is off, bit a for AOa (R714, R759). -/
  aoReleased : Nat
  deriving DecidableEq, Repr

/-! The event recorder (chapter 16). -/

/-- A record before it has its SEQ (R658): type, body, TIME in ns, TQ, and for a LOCAL record the wing that made it. -/
structure RecIn where
  typ : Nat
  body : Bytes
  time : Nat
  tq : Nat
  wing : Option Nat
  deriving DecidableEq, Repr

/-- An element of the intake queue: a record, or the gap marker of R661. -/
inductive Intake where
  | record (r : RecIn)
  | gap (count keepCount first last : Nat)
  deriving DecidableEq, Repr

/-- A record with its SEQ and its FLAGS byte as stored in a ring (R658). -/
structure Stored where
  seq : Nat
  flags : Nat
  r : RecIn
  deriving DecidableEq, Repr

/-- One ring of records and what it has lost: the records held, oldest first, and the ranges of SEQ overwritten (R675). -/
structure RecRing where
  held : List Stored
  lost : List (Nat × Nat)
  deriving DecidableEq, Repr

/-- The event recorder. -/
structure Recorder where
  /-- Intake queue of the active wing (R661). -/
  intake : List Intake
  /-- The DRAM ring is ready (R664). -/
  ready : Bool
  /-- Records dropped because the SRAM buffer was full (R664): count, keep count, first TIME, last TIME. -/
  preLost : Nat × Nat × Nat × Nat
  /-- The next SEQ to be given (R662, R663). -/
  nextSeq : Nat
  /-- Records with a SEQ that are not mirrored yet (R665). -/
  mirroring : List Stored
  dram : RecRing
  /-- Records the standby wing has made and holds until mirrored, with the clock at which it made each (R667). -/
  standbyHeld : List (Nat × RecIn)
  /-- Keep records readable but not yet in the keep ring (R670). -/
  keepPending : List Stored
  /-- Keep budget in records (R671). -/
  budget : Nat
  /-- One above the last SEQ in the mirror of the standby wing (R668). -/
  mirrorNext : Nat
  /-- Cursors of the two read ports (R675). -/
  cur0 : Nat
  cur1 : Nat
  /-- Both keep copies were writable at the last write. -/
  nvOk : Bool
  /-- Keep settings written by the host, by type (R670). -/
  keepSet : List (Nat × Nat)
  /-- HOLD_FULL raised for the present hold, per port (R677). -/
  holdFull0 : Bool
  holdFull1 : Bool
  /-- SEQ_FLOOR at which SEQ resumed at the last power-up (R663). -/
  floor : Nat
  deriving DecidableEq, Repr

/-! The nonvolatile die (R35). -/

/-- A stored instar (R789, R790): header state 0 invalid, 1 PROBATION, 2 CONFIRMED, 3 ROLLED_BACK; elements with their kinds. -/
structure Slot where
  st : Nat
  instar : Nat
  gen : Nat
  elems : List (Nat × Bytes)
  /-- The element hash stored in the header (R789). -/
  hash : Bytes
  deriving DecidableEq, Repr

/-- A key slot (R686, R693): type 0 is empty. -/
structure KeySlot where
  typ : Nat
  use : Nat
  id : Nat
  ctr : Nat
  kcv : Nat
  material : Bytes
  deriving DecidableEq, Repr

/-- A key-store area (R684, R695): the slots that are occupied, and the counter C. In the nonvolatile die the material of a secret key is its AES-KW blob
under the storage key. (DEDUCED: notes/assumptions/95) -/
structure KeyArea where
  slots : List (Nat × KeySlot)
  ctr : Nat
  valid : Bool
  deriving DecidableEq, Repr

/-- Fuses, which are never cleared (R682, R690). -/
structure Fuses where
  devId : Bytes
  owned : Bool
  /-- Hash of entry e of authority a under key 4a + e. -/
  hashes : List (Nat × Bytes)
  /-- Revoke bits as KEY_AUTH_REVOKE shows them. -/
  revoke : Nat
  /-- F, the counter fuses. -/
  count : Nat
  deriving DecidableEq, Repr

/-- The key store at work (chapter 17): the area as stored (the nonvolatile copy in use, or the DRAM store on the test root), the slots in force, the fuses
as the store sees them (its own copy on the test root), running on the test root; a message in progress: stage (0 none, 1 checked and being stored,
2 stored and waiting for its boundary), its bytes, the area it makes, the clock of the end of its store, and whether it was a rotation. -/
structure KeySt where
  store : KeyArea
  force : List (Nat × KeySlot)
  fuses : Fuses
  test : Bool
  stage : Nat
  msg : Bytes
  next : KeyArea
  storedAt : Nat
  rot : Bool
  deriving DecidableEq, Repr

/-- A host submission held for the power-fail save or for replay: ring, SQ_INDEX, descriptor bytes and argument bytes. -/
structure HostItem where
  ring : Nat
  idx : Nat
  desc : Bytes
  arg : Bytes
  deriving DecidableEq, Repr

/-- The power-fail save area (R842, R845). -/
structure PfSave where
  valid : Bool
  epoch : Nat
  txnOpen : Bool
  shadows : List (Nat × Word)
  windows : List (Nat × Bytes)
  staging : Bytes
  items : List HostItem
  /-- Host demands by command group: TYPE and setpoint (R497). -/
  demands : List (Nat × (Nat × Nat))
  unlatches : List Nat
  deriving DecidableEq, Repr

/-- The nonvolatile die. (DEDUCED: notes/assumptions/194) -/
structure NvDie where
  /-- Power epoch (R73). -/
  powerEpoch : Nat
  /-- The two image slots (R35, R789). -/
  slot0 : Slot
  slot1 : Slot
  /-- Slot of the instar last in force. -/
  inForce : Nat
  /-- Highest instar ever committed, TXN_INSTAR_HIGH (R795, R814). -/
  instarHigh : Nat
  /-- SEQ_FLOOR of the event recorder (R663). -/
  seqFloor : Nat
  /-- Highest claim epoch (R711). -/
  claimEpoch : Nat
  /-- The two copies of the key store (R684, R695). -/
  keys : KeyArea
  keysB : KeyArea
  /-- The two copies of the keep ring (R35, R670). -/
  keep : RecRing
  keepB : RecRing
  /-- Wear ledger per wing: HOURS in seconds and EQ in 10^−6 s (R554). -/
  wearHours : List Nat
  wearEq : List Nat
  /-- TAI second of the last PASS of the proof of each AO pin (R775). -/
  proofSec : List (Nat × Nat)
  /-- The power-fail save (R842 to R845). -/
  save : PfSave
  /-- MAC address of each port, 6 bytes (R330). -/
  macs : List (Nat × Bytes)
  /-- Fuses (R682, R690). -/
  fuses : Fuses
  deriving DecidableEq, Repr

/-! Host interface. -/

/-- What the device has sent out, newest first: the model's own record of its outputs. (DESIGN CHOICE: notes/assumptions/18) -/
inductive Sent where
  /-- An MSI-X message of a vector (R823). -/
  | msix (vector : Nat)
  /-- A frame that a port has begun to transmit (R309). -/
  | frame (port : Nat) (bytes : Bytes)
  /-- Symmetric pause as Clause 37 auto-negotiation advertises it on a port (R316). -/
  | page (port : Nat) (pause : Bool)
  /-- A BEACON of the PLCA coordinator (R323). -/
  | beacon (port : Nat)
  /-- An Oznis frame on a lane (R743). -/
  | oznis (lane : Nat) (bytes : Bytes)
  deriving DecidableEq, Repr

/-- A descriptor taken from a host ring (R833 to R835): SQ_INDEX, descriptor, argument, acknowledged, and its completion entry with NO_ENTRY once ready. -/
structure HostTaken where
  idx : Nat
  desc : Bytes
  arg : Bytes
  acked : Bool
  entry : Option (Bytes × Bool)
  deriving DecidableEq, Repr

/-- A host ring: next SQ_INDEX, descriptors taken whose entry has not been written, oldest first, phase, and items restored from a save that are taken ahead
of new ones (R845): descriptor and argument. -/
structure HostRing where
  next : Nat
  taken : List HostTaken
  phase : Bool
  restored : List (Bytes × Bytes)
  deriving DecidableEq, Repr

/-- Host interface state outside the register map. -/
structure HostIf where
  /-- Host rings by number (R832 to R838). -/
  rings : List (Nat × HostRing)
  /-- Latched _HI registers and captured read views, keyed by 2 × address + interface (R865, R866). -/
  latch : List (Nat × Word)
  /-- MSI-X table: four words per vector, keyed 4v + j (R817). -/
  msix : List (Nat × Word)
  /-- MSI-X pending bits. -/
  pba : Nat
  /-- Summaries of vectors 8 to 35 as last evaluated, bit v (R823). -/
  summary : Nat
  /-- Ring vectors that owe no message until CQ_TAIL is written, bit r (R824). -/
  ringSent : Nat
  linkUp : Bool
  d3hot : Bool
  /-- Data returned by the last read on each interface: PCIe, SPI. -/
  rdataP : Word
  rdataS : Word
  /-- Bytes the device returned in the last SPI frame (R827). -/
  spiOut : Bytes
  /-- Bytes of host memory that the device has read or written, by address. -/
  mem : List (Nat × Byte)
  sent : List Sent
  deriving DecidableEq, Repr

/-- What the device has set or counted in a register in one tick of the timing clock: the register before, and what the tick has contributed (R19, R20). -/
structure HwMark where
  pre : Word
  new : Word
  deriving DecidableEq, Repr

/-- The contributions of one tick of the timing clock, by place in the register store. -/
structure HwCycle where
  clk : Nat
  marks : List (Nat × HwMark)
  deriving DecidableEq, Repr

/-! Time base (chapter 3). Times are in units of 2^−32 ns; the elapsed counter is clk × 0x2_8000_0000 (R74, R80). -/

/-- States of a domain (R104). -/
inductive DomSt where
  | free | acquire | locked | holdover | lost
  deriving DecidableEq, Repr

/-- One time domain. -/
structure Domain where
  st : DomSt
  val : Nat
  incr : Nat
  lockCnt : Nat
  badCnt : Nat
  /-- Offsets of the last 16 updates, newest first. -/
  ofs : List Int
  /-- Increments after the last 16 updates, newest first. -/
  incrs : List Nat
  /-- Clock at the entry to the present state, and the accuracy estimate at that entry (R919). -/
  since : Nat
  accAt : Nat
  /-- Stated accuracy of the source in 2^−32 ns (R919), and whether it was traceable at its last valid update (R117). -/
  stated : Nat
  trace : Bool
  /-- Leap second pending as the source gives it: none when it gives none; else deletion (R120). -/
  leap : Option (Option Bool)
  /-- currentUtcOffset of the source in seconds, where it gives one (R120). -/
  utc : Option Int
  /-- Missed or rejected inputs in a row (R104). -/
  missed : Nat
  deriving DecidableEq, Repr

/-- A PPS input (R91 to R93). -/
structure Pps where
  /-- Clock of the write that armed the value, while armed. -/
  armedAt : Option Nat
  /-- Second that the last edge marked. -/
  last : Option Nat
  /-- Clock of the last edge. -/
  edge : Option Nat
  deriving DecidableEq, Repr

/-- The grandmaster of an accepted Announce (R104): sourcePortIdentity of its sender, its rank (priorities, clock quality and identity as the Announce
orders them), stepsRemoved, grandmasterIdentity, and the IEEE C37.238 profile TLV that came with it (R87). -/
structure Gm where
  src : Nat
  rank : Nat
  steps : Nat
  id : Nat
  tlv : Bytes
  deriving DecidableEq, Repr

/-- A servo update on its way to the counters (R84): the tick of the timing clock at which both wings apply it, the domain, the step of its counter in
2^−32 ns, and its new increment. (DESIGN CHOICE: notes/assumptions/167) -/
structure SrvUpd where
  at' : Nat
  dom : Nat
  step : Int
  incr : Nat
  deriving DecidableEq, Repr

/-- PTP peer-delay and sync state of a port (R87). -/
structure PtpPort where
  seqSync : Nat
  seqPdelay : Nat
  seqAnnounce : Nat
  /-- Mean path delay in 2^−32 ns. -/
  delay : Int
  /-- Departure of the last Pdelay_Req. -/
  reqAt : Option Nat
  gm : Option Gm
  /-- A two-step Sync waiting for its Follow_Up: sequence, receive time, correction. -/
  syncRx : Option (Nat × Int × Int)
  /-- A two-step Pdelay_Resp waiting for its follow-up: sequence, receive time, request receipt time less corrections. -/
  respRx : Option (Nat × Int × Int)
  deriving DecidableEq, Repr

/-- The time base. -/
structure Tim where
  /-- Ticks of the timing clock since the entry to SELFTEST. -/
  clk : Nat
  out : Nat
  domA : Domain
  domB : Domain
  lockedOnce : Bool
  sel : Nat
  /-- A switch starts at the next boundary: to this domain, and why: 0 R108, 1 FORCE_SWITCH, 2 R113. -/
  pending : Option (Nat × Nat)
  /-- A refused switch is outstanding: to this domain, and why it was raised (R109). -/
  refused : Option (Nat × Nat)
  /-- A slew runs since this tick of the timing clock (R110, R918). -/
  slew : Option Nat
  pps0 : Pps
  pps1 : Pps
  /-- TAI second of the last IRIG frame used or rejected for its time. -/
  irig : Option Nat
  /-- Servo updates that wait for their tick, oldest first (R84). -/
  srv : List SrvUpd
  /-- t1 of the TIME request to the twin that has no response yet, in ns (R98). -/
  twinReq : Option Nat
  ports : List (Nat × PtpPort)
  /-- A leap second pends: its TAI instant in seconds and whether it is a deletion (R121, R122). -/
  leapAt : Option (Nat × Bool)
  leapPend : Bool
  /-- TAI second until which LEAP_OCC is set. -/
  leapOcc : Option Nat
  leapDir : Bool
  deriving DecidableEq, Repr

/-- The wingbeat grid (R47 to R53). -/
structure Grid where
  /-- The opening boundary of the open wingbeat: second and k. -/
  sec : Nat
  k : Nat
  /-- The grid is absolute: the transitional wingbeat has closed. -/
  absolute : Bool
  /-- Transitional wingbeat: its closing boundary in seconds and k of the absolute grid. -/
  trans : Option (Nat × Nat)
  /-- Time quality and SLEW of the last 512 boundaries, newest first, by wingbeat (R115, R260, R411). -/
  tqs : List (Nat × (Nat × Bool))
  deriving DecidableEq, Repr

/-! Units and claims (chapter 18). -/

/-- Roles of a unit (R712, R751). -/
inductive Role where
  | active | standby | resync | faulted
  deriving DecidableEq, Repr

/-- One wing as a unit. (DESIGN CHOICE: notes/assumptions/17) -/
structure Wing where
  role : Role
  /-- Code of R749 of the fault, 0 for none. -/
  cause : Nat
  /-- Consecutive heartbeats missed on the die-to-die path, and on this wing's path to the arbiter (R717). -/
  missLink : Nat
  missArb : Nat
  /-- The path to the arbiter works (R716). -/
  arbPath : Bool
  /-- Digest of the last compared slot and its sub-digests (R719). -/
  digest : Nat
  subs : List Nat
  deriving DecidableEq, Repr

/-- An Oznis lane (R742). -/
structure Lane where
  up : Bool
  missed : Nat
  seq : Nat
  deriving DecidableEq, Repr

/-- An OUTPUT frame sent over the Oznis link and not acknowledged: LINK_SEQ, lane, output index and sequence, sent again, clock of sending, and whether its
output has passed (R729, R742). -/
structure OzOut where
  linkSeq : Nat
  lane : Nat
  out : Nat
  seq : Nat
  again : Bool
  at' : Nat
  passed : Bool
  /-- It may pass: 0 waits, 1 the 20 µs have run out, 2 acknowledged (R729). -/
  ready : Nat
  /-- FRAG and FRAGS of the frame (R744). -/
  frag : Nat
  frags : Nat
  deriving DecidableEq, Repr

/-- A part of a mirrored stream frame that the standby twin holds (R729): output, SEQ, LINK_SEQ, FRAG and bytes. -/
structure Held where
  out : Nat
  seq : Nat
  linkSeq : Nat
  frag : Nat
  bytes : Bytes
  deriving DecidableEq, Repr

/-- What passing an output does. -/
inductive Act where
  /-- Frames for a queue of a port from a source: one, or the segments of a job. -/
  | send (port queue src : Nat) (job : Bool) (frames : List Bytes)
  /-- A record. -/
  | log (typ : Nat) (body : Bytes)
  /-- A wide-area source of AO pins changes (R280). -/
  | wide (key mask : Nat) (on : Bool)
  | raise (reg k : Nat)
  | set (reg : Nat) (v : Word)
  | count (reg : Nat)
  /-- GOOSE blocks sample their datasets (R426). -/
  | goose
  /-- A frame of the journal for a queue of a port, as it was queued (R747). -/
  | frame (port queue : Nat) (bytes : Bytes)
  /-- A scale command of a command group: the 44 bytes ahead of its tag, CLAIM as zeros (R499). -/
  | cmd (c : Nat) (head : Bytes)
  deriving DecidableEq, Repr

/-- An output ready for its gate (R713): index, sequence, what passing it does, and the bytes that a mirrored stream frame carries (R729). -/
structure Out where
  o : Nat
  seq : Nat
  acts : List Act
  bytes : Bytes
  deriving DecidableEq, Repr

/-- A digest attribution that runs or waits (R721, R762): of a flutter mismatch, slot, TIME and TQ of the comparison, SUBMASK or DET_DIFF, the safety objects whose flags differ, each with
the flag that wing 0 holds, and the slot digests of both wings. -/
structure Attrib where
  flutter : Bool
  n : Nat
  time : Nat
  tq : Nat
  mask : Nat
  differ : List (Nat × Bool)
  d0 : Nat
  d1 : Nat
  deriving DecidableEq, Repr

/-- A takeover that is due (R722): cause of R749, wing or unit that it replaces, of the twin, and the earliest clock of its instant (none: the next boundary). -/
structure Due where
  cause : Nat
  old : Nat
  twin : Bool
  at' : Option Nat
  deriving DecidableEq, Repr

/-- Wings, arbiter and twin. (DEDUCED: notes/assumptions/107) -/
structure Units where
  w0 : Wing
  w1 : Wing
  /-- Wing that holds the module claim, and the claim word (R32). -/
  holder : Option Nat
  claim : Nat
  highest : Nat
  /-- Last emitted sequence of each output by index, plus one; 0 for none (R710). -/
  outSeq : List (Nat × Nat)
  /-- Outputs that are ready and that no gate has admitted, in the order of their keys (R723). -/
  outs : List Out
  due : Option Due
  /-- A SWITCH waits for the next boundary (R740). -/
  switchReq : Bool
  stoodDown : Bool
  redundant : Bool
  /-- Matching digests since convergence (R739). -/
  matching : Nat
  /-- Clock at which a unit entered RESYNC. -/
  resyncAt : Nat
  attrib : List Attrib
  /-- Wing whose die is in its SELFTEST after a REPAIR (R738). -/
  repairing : Option Nat
  /-- Self-test slices: next slice and slices failed in the pass, and the clock of the last full pass (R741). -/
  slice : Nat
  sliceFail : Nat
  passAt : Option Nat
  /-- This module in the pair (R726): its own role, alone ACTIVE; paired; the twin's claim, role, state and instar last seen, whether it was ever seen, lost. -/
  twinRole : Role
  paired : Bool
  peerClaim : Nat
  peerRole : Role
  peerState : Nat
  peerInstar : Nat
  peerSeen : Bool
  peerLost : Bool
  twinCurrent : Bool
  /-- The conditions of R726 that the other module alone knows are met: its PAIR_EN, rate and key roots. -/
  peerOk : Bool
  /-- Body of the twin's last HEALTH frame (R744). -/
  peerHealth : Bytes
  lane0 : Lane
  lane1 : Lane
  /-- Mirrored outputs not acknowledged (active twin), and the parts of stream frames held (standby twin). -/
  unacked : List (OzOut × Out)
  heldFrames : List Held
  /-- LINK_SEQ of the last OUTPUT frame whose outputs have all left (R745), and of those that have passed and have not, each with its output and SEQ. -/
  doneSeq : Nat
  leaving : List (Nat × Nat × Nat)
  /-- Index and sequence of the output whose acts run, for the frames that they queue. -/
  emitting : Option (Nat × Nat)
  beaconSeq : Nat
  lastBeacon : Option Nat
  /-- Clock of the entry to RUN, for R736. -/
  runAt : Nat
  deriving DecidableEq, Repr

/-! Transactions (chapter 20). -/

/-- States of a transaction (R799). -/
inductive TxnSt where
  | idle | opened | validating | storing | preparing | scheduled
  deriving DecidableEq, Repr

/-- A configuration record in force (R784, R785): type, key number and body. -/
structure CfgRec where
  typ : Nat
  key : Nat
  body : Bytes
  deriving DecidableEq, Repr

/-- Transactions and the configuration in force. -/
structure Txn where
  st : TxnSt
  owner : Option Iface
  /-- Shadows in the order of their last write; window records in the order written (R798). -/
  shadows : List (Nat × Word)
  windows : List (Nat × Bytes)
  staging : Bytes
  restored : Bool
  /-- Clock of the owner's last command or write. -/
  lastAt : Nat
  /-- Slot of the instar in force, none in force before a load. -/
  inForce : Option Nat
  instar : Nat
  /-- The configuration in force. -/
  cfg : List CfgRec
  /-- Boundary at which the scheduled commit applies, as WB_SEQ. -/
  boundary : Nat
  /-- Probation: wingbeats left while it runs; and the slot stays in PROBATION under R808. -/
  probation : Option Nat
  /-- The probation waits for the first wingbeat boundary in RUN (R805). -/
  probWait : Bool
  stayed : Bool
  /-- Confirm or revert asked for at the next boundary, and a roll-back with its CAUSE. -/
  confirmReq : Bool
  revertReq : Bool
  rollback : Option Nat
  /-- KIND and SOURCE for the TXN_APPLIED record of the scheduled commit. -/
  kind : Nat
  source : Nat
  /-- A LOAD_RESET is being stored (R796). -/
  loadReset : Bool
  /-- Clock of PREPARE. -/
  prepAt : Nat
  /-- TXN_TIMEOUT in force for the open transaction (R788). -/
  timeout : Nat
  deriving DecidableEq, Repr

/-! Safety (chapter 19). -/

/-- Functional safety. -/
structure Safety where
  /-- Forced objects: key kind × 65536 + index (0 detector, 1 island group, 2 tracker), with the causes that force it: bit c for CAUSE c of R776, bit 0
  for an overrun of R60. -/
  forced : List (Nat × Nat)
  /-- Causes that are present, same form; they force at the next boundary of the object's kind (R756). -/
  present : List (Nat × Nat)
  /-- A SAF_CLEAR waits for the next flutter boundary, and for the next wingbeat boundary (R757). -/
  clearDet : Bool
  clearWide : Bool
  /-- Kernels that overran on both wings in the last wingbeat (R60, R758). -/
  common : List Nat
  /-- Both wings overran in the last wingbeat, whatever the kernels (R60). -/
  bothOver : Bool
  /-- Channels in SAF_PARTNER_FAIL; flutters in a row in which the pair of a channel disagreed, and agreed (R765). -/
  partnerFail : List Nat
  partnerBad : List (Nat × Nat)
  partnerGood : List (Nat × Nat)
  /-- Pins in SAF_AO_FAULT; pins whose readback differed at the last flutter boundary, as a mask (R766). -/
  aoFault : Nat
  aoDiff : Nat
  /-- A proof runs: pin, its start clock, and whether the sample after the release matched (R774). -/
  proof : Option (Nat × Nat × Option Bool)
  deriving DecidableEq, Repr

end Sys2Proof.Machine
end

