-- ==== Sys2Proof/Machine/StLocal.lean ====
section
/-! DEFINITION. Sys2Proof/Machine/StLocal.lean: the parts of the state of the local path: conversion and checks (chapter 4), the filter chain
(chapter 5), phasors and detectors (chapter 6), acquisition (chapter 14) and compression (chapter 15). -/

namespace Sys2Proof.Machine

/-- A check result as published (R163, R187). -/
structure CkRes where
  ch : Nat
  seq : Nat
  pass : Bool
  injected : Bool
  overrun : Bool
  abort : Bool
  ic : Int
  qc : Int
  id' : Int
  qd : Int
  err : Nat
  deriving DecidableEq, Repr

/-- A check in progress or waiting for its comparison: channel, injected, and aborted under R157. -/
structure CkRun where
  ch : Nat
  injected : Bool
  aborted : Bool
  deriving DecidableEq, Repr

/-- One check converter (R152 to R168). -/
structure Ck where
  /-- Queued channels, head first; the outcome of the last request; credits left. -/
  queue : List Nat
  last : Nat
  credit : Nat
  /-- Rotation: index, 0 to 11, of the next rotational channel. -/
  pos : Nat
  run : Option CkRun
  /-- A check whose frame has ended and whose comparison is due (R150). -/
  due : Option CkRun
  /-- A check aborted by a phase reset, to be run again first (R156). -/
  redo : Option (Nat × Bool)
  front : Option CkRes
  /-- The front buffer is not consumed yet. -/
  valid : Bool
  back : Option CkRes
  /-- Sequence number of the next result (R168). -/
  seq : Nat
  deriving DecidableEq, Repr

/-- One quadrant (R170 to R182). -/
structure Quad where
  /-- Outcome code of R176. -/
  outcome : Nat
  /-- A calibration is accepted or runs; it waits for its frame boundary; clock of its beginning. -/
  busy : Bool
  waiting : Bool
  calAt : Nat
  /-- Clock at which the last calibration ended. -/
  calEnd : Option Nat
  /-- Check converters idle until no channel carries SETTLE (R175). -/
  hold : Bool
  /-- A snapshot is requested (R139). -/
  snap : Bool
  /-- Reference readings out of limits in a row, and the clock since which they lie within (R145). -/
  refBad : Nat
  refGood : Option Nat
  /-- Low-power mode (R180). -/
  lp : Bool
  deriving DecidableEq, Repr

/-- One resampled sample with the flags of its position (R252): value, valid, low-power. -/
structure Samp where
  v : Int
  ok : Bool
  lp : Bool
  deriving DecidableEq, Repr

/-- A phasor estimate (R248 to R256): instant in units, angle in 2^−32 turn, magnitude in codes and frequencies in µHz with `Config.fxBits` more
bits, their validity, and OOR. -/
structure Est where
  tc : Int
  psi : Nat
  mag : Nat
  /-- arg X of R248 and R249 in 2^−32 turn. -/
  arg : Nat
  ok : Bool
  oor : Bool
  f1 : Int
  f1ok : Bool
  f : Int
  fok : Bool
  rocof : Int
  rok : Bool
  deriving DecidableEq, Repr

/-- A cross-fade of a channel position (R199 to R205): incoming bank, length, samples done, and while it waits the clock of its request. -/
structure Fade where
  bank : Nat
  len : Nat
  k : Nat
  waiting : Option Nat
  deriving DecidableEq, Repr

/-- A freeze of a DC estimate (R210 to R212): cause, made by the host, consecutive inactive ticks, ticks so far. -/
structure Freeze where
  cause : Nat
  host : Bool
  tail : Nat
  dur : Nat
  deriving DecidableEq, Repr

/-- An interpolated phasor as delivered (R259 to R261): reporting instant in ns, quality, status bits, and values. -/
structure Deliv where
  time : Nat
  tq : Nat
  valid : Bool
  cls : Nat
  lp : Bool
  slew : Bool
  oor : Bool
  /-- Magnitude in codes, angle in 2^−16 turn, F − f0 in µHz, ROCOF in mHz/s, and validity of the frequency. -/
  mag : Nat
  ang : Nat
  f : Int
  rocof : Int
  fok : Bool
  /-- The magnitude as interpolated, with the fraction bits that estimates keep (R261). -/
  magX : Nat
  deriving DecidableEq, Repr

/-- One channel position (chapters 4 to 6). -/
structure Chan where
  /-- The last 3,200 bits of the modulator's bitstream, the latest in bit 0 (R190, R193, R234). -/
  bits : Nat
  /-- Last decimator word, how often in a row it was the same, consecutive samples at the clamped code, consecutive samples within range. -/
  raw : Int
  same : Nat
  clamped : Nat
  inRange : Nat
  /-- Last corrected word (R138). -/
  word : Int
  /-- Consecutive passing checks (R151). -/
  passes : Nat
  /-- Base-rate words, newest first, 64 (R195), and outputs of the DC block, newest first, 48 (R219). -/
  x : List Int
  y : List Int
  /-- DC estimate in 2^−24 code, and its values at the last sample ticks, newest first (R206, R209). -/
  m : Int
  mHist : List Int
  /-- Bank that is LIVE outside a fade. -/
  live : Nat
  fade : Option Fade
  /-- Pending swap: bank and length; a pending fade due at the next tick; outcome of the last SWAP. -/
  pend : Option (Nat × Nat)
  swapLast : Nat
  freeze : Option Freeze
  /-- A trigger since the last sample tick: its cause; a release asked by the host. -/
  trig : Option Nat
  rel : Bool
  /-- Resampled samples, newest first. -/
  s : List Samp
  /-- Samples in the moving-average window. -/
  maN : Nat
  /-- Was the position valid at the last sample tick (R222)? -/
  wasOk : Bool
  /-- Estimates of class P and M, newest first. -/
  estP : List Est
  estM : List Est
  /-- Watch residuals, newest first: time in units, value, valid (R274). -/
  res : List (Int × Int × Bool)
  /-- Watch result: valid, peak in ppm, its frequency in Hz (R275). -/
  ssw : Bool × Nat × Nat
  /-- Latest interpolated phasor, and reporting instants delivered. -/
  rpt : Option Deliv
  rptCnt : Nat
  /-- The last reporting instant delivered, in units (R259). -/
  rptAt : Option Nat
  deriving DecidableEq, Repr

/-- One value of a sampled-value stream for a virtual channel (R238): sample number S × rate + SmpCnt, and the word. -/
structure VcVal where
  n : Nat
  v : Int
  deriving DecidableEq, Repr

/-- One virtual channel (R236 to R240). -/
structure Vc where
  vals : List VcVal
  /-- Highest sample number that has been needed, and how many in a row had arrived when they were (R240). -/
  top : Nat
  inTime : Nat
  inRange : Nat
  deriving DecidableEq, Repr

/-- An AO pin (R279, R280): clock until which MIN_HOLD lasts, latched, at alarm level, and clock at which it last went to alarm level. -/
structure Ao where
  holdTo : Option Nat
  latched : Bool
  alarm : Bool
  since : Nat
  /-- Wide-area sources that are active: kind × 65536 + index (1 island group, 2 tracker). -/
  wide : List Nat
  deriving DecidableEq, Repr

/-- The local path. -/
structure Local where
  quads : List Quad
  cks : List Ck
  chans : List (Nat × Chan)
  /-- Base-rate samples that SETTLE still lasts, plus one, by channel position (R232). -/
  settle : List (Nat × Nat)
  /-- Coefficients loaded in place of the reference bank, keyed 128 n + 64 bank + tap. -/
  coef : List (Nat × Int)
  /-- Sample ticks and tracked-cycle boundaries since the last phase reset (R43, R153). -/
  ticks : Nat
  cycles : Nat
  /-- Resampler position in 2^−32 base-rate sample, full mode and low-power mode (R219). -/
  pos : Nat
  posLp : Nat
  /-- Timestamps of the last sample ticks in units, newest first (R45). -/
  stamps : List Nat
  /-- Clock of the last accepted phase reset (R229). -/
  resetAt : Option Nat
  /-- Tracked frequency in µHz, flutters in HOLD, selected candidate, and per candidate consecutive flutters with amplitude and valid (R215, R216). -/
  freq : Nat
  holdCnt : Nat
  ampCnt : List (Nat × Nat)
  validCnt : List (Nat × Nat)
  /-- Threshold units, keyed 4 n + u: active, and evaluations in a row that met the criterion. -/
  thr : List (Nat × (Bool × Nat))
  vcs : List (Nat × Vc)
  aos : List (Nat × Ao)
  /-- Unlatches of AO pins that wait for their flutter boundary: mask and clock of each write (R281). -/
  unlatch : List (Nat × Nat)
  /-- Base-rate samples since the last phase reset, of each quadrant and of the virtual channels (R219, R230). -/
  base : List Nat
  /-- A marked edge has passed and no base-rate sample since (R230). -/
  edge : Bool
  /-- Sample ticks since the phase reset at the last flutter, tracked-cycle and frame boundary, and whether there was a frame boundary at all (R43, R153). -/
  flutAt : Nat
  cycAt : Nat
  frameAt : Nat
  framed : Bool
  deriving DecidableEq, Repr

/-! Acquisition (chapter 14). -/

/-- An entry of the lookback ring: its bytes with SEQ zero, its time in ns, the clock at its time, at the start of its span, whether it always goes
to the host, whether it has been sent or passed over, and the compression job that it waits for (a waveform block). -/
structure AcqEntry where
  bytes : Bytes
  time : Nat
  clk : Nat
  clk0 : Nat
  always : Bool
  finished : Bool
  job : Option Nat
  deriving DecidableEq, Repr

/-- A pattern unit (R601 to R605): its pattern held at the previous change; clock of the mark whose holdoff runs; matches in the holdoff; those of the
previous holdoff; suppressed records in it; marks in the power epoch. -/
structure PatUnit where
  held : Bool
  markAt : Option Nat
  supp : Nat
  prevSupp : Nat
  marks : Nat
  deriving DecidableEq, Repr

/-- A wave group (R615): per sampled tick, newest first, its time in ns, clock, invalid input and the words of the channels; ticks; blocks. -/
structure WaveGrp where
  got : List (Nat × Nat × Bool × List Int)
  ticks : Nat
  blocks : Nat
  deriving DecidableEq, Repr

/-- Acquisition. -/
structure Acq where
  /-- Levels of the event bus, bit s for signal s (R594). -/
  bus : Nat
  /-- Its changes, newest first: time in ns, signal, level (R595). -/
  log : List (Nat × Nat × Bool)
  /-- Changes that wait for the rest of those at the same time: signal and level (R599). -/
  todo : List (Nat × Bool)
  todoAt : Nat
  units : List (Nat × PatUnit)
  groups : List (Nat × WaveGrp)
  ring : List AcqEntry
  /-- Clock of the newest entry overwritten, and of the TO time of the newest gap record (R609). -/
  overClk : Option Nat
  gapClk : Option Nat
  /-- Clock of the start of capture (R609). -/
  startClk : Option Nat
  paused : Bool
  /-- Entries not produced that no gap record has shown yet: change records, marks, blocks, and time of the first (R614). -/
  lost : Nat × Nat × Nat × Nat
  /-- Marks: clock and unit, newest first (R608, R617). -/
  marks : List (Nat × Nat)
  seq : Nat
  tail : Nat
  /-- Tail writes that wait for their flutter boundary, oldest first: value and clock (R611). -/
  tailReqs : List (Nat × Nat)
  deriving DecidableEq, Repr

/-! Compression (chapter 15). -/

/-- A compression job: source (0 acquisition, 1 K_ARCHIVE, 2 host), number, operation, method, level, PARAM, BLOCK_INDEX and input. -/
structure CmpJob where
  src : Nat
  no : Nat
  op : Nat
  method : Nat
  level : Nat
  param : Nat
  index : Nat
  input : Bytes
  /-- Host job: input address and length, destination address and length; BAD_DESC found at its check. -/
  srcAt : Nat
  srcLen : Nat
  dst : Nat
  dstLen : Nat
  bad : Bool
  deriving DecidableEq, Repr

/-- One engine: the job it runs and the clock of its start; out of service; ticks that its jobs have taken. -/
structure CmpEng where
  job : Option (CmpJob × Nat)
  fault : Bool
  busy : Nat
  deriving DecidableEq, Repr

/-- A wing's compression: engines, waiting jobs of the device queues. -/
structure CmpWing where
  e0 : CmpEng
  e1 : CmpEng
  waitAcq : List CmpJob
  waitArc : List CmpJob
  deriving DecidableEq, Repr

/-- Compression. -/
structure Cmp where
  w0 : CmpWing
  w1 : CmpWing
  waitHost : List CmpJob
  /-- SQ_INDEX of the next job taken, next one to be completed, and entries held: index to OUT_LEN, IN_LEN, STATUS, ENGINE. -/
  sqIndex : Nat
  nextOut : Nat
  entries : List (Nat × (Nat × Nat × Nat × Nat))
  phase : Bool
  /-- Number of the next device job. -/
  nextJob : Nat
  /-- Device jobs that the standby wing has finished before the active one; and archive blocks returned to K_ARCHIVE. -/
  early : List (CmpJob × Option Bytes)
  arcOut : List (Nat × Bytes)
  deriving DecidableEq, Repr

/-! Test and loop-backs (chapter 23). -/

/-- A loop-back of one object (R871 to R874): mode that runs, what a write asks for (mode and clock of the write), clock of its start, OVERRIDE,
and the channels named at its start (a quadrant). -/
structure Loop where
  mode : Nat
  req : Option (Nat × Nat)
  at' : Nat
  override : Bool
  mask : Nat
  deriving DecidableEq, Repr

/-- The generator and checker of a port (R878): frames to send, their length, frames sent, number that the checker expects next, and the clock at
which the last frame left. -/
structure LoopGen where
  count : Nat
  len : Nat
  sent : Nat
  next : Nat
  lastAt : Option Nat
  deriving DecidableEq, Repr

/-- Test state: loop-backs keyed 256 × KIND + INDEX (R892), generators by port, and of the PPS loop the edges compared, the largest |offset| in ns
and whether its result has been written (R887). -/
structure Tst where
  loops : List (Nat × Loop)
  gens : List (Nat × LoopGen)
  ppsEdges : Nat
  ppsMax : Nat
  ppsDone : Bool
  deriving DecidableEq, Repr

end Sys2Proof.Machine
end

