-- ==== Sys2Proof/Machine/StNet.lean ====
section
/-! DEFINITION. Sys2Proof/Machine/StNet.lean: the parts of the state of the network ports (chapter 7). Frames are held without their frame check
sequence, so that a frame of length L is a byte string of L − 4. -/

namespace Sys2Proof.Machine

/-- A frame in a transmit queue (R308): its bytes; the PTP event message that it is (0 none, 1 Sync, 2 Pdelay_Req, 3 Pdelay_Resp) with the
receive stamp that a response answers; and whether it is the last segment of a job. -/
structure TxFrame where
  bytes : Bytes
  ptp : Nat
  stamp : Int
  lastSeg : Bool
  /-- Index and sequence of the output that it belongs to (R745, R747). -/
  out : Option (Nat × Nat)
  deriving DecidableEq, Repr

/-- One port. -/
structure Port where
  /-- The medium offers a link, at this speed code, in half duplex; the link is up; the rest as STATUS shows it (R287, R921). -/
  medium : Bool
  speed : Nat
  half : Bool
  link : Bool
  plca : Bool
  dupErr : Bool
  lpiRx : Bool
  /-- Frames sent in the transmit opportunity that is open, 0 where none is, and the clock from which the next may open (R323). -/
  burst : Nat
  oppAt : Nat
  /-- Waiting frames in the order of their entry, each with its queue (R309), and the frame on the wire. -/
  txq : List (Nat × TxFrame)
  cur : Option (Nat × TxFrame)
  /-- Clock at which a pause hold ends, at which the uninterrupted hold began, and at which pause is ignored no longer (R316 to R318). -/
  pauseTo : Option Nat
  holdAt : Nat
  ignoreTo : Option Nat
  /-- Clock at which the transmit queues became empty; clock of the entry to low-power idle; clock at which the wake ends (R319, R321). -/
  emptyAt : Nat
  lpiAt : Option Nat
  wakeTo : Option Nat
  /-- Collisions of the frame on the wire, and the clock at which its back-off ends (R325). -/
  coll : Nat
  /-- The general message that follows the PTP event message on the wire once it has left (R101). -/
  follow : Option Bytes
  backTo : Option Nat
  /-- Row of the table of R328 in force, and the external parts of RX_LAT and TX_LAT in ns. -/
  cond : Nat
  extRx : Int
  extTx : Int
  deriving DecidableEq, Repr

/-- A received frame that waits for its release (R297): end time in units, port, bytes, receive stamp in units. -/
structure RxFrame where
  fin : Nat
  port : Nat
  bytes : Bytes
  stamp : Int
  deriving DecidableEq, Repr

/-- An entry of the discard table (R302): source, H, window (bit i for H − i), clock last seen. -/
structure PrpEntry where
  mac : Nat
  high : Nat
  window : Nat
  seen : Nat
  deriving DecidableEq, Repr

/-- The network ports. -/
structure Net where
  ports : List (Nat × Port)
  /-- Multicast table, keyed 64 p + e: VALID in bit 48 and the address (R294). -/
  mcast : List (Nat × Nat)
  /-- Changes of entries, newest first: clock, key and the entry before, for frames that had started then (R330). -/
  mcastLog : List (Nat × Nat × Nat)
  rxq : List RxFrame
  /-- Discard table, least recently seen first (R302, R303). -/
  prp : List PrpEntry
  deriving DecidableEq, Repr

end Sys2Proof.Machine
end

