-- ==== Sys2Proof/Machine/StWide.lean ====
section
/-! DEFINITION. Sys2Proof/Machine/StWide.lean: the parts of the state of the wide-area path: ingress (chapter 8), the roost and the
output streams (chapter 9), the oscillation watch (chapter 10) and islanding (chapter 11). -/

namespace Sys2Proof.Machine

/-- Runtime state of a point (R340, R383), with the clock of its last AUTH_FAIL record and the failures since (R352), its missing wingbeats in a row
and its last STATUS (K_SLOTSCAN). -/
structure PointRt where
  seq : Nat
  seen : Bool
  sec : Nat
  ns : Nat
  acc : Nat
  auth : Nat
  gaps : Nat
  disc : Nat
  cause : Nat
  authAt : Option Nat
  authNew : Nat
  silent : Nat
  status : Nat
  deriving DecidableEq, Repr

/-- One PMU block of a parsed CFG-2 (R365): FORMAT, numbers of phasors, analogue values and digital words, PHUNIT words, FNOM. -/
structure C37Block where
  format : Nat
  phnmr : Nat
  annmr : Nat
  dgnmr : Nat
  phunit : List Nat
  fnom : Nat
  deriving DecidableEq, Repr

/-- A parsed CFG-2. -/
structure C37Cfg where
  timeBase : Nat
  blocks : List C37Block
  deriving DecidableEq, Repr

/-- Runtime state of a C37 source (R363 to R365). -/
structure C37Src where
  cfg : Option C37Cfg
  pend : Option C37Cfg
  reqAt : Option Nat
  change : Bool
  frames : Nat
  deriving DecidableEq, Repr

/-- The virtual depth of a queue and the release time, in units, from which its next service period runs (R372, R575). -/
structure VDepth where
  n : Nat
  at' : Nat
  deriving DecidableEq, Repr

/-- A gap marker of an ingress queue: frames dropped, end times in ns of the first and the last, and whether it is still the newest item (R373, R573). -/
structure GapMark where
  count : Nat
  first : Nat
  last : Nat
  newest : Bool
  deriving DecidableEq, Repr

/-- Ingress. -/
structure Ingress where
  points : List (Nat × PointRt)
  c37 : List (Nat × C37Src)
  /-- Virtual depth of queues 0 to 2 (R372). -/
  iq : List (Nat × VDepth)
  /-- Gap markers of queues 0 to 2, and of IQ_HOST under 3 + its wing, oldest first (R373, R375). -/
  gaps : List (Nat × List GapMark)
  /-- Frames for host software, each in the IQ_HOST of a wing (R341, R375). -/
  hostq : List (Nat × Bytes)
  /-- Wings whose real backlog has run ahead of a virtual depth (R374). -/
  lag : List Nat
  /-- TAI second of the last leap event and the offset before it (R366). -/
  leapAt : Option (Nat × Int)
  /-- Derived keys of points by index, and of command groups (R33, R355, R500). -/
  keys : List (Nat × Bytes)
  cmdKeys : List (Nat × Bytes)
  deriving DecidableEq, Repr

/-- A slot (R385 to R388): N, its instant in ns, time quality of the instant, open, the records present by entry, and the late ones. -/
structure Slot9 where
  n : Nat
  at' : Nat
  tq : Nat
  opened : Bool
  recs : List (Nat × Bytes)
  late : List Nat
  /-- Entries placed from the early buffer. -/
  early : List Nat
  /-- Output time in ns and number of its closing boundary. -/
  closeAt : Nat
  closeWb : Nat
  deriving DecidableEq, Repr

/-- A record in the early buffer: entry, N, record, and the SEQ of its report (R396). -/
structure EarlyRec where
  entry : Nat
  n : Nat
  bytes : Bytes
  seq : Option Nat
  deriving DecidableEq, Repr

/-- A TCP connection of a stream (R416): port, addresses of the peer, its MSS, sequence numbers sent and acknowledged and received, handshake done,
the frames in the send buffer that are not acknowledged, each with its transmit queue, and the received bytes that are no frame yet. -/
structure Conn where
  port : Nat
  mac : Nat
  ip : Nat
  sport : Nat
  mss : Nat
  sndNxt : Nat
  sndUna : Nat
  rcvNxt : Nat
  up : Bool
  buf : List (Nat × Bytes)
  rx : Bytes
  deriving DecidableEq, Repr

/-- A stream (R407 to R419). -/
structure Str where
  dataOn : Bool
  conn : Option Conn
  deriving DecidableEq, Repr

/-- A GOOSE block (R426 to R429): sampled once, values, stNum, sqNum, time of the sampling in ns with its quality, interval to the next message in ms
and the clock at which it is due. -/
structure Goose where
  live : Bool
  vals : Nat
  st : Nat
  sq : Nat
  t : Nat
  tq : Nat
  gap : Nat
  due : Nat
  deriving DecidableEq, Repr

/-- Roost and streams. -/
structure Roost where
  /-- Ring positions 0 to 15 (R386). -/
  ring : List (Nat × Slot9)
  /-- Slow window, oldest first (R402). -/
  slow : List Slot9
  early : List EarlyRec
  /-- Slots that wait for the critical items of N − 16 (R391). -/
  busy : List Nat
  first : Option Nat
  opened : Option Nat
  closed : Option Nat
  /-- Newest slot that has left the slow window (R406). -/
  left : Option Nat
  /-- DUP_DIFF by entry: count since the last record and clock of that record (R395). -/
  dupDiff : List (Nat × (Nat × Option Nat))
  /-- Slots that have left the slow window and that K_ARCHIVE has not taken yet. -/
  leaving : List Slot9
  /-- Export entries made and not yet at the gate, oldest first: slow, N, bytes (R420 to R423). -/
  exports : List (Bool × Nat × Bytes)
  /-- Wide-area alarms that are on: kind × 65536 + index (1 island group, 2 tracker). -/
  alarms : List Nat
  strs : List (Nat × Str)
  /-- Data frames that K_STREAM has ready: stream, slot and bytes (R414). -/
  ready : List (Nat × Nat × Bytes)
  goose : List (Nat × Goose)
  deriving DecidableEq, Repr

/-! The oscillation watch (chapter 10). -/

/-- A watched signal (R439 to R445): state (1 FILL, 2 VALID, 3 INVALID; OFF where its TYPE is 0), consecutive replaced inputs, fill count, last
conditioned input, DC estimate in 2^−16 unit and whether it is loaded, invalid count, the 64 bins, and the input of the last slot with its N. -/
structure OscSig where
  st : Nat
  hold : Nat
  fill : Nat
  last : Int
  m : Int
  mOk : Bool
  inv : Nat
  bins : List (Int × Int)
  prev : Nat × Option Int
  deriving DecidableEq, Repr

/-- A damping estimate (R457 to R459), in 10^−4 with `Config.fxBits` more bits, above range, growing. -/
structure OscEst where
  z : Int
  above : Bool
  growing : Bool
  deriving DecidableEq, Repr

/-- A tracker (R449 to R462). -/
structure OscTrk where
  /-- 0 OFF, 1 FILL, 2 TRACK, 3 INVALID; updates since its start. -/
  st : Nat
  cnt : Nat
  /-- Active bin, chosen already, the bin that the next update changes to, and consecutive updates at which a bin exceeded it. -/
  bin : Nat
  chosen : Bool
  next : Option Nat
  runs : List (Nat × Nat)
  /-- The recursion: w by rows, p and c by rows of 4. -/
  w : List (List (Int × Int))
  p : List (Int × Int)
  c : List (Int × Int)
  /-- Angle of the last z, its steps and the energies, newest first, since the last change of active bin; estimates, newest first, and the update of the newest. -/
  arg : Option Nat
  steps : List Int
  energy : List Nat
  ests : List OscEst
  estAt : Nat
  /-- Results of the latest update: included, frequency in µHz, A_mode, A_max, √λ, components (magnitude, angle in 2^−32 turn), REF_USED. -/
  incl : Nat
  freq : Int
  aMode : Nat
  aMax : Nat
  lam : List Nat
  shape : List (Nat × Nat)
  refUsed : Bool
  /-- Alarm: 0 NORMAL, 1 PENDING, 2 ALARM, 3 SUSPENDED; COUNT; flag of its own evaluation; AMP and DAMP met. -/
  al : Nat
  alCnt : Nat
  flag : Bool
  amp : Bool
  damp : Bool
  /-- Shapes pinned for a host interface (R471): magnitude, angle, participation by list position. -/
  pinP : List (Nat × Nat × Nat)
  pinS : List (Nat × Nat × Nat)
  deriving DecidableEq, Repr

/-- The oscillation watch: N of the last update, signals, trackers. -/
structure Osc where
  upd : Option Nat
  sigs : List (Nat × OscSig)
  trks : List (Nat × OscTrk)
  deriving DecidableEq, Repr

/-! Islanding (chapter 11). -/

/-- Statistics of a group in a slot (R478, R479, R481): N, open at its closing boundary, valid, ALT_USED, the reference measured against (none when none
is usable), PRESENT, MEAN, SPREAD, DRIFT with its availability, FDIFF, RDIFF. -/
structure IslStat where
  n : Nat
  opened : Bool
  valid : Bool
  alt : Bool
  ref : Option Nat
  present : Nat
  mean : Int
  spread : Nat
  drift : Int
  driftOk : Bool
  fdiff : Int
  rdiff : Int
  deriving DecidableEq, Repr

/-- An island group (R483 to R488): statistics of the last slots, newest first; MEAN of valid slots, newest first (N, mean, reference); breaker count;
measure count, the arm's met state and its release; criteria met in the last evaluation, SPREAD within its limit; EXPOSED; alarm flag of its own
evaluation, COUNT, LATCHED, and the arms that met at its entry to ALARM. -/
structure IslGrp where
  stats : List IslStat
  hist : List (Nat × Int × Nat)
  brk : Nat
  meas : Nat
  measured : Bool
  relMeas : Bool
  met : List Bool
  spreadOk : Bool
  exposed : Bool
  flag : Bool
  cnt : Nat
  latched : Bool
  arms : Nat
  dem : List (Nat × Nat × Nat)
  deriving DecidableEq, Repr

/-- The last scale command that passed the gate (R505): TYPE, SETPOINT, RAMP, VALID time in ns. -/
structure ScaleCmd where
  typ : Nat
  set' : Nat
  ramp : Nat
  validTo : Nat
  deriving DecidableEq, Repr

/-- Repeats of a command (R504): what each sends, how many are left, clock of the next, claim under which it was emitted. -/
structure CmdRep where
  acts : List Act
  left : Nat
  next : Nat
  claim : Nat
  deriving DecidableEq, Repr

/-- Counting of acknowledgements (R513): SEQ, TYPE, output time in ns of the emission, clock of its end, and the counts of the last slot counted. -/
structure CmdAck where
  seq : Nat
  typ : Nat
  from' : Nat
  until' : Nat
  counts : Option (Nat × Nat × Nat)
  deriving DecidableEq, Repr

/-- A command group (R494 to R504, R513): command in force and strongest demand (type, 0 for none, and setpoint), host demand, a RELEASE operation to be
compared, RELEASE_WAIT, SEQ last given, SEQ last emitted, commands emitted, the last one, repeats, counting, UNACK. -/
structure CmdGrp where
  force : Nat × Nat
  demand : Nat × Nat
  host : Nat × Nat
  rel : Bool
  wait : Bool
  seq : Nat
  lastSeq : Nat
  sent : Nat
  last : Option ScaleCmd
  reps : List CmdRep
  ack : Option CmdAck
  unack : Nat
  deriving DecidableEq, Repr

/-- Host operations of the island engine (R489, R497): the operation that waits for its boundary (group, OP, setpoint, clock of the write), LAST, and the
unlatches that wait (group, clock of the write). -/
structure IslHost where
  pend : Option (Nat × Nat × Nat × Nat)
  last : Nat
  unlatch : List (Nat × Nat)
  deriving DecidableEq, Repr

/-- The island engine. -/
structure Isl where
  upd : Option Nat
  grps : List (Nat × IslGrp)
  cmds : List (Nat × CmdGrp)
  host : IslHost
  /-- References usable in the last slot (R477). -/
  refUsable : List Nat
  deriving DecidableEq, Repr

end Sys2Proof.Machine
end

