-- ==== Sys2Proof/Machine/StSched.lean ====
section
/-! DEFINITION. Sys2Proof/Machine/StSched.lean: the parts of the state of the scheduler, the power manager (chapter 12) and the queue
fabric (chapter 13). -/

namespace Sys2Proof.Machine

/-- What a work item works on (R527): the argument of its kernel. -/
inductive Work where
  /-- K_SLOTSCAN, item i of slot n. -/
  | slotScan (n i : Nat)
  /-- K_ISLDEC of slot n, stage A for 128 island groups or stage B for 128 command groups, item i. -/
  | isl (n : Nat) (stageB : Bool) (i : Nat)
  /-- K_OSCDEC of tracker i after slot n. -/
  | osc (n i : Nat)
  /-- K_DIGEST of slot n. -/
  | digest (n : Nat)
  /-- K_FLTCHK, of a slot where a slot close releases it. -/
  | fltchk (n : Option Nat)
  /-- K_STREAM: stream s, slot n, the built data frame. -/
  | stream (s n : Nat) (frame : Bytes)
  /-- K_CMDACK: command group c, slot n. -/
  | cmdAck (c n : Nat)
  /-- K_C37CFG: source, CFG-2 frame. -/
  | c37cfg (src : Nat) (frame : Bytes)
  /-- K_REPLY: port, frame. -/
  | reply (port : Nat) (frame : Bytes)
  /-- K_TCP: stream, port, received frame (empty for a timer event). -/
  | tcp (s port : Nat) (frame : Bytes)
  /-- K_ARCHIVE of a slot that left the slow window, and of a host range. -/
  | archive (n : Nat)
  | archiveHost (first count : Nat)
  /-- A host item whose argument is malformed. -/
  | badArg
  /-- A kernel that a patch added, of a slot where a slot close releases it. -/
  | patched (n : Option Nat)
  deriving DecidableEq, Repr

/-- A work item (R529), with the clock and the boundary of its release, and its order key when it is critical (R536). -/
structure Item where
  id : Nat
  kernel : Nat
  cls : Nat
  ecl : Nat
  comp : Bool
  deadline : Nat
  aff : Nat
  compq : Nat
  cookie : Nat
  list : Nat
  wc : Nat
  host : Option (Nat × Nat)
  release : Nat
  boundary : Nat
  pipe : Nat
  stage : Nat
  korder : Nat
  index : Nat
  work : Work
  deriving DecidableEq, Repr

/-- An item that runs on a core: the item, its clock in MHz, and the clock count of its start. -/
structure Running where
  item : Item
  mhz : Nat
  start : Nat
  deriving DecidableEq, Repr

/-- The scheduler of one wing. (DESIGN CHOICE: notes/assumptions/17) -/
structure WSched where
  /-- Critical items released and not dispatched; regular and deferrable items in their ready lists. -/
  crit : List Item
  wait : List Item
  cores : List (Nat × Running)
  /-- Deficit of each list in cycles (R543); core that last ran an affinity key, plus one (R544); items whose patience has passed; the clock at which a
  critical item became ready (R558), and that from which an item waits for the core of its affinity key (R544). -/
  deficit : List (Nat × Int)
  aff : List (Nat × Nat)
  impatient : List Nat
  since : List (Nat × Nat)
  /-- The list whose turn it is, and whether its turn has begun (R543). -/
  turn : Nat
  began : Bool
  /-- Items that this wing has completed and whose outputs have not been produced yet; items whose outputs the other wing has produced and that this wing
  has still to complete (R538, R723); critical items that ended with a STATUS other than OK (R539). -/
  early : List Item
  applied : List Nat
  failed : List Item
  /-- Of the open wingbeat (R558): overrun, items of the three classes, late items, largest lateness, saturated ones, histogram of regular waits,
  largest depths, busy ticks per core, level LOW and SHORT seen, clock of the last critical completion. -/
  overrun : Bool
  doneC : Nat
  doneR : Nat
  doneD : Nat
  late : Nat
  lateMax : Nat
  lateSat : Nat
  hist : List (Nat × Nat)
  depthMax : List (Nat × Nat)
  busy : List (Nat × Nat)
  critEnd : Nat
  deriving DecidableEq, Repr

/-- The scheduler and the power manager. -/
structure Sched where
  w0 : WSched
  w1 : WSched
  nextId : Nat
  /-- Clock of the opening of the open wingbeat. -/
  openClk : Nat
  /-- Nectar bucket in nJ (R546), its level, the clock of the last NECTAR record, and a change of level that waits for it (R553). -/
  nectar : Int
  level : Nat
  nectarAt : Option Nat
  nectarDue : Bool
  lowSeen : Bool
  shortSeen : Bool
  /-- Highest die temperature, in 0.1 °C; allowance A in 0.1 W. -/
  tempMax : Int
  allow : Nat
  /-- Energy of the open wingbeat and of the power epoch in nJ; power samples of the running 100 ms in mW, and their number. -/
  wbEnergy : Nat
  energy : Nat
  powSum : Nat
  powCnt : Nat
  /-- Powered seconds of the running hour (R555), and the live ledger of each wing: HOURS in seconds, EQ in 10^−6 s. -/
  hourSec : Nat
  hours : List Nat
  eq : List Nat
  deriving DecidableEq, Repr

/-- An item of a queue (R568, R570): gap marker or data, length, the words written, words read, stamp, pool, and an uncorrectable error in it. -/
structure QItem where
  gap : Bool
  len : Nat
  words : List (BitVec 64)
  read : Nat
  stamp : Nat
  pool : Nat
  err : Bool
  deriving DecidableEq, Repr

/-- A queue (R568 to R580): items, oldest first; words of a dropped or flushed item still to come from its producer, and the pool of
the item whose slot they hold (R578, R579);
the next read of the consumer ends with ABORT; virtual depth; credits out per pool. -/
structure Queue where
  items : List QItem
  skip : Nat
  held : Option Nat
  abort : Bool
  vdepth : VDepth
  used : List (Nat × Nat)
  deriving DecidableEq, Repr

/-- The outcome of a pop: the words of an item, whether it is a marker, and ERR and ABORT of the pop status. -/
structure PopOut where
  gap : Bool
  words : List (BitVec 64)
  err : Bool
  abort : Bool
  deriving DecidableEq, Repr

/-- The queue fabric: queues keyed 512 w + q, and what the last pop of each wing returned (none for an empty queue). -/
structure Que where
  qs : List (Nat × Queue)
  pop0 : Option PopOut
  pop1 : Option PopOut
  deriving DecidableEq, Repr

end Sys2Proof.Machine
end

