-- ==== Sys2Proof/Machine/State.lean ====
section
/-! DEFINITION. Sys2Proof/Machine/State.lean: the state of the block, as plain data, and its reset. -/

namespace Sys2Proof.Machine

/-- Reasons for which a step stops with a fault. No command of this block does. (DESIGN CHOICE: notes/assumptions/30) -/
inductive Fault where
  /-- Raised by nothing: kept so that the type is closed and empty of meaning. Safe. -/
  | none
  deriving DecidableEq, Repr

/-- Reasons for which a step refuses. -/
inductive Refusal where
  /-- A command that has no meaning yet; raised by its arm of `exec` alone. Safe. -/
  | notModelled (mnemonic : String)
  deriving DecidableEq, Repr

/-- Everything of the block but the write locks and the queue. (DESIGN CHOICE: notes/assumptions/17) -/
structure Dev where
  /-- Registers, by BAR0 address, plus 2^24 for the copy of wing 1 where the wings keep their own; a register at its reset value is not listed. -/
  regs : List (Nat × Word)
  /-- What the device has contributed to registers in the tick that runs (R19, R20). -/
  hw : HwCycle
  /-- Count of free values taken. The model's own. -/
  freeCtr : Nat
  /-- Count of entries to RESET. The model's own: a change of it clears GLB_CTL. -/
  resetCtr : Nat
  pins : Pins
  nv : NvDie
  host : HostIf
  tim : Tim
  grid : Grid
  evr : Recorder
  units : Units
  txn : Txn
  saf : Safety
  loc : Local
  acq : Acq
  cmp : Cmp
  tst : Tst
  net : Net
  sch : Sched
  que : Que
  ing : Ingress
  roost : Roost
  osc : Osc
  isl : Isl
  key : KeySt
  deriving DecidableEq, Repr

/-- The machine state. (DESIGN CHOICE: notes/assumptions/6) -/
structure State where
  /-- GLB_CTL: the write locks (R869, R870). -/
  ctl : Word
  dev : Dev
  /-- Commands that wait, first in first out. -/
  pending : List Instr
  deriving DecidableEq, Repr

/-! Reset. A register is at the value of its table (R853); state that the spec gives no reset value holds nothing, or zero. -/

/-- A unit that runs from the start of a power epoch. -/
def Wing.fresh (r : Role) : Wing := ⟨r, 0, 0, 0, true, 0, []⟩

/-- A domain with no source yet: FREE, at the nominal increment (R104, R80). -/
def Domain.fresh : Domain := ⟨.free, 0, 0x280000000, 0, 0, [], [], 0, 0, 0, false, none, none, 0⟩

/-- A scheduler with nothing to run. -/
def WSched.fresh : WSched := ⟨[], [], [], [], [], [], [], 0, false, [], [], [], false, 0, 0, 0, 0, 0, 0, [], [], [], 0⟩

/-- An engine pair with nothing to do. -/
def CmpWing.fresh : CmpWing := ⟨⟨none, false, 0⟩, ⟨none, false, 0⟩, [], []⟩

/-- The nonvolatile die of a module that has never run: no instar, no key, blank fuses, empty keep ring. (DESIGN CHOICE: notes/assumptions/7, 28) -/
def NvDie.blank : NvDie where
  powerEpoch := 0
  slot0 := ⟨0, 0, 0, [], []⟩
  slot1 := ⟨0, 0, 0, [], []⟩
  inForce := 0
  instarHigh := 0
  seqFloor := 0
  claimEpoch := 0
  keys := ⟨[], 0, true⟩
  keysB := ⟨[], 0, true⟩
  keep := ⟨[], []⟩
  keepB := ⟨[], []⟩
  wearHours := [0, 0]
  wearEq := [0, 0]
  proofSec := []
  save := ⟨false, 0, false, [], [], [], [], [], []⟩
  macs := []
  fuses := ⟨List.replicate 16 0, false, [], 0, 0⟩

/-- Host interface after a reset: the endpoint's link is down, its tables are clear (R820). -/
def HostIf.fresh : HostIf := ⟨[], [], [], 0, 0, 0, false, false, 0, 0, [], [], []⟩

/-- Everything but the registers, the nonvolatile die and the pins, at the entry to SELFTEST (R839), for twin A or B. (DEDUCED: notes/assumptions/90; DESIGN CHOICE: notes/assumptions/124, 152, 157) -/
def Dev.fresh (nv : NvDie) (pins : Pins) : Dev where
  regs := []
  hw := ⟨0, []⟩
  freeCtr := 0
  resetCtr := 0
  pins := pins
  nv := nv
  host := HostIf.fresh
  tim := ⟨0, 0, Domain.fresh, Domain.fresh, false, 0, none, none, none, ⟨none, none, none⟩, ⟨none, none, none⟩, none, [], none, [], none, false, none, false⟩
  grid := ⟨0, 0, false, none, []⟩
  evr := ⟨[], false, (0, 0, 0, 0), nv.seqFloor, [], ⟨[], []⟩, [], [], 64, nv.seqFloor, nv.seqFloor, nv.seqFloor, true, [], false, false, nv.seqFloor⟩
  units := ⟨Wing.fresh .active, Wing.fresh .standby, none, 0, nv.claimEpoch, [], [], none, false, false, false, 0, 0, [], none, 0, 0, none,
    if pins.twinId then .standby else .active, false, 0, .resync, 0, 0, false, false, false, false, [], ⟨false, 0, 0⟩, ⟨false, 0, 0⟩, [], [], 0, [], none, 0, none, 0⟩
  txn := ⟨.idle, none, [], [], [], false, 0, none, 0, [], 0, none, false, false, false, false, none, 0, 0, false, 0, 60⟩
  saf := ⟨[], [], false, false, [], false, [], [], [], 0, 0, none⟩
  loc := ⟨List.replicate 4 ⟨0, false, false, 0, none, false, false, 0, none, false⟩,
    List.replicate 16 ⟨[], 0, 4, 0, none, none, none, none, false, none, 0⟩, [], [], [], 0, 0, 0, 0, [], none, 50000000, 0, [], [], [], [], [], [],
    [0, 0, 0, 0, 0], false, 0, 0, 0, false⟩
  acq := ⟨0, [], [], 0, [], [], [], none, none, none, false, (0, 0, 0, 0), [], 0, 0, []⟩
  cmp := ⟨CmpWing.fresh, CmpWing.fresh, [], 0, 0, [], true, 0, [], []⟩
  tst := ⟨[], [], 0, 0, false⟩
  net := ⟨[], [], [], [], []⟩
  sch := ⟨WSched.fresh, WSched.fresh, 1, 0, 0, 0, none, false, false, false, 0, 0, 0, 0, 0, 0, 0, nv.wearHours, nv.wearEq⟩
  que := ⟨[], none, none⟩
  ing := ⟨[], [], [], [], [], [], none, [], []⟩
  roost := ⟨[], [], [], [], none, none, none, none, [], [], [], [], [], [], []⟩
  osc := ⟨none, [], []⟩
  isl := ⟨none, [], [], ⟨none, 0, []⟩, []⟩
  key := ⟨nv.keys, [], nv.fuses, false, 0, [], nv.keys, 0, false⟩

/-- Straps and inputs of a module whose straps are left open (R900), RESET_N and PWRFAIL_N high. (DESIGN CHOICE: notes/assumptions/153) -/
def Pins.open' : Pins := ⟨false, false, false, false, 0, false, false, false, false, 0, 0⟩

/-- The nonvolatile die after the first entry to SELFTEST: power epoch 1 and an advanced SEQ_FLOOR (R73, R663). (DESIGN CHOICE: notes/assumptions/7) -/
def NvDie.first : NvDie := { NvDie.blank with powerEpoch := 1, seqFloor := 2 ^ 24 }

/-- The machine right after the power-on reset of a blank module: in SELFTEST of power epoch 1, the POWER_EPOCH record in the intake (R73, R659, R839). (DESIGN CHOICE: notes/assumptions/7) -/
def State.reset : State where
  ctl := 0
  dev := { Dev.fresh NvDie.first Pins.open' with
    regs := [(0x2044, 0)]
    evr := ⟨[.record ⟨0x0001, [0, 0, 0, 1] ++ List.replicate 28 0, 0, 0xF01, none⟩], false, (0, 0, 0, 0), 0, [], ⟨[], []⟩, [],
      [], 64, 0, 0, 0, true, [], false, false, 0⟩ }
  pending := []

end Sys2Proof.Machine
end

