-- ==== Sys2Proof/Machine/Util.lean ====
section
/-! DEFINITION. Sys2Proof/Machine/Util.lean: bit fields, byte order, two's complement, rounding and the sparse tables
in one canonical form that the state is made of. -/

namespace Sys2Proof.Machine

/-! Bit fields (R15). -/

/-- Bits hi to lo of a word, as a number. -/
def bits (w : Word) (hi lo : Nat) : Nat := (w.toNat >>> lo) % 2 ^ (hi + 1 - lo)

/-- Bit k of a word. -/
def bit (w : Word) (k : Nat) : Bool := w.getLsbD k

/-- Bits hi to lo of a number. -/
def nbits (n hi lo : Nat) : Nat := (n >>> lo) % 2 ^ (hi + 1 - lo)

/-- A word made of a number, modulo 2^32. -/
def w32 (n : Nat) : Word := BitVec.ofNat 32 n

/-- A word made of an integer, in two's complement. -/
def w32i (n : Int) : Word := BitVec.ofInt 32 n

/-- The mask of bits hi to lo. -/
def maskOf (hi lo : Nat) : Word := w32 ((2 ^ (hi + 1 - lo) - 1) <<< lo)

/-- The word with bits hi to lo replaced by a number. -/
def setBits (w : Word) (hi lo v : Nat) : Word :=
  (w &&& ~~~ maskOf hi lo) ||| (w32 ((v % 2 ^ (hi + 1 - lo)) <<< lo))

/-- 1 for true. -/
def b2n (b : Bool) : Nat := if b then 1 else 0

/-- The number of one bits among the low `n` bits. -/
def popCount : Nat → Nat → Nat
  | 0, _ => 0
  | n + 1, v => v % 2 + popCount n (v / 2)

/-! Byte order (R13, R14). -/

/-- `n` bytes of a number, most significant first. -/
def be : Nat → Nat → Bytes
  | 0, _ => []
  | n + 1, v => be n (v / 256) ++ [BitVec.ofNat 8 v]

/-- `n` bytes of a number, least significant first. -/
def le : Nat → Nat → Bytes
  | 0, _ => []
  | n + 1, v => BitVec.ofNat 8 v :: le n (v / 256)

/-- The number that bytes spell, most significant first. -/
def ofBe (b : Bytes) : Nat := b.foldl (fun a x => a * 256 + x.toNat) 0

/-- The number that bytes spell, least significant first. -/
def ofLe : Bytes → Nat
  | [] => 0
  | x :: r => x.toNat + 256 * ofLe r

/-- `n` bytes of an integer in two's complement, most significant first. -/
def beI (n : Nat) (v : Int) : Bytes := be n (v % (2 ^ (8 * n) : Nat)).toNat

/-- `n` zero bytes. -/
def zeros (n : Nat) : Bytes := List.replicate n 0

/-- `n` bytes at an offset of a byte string, as a big-endian number. -/
def beAt (b : Bytes) (off n : Nat) : Nat := ofBe ((b.drop off).take n)

/-- `n` bytes at an offset of a byte string, as a little-endian number. -/
def leAt (b : Bytes) (off n : Nat) : Nat := ofLe ((b.drop off).take n)

/-- The byte at an offset, 0 beyond the end. -/
def byteAt (b : Bytes) (off : Nat) : Nat := (b.getD off 0).toNat

/-- Bytes put in place of those at an offset, the length kept. -/
def patch (b : Bytes) (off : Nat) (p : Bytes) : Bytes :=
  if off + p.length ≤ b.length then b.take off ++ p ++ b.drop (off + p.length) else b

/-- The PRF input of iteration i of a derivation: counter, label, a zero byte, context, output length in bits (R353, R683). -/
def kdfInput (i : Nat) (label ctx : Bytes) (len : Nat) : Bytes := be 4 i ++ label ++ zeros 1 ++ ctx ++ be 4 len

/-- A key derived under NIST SP 800-108 in counter mode with AES-CMAC, of `n` iterations of 128 bits: root, label, context (R353, R500, R683). (PRESUMED: notes/assumptions/19) -/
def kdf (n : Nat) (root label ctx : Bytes) : Bytes :=
  (List.range n).flatMap (fun i => Config.cmac root (kdfInput (i + 1) label ctx (128 * n)))

/-- Bytes lengthened by zeros, or cut, to `n`. -/
def fit (n : Nat) (b : Bytes) : Bytes := (b ++ zeros n).take n

/-! Two's complement, rounding and clamping (R11). -/

/-- The signed value of the low `n` bits of a number. -/
def sx (n v : Nat) : Int := if v % 2 ^ n < 2 ^ (n - 1) then ((v % 2 ^ n : Nat) : Int) else ((v % 2 ^ n : Nat) : Int) - (2 ^ n : Nat)

/-- The two's complement code of an integer in `n` bits. -/
def cx (n : Nat) (v : Int) : Nat := (v % (2 ^ n : Nat)).toNat

/-- An integer clamped to a range. -/
def clampI (lo hi v : Int) : Int := if v < lo then lo else if hi < v then hi else v

/-- An integer clamped to the range of `n` bits of two's complement. -/
def clampS (n : Nat) (v : Int) : Int := clampI (- (2 ^ (n - 1) : Nat)) ((2 ^ (n - 1) : Nat) - 1) v

/-- The nearest natural number to a quotient; which of two, Config.tieUp says (R11). (DESIGN CHOICE: notes/assumptions/40) -/
def rdivN (a b : Nat) : Nat :=
  if b = 0 then 0
  else if 2 * (a % b) = b then a / b + (if Config.tieUp a b then 1 else 0)
  else (2 * a + b) / (2 * b)

/-- The nearest integer to a quotient; which of two, Config.tieUp says (R11). (DESIGN CHOICE: notes/assumptions/40) -/
def rdiv (a : Int) (b : Nat) : Int :=
  if b = 0 then 0
  else if 2 * (a.natAbs % b) = b then a.sign * ((a.natAbs / b + (if Config.tieUp a b then 1 else 0) : Nat) : Int)
  else a.sign * (((2 * a.natAbs + b) / (2 * b) : Nat) : Int)

/-- The nearest integer to a quotient, ties away from zero, where a rule says so (R410, R480). -/
def rdivAway (a : Int) (b : Nat) : Int :=
  if b = 0 then 0
  else if 0 ≤ a then (a + (b / 2 : Nat)) / b
  else - ((- a + (b / 2 : Nat)) / b)

/-- The quotient rounded up. -/
def cdiv (a b : Nat) : Nat := if b = 0 then 0 else (a + b - 1) / b

/-- The integer square root, rounded down. -/
def isqrtAux : Nat → Nat → Nat → Nat
  | 0, _, x => x
  | f + 1, n, x => let y := (x + n / x) / 2; if x ≤ y then x else isqrtAux f n y

/-- The integer square root, rounded down. -/
def isqrt (n : Nat) : Nat := if n = 0 then 0 else isqrtAux 200 n (2 ^ (n.log2 / 2 + 1))

/-- The integer square root, rounded to the nearest. -/
def isqrtNear (n : Nat) : Nat := let r := isqrt n; if n - r * r ≤ r then r else r + 1

/-- √(n / d) rounded to the nearest natural number; which of two, Config.tieUp says (R11). (DESIGN CHOICE: notes/assumptions/40) -/
def sqrtNear (n d : Nat) : Nat :=
  if d = 0 then 0
  else
    let r := isqrt (4 * n / d)
    if r * r * d = 4 * n then rdivN r 2 else (r + 1) / 2

/-- A sum held at 2^n − 1. -/
def satAdd (n a b : Nat) : Nat := min (2 ^ n - 1) (a + b)

/-! Sparse tables in canonical form: keys strictly rising, no entry equal to the default of its key. -/

/-- The entry of a key, or its default. -/
def tget {α : Type} (d : α) : List (Nat × α) → Nat → α
  | [], _ => d
  | (k, v) :: r, q => if q = k then v else tget d r q

/-- The table without a key. -/
def tdel {α : Type} : List (Nat × α) → Nat → List (Nat × α)
  | [], _ => []
  | (k, v) :: r, q => if q = k then tdel r q else (k, v) :: tdel r q

/-- The table with an entry put under a key, whatever it is. -/
def tput {α : Type} : List (Nat × α) → Nat → α → List (Nat × α)
  | [], q, v => [(q, v)]
  | (k, w) :: r, q, v => if q < k then (q, v) :: (k, w) :: r else if q = k then (q, v) :: r else (k, w) :: tput r q v

/-- The table with an entry set: the default of the key is not listed. -/
def tset {α : Type} [DecidableEq α] (d : α) (t : List (Nat × α)) (q : Nat) (v : α) : List (Nat × α) :=
  if v = d then tdel t q else tput t q v

/-- The table with an entry changed by a function. -/
def tmod {α : Type} [DecidableEq α] (d : α) (t : List (Nat × α)) (q : Nat) (f : α → α) : List (Nat × α) :=
  tset d t q (f (tget d t q))

/-- Keys strictly rise above a bound. -/
def tabove {α : Type} : Option Nat → List (Nat × α) → Bool
  | _, [] => true
  | b, (k, _) :: r => b.all (fun x => decide (x < k)) && tabove (some k) r

/-- A table is in canonical form: keys strictly rise, and no entry equals the default of its key. -/
def tcanon {α : Type} [DecidableEq α] (d : Nat → α) (t : List (Nat × α)) : Bool := tabove none t && t.all (fun x => decide (x.2 ≠ d x.1))

/-! Lists. -/

/-- A list with the element at an index changed. -/
def lmod {α : Type} (l : List α) (i : Nat) (f : α → α) : List α :=
  match l, i with
  | [], _ => []
  | x :: r, 0 => f x :: r
  | x :: r, i + 1 => x :: lmod r i f

/-- The last `n` elements. -/
def lastN {α : Type} (n : Nat) (l : List α) : List α := l.drop (l.length - n)

/-- A fold over 0, 1, …, n − 1. -/
def foldUp {α : Type} : Nat → (Nat → α → α) → α → α
  | 0, _, a => a
  | n + 1, f, a => f n (foldUp n f a)

/-- The sum of a list of integers. -/
def sumI (l : List Int) : Int := l.foldl (· + ·) 0

/-- The sum of a list of numbers. -/
def sumN (l : List Nat) : Nat := l.foldl (· + ·) 0

/-- The largest of a list of numbers. -/
def maxN (l : List Nat) : Nat := l.foldl max 0

end Sys2Proof.Machine
end

