-- ==== Sys2Proof/Machine/Ops.lean ====
section
/-! DEFINITION. Sys2Proof/Machine/Ops.lean: the named operations over registers, host memory, interrupts, access errors, the time base,
records and claims that every family uses. -/

namespace Sys2Proof.Machine

/-! Registers. -/

/-- The offset of the copy of wing 1 in the register store. -/
def wingOfs : Nat := 0x1000000

/-- Value of a register (R18). (DEDUCED: notes/assumptions/10) -/
def Dev.rd (d : Dev) (a : Nat) : Word := tget (resetOf (a % wingOfs)) d.regs a

/-- A register set by the device. (DEDUCED: notes/assumptions/10) -/
def Dev.wr (d : Dev) (a : Nat) (v : Word) : Dev := { d with regs := tset (resetOf (a % wingOfs)) d.regs a v }

/-- Value of a register as a number. -/
def Dev.rdN (d : Dev) (a : Nat) : Nat := (d.rd a).toNat

/-- A field of a register. -/
def Dev.fld (d : Dev) (a hi lo : Nat) : Nat := bits (d.rd a) hi lo

/-- A bit of a register. -/
def Dev.flag (d : Dev) (a k : Nat) : Bool := bit (d.rd a) k

/-- A field of a register set by the device. -/
def Dev.putF (d : Dev) (a hi lo v : Nat) : Dev := d.wr a (setBits (d.rd a) hi lo v)

/-- A bit of a register set by the device. -/
def Dev.putB (d : Dev) (a k : Nat) (b : Bool) : Dev := d.putF a k k (b2n b)

/-- A register set to a number modulo 2^32. -/
def Dev.wrN (d : Dev) (a v : Nat) : Dev := d.wr a (w32 v)

/-- A register set to an integer in two's complement, held within its range. -/
def Dev.wrS (d : Dev) (a : Nat) (v : Int) : Dev := d.wr a (w32i (clampS 32 v))

/-- A register set to a number, saturating. -/
def Dev.wrSat (d : Dev) (a v : Nat) : Dev := d.wr a (w32 (min v 0xFFFFFFFF))

/-- A pair of _LO and _HI registers set to a number. -/
def Dev.wr64 (d : Dev) (lo hi v : Nat) : Dev := (d.wrN lo v).wrN hi (v / 2 ^ 32)

/-- The number that a pair of _LO and _HI registers holds. -/
def Dev.rd64 (d : Dev) (lo hi : Nat) : Nat := d.rdN lo + 2 ^ 32 * d.rdN hi

/-- What the device has contributed to a register in the tick that runs, none where nothing. -/
def Dev.mark (d : Dev) (a : Nat) : Option HwMark :=
  if d.hw.clk = d.tim.clk then (d.hw.marks.find? (fun x => x.1 == a)).map (·.2) else none

/-- A contribution of the device to a register noted: `f` adds it to those of the same tick (R19, R20). -/
def Dev.note (d : Dev) (a : Nat) (f : Word → Word) : Dev :=
  let m := (d.mark a).getD ⟨d.rd a, 0⟩
  { d with hw := ⟨d.tim.clk, tput (if d.hw.clk = d.tim.clk then d.hw.marks else []) a { m with new := f m.new }⟩ }

/-- A count that wraps (R330 and every count the spec calls wrapping). -/
def Dev.incW (d : Dev) (a n : Nat) : Dev := d.wrN a (d.rdN a + n)

/-- A count that saturates. -/
def Dev.incS (d : Dev) (a n : Nat) : Dev := (d.note a (fun w => w32 (min (w.toNat + n) 0xFFFFFFFF))).wrSat a (d.rdN a + n)

/-- A count for which the spec states neither: past its largest value the result is open. (DESIGN CHOICE: notes/assumptions/15) -/
def Dev.inc (d : Dev) (a n : Nat) : Dev :=
  let e := d.note a (fun w => w32 (w.toNat + n))
  if d.rdN a + n < 2 ^ 32 then e.wrN a (d.rdN a + n) else e.wr a (Config.countPast a)

/-- A 64-bit count in a pair of registers. -/
def Dev.inc64 (d : Dev) (lo hi n : Nat) : Dev := d.wr64 lo hi (d.rd64 lo hi + n)

/-- The largest value since the last read. -/
def Dev.wrMax (d : Dev) (a v : Nat) : Dev :=
  let e := d.note a (fun w => w32 (max w.toNat (min v 0xFFFFFFFF)))
  if d.rdN a < v then e.wrSat a v else e

/-- A bit of an interrupt status register raised. -/
def Dev.raise (d : Dev) (a k : Nat) : Dev := (d.note a (fun w => setBits w k k 1)).putB a k true

/-- A write of 1s clears bits of a W1C register, but for those that the device sets in the same tick (R18, R19). -/
def Dev.w1c (d : Dev) (a : Nat) (v : Word) : Dev :=
  d.wr a ((d.rd a &&& ~~~ v) ||| ((d.mark a).elim 0 (·.new) &&& d.rd a))

/-- A clearing read: the value it returns, that before the contributions of the same tick, which stay in the register (R18, R20). (DESIGN CHOICE: notes/assumptions/3) -/
def Dev.rcTake (d : Dev) (a : Nat) (v reset : Word) : Word × Dev :=
  match d.mark a with
  | some m => (m.pre, { (d.wr a m.new) with hw := ⟨d.tim.clk, tput d.hw.marks a { m with pre := reset }⟩ })
  | none => (v, d.wr a reset)

/-- A fresh free value. (DESIGN CHOICE: notes/assumptions/149) -/
def Dev.free (d : Dev) : Nat × Dev := (Config.freeNat d.freeCtr, { d with freeCtr := d.freeCtr + 1 })

/-- The regions of a wing's DRAM in MiB (R34): slow window, lookback ring, recorder ring, journal regions, working region. (DEDUCED: notes/assumptions/163) -/
def dramRegions : List Nat := [480, 1024, 256, 64, 6368]

/-- Bytes of a region of the DRAM (R34). -/
def dramRegion (i : Nat) : Nat := dramRegions.getD i 0 * 1048576

/-! Units (chapter 18). -/

/-- A wing as a unit. -/
def Dev.wing (d : Dev) (w : Nat) : Wing := if w = 0 then d.units.w0 else d.units.w1

/-- A wing changed. -/
def Dev.modWing (d : Dev) (w : Nat) (f : Wing → Wing) : Dev :=
  if w = 0 then { d with units := { d.units with w0 := f d.units.w0 } }
  else { d with units := { d.units with w1 := f d.units.w1 } }

/-- The wing that is active: the holder of the claim, and before the first claim the wing of R923. -/
def Dev.active (d : Dev) : Nat :=
  match d.units.holder with
  | some w => w
  | none => if d.units.w0.role = .faulted then 1 else 0

/-- The other wing is a healthy standby. -/
def Dev.hasStandby (d : Dev) : Bool := decide ((d.wing (1 - d.active)).role = .standby)

/-- The copy of a register that a read returns where the wings keep their own (R562, R591, R655). -/
def wingAddr (w a : Nat) : Nat := if w = 0 then a else a + wingOfs

/-- The largest depth of a queue of the device is noted on both wings (R592). -/
def Dev.queMax (d : Dev) (q n : Nat) : Dev := (d.wrMax (wingAddr 0 (Reg.QUE_Q_MAX_DEPTH q)) n).wrMax (wingAddr 1 (Reg.QUE_Q_MAX_DEPTH q)) n

/-! Time (chapter 3). -/

/-- One unit of the time counters is 2^−32 ns (R80). -/
def unitNs : Nat := 2 ^ 32

/-- Units in one second. -/
def unitSec : Nat := 1000000000 * 2 ^ 32

/-- The nominal increment, 2.5 ns (R80). -/
def nomIncr : Nat := 0x280000000

/-- A domain. -/
def Dev.dom (d : Dev) (k : Nat) : Domain := if k = 0 then d.tim.domA else d.tim.domB

/-- A domain changed. -/
def Dev.modDom (d : Dev) (k : Nat) (f : Domain → Domain) : Dev :=
  if k = 0 then { d with tim := { d.tim with domA := f d.tim.domA } }
  else { d with tim := { d.tim with domB := f d.tim.domB } }

/-- The elapsed counter (R74). -/
def Dev.elapsed (d : Dev) : Nat := d.tim.clk * nomIncr

/-- Residual of the output time: selected domain less output. -/
def Dev.resid (d : Dev) : Int := ((d.dom d.tim.sel).val : Int) - (d.tim.out : Int)

/-- The slew correction of the increment of the output time at TIM_SLEW_MAX, in units of 2^-32 ns at each tick (R80, R82, R110). (DEDUCED: notes/assumptions/32) -/
def slewStep (max : Nat) : Nat := (nomIncr * max + 5000000) / 10000000

/-- How many ticks of a slew run before the residual is below 2.5 ns (R110). (DEDUCED: notes/assumptions/32) -/
def slewTicks (resid step dt : Nat) : Nat :=
  if resid < nomIncr then 0 else min dt ((resid - nomIncr) / step + 1)

/-- A domain of the time base. -/
def Tim.dom (m : Tim) (k : Nat) : Domain := if k = 0 then m.domA else m.domB

/-- The increment of the output time without its slew correction (R82, R106): that of the selected domain, the nominal one before the first lock (R75). -/
def Tim.outIncr (m : Tim) : Nat := if m.lockedOnce then (m.dom m.sel).incr else nomIncr

/-- The counters advanced by a number of ticks (R74, R80, R82, R110), at a TIM_SLEW_MAX. (DESIGN CHOICE: notes/assumptions/167, 191) -/
def Tim.adv (m : Tim) (max dt : Nat) : Tim :=
  let r : Int := ((m.dom m.sel).val : Int) - (m.out : Int)
  let step := slewStep max
  let c : Int := if m.slew.isSome then (step * slewTicks r.natAbs step dt : Nat) else 0
  let o : Int := m.out + dt * m.outIncr + r.sign * c
  { m with
    clk := m.clk + dt
    domA := { m.domA with val := m.domA.val + dt * m.domA.incr }
    domB := { m.domB with val := m.domB.val + dt * m.domB.incr }
    out := o.toNat }

/-- A servo update takes effect at its tick (R84): the counter of the domain is stepped and has its new increment; a step of the selected domain after the
first lock starts a slew (R918). -/
def Tim.apply (m : Tim) (u : SrvUpd) : Tim :=
  let f (x : Domain) : Domain := { x with val := ((x.val : Int) + u.step).toNat, incr := u.incr }
  let m := if u.dom = 0 then { m with domA := f m.domA } else { m with domB := f m.domB }
  if u.step ≠ 0 && m.lockedOnce && m.sel == u.dom && m.slew.isNone then { m with slew := some m.clk } else m

/-- The counters advanced to a tick, with the servo updates that fall on the way, each at its own tick (R84). -/
def Tim.goto (max t : Nat) : List SrvUpd → Tim → Tim
  | [], m => m.adv max (t - m.clk)
  | u :: r, m =>
    if u.at' ≤ t then Tim.goto max t r ({ m.adv max (u.at' - m.clk) with srv := r }.apply u)
    else m.adv max (t - m.clk)

/-- The counters advanced to a tick of the timing clock; a tick that has passed leaves them. (DESIGN CHOICE: notes/assumptions/4, 191; DEDUCED: notes/assumptions/32) -/
def Dev.tick (d : Dev) (t : Nat) : Dev := { d with tim := d.tim.goto (d.rdN Reg.TIM_SLEW_MAX) t d.tim.srv }

/-- Output time in ns (R83). -/
def Dev.ns (d : Dev) : Nat := d.tim.out / unitNs

/-- Output time in seconds. -/
def Dev.sec (d : Dev) : Nat := d.tim.out / unitSec

/-- Nanoseconds within the second of the output time. -/
def Dev.nsIn (d : Dev) : Nat := d.ns % 1000000000

/-- Ticks of the timing clock in a number of ns. -/
def ticksNs (n : Nat) : Nat := n * 2 / 5

/-- Ticks of the timing clock in a number of µs. -/
def ticksUs (n : Nat) : Nat := n * 400

/-- Ticks of the timing clock in a number of ms. -/
def ticksMs (n : Nat) : Nat := n * 400000

/-- Ticks of the timing clock in a number of seconds. -/
def ticksSec (n : Nat) : Nat := n * 400000000

/-- Accuracy estimate of a domain in units, none for 0xFFFF_FFFF ns (R919). (DESIGN CHOICE: notes/assumptions/33) -/
def Dev.accEst (d : Dev) (k : Nat) : Option Nat :=
  let m := d.dom k
  match m.st with
  | .locked => some (m.stated + maxN (m.ofs.map Int.natAbs))
  | .acquire => some (m.stated + (m.ofs.head?.getD 0).natAbs)
  | .holdover => some (m.accAt + 12 * unitNs * ((d.tim.clk - m.since) / ticksSec 1))
  | .free => none
  | .lost => none

/-- SOURCE_STATE of the output time (R117). -/
def Dev.srcState (d : Dev) : Nat :=
  if d.tim.lockedOnce then
    match (d.dom d.tim.sel).st with
    | .locked => 1
    | .holdover => 2
    | .acquire => 2
    | .lost => 3
    | .free => 3
  else 0

/-- The smallest accuracy code from 1 to 0xB whose bound is no less than an error in units; 0xF beyond (R118). -/
def accCode (e : Nat) : Nat :=
  ((List.range 11).find? (fun c => decide (e ≤ 10 ^ c * unitNs))).elim 0xF (· + 1)

/-- The pending leap second: deletion or insertion, from the selected domain's source when it gives leap flags, else from the host (R120). -/
def Dev.leapPending (d : Dev) : Option Bool :=
  match (d.dom d.tim.sel).leap with
  | some x => x
  | none => if d.flag Reg.TIM_LEAP_CTL 0 then some (d.flag Reg.TIM_LEAP_CTL 1) else none

/-- LEAP_PEND and LEAP_OCC now (R122): an inserted second begins one second before the instant at which the offset changes. A leap second that its source
has withdrawn pends no longer (R120). -/
def Dev.leapBits (d : Dev) : Bool × Bool :=
  match d.tim.leapAt with
  | some (at', del) =>
    let start := if del then at' else at' - 1
    let pend := d.tim.leapPend && d.leapPending == some del
    (pend && d.sec < start, d.tim.leapOcc.isSome || (pend && start ≤ d.sec))
  | none => (false, d.tim.leapOcc.isSome)

/-- The time-quality field of the output time (R117, R118). -/
def Dev.tq (d : Dev) : Nat :=
  let ss := d.srcState
  let acc := if ss = 0 || ss = 3 then 0xF else
    match d.accEst d.tim.sel with
    | none => 0xF
    | some e => accCode (e + (if d.tim.slew.isSome then d.resid.natAbs else 0))
  let tr := (ss = 1 || ss = 2) && (d.dom d.tim.sel).trace
  ss * 2 ^ 14 + b2n (d.tim.slew.isSome && d.tim.lockedOnce) * 2 ^ 13 + (if ss = 0 then 0 else d.tim.sel) * 2 ^ 12 + acc * 2 ^ 8
    + b2n d.tim.leapDir * 2 ^ 7 + b2n d.leapBits.2 * 2 ^ 6 + b2n d.leapBits.1 * 2 ^ 5 + b2n tr * 2 ^ 4
    + d.nv.powerEpoch % 16

/-- TIME of a record made now: output time in ns. -/
def Dev.time (d : Dev) : Nat := d.ns

/-! The configuration in force. -/

/-- Records of a type in force. -/
def Dev.recs (d : Dev) (typ : Nat) : List CfgRec := d.txn.cfg.filter (fun r => r.typ == typ)

/-- The body of the record of a type and key in force. -/
def Dev.recOf (d : Dev) (typ key : Nat) : Option Bytes :=
  (d.txn.cfg.find? (fun r => r.typ == typ && r.key == key)).map (·.body)

/-- The DEVICE record (R786). -/
def Dev.device (d : Dev) : Option Bytes := d.recOf 0x0100 0

/-- Wingbeats per second, 0 with no instar in force (R46). -/
def Dev.rate (d : Dev) : Nat := (d.device.map (fun b => beAt b 0 2)).getD 0

/-- Nominal frequency, 50 Hz with no instar in force. -/
def Dev.f0 (d : Dev) : Nat := (d.device.map (fun b => beAt b 2 1)).getD 50

/-- HOST_RWS of the DEVICE record (R797). -/
def Dev.hostRws (d : Dev) : Bool := (d.device.map (fun b => beAt b 3 1 % 2 == 1)).getD false

/-- WB_SEQ, the number of a boundary: S × rate + k. -/
def Dev.wbSeq (d : Dev) : Nat := d.grid.sec * d.rate + d.grid.k

/-- Instant of boundary k of second S, in units (R47). (DESIGN CHOICE: notes/assumptions/5) -/
def boundaryAt (rate s k : Nat) : Nat := s * unitSec + (if rate = 0 then 0 else k * 1000000000 / rate) * unitNs

/-- The boundary after (s, k). -/
def nextBoundary (rate s k : Nat) : Nat × Nat := if k + 1 < rate then (s, k + 1) else (s + 1, 0)

/-- The boundary that falls next: the next of the grid, or the end of the transitional wingbeat (R47, R53). -/
def Dev.nextGrid (d : Dev) : Nat × Nat := d.grid.trans.getD (nextBoundary d.rate d.grid.sec d.grid.k)

/-- The output time has come to the boundary that falls next (R47, R50). -/
def Dev.boundaryDue (d : Dev) : Bool := decide (boundaryAt d.rate d.nextGrid.1 d.nextGrid.2 ≤ d.tim.out)

/-! Records (chapter 16). -/

/-- Types whose keep setting is Fixed, and types whose reset setting is Yes (R659 and the record tables of R749, R778, R812, R894). -/
def keepFixed : List Nat :=
  [0x0001, 0x0002, 0x0003, 0x0301, 0x0305, 0x0A01, 0x0B01, 0x0C01, 0x0C11, 0x0C12, 0x0D01, 0x0F01,
   0x1101, 0x1103, 0x1104, 0x1105, 0x1106, 0x1201, 0x1202, 0x1203, 0x1204, 0x1301, 0x1302, 0x1303, 0x1304, 0x1305, 0x1306,
   0x1401, 0x1403, 0x1404]

/-- Types whose keep setting resets to Yes. -/
def keepYes : List Nat := [0x0302, 0x0303, 0x0B02, 0x1102, 0x1205, 0x1402, 0x1501, 0x1502]

/-- KEEP of a record type now (R670). -/
def Dev.keepOf (d : Dev) (typ : Nat) : Bool :=
  keepFixed.contains typ || tget (b2n (keepYes.contains typ)) d.evr.keepSet typ == 1

/-- Records in the intake queue. -/
def intakeLen (l : List Intake) : Nat :=
  (l.filter (fun x => match x with | .record _ => true | .gap .. => false)).length

/-- Bytes of a record on its way: header and body (R658). -/
def RecIn.size (r : RecIn) : Nat := 24 + r.body.length

/-- A record enters the intake, or its drop is added to the gap marker at the tail (R661); before the DRAM ring is ready it enters the
64 KiB buffer, or counts as lost (R664). -/
def Dev.intake (d : Dev) (r : RecIn) : Dev :=
  if d.evr.ready then
    if intakeLen d.evr.intake < 16384 then { d with evr := { d.evr with intake := d.evr.intake ++ [.record r] } }
    else
      let d := d.inc Reg.REC_LOST_CNT 1
      let k := b2n (d.keepOf r.typ)
      match d.evr.intake.getLast? with
      | some (.gap c kc f _) => { d with evr := { d.evr with intake := d.evr.intake.dropLast ++ [.gap (c + 1) (kc + k) f r.time] } }
      | _ => { d with evr := { d.evr with intake := d.evr.intake ++ [.gap 1 k r.time r.time] } }
  else
    let used := (d.evr.intake.map (fun x => match x with | .record q => q.size | .gap .. => 0)).foldl (· + ·) 0
    if used + r.size ≤ 65536 then { d with evr := { d.evr with intake := d.evr.intake ++ [.record r] } }
    else
      let d := d.inc Reg.REC_LOST_CNT 1
      let (c, kc, f, _) := d.evr.preLost
      { d with evr := { d.evr with preLost := (c + 1, kc + b2n (d.keepOf r.typ), if c = 0 then r.time else f, r.time) } }

/-- A record that both wings make from shared inputs: it enters the intake, and the standby wing holds its own copy (R667). -/
def Dev.recordAt (d : Dev) (typ time tq : Nat) (body : Bytes) : Dev :=
  let r : RecIn := ⟨typ, body, time, tq, none⟩
  let d := d.intake r
  if d.hasStandby then { d with evr := { d.evr with standbyHeld := d.evr.standbyHeld ++ [(d.tim.clk, r)] } } else d

/-- A record of an event now. -/
def Dev.record (d : Dev) (typ : Nat) (body : Bytes) : Dev := d.recordAt typ d.time d.tq body

/-- A LOCAL record, made by one wing; the standby keeps one that it makes as it keeps every record (R658, R667). -/
def Dev.recordLocal (d : Dev) (wing typ : Nat) (body : Bytes) : Dev :=
  let r : RecIn := ⟨typ, body, d.time, d.tq, some wing⟩
  let d := d.intake r
  if d.hasStandby && wing != d.active then { d with evr := { d.evr with standbyHeld := d.evr.standbyHeld ++ [(d.tim.clk, r)] } } else d

/-! Host memory and interrupts (chapter 21). -/

/-- Host memory can be reached through the endpoint (R821). (DESIGN CHOICE: notes/assumptions/31) -/
def Dev.dma (d : Dev) : Bool := d.host.linkUp && !d.host.d3hot

/-- Host memory with bytes written from an address on. (DESIGN CHOICE: notes/assumptions/29) -/
def memPut (m : List (Nat × Byte)) (a : Nat) : Bytes → List (Nat × Byte)
  | [] => m
  | b :: r => memPut (tset 0 m a b) (a + 1) r

/-- The canonical form of host memory: addresses strictly rising, and no byte listed that an unlisted address reads as. (DESIGN CHOICE: notes/assumptions/29) -/
def Memory.wf (m : List (Nat × Byte)) : Bool := tcanon (fun _ => 0) m

/-- The device writes host memory (R819); it performs no DMA while the endpoint is unavailable (R821). -/
def Dev.dmaWrite (d : Dev) (a : Nat) (b : Bytes) : Dev :=
  if d.dma then { d with host := { d.host with mem := memPut d.host.mem a b } } else d

/-- Bytes of host memory. (DESIGN CHOICE: notes/assumptions/29) -/
def memGet (m : List (Nat × Byte)) (a : Nat) : Nat → Bytes
  | 0 => []
  | n + 1 => tget 0 m a :: memGet m (a + 1) n

/-- The device reads host memory. (DEDUCED: notes/assumptions/154) -/
def Dev.dmaRead (d : Dev) (a n : Nat) : Bytes := memGet d.host.mem a n

/-- An output noted in the model's own record of what left the device. (DESIGN CHOICE: notes/assumptions/18) -/
def Dev.emit (d : Dev) (x : Sent) : Dev := { d with host := { d.host with sent := x :: d.host.sent } }

/-- Word j of the MSI-X table entry of a vector: address low and high, data, control, whose mask bit is 1 after reset (R817). (DESIGN CHOICE: notes/assumptions/31) -/
def Dev.msixWord (d : Dev) (v j : Nat) : Nat := (tget (if j = 3 then 1 else 0 : Word) d.host.msix (4 * v + j)).toNat

/-- An MSI-X message of a vector: sent, or left pending while the vector is masked or no message can be sent (R821, R823). -/
def Dev.msix (d : Dev) (v : Nat) : Dev :=
  if d.dma && d.msixWord v 3 % 2 == 0 then
    (d.dmaWrite (d.msixWord v 0 + 2 ^ 32 * d.msixWord v 1) (le 4 (d.msixWord v 2))).emit (.msix v)
  else if d.host.linkUp then { d with host := { d.host with pba := d.host.pba ||| 2 ^ v } }
  else d

/-- Pending messages whose mask is clear are sent (R823). (DESIGN CHOICE: notes/assumptions/31) -/
def Dev.msixPending (d : Dev) : Dev :=
  foldUp 64 (fun v d =>
    if d.host.pba.testBit v && d.dma && d.msixWord v 3 % 2 == 0 then
      ({ d with host := { d.host with pba := d.host.pba - 2 ^ v } }).msix v
    else d) d

/-- The INT_STATUS register of a block vector (R822). -/
def intStatusOf (v : Nat) : Nat :=
  if v = 8 then Reg.GLB_INT_STATUS else if v = 9 then Reg.TXN_INT_STATUS else if v = 10 then Reg.TIM_INT_STATUS
  else if v = 11 then Reg.CNV_INT_STATUS else if v = 12 then Reg.FLT_INT_STATUS else if v = 13 then Reg.PHS_INT_STATUS
  else if v < 22 then Reg.NET_PORT_INT_STATUS (v - 14)
  else if v = 22 then Reg.ING_INT_STATUS else if v = 23 then Reg.ALN_INT_STATUS else if v = 24 then Reg.OSC_INT_STATUS
  else if v = 25 then Reg.ISL_INT_STATUS else if v = 26 then Reg.SCH_INT_STATUS else if v = 27 then Reg.QUE_INT_STATUS
  else if v = 28 then Reg.ACQ_INT_STATUS else if v = 29 then Reg.CMP_INT_STATUS else if v = 30 then Reg.REC_INT_STATUS
  else if v = 31 then Reg.KEY_INT_STATUS else if v = 32 then Reg.WNG_INT_STATUS else if v = 33 then Reg.SAF_INT_STATUS
  else if v = 34 then Reg.TST_INT_STATUS else Reg.PWR_INT_STATUS

/-- Registers of which each wing keeps its own copy: SCH, QUE, CMP and PWR are read by wing selection (R562, R591, R655), ING_IQ[3] as the active wing
has it (R384). (DEDUCED: notes/assumptions/155) -/
def perWing (a : Nat) : Bool :=
  (0x280000 ≤ a && a < 0x300000 && a != Reg.SCH_WING_SEL && a != Reg.QUE_WING_SEL) || (0x340000 ≤ a && a < 0x380000 && a != Reg.CMP_WING_SEL)
    || a == Reg.ACQ_DI_MISMATCH_CNT || a == Reg.ING_IQ_GAP_CNT 3 || a == Reg.ING_IQ_MAX_DEPTH 3

/-- Summary of a block vector: INT_STATUS and INT_EN have a bit in common (R823); of the active wing's copy where wings differ. (DEDUCED: notes/assumptions/155) -/
def Dev.summary (d : Dev) (v : Nat) : Bool :=
  let a := intStatusOf v
  let b := if perWing a then wingAddr d.active a else a
  (d.rd b &&& d.rd (b + 4)) != 0

/-- The message of a summary that rises (R823). -/
def Dev.settleMsg (d : Dev) (v : Nat) : Dev := if d.summary v && !d.host.summary.testBit v then d.msix v else d

/-- The summary of a vector evaluated anew. -/
def Dev.settleOne (d : Dev) (v : Nat) : Dev :=
  let e := d.settleMsg v
  if d.summary v == d.host.summary.testBit v then e
  else { e with host := { e.host with summary := if d.summary v then e.host.summary + 2 ^ v else e.host.summary - 2 ^ v } }

/-- Summaries evaluated anew: a summary that rises sends a message (R823). (DESIGN CHOICE: notes/assumptions/151) -/
def Dev.settle (d : Dev) : Dev := foldUp 28 (fun i d => d.settleOne (i + 8)) d

/-- The level of HOST_IRQ_N is low (R825). -/
def Dev.hostIrq (d : Dev) : Bool :=
  (List.range 28).any (fun i => d.summary (i + 8)) ||
  (List.range 8).any (fun r => d.flag (Reg.GLB_HR_CTL r) 0 && d.fld (Reg.GLB_HR_CQ_HEAD r) 11 0 != d.fld (Reg.GLB_HR_CQ_TAIL r) 11 0)

/-! Access errors (R862 to R864). -/

/-- An access error: raised, counted, and captured when nothing is captured yet (R862). -/
def Dev.accErr (d : Dev) (cause : Nat) (write : Bool) (i : Iface) (be addr : Nat) (data : Word) : Dev :=
  let d := (d.raise Reg.GLB_INT_STATUS 1).incS Reg.GLB_ACC_ERR_CNT 1
  if d.flag Reg.GLB_ACC_ERR_INFO 7 then d.putB Reg.GLB_ACC_ERR_INFO 6 true
  else
    ((d.wrN Reg.GLB_ACC_ERR_INFO (cause + b2n write * 16 + (if i = .spi then 32 else 0) + 128 + (be % 16) * 256)).wrN
      Reg.GLB_ACC_ERR_ADDR (addr % 2 ^ 24)).wr Reg.GLB_ACC_ERR_DATA (if write then data else 0)

/-! Bring-up state (R39). -/

/-- STATE of GLB_BOOT_STATE (R852). -/
def Dev.boot (d : Dev) : Nat := d.fld Reg.GLB_BOOT_STATE 2 0

/-- A change of STATE: its entry time in ms of elapsed time and the state-change interrupt (R846, R852). -/
def Dev.setBoot (d : Dev) (s : Nat) : Dev :=
  if d.boot = s then d
  else
    ((d.putF Reg.GLB_BOOT_STATE 2 0 s).wrSat (Reg.GLB_STATE_TIME s) (d.tim.clk / ticksMs 1)).raise Reg.GLB_INT_STATUS 0

/-- Acknowledgements, commits and key messages have stopped (R842, R844). (DEDUCED: notes/assumptions/134) -/
def Dev.pfHeld (d : Dev) : Bool := d.pins.pwrfailLow || d.pins.pwrHold

/-- The device runs the local and wide-area paths: RUN or DEGRADED. -/
def Dev.running (d : Dev) : Bool := d.boot == 5 || d.boot == 6

/-! The claim gate (R32, R715, R923). -/

/-- Outputs that pass before the first claim (R923). -/
def journalOut (o : Nat) : Bool := (2162 ≤ o && o ≤ 2164) || (2168 ≤ o && o ≤ 2175)

/-- This module is the active twin (R726). -/
def Dev.activeTwin (d : Dev) : Bool := d.units.twinRole == .active && d.units.holder.isSome

/-- The gates of the wing that holds the claim are enabled for an output: the unit is ACTIVE, or it has faulted with no other left and the device is in SAFE
(R712); there scale commands pass only without a lockstep mismatch and an uncorrectable error in accepted work (R759). -/
def Dev.gateEnabled (d : Dev) (w o : Nat) : Bool :=
  (d.wing w).arbPath && d.units.twinRole == .active &&
  ((d.wing w).role == .active ||
   (d.boot == 7 && (d.wing w).role == .faulted && !(96 ≤ o && o < 1120 && ((d.wing w).cause == 2 || (d.wing w).cause == 5))))

/-- Does the gate admit an output of a wing with this sequence? An AO pin has no sequence (R714). -/
def Dev.gateOpen (d : Dev) (w o seq : Nat) : Bool :=
  (match d.units.holder with
   | some h => h == w && d.gateEnabled w o
   | none => journalOut o && d.active == w) &&
  (o < 16 || tget 0 d.units.outSeq o ≤ seq)

/-- An output passes: the arbiter holds its sequence (R715). -/
def Dev.gatePass (d : Dev) (o seq : Nat) : Dev :=
  if o < 16 then d else { d with units := { d.units with outSeq := tset 0 d.units.outSeq o (seq + 1) } }

/-- A loop-back that does nothing. -/
def Loop.start : Loop := ⟨0, none, 0, false, 0⟩

/-- The loop-back of an object: KIND and INDEX of R892. -/
def Dev.loop (d : Dev) (kind idx : Nat) : Loop := tget Loop.start d.tst.loops (256 * kind + idx)

/-! Probation (R807): what a command brings about that rolls an instar on probation back. -/

/-- A cause of roll-back is noted while probation runs; the first stands. -/
def Dev.trouble (d : Dev) (cause : Nat) : Dev :=
  if d.txn.probation.isSome && d.txn.rollback.isNone then { d with txn := { d.txn with rollback := some cause } } else d

/-- A cause of roll-back, unless what it watches holds. -/
def Dev.troubleIf (d : Dev) (ok : Bool) (cause : Nat) : Dev := if ok then d else d.trouble cause

/-- Causes of R807, against the machine before: digest, flutter, partner, AO fault, forced object, SAFE. (DESIGN CHOICE: notes/assumptions/151) -/
def Dev.probWatch (d old : Dev) : Dev :=
  (((((d.troubleIf (d.rd Reg.WNG_MISMATCH_CNT == old.rd Reg.WNG_MISMATCH_CNT) 2).troubleIf
    (d.rd Reg.SAF_FLUTTER_MISMATCH_CNT == old.rd Reg.SAF_FLUTTER_MISMATCH_CNT) 3).troubleIf
    (d.saf.partnerFail.all (fun n => old.saf.partnerFail.contains n)) 4).troubleIf
    (d.saf.aoFault &&& old.saf.aoFault == d.saf.aoFault) 5).troubleIf
    (d.saf.forced.all (fun x => x.2 == 0 || tget 0 old.saf.forced x.1 != 0)) 6).troubleIf
    (d.boot != 7 || old.boot == 7) 7

/-! Outcome. -/

/-- Every command ends in a next state, causes of roll-back noted and its interrupts settled. (DESIGN CHOICE: notes/assumptions/151) -/
def done (s : State) (d : Dev) : Host.Outcome State Fault Refusal := .next { s with dev := (d.probWatch s.dev).settle }

end Sys2Proof.Machine
end

