-- ==== Sys2Proof/Machine/Acq.lean ====
section
/-! DEFINITION. Sys2Proof/Machine/Acq.lean: the event bus, the pattern units and the acquisition stream (chapter 14). -/

namespace Sys2Proof.Machine

/-! Entries and history. -/

/-- Bytes of the ring that are neither sent nor passed over (R613). -/
def Dev.acqUnsent (d : Dev) : Nat := sumN ((d.acq.ring.filter (fun e => !e.finished)).map (·.bytes.length))

/-- Bytes in the lookback ring. -/
def Dev.acqHeld (d : Dev) : Nat := sumN (d.acq.ring.map (·.bytes.length))

/-- Size of the lookback ring (R34). -/
def lookback : Nat := dramRegion 1

/-- Retained history now, in ticks of the timing clock (R609). -/
def Dev.acqHistory (d : Dev) : Nat :=
  match d.acq.startClk with
  | none => 0
  | some s => d.tim.clk - max s (max (d.acq.overClk.getD 0) (d.acq.gapClk.getD 0))

/-- FLAGS common to the entries (R598): TIME_SUSPECT, ELAPSED and EPOCH_LOW. -/
def Dev.acqFlags (d : Dev) : Nat :=
  4 * b2n (d.srcState ≠ 1 || d.tim.slew.isSome) + 8 * b2n (!d.tim.lockedOnce) + 16 * (d.nv.powerEpoch % 16)

/-- Entries are being produced: EN took effect (R609). (DESIGN CHOICE: notes/assumptions/50) -/
def Dev.acqOn (d : Dev) : Bool := d.acq.startClk.isSome && d.flag Reg.ACQ_CTL 0

/-- An entry not produced is counted in the pause (R613): kind 0 change, 1 mark, 2 block. -/
def Dev.acqLose (d : Dev) (kind time : Nat) : Dev :=
  let (c, m, w, f) := d.acq.lost
  let first := if c + m + w = 0 then time else f
  ({ d with acq := { d.acq with lost := (c + b2n (kind == 0), m + b2n (kind == 1), w + b2n (kind == 2), first) } }).inc Reg.ACQ_LOST_CNT 1

/-- Room in the lookback ring: the oldest finished entries are overwritten once it is full (R607). -/
def acqRoom (d : Dev) : Nat → Dev
  | 0 => d
  | fuel + 1 =>
    if d.acqHeld ≤ lookback then d
    else
      match d.acq.ring.find? (·.finished) with
      | none => d
      | some e => acqRoom { d with acq := { d.acq with ring := d.acq.ring.erase e, overClk := some (max e.clk (d.acq.overClk.getD 0)) } } fuel

/-- The ring with an entry at its place: behind what has been sent and every entry of its time or an earlier one (R599). -/
def acqInsert (e : AcqEntry) (l : List AcqEntry) : List AcqEntry :=
  let after := (l.reverse.takeWhile (fun x => !x.finished && decide (e.time < x.time))).length
  l.take (l.length - after) ++ e :: l.drop (l.length - after)

/-- The gap record that comes before the first entry after a pause, when a pause has lost any (R614); `at'` is that entry's time. (DEDUCED: notes/assumptions/51) -/
def Dev.acqGap (d : Dev) (at' clk : Nat) : Dev :=
  let (c, m, w, f) := d.acq.lost
  if c + m + w = 0 then d
  else
    let b := le 1 4 ++ le 1 d.acqFlags ++ zeros 2 ++ zeros 4 ++ le 8 f ++ le 8 at' ++ le 4 (min c 0xFFFFFFFF) ++ le 2 (min m 65535) ++ le 2 (min w 65535)
    { d with acq := { d.acq with lost := (0, 0, 0, 0), gapClk := some clk, ring := acqInsert ⟨b, at', clk, clk, true, false, none⟩ d.acq.ring } }

/-- An entry at its place in the stream, or a pause from it (R607, R613). True when it was produced. -/
def Dev.acqAdd (d : Dev) (kind : Nat) (e : AcqEntry) : Dev × Bool :=
  if !d.acqOn then (d, false)
  else if d.acq.paused then (d.acqLose kind e.time, false)
  else if lookback - 16 * 1048576 < (d.acqGap e.time e.clk).acqUnsent + e.bytes.length then
    let d := { d with acq := { d.acq with paused := true } }
    (((d.inc Reg.ACQ_PAUSE_CNT 1).raise Reg.ACQ_INT_STATUS 2).acqLose kind e.time, false)
  else
    let d := d.acqGap e.time e.clk
    let d := { d with acq := { d.acq with ring := acqInsert e d.acq.ring } }
    (acqRoom d (d.acq.ring.length), true)

/-- A change record (R598), its SEQ not given yet. -/
def Dev.changeRecord (d : Dev) (sig : Nat) (level : Bool) (time : Nat) : Bytes :=
  le 1 1 ++ le 1 (b2n level + 2 * b2n (sig < 64) + d.acqFlags) ++ le 2 sig ++ zeros 4 ++ le 8 time

/-! Pattern units (R601 to R605). -/

/-- A 512-bit number from 16 registers. -/
def Dev.wide512 (d : Dev) (f : Nat → Nat) : Nat := sumN ((List.range 16).map (fun i => d.rdN (f i) <<< (32 * i)))

/-- The pattern of unit u holds in a bus value (R601). -/
def Dev.patHolds (d : Dev) (u bus : Nat) : Bool :=
  let m := d.wide512 (Reg.ACQ_PU_MASK u)
  (bus &&& m) == (d.wide512 (Reg.ACQ_PU_VALUE u) &&& m)

/-- State of a unit that has seen nothing. -/
def PatUnit.start : PatUnit := ⟨false, none, 0, 0, 0⟩

/-- A pattern unit's state. -/
def Dev.pat (d : Dev) (u : Nat) : PatUnit := tget PatUnit.start d.acq.units u

/-- A pattern unit changed. -/
def Dev.modPat (d : Dev) (u : Nat) (f : PatUnit → PatUnit) : Dev :=
  { d with acq := { d.acq with units := tmod PatUnit.start d.acq.units u f } }

/-- A mark or suppressed-mark record (R606). -/
def Dev.markRecord (d : Dev) (u time : Nat) (supp : Bool) (n markNo : Nat) : Bytes :=
  let hist := d.acqHistory / 400
  let pre := d.rdN Reg.ACQ_PRE * 1000
  let sig := if d.fld (Reg.ACQ_PU_CFG u) 2 1 = 0 then 0xFFFF else d.fld (Reg.ACQ_PU_CFG u) 16 8
  le 1 (if supp then 3 else 2) ++ le 1 (b2n (!supp && hist < pre) + d.acqFlags) ++ le 1 u ++ zeros 1 ++ zeros 4 ++ le 8 time
    ++ le 4 (if supp then 0 else min hist pre) ++ le 2 sig ++ le 2 (min n 65535) ++ le 4 markNo ++ zeros 4

/-- The holdoff of a unit runs (R603). -/
def Dev.inHoldoff (d : Dev) (u : Nat) : Bool :=
  match (d.pat u).markAt with
  | some c => decide (d.tim.clk < c + ticksUs (d.rdN (Reg.ACQ_PU_HOLDOFF u)))
  | none => false

/-- A match of a unit: a mark with a new holdoff, or a suppressed mark inside it (R603, R604). -/
def Dev.patMatch (d : Dev) (u time : Nat) : Dev :=
  let p := d.pat u
  if d.inHoldoff u then
    let n := p.supp + 1
    let d := d.modPat u (fun p => { p with supp := n })
    if n ≤ 16 then
      let (d, ok) := d.acqAdd 1 ⟨d.markRecord u time true n p.marks, time, d.tim.clk, d.tim.clk, true, false, none⟩
      if ok then d.raise Reg.ACQ_INT_STATUS 1 else d
    else d
  else
    let prev := if p.markAt.isSome then p.supp else p.prevSupp
    let d := d.modPat u (fun p => { p with supp := 0, prevSupp := 0, markAt := some d.tim.clk, marks := p.marks + 1 })
    let (d, ok) := d.acqAdd 1 ⟨d.markRecord u time false prev (p.marks + 1), time, d.tim.clk, d.tim.clk, true, false, none⟩
    if ok then ({ d with acq := { d.acq with marks := (d.tim.clk, u) :: d.acq.marks } }).raise Reg.ACQ_INT_STATUS 0 else d

/-- A unit looks at a bus change (R602): signals that rose and fell, and the new value. (DESIGN CHOICE: notes/assumptions/50) -/
def Dev.patStep (d : Dev) (u time rose fell bus : Nat) : Dev :=
  let holds := d.patHolds u bus
  let was := (d.pat u).held
  let e := d.fld (Reg.ACQ_PU_CFG u) 2 1
  let sig := d.fld (Reg.ACQ_PU_CFG u) 16 8
  let edge := (e != 2 && rose.testBit sig) || (e != 1 && fell.testBit sig)
  let hit := holds && (if e = 0 then !was else edge)
  let d := d.modPat u (fun p => { p with held := holds })
  if d.flag (Reg.ACQ_PU_CFG u) 0 && d.acqOn && hit then d.patMatch u time else d

/-- HOLDOFF_END: the holdoff of a unit is over, its count of matches kept for the next mark (R603, R604). -/
def Dev.holdoffEnd (d : Dev) (u : Nat) : Dev :=
  match (d.pat u).markAt with
  | some c =>
    if c + ticksUs (d.rdN (Reg.ACQ_PU_HOLDOFF u)) ≤ d.tim.clk then
      d.modPat u (fun p => { p with markAt := none, prevSupp := p.supp, supp := 0 })
    else d
  | none => d

/-! The bus (R594, R595). -/

/-- A held channel is frozen by its bus signal or its threshold unit at the next tick (R210); a trigger during a freeze restarts its tail. -/
def Dev.freezeTrig (d : Dev) (n cause : Nat) : Dev :=
  if d.flag (Reg.FLT_CH_CFG n) 6 then
    { d with loc := { d.loc with chans := d.loc.chans.map (fun p => if p.1 = n then (n, { p.2 with trig := some (p.2.trig.getD cause) }) else p) } }
  else d

/-- Changes of the same time published together: records in ascending signal, then the units in ascending order (R595, R599). -/
def Dev.busPublish (d : Dev) (time : Nat) (changes : List (Nat × Bool)) : Dev :=
  let ch := changes.filter (fun c => d.acq.bus.testBit c.1 != c.2)
  if ch = [] then d
  else
    let ch : List (Nat × Bool) := (List.range 512).filterMap (fun s => ch.reverse.find? (fun c => c.1 == s))
    let rose := sumN ((ch.filter (·.2)).map (fun c => 2 ^ c.1))
    let fell := sumN ((ch.filter (fun c => !c.2)).map (fun c => 2 ^ c.1))
    let bus := d.acq.bus + rose - fell
    let d := { d with acq := { d.acq with bus := bus, log := ((ch.map (fun (c : Nat × Bool) => (time, c.1, c.2))).reverse ++ d.acq.log).take 8192 } }
    let d := d.loc.chans.foldl (fun (d : Dev) p =>
      if d.flag (Reg.FLT_CH_FREEZE_CFG p.1) 9 && rose.testBit (d.fld (Reg.FLT_CH_FREEZE_CFG p.1) 8 0) then d.freezeTrig p.1 0 else d) d
    let d := ch.foldl (fun (d : Dev) c =>
      if d.flag (Reg.ACQ_REC_EN (c.1 / 32)) (c.1 % 32) then
        (d.acqAdd 0 ⟨d.changeRecord c.1 c.2 time, time, d.tim.clk, d.tim.clk, false, false, none⟩).1
      else d) d
    foldUp 16 (fun u d => d.patStep u time rose fell bus) d

/-- Changes held for the rest of their time are published (R599). -/
def Dev.busFlush (d : Dev) : Dev :=
  let t := d.acq.todoAt
  let c := d.acq.todo
  ({ d with acq := { d.acq with todo := [] } }).busPublish t c

/-- Changes that may be joined by others of the same time. -/
def Dev.busHold (d : Dev) (time : Nat) (c : List (Nat × Bool)) : Dev :=
  let d := if d.acq.todoAt = time then d else d.busFlush
  { d with acq := { d.acq with todo := d.acq.todo ++ c, todoAt := time } }

/-- Level of a signal at an output time in ns (R595). -/
def Dev.busAt (d : Dev) (sig time : Nat) : Bool :=
  match d.acq.log.find? (fun c => c.2.1 == sig && decide (c.1 ≤ time)) with
  | some c => c.2.2
  | none =>
    match d.acq.log.reverse.find? (fun c => c.2.1 == sig) with
    | some c => !c.2.2
    | none => d.acq.bus.testBit sig

/-- DI_CHANGE (R596): the inputs of a mask that have held a level for DEBOUNCE ticks at one 1 µs tick, with their levels; INVERT applies, and the tick is the time
of the changes. -/
def Dev.diChange (d : Dev) (mask levels : Nat) : Dev :=
  let d := d.busFlush
  d.busPublish (d.ns / 1000 * 1000) (((List.range 64).filter (fun k => mask.testBit k)).map (fun k => (k, levels.testBit k != d.flag (Reg.ACQ_DI_CFG k) 16)))

/-- DI_MISMATCH: it counts on the standby wing (R597, R622). -/
def Dev.diMismatch (d : Dev) : Dev := (d.inc (wingAddr (1 - d.active) Reg.ACQ_DI_MISMATCH_CNT) 1).raise Reg.ACQ_INT_STATUS 4

/-! The host ring (R608 to R612). -/

/-- An entry lies in the window of some mark (R608). -/
def Dev.inWindow (d : Dev) (e : AcqEntry) : Bool :=
  d.acq.marks.any (fun m => decide (m.1 ≤ e.clk + ticksMs (d.rdN Reg.ACQ_PRE)) && decide (e.clk0 ≤ m.1 + ticksMs (d.rdN Reg.ACQ_POST)))

/-- An entry goes to the host (R608). -/
def Dev.acqChosen (d : Dev) (e : AcqEntry) : Bool := e.always || !d.flag Reg.ACQ_CTL 1 || d.inWindow e

/-- An entry can no longer come into a window: windowed mode passes it over. -/
def Dev.acqPassed (d : Dev) (e : AcqEntry) : Bool := !d.acqChosen e && decide (e.clk + ticksMs (d.rdN Reg.ACQ_PRE) < d.tim.clk)

/-- Entries at the head of the unsent stretch that are passed over. (DEDUCED: notes/assumptions/51) -/
def acqSkip (d : Dev) : List AcqEntry → List AcqEntry
  | [] => []
  | e :: r => if e.finished then e :: acqSkip d r else if d.acqPassed e then { e with finished := true } :: acqSkip d r else e :: r

/-- Room in a byte ring (R922). -/
def ringRoom (size head tail : Nat) : Nat := if size = 0 then 0 else (tail + 2 * size - head - 1) % size

/-- Bytes written to a byte ring of the host from an offset on, wrapping (R922). -/
def Dev.ringWrite (d : Dev) (base size head : Nat) (b : Bytes) : Dev :=
  let k := size - head % size
  if b.length ≤ k then d.dmaWrite (base + head) b else (d.dmaWrite (base + head) (b.take k)).dmaWrite base (b.drop k)

/-- ACQ_ENTRY_COPY (R610, R612): the next chosen entry passes the gate with its SEQ and is written whole where there is room. (DEDUCED: notes/assumptions/51) -/
def Dev.acqCopy (d : Dev) : Dev :=
  let d := { d with acq := { d.acq with ring := acqSkip d d.acq.ring } }
  match d.acq.ring.find? (fun e => !e.finished) with
  | none => d
  | some e =>
    let size := d.rdN Reg.ACQ_RING_SIZE
    let head := d.rdN Reg.ACQ_RING_HEAD
    if d.acqChosen e && e.job.isNone && d.dma && 0 < size && decide (e.bytes.length ≤ ringRoom size head d.acq.tail)
        && d.gateOpen d.active 2162 d.acq.seq then
      let d := d.gatePass 2162 d.acq.seq
      let d := d.ringWrite (d.rd64 Reg.ACQ_RING_BASE_LO Reg.ACQ_RING_BASE_HI) size head (patch e.bytes 4 (le 4 d.acq.seq))
      let d := d.wrN Reg.ACQ_RING_HEAD ((head + e.bytes.length) % size)
      let i := d.acq.ring.findIdx (fun e => !e.finished)
      let n := d.acq.seq + 1
      { d with acq := { d.acq with seq := n, ring := lmod d.acq.ring i (fun e => { e with finished := true }) } }
    else d

/-- A write of ACQ_RING_TAIL waits for its flutter boundary (R611). -/
def Dev.acqTailWrite (d : Dev) (v : Word) : Dev :=
  { (d.wr Reg.ACQ_RING_TAIL v) with acq := { d.acq with tailReqs := d.acq.tailReqs ++ [(v.toNat, d.tim.clk)] } }

/-- The first flutter boundary at least 2 µs after a tail write applies it (R611). -/
def Dev.acqTailApply (d : Dev) : Dev :=
  let due (r : Nat × Nat) : Bool := decide (r.2 + ticksUs 2 ≤ d.tim.clk)
  match (d.acq.tailReqs.filter due).getLast? with
  | some (v, _) => { d with acq := { d.acq with tail := v, tailReqs := d.acq.tailReqs.filter (fun r => !due r) } }
  | none => d

/-- CAPTURE_RESUME (R614): the unsent entries have fallen to ACQ_RESUME_MB or below, and the pause ends; the first entry after it brings the gap record
(`Dev.acqGap`). (DEDUCED: notes/assumptions/51) -/
def Dev.acqResume (d : Dev) : Dev :=
  if d.acq.paused && decide (d.acqUnsent ≤ d.rdN Reg.ACQ_RESUME_MB * 1048576) then
    ({ d with acq := { d.acq with paused := false } }).raise Reg.ACQ_INT_STATUS 3
  else d

/-! Waveform blocks (R615 to R617). -/

/-- A wave group that has gathered nothing. -/
def WaveGrp.start : WaveGrp := ⟨[], 0, 0⟩

/-- Channel positions of a wave group. -/
def Dev.waveChs (d : Dev) (g : Nat) : List Nat :=
  (List.range (d.fld (Reg.ACQ_WG_CFG g) 11 8)).map (fun j => nbits (d.rd64 (Reg.ACQ_WG_CH_LO g) (Reg.ACQ_WG_CH_HI g)) (8 * j + 7) (8 * j))

/-- A sample tick for the wave groups: every DECIM-th is taken; `val` gives a position's word of a quantity and whether it is valid. -/
def Dev.waveTick (d : Dev) (val : Nat → Nat → Int × Bool) : Dev :=
  foldUp 8 (fun g d =>
    if d.flag (Reg.ACQ_WG_CFG g) 0 && d.acqOn then
      let w := tget WaveGrp.start d.acq.groups g
      let dec := max 1 (d.fld (Reg.ACQ_WG_CFG g) 7 3)
      let qty := d.fld (Reg.ACQ_WG_CFG g) 2 1
      let vs := (d.waveChs g).map (val qty)
      let got := if (w.ticks + 1) % dec = 0 then (d.ns, d.tim.clk, vs.any (fun v => !v.2), vs.map (·.1)) :: w.got else w.got
      { d with acq := { d.acq with groups := tset WaveGrp.start d.acq.groups g { w with got := got, ticks := w.ticks + 1 } } }
    else d) d

/-- WAVE_BLOCK: a group that has gathered a block hands it to the compression engines of both wings, its place in the stream held (R615 to R617). -/
def Dev.waveBlock (d : Dev) (g : Nat) : Dev :=
  let w := tget WaveGrp.start d.acq.groups g
  let cfg := Reg.ACQ_WG_CFG g
  let k := d.fld cfg 15 12
  let n := 256 * k
  if n = 0 || w.got.length < n then d
  else
    let all := w.got.reverse
    let blk := all.take n
    let d := { d with acq := { d.acq with groups := tset WaveGrp.start d.acq.groups g { w with got := (all.drop n).reverse } } }
    let first := blk.head?.getD (0, 0, false, [])
    let last := blk.getLast?.getD (0, 0, false, [])
    let nch := d.fld cfg 11 8
    let input := ((List.range nch).map (fun c => (blk.map (fun s => le 4 (cx 32 (s.2.2.2.getD c 0)))).flatten)).flatten
    let marks := (d.acq.marks.filter (fun m => decide (first.2.1 ≤ m.1) && decide (m.1 ≤ last.2.1))).map (·.2)
    let mk := sumN ((List.range 16).map (fun u => if marks.contains u then 2 ^ u else 0))
    let hd := le 1 5 ++ le 1 (2 * b2n (blk.any (fun s => s.2.2.1)) + d.acqFlags) ++ le 1 g ++ le 1 nch ++ zeros 4 ++ le 8 first.1
      ++ le 4 (last.1 - first.1) ++ le 2 mk ++ le 1 (d.fld cfg 2 1 + 4 * d.fld cfg 7 3) ++ le 1 k ++ le 4 (w.blocks + 1) ++ zeros 4
    let no := d.cmp.nextJob
    let (d, ok) := d.acqAdd 2 ⟨hd ++ input, last.1, last.2.1, first.2.1, false, false, some no⟩
    if ok then
      let j : CmpJob := ⟨0, no, 1, 1, d.fld cfg 19 16, nch, w.blocks + 1, input, 0, 0, 0, 0, false⟩
      let d := { d with acq := { d.acq with groups := tmod WaveGrp.start d.acq.groups g (fun w => { w with blocks := w.blocks + 1 }) } }
      { d with cmp := { d.cmp with
          nextJob := no + 1
          w0 := { d.cmp.w0 with waitAcq := d.cmp.w0.waitAcq ++ [j] }
          w1 := { d.cmp.w1 with waitAcq := d.cmp.w1.waitAcq ++ [j] } } }
    else d

/-- The block of a job has come back: compressed, or none, and then it is sent as its input with RAW set (R616, R617). -/
def Dev.waveReturn (d : Dev) (no : Nat) (out : Option Bytes) : Dev :=
  match d.acq.ring.find? (fun e => e.job == some no) with
  | none => d
  | some e =>
    let hd := e.bytes.take 32
    let body := out.getD (e.bytes.drop 32)
    let g := byteAt hd 2
    let hd := patch hd 28 (le 4 body.length)
    let hd := if out.isNone then patch hd 1 (le 1 (byteAt hd 1 ||| 1)) else hd
    let bytes := hd ++ body ++ zeros ((16 - body.length % 16) % 16)
    let i := d.acq.ring.findIdx (fun e => e.job == some no)
    let d := { d with acq := { d.acq with ring := lmod d.acq.ring i (fun e => { e with bytes := bytes, job := none }) } }
    if out.isNone then (d.inc (Reg.ACQ_WG_RAW_CNT g) 1).raise Reg.ACQ_INT_STATUS 5 else d

/-! Boundaries and registers. -/

/-- EN takes effect at a wingbeat boundary (R609): `was` is its value before. The history starts there, and a wave group gathers anew; with EN 0 the
history counts on. (DESIGN CHOICE: notes/assumptions/195) -/
def Dev.acqEnable (d : Dev) (was : Bool) : Dev :=
  if d.flag Reg.ACQ_CTL 0 && !was then
    { d with acq := { d.acq with startClk := some d.tim.clk, groups := d.acq.groups.map (fun p => (p.1, { p.2 with got := [], ticks := 0 })) } }
  else d

/-- A changed unit ends its holdoff without a mark and takes its pattern as not holding (R605). -/
def Dev.patReset (d : Dev) (u : Nat) : Dev := d.modPat u (fun p => { p with held := false, markAt := none, supp := 0, prevSupp := 0 })

/-- Registers of the ACQ block that show its state (R620, R621). -/
def Dev.acqReg (d : Dev) (a : Nat) : Option Word :=
  if a = Reg.ACQ_STATUS then
    some (w32 (b2n (d.acqOn && !d.acq.paused) + 2 * b2n d.acq.paused + 4 * b2n (d.acq.startClk.isSome && decide (ticksMs (d.rdN Reg.ACQ_PRE) ≤ d.acqHistory))))
  else if a = Reg.ACQ_SEQ_LO then some (w32 d.acq.seq)
  else if a = Reg.ACQ_SEQ_HI then some (w32 (d.acq.seq / 2 ^ 32))
  else if a = Reg.ACQ_UNSENT then some (w32 d.acqUnsent)
  else if a = Reg.ACQ_HISTORY then some (w32 (min (d.acqHistory / ticksMs 1) 0xFFFFFFFF))
  else if Reg.ACQ_BUS 0 ≤ a && a < Reg.ACQ_BUS 16 && a % 4 = 0 then some (w32 (d.acq.bus >>> (8 * (a - Reg.ACQ_BUS 0))))
  else if Reg.ACQ_DI_CFG 0 ≤ a && a < Reg.ACQ_DI_CFG 64 && a % 4 = 0 then
    some (setBits (d.rd a) 17 17 (b2n (d.acq.bus.testBit ((a - Reg.ACQ_DI_CFG 0) / 4))))
  else
    ((List.range 16).findSome? (fun u =>
      let p := d.pat u
      if a = Reg.ACQ_PU_STATUS u then some (w32 (b2n (d.patHolds u d.acq.bus) + 2 * b2n (d.inHoldoff u) + 2 ^ 16 * (if d.inHoldoff u then min p.supp 65535 else 0)))
      else if a = Reg.ACQ_PU_MARK_CNT u then some (w32 p.marks)
      else none)).or
    ((List.range 8).findSome? (fun g =>
      if a = Reg.ACQ_WG_BLOCK_CNT g then some (w32 (tget WaveGrp.start d.acq.groups g).blocks) else none))

end Sys2Proof.Machine
end

