-- ==== Sys2Proof/Machine/Codec.lean ====
section
/-! DEFINITION. Sys2Proof/Machine/Codec.lean: the block format of the compression engine (R625 to R638) and the checks CRC-32C (R626) and CRC-8 (R828). -/

namespace Sys2Proof.Machine

/-! CRC. -/

/-- One bit of the reflected CRC-32C. -/
def crc32cBit (c : Nat) : Nat := if c % 2 = 1 then (c / 2) ^^^ 0x82F63B78 else c / 2

/-- One byte of it. -/
def crc32cByte (c b : Nat) : Nat :=
  crc32cBit (crc32cBit (crc32cBit (crc32cBit (crc32cBit (crc32cBit (crc32cBit (crc32cBit (c ^^^ b))))))))

/-- CRC-32C (R626). -/
def crc32c (b : Bytes) : Nat := (b.foldl (fun c x => crc32cByte c x.toNat) 0xFFFFFFFF) ^^^ 0xFFFFFFFF

/-! Bit streams. -/

/-- The low `n` bits of a number, most significant first. -/
def toBits : Nat → Nat → List Bool
  | 0, _ => []
  | n + 1, v => v.testBit n :: toBits n v

/-- The number that bits spell. -/
def ofBits (l : List Bool) : Nat := l.foldl (fun a b => 2 * a + b2n b) 0

/-- Bits packed in bytes, the last one padded with zeros. -/
def packBits : Nat → List Bool → Bytes
  | 0, _ => []
  | _, [] => []
  | n + 1, l => BitVec.ofNat 8 (ofBits ((l ++ List.replicate 8 false).take 8)) :: packBits n (l.drop 8)

/-- Bytes as bits. -/
def unpackBits (b : Bytes) : List Bool := (b.map (fun x => toBits 8 x.toNat)).flatten

/-- The next `n` bits as a number. -/
def takeBits (n : Nat) (l : List Bool) : Option (Nat × List Bool) := if l.length < n then none else some (ofBits (l.take n), l.drop n)

/-! The residue method (R628 to R634). -/

/-- Residues of a channel for an order (R630): sample less prediction, modulo 2^32; the three samples before it. -/
def residues (order : Nat) : Nat → Nat → Nat → List Nat → List Nat
  | _, _, _, [] => []
  | a, b, c, x :: r =>
    let p := if order = 0 then 0 else if order = 1 then a else if order = 2 then 2 * a + 2 ^ 32 - b else 3 * a + 3 * 2 ^ 32 - 3 * b + c
    (x + 4 * 2 ^ 32 - p % 2 ^ 32) % 2 ^ 32 :: residues order x a b r

/-- The mapping of a residue to an unsigned value (R633). -/
def zigzag (e : Nat) : Nat := if e < 2 ^ 31 then 2 * e else 2 * (2 ^ 32 - e) - 1

/-- Its inverse. -/
def unzigzag (u : Nat) : Nat := if u % 2 = 0 then u / 2 else (2 ^ 32 - (u + 1) / 2) % 2 ^ 32

/-- The code of a mapped residue with parameter K (R633). -/
def riceCode (k u : Nat) : List Bool :=
  if k = 31 then toBits 32 u
  else if 32 ≤ u >>> k then List.replicate 32 false ++ toBits 32 u
  else List.replicate (u >>> k) false ++ [true] ++ toBits k u

/-- One coded candidate of a partition: header, verbatim samples, residues. -/
def partBits (order : Nat) (ref : Option Nat) (k : Nat) (warm us : List Nat) : List Bool :=
  toBits 2 order ++ (match ref with | none => [false] | some r => [true] ++ toBits 3 r) ++ toBits 5 k
    ++ (warm.map (toBits 32)).flatten ++ (us.map (riceCode k)).flatten

/-- The first of the shortest bit strings. -/
def shortest : List (List Bool) → List Bool
  | [] => []
  | [x] => x
  | x :: r => let b := shortest r; if b.length < x.length then b else x

/-- Values of K that a level tries (R638). (DESIGN CHOICE: notes/assumptions/52) -/
def riceTry (level : Nat) (us : List Nat) : List Nat := if level = 9 then List.range 32 else ((Config.riceKs level us).1 :: (Config.riceKs level us).2).map (· % 32)

/-- Orders and neighbour channels that a level tries (R638). -/
def ordersTry (level : Nat) : List Nat := if level = 1 then [2] else if level = 2 then [1, 2] else [0, 1, 2, 3]
def refsTry (level c : Nat) : List Nat := if level ≤ 3 then [] else if level = 4 then (if c = 0 then [] else [c - 1]) else List.range c

/-- The partition that begins at sample `at'` of channel c: the candidate that codes in the fewest bits (R638). -/
def encodePart (level c at' : Nat) (chans : List (List Nat)) : List Bool :=
  let x := chans.getD c []
  let cand (o : Nat) (ref : Option Nat) : List (List Bool) :=
    let own := residues o 0 0 0 x
    let res := match ref with
      | none => own
      | some r => own.zipWith (fun a b => (a + 2 ^ 32 - b) % 2 ^ 32) (residues o 0 0 0 (chans.getD r []))
    let w := if at' = 0 then min o x.length else 0
    let us := (((res.drop at').take 256).drop w).map zigzag
    (riceTry level us).map (fun k => partBits o ref k (x.take w) us)
  shortest ((ordersTry level).map (fun o => cand o none ++ ((refsTry level c).map (fun r => cand o (some r))).flatten)).flatten

/-- The payload of a residue block (R629). -/
def residuePayload (level nch : Nat) (input : Bytes) : Bytes :=
  let m := input.length / (4 * nch)
  let chans := (List.range nch).map (fun c => (List.range m).map (fun j => leAt input (4 * (c * m + j)) 4))
  let bitsAll := ((List.range nch).map (fun c => ((List.range (cdiv m 256)).map (fun p => encodePart level c (256 * p) chans)).flatten)).flatten
  packBits (bitsAll.length / 8 + 1) bitsAll

/-- Zero bits before a one, at most 32. -/
def unary : Nat → Nat → List Bool → Option (Nat × List Bool)
  | 0, q, l => some (q, l)
  | _ + 1, _, [] => none
  | f + 1, q, b :: r => if b then some (q, r) else unary f (q + 1) r

/-- One coded residue read (R633). -/
def riceRead (k : Nat) (l : List Bool) : Option (Nat × List Bool) :=
  if k = 31 then takeBits 32 l
  else
    match unary 32 0 l with
    | none => none
    | some (32, r) => takeBits 32 r
    | some (q, r) => (takeBits k r).map (fun p => (q * 2 ^ k + p.1, p.2))

/-- Samples decoded: `n` residues with an order, a neighbour's residues, and the samples before, newest first. -/
def readSamples (order k : Nat) : Nat → List Nat → List Nat → List Bool → Option (List Nat × List Bool)
  | 0, _, hist, l => some (hist, l)
  | n + 1, nb, hist, l =>
    match riceRead k l with
    | none => none
    | some (u, r) =>
      let a := hist.getD 0 0
      let b := hist.getD 1 0
      let c := hist.getD 2 0
      let p := if order = 0 then 0 else if order = 1 then a else if order = 2 then 2 * a + 2 ^ 32 - b else 3 * a + 3 * 2 ^ 32 - 3 * b + c
      readSamples order k n nb.tail ((p + unzigzag u + nb.headD 0) % 2 ^ 32 :: hist) r

/-- Verbatim samples read. -/
def readWarm : Nat → List Nat → List Bool → Option (List Nat × List Bool)
  | 0, h, l => some (h, l)
  | n + 1, h, l => match takeBits 32 l with | none => none | some (v, r) => readWarm n (v :: h) r

/-- The partitions of channel c read, `left` samples still to come; channels before it as decoded. -/
def readParts (c m : Nat) (prev : List (List Nat)) : Nat → List Nat → List Bool → Option (List Nat × List Bool)
  | 0, hist, l => some (hist, l)
  | f + 1, hist, l => do
    if m ≤ hist.length then some (hist, l)
    else
      let at' := hist.length
      let (order, l) ← takeBits 2 l
      let (x, l) ← takeBits 1 l
      let (ref, l) ← if x = 1 then takeBits 3 l else some (0, l)
      let (k, l) ← takeBits 5 l
      if x = 1 && c ≤ ref then none
      else
        let n := min 256 (m - at')
        let w := if at' = 0 then min order m else 0
        let (hist, l) ← readWarm w hist l
        let nb := if x = 1 then ((residues order 0 0 0 (prev.getD ref [])).drop (at' + w)) else []
        let (hist, l) ← readSamples order k (n - w) nb hist l
        readParts c m prev f hist l

/-- All channels read, channel c next. -/
def readChans (m : Nat) : Nat → Nat → List (List Nat) → List Bool → Option (List (List Nat) × List Bool)
  | 0, _, prev, l => some (prev, l)
  | n + 1, c, prev, l => match readParts c m prev (cdiv m 256) [] l with
    | none => none
    | some (h, r) => readChans m n (c + 1) (prev ++ [h.reverse]) r

/-- A residue payload decoded to its bytes; none where R634 finds it corrupt. -/
def residueDecode (nch len : Nat) (payload : Bytes) : Option Bytes :=
  if nch = 0 || 8 < nch || len % (4 * nch) ≠ 0 then none
  else
    match readChans (len / (4 * nch)) nch 0 [] (unpackBits payload) with
    | none => none
    | some (chans, rest) =>
      if 8 ≤ rest.length || rest.any id then none else some ((chans.map (fun c => (c.map (le 4)).flatten)).flatten)

/-! The dictionary method (R635 to R638). -/

/-- Length of the match of two streams, at most `f`. -/
def matchLen : Nat → Bytes → Bytes → Nat
  | 0, _, _ => 0
  | _ + 1, [], _ => 0
  | _ + 1, _ :: _, [] => 0
  | f + 1, x :: a, y :: b => if x = y then matchLen f a b + 1 else 0

/-- The best match at a position: of the nearest candidates of the chain, the longest, and of equal ones the nearest: length and distance. -/
def bestMatch (whole : Bytes) (i chain : Nat) : Nat × Nat :=
  let here := whole.drop i
  let cands := (((List.range (min i 65536)).map (fun k => k + 1)).filter (fun dist => decide (3 ≤ matchLen 3 here (whole.drop (i - dist))))).take chain
  cands.foldl (fun best dist => let n := matchLen 130 here (whole.drop (i - dist)); if best.1 < n then (n, dist) else best) (0, 0)

/-- Hash-chain length of a level (R638). -/
def chainLen (level : Nat) : Nat := [0, 4, 8, 16, 32, 64, 256, 1024, 2048, 4096].getD level 0

/-- Literal bytes as tokens of at most 128. -/
def literals : Nat → Bytes → Bytes
  | 0, _ => []
  | _, [] => []
  | f + 1, l => (BitVec.ofNat 8 ((l.take 128).length - 1) :: l.take 128) ++ literals f (l.drop 128)

/-- Tokens from position i on, with the literal bytes waiting. (DESIGN CHOICE: notes/assumptions/52) -/
def dictTokens (level : Nat) (whole : Bytes) : Nat → Nat → Bytes → Bytes
  | 0, _, lit => literals (lit.length + 1) lit
  | f + 1, i, lit =>
    if whole.length ≤ i then literals (lit.length + 1) lit
    else
      let (n, dist) := bestMatch whole i (chainLen level)
      let defer := decide (5 ≤ level) && Config.lazyYields n (bestMatch whole (i + 1) (chainLen level)).1
      if n < 3 || defer then dictTokens level whole f (i + 1) (lit ++ (whole.drop i).take 1)
      else literals (lit.length + 1) lit ++ be 1 (128 + n - 3) ++ be 2 (dist - 1) ++ dictTokens level whole f (i + n) []

/-- The payload of a dictionary block. -/
def dictPayload (level : Nat) (input : Bytes) : Bytes := dictTokens level input (input.length + 1) 0 []

/-- Bytes copied from a distance behind the end of the output, which is newest first. -/
def copyBack : Nat → Nat → Bytes → Bytes
  | 0, _, out => out
  | n + 1, dist, out => copyBack n dist (out.getD (dist - 1) 0 :: out)

/-- Tokens decoded; the output is newest first; none where R637 finds it corrupt. -/
def dictDecode (len : Nat) : Nat → Bytes → Bytes → Option Bytes
  | 0, _, _ => none
  | f + 1, l, out =>
    match l with
    | [] => if out.length = len then some out.reverse else none
    | c :: r =>
      if len ≤ out.length then none
      else
        let b := c.toNat
        if b < 128 then
          if r.length < b + 1 || len < out.length + b + 1 then none else dictDecode len f (r.drop (b + 1)) ((r.take (b + 1)).reverse ++ out)
        else
          let n := b - 128 + 3
          let dist := beAt r 0 2 + 1
          if r.length < 2 || out.length < dist || len < out.length + n then none else dictDecode len f (r.drop 2) (copyBack n dist out)

/-! Blocks (R625). -/

/-- A compressed block: header and payload. -/
def compress (method level param index : Nat) (input : Bytes) : Bytes :=
  let p := if method = 1 then residuePayload level param input else dictPayload level input
  be 1 method ++ be 1 level ++ be 2 (input.length - 1) ++ be 4 (crc32c input) ++ be 4 index ++ be 2 p.length
    ++ be 1 (if method = 1 then param else 0) ++ zeros 1 ++ p

/-- A stored block (R627). -/
def storedBlock (index : Nat) (input : Bytes) : Bytes :=
  be 1 0 ++ be 1 0 ++ be 2 (input.length - 1) ++ be 4 (crc32c input) ++ be 4 index ++ be 2 input.length ++ zeros 2 ++ input

/-- A block decompressed (R644): STATUS 5 BAD_HEADER, 6 CORRUPT, 7 CRC_FAIL, 2 OUT_FULL, or the bytes. (DEDUCED: notes/assumptions/53) -/
def decompress (b : Bytes) (room : Nat) : Nat × Bytes :=
  let method := byteAt b 0
  let level := byteAt b 1
  let len := beAt b 2 2 + 1
  let param := byteAt b 14
  if b.length < 16 || 2 < method || byteAt b 15 ≠ 0 || (method = 0 && level ≠ 0) || (method ≠ 0 && (level = 0 || 9 < level))
      || (method ≠ 1 && param ≠ 0) || b.length ≠ 16 + beAt b 12 2 then (5, [])
  else
    let p := b.drop 16
    let out := if method = 1 then residueDecode param len p
      else if method = 2 then dictDecode len (p.length + 1) p []
      else if p.length = len then some p else none
    match out with
    | none => (6, [])
    | some o => if crc32c o ≠ beAt b 4 4 then (7, []) else if room < len then (2, []) else (0, o)

/-! CRC-8 of the SPI port (R828). -/

/-- One bit of CRC-8 with polynomial 0x07. -/
def crc8Bit (c : Nat) : Nat := if 128 ≤ c then (2 * c % 256) ^^^ 7 else 2 * c

/-- CRC-8, initial value 0. -/
def crc8 (b : Bytes) : Nat :=
  b.foldl (fun c x => crc8Bit (crc8Bit (crc8Bit (crc8Bit (crc8Bit (crc8Bit (crc8Bit (crc8Bit (c ^^^ x.toNat))))))))) 0

end Sys2Proof.Machine
end

