-- ==== Sys2Proof/Machine/Compression.lean ====
section
/-! DEFINITION. Sys2Proof/Machine/Compression.lean: the engines, their queues and the host job rings (R639 to R657). -/

namespace Sys2Proof.Machine

/-- A wing's compression. -/
def Dev.cmpW (d : Dev) (w : Nat) : CmpWing := if w = 0 then d.cmp.w0 else d.cmp.w1

/-- A wing's compression changed. -/
def Dev.modCmpW (d : Dev) (w : Nat) (f : CmpWing → CmpWing) : Dev :=
  if w = 0 then { d with cmp := { d.cmp with w0 := f d.cmp.w0 } } else { d with cmp := { d.cmp with w1 := f d.cmp.w1 } }

/-- An engine. -/
def CmpWing.eng (c : CmpWing) (e : Nat) : CmpEng := if e = 0 then c.e0 else c.e1

/-- An engine changed. -/
def CmpWing.modEng (c : CmpWing) (e : Nat) (f : CmpEng → CmpEng) : CmpWing := if e = 0 then { c with e0 := f c.e0 } else { c with e1 := f c.e1 }

/-- An idle engine in service takes the head of the first queue that is not empty (R647). -/
def Dev.cmpStartE (d : Dev) (w e : Nat) : Dev :=
  let c := d.cmpW w
  if (c.eng e).fault || (c.eng e).job.isSome then d
  else
    let run (d : Dev) (j : CmpJob) : Dev := d.modCmpW w (fun c => c.modEng e (fun g => { g with job := some (j, d.tim.clk) }))
    match c.waitAcq, c.waitArc, d.cmp.waitHost with
    | j :: q, _, _ => run (d.modCmpW w (fun c => { c with waitAcq := q })) j
    | [], j :: q, _ => run (d.modCmpW w (fun c => { c with waitArc := q })) j
    | [], [], j :: q =>
      if w = d.active then run { d with cmp := { d.cmp with waitHost := q } } { j with input := if j.bad then [] else d.dmaRead j.srcAt j.srcLen } else d
    | [], [], [] => d

/-- Idle engines of both wings take work, the lower-numbered first. -/
def Dev.cmpStart (d : Dev) : Dev := (((d.cmpStartE 0 0).cmpStartE 0 1).cmpStartE 1 0).cmpStartE 1 1

/-- Is a ring size a power of two from 16 to 4,096 (R657)? -/
def ringSizeOk (n : Nat) : Bool := [16, 32, 64, 128, 256, 512, 1024, 2048, 4096].contains n

/-- The host path takes jobs: HOST_EN and good ring sizes (R650, R657). -/
def Dev.cmpHostRuns (d : Dev) : Bool :=
  d.flag Reg.CMP_CTL 0 && ringSizeOk (d.fld Reg.CMP_SQ_SIZE 12 0) && ringSizeOk (d.fld Reg.CMP_CQ_SIZE 12 0)

/-- A register of the CMP block set in the copies of both wings (R655). -/
def Dev.wrBoth (d : Dev) (a v : Nat) : Dev := (d.wrN a v).wrN (a + wingOfs) v

/-- The range of a descriptor (R648, R649). -/
def descBad (b : Bytes) : Bool :=
  let op := byteAt b 0
  let m := byteAt b 1
  let lv := byteAt b 2
  let pa := byteAt b 3
  let idx := leAt b 4 4
  let src := leAt b 8 8
  let dst := leAt b 16 8
  let sl := leAt b 24 4
  let dl := leAt b 28 4
  (op ≠ 1 && op ≠ 2) ||
  (op = 1 && (m ≠ 1 && m ≠ 2 || lv < 1 || 9 < lv || sl < 1 || 65536 < sl)) ||
  (op = 1 && m = 1 && (pa < 1 || 8 < pa || sl % (4 * pa) ≠ 0)) ||
  (op = 1 && m = 2 && pa ≠ 0) ||
  (op = 2 && (m ≠ 0 || lv ≠ 0 || pa ≠ 0 || idx ≠ 0)) ||
  (src < dst + dl && dst < src + sl)

/-- CMP_JOB_TAKE (R650): the active wing takes the next descriptor when the completion ring has room for its entry. -/
def Dev.cmpTake (d : Dev) : Dev :=
  let n := d.fld Reg.CMP_SQ_SIZE 12 0
  let tail := d.fld Reg.CMP_SQ_TAIL 11 0
  let cn := d.fld Reg.CMP_CQ_SIZE 12 0
  let used := d.cmp.sqIndex - d.cmp.nextOut
  let free := ringRoom cn (d.fld Reg.CMP_CQ_HEAD 11 0) (d.fld Reg.CMP_CQ_TAIL 11 0)
  if d.cmpHostRuns && d.dma && d.fld Reg.CMP_SQ_HEAD 11 0 ≠ tail && decide (used < free) then
    let b := d.dmaRead (d.rd64 Reg.CMP_SQ_BASE_LO Reg.CMP_SQ_BASE_HI + 32 * tail) 32
    let j : CmpJob := ⟨2, d.cmp.sqIndex, byteAt b 0, byteAt b 1, byteAt b 2, byteAt b 3, leAt b 4 4, [], leAt b 8 8, leAt b 24 4, leAt b 16 8, leAt b 28 4, descBad b⟩
    let d := { d with cmp := { d.cmp with sqIndex := d.cmp.sqIndex + 1, waitHost := d.cmp.waitHost ++ [j] } }
    ((d.wrBoth Reg.CMP_SQ_TAIL ((tail + 1) % n)).wrBoth Reg.CMP_HOST_IDX d.cmp.sqIndex).cmpStart
  else d

/-- What a job comes to (R639 to R645): STATUS, bytes to write, OUT_LEN, IN_LEN. (DEDUCED: notes/assumptions/53) -/
def jobResult (j : CmpJob) (verifyOk dmaOk : Bool) : Nat × Bytes × Nat × Nat :=
  if j.bad then (4, [], 0, 0)
  else if !dmaOk then (8, [], 0, 0)
  else if j.op = 1 then
    let b := compress j.method j.level j.param j.index j.input
    if j.input.length ≤ b.length then (1, [], b.length, 0)
    else if j.src = 2 && j.dstLen < b.length then (2, [], b.length, 0)
    else if !verifyOk then (3, [], 0, 0)
    else (0, b, b.length, j.input.length)
  else
    let (st, o) := decompress j.input j.dstLen
    if st = 0 then (0, o, o.length, j.input.length) else (st, [], if st = 2 then beAt j.input 2 2 + 1 else 0, 0)

/-- A device job's block has not come back yet: its place in the stream waits for it, or no archive block of it is there. -/
def Dev.cmpOwed (d : Dev) (j : CmpJob) : Bool :=
  if j.src = 0 then d.acq.ring.any (fun e => e.job == some j.no) else !d.cmp.arcOut.any (fun x => x.1 == j.no)

/-- A device job's block goes back to its caller, once (R627): an acquisition block, or an archive block wrapped when it is not compressed. -/
def Dev.cmpReturn (d : Dev) (j : CmpJob) (out : Option Bytes) : Dev :=
  if j.src = 0 then d.waveReturn j.no out
  else if !d.cmpOwed j then d
  else { d with cmp := { d.cmp with arcOut := d.cmp.arcOut ++ [(j.no, out.getD (storedBlock j.index j.input))] } }

/-- What a host job that ends DMA_ERR or ABORTED has written to DST is undefined, so much of it as there is (R645, R654): free bytes. (DESIGN CHOICE: notes/assumptions/188) -/
def Dev.dstOpen (d : Dev) (j : CmpJob) : Dev :=
  let (v, d) := d.free
  let n := v % (min j.dstLen 65536 + 1)
  d.dmaWrite j.dst (le n (v / 2 ^ 17))

/-- CMP_JOB_DONE (R639): the job of an engine ends; the engine's counters, its result, and the next job. With it, whether the wing has a fault
because a device job failed its verification (R643). (DESIGN CHOICE: notes/assumptions/54) -/
def Dev.cmpDone (d : Dev) (w e : Nat) (verifyOk dmaOk : Bool) : Dev × Bool :=
  match ((d.cmpW w).eng e).job with
  | none => (d, false)
  | some (j, at') =>
    let r := jobResult j verifyOk dmaOk
    let st := r.1
    let a (x : Nat) := wingAddr w x
    let d := d.modCmpW w (fun c => c.modEng e (fun g => { g with job := none, busy := g.busy + (d.tim.clk - at') }))
    let d := d.incW (a (Reg.CMP_E_JOBS e)) 1
    let d := if st = 0 then
        (d.inc64 (a (Reg.CMP_E_IN_LO e)) (a (Reg.CMP_E_IN_HI e)) r.2.2.2).inc64 (a (Reg.CMP_E_OUT_LO e)) (a (Reg.CMP_E_OUT_HI e)) r.2.1.length
      else if st = 1 then d.inc (a (Reg.CMP_E_NOT_SMALLER_CNT e)) 1
      else if st = 2 then d.inc (a (Reg.CMP_E_OUT_FULL_CNT e)) 1
      else if st = 4 then (d.inc (a Reg.CMP_BAD_DESC_CNT) 1).raise (a Reg.CMP_INT_STATUS) 3
      else d
    let d := if st = 3 then
        let d := d.modCmpW w (fun c => c.modEng e (fun g => { g with fault := true }))
        let d := d.recordLocal w 0x0F01 (be 1 w ++ be 1 e ++ be 1 j.src ++ zeros 1 ++ be 4 j.index ++ zeros 8)
        (((d.inc (a (Reg.CMP_E_VERIFY_FAIL_CNT e)) 1).putB (a Reg.CMP_STATUS) e false).raise (a Reg.CMP_INT_STATUS) 1).raise (a Reg.CMP_INT_STATUS) 2
      else d
    let d := if j.src = 2 then
        let d := if st = 0 then d.dmaWrite j.dst r.2.1 else if st = 8 then d.dstOpen j else d
        { d with cmp := { d.cmp with entries := d.cmp.entries ++ [(j.no, (r.2.2.1, r.2.2.2, st, e + 2 * w))] } }
      else
        let out := if st = 0 then some r.2.1 else none
        if w = d.active then
          { (d.cmpReturn j out) with cmp := { (d.cmpReturn j out).cmp with early := d.cmp.early.filter (fun x => x.1.no != j.no) } }
        else if d.cmpOwed j then { d with cmp := { d.cmp with early := d.cmp.early ++ [(j, out)] } }
        else d
    (d.cmpStart, st == 3 && j.src != 2)

/-- CMP_COMPLETION_WRITE (R651, R652): the entry of the next SQ_INDEX, once its job has ended, through the gate. -/
def Dev.cmpEntry (d : Dev) : Dev :=
  let i := d.cmp.nextOut
  match d.cmp.entries.find? (fun x => x.1 == i) with
  | none => d
  | some (_, (ol, il, st, eng)) =>
    let n := d.fld Reg.CMP_CQ_SIZE 12 0
    let head := d.fld Reg.CMP_CQ_HEAD 11 0
    if ringSizeOk n && d.dma && 0 < ringRoom n head (d.fld Reg.CMP_CQ_TAIL 11 0) && d.gateOpen d.active 2164 i then
      let d := d.gatePass 2164 i
      let b := le 4 i ++ le 4 ol ++ le 4 il ++ le 1 st ++ le 1 eng ++ zeros 1 ++ le 1 (b2n d.cmp.phase)
      let d := d.dmaWrite (d.rd64 Reg.CMP_CQ_BASE_LO Reg.CMP_CQ_BASE_HI + 16 * head) b
      let ph := if head + 1 = n then !d.cmp.phase else d.cmp.phase
      let d := { d with cmp := { d.cmp with nextOut := i + 1, entries := d.cmp.entries.filter (fun x => x.1 != i), phase := ph } }
      (d.wrBoth Reg.CMP_CQ_HEAD ((head + 1) % n)).raise (wingAddr d.active Reg.CMP_INT_STATUS) 0
    else d

/-- At a takeover: jobs taken above the last SQ_INDEX emitted end ABORTED on the new active wing (R653); blocks that the standby has compressed are
returned. The engine of an aborted job is not stated: a free value; so is what a running one has written to DST (R654). (DESIGN CHOICE: notes/assumptions/188) -/
def Dev.cmpTakeover (d : Dev) (new : Nat) : Dev :=
  let lost := d.cmp.sqIndex - d.cmp.nextOut
  let base := d.cmp.nextOut
  let host (g : CmpEng) : List CmpJob := (g.job.toList.map (·.1)).filter (fun j => j.src == 2 && !j.bad)
  let d := (host d.cmp.w0.e0 ++ host d.cmp.w0.e1 ++ host d.cmp.w1.e0 ++ host d.cmp.w1.e1).foldl (fun (d : Dev) j => d.dstOpen j) d
  let drop (g : CmpEng) : CmpEng := match g.job with
    | some (j, _) => if j.src = 2 then { g with job := none } else g
    | none => g
  let d := { d with cmp := { d.cmp with
    waitHost := []
    entries := []
    w0 := { d.cmp.w0 with e0 := drop d.cmp.w0.e0, e1 := drop d.cmp.w0.e1 }
    w1 := { d.cmp.w1 with e0 := drop d.cmp.w1.e0, e1 := drop d.cmp.w1.e1 } } }
  let d := foldUp lost (fun k d =>
    let (v, d) := d.free
    { d with cmp := { d.cmp with entries := d.cmp.entries ++ [(base + k, (0, 0, 9, v % 2 + 2 * new))] } }) d
  let d := if 0 < lost then (d.inc (wingAddr new Reg.CMP_HOST_ABORT_CNT) lost).raise (wingAddr new Reg.CMP_INT_STATUS) 4 else d
  let early := d.cmp.early
  let d := early.foldl (fun (d : Dev) x => d.cmpReturn x.1 x.2) d
  { d with cmp := { d.cmp with early := [] } }

/-- A bad ring size raises BAD_DESC (R657). -/
def Dev.cmpSizeWrite (d : Dev) (v : Word) : Dev :=
  let n := v.toNat % 8192
  if n = 0 || ringSizeOk n then d else (d.raise Reg.CMP_INT_STATUS 3).raise (Reg.CMP_INT_STATUS + wingOfs) 3

/-- Registers of the CMP block that show a wing's state (R656, R657). -/
def Dev.cmpReg (d : Dev) (w a : Nat) : Option Word :=
  if a = Reg.CMP_STATUS then
    some (setBits (d.rd (wingAddr w a)) 2 2 (b2n (w == d.active && d.cmpHostRuns)))
  else
    (List.range 2).findSome? (fun e =>
      let g := (d.cmpW w).eng e
      if a = Reg.CMP_E_STATUS e then
        some (w32 (match g.job with
          | none => 4 * b2n g.fault
          | some (j, _) => (if j.op = 1 then 1 else 3) + 8 * j.src))
      else if a = Reg.CMP_E_BUSY_US e then some (w32 ((g.busy + (match g.job with | some (_, c) => d.tim.clk - c | none => 0)) / 400))
      else none)

end Sys2Proof.Machine
end

