-- ==== Sys2Proof/Machine/SchedBase.lean ====
section
/-! DEFINITION. Sys2Proof/Machine/SchedBase.lean: the kernel catalogue, the making of work items and their dispatch (R521 to R545, R548 to R552). -/

namespace Sys2Proof.Machine

/-! The kernel catalogue (R524 to R528). -/

/-- A kernel: fixed worst-case cycles, cycles per unit, classes (bit 0 critical, 1 regular, 2 deferrable, 3 host), version, supplied by a patch. -/
structure Kernel where
  fix : Nat
  var : Nat
  classes : Nat
  version : Nat
  patched : Bool
  deriving DecidableEq, Repr

/-- The ROM kernels (R527). K_ISLDEC shows the larger cost, that of stage B. (DEDUCED: notes/assumptions/75) -/
def romKernels : List (Nat × Kernel) :=
  [(0x10, ⟨10000, 400, 1, 0, false⟩), (0x11, ⟨2500, 3400, 1, 0, false⟩), (0x12, ⟨52500, 0, 1, 0, false⟩), (0x13, ⟨200000, 0, 1, 0, false⟩),
   (0x14, ⟨40000, 1200, 1, 0, false⟩), (0x20, ⟨4000, 90, 2, 0, false⟩), (0x21, ⟨6000, 150, 2, 0, false⟩), (0x22, ⟨30000, 520, 2, 0, false⟩),
   (0x23, ⟨3000, 4, 2, 0, false⟩), (0x24, ⟨8000, 0, 2, 0, false⟩), (0x30, ⟨50000, 64, 12, 0, false⟩)]

/-- The catalogue in force (R524, R525). (DESIGN CHOICE: notes/assumptions/74) -/
def Dev.kernel (d : Dev) (k : Nat) : Option Kernel :=
  match d.recOf 0x0C04 k with
  | some b => some ⟨beAt b 4 4, beAt b 8 4, byteAt b 12 % 16, beAt b 2 2, true⟩
  | none => (romKernels.find? (fun x => x.1 == k)).map (·.2)

/-- A patch supplies a kernel. -/
def Dev.patched (d : Dev) (k : Nat) : Bool := (d.recOf 0x0C04 k).isSome

/-- Worst-case cycles of an item of a kernel over a number of units. (DEDUCED: notes/assumptions/75) -/
def Dev.worst (d : Dev) (k units : Nat) : Nat := match d.kernel k with | some c => c.fix + c.var * units | none => 0

/-! Wings and their schedulers. -/

/-- A scheduler at reset. -/
def WSched.start : WSched := ⟨[], [], [], [], [], [], [], 0, false, [], [], [], false, 0, 0, 0, 0, 0, 0, [], [], [], 0⟩

/-- The scheduler of a wing. -/
def Dev.ws (d : Dev) (w : Nat) : WSched := if w = 0 then d.sch.w0 else d.sch.w1

/-- The scheduler of a wing changed. -/
def Dev.modWs (d : Dev) (w : Nat) (f : WSched → WSched) : Dev :=
  if w = 0 then { d with sch := { d.sch with w0 := f d.sch.w0 } } else { d with sch := { d.sch with w1 := f d.sch.w1 } }

/-- A wing runs work: it is active or standby (R712). -/
def Dev.runsWork (d : Dev) (w : Nat) : Bool := (d.wing w).role == .active || (d.wing w).role == .standby

/-- Class of a ready list, 0 when it is disabled (R564). -/
def Dev.listClass (d : Dev) (i : Nat) : Nat := if d.flag (Reg.SCH_RL_CFG i) 16 then d.fld (Reg.SCH_RL_CFG i) 1 0 else 0

/-- Capacity of a ready list (R560). -/
def Dev.listCap (d : Dev) (i : Nat) : Nat := match d.recOf 0x0C01 i with | some b => beAt b 4 4 | none => 0


/-! Clocks (R548 to R552, R557). -/

/-- PWRFAIL_N is low, or a die is at 105 °C or above. -/
def Dev.hotOrFailing (d : Dev) : Bool := d.pins.pwrfailLow || d.flag Reg.PWR_STATUS 4

/-- The level in force for dispatch (R552). -/
def Dev.nectarLevel (d : Dev) : Nat := if d.flag Reg.PWR_CTL 0 then d.sch.level else 0

/-- Clock of a regular or deferrable item of an energy class on a wing, in MHz. -/
def Dev.clockOf (d : Dev) (w cls ecl : Nat) : Nat :=
  let base := match d.nectarLevel with
    | 0 => 1600
    | 1 => if ecl < 2 then 1600 else 1200
    | _ => if ecl < 2 then 1200 else 800
  let base := if cls = 1 && d.hotOrFailing then 800 else base
  min base (d.rdN (Reg.PWR_WEAR_CAP w))

/-- Wear of a wing runs ahead: AHEAD of its ledger exceeds 500 h (R55, R556). (DEDUCED: notes/assumptions/164) -/
def Dev.wearAhead (d : Dev) (w : Nat) : Bool :=
  decide (d.sch.hours.getD w 0 * 1000000 + 500 * 3600 * 1000000 < d.sch.eq.getD w 0)

/-- Deferrable work of a wing may run (R55, R549, R552). (DEDUCED: notes/assumptions/164) -/
def Dev.deferRuns (d : Dev) (w : Nat) : Bool :=
  !d.wearAhead w && !d.hotOrFailing && (!d.flag Reg.PWR_CTL 0 || decide ((d.rdN Reg.PWR_NECTAR_DEFER * 1000000 : Nat) ≤ d.sch.nectar))

/-! Dispatch (R534 to R545). -/

/-- Order of the keys of critical items (R536). -/
def Item.before (a b : Item) : Bool :=
  if a.release != b.release then decide (a.release < b.release)
  else if a.pipe != b.pipe then decide (a.pipe < b.pipe)
  else if a.stage != b.stage then decide (a.stage < b.stage)
  else if a.korder != b.korder then decide (a.korder < b.korder)
  else decide (a.index < b.index)

/-- Critical items of a wing that have not completed. -/
def WSched.openCrit (s : WSched) : List Item := s.crit ++ ((s.cores.map (·.2.item)).filter (fun i => i.cls == 0))

/-- The critical items of a wing that are ready: every earlier stage of their pipeline and release has completed, and every critical item of an earlier
wingbeat (R535, R61). -/
def WSched.readyCrit (s : WSched) : List Item :=
  let un := s.openCrit
  s.crit.filter (fun i =>
    un.all (fun x => !(x.release == i.release && x.pipe == i.pipe && decide (x.stage < i.stage)) && !decide (x.boundary < i.boundary)))

/-- Depth of a class: items ready and not dispatched (R563). -/
def WSched.depth (s : WSched) (c : Nat) : Nat := if c = 0 then s.readyCrit.length else (s.wait.filter (fun x => x.cls == c)).length

/-- The largest depths are noted (R558, R563). -/
def Dev.noteDepth (d : Dev) (w c : Nat) : Dev :=
  let n := (d.ws w).depth c
  (d.wrMax (wingAddr w (Reg.SCH_CLASS_MAX_DEPTH c)) n).modWs w (fun s => { s with depthMax := tset 0 s.depthMax c (max n (tget 0 s.depthMax c)) })

/-- An item enters its ready list, and the depths are noted (R563, R592). -/
def Dev.listEnter (d : Dev) (w : Nat) (i : Item) : Dev :=
  let d := (d.modWs w (fun s => { s with wait := s.wait ++ [i] })).noteDepth w i.cls
  d.wrMax (wingAddr w (Reg.QUE_Q_MAX_DEPTH (128 + i.list))) ((d.ws w).wait.filter (fun x => x.list == i.list)).length

/-- The ready critical item with the lowest key (R536). -/
def WSched.nextCrit (s : WSched) : Option Item :=
  s.readyCrit.foldl (fun (m : Option Item) i => match m with | none => some i | some j => if i.before j then some i else some j) none

/-- Idle cores from a number on, lowest first. -/
def WSched.idle (s : WSched) (from' : Nat) : List Nat :=
  (List.range 16).filter (fun k => decide (from' ≤ k) && !(s.cores.any (fun c => c.1 == k)))

/-- Ticks of a wingbeat. -/
def Dev.wbTicks (d : Dev) : Nat := if d.rate = 0 then 0 else ticksSec 1 / d.rate

/-- Histogram bin of a wait (R558). -/
def Dev.waitBin (d : Dev) (t : Nat) : Nat :=
  if t < ticksUs 10 then 0 else if t < ticksUs 100 then 1 else if t < ticksMs 1 then 2
  else if t < d.wbTicks then 3 else if t < 2 * d.wbTicks then 4 else if t < 4 * d.wbTicks then 5 else if t < 16 * d.wbTicks then 6 else 7

/-- The clock noted for an item that waits. -/
def WSched.sinceOf (s : WSched) (id : Nat) : Option Nat := (s.since.find? (fun x => x.1 == id)).map (·.2)

/-- An item starts on a core; its wait counts from when it was ready (R558). -/
def Dev.startItem (d : Dev) (w core : Nat) (i : Item) : Dev :=
  let b := d.waitBin (d.tim.clk - if i.cls = 0 then ((d.ws w).sinceOf i.id).getD i.release else i.release)
  let mhz := if i.cls = 0 then 1600 else d.clockOf w i.cls i.ecl
  let d := d.inc (wingAddr w (Reg.SCH_WAIT_HIST i.cls b)) 1
  d.modWs w (fun s => { s with
    cores := tput s.cores core ⟨i, mhz, d.tim.clk⟩
    aff := if i.aff = 0 then s.aff else tset 0 s.aff i.aff (core + 1)
    impatient := s.impatient.filter (· != i.id)
    hist := if i.cls = 1 then tset 0 s.hist b (tget 0 s.hist b + 1) else s.hist })

/-- Ready critical items are dispatched while a core is idle. -/
def Dev.dispatchCrit (d : Dev) (w : Nat) : Nat → Dev
  | 0 => d
  | f + 1 =>
    match (d.ws w).nextCrit, (d.ws w).idle 0 with
    | some i, k :: _ => ((d.modWs w (fun s => { s with crit := s.crit.filter (fun x => x.id != i.id) })).startItem w k i).dispatchCrit w f
    | _, _ => d

/-- Cycles of FRAME (R563). -/
def Dev.frameCycles (d : Dev) : Nat := d.fld Reg.SCH_FRAME 15 0 * 1024

/-- Is a list eligible on a wing (R542)? -/
def Dev.eligible (d : Dev) (w i : Nat) : Bool :=
  (d.ws w).wait.any (fun x => x.list == i) && d.listClass i != 0 && (d.listClass i != 2 || d.deferRuns w)

/-- Cycles that list i adds at its turn: w_i × FRAME, rounded down (R542, R543). (DEDUCED: notes/assumptions/73) -/
def Dev.quantum (d : Dev) (w i : Nat) : Nat :=
  let el := (List.range 64).filter (fun j => d.eligible w j)
  let cls := d.listClass i
  let cw (c : Nat) := if c = 1 then d.fld Reg.SCH_CTL 15 8 else d.fld Reg.SCH_CTL 23 16
  let sumC := sumN ([1, 2].map (fun c => if el.any (fun j => d.listClass j == c) then cw c else 0))
  let sumL := sumN ((el.filter (fun j => d.listClass j == cls)).map (fun j => d.fld (Reg.SCH_RL_CFG j) 15 8))
  if sumC * sumL = 0 then 0 else d.frameCycles * cw cls * d.fld (Reg.SCH_RL_CFG i) 15 8 / (sumC * sumL)

/-- Cores that may take regular and deferrable items now: the idle ones, but for those kept while critical work is open (R537). -/
def Dev.freeCores (d : Dev) (w : Nat) : List Nat := (d.ws w).idle (if (d.ws w).openCrit = [] then 0 else d.fld Reg.SCH_CTL 4 0)

/-- The core that an item must take: the one that last ran its affinity key, while its patience lasts (R544). -/
def WSched.ownCore (s : WSched) (i : Item) : Option Nat :=
  let last := tget 0 s.aff i.aff
  if i.aff = 0 || last = 0 || s.impatient.contains i.id then none else some (last - 1)

/-- An item waits for a core that is not free. -/
def WSched.awaits (s : WSched) (idle : List Nat) (i : Item) : Bool := (s.ownCore i).any (fun k => !idle.contains k)

/-- The item of a list that may start now and its core: the first item that does not wait for the core of its affinity key (R544). -/
def WSched.pick (s : WSched) (list : Nat) (idle : List Nat) : Option (Item × Nat) :=
  (s.wait.filter (fun x => x.list == list)).findSome? (fun i =>
    if s.awaits idle i then none else ((s.ownCore i).or idle.head?).map (fun k => (i, k)))

/-- Critical items that are ready, and items at the head of a list that wait for a core, have the clock from which they do noted. (DESIGN CHOICE: notes/assumptions/196) -/
def Dev.noteSince (d : Dev) (w : Nat) : Dev :=
  d.modWs w (fun s =>
    let heads := (List.range 64).flatMap (fun l => (s.wait.filter (fun x => x.list == l)).takeWhile (s.awaits (d.freeCores w)))
    { s with since := (s.readyCrit ++ heads).map (fun i => (i.id, (s.sinceOf i.id).getD d.tim.clk)) })

/-- A list that is not eligible has its deficit within ±FRAME (R543). -/
def Dev.boundDeficits (d : Dev) (w : Nat) : Dev :=
  let fr : Int := d.frameCycles
  let far := (d.ws w).deficit.filter (fun p => !d.eligible w p.1)
  d.modWs w (fun s => { s with deficit := far.foldl (fun t p => tset 0 t p.1 (clampI (- fr) fr p.2)) s.deficit })

/-- The rounds of R543 with a bound on the turns taken at one decision. (DEDUCED: notes/assumptions/73) -/
def Dev.rounds (d : Dev) (w : Nat) : Nat → Dev
  | 0 => d
  | f + 1 =>
    let s := d.ws w
    let idle := d.freeCores w
    if idle = [] || !(List.range 64).any (fun i => d.eligible w i && (s.pick i idle).isSome) then d
    else
      let i := s.turn
      let next (d : Dev) : Dev := d.modWs w (fun s => { s with turn := (i + 1) % 64, began := false })
      if !d.eligible w i then (next d).rounds w f
      else
        let def0 := tget 0 s.deficit i
        let dfc : Int := if s.began then def0 else def0 + d.quantum w i
        match s.pick i idle with
        | some (x, k) =>
          if 0 < dfc then
            let d := d.modWs w (fun s => { s with began := true, wait := s.wait.filter (fun y => y.id != x.id) })
            let d := d.modWs w (fun s => { s with deficit := tset 0 s.deficit i (dfc - x.wc) })
            (d.startItem w k x).rounds w f
          else (next (d.modWs w (fun s => { s with deficit := tset 0 s.deficit i dfc }))).rounds w f
        | none => (next (d.modWs w (fun s => { s with deficit := tset 0 s.deficit i dfc }))).rounds w f

/-- A dispatch decision of a wing. -/
def Dev.dispatch (d : Dev) (w : Nat) : Dev :=
  if d.runsWork w then (((((d.noteDepth w 0).noteSince w).dispatchCrit w 16).rounds w 100000).noteSince w).boundDeficits w else d

/-- A dispatch decision of both wings. -/
def Dev.dispatchAll (d : Dev) : Dev := (d.dispatch 0).dispatch 1

/-! Making items. -/

/-- An item enters its ready list on a wing, or the producer has no credit (R533). -/
def Dev.listPut (d : Dev) (w : Nat) (i : Item) : Bool × Dev :=
  if (((d.ws w).wait.filter (fun x => x.list == i.list)).length) < d.listCap i.list then
    (true, d.listEnter w i)
  else (false, (d.inc (wingAddr w (Reg.SCH_RL_NOCREDIT_CNT i.list)) 1).raise (wingAddr w Reg.SCH_INT_STATUS) 4)

/-- A regular or deferrable item that the device makes, under the KERNEL_ROUTE of its kernel, with its worst-case cycles and its deadline or one of its own (R414, R533, R560): is it
created on the active wing? -/
def Dev.mkItemBy (d : Dev) (kernel wc : Nat) (aff : Nat) (deadline : Option Nat) (work : Work) : Bool × Dev :=
  match d.recOf 0x0C02 kernel with
  | none => (false, d)
  | some b =>
    let list := byteAt b 2
    let cls := d.listClass list
    let i : Item := ⟨d.sch.nextId, kernel, cls, byteAt b 3 % 4, false, deadline.getD (byteAt b 4), aff, 0, 0, list, wc, none, d.tim.clk, d.wbSeq, 0, 0, 0, 0, work⟩
    let d := { d with sch := { d.sch with nextId := d.sch.nextId + 1 } }
    let (ok0, d) := if d.runsWork 0 then d.listPut 0 i else (true, d)
    let (ok1, d) := if d.runsWork 1 then d.listPut 1 i else (true, d)
    (if d.active = 0 then ok0 else ok1, d)

/-- An item with the deadline of its kernel's route. -/
def Dev.mkItem (d : Dev) (kernel units : Nat) (aff : Nat) (work : Work) : Bool × Dev := d.mkItemBy kernel (d.worst kernel units) aff none work

/-- Units and work of item j of a kernel that a PIPE_STAGE record releases for a slot (R527), at its close or, with none, at a flutter boundary. -/
def Dev.critWork (d : Dev) (kernel n stageNo j : Nat) (slot : Option Nat) : Work × Nat :=
  if kernel = 0x10 then (.slotScan n j, d.worst kernel 4096)
  else if kernel = 0x11 then (.isl n (stageNo != 0) j, if stageNo = 0 && !d.patched kernel then 2500 + 2600 * 128 else d.worst kernel 128)
  else if kernel = 0x12 then (.osc n j, d.worst kernel 0)
  else if kernel = 0x13 then (.digest n, d.worst kernel 0)
  else if kernel = 0x14 then (.fltchk slot, d.worst kernel ((List.range 192).filter (fun c => d.flag (Reg.CNV_CH_CFG c) 0)).length)
  else (.patched slot, d.worst kernel 0)

/-- The stage of K_ISLDEC that a PIPE_STAGE record runs: A in the first stage of its pipeline that names the kernel, B in a later one. -/
def Dev.islStage (d : Dev) (pipe stage : Nat) : Nat :=
  if (d.recs 0x0C03).any (fun r => byteAt r.body 0 == pipe && beAt r.body 4 2 == 0x11 && decide (byteAt r.body 1 < stage)) then 1 else 0

/-- The number of the wingbeat that contains a sample tick's timestamp in units: the open one, the next once its boundary has come, or the one before (R51). -/
def Dev.wbOf (d : Dev) (stamp : Nat) : Nat :=
  let nx := d.nextGrid
  if boundaryAt d.rate nx.1 nx.2 ≤ stamp then nx.1 * d.rate + nx.2
  else if stamp < boundaryAt d.rate d.grid.sec d.grid.k then d.wbSeq - 1
  else d.wbSeq

/-- The critical items of the PIPE_STAGE records with a trigger are released on every wing that runs (R534). -/
def Dev.releaseCrit (d : Dev) (trigger n : Nat) : Dev :=
  let wb := if trigger = 1 then d.wbOf (d.loc.stamps.head?.getD d.tim.out) else d.wbSeq
  (d.recs 0x0C03).foldl (fun (d : Dev) r =>
    let b := r.body
    if byteAt b 3 = trigger then
      foldUp (beAt b 6 2) (fun j d =>
        let (wk, wc) := d.critWork (beAt b 4 2) n (d.islStage (byteAt b 0) (byteAt b 1)) j (if trigger = 0 then some n else none)
        let i : Item := ⟨d.sch.nextId, beAt b 4 2, 0, 0, false, 0, 0, 0, 0, 0, wc, none, d.tim.clk, wb, byteAt b 0, byteAt b 1, byteAt b 2, j, wk⟩
        let d := { d with sch := { d.sch with nextId := d.sch.nextId + 1 } }
        foldUp 2 (fun w d => if d.runsWork w then (d.modWs w (fun s => { s with crit := s.crit ++ [i] })) else d) d) d
    else d) d

/-- AFFINITY_PATIENCE_END: an item that has waited SCH_PATIENCE µs for its core may take another (R544). (DESIGN CHOICE: notes/assumptions/196) -/
def Dev.patienceEnd (d : Dev) (w id : Nat) : Dev :=
  match (d.ws w).wait.find? (fun i => i.id == id), (d.ws w).sinceOf id with
  | some _, some c =>
    if ticksUs (d.fld Reg.SCH_PATIENCE 15 0) ≤ d.tim.clk - c then
      (d.modWs w (fun s => { s with impatient := if s.impatient.contains id then s.impatient else s.impatient ++ [id] })).dispatch w
    else d
  | _, _ => d

end Sys2Proof.Machine
end

