-- ==== Sys2Proof/Machine/HostRing.lean ====
section
/-! DEFINITION. Sys2Proof/Machine/HostRing.lean: the host rings (R531, R532, R832 to R838). -/

namespace Sys2Proof.Machine

/-- A host ring at the start of a power epoch. -/
def HostRing.start : HostRing := ⟨0, [], true, []⟩

/-- Host ring r. -/
def Dev.ring (d : Dev) (r : Nat) : HostRing := tget HostRing.start d.host.rings r

/-- A host ring changed. -/
def Dev.modRing (d : Dev) (r : Nat) (f : HostRing → HostRing) : Dev :=
  { d with host := { d.host with rings := tset HostRing.start d.host.rings r (f (d.ring r)) } }

/-- Sizes and positions of a ring. -/
def Dev.sqSize (d : Dev) (r : Nat) : Nat := d.fld (Reg.GLB_HR_SQ_SIZE r) 12 0
def Dev.cqSize (d : Dev) (r : Nat) : Nat := d.fld (Reg.GLB_HR_CQ_SIZE r) 12 0

/-- A SIZE that a ring may have (R832). -/
def hrSizeOk (n : Nat) : Bool := [16, 32, 64, 128, 256, 512, 1024, 2048, 4096].contains n

/-- A SIZE that stops the ring (R832). -/
def Dev.hrBad (d : Dev) (r : Nat) : Bool := [d.sqSize r, d.cqSize r].any (fun n => n != 0 && !hrSizeOk n)

/-- The ring takes descriptors. -/
def Dev.hrRuns (d : Dev) (r : Nat) : Bool := d.flag (Reg.GLB_HR_CTL r) 0 && hrSizeOk (d.sqSize r) && hrSizeOk (d.cqSize r)

/-- Fields of a descriptor (R529). -/
def descKernel (b : Bytes) : Nat := leAt b 0 2
def descClass (b : Bytes) : Nat := byteAt b 2 % 4
def descArgLen (b : Bytes) : Nat := leAt b 16 4
def descList (b : Bytes) : Nat := leAt b 28 2

/-- STATUS with which a host descriptor is refused, 0 when it is not (R531). (DEDUCED: notes/assumptions/128) -/
def Dev.descRefused (d : Dev) (b : Bytes) : Nat :=
  let cls := descClass b
  if cls = 0 || cls = 3 then 2
  else match d.kernel (descKernel b) with
    | none => 1
    | some k =>
      if !k.classes.testBit 3 then 1
      else if !k.classes.testBit cls then 2
      else if byteAt b 2 / 32 != 0 || leAt b 6 2 / 512 != 0 || leAt b 24 4 != 0 || descList b / 64 != 0 || leAt b 30 2 != 0 || 65536 < descArgLen b
          || (cls = 1 && byteAt b 3 = 0) || d.listClass (descList b) != cls then 3
      else 0

/-- Bytes that an entry of the outstanding limit counts (R833). -/
def HostTaken.bytes (x : HostTaken) : Nat := 32 + x.arg.length

/-- Outstanding host bytes: acknowledged descriptors whose entry has not passed the gate. -/
def Dev.outstanding (d : Dev) : Nat :=
  sumN ((List.range 8).map (fun r => sumN (((d.ring r).taken.filter (·.acked)).map HostTaken.bytes)))

/-- Bytes taken and not yet acknowledged. -/
def Dev.unackedBytes (d : Dev) : Nat :=
  sumN ((List.range 8).map (fun r => sumN (((d.ring r).taken.filter (fun x => !x.acked)).map HostTaken.bytes)))

/-- Items that a ready list of the active wing will hold when everything taken has entered it. -/
def Dev.listLoad (d : Dev) (i : Nat) : Nat :=
  ((d.ws d.active).wait.filter (fun x => x.list == i)).length
    + sumN ((List.range 8).map (fun r => ((d.ring r).taken.filter (fun x => !x.acked && d.descRefused x.desc == 0 && descList x.desc == i)).length))

/-- The descriptor that comes next, and its argument. -/
def Dev.hrNext (d : Dev) (r : Nat) : Option (Bytes × Bytes) :=
  match (d.ring r).restored with
  | x :: _ => some x
  | [] =>
    let tail := d.fld (Reg.GLB_HR_SQ_TAIL r) 11 0
    if d.dma && d.hrRuns r && d.fld (Reg.GLB_HR_SQ_HEAD r) 11 0 != tail then
      let b := d.dmaRead (d.rd64 (Reg.GLB_HR_SQ_BASE_LO r) (Reg.GLB_HR_SQ_BASE_HI r) + 32 * tail) 32
      some (b, d.dmaRead (leAt b 8 8) (min 65536 (descArgLen b)))
    else none

/-- WAIT_CREDIT, WAIT_LIMIT and room in the completion ring, for the descriptor that comes next (R833). (DEDUCED: notes/assumptions/130) -/
def Dev.waitCredit (d : Dev) (r : Nat) : Bool :=
  match d.hrNext r with
  | some (b, _) => d.descRefused b == 0 && decide (d.listCap (descList b) ≤ d.listLoad (descList b))
  | none => false
def Dev.waitLimit (d : Dev) (r : Nat) : Bool :=
  match d.hrNext r with
  | some (_, a) => decide (786432 < d.outstanding + d.unackedBytes + 32 + a.length)
  | none => false
def Dev.cqRoom (d : Dev) (r : Nat) : Bool :=
  decide ((d.ring r).taken.length < ringRoom (d.cqSize r) (d.fld (Reg.GLB_HR_CQ_HEAD r) 11 0) (d.fld (Reg.GLB_HR_CQ_TAIL r) 11 0))

/-- The work of a host item. -/
def hostWork (b arg : Bytes) : Work :=
  if descKernel b = 0x30 then (if arg.length = 16 && leAt arg 12 4 = 0 then .archiveHost (leAt arg 0 8) (leAt arg 8 4) else .badArg) else .patched none

/-- An accepted host item enters its ready list on the active wing (R837). -/
def Dev.hostItem (d : Dev) (r : Nat) (x : HostTaken) : Dev :=
  let b := x.desc
  let wk := hostWork b x.arg
  let units := match wk with | .archiveHost _ c => 65792 * c | _ => 0
  let i : Item := ⟨d.sch.nextId, descKernel b, descClass b, byteAt b 2 / 4 % 4, (byteAt b 2).testBit 4, byteAt b 3, leAt b 4 2, leAt b 6 2 % 512, leAt b 20 4,
    descList b, d.worst (descKernel b) units, some (r, x.idx), d.tim.clk, d.wbSeq, 0, 0, 0, 0, wk⟩
  let d := { d with sch := { d.sch with nextId := d.sch.nextId + 1 } }
  (d.listEnter d.active i).dispatch d.active

/-- The 16-byte completion entry of R530. -/
def Dev.compEntry (d : Dev) (cookie kernel status late cycles : Nat) : Bytes :=
  le 4 cookie ++ le 2 kernel ++ le 1 status ++ le 1 late ++ le 4 (min cycles 0xFFFFFFFF) ++ le 4 d.nsIn

/-- A descriptor has its completion entry (R835). (DEDUCED: notes/assumptions/128) -/
def Dev.hostDone (d : Dev) (r idx : Nat) (e : Bytes) (noEntry : Bool) : Dev :=
  d.modRing r (fun g => { g with taken := g.taken.map (fun x => if x.idx = idx then { x with entry := some (e, noEntry) } else x) })

/-- A descriptor is acknowledged: it is refused with its entry, or its item is made (R531, R532, R834). (DEDUCED: notes/assumptions/129) -/
def Dev.hostAccept (d : Dev) (r : Nat) (x : HostTaken) : Dev :=
  let st := d.descRefused x.desc
  if st = 0 then d.hostItem r x
  else (d.hostDone r x.idx (d.compEntry (leAt x.desc 20 4) (descKernel x.desc) st 0 0) false).raise (wingAddr d.active Reg.SCH_INT_STATUS) 3

/-- A ring vector's message (R824). -/
def Dev.ringMsg (d : Dev) (r : Nat) : Dev :=
  if d.host.ringSent.testBit r then d else ({ d with host := { d.host with ringSent := d.host.ringSent ||| 2 ^ r } }).msix r

/-- HOST_RING_TAKE (R833). A restored item is acknowledged already. (DEDUCED: notes/assumptions/130) -/
def Dev.hostTake (d : Dev) (r : Nat) : Dev :=
  match d.hrNext r with
  | none => d
  | some (b, a) =>
    if d.waitCredit r || !d.cqRoom r || d.waitLimit r || d.pins.pwrfailLow then d
    else
      let g := d.ring r
      let old := g.restored != []
      let x : HostTaken := ⟨g.next, b, a, old, none⟩
      let d := d.modRing r (fun g => { g with next := g.next + 1, taken := g.taken ++ [x], restored := g.restored.drop 1 })
      if old then d.hostAccept r x else d.wrN (Reg.GLB_HR_SQ_TAIL r) ((d.fld (Reg.GLB_HR_SQ_TAIL r) 11 0 + 1) % d.sqSize r)

/-- HOST_RING_ACK (R834): while PWRFAIL_N is low, and until the boundary of R844, nothing is acknowledged (R842). -/
def Dev.hostAck (d : Dev) (r : Nat) : Dev :=
  match (d.ring r).taken.find? (fun x => !x.acked) with
  | none => d
  | some x =>
    if d.pfHeld then d
    else
      let d := d.modRing r (fun g => { g with taken := g.taken.map (fun y => if y.idx = x.idx then { y with acked := true } else y) })
      let d := d.wrN (Reg.GLB_HR_SQ_ACK r) (if d.sqSize r = 0 then 0 else (d.fld (Reg.GLB_HR_SQ_ACK r) 11 0 + 1) % d.sqSize r)
      let d := d.hostAccept r x
      if d.flag (Reg.GLB_HR_CTL r) 1 then d.ringMsg r else d

/-- HOST_RING_COMPLETION (R835, R836): the entry of the next SQ_INDEX passes the gate and is written, byte 31 last. -/
def Dev.hostEntry (d : Dev) (r : Nat) : Dev :=
  match (d.ring r).taken with
  | [] => d
  | x :: _ =>
    match x.entry with
    | none => d
    | some (e, ne) =>
      let head := d.fld (Reg.GLB_HR_CQ_HEAD r) 11 0
      let n := d.cqSize r
      if x.acked && d.hrRuns r && d.dma && 0 < ringRoom n head (d.fld (Reg.GLB_HR_CQ_TAIL r) 11 0) && d.gateOpen d.active (2168 + r) x.idx then
        let g := d.ring r
        let d := d.gatePass (2168 + r) x.idx
        let d := d.dmaWrite (d.rd64 (Reg.GLB_HR_CQ_BASE_LO r) (Reg.GLB_HR_CQ_BASE_HI r) + 32 * head)
          (e ++ le 8 x.idx ++ zeros 7 ++ le 1 (b2n g.phase + 2 * b2n ne))
        let d := d.modRing r (fun g => { g with taken := g.taken.drop 1, phase := if head + 1 = n then !g.phase else g.phase })
        (d.wrN (Reg.GLB_HR_CQ_HEAD r) ((head + 1) % n)).ringMsg r
      else d

/-- HOST_RING_ENABLE (R838): an enable starts the completion ring at position 0 with PHASE 1. (DEDUCED: notes/assumptions/129) -/
def Dev.hostEnable (d : Dev) (r : Nat) (was : Bool) : Dev :=
  if !was && d.flag (Reg.GLB_HR_CTL r) 0 then (d.wrN (Reg.GLB_HR_CQ_HEAD r) 0).modRing r (fun g => { g with phase := true }) else d

/-- HOST_ITEM_REPLAY (R837): acknowledged items whose entry has not been emitted run again on the new active wing, in ascending order. (DEDUCED: notes/assumptions/129) -/
def Dev.hostReplay (d : Dev) : Dev :=
  let strip (s : WSched) : WSched :=
    { s with wait := s.wait.filter (fun i => i.host.isNone), cores := s.cores.filter (fun c => c.2.item.host.isNone), early := s.early.filter (fun i => i.host.isNone) }
  let d := (d.modWs 0 strip).modWs 1 strip
  foldUp 8 (fun r d =>
    let l := (d.ring r).taken.filter (·.acked)
    let d := d.modRing r (fun g => { g with taken := g.taken.map (fun x => if x.acked then { x with entry := none } else x) })
    l.foldl (fun (d : Dev) x => d.hostAccept r x) d) d

/-- An endpoint reset loses what has been taken and not acknowledged (R746, R838). -/
def HostRing.dropUnacked (g : HostRing) : HostRing := { g with taken := g.taken.filter (·.acked) }

/-- Registers of a ring that show its state (R851, R852). -/
def Dev.hrReg (d : Dev) (a : Nat) : Option Word :=
  if a = Reg.GLB_HOST_OUTSTANDING then some (w32 d.outstanding)
  else if Reg.GLB_HR_CTL 0 ≤ a && a < Reg.GLB_HR_CTL 8 then
    let r := (a - Reg.GLB_HR_CTL 0) / 0x40
    match (a - Reg.GLB_HR_CTL 0) % 0x40 with
    | 0x04 => some (w32 (b2n (d.hrRuns r) + 2 * b2n (d.waitCredit r) + 4 * b2n (d.waitLimit r)
        + 8 * b2n ((d.hrNext r).isSome && d.pins.pwrfailLow) + 16 * b2n (d.hrBad r)))
    | 0x34 => some (w32 (d.ring r).next)
    | 0x38 => some (w32 ((d.ring r).next / 2 ^ 32))
    | _ => none
  else none

end Sys2Proof.Machine
end

