-- ==== Sys2Proof/Machine/Recorder.lean ====
section
/-! DEFINITION. Sys2Proof/Machine/Recorder.lean: the event recorder (chapter 16): sequence, the mirrored DRAM ring, the keep ring,
the read ports and their holds. -/

namespace Sys2Proof.Machine

/-- Bytes of a record with its SEQ (R658). -/
def Stored.bytes (s : Stored) : Bytes :=
  be 2 s.r.body.length ++ be 2 s.r.typ ++ be 8 s.seq ++ be 8 s.r.time ++ be 2 s.r.tq ++ be 1 s.flags ++ zeros 1 ++ s.r.body

/-- Bytes that a record takes in a ring. (DEDUCED: notes/assumptions/89) -/
def Stored.size (s : Stored) : Nat := s.r.size

/-- Bytes of a ring in use. -/
def RecRing.fill (g : RecRing) : Nat := sumN (g.held.map Stored.size)

/-- Size of the DRAM ring and of one copy of the keep ring (R34, R35). (DEDUCED: notes/assumptions/89) -/
def dramBytes : Nat := dramRegion 2
def keepBytes : Nat := 4 * 1048576

/-- A SEQ added to ranges of overwritten SEQ, in rising order. -/
def addLost : List (Nat × Nat) → Nat → List (Nat × Nat)
  | [], n => [(n, n)]
  | (a, b) :: r, n => if n = b + 1 then (a, n) :: r else if n < a then (n, n) :: (a, b) :: r else (a, b) :: addLost r n

/-! Sequence and intake. -/

/-- SEQ_FLOOR is advanced by 2^24 before SEQ reaches it (R663). (DEDUCED: notes/assumptions/132) -/
def Dev.seqFloor (d : Dev) (n : Nat) : Dev :=
  if d.nv.seqFloor ≤ n then { d with nv := { d.nv with seqFloor := d.nv.seqFloor + 2 ^ 24 } } else d

/-- A record is given the next SEQ, its FLAGS, and goes to both rings (R662, R665, R670, R671). -/
def Dev.sequence (d : Dev) (r : RecIn) : Dev :=
  let n := d.evr.nextSeq
  let d := d.seqFloor (n + 1)
  let keep := d.keepOf r.typ
  let draws := keep && !keepFixed.contains r.typ
  let budget := min d.evr.budget (d.fld Reg.REC_CTL 15 8)
  let skip := draws && budget == 0
  let fl := b2n keep + 2 * b2n skip + (match r.wing with | some w => 4 + 8 * (w % 2) | none => 0)
  let d := if skip then (d.inc Reg.REC_NV_SKIP_CNT 1).raise Reg.REC_INT_STATUS 3 else d
  { d with evr := { d.evr with
      nextSeq := n + 1
      budget := if draws then budget - 1 else budget
      mirroring := d.evr.mirroring ++ [⟨n, fl, r⟩] } }

/-- REC_INTAKE_TAKE: the active wing takes the head of the intake; a gap marker becomes a LOST record (R661, R662). -/
def Dev.intakeTake (d : Dev) : Dev :=
  if d.evr.ready then
    match d.evr.intake with
    | [] => d
    | .record r :: q => ({ d with evr := { d.evr with intake := q } }).sequence r
    | .gap c kc f l :: q =>
      (({ d with evr := { d.evr with intake := q } }).sequence
        ⟨0x0002, be 4 (min c 0xFFFFFFFF) ++ be 4 (min kc 0xFFFFFFFF) ++ be 8 f, l, d.tq, none⟩).raise Reg.REC_INT_STATUS 0
  else d

/-! Holds (R676, R677). -/

/-- Cursor of a read port. -/
def Dev.cur (d : Dev) (i : Nat) : Nat := if i = 0 then d.evr.cur0 else d.evr.cur1

/-- A cursor set. -/
def Dev.setCur (d : Dev) (i n : Nat) : Dev :=
  if i = 0 then { d with evr := { d.evr with cur0 := n } } else { d with evr := { d.evr with cur1 := n } }

/-- A port holds: HOLD 1 and SRC 0. -/
def Dev.holds (d : Dev) (i : Nat) : Bool := d.flag (Reg.REC_RP_CTL i) 1 && !d.flag (Reg.REC_RP_CTL i) 0

/-- SEQ of the leading records of a list whose bytes in all do not exceed a bound. -/
def takeBytes : List Stored → Nat → List Nat
  | [], _ => []
  | s :: r, n => if s.size ≤ n then s.seq :: takeBytes r (n - s.size) else []

/-- SEQ pinned by a port: from its cursor onward, within its quota (R676). -/
def Dev.pinned (d : Dev) (i : Nat) : List Nat :=
  if d.holds i then takeBytes (d.evr.dram.held.filter (fun s => decide (d.cur i ≤ s.seq))) (d.fld (Reg.REC_RP_QUOTA i) 6 0 * 1048576) else []

/-- Is a SEQ pinned by either port? -/
def Dev.isPinned (d : Dev) (n : Nat) : Bool := (d.pinned 0).contains n || (d.pinned 1).contains n

/-- Bytes pinned by a port (REC_RP_PINNED). -/
def Dev.pinnedBytes (d : Dev) (i : Nat) : Nat :=
  sumN ((d.evr.dram.held.filter (fun s => (d.pinned i).contains s.seq)).map Stored.size)

/-- The writer steps over pinned records, oldest first: HOLD_FULL once per hold of a port that pins one of them (R677). -/
def Dev.holdFull (d : Dev) : Dev :=
  let stepped := (d.evr.dram.held.takeWhile (fun s => d.isPinned s.seq)).map Stored.seq
  let f0 := stepped.any (d.pinned 0).contains && !d.evr.holdFull0
  let f1 := stepped.any (d.pinned 1).contains && !d.evr.holdFull1
  let d := if f0 || f1 then d.raise Reg.REC_INT_STATUS 2 else d
  { d with evr := { d.evr with holdFull0 := d.evr.holdFull0 || f0, holdFull1 := d.evr.holdFull1 || f1 } }

/-- The oldest records that are not pinned make room for `need` bytes in the DRAM ring (R669). (DEDUCED: notes/assumptions/89) -/
def evict (d : Dev) : Nat → Nat → Dev
  | 0, _ => d
  | fuel + 1, need =>
    if d.evr.dram.fill + need ≤ dramBytes then d
    else
      let d := d.holdFull
      match d.evr.dram.held.find? (fun s => !d.isPinned s.seq) with
      | none => d
      | some v =>
        evict { d with evr := { d.evr with dram := ⟨d.evr.dram.held.filter (fun s => s.seq != v.seq), addLost d.evr.dram.lost v.seq⟩ } } fuel need

/-- REC_NEWEST, REC_OLDEST and REC_FILL. -/
def Dev.recRegs (d : Dev) : Dev :=
  let d := match d.evr.dram.held with
    | s :: _ => d.wr64 Reg.REC_OLDEST_LO Reg.REC_OLDEST_HI s.seq
    | [] => d
  let d := match d.evr.dram.held.getLast? with
    | some s => d.wr64 Reg.REC_NEWEST_LO Reg.REC_NEWEST_HI s.seq
    | none => d
  d.wrSat Reg.REC_FILL d.evr.dram.fill

/-- REC_READABLE: both copies of the oldest sequenced record are written; it passes the gate and becomes readable (R665, R670). -/
def Dev.readable (d : Dev) : Dev :=
  match d.evr.mirroring with
  | [] => d
  | s :: q =>
    if d.gateOpen d.active 2163 s.seq then
      let d := d.gatePass 2163 s.seq
      let d := evict d (d.evr.dram.held.length + 1) s.size
      let held := match d.evr.standbyHeld.findIdx? (fun x => x.2.typ == s.r.typ && x.2.time == s.r.time && x.2.body == s.r.body) with
        | some j => d.evr.standbyHeld.eraseIdx j
        | none => d.evr.standbyHeld
      let keepIt := s.flags % 4 == 1
      ({ d with evr := { d.evr with
          mirroring := q
          mirrorNext := s.seq + 1
          standbyHeld := held
          dram := ⟨d.evr.dram.held ++ [s], d.evr.dram.lost⟩
          keepPending := if keepIt then d.evr.keepPending ++ [s] else d.evr.keepPending } }).recRegs
    else d

/-- REC_MIRROR_TIMEOUT: standby records without a mirror for 10 ms are discarded without count (R667). -/
def Dev.mirrorTimeout (d : Dev) : Dev :=
  { d with evr := { d.evr with standbyHeld := d.evr.standbyHeld.filter (fun x => decide (d.tim.clk < x.1 + ticksMs 10)) } }

/-! The keep ring (R670 to R672). -/

/-- The oldest records of the keep ring make room. -/
def evictKeep : List Stored → List (Nat × Nat) → Nat → List Stored × List (Nat × Nat)
  | [], lost, _ => ([], lost)
  | s :: r, lost, need =>
    if sumN ((s :: r).map Stored.size) + need ≤ keepBytes then (s :: r, lost) else evictKeep r (addLost lost s.seq) need

/-- A record appended to a copy of the keep ring, its oldest records making room. -/
def RecRing.put (g : RecRing) (s : Stored) : RecRing :=
  let x := evictKeep g.held g.lost s.size
  ⟨x.1 ++ [s], x.2⟩

/-- A record put in its place by SEQ, once. -/
def insertSeq (s : Stored) : List Stored → List Stored
  | [] => [s]
  | x :: r => if s.seq < x.seq then s :: x :: r else if s.seq = x.seq then x :: r else x :: insertSeq s r

/-- What both copies of the keep ring hold together, either alone being sufficient (R35): the records of either, and as lost what both have overwritten or
one has and the other never held. -/
def NvDie.keepAll (n : NvDie) : RecRing :=
  if n.keep = n.keepB then n.keep
  else
    let h := n.keepB.held.foldl (fun l s => insertSeq s l) n.keep.held
    ⟨h, ((n.keep.lost ++ n.keepB.lost).filter (fun p => h.all (fun s => s.seq < p.1 || p.2 < s.seq))).foldl (fun l p =>
      if l.contains p then l else l ++ [p]) []⟩

/-- A record is written to both copies of the keep ring; a copy that fails is counted (R670). (DEDUCED: notes/assumptions/194) -/
def Dev.keepWrite (d : Dev) (okA okB : Bool) : Dev :=
  match d.evr.keepPending with
  | [] => d
  | s :: q =>
    let d := { d with evr := { d.evr with keepPending := q, nvOk := okA && okB } }
    let d := if okA && okB then d else ((d.inc Reg.REC_NV_ERR_CNT (b2n (!okA) + b2n (!okB))).raise Reg.REC_INT_STATUS 4)
    if okA || okB then
      { d with nv := { d.nv with
        keep := if okA then d.nv.keep.put s else d.nv.keep
        keepB := if okB then d.nv.keepB.put s else d.nv.keepB } }
    else d

/-- Every pending keep record written, as at the fall of PWRFAIL_N (R672). -/
def Dev.keepFlush (d : Dev) : Dev := foldUp d.evr.keepPending.length (fun _ d => d.keepWrite true true) d

/-- KEEP_BUDGET_REFILL: one record of budget, up to KEEP_BURST (R671). (DEDUCED: notes/assumptions/90) -/
def Dev.budgetRefill (d : Dev) : Dev :=
  { d with evr := { d.evr with budget := min (d.fld Reg.REC_CTL 15 8) (d.evr.budget + 1) } }

/-! Reading (R674, R675). -/

/-- What a capture finds: a record, nothing yet, or records lost, with the new cursor. -/
inductive Captured where
  | ok (s : Stored)
  | notYet
  | stale (cur : Nat)
  deriving DecidableEq, Repr

/-- The record that a cursor selects in a ring (R675). -/
def capture (g : RecRing) (cur : Nat) : Captured :=
  let next := g.held.find? (fun s => decide (cur ≤ s.seq))
  let lim := next.map (·.seq)
  let lostAt := g.lost.filter (fun p => decide (cur ≤ p.2) && (match lim with | some n => decide (max cur p.1 < n) | none => true))
  match lostAt.getLast? with
  | none => (match next with | some s => .ok s | none => .notYet)
  | some p =>
    match g.held.find? (fun s => decide (p.2 < s.seq)) with
    | some s => .stale s.seq
    | none => .stale (max (maxN (g.held.map (·.seq))) (maxN (g.lost.map (·.2))) + 1)

/-- The ring a port reads (R674). -/
def Dev.portRing (d : Dev) (i : Nat) : RecRing := if d.flag (Reg.REC_RP_CTL i) 0 then d.nv.keepAll else d.evr.dram

/-- Word j of a byte string, byte 4j in [31:24]. -/
def wordOf (b : Bytes) (j : Nat) : Word := w32 (beAt b (4 * j) 4 * (if b.length < 4 * j + 4 then 256 ^ (4 * j + 4 - max b.length (4 * j)) else 1))

/-- A value held for the reads of an interface (R865, R866). (DEDUCED: notes/assumptions/10) -/
def Dev.latch (d : Dev) (i : Iface) (a : Nat) (v : Word) : Dev :=
  { d with host := { d.host with latch := tset 0 d.host.latch (2 * a + (if i = .spi then 1 else 0)) v } }

/-- The value held for an interface. -/
def Dev.latched (d : Dev) (i : Iface) (a : Nat) : Word := tget 0 d.host.latch (2 * a + (if i = .spi then 1 else 0))

/-- A view of `n` words captured for an interface at an address. -/
def Dev.view (d : Dev) (i : Iface) (a n : Nat) (f : Nat → Word) : Dev := foldUp n (fun j d => d.latch i (a + 4 * j) (f j)) d

/-- A capture of a read port: the status word and, with `consume`, the cursor's advance (R675). -/
def Dev.rpCapture (d : Dev) (i : Iface) (p : Nat) (consume : Bool) : Word × Dev :=
  match capture (d.portRing p) (d.cur p) with
  | .ok s =>
    let b := s.bytes
    let st := b2n (s.flags % 2 == 1) * 4 + b2n (d.isPinned s.seq && !d.flag (Reg.REC_RP_CTL p) 0) * 8 + b.length / 4 * 2 ^ 16
    let d := d.view i (Reg.REC_RP_DATA p 0) 262 (wordOf b)
    (w32 st, if consume then d.setCur p (s.seq + 1) else d)
  | .notYet => (1, d)
  | .stale n =>
    let old := d.cur p
    let d := d.view i (Reg.REC_RP_DATA p 0) 262 (fun _ => 0)
    (2, ((d.setCur p n).wrSat (Reg.REC_RP_SKIP p) (n - old)).raise Reg.REC_INT_STATUS 1)

/-- A write of REC_RP_CUR_HI applies both halves of the cursor (R680). (DEDUCED: notes/assumptions/91) -/
def Dev.cursorWrite (d : Dev) (p : Nat) (hi : Word) : Dev := d.setCur p ((d.rd (Reg.REC_RP_CUR_LO p)).toNat + 2 ^ 32 * hi.toNat)

/-- A quota that is refused (R679): outside 1 to 64, or the two quotas would exceed 128 MiB. (DEDUCED: notes/assumptions/89) -/
def Dev.quotaBad (d : Dev) (p : Nat) (v : Word) : Bool :=
  let q := v.toNat % 128
  q < 1 || 64 < q || 128 < q + d.fld (Reg.REC_RP_QUOTA (1 - p)) 6 0

/-- A quota write (R679). -/
def Dev.quotaWrite (d : Dev) (p : Nat) (v : Word) : Dev :=
  if d.quotaBad p v then d.raise Reg.REC_INT_STATUS 5 else d.wrN (Reg.REC_RP_QUOTA p) (v.toNat % 128)

/-- A write of REC_RP_CTL: a hold that is set anew may raise HOLD_FULL again (R677). -/
def Dev.rpCtlWrite (d : Dev) (p : Nat) (v : Word) : Dev :=
  let was := d.holds p
  let d := d.wr (Reg.REC_RP_CTL p) (v &&& 3)
  if d.holds p && !was then
    (if p = 0 then { d with evr := { d.evr with holdFull0 := false } } else { d with evr := { d.evr with holdFull1 := false } })
  else d

/-- A write of REC_KEEP_CFG: KEEP of the selected type; a 0 to a Fixed type is ignored (R670, R680). -/
def Dev.keepCfgWrite (d : Dev) (v : Word) : Dev :=
  let ty := d.fld Reg.REC_KEEP_SEL 15 0
  if keepFixed.contains ty then d
  else { d with evr := { d.evr with keepSet := tset (b2n (keepYes.contains ty)) d.evr.keepSet ty (v.toNat % 2) } }

/-- Registers of the REC block that show its state (R680). -/
def Dev.recReg (d : Dev) (a : Nat) : Option Word :=
  if a = Reg.REC_STATUS then some (w32 (b2n d.evr.ready + 2 * b2n d.evr.nvOk + 4 * b2n (d.evr.keepPending != [])))
  else if a = Reg.REC_SEQ_FLOOR_LO then some (w32 d.nv.seqFloor)
  else if a = Reg.REC_SEQ_FLOOR_HI then some (w32 (d.nv.seqFloor / 2 ^ 32))
  else if a = Reg.REC_NV_OLDEST_LO then some (w32 ((d.nv.keepAll.held.head?.map (·.seq)).getD 0))
  else if a = Reg.REC_NV_OLDEST_HI then some (w32 ((d.nv.keepAll.held.head?.map (·.seq)).getD 0 / 2 ^ 32))
  else if a = Reg.REC_NV_NEWEST_LO then some (w32 ((d.nv.keepAll.held.getLast?.map (·.seq)).getD 0))
  else if a = Reg.REC_NV_NEWEST_HI then some (w32 ((d.nv.keepAll.held.getLast?.map (·.seq)).getD 0 / 2 ^ 32))
  else if a = Reg.REC_NV_FILL then some (w32 d.nv.keepAll.fill)
  else if a = Reg.REC_KEEP_CFG then
    some (w32 (b2n (d.keepOf (d.fld Reg.REC_KEEP_SEL 15 0)) + 2 * b2n (keepFixed.contains (d.fld Reg.REC_KEEP_SEL 15 0))))
  else
    (List.range 2).findSome? (fun i =>
      if a = Reg.REC_RP_CUR_LO i then some (w32 (d.cur i))
      else if a = Reg.REC_RP_CUR_HI i then some (w32 (d.cur i / 2 ^ 32))
      else if a = Reg.REC_RP_PINNED i then some (w32 (d.pinnedBytes i))
      else none)

end Sys2Proof.Machine
end

