-- ==== Sys2Proof/Machine/Conv.lean ====
section
/-! DEFINITION. Sys2Proof/Machine/Conv.lean: local conversion, gross diagnostics, check converters, calibration, low-power mode (chapter 4). -/

namespace Sys2Proof.Machine

/-! Channel positions. -/

/-- A channel position that has delivered nothing; its bitstream has alternated. (DESIGN CHOICE: notes/assumptions/157, 172) -/
def Chan.start : Chan :=
  { bits := (4 ^ 1600 - 1) / 3, raw := 0, same := 0, clamped := 0, inRange := 0, word := 0, passes := 0, x := [], y := [], m := 0, mHist := [], live := 0, fade := none,
    pend := none, swapLast := 0, freeze := none, trig := none, rel := false, s := [], maN := 0, wasOk := false, estP := [], estM := [], res := [],
    ssw := (false, 0, 0), rpt := none, rptCnt := 0, rptAt := none }

/-- A channel position. -/
def Dev.chan (d : Dev) (n : Nat) : Chan := tget Chan.start d.loc.chans n

/-- A channel position changed. -/
def Dev.modChan (d : Dev) (n : Nat) (f : Chan → Chan) : Dev :=
  { d with loc := { d.loc with chans := tput d.loc.chans n (f (d.chan n)) } }

/-- Quadrants and check converters by number. -/
def Quad.start : Quad := ⟨0, false, false, 0, none, false, false, 0, none, false⟩
def Ck.start : Ck := ⟨[], 0, 4, 0, none, none, none, none, false, none, 0⟩
def Dev.quad (d : Dev) (q : Nat) : Quad := d.loc.quads.getD q Quad.start
def Dev.modQuad (d : Dev) (q : Nat) (f : Quad → Quad) : Dev := { d with loc := { d.loc with quads := lmod d.loc.quads q f } }
def Dev.ck (d : Dev) (k : Nat) : Ck := d.loc.cks.getD k Ck.start
def Dev.modCk (d : Dev) (k : Nat) (f : Ck → Ck) : Dev := { d with loc := { d.loc with cks := lmod d.loc.cks k f } }

/-! Channel flags (R143, R188). -/

/-- The bits of CNV_CH[n]_STATUS that make a channel invalid (R143): NOT_CAL, CAL, CHK_FAIL, OVERLOAD, DEAD, STUCK, REF_FAULT, SETTLE, DISABLED, CAL_FAIL. -/
def invalidMask : Word := 0x19FE

/-- A flag of local channel n set or cleared, with INVALID and the map (R143). (DEDUCED: notes/assumptions/44) -/
def Dev.chFlag (d : Dev) (n k : Nat) (b : Bool) : Dev :=
  let d := d.putB (Reg.CNV_CH_STATUS n) k b
  let inv := (d.rd (Reg.CNV_CH_STATUS n) &&& invalidMask) != 0
  (d.putB (Reg.CNV_CH_STATUS n) 0 inv).putB (Reg.CNV_INVALID (n / 32)) (n % 32) inv

/-- A flag of a local channel. -/
def Dev.chHas (d : Dev) (n k : Nat) : Bool := d.flag (Reg.CNV_CH_STATUS n) k

/-- A gross flag that becomes set raises its interrupt and is recorded (R146). -/
def Dev.gross (d : Dev) (n k : Nat) : Dev :=
  if d.chHas n k then d
  else ((d.chFlag n k true).raise Reg.CNV_INT_STATUS (if k = 7 then 5 else 2)).record 0x0401 (be 2 n ++ be 1 k ++ be 1 1 ++ zeros 12)

/-- The channels of a quadrant (R134). -/
def quadChs (q : Nat) : List Nat := (List.range 48).map (fun j => 48 * q + j)

/-- A flag of every channel of a quadrant. -/
def Dev.quadFlag (d : Dev) (q k : Nat) (b : Bool) : Dev := (quadChs q).foldl (fun (d : Dev) n => d.chFlag n k b) d

/-- A flag of a virtual channel, with INVALID (R240, R246). -/
def Dev.vcFlag (d : Dev) (v k : Nat) (b : Bool) : Dev :=
  let was := d.flag (Reg.FLT_VC_STATUS v) 0
  let d := d.putB (Reg.FLT_VC_STATUS v) k b
  let inv := (d.rd (Reg.FLT_VC_STATUS v) &&& 0x1FE) != 0
  let d := d.putB (Reg.FLT_VC_STATUS v) 0 inv
  if inv && !was then d.raise Reg.FLT_INT_STATUS 7 else d

/-- SETTLE begins, or begins again, on a channel position: 96 base-rate samples (R232). (DESIGN CHOICE: notes/assumptions/46) -/
def Dev.settleStart (d : Dev) (n : Nat) : Dev :=
  let d := { d with loc := { d.loc with settle := tset 0 d.loc.settle n 97 } }
  if n < 192 then d.chFlag n 8 true
  else d.vcFlag (n - 192) 7 true

/-- A channel position is invalid (R143, R240). -/
def Dev.invalid (d : Dev) (n : Nat) : Bool :=
  if n < 192 then d.chHas n 0 else d.flag (Reg.FLT_VC_STATUS (n - 192)) 0

/-- A channel position is a local channel in low-power mode. -/
def Dev.chLp (d : Dev) (n : Nat) : Bool := n < 192 && (d.quad (n / 48)).lp

/-! Conversion (R138) and gross diagnostics (R145). -/

/-- The largest code of a sample word (R10, R133). -/
def maxCode : Int := 8388607

/-- A value as a 24-bit sample word (R11). -/
def word24 (v : Int) : Int := clampI (- maxCode) maxCode v

/-- The test mode that runs on a local channel, 0 for none (R880). -/
def Dev.testMode (d : Dev) (n : Nat) : Nat :=
  let l := d.loop 2 (n / 48)
  if n < 192 && l.mask.testBit (n % 48) then l.mode else 0

/-- A test on a channel in service keeps SETTLE set (R882). -/
def Dev.testSettles (d : Dev) (n : Nat) : Bool := d.testMode n != 0 && !d.flag Reg.TST_CTL 0

/-- The test tone of a quadrant now (R881). -/
def Dev.testTone (d : Dev) (q : Nat) : Int :=
  let ph := d.rdN (Reg.TST_Q_TONE_FREQ q) * (d.tim.out % unitSec) * 2 ^ 32 / (1000 * unitSec) + d.fld (Reg.TST_Q_TONE_PHASE q) 15 0 * 2 ^ 16
  word24 (rdiv (d.fld (Reg.TST_Q_TONE_AMP q) 15 0 * maxCode * Config.cosT (ph % 2 ^ 32)) (2 ^ 46))

/-- The corrected word: (raw − OFS) × GAIN with the factors of the mode (R138, R182). -/
def Dev.correct (d : Dev) (n : Nat) (raw : Int) : Int :=
  let lp := d.chLp n
  let g := d.rdN (if lp then Reg.CNV_CH_GAIN_LP n else Reg.CNV_CH_GAIN n)
  let o := sx 24 (d.rdN (if lp then Reg.CNV_CH_OFS_LP n else Reg.CNV_CH_OFS n))
  word24 (rdiv ((raw - o) * g) (2 ^ 24))

/-! The bitstream and the decimator (R133, R137, R145, R190, R193, R234). -/

/-- 400 bits of a bitstream join its history, the latest in bit 0 (R137). -/
def pushBits (h b : Nat) : Nat := (h * 2 ^ 400 + b % 2 ^ 400) % 2 ^ 3200

/-- Accumulators in a row take a value: each adds the one before it. -/
def accumulate : List Int → Int → List Int
  | [], _ => []
  | a :: r, x => (a + x) :: accumulate r (a + x)

/-- The accumulators after 400 modulator clocks, the oldest of which is bit `top` of the history. -/
def accumulate400 (h top : Nat) (s : List Int) : List Int :=
  foldUp 400 (fun i s => accumulate s (if h.testBit (top - i) then 1 else -1)) s

/-- The fifth-order sinc filter of ratio 400 on the bits from `dly` on (R193): five running sums over 400 clocks, as five accumulators at the modulator clock
and five differences at the base rate. -/
def sinc5 (h dly : Nat) : Int :=
  let s1 := accumulate400 h (dly + 1999) [0, 0, 0, 0, 0]
  let s2 := accumulate400 h (dly + 1599) s1
  let s3 := accumulate400 h (dly + 1199) s2
  let s4 := accumulate400 h (dly + 799) s3
  let s5 := accumulate400 h (dly + 399) s4
  let e (s : List Int) : Int := s.getD 4 0
  e s5 - 5 * e s4 + 10 * e s3 - 10 * e s2 + 5 * e s1

/-- The decimator word of a history of bits delayed by PHASE_DLY (R133, R193, R234). (DESIGN CHOICE: notes/assumptions/172) -/
def decWord (h dly : Nat) : Int := word24 (rdiv (sinc5 h dly * Config.decGain) (2 ^ 64))

/-- One bit of a history. -/
def histBit (h i : Nat) : Nat := b2n (h.testBit i)

/-- Does the ones-density of some 64 consecutive clocks that end in the last `n` leave 0.1 to 0.9, given the ones of the 64 before them (R145)? (DESIGN CHOICE: notes/assumptions/172) -/
def densOut (h : Nat) : Nat → Nat → Bool
  | 0, _ => false
  | n + 1, ones =>
    let c := ones + histBit h n - histBit h (n + 64)
    decide (58 ≤ c) || decide (c ≤ 6) || densOut h n c

/-- Is there a run of 256 equal bits that ends in the last 400 clocks, going on from bit `n` with a run of a length (R145)? (DESIGN CHOICE: notes/assumptions/172) -/
def deadOut (h : Nat) : Nat → Nat → Bool
  | 0, _ => false
  | n + 1, run =>
    let r := if h.testBit n == h.testBit (n + 1) then run + 1 else 1
    (decide (n < 400) && decide (256 ≤ r)) || deadOut h n r

/-- The diagnostics of one decimator word (R145): the clamped code of the corrected word, the modulator's ones-density out of range, and no transition for 256
clocks. (DESIGN CHOICE: notes/assumptions/173) -/
def Dev.diagnose (d : Dev) (n : Nat) (raw w : Int) (dens dead : Bool) : Dev :=
  let c := d.chan n
  let atClamp := decide (w.natAbs = maxCode.natAbs)
  let same := if c.x = [] then 1 else if raw = c.raw then c.same + 1 else 1
  let clamped := if atClamp then c.clamped + 1 else 0
  let inRange := if atClamp || dens then 0 else c.inRange + 1
  let d := d.modChan n (fun c => { c with raw := raw, same := same, clamped := clamped, inRange := inRange, word := w })
  let d := if 4 ≤ clamped || dens then d.gross n 4 else if 256 ≤ inRange && d.chHas n 4 then d.chFlag n 4 false else d
  let d := if dead then d.gross n 5 else d
  if 128 ≤ same then d.gross n 6 else d

/-- Readings of the reference monitor of a die, in ppm from nominal, at 100 kHz (R145). -/
def Dev.refMonitor (d : Dev) (q : Nat) (refs : List Int) : Dev :=
  refs.foldl (fun (d : Dev) r =>
    let out := decide (5000 < r.natAbs)
    let d := d.wrS (Reg.CNV_Q_REF_MON q) r
    let d := d.modQuad q (fun u => { u with
      refBad := if out then u.refBad + 1 else 0
      refGood := if out then none else some (u.refGood.getD d.tim.clk) })
    if 20 ≤ (d.quad q).refBad then ((quadChs q).foldl (fun (d : Dev) n => d.gross n 7) d).putB Reg.CNV_STATUS (8 + q) true else d) d

/-! Snapshots (R139 to R141). -/

/-- A snapshot request of a quadrant; one that waits already is merged. -/
def Dev.snapReq (d : Dev) (q : Nat) : Dev := d.modQuad q (fun u => { u with snap := true })

/-- SNAPSHOT_LATCH: the corrected words of the base-rate sample go to the quadrants that asked. -/
def Dev.snapLatch (d : Dev) : Dev :=
  foldUp 4 (fun q d =>
    if (d.quad q).snap then
      let d := d.modQuad q (fun u => { u with snap := false })
      let d := (quadChs q).foldl (fun (d : Dev) n => d.wr (Reg.CNV_CH_SNAP n) (w32i (d.chan n).word)) d
      d.incW (Reg.CNV_Q_SNAP_SEQ q) 1
    else d) d

/-! Injected checks (R158 to R162). -/

/-- Outcome of an injection request (R158): 0 ACCEPTED, 1 MERGED, 2 FULL, 3 NOT_SERVED, 4 DISABLED; NOT_SERVED comes before DISABLED, MERGED and FULL. (DESIGN CHOICE: notes/assumptions/173) -/
def Dev.injOutcome (d : Dev) (k ch : Nat) : Nat :=
  if ch / 12 ≠ k then 3
  else if d.chHas ch 11 then 4
  else if (d.ck k).queue.contains ch then 1
  else if 4 ≤ (d.ck k).queue.length then 2
  else 0

/-- CK_INJ (R158): queue, merge or refuse. -/
def Dev.ckInject (d : Dev) (k ch : Nat) : Dev :=
  let o := d.injOutcome k ch
  let d := d.modCk k (fun c => { c with last := o, queue := if o = 0 then c.queue ++ [ch] else c.queue })
  if 2 ≤ o then d.raise Reg.CNV_INT_STATUS 3 else d

/-! Results (R163 to R168). -/

/-- A published result: to the front when it has been consumed, else to the back, where it may overrun one (R163); the first after power-up calibration has
SEQ 0 (R168). (DEDUCED: notes/assumptions/44) -/
def Dev.ckPublish (d : Dev) (k : Nat) (r : CkRes) : Dev :=
  let c := d.ck k
  let r := { r with seq := c.seq }
  let lost := c.valid && c.back.isSome
  let d := d.modCk k (fun c =>
    let c := { c with seq := (c.seq + 1) % 65536 }
    if c.valid then { c with back := some { r with overrun := lost } } else { c with front := some r, valid := true })
  if lost then d.raise Reg.CNV_INT_STATUS 4 else d

/-- The status word of a front buffer (R187). -/
def ckStatus (c : Ck) : Word :=
  match c.front with
  | none => 0
  | some r => w32 (r.seq + 2 ^ 16 * b2n c.valid + 2 ^ 17 * b2n r.pass + 2 ^ 18 * b2n r.injected + 2 ^ 19 * b2n r.overrun + 2 ^ 20 * b2n r.abort + 2 ^ 24 * r.ch)

/-- A captured result in the read view of an interface (R164). -/
def Dev.ckCapture (d : Dev) (i : Iface) (k : Nat) : Word × Dev :=
  let c := d.ck k
  let v (j : Nat) : Word := match c.front with
    | none => 0
    | some r => if j = 0 then w32i r.ic else if j = 1 then w32i r.qc else if j = 2 then w32i r.id' else if j = 3 then w32i r.qd else w32 r.err
  (ckStatus c, d.view i (Reg.CNV_CK_RES_IC k) 5 v)

/-- RES_CONSUME (R166): the view, then VALID cleared and the back buffer promoted. -/
def Dev.ckConsume (d : Dev) (i : Iface) (k : Nat) : Word × Dev :=
  let (w, d) := d.ckCapture i k
  (w, d.modCk k (fun c => match c.back with
    | some r => { c with front := some r, valid := true, back := none }
    | none => { c with valid := false }))

/-! Comparison (R147 to R151, R157). -/

/-- The in-phase weight of R147, and the quadrature weight. -/
def weightI (n : Nat) : Int := if n < 64 then 1 else -1
def weightQ (n : Nat) : Int := if n < 32 || 96 ≤ n then 1 else -1

/-- Total delay of a channel position in ns (R194, R239). (DEDUCED: notes/assumptions/41) -/
def Dev.groupDelay (d : Dev) (n : Nat) : Nat :=
  if n < 192 then
    let halves := 33595 + 2 * d.fld (Reg.FLT_CH_PHASE_DLY n) 9 0
    rdivN (halves * (if d.chLp n then 2 else 1) * 9765625) 200000
  else d.rdN Reg.FLT_VC_DELAY * 1000 + 1542969

/-- The digital integral of a weight whose window ended `back` ticks ago, delayed by the group delay to 1/64 of a tick (R148, R149). (DEDUCED: notes/assumptions/41) -/
def Dev.ckDigital (d : Dev) (n back : Nat) (w : Nat → Int) : Int :=
  let s := (d.chan n).s
  let at' (i : Nat) : Int := match s[i]? with | some v => v.v | none => 0
  let d64 := rdivN (d.groupDelay n * 64 * 128 * d.loc.freq) 1000000000000000
  let sum (dly : Nat) : Int := sumI ((List.range 128).map (fun j => w j * at' (back + 128 - j - dly)))
  rdiv (sum (d64 / 64) * (64 - (d64 % 64 : Nat)) + sum (d64 / 64 + 1) * (d64 % 64 : Nat)) (128 * 64)

/-- √e ≤ a + √m, exactly. -/
def sqrtLe (e a m : Nat) : Bool := decide (e ≤ a ^ 2 + m) || decide ((e - a ^ 2 - m) ^ 2 ≤ 4 * a ^ 2 * m)

/-- The comparison of a check with the fast path and what follows (R150, R151, R157). -/
def Dev.ckCompare (d : Dev) (k : Nat) (ic qc : Int) : Dev :=
  match (d.ck k).due with
  | none => d
  | some c =>
    let n := c.ch
    let id' := d.ckDigital n 160 weightI
    let qd := d.ckDigital n 32 weightQ
    let e2 := (ic - id').natAbs ^ 2 + (qc - qd).natAbs ^ 2
    let m2 := id'.natAbs ^ 2 + qd.natAbs ^ 2
    let abs := d.rdN Reg.CNV_CHK_TOL_ABS
    let rel := d.rdN Reg.CNV_CHK_TOL_REL
    let pass := sqrtLe (e2 * 10 ^ 12) (abs * 10 ^ 6) (m2 * rel ^ 2)
    let d := d.modCk k (fun c => { c with due := none })
    let d := d.ckPublish k ⟨n, 0, pass, c.injected, false, c.aborted, ic, qc, id', qd, min (isqrtNear e2) 0xFFFFFFFF⟩
    if c.aborted then (if pass then (d.chFlag n 5 false).chFlag n 6 false else d)
    else if pass then
      let p := (d.chan n).passes + 1
      let d := ((d.chFlag n 5 false).chFlag n 6 false).chFlag n 10 true
      let d := d.modChan n (fun c => { c with passes := p })
      if d.fld Reg.CNV_CTL 11 8 ≤ p then d.chFlag n 3 false else d
    else
      let d := d.modChan n (fun c => { c with passes := 0 })
      (((d.inc (Reg.CNV_CK_FAIL_CNT k) 1).inc (Reg.CNV_CH_FAIL_CNT n) 1).chFlag n 3 true).raise Reg.CNV_INT_STATUS 1

/-- A running check is aborted while its channel carries OVERLOAD, DEAD, STUCK, REF_FAULT or SETTLE (R157). -/
def Dev.ckWatch (d : Dev) : Dev :=
  foldUp 16 (fun k d =>
    match (d.ck k).run with
    | some c => if (d.rd (Reg.CNV_CH_STATUS c.ch) &&& 0x1F0) != 0 then d.modCk k (fun x => { x with run := some { c with aborted := true } }) else d
    | none => d) d

/-- A flutter boundary 32 ticks after the end of the quadrature cycle compares (R150). -/
def Dev.ckFlutter (d : Dev) (cks : List (Nat × (Int × Int))) : Dev :=
  let d := d.ckWatch
  if d.loc.ticks % 384 = 32 then foldUp 16 (fun k d => let v := (cks.lookup k).getD (0, 0); d.ckCompare k v.1 v.2) d else d

/-! Frames (R152 to R162, R174 to R178). -/

/-- Any channel of a quadrant carries SETTLE. (DESIGN CHOICE: notes/assumptions/46) -/
def Dev.quadSettles (d : Dev) (q : Nat) : Bool := (quadChs q).any (fun n => d.chHas n 8)

/-- A calibration that waits begins: its channels carry CAL (R174, R177). -/
def Dev.calBegin (d : Dev) (q : Nat) : Dev :=
  if (d.quad q).waiting then
    ((d.modQuad q (fun u => { u with waiting := false, calAt := d.tim.clk })).quadFlag q 2 true).putB Reg.CNV_STATUS q true
  else d

/-- A quadrant calibrates now. -/
def Dev.calibrating (d : Dev) (q : Nat) : Bool := (d.quad q).busy && !(d.quad q).waiting

/-- The check that a converter starts at a frame boundary: an aborted one first, then its queue with a credit, then the rotation (R156, R161). (DEDUCED: notes/assumptions/42) -/
def Dev.ckNext (d : Dev) (k : Nat) : Dev :=
  let c := d.ck k
  let start (d : Dev) (n : Nat) (inj : Bool) : Dev :=
    if d.chHas n 11 || 4 ≤ d.testMode n then d else d.modCk k (fun c => { c with run := some ⟨n, inj, false⟩ })
  match c.redo, c.queue with
  | some (n, inj), _ => start (d.modCk k (fun c => { c with redo := none })) n inj
  | none, n :: q =>
    if 0 < c.credit then start (d.modCk k (fun c => { c with queue := q, credit := c.credit - 1 })) n true
    else start (d.modCk k (fun c => { c with pos := (c.pos + 1) % 12, credit := if c.pos = 0 then 4 else c.credit })) (12 * k + c.pos) false
  | none, [] => start (d.modCk k (fun c => { c with pos := (c.pos + 1) % 12, credit := if c.pos = 0 then 4 else c.credit })) (12 * k + c.pos) false

/-- CHECK_FRAME_BOUNDARY (R153), once at every 384th sample tick of the grid: checks end their frames, calibrations that wait begin, and every converter starts a
check or stays idle. (DESIGN CHOICE: notes/assumptions/174) -/
def Dev.frameBoundary (d : Dev) : Dev :=
  if d.loc.ticks % 384 ≠ 0 || d.loc.ticks = d.loc.frameAt then d else
  let d := { d with loc := { d.loc with frameAt := d.loc.ticks, framed := true } }
  let d := foldUp 16 (fun k d => d.modCk k (fun c => { c with due := c.run, run := none })) (d.ckWatch)
  let d := foldUp 4 (fun q d => d.calBegin q) d
  let d := foldUp 4 (fun q d => if (d.quad q).hold && !d.quadSettles q then d.modQuad q (fun u => { u with hold := false }) else d) d
  foldUp 16 (fun k d => if d.calibrating (k / 4) || (d.quad (k / 4)).hold then d else d.ckNext k) d

/-! Calibration (R170 to R179). -/

/-- CAL_START (R173, R176): each selected quadrant is accepted, or refused as BUSY, also while it waits for its frame boundary, or TOO_SOON. (DESIGN CHOICE: notes/assumptions/173) -/
def Dev.calStart (d : Dev) (qmask : Nat) : Dev :=
  foldUp 4 (fun q d =>
    if qmask.testBit q then
      let u := d.quad q
      if u.busy then d.modQuad q (fun u => { u with outcome := 2 })
      else if (match u.calEnd with | some e => decide (d.tim.clk < e + ticksSec 2) | none => false) then d.modQuad q (fun u => { u with outcome := 3 })
      else if d.running then d.modQuad q (fun u => { u with outcome := 5, busy := true, waiting := true })
      else d
    else d) d

/-- A write of CNV_CAL_CTL: QMASK and QRESULT_SEL are held; START acts (R186). -/
def Dev.calWrite (d : Dev) (v : Word) : Dev :=
  let d := (d.putF Reg.CNV_CAL_CTL 7 4 (bits v 7 4)).putF Reg.CNV_CAL_CTL 13 12 (bits v 13 12)
  if bit v 0 then d.calStart (bits v 7 4) else d

/-- Power-up calibration starts on entry to CALIBRATE, as a write of QMASK 0xF with START starts one (R170). -/
def Dev.calPowerUp (d : Dev) : Dev :=
  (foldUp 4 (fun q d =>
    ((d.modQuad q (fun u => { u with outcome := 5, busy := true, waiting := false, calAt := d.tim.clk })).quadFlag q 2 true).putB Reg.CNV_STATUS q true) d).putF Reg.CNV_CAL_CTL 7 4 0xF

/-- Are a gain and an offset within the limits of R172? -/
def factOk (g : Nat) (o : Int) : Bool := decide (15938356 ≤ g) && decide (g ≤ 17616076) && decide (o.natAbs ≤ 83886)

/-- The factors of a channel written, or kept with CAL_FAIL (R172): both modes at power-up, the present mode at run time (R173). (DEDUCED: notes/assumptions/44) -/
def Dev.calFact (d : Dev) (f : CalFact) (both : Bool) : Dev :=
  let n := f.ch
  let lp := d.chLp n
  let full := both || !lp
  let low := both || lp
  let ok := (!full || factOk f.gain f.ofs) && (!low || factOk f.gainLp f.ofsLp)
  if ok then
    let d := if full then (d.wrN (Reg.CNV_CH_GAIN n) f.gain).wr (Reg.CNV_CH_OFS n) (w32i f.ofs) else d
    let d := if low then (d.wrN (Reg.CNV_CH_GAIN_LP n) f.gainLp).wr (Reg.CNV_CH_OFS_LP n) (w32i f.ofsLp) else d
    d.chFlag n 12 false
  else d.chFlag n 12 true

/-- The calibration of a quadrant ends (R172, R174, R176): CHK_FAIL clears on each channel that it leaves without CAL_FAIL (R151), and NOT_CAL at once unless it is
power-up calibration, which ends as a whole (R170). (DEDUCED: notes/assumptions/45) -/
def Dev.calEndQ (d : Dev) (q : Nat) (facts : List CalFact) (powerUp : Bool) : Dev :=
  if d.calibrating q then
    let d := (facts.filter (fun f => f.ch / 48 == q)).foldl (fun (d : Dev) f => d.calFact f powerUp) d
    let u := d.quad q
    let refOk := match u.refGood with
      | some c => decide (c + ticksMs 100 ≤ d.tim.clk)
      | none => false
    let d := (quadChs q).foldl (fun (d : Dev) n =>
      let d := (((if powerUp then d else d.chFlag n 1 false).chFlag n 2 false).chFlag n 10 false)
      let d := if d.chHas n 12 then d else (d.chFlag n 3 false).modChan n (fun c => { c with passes := 0 })
      let d := if refOk then d.chFlag n 7 false else d
      if powerUp then d else d.settleStart n) d
    let d := if refOk then d.putB Reg.CNV_STATUS (8 + q) false else d
    let bad := (quadChs q).any (fun n => d.chHas n 12)
    let d := d.modQuad q (fun u => { u with outcome := if bad then 4 else 1, busy := false, calEnd := some d.tim.clk, hold := !powerUp })
    (d.wrSat Reg.CNV_CAL_TIME ((d.tim.clk - u.calAt) / 400)).putB Reg.CNV_STATUS q false
  else d

/-- A phase reset repeats the calibration step in progress (R179): a CAL_EXTENDED record; the extra time, at most 40 ms, is not stated: a free value. (DEDUCED: notes/assumptions/45) -/
def Dev.calExtend (d : Dev) : Dev :=
  let qm := sumN ((List.range 4).map (fun q => if d.calibrating q then 2 ^ q else 0))
  if qm = 0 then d
  else
    let (v, d) := d.free
    d.record 0x0402 (be 1 qm ++ zeros 3 ++ be 4 (v % 41) ++ zeros 8)

/-! Phase resets as they bear on checks (R156). -/

/-- An aborted check is published with ABORT; its values are not stated: free values. (DEDUCED: notes/assumptions/42) -/
def Dev.ckAbort (d : Dev) (k : Nat) (r : CkRun) : Dev :=
  let (a, d) := d.free
  let (b, d) := d.free
  d.ckPublish k ⟨r.ch, 0, false, r.injected, false, true, sx 24 a, sx 24 (a / 2 ^ 24), sx 24 (a / 2 ^ 48), sx 24 b, b / 2 ^ 24 % 2 ^ 32⟩

/-- A phase reset aborts the check of every converter that has not been compared yet, and the channel is checked again first (R156). (DEDUCED: notes/assumptions/42) -/
def Dev.ckReset (d : Dev) : Dev :=
  foldUp 16 (fun k d =>
    let c := d.ck k
    let again := (c.run.or c.due).map (fun r => (r.ch, r.injected))
    let d := d.modCk k (fun c => { c with run := none, due := none, redo := again.or c.redo })
    let d := match c.due with | some r => d.ckAbort k r | none => d
    match c.run with | some r => d.ckAbort k r | none => d) d

/-! Low-power mode (R180 to R184). -/

/-- A quadrant enters or leaves low-power mode: LP and SETTLE on its channels (R182); its base-rate samples are counted at half the rate, or the full one again. -/
def Dev.lpSwitch (d : Dev) (q : Nat) (on : Bool) : Dev :=
  if (d.quad q).lp = on then d
  else
    let d := (d.modQuad q (fun u => { u with lp := on })).putB Reg.CNV_STATUS (4 + q) on
    let d := { d with loc := { d.loc with base := lmod d.loc.base q (fun n => if on then (n + 1) / 2 else 2 * n) } }
    let d := (quadChs q).foldl (fun (d : Dev) n => (d.chFlag n 9 on).settleStart n) d
    d.raise Reg.CNV_INT_STATUS 6

/-- At a wingbeat boundary host requests take effect, PF_LP clears once PWRFAIL_N has been high for 100 ms, and quadrants without either request leave the mode;
at a flutter boundary entry through PF_LP takes effect (R180, R181). -/
def Dev.lpWingbeat (d : Dev) : Dev :=
  foldUp 4 (fun q d =>
    let d := if d.pins.pwrfailLow then d else d.putB Reg.CNV_LP_CTL (4 + q) false
    d.lpSwitch q (d.flag Reg.CNV_LP_CTL q || (d.flag Reg.CNV_LP_CTL (4 + q) && (d.quad q).lp))) d
def Dev.lpFlutter (d : Dev) : Dev :=
  foldUp 4 (fun q d => if d.flag Reg.CNV_LP_CTL (4 + q) then d.lpSwitch q true else d) d

/-- SETTLE_END: SETTLE clears on the positions whose base-rate samples have passed (R232). -/
def Dev.settleEnd (d : Dev) : Dev :=
  (d.loc.settle.filter (fun p => p.2 == 1)).foldl (fun (d : Dev) p =>
    let d := { d with loc := { d.loc with settle := tdel d.loc.settle p.1 } }
    if p.1 < 192 then (if d.testSettles p.1 then d else d.chFlag p.1 8 false)
    else
      let v := p.1 - 192
      let d := d.putB (Reg.FLT_VC_STATUS v) 7 false
      d.putB (Reg.FLT_VC_STATUS v) 0 ((d.rd (Reg.FLT_VC_STATUS v) &&& 0x1FE) != 0)) d

/-- A base-rate sample counts towards the end of SETTLE on the positions of its group (R232). -/
def Dev.settleCount (d : Dev) (q : Nat) : Dev :=
  { d with loc := { d.loc with settle := d.loc.settle.map (fun p => if min (p.1 / 48) 4 = q then (p.1, max 1 (p.2 - 1)) else p) } }

/-! Registers of the CNV block that show its state (R185 to R187). -/

/-- POS of a check converter: channel, cycle of the frame, injected, calibrating; before the first frame its fields are at their reset values (R185). (DEDUCED: notes/assumptions/14) -/
def Dev.ckPos (d : Dev) (k : Nat) : Word :=
  let c := d.ck k
  let cal := 2048 * b2n (d.calibrating (k / 4))
  match c.run with
  | some r => w32 (r.ch + 256 * (d.loc.cycles % 3) + 1024 * b2n r.injected + cal)
  | none => w32 ((if d.loc.framed then 768 else 0) + cal)

/-- Computed registers. -/
def Dev.cnvReg (d : Dev) (a : Nat) : Option Word :=
  if a = Reg.CNV_CAL_CTL then
    some (setBits (d.rd a) 11 8 (d.quad (d.fld a 13 12)).outcome)
  else
    ((List.range 4).findSome? (fun q =>
      if a = Reg.CNV_Q_CAL_AGE q then
        some (match (d.quad q).calEnd with
          | some e => w32 (min ((d.tim.clk - e) / ticksMs 1) 0xFFFFFFFF)
          | none => 0xFFFFFFFF)
      else none)).or
    ((List.range 16).findSome? (fun k =>
      let c := d.ck k
      if a = Reg.CNV_CK_INJ_STATUS k then some (w32 (c.last + 16 * c.queue.length + 256 * c.credit))
      else if a = Reg.CNV_CK_POS k then some (d.ckPos k)
      else none))

end Sys2Proof.Machine
end

