-- ==== Sys2Proof/Machine/Filter.lean ====
section
/-! DEFINITION. Sys2Proof/Machine/Filter.lean: the filter chain, the resampler, thresholds, the tracker, phase resets, virtual channels (chapter 5). -/

namespace Sys2Proof.Machine

/-! Compensation FIR and bank switching (R195 to R205). -/

/-- A coefficient: loaded, or that of the reference bank (R196). -/
def Dev.coefOf (d : Dev) (n bank tap : Nat) : Int :=
  (d.loc.coef.find? (fun p => p.1 == 128 * n + 64 * bank + tap)).elim (Config.firRef tap) (·.2)

/-- Output of one bank: the sum of the 64 products, rounded and clamped (R195). -/
def Dev.firOut (d : Dev) (n bank : Nat) (x : List Int) : Int :=
  word24 (rdiv (sumI ((List.range 64).map (fun t => d.coefOf n bank t * x.getD t 0))) (2 ^ 22))

/-- Output of the FIR stage: the live bank, or the mix of a fade at its k-th sample (R202). -/
def Dev.firStage (d : Dev) (n : Nat) (c : Chan) : Int :=
  match c.fade with
  | some f =>
    if f.waiting.isSome then d.firOut n (1 - f.bank) c.x
    else word24 (rdiv ((f.len - f.k : Nat) * d.firOut n (1 - f.bank) c.x + f.k * d.firOut n f.bank c.x) f.len)
  | none => d.firOut n c.live c.x

/-- FIR_SWAP: a write of TARGET with the cross-fade length of that moment (R200). -/
def Dev.firSwap (d : Dev) (n target : Nat) : Dev :=
  let len := max 1 (d.fld (Reg.FLT_CH_XF_LEN n) 15 0)
  d.modChan n (fun c =>
    match c.fade with
    | none =>
      if target = c.live then { c with swapLast := 2 }
      else { c with swapLast := 1, fade := some ⟨target, len, 0, some d.tim.clk⟩ }
    | some _ =>
      if c.pend.isSome then { c with swapLast := 4, pend := some (target, len) } else { c with swapLast := 3, pend := some (target, len) })

/-- FADE_DONE: the incoming bank is LIVE; a pending request starts its fade at the next tick, or is discarded (R202, R203). -/
def Dev.fadeDone (d : Dev) (n : Nat) : Dev :=
  match (d.chan n).fade with
  | none => d
  | some f =>
    if f.waiting.isNone && f.len ≤ f.k then
      (d.modChan n (fun c =>
        let c := { c with live := f.bank, fade := none }
        match c.pend with
        | none => c
        | some (b, l) => if b = f.bank then { c with pend := none } else { c with pend := none, fade := some ⟨b, l, 0, some 0⟩ })).raise Reg.FLT_INT_STATUS 1
    else d

/-- FADE_START: the first sample tick at least 2 µs after the request starts a fade; a pending one starts at the next tick (R201, R203). -/
def fadeStart (now : Nat) (c : Chan) : Chan :=
  match c.fade with
  | some f =>
    match f.waiting with
    | some at' => if at' = 0 || at' + ticksUs 2 ≤ now then { c with fade := some { f with waiting := none } } else c
    | none => c
  | none => c

/-- A bank may not be written (R204): LIVE, in a fade, or named by a pending request. -/
def bankLocked (c : Chan) (bank : Nat) : Bool := c.fade.isSome || c.live == bank || (match c.pend with | some (b, _) => b == bank | none => false)

/-- The tap after the selected one. -/
def Dev.nextTap (d : Dev) : Dev := d.putF Reg.FLT_COEF_SEL 21 16 ((d.fld Reg.FLT_COEF_SEL 21 16 + 1) % 64)

/-- COEF_WRITE (R204). -/
def Dev.coefWrite (d : Dev) (v : Word) : Dev :=
  let n := d.fld Reg.FLT_COEF_SEL 7 0
  let b := d.fld Reg.FLT_COEF_SEL 8 8
  let tap := d.fld Reg.FLT_COEF_SEL 21 16
  if bankLocked (d.chan n) b then
    (d.wrN Reg.FLT_ERR (1 + n * 2 ^ 8 + tap * 2 ^ 16 + b * 2 ^ 22)).raise Reg.FLT_INT_STATUS 2
  else ({ d with loc := { d.loc with coef := tput d.loc.coef (128 * n + 64 * b + tap) (sx 24 v.toNat) } }).nextTap

/-- COEF_READ: the coefficient, and the tap advances (R243). -/
def Dev.coefRead (d : Dev) : Word × Dev :=
  (w32 (cx 24 (d.coefOf (d.fld Reg.FLT_COEF_SEL 7 0) (d.fld Reg.FLT_COEF_SEL 8 8) (d.fld Reg.FLT_COEF_SEL 21 16))), d.nextTap)

/-! DC block (R206 to R213). -/

/-- The DC block on one word: its output, and the estimate after it. -/
def Dev.dcStage (d : Dev) (n : Nat) (c : Chan) (x : Int) : Int × Int :=
  if d.flag (Reg.FLT_CH_CFG n) 0 then
    let k := d.fld (Reg.FLT_CH_CFG n) 5 1
    (word24 (rdiv (x * 2 ^ 24 - c.m) (2 ^ 24)), if c.freeze.isSome then c.m else c.m + rdiv (x * 2 ^ 24 - c.m) (2 ^ k))
  else (x, c.m)

/-- Body of a FREEZE or RELEASE record (R213). -/
def freezeBody (n cause : Nat) (m : Int) : Bytes :=
  be 2 n ++ be 1 cause ++ zeros 1 ++ beI 4 (m / 2 ^ 24) ++ be 4 ((m % 2 ^ 24).toNat * 256) ++ zeros 4

/-- A freeze is released with a cause: 3 tail, 4 FREEZE_MAX, 5 host (R211, R213). -/
def Dev.unfreeze (d : Dev) (n cause : Nat) : Dev :=
  let m := (d.chan n).m
  ((d.modChan n (fun c => { c with freeze := none, rel := false })).record 0x0506 (freezeBody n cause m)).raise Reg.FLT_INT_STATUS 4

/-- Some trigger source of a channel is active: its bus signal or one of its units (R210, R211). -/
def Dev.freezeSrc (d : Dev) (n : Nat) : Bool :=
  let cfg := Reg.FLT_CH_FREEZE_CFG n
  (d.flag cfg 9 && d.acq.bus.testBit (d.fld cfg 8 0)) ||
  (List.range 4).any (fun u => d.flag cfg (10 + u) && (tget (false, 0) d.loc.thr (4 * n + u)).1)

/-- A sample tick for the freeze of a channel: triggers since the last tick take effect, the tail and the length are counted, a host's release
applies unless a trigger falls on the same tick (R209 to R212). -/
def Dev.freezeTick (d : Dev) (n : Nat) : Dev :=
  let c := d.chan n
  match c.freeze, c.trig with
  | none, some cause =>
    let m := (c.mHist[33]?).getD (c.mHist.getLast?.getD c.m)
    let d := d.modChan n (fun c => { c with freeze := some ⟨cause, cause == 2, 0, 0⟩, m := m, trig := none, rel := false })
    (d.record 0x0505 (freezeBody n cause m)).raise Reg.FLT_INT_STATUS 3
  | none, none => if c.rel then d.modChan n (fun c => { c with rel := false }) else d
  | some f, tr =>
    let active := d.freezeSrc n || tr.isSome
    let f := { f with tail := if active then 0 else f.tail + 1, dur := f.dur + 1, host := f.host || tr == some 2 }
    let d := d.modChan n (fun c => { c with freeze := some f, trig := none })
    if c.rel && tr.isNone then d.unfreeze n 5 else d.modChan n (fun c => { c with rel := false })

/-- FREEZE_CTL on a channel without HELD is refused (R212). -/
def Dev.notHeld (d : Dev) (n : Nat) : Dev := (d.wrN Reg.FLT_ERR (2 + n * 2 ^ 8)).raise Reg.FLT_INT_STATUS 2

/-- HOST_FREEZE: a host freeze at the next sample tick; it turns a triggered freeze into a host freeze (R210, R212). -/
def Dev.hostFreeze (d : Dev) (n : Nat) : Dev := d.modChan n (fun c => { c with trig := some 2 })

/-- FREEZE_RELEASE: any freeze is released at the next sample tick (R211). -/
def Dev.hostRelease (d : Dev) (n : Nat) : Dev := d.modChan n (fun c => { c with rel := true })

/-- A write of FREEZE_CTL: refused on a channel without HELD whatever its bits, else both of them act (R21, R212, R243). -/
def Dev.freezeCtl (d : Dev) (n : Nat) (v : Word) : Dev :=
  if d.flag (Reg.FLT_CH_CFG n) 6 then
    let d := if bit v 0 then d.hostFreeze n else d
    if bit v 1 then d.hostRelease n else d
  else d.notHeld n

/-- FREEZE_TAIL_END: TAIL inactive ticks release a triggered freeze (R211). -/
def Dev.freezeTail (d : Dev) (n : Nat) : Dev :=
  match (d.chan n).freeze with
  | some f => if !f.host && (d.chan n).trig.isNone && d.fld (Reg.FLT_CH_FREEZE_CFG n) 31 16 ≤ f.tail then d.unfreeze n 3 else d
  | none => d

/-- FREEZE_MAX_END: any freeze ends after FLT_FREEZE_MAX ticks (R211). -/
def Dev.freezeMax (d : Dev) (n : Nat) : Dev :=
  match (d.chan n).freeze with
  | some f => if (d.chan n).trig.isNone && d.rdN Reg.FLT_FREEZE_MAX ≤ f.dur then d.unfreeze n 4 else d
  | none => d

/-! The base-rate sample (R137, R138, R190). -/

/-- A base-rate word goes through the FIR and the DC block to the resampler's history; a running fade counts it (R202, R205). -/
def Dev.chainWord (d : Dev) (n : Nat) (w : Int) : Dev :=
  d.modChan n (fun c =>
    let fade := c.fade.map (fun f => if f.waiting.isNone then { f with k := min f.len (f.k + 1) } else f)
    let c := { c with x := (w :: c.x).take 64, fade := fade }
    let (y, m) := d.dcStage n c (d.firStage n c)
    { c with y := (y :: c.y).take 48, m := m })

/-- Cubic Lagrange interpolation over four values at −1, 0, 1, 2, at a fraction u/v between 0 and 1 (R238). -/
def lagrange (a b c e : Int) (u v : Nat) : Int :=
  let x : Int := u
  let w : Int := v
  rdiv (- a * (x * (x - w) * (x - 2 * w)) + 3 * b * ((x + w) * (x - w) * (x - 2 * w)) - 3 * c * ((x + w) * x * (x - 2 * w)) + e * ((x + w) * x * (x - w)))
    (6 * v ^ 3)

/-- Values per second of a virtual channel (R236). -/
def Dev.vcRate (d : Dev) (v : Nat) : Nat := if d.fld (Reg.FLT_VC_CFG v) 1 0 = 1 then 80 * d.f0 else 4800

/-- A virtual channel. -/
def Vc.start : Vc := ⟨[], 0, 0, 0⟩
def Dev.vc (d : Dev) (v : Nat) : Vc := tget Vc.start d.loc.vcs v
def Dev.modVc (d : Dev) (v : Nat) (f : Vc → Vc) : Dev := { d with loc := { d.loc with vcs := tset Vc.start d.loc.vcs v (f (d.vc v)) } }

/-- One value that the interpolator needs for the first time: it has arrived in time, or it is missed (R240). -/
def Vc.need (x : Vc) (k : Nat) : Vc := { x with top := k, inTime := if x.vals.any (·.n == k) then x.inTime + 1 else 0 }

/-- VC_INTERPOLATE (R238, R240): the word of this base-rate sample's instant less FLT_VC_DELAY, or the last word with SV_MISSING, which clears after four
consecutive values in time. (DEDUCED: notes/assumptions/175) -/
def Dev.vcWord (d : Dev) (v : Nat) : Dev :=
  if d.fld (Reg.FLT_VC_CFG v) 1 0 = 0 then d
  else
    let t := d.ns - d.rdN Reg.FLT_VC_DELAY * 1000
    let rate := d.vcRate v
    let u := t % 1000000000 * rate
    let n := t / 1000000000 * rate + u / 1000000000
    let x := d.vc v
    let at' (k : Nat) : Option Int := (x.vals.find? (fun p => p.n == k)).map (·.v)
    let fresh := [n - 1, n, n + 1, n + 2].filter (fun k => decide (x.top < k))
    let gone := fresh.filter (fun k => (at' k).isNone)
    let d := (d.inc (Reg.FLT_VC_MISS_CNT v) gone.length).modVc v (fun x => fresh.foldl Vc.need x)
    match at' (n - 1), at' n, at' (n + 1), at' (n + 2) with
    | some a, some b, some c, some e =>
      let w := lagrange a b c e (u % 1000000000) 1000000000
      let clamped := decide (maxCode.natAbs < w.natAbs)
      let r := if clamped then 0 else x.inRange + 1
      let d := d.modVc v (fun x => { x with inRange := r })
      let d := if 4 ≤ (d.vc v).inTime then d.vcFlag v 2 false else d
      let d := if clamped then d.vcFlag v 6 true else if 256 ≤ r && d.flag (Reg.FLT_VC_STATUS v) 6 then d.vcFlag v 6 false else d
      (d.modChan (192 + v) (fun c => { c with word := word24 w })).chainWord (192 + v) (word24 w)
    | _, _, _, _ => (d.vcFlag v 2 true).chainWord (192 + v) (d.chan (192 + v)).word

/-- A value arrives for a virtual channel (R237, R240): sample number, value, validity good, test bit, smpSynch accepted. A disabled channel takes none (R236), and
one whose sample number has been delivered is ignored (R371). A test value that is accepted leaves SV_TEST as it is. (DEDUCED: notes/assumptions/175) -/
def Dev.vcValue (d : Dev) (v n : Nat) (value : Int) (good test sync : Bool) : Dev :=
  if d.fld (Reg.FLT_VC_CFG v) 1 0 = 0 || (d.vc v).vals.any (·.n == n) then d else
  let scaled := rdiv (value * d.rdN (Reg.FLT_VC_SCALE v)) (2 ^ 24)
  let d := if maxCode.natAbs < scaled.natAbs then (d.vcFlag v 6 true).modVc v (fun x => { x with inRange := 0 }) else d
  let d := d.modVc v (fun x => { x with vals := (⟨n, word24 scaled⟩ :: x.vals).take 512 })
  let d := (d.vcFlag v 3 (!good)).vcFlag v 5 (!sync)
  if test && d.flag (Reg.FLT_VC_CFG v) 2 then d else d.vcFlag v 4 test

/-- The 400 bits of a local channel since the last base-rate sample go through PHASE_DLY, the decimator, the correction and the diagnostics to the chain (R190, R193, R234);
a delta-sigma test tone takes their place (R880). -/
def Dev.localWord (d : Dev) (n b : Nat) : Dev :=
  let d := d.modChan n (fun c => { c with bits := pushBits c.bits b })
  let h := (d.chan n).bits
  let tone := d.testMode n = 4
  let raw := if tone then Config.dsmWord (d.testTone (n / 48)) else decWord h (d.fld (Reg.FLT_CH_PHASE_DLY n) 9 0)
  let w := d.correct n raw
  let ones := sumN ((List.range 64).map (fun i => histBit h (400 + i)))
  (d.diagnose n raw w (!tone && densOut h 400 ones) (!tone && deadOut h 655 1)).chainWord n w

/-- BASE_RATE_SAMPLE of a quadrant, or with q = 4 of the virtual channels: the 400 bits of the bitstream of each channel of the quadrant that converts, and the readings of
the reference monitor. -/
def Dev.baseRate (d : Dev) (q : Nat) (bits : List (Nat × Nat)) (refs : List Int) : Dev :=
  let d := d.settleCount q
  let d := { d with loc := { d.loc with base := lmod d.loc.base q (· + 1), edge := false } }
  if q < 4 then
    (bits.filter (fun p => p.1 / 48 == q && d.flag (Reg.CNV_CH_CFG p.1) 0)).foldl (fun (d : Dev) p => d.localWord p.1 p.2) (d.refMonitor q refs)
  else foldUp 64 (fun v d => d.vcWord v) d

/-! Moving average and thresholds (R221 to R228). -/

/-- √(s/n) rounded to the nearest integer. -/
def rootMean (s n : Nat) : Nat := sqrtNear s n

/-- MA_LEN of a channel position. -/
def Dev.maLen (d : Dev) (n : Nat) : Nat := d.fld (Reg.FLT_CH_CFG n) 25 16

/-- The window is not full (MA_FILL, R222). -/
def Dev.maFill (d : Dev) (n : Nat) : Bool := decide ((d.chan n).maN < d.maLen n)

/-- A threshold quantity in 1/`unit` of its unit, none where no evaluation is made (R223, R227). -/
def Dev.thrEval (d : Dev) (n u : Nat) (unit : Nat) (q : Option Int) : Dev :=
  let cfg := Reg.FLT_THR_CFG n u
  let key := 4 * n + u
  let (act, cnt) := tget (false, 0) d.loc.thr key
  let level := sx 32 (d.rdN (Reg.FLT_THR_LEVEL n u)) * unit
  let hyst : Int := d.rdN (Reg.FLT_THR_HYST n u) * unit
  let below := d.flag cfg 2
  let (act', cnt') :=
    if !d.flag cfg 3 then (false, 0)
    else match q with
      | none => (let a := d.fld cfg 5 4; if a = 1 then false else if a = 2 then true else act, 0)
      | some x =>
        if act then ((if below then decide (x < level + hyst) else decide (level - hyst < x)), 0)
        else
          let met := if below then decide (x < level) else decide (level < x)
          if met then (if d.fld (Reg.FLT_THR_MIN_DUR n u) 15 0 ≤ cnt + 1 then (true, 0) else (false, cnt + 1)) else (false, 0)
  let d := { d with loc := { d.loc with thr := tset (false, 0) d.loc.thr key (act', cnt') } }
  let d := if act' && !act && d.flag (Reg.FLT_CH_FREEZE_CFG n) (10 + u) then d.freezeTrig n 1 else d
  if act' != act && d.flag cfg 6 then d.busHold d.ns [(64 + d.fld cfg 24 16, act')] else d

/-- Mean and RMS of the window (R221). -/
def Dev.maStep (d : Dev) (n : Nat) : Dev :=
  let c := d.chan n
  let win := (c.s.take (min c.maN (d.maLen n))).map (·.v)
  let mean := rdiv (sumI win) (max 1 win.length)
  let rms := rootMean (sumN (win.map (fun x => x.natAbs ^ 2))) win.length
  let d := (d.wr (Reg.FLT_CH_MEAN n) (w32i mean)).wrN (Reg.FLT_CH_RMS n) rms
  foldUp 4 (fun u d =>
    let qty := d.fld (Reg.FLT_THR_CFG n u) 1 0
    if qty < 2 then d.thrEval n u 1 (if d.invalid n || d.maFill n then none else some (if qty = 0 then (mean.natAbs : Int) else (rms : Int))) else d) d

/-! The sample tick (R41, R219). -/

/-- The advance of the resampler position at a tick, in 2^−32 base-rate sample (R219). -/
def Dev.posStep (d : Dev) (num : Nat) : Nat := if d.loc.freq = 0 then 0 else rdivN (num * 1000000 * 2 ^ 32) d.loc.freq

/-- The resampler's sample from words, newest first, at a fraction of 2^−32 (R219): 16 taps of the two phases next to the fraction, and between them linear. -/
def resample (y : List Int) (frac : Nat) : Int :=
  let ph := frac / 2 ^ 22
  let r : Int := (frac % 2 ^ 22 : Nat)
  word24 (rdiv (sumI ((List.range 16).map (fun t => y.getD t 0 * (Config.kernel ph t * (2 ^ 22 - r) + Config.kernel (ph + 1) t * r)))) (2 ^ (22 + Config.kernelBits)))

/-- Resampler position of a channel position: that of its mode (R219). -/
def Dev.posOf (d : Dev) (n : Nat) : Nat := if d.chLp n then d.loc.posLp else d.loc.pos

/-- Base-rate words that have come after the one that a position's integer part selects; the first word after a phase reset is that of position 0 (R219, R230). (DESIGN CHOICE: notes/assumptions/49, 190) -/
def Dev.wordsPast (d : Dev) (n : Nat) : Nat := d.loc.base.getD (min (n / 48) 4) 0 - 1 - d.posOf n / 2 ^ 32

/-- One channel position at a sample tick. -/
def Dev.tickChan (d : Dev) (n : Nat) : Dev :=
  let d := d.modChan n (fun c => { (fadeStart d.tim.clk c) with mHist := (c.m :: c.mHist).take 34 })
  let d := d.freezeTick n
  let lp := d.chLp n
  let ok := !d.invalid n
  let v := if d.testMode n = 5 then d.testTone (n / 48) else resample ((d.chan n).y.drop (d.wordsPast n)) (d.posOf n % 2 ^ 32)
  let d := d.modChan n (fun c =>
    { c with s := (⟨v, ok, lp⟩ :: c.s).take 4608, maN := if ok && !c.wasOk then 1 else min 1023 (c.maN + 1), wasOk := ok })
  d.maStep n

/-- A channel position's word for a wave group (R615): resampled sample, mean or RMS; and whether it is valid. -/
def Dev.waveVal (d : Dev) (qty n : Nat) : Int × Bool :=
  (if qty = 0 then ((d.chan n).s.head?.map (·.v)).getD 0 else if qty = 1 then sx 32 (d.rdN (Reg.FLT_CH_MEAN n)) else sx 32 (d.rdN (Reg.FLT_CH_RMS n)), !d.invalid n)

/-- The positions at a tick: 0 at the first after a phase reset, then advanced by the ratio of the flutter (R214, R219, R230). -/
def Dev.posNext (d : Dev) : Dev :=
  { d with loc := { d.loc with
    pos := if d.loc.ticks = 0 then 0 else d.loc.pos + d.posStep 200
    posLp := if d.loc.ticks = 0 then 0 else d.loc.posLp + d.posStep 100 } }

/-- SAMPLE_TICK: positions advance and all 256 channel positions give their sample; threshold changes reach the bus at the tick, together with those of the
flutter boundary where one falls on it. There is no tick between the marked edge of a phase reset and the first base-rate sample after it (R230). -/
def Dev.sampleTick (d : Dev) : Dev :=
  if d.loc.edge then d else
  let d := if d.acq.todo = [] then d else d.busFlush
  let d := d.posNext
  let d := { d with loc := { d.loc with ticks := d.loc.ticks + 1, stamps := (d.tim.out :: d.loc.stamps).take 4608 } }
  let d := foldUp 256 (fun n d => d.tickChan n) d
  let d : Dev := d.waveTick d.waveVal
  if d.loc.ticks % 16 = 0 then d else d.busFlush

/-! Frequency tracking (R214 to R218). -/

/-- Position of a candidate, and whether it is enabled. -/
def Dev.refPos (d : Dev) (i : Nat) : Nat := d.fld (Reg.FLT_TRK_REF i) 7 0
def Dev.refEn (d : Dev) (i : Nat) : Bool := d.flag (Reg.FLT_TRK_REF i) 8

/-- State and selection of the tracker (R245). -/
def Dev.trkState (d : Dev) : Nat := d.fld Reg.FLT_TRK_STATUS 1 0
def Dev.trkSel (d : Dev) : Nat := d.fld Reg.FLT_TRK_STATUS 5 4

/-- A tracker record (R218): 0x0501 TRK_REF, 0x0502 TRK_HOLD, 0x0503 TRK_CLAMP. -/
def Dev.trkRecord (d : Dev) (typ : Nat) (clamp : Bool) : Dev :=
  d.record typ (be 1 d.trkSel ++ be 1 d.trkState ++ be 1 (b2n clamp) ++ zeros 1 ++ beI 4 ((d.loc.freq : Int) - d.f0 * 1000000) ++ zeros 8)

/-- A change of state raises TRK_STATE. -/
def Dev.trkSet (d : Dev) (st : Nat) : Dev := if d.trkState = st then d else (d.putF Reg.FLT_TRK_STATUS 1 0 st).raise Reg.FLT_INT_STATUS 5

/-- A change of reference (R216). -/
def Dev.trkRef (d : Dev) (i : Nat) : Dev :=
  (((d.putF Reg.FLT_TRK_STATUS 5 4 i).inc Reg.FLT_TRK_SWITCH_CNT 1).raise Reg.FLT_INT_STATUS 6).trkRecord 0x0501 false

/-- A new tracked frequency, clamped to 42.5 to 69 Hz with CLAMP and its records (R217). (DESIGN CHOICE: notes/assumptions/39) -/
def Dev.trkFreq (d : Dev) (f : Int) : Dev :=
  let was := d.flag Reg.FLT_TRK_STATUS 2
  let now := decide (f < 42500000) || decide (69000000 < f)
  let f := (clampI 42500000 69000000 f).toNat
  let d := { d with loc := { d.loc with freq := f } }
  let d := (d.putB Reg.FLT_TRK_STATUS 2 now).wr Reg.FLT_TRK_FREQ (w32i ((f : Int) - d.f0 * 1000000))
  if now != was then d.trkRecord 0x0503 now else d

/-- One-flutter limit of a rate of change in mHz/s, in µHz: the flutter lasts an eighth of a tracked cycle (R217, R218). -/
def Dev.trkLimit (d : Dev) (rate : Nat) : Int := if d.loc.freq = 0 then 0 else (rate * 125000000 / d.loc.freq : Nat)

/-- The correlation of samples, oldest first, with the fundamental, each weighted; real and imaginary part (R248). -/
def correlate (w : Nat → Int) : Nat → List Int → Int × Int
  | _, [] => (0, 0)
  | n, x :: r =>
    let (re, im) := correlate w (n + 1) r
    let ph := n % 128 * 2 ^ 25
    (re + w n * x * Config.cosT ph, im - w n * x * Config.sinT ph)

/-- The one-cycle DFT of a channel position's samples that ended some ticks ago, times 2^30 (R214, R215). -/
def Dev.cycleDft (d : Dev) (n back : Nat) : Int × Int :=
  correlate (fun _ => 1) 0 ((((d.chan n).s.drop back).take 128).map (·.v)).reverse

/-- Is the amplitude of a one-cycle DFT, 2/128 of its magnitude, at least so many codes (R215)? (DESIGN CHOICE: notes/assumptions/39) -/
def ampAtLeast (x : Int × Int) (codes : Nat) : Bool := decide ((codes * 2 ^ 36) ^ 2 ≤ x.1.natAbs ^ 2 + x.2.natAbs ^ 2)

/-- Candidates look at their validity at a flutter boundary (R215). -/
def Dev.trkCands (d : Dev) : Dev :=
  foldUp 4 (fun i d =>
    let n := d.refPos i
    let amp := if ampAtLeast (d.cycleDft n 0) (d.rdN Reg.FLT_TRK_MIN_AMP) then tget 0 d.loc.ampCnt i + 1 else 0
    let ok := d.refEn i && !d.invalid n && decide (8 ≤ amp)
    let vc := if ok then tget 0 d.loc.validCnt i + 1 else 0
    ({ d with loc := { d.loc with ampCnt := tset 0 d.loc.ampCnt i amp, validCnt := tset 0 d.loc.validCnt i vc } }).putB Reg.FLT_TRK_STATUS (8 + i) ok) d

/-- TRACKER_UPDATE (R214 to R218). -/
def Dev.trkFlutter (d : Dev) : Dev :=
  let d := d.trkCands
  let best := (List.range 4).find? (fun i => d.flag Reg.FLT_TRK_STATUS (8 + i))
  match best with
  | some b =>
    let sel := d.trkSel
    let keep := d.trkState = 1 && d.flag Reg.FLT_TRK_STATUS (8 + sel)
    if d.trkState = 1 then
      let d := if keep then d else d.trkRef b
      let n := d.refPos d.trkSel
      let step := Config.trackStep (d.fld Reg.FLT_TRK_CFG 1 0) (d.cycleDft n 0) (d.cycleDft n 16) d.loc.freq
      let lim := d.trkLimit (d.rdN Reg.FLT_TRK_ROCOF_MAX)
      d.trkFreq ((d.loc.freq : Int) + clampI (- lim) lim step)
    else
      let d := if sel = b then d else d.trkRef b
      ({ d with loc := { d.loc with holdCnt := 0 } }).trkSet 1
  | none =>
    if d.trkState = 1 then
      (({ d with loc := { d.loc with holdCnt := 0 } }).trkSet 2).trkRecord 0x0502 false
    else if d.trkState = 2 then { d with loc := { d.loc with holdCnt := d.loc.holdCnt + 1 } }
    else if d.trkState = 3 then
      let f0 : Int := d.f0 * 1000000
      let diff := f0 - d.loc.freq
      let lim := d.trkLimit 1000
      let d := d.trkFreq (d.loc.freq + clampI (- lim) lim diff)
      if (d.loc.freq : Int) = f0 then d.trkSet 0 else d
    else d

/-- TRK_HOLD_LIMIT (R218). -/
def Dev.trkHoldLimit (d : Dev) : Dev :=
  if d.trkState = 2 && d.fld Reg.FLT_TRK_HOLD_LIM 15 0 ≤ d.loc.holdCnt then d.trkSet 3 else d

/-- TRK_REF_RETURN: a candidate of higher priority has been valid for 64 flutters (R216). -/
def Dev.trkReturn (d : Dev) : Dev :=
  if d.trkState = 1 then
    match (List.range d.trkSel).find? (fun i => decide (64 ≤ tget 0 d.loc.validCnt i)) with
    | some i => d.trkRef i
    | none => d
  else d

/-- The tracker as it starts on entry to SELFTEST and on a load (R218). -/
def Dev.trkStart (d : Dev) : Dev :=
  let d := { d with loc := { d.loc with freq := d.f0 * 1000000, holdCnt := 0, ampCnt := [], validCnt := [] } }
  (d.wrN Reg.FLT_TRK_STATUS 0).wrN Reg.FLT_TRK_FREQ 0

/-! Phase resets (R229 to R233). -/

/-- The marked edge of a phase reset: the first modulator clock edge after the request, whose phase within a clock of 10.24 MHz is not known (R230, R233): its output time in
units. (DESIGN CHOICE: notes/assumptions/49) -/
def Dev.markedEdge (d : Dev) : Nat × Dev := (d.tim.out + 1 + d.free.1 % 419430400000, d.free.2)

/-- PHASE_RESET: the decimators, the resampler positions and the tick counts restart at the marked edge, every position carries SETTLE, checks abort, and a calibration
repeats its step; a DECSYNC record. `src` is 0 for the pin, 1 for the command; none for the reset at the end of power-up calibration, whose code is not stated. (DESIGN CHOICE: notes/assumptions/46, 49) -/
def Dev.phaseReset (d : Dev) (src : Option Nat) : Dev :=
  let d := { d with loc := { d.loc with ticks := 0, cycles := 0, pos := 0, posLp := 0, resetAt := some d.tim.clk, base := [0, 0, 0, 0, 0], edge := true,
                                        flutAt := 0, cycAt := 0, frameAt := 0 } }
  let d := d.ckReset
  let d := if src.isSome then d.calExtend else d
  let d := foldUp 256 (fun n d => d.settleStart n) d
  let (e, d) := d.markedEdge
  let d := ((d.wrN Reg.FLT_SYNC_SEC_LO (e / unitSec)).wrN Reg.FLT_SYNC_SEC_HI (e / unitSec / 2 ^ 32 % 2 ^ 16)).wrN Reg.FLT_SYNC_NS (e % unitSec / unitNs)
  let d := if src.isSome then d.incW Reg.FLT_DECSYNC_CNT 1 else d
  let (v, d) := match src with | some s => (s, d) | none => (d.free.1 % 256, d.free.2)
  (d.record 0x0504 (be 1 v ++ zeros 3 ++ be 4 (d.rdN Reg.FLT_DECSYNC_CNT) ++ zeros 8)).raise Reg.FLT_INT_STATUS 0

/-- A request for a phase reset is accepted, or ignored while DECSYNC_EN is 0 or within 1 ms of the last (R229). (DESIGN CHOICE: notes/assumptions/49) -/
def Dev.decsync (d : Dev) (src : Nat) : Dev :=
  let soon := match d.loc.resetAt with
    | some c => decide (d.tim.clk < c + ticksMs 1)
    | none => false
  if d.flag Reg.FLT_CTL 0 && !soon then d.phaseReset (some src) else d.inc Reg.FLT_DECSYNC_IGN_CNT 1

/-! Registers of the FLT block that show its state (R243 to R246). -/

/-- A fade of a channel position has begun (R201, R203). -/
def Chan.fades (c : Chan) : Bool := match c.fade with | some f => f.waiting.isNone | none => false

/-- The request of a channel position that is pending, as a target: one held during a fade, or one due at the next tick (R200, R203). -/
def Chan.pendTarget (c : Chan) : Option Nat :=
  match c.pend, c.fade with
  | some (b, _), _ => some b
  | none, some f => if f.waiting = some 0 then some f.bank else none
  | none, none => none

/-- FLT_CH[n]_STATUS: LIVE and FADING change when the fade begins (R199, R244). -/
def Dev.fltStatus (d : Dev) (n : Nat) : Word :=
  let c := d.chan n
  let live := match c.fade with | some f => (if c.fades then f.bank else 1 - f.bank) | none => c.live
  w32 (live + 2 * b2n c.fades + 4 * b2n c.pendTarget.isSome + 8 * c.pendTarget.getD 0 + 16 * c.swapLast + 128 * b2n c.freeze.isSome
    + 256 * b2n (match c.freeze with | some f => f.host | none => false) + 512 * b2n (d.maFill n)
    + 1024 * sumN ((List.range 4).map (fun u => if (tget (false, 0) d.loc.thr (4 * n + u)).1 then 2 ^ u else 0)))

/-- Computed registers. -/
def Dev.fltReg (d : Dev) (a : Nat) : Option Word :=
  if a = Reg.FLT_STATUS then
    some (w32 (((List.range 256).filter (fun n => d.flag (Reg.FLT_CH_CFG n) 6)).length % 32
      + 256 * ((d.loc.chans.filter (fun p => p.2.freeze.isSome)).length % 32) + 2 ^ 16 * b2n (d.loc.chans.any (fun p => p.2.fades))))
  else if Reg.FLT_CH_CFG 0 ≤ a && a < Reg.FLT_CH_CFG 256 then
    let n := (a - Reg.FLT_CH_CFG 0) / 0x40
    if a = Reg.FLT_CH_STATUS n then some (d.fltStatus n)
    else if a = Reg.FLT_CH_DC_EST n then some (w32i ((d.chan n).m / 2 ^ 24))
    else if a = Reg.FLT_CH_GD n then some (w32 (d.groupDelay n))
    else none
  else none

end Sys2Proof.Machine
end

