-- ==== Sys2Proof/Machine/Phasor.lean ====
section
/-! DEFINITION. Sys2Proof/Machine/Phasor.lean: phasor estimates, interpolation to the reporting instant, fast detectors, the sub-synchronous watch
and the AO pins (chapter 6). -/

namespace Sys2Proof.Machine

/-! Angles. -/

/-- One turn of 2^32. -/
def turn : Nat := 2 ^ 32

/-- An angle mapped to the half-open range from −½ to +½ turn (R255). -/
def wrapT (v : Int) : Int := (v + 2 ^ 31) % 2 ^ 32 - 2 ^ 31

/-- Scale of the fraction bits that estimates keep (R192). -/
def fxQ : Nat := 2 ^ Config.fxBits

/-! Estimates (R248 to R253). -/

/-- The Hann weight of R249, times 2^31. -/
def hann (len n : Nat) : Int := 2 ^ 30 - Config.cosT ((2 * n + 1) * 2 ^ 31 / len % 2 ^ 32)

/-- The latest `n` timestamps' mean: instant of the window's centre (R250). -/
def Dev.windowMid (d : Dev) (n : Nat) : Int := ((d.loc.stamps.head?.getD 0 : Nat) + (d.loc.stamps.getD (n - 1) 0 : Nat)) / 2

/-- One-flutter frequency in µHz times `fxQ` (R255). -/
def oneFlutter (f0 : Nat) (a b : Est) : Int :=
  let dt := a.tc - b.tc
  f0 * 1000000 * fxQ + (if 0 < dt then rdiv (wrapT ((a.psi : Int) - b.psi) * 1000000000 * 1000000 * fxQ) dt.toNat else 0)

/-- Mean of the one-flutter frequencies of the last `m` estimates, and whether each is valid (R256, R257). -/
def meanF (m : Nat) (l : List Est) : Int × Bool :=
  let w := l.take m
  (rdiv (sumI (w.map (·.f1))) m, w.length == m && w.all (·.f1ok))

/-- A new estimate put on the history: angle, magnitude, frequency, ROCOF (R248 to R257). `x` holds the window's samples, newest first. -/
def Dev.estimate (d : Dev) (n : Nat) (x : List Samp) (len m : Nat) (w : Nat → Int) (scale : Nat) (ok : Bool) (hist : List Est) : List Est :=
  let old := (x.map (·.v)).reverse
  let (re, im) := correlate w 0 old
  let tc := d.windowMid len - (d.groupDelay n * unitNs : Nat)
  let rot := d.fld (Reg.PHS_CH_CFG n) 31 16 * 2 ^ 16
  let frac := (tc % (unitSec : Int)).toNat
  let arg := Config.atan2 im re % turn
  let psi := (((arg + (len - 1) * 2 ^ 24 + rot : Nat) : Int) - (rdivN (d.f0 * frac * turn) unitSec : Nat)) % (turn : Int)
  let mag := isqrt (2 * (re.natAbs ^ 2 + im.natAbs ^ 2) * fxQ ^ 2) / scale
  let oor := d.flag Reg.FLT_TRK_STATUS 2 || d.trkState != 1
  let e : Est := ⟨tc, psi.toNat, mag, arg, ok, oor, 0, false, 0, false, 0, false⟩
  let e := match hist with
    | p :: _ => { e with f1 := oneFlutter d.f0 e p, f1ok := ok && p.ok }
    | [] => e
  let (f, fok) := meanF m (e :: hist)
  let e := { e with f := f, fok := fok }
  let e := match hist[m - 1]? with
    | some p =>
      let dt := e.tc - p.tc
      { e with rocof := (if 0 < dt then rdiv ((f - p.f) * unitSec) (1000 * dt.toNat) else 0), rok := fok && p.fok }
    | none => e
  (e :: hist).take 528

/-- Both estimates of a channel position (R247 to R249, R252). -/
def Dev.phsChan (d : Dev) (n : Nat) : Dev :=
  let c := d.chan n
  let w := d.fld Reg.PHS_CTL 5 0
  let lenM := 128 * w
  let xp := c.s.take 128
  let xm := c.s.take lenM
  let okP := xp.length == 128 && xp.all (·.ok) && !xp.any (·.lp)
  let okM := xm.length == lenM && xm.all (·.ok)
  let p := d.estimate n xp 128 8 (fun _ => 1) (128 * 2 ^ 30) okP c.estP
  let m := d.estimate n xm lenM (8 * w) (hann lenM) (lenM / 2 * 2 ^ 61) okM c.estM
  d.modChan n (fun c => { c with estP := p, estM := m })

/-- The class that a channel position delivers (R258): 0 P, 1 M. -/
def Dev.classOf (d : Dev) (n : Nat) : Nat := if d.chLp n then 1 else d.fld (Reg.PHS_CH_CFG n) 0 0

/-- Estimates of the delivering class. -/
def Dev.ests (d : Dev) (n : Nat) : List Est := if d.classOf n = 1 then (d.chan n).estM else (d.chan n).estP

/-! Interpolation (R259 to R261). -/

/-- Linear interpolation at `num`/`den`. -/
def lerp (a b : Int) (num den : Nat) : Int := a + rdiv ((b - a) * num) den

/-- Time quality of a wingbeat's boundary and whether a slew ran there; the present ones where the boundary is not held (R115, R260). (DESIGN CHOICE: notes/assumptions/176) -/
def Dev.qualOf (d : Dev) (wb : Nat) : Nat × Bool := (d.grid.tqs.lookup wb).getD (d.tq, d.tim.slew.isSome)

/-- The interpolated phasor at the reporting instant of a wingbeat, in units, between estimates a and b (R259, R260). -/
def Dev.interp (d : Dev) (n : Nat) (a b : Est) (wb tr : Nat) : Deliv :=
  let den := (b.tc - a.tc).toNat
  let num := ((tr : Int) - a.tc).toNat
  let psi := ((a.psi : Int) + rdiv (wrapT ((b.psi : Int) - a.psi) * num) den) % (turn : Int)
  let mag := (lerp a.mag b.mag num den).toNat
  { time := tr / unitNs, tq := (d.qualOf wb).1, valid := a.ok && b.ok, cls := d.classOf n, lp := d.chLp n, slew := (d.qualOf wb).2, oor := a.oor || b.oor,
    mag := rdivN mag fxQ, magX := mag, ang := rdivN psi.toNat (2 ^ 16) % 2 ^ 16,
    f := rdiv (lerp a.f b.f num den) fxQ - d.f0 * 1000000, rocof := rdiv (lerp a.rocof b.rocof num den) fxQ, fok := a.fok && b.fok }

/-- Reporting instants (second and k) from a to b, b excluded, in units. -/
def boundariesIn (rate : Nat) (a b : Int) : List (Nat × Nat) :=
  if rate = 0 || a < 0 then []
  else
    let s := a.toNat / unitSec
    let k0 := (a.toNat % unitSec) * rate / unitSec
    ((List.range (((b - a).toNat * rate) / unitSec + 3)).map (fun j => (s + (k0 + j) / rate, (k0 + j) % rate))).filter
      (fun p => decide (a ≤ (boundaryAt rate p.1 p.2 : Int)) && decide ((boundaryAt rate p.1 p.2 : Int) < b))

/-- The consecutive estimates, of a history newest first, between which a time lies (R259). -/
def bracket : List Est → Int → Option (Est × Est)
  | b :: a :: r, t => if a.tc ≤ t && t < b.tc then some (a, b) else bracket (a :: r) t
  | _, _ => none

/-- The phasors that the latest estimate of a channel position completes, each with its wingbeat: every reporting instant after the last one delivered, whichever class
delivered that (R258, R259). -/
def Dev.delivered (d : Dev) (n : Nat) : List (Nat × Deliv) :=
  match d.ests n with
  | b :: a :: r =>
    (boundariesIn d.rate ((d.chan n).rptAt.elim a.tc (fun t => (t : Int) + 1)) b.tc).filterMap (fun p =>
      let tr := boundaryAt d.rate p.1 p.2
      (bracket (b :: a :: r) tr).map (fun e => (p.1 * d.rate + p.2, d.interp n e.1 e.2 (p.1 * d.rate + p.2) tr)))
  | _ => []

/-- A delivered phasor shown in the channel position's registers (R283). -/
def Dev.noteDeliv (d : Dev) (n : Nat) (r : Deliv) : Dev :=
  d.modChan n (fun c => { c with rpt := some r, rptCnt := (c.rptCnt + 1) % 65536, rptAt := some (r.time * unitNs) })

/-- The magnitude that the roost takes, rounded once from the interpolated one (R261), and whether it was clamped. -/
def Dev.roostMag (d : Dev) (n magX : Nat) : Nat × Bool :=
  let v := rdivN (magX * d.rdN (Reg.PHS_CH_SCALE n)) (2 ^ 24 * fxQ)
  (min v 65535, decide (65535 < v))

/-- The status word of R284 for a delivered phasor. -/
def Dev.phsStatus (d : Dev) (n : Nat) : Word :=
  let c := d.chan n
  match c.rpt with
  | none => w32 (32 * b2n c.ssw.1)
  | some r => w32 (b2n r.valid + 2 * r.cls + 4 * b2n r.lp + 8 * b2n r.slew + 16 * b2n r.oor + 32 * b2n c.ssw.1 + 2 ^ 16 * c.rptCnt)

/-- PHS_CH_STATUS_READ (R283): the latest interpolated phasor in the read view. -/
def Dev.phsCapture (d : Dev) (i : Iface) (n : Nat) : Word × Dev :=
  let c := d.chan n
  let v (j : Nat) : Word := match c.rpt, j with
    | some r, 0 => w32 r.mag
    | some r, 1 => w32 r.ang
    | some r, 2 => w32i r.f
    | some r, 3 => w32 (cx 16 (clampS 16 r.rocof) + (if r.rocof < 0 then 0xFFFF0000 else 0))
    | some r, 4 => w32 (r.time / 1000000000)
    | some r, 5 => w32 (r.time % 1000000000)
    | some r, 6 => w32 r.tq
    | _, 7 => if n < 192 then w32 c.ssw.2.1 else 0
    | _, 8 => if n < 192 then w32 c.ssw.2.2 else 0
    | _, _ => 0
  (d.phsStatus n, d.view i (Reg.PHS_CH_MAG n) 9 v)

/-! REREFERENCE (R254). -/

/-- At the first lock every stored estimate moves by D, the loaded time less the elapsed time, and its angle by f0 × D turns. (DEDUCED: notes/assumptions/48) -/
def Dev.rereference (d : Dev) (delta : Int) : Dev :=
  let rot := rdiv (delta * d.f0 * turn) unitSec
  let mv (e : Est) : Est := { e with tc := e.tc + delta, psi := (((e.psi : Int) - rot) % (turn : Int)).toNat }
  let d := { d with loc := { d.loc with
    stamps := d.loc.stamps.map (fun (s : Nat) => ((s : Int) + delta).toNat)
    chans := d.loc.chans.map (fun (p : Nat × Chan) =>
      (p.1, { p.2 with rptAt := p.2.rptAt.map (fun (t : Nat) => ((t : Int) + delta).toNat), estP := p.2.estP.map mv, estM := p.2.estM.map mv, res := p.2.res.map (fun (r : Int × Int × Bool) => (r.1 + delta, r.2)) })) } }
  d.putB Reg.PHS_STATUS 0 true

/-! Sub-synchronous watch (R274 to R278). -/

/-- The residual of a flutter's 16 samples, newest first, in codes with the fraction bits of estimates: the mean of each sample less the fundamental that an estimate whose
window ends with them reconstructs (R274). -/
def residual (x : List Int) (e : Est) : Int :=
  let peak : Int := isqrt (2 * e.mag ^ 2)
  let fund (j : Nat) : Int := peak * Config.cosT ((e.arg + (127 - j) * 2 ^ 25) % turn)
  rdiv (sumI ((List.range 16).map (fun j => x.getD j 0 * fxQ * 2 ^ 30 - fund j))) (16 * 2 ^ 30)

/-- A residual of each local channel for the flutter (R274). -/
def Dev.sswFlutter (d : Dev) (n : Nat) : Dev :=
  if d.flag Reg.PHS_CTL 8 && n < 192 then
    let c := d.chan n
    match d.ests n with
    | e :: _ =>
      let t : Int := ((d.loc.stamps.take 16).foldl (· + ·) 0 / 16 : Nat)
      let r := residual ((c.s.take 16).map (·.v)) e
      d.modChan n (fun c => { c with res := ((t, r, e.ok) :: c.res).take 512 })
    | [] => d
  else d

/-- The sum of R275 at a frequency over residuals, oldest first, numbered from j: real and imaginary part. -/
def sswSum (f : Nat) : Nat → List (Int × Int) → Int × Int
  | _, [] => (0, 0)
  | j, (t, r) :: l =>
    let (re, im) := sswSum f (j + 1) l
    let ph := (f * (t % (unitSec : Int)).toNat * turn / unitSec) % turn
    (re + hann 512 j * r * Config.cosT ph, im - hann 512 j * r * Config.sinT ph)

/-- The ratio of a bin's amplitude to a magnitude, in 2^−16 ppm: the Hann weights of 512 residuals sum to 256 (R275). -/
def sswRatio (f : Nat) (pts : List (Int × Int)) (mag : Nat) : Nat :=
  let s := sswSum f 0 pts
  isqrt (2 * (s.1.natAbs ^ 2 + s.2.natAbs ^ 2)) * 1000000 * 2 ^ 16 / (2 ^ 69 * max 1 mag)

/-- The largest bin from LOW to HIGH, as a ratio in 2^−16 ppm of the fundamental, and its frequency (R275). -/
def sswPeak (res : List (Int × Int × Bool)) (mag low high : Nat) : Nat × Nat :=
  let pts := (res.map (fun r => (r.1, r.2.1))).reverse
  let bins := (List.range 46).filter (fun f => decide (low ≤ f) && decide (f ≤ high))
  bins.foldl (fun (best : Nat × Nat) f =>
    let a := sswRatio f pts mag
    if best.1 < a then (a, f) else best) (0, low)

/-- The watch at a tracked-cycle boundary (R275, R276). -/
def Dev.sswCycle (d : Dev) (n : Nat) : Dev :=
  let c := d.chan n
  let ok := c.res.length == 512 && c.res.all (fun r => r.2.2)
  let mag := ((d.ests n).head?.map (·.mag)).getD 0
  if d.flag Reg.PHS_CTL 8 && n < 192 then
    let p := sswPeak c.res mag 2 45
    d.modChan n (fun c => { c with ssw := (ok, if ok then min (rdivN p.1 (2 ^ 16)) 0xFFFFFFFF else c.ssw.2.1, if ok then p.2 else c.ssw.2.2) })
  else d.modChan n (fun c => { c with ssw := (false, c.ssw.2) })

/-! Fast detectors (R266 to R271). -/

/-- A detector is held in its safe state (R756). (DEDUCED: notes/assumptions/80) -/
def Dev.forced (d : Dev) (key : Nat) : Bool := tget 0 d.saf.forced key != 0

/-- The flag of a detector: its own, or set while it is forced. (DEDUCED: notes/assumptions/80) -/
def Dev.detFlag (d : Dev) (k : Nat) : Bool := d.flag (Reg.PHS_DET_STATUS k) 7 || d.forced k

/-- A detector's quantity in 2^−16 of the unit of its type, as it is compared (R251, R266), none where it can make no evaluation (R269). -/
def Dev.detValue (d : Dev) (k : Nat) : Option Int :=
  let cfg := Reg.PHS_DET_CFG k
  let ty := d.fld cfg 2 0
  let ch := d.fld cfg 19 12
  let ref := d.fld cfg 27 20
  let e := (d.chan ch).estP
  if (ty ≤ 3 && (d.chLp ch || (ty = 3 && d.chLp ref))) then none
  else if ty = 1 then
    match e[0]?, e[8]? with
    | some a, some b =>
      if a.ok && b.ok && b.fok then
        let dev := rdiv ((b.f - d.f0 * 1000000 * fxQ) * (a.tc - b.tc) * turn) (1000000 * fxQ * unitSec)
        some (wrapT ((a.psi : Int) - b.psi - dev))
      else none
    | _, _ => none
  else if ty = 2 then
    match e[0]?, e[8]?, e[16]? with
    | some a, some b, some c =>
      if a.ok && b.ok && c.ok then
        let rate (x y : Est) : Int := rdiv (wrapT ((x.psi : Int) - y.psi) * unitSec * 1000000000) (turn * (x.tc - y.tc).toNat)
        some (rdiv ((rate a b - rate b c) * 2 * unitSec * 2 ^ 16) (1000000 * (a.tc - c.tc).toNat))
      else none
    | _, _, _ => none
  else if ty = 3 then
    match e[0]?, ((d.chan ref).estP)[0]? with
    | some a, some b =>
      if a.ok && b.ok then some (wrapT ((a.psi : Int) - b.psi - (d.fld (Reg.PHS_DET_AUX k) 15 0 * 2 ^ 16 : Nat))) else none
    | _, _ => none
  else
    let c := d.chan ch
    if c.ssw.1 then some ((sswPeak c.res (((d.ests ch).head?.map (·.mag)).getD 0) (d.fld (Reg.PHS_DET_AUX k) 7 0) (d.fld (Reg.PHS_DET_AUX k) 15 8)).1) else none

/-- The criterion and the release of R268. -/
def detMet (pol : Nat) (q level : Int) : Bool := if pol = 1 then decide (level < q) else if pol = 2 then decide (q < - level) else decide (level < q.natAbs)
def detReleased (pol : Nat) (q level hyst : Int) : Bool :=
  if pol = 1 then decide (q ≤ level - hyst) else if pol = 2 then decide (- (level - hyst) ≤ q) else decide ((q.natAbs : Int) ≤ level - hyst)

/-- Fields of PHS_DET[d]_STATUS. -/
structure DetSt where
  st : Nat
  count : Nat
  lpSusp : Bool
  flag : Bool
  deriving DecidableEq, Repr

/-- The state table of R270 on one evaluation instant: the quantity, or none; whether low-power mode is why. (DEDUCED: notes/assumptions/47) -/
def detStep (pol confirm invAct : Nat) (level hyst : Int) (q : Option Int) (lp : Bool) (s : DetSt) : DetSt :=
  match q with
  | none => ⟨3, 0, lp, if invAct = 1 then false else if invAct = 2 then true else s.flag⟩
  | some q =>
    let st := if s.st = 3 then (if s.flag then 2 else 0) else s.st
    if s.st = 3 then ⟨st, s.count, false, s.flag⟩
    else if st = 2 then (if detReleased pol q level hyst then ⟨0, s.count, false, false⟩ else ⟨2, s.count, false, true⟩)
    else if detMet pol q level then
      let c := if st = 1 then s.count + 1 else 1
      if confirm ≤ c then ⟨2, s.count, false, true⟩ else ⟨1, c, false, s.flag⟩
    else ⟨0, if st = 1 then 0 else s.count, false, s.flag⟩

/-- An ON or OFF record of a detector (R270). -/
def Dev.detRecord (d : Dev) (k : Nat) (on : Bool) (v : Int) : Dev :=
  let ty := d.fld (Reg.PHS_DET_CFG k) 2 0
  d.record (if on then 0x0601 else 0x0602) (be 1 k ++ be 1 ty ++ be 1 (d.fld (Reg.PHS_DET_CFG k) 19 12) ++ zeros 1 ++ beI 4 v ++ zeros 8)

/-- A change of a detector's flag as seen outside: the active map, the bus (R271). -/
def Dev.detPublish (d : Dev) (k : Nat) : Dev :=
  let f := d.detFlag k
  let d := d.putB (Reg.PHS_DET_ACTIVE (k / 32)) (k % 32) f
  if d.flag (Reg.PHS_DET_CFG k) 11 then d.busHold d.ns [(448 + k, f)] else d

/-- Event-bus signals 64 to 511 as their sources drive them: flags of active threshold units with BUS_EN, and of detectors with BUS_EN (R228, R271, R594). -/
def Dev.busDriven (d : Dev) : Nat :=
  let thr := d.regs.foldl (fun (b : Nat) x =>
    if Reg.FLT_THR_CFG 0 0 ≤ x.1 && x.1 < Reg.FLT_THR_CFG 256 0 && x.1 % 16 == 0 && bit x.2 6 && (tget (false, 0) d.loc.thr ((x.1 - Reg.FLT_THR_CFG 0 0) / 16)).1
    then b ||| 2 ^ (64 + bits x.2 24 16) else b) 0
  (List.range 64).foldl (fun (b : Nat) k => if d.flag (Reg.PHS_DET_CFG k) 11 && d.detFlag k then b ||| 2 ^ (448 + k) else b) thr

/-- Signals whose source is assigned or taken away by a commit take the level that is driven, 0 where none is (R228, R271, R594). -/
def Dev.busReview (d : Dev) : Dev :=
  let b := d.busDriven
  let ch := ((List.range 448).map (64 + ·)).filterMap (fun s =>
    if d.acq.bus.testBit s == b.testBit s && !d.acq.todo.any (fun c => c.1 == s) then none else some (s, b.testBit s))
  if ch = [] then d else d.busHold d.ns ch

/-- DETECTOR_EVAL (R270). (DEDUCED: notes/assumptions/47) -/
def Dev.detEval (d : Dev) (k : Nat) : Dev :=
  let cfg := Reg.PHS_DET_CFG k
  let sa := Reg.PHS_DET_STATUS k
  let ty := d.fld cfg 2 0
  let q := d.detValue k
  let lp := ty ≤ 3 && (d.chLp (d.fld cfg 19 12) || (ty = 3 && d.chLp (d.fld cfg 27 20)))
  let s : DetSt := ⟨d.fld sa 1 0, d.fld sa 5 2, d.flag sa 6, d.flag sa 7⟩
  let n := detStep (d.fld cfg 4 3) (d.fld cfg 8 5) (d.fld cfg 10 9) (d.rdN (Reg.PHS_DET_LEVEL k) * 2 ^ 16) (d.rdN (Reg.PHS_DET_HYST k) * 2 ^ 16) q lp s
  let d := d.wrN sa (n.st + 4 * n.count + 64 * b2n n.lpSusp + 128 * b2n n.flag)
  let d := match q with | some v => d.wrS (Reg.PHS_DET_VALUE k) (rdiv v (2 ^ 16)) | none => d
  let v := sx 32 (d.rdN (Reg.PHS_DET_VALUE k))
  let d := if n.lpSusp && !s.lpSusp then d.raise Reg.PHS_INT_STATUS 4 else d
  let d := if n.st = 2 && s.st ≠ 2 then d.inc (Reg.PHS_DET_ON_CNT k) 1 else d
  let d := if n.st = 2 && s.st ≠ 2 && s.st ≠ 3 then (d.detRecord k true v).raise Reg.PHS_INT_STATUS (if ty = 4 then 2 else 0) else d
  let d := if n.st = 0 && s.st = 2 then (d.detRecord k false v).raise Reg.PHS_INT_STATUS 1 else d
  d.detPublish k

/-- Detectors evaluated at flutter boundaries, and those at tracked-cycle boundaries. -/
def Dev.detFlutter (d : Dev) : Dev := foldUp 64 (fun k d => let ty := d.fld (Reg.PHS_DET_CFG k) 2 0; if ty = 1 || ty = 2 || ty = 3 then d.detEval k else d) d
def Dev.detCycle (d : Dev) : Dev := foldUp 64 (fun k d => if d.fld (Reg.PHS_DET_CFG k) 2 0 = 4 then d.detEval k else d) d

/-! AO pins (R279 to R281). -/

/-- An AO pin. -/
def Ao.start : Ao := ⟨none, false, false, 0, []⟩
def Dev.ao (d : Dev) (a : Nat) : Ao := tget Ao.start d.loc.aos a
def Dev.modAo (d : Dev) (a : Nat) (f : Ao → Ao) : Dev := { d with loc := { d.loc with aos := tset Ao.start d.loc.aos a (f (d.ao a)) } }

/-- A fast source of a pin is active. -/
def Dev.aoFast (d : Dev) (a : Nat) : Bool :=
  (List.range 64).any (fun k => d.flag (if k < 32 then Reg.PHS_AO_SRC_LO a else Reg.PHS_AO_SRC_HI a) (k % 32) && d.detFlag k)

/-- The level of a pin from its sources, its minimum hold and its latch (R279, R280); a pin outside SAF_AO_SAFETY is high at alarm level, one in it is
de-energised (R754). -/
def Dev.aoStep (d : Dev) (a : Nat) : Dev :=
  let fast := d.aoFast a
  let p := d.ao a
  let was := d.flag (Reg.PHS_AO_STATUS a) 2
  let hold := if fast && !was then some (d.tim.clk + ticksMs (d.fld (Reg.PHS_AO_CFG a) 15 8)) else p.holdTo
  let latched := p.latched || (fast && d.flag (Reg.PHS_AO_CFG a) 0)
  let alarm := fast || latched || p.wide != [] || (match hold with | some t => decide (d.tim.clk < t) | none => false)
  let d := d.modAo a (fun p => { p with holdTo := hold, latched := latched, alarm := alarm, since := if alarm && !p.alarm then d.tim.clk else p.since })
  let d := d.wrN (Reg.PHS_AO_STATUS a) (b2n alarm + 2 * b2n latched + 4 * b2n fast + 8 * b2n (p.wide != []))
  { d with pins := { d.pins with aoCmd := if d.pins.aoCmd.testBit a = alarm then d.pins.aoCmd else d.pins.aoCmd ^^^ 2 ^ a } }

/-- All pins. -/
def Dev.aoAll (d : Dev) : Dev := foldUp 16 (fun a d => d.aoStep a) d

/-- A wide-area source of pins named in a mask becomes active or not: kind and index (R279). -/
def Dev.aoWide (d : Dev) (key mask : Nat) (on : Bool) : Dev :=
  foldUp 16 (fun a d =>
    if mask.testBit a || !on then
      (d.modAo a (fun p => { p with wide := if on then (if p.wide.contains key then p.wide else p.wide ++ [key]) else p.wide.filter (· != key) })).aoStep a
    else d) d

/-- AO_MIN_HOLD_END: the hold of a pin is over (R280). -/
def Dev.aoHoldEnd (d : Dev) (a : Nat) : Dev :=
  match (d.ao a).holdTo with
  | some t => if t ≤ d.tim.clk then (d.modAo a (fun p => { p with holdTo := none })).aoStep a else d
  | none => d

/-- Some source of a pin is active (R279). -/
def Dev.aoSource (d : Dev) (a : Nat) : Bool := d.aoFast a || (d.ao a).wide != []

/-- AO_UNLATCH waits for its flutter boundary; the bit of a pin with an active source is ignored when it is written (R280, R281). -/
def Dev.aoUnlatch (d : Dev) (mask : Nat) : Dev :=
  let m := sumN ((List.range 16).map (fun a => if mask.testBit a && !d.aoSource a then 2 ^ a else 0))
  if m = 0 then d else { d with loc := { d.loc with unlatch := d.loc.unlatch ++ [(m, d.tim.clk)] } }

/-- The first flutter boundary at least 2 µs after a write applies it (R281). -/
def Dev.aoUnlatchApply (d : Dev) : Dev :=
  let due := d.loc.unlatch.filter (fun x => decide (x.2 + ticksUs 2 ≤ d.tim.clk))
  due.foldl (fun (d : Dev) x => foldUp 16 (fun a d => if x.1.testBit a then d.modAo a (fun p => { p with latched := false }) else d) d)
    { d with loc := { d.loc with unlatch := d.loc.unlatch.filter (fun x => !decide (x.2 + ticksUs 2 ≤ d.tim.clk)) } }

/-! The flutter boundary of the local path (R43, R223, R247). -/

/-- Frequency and ROCOF thresholds of a channel position (R223, R227). -/
def Dev.thrFlutter (d : Dev) (n : Nat) : Dev :=
  let e := (d.ests n).head?
  foldUp 4 (fun u d =>
    let qty := d.fld (Reg.FLT_THR_CFG n u) 1 0
    if qty = 2 || qty = 3 then
      d.thrEval n u fxQ (match e with
        | some e =>
          if d.invalid n || !e.ok then none
          else if qty = 2 then (if e.fok then some (e.f - d.f0 * 1000000 * fxQ) else none)
          else (if e.rok then some e.rocof else none)
        | none => none)
    else d) d

/-- An estimate that turns invalid raises EST_INVALID (R282). -/
def Dev.estWatch (d : Dev) (n : Nat) : Dev :=
  match d.ests n with
  | a :: b :: _ => if b.ok && !a.ok then d.raise Reg.PHS_INT_STATUS 3 else d
  | _ => d

/-- One channel position at a flutter boundary. -/
def Dev.phsFlutter (d : Dev) (n : Nat) : Dev := (((d.phsChan n).estWatch n).sswFlutter n).thrFlutter n

/-- Registers of the PHS block that show its state (R282). -/
def Dev.phsReg (d : Dev) (a : Nat) : Option Word :=
  if a = Reg.PHS_STATUS then
    some (setBits (d.rd a) 14 8 (((List.range 64).filter (fun k => d.fld (Reg.PHS_DET_STATUS k) 1 0 == 2)).length))
  else
    (List.range 64).findSome? (fun k => if a = Reg.PHS_DET_STATUS k then some (setBits (d.rd a) 7 7 (b2n (d.detFlag k))) else none)

end Sys2Proof.Machine
end

