-- ==== Sys2Proof/Machine/Frames.lean ====
section
/-! DEFINITION. Sys2Proof/Machine/Frames.lean: the bytes of frames: Ethernet, IPv4, UDP and TCP headers with their checksums (R920, R312),
the redundancy trailer (R298, R299) and the addresses of the ports (R330, R925). -/

namespace Sys2Proof.Machine

/-- The sum of 16-bit words, most significant byte first, an odd last byte padded with zero. -/
def sum16 : Bytes → Nat
  | [] => 0
  | [a] => a.toNat * 256
  | a :: b :: r => a.toNat * 256 + b.toNat + sum16 r

/-- Ones' complement of the ones' complement sum. -/
def csum (b : Bytes) : Nat :=
  let s := sum16 b
  65535 - (if s = 0 then 0 else (s - 1) % 65535 + 1)

/-- An Ethernet header with an optional tag of identifier and priority. (PRESUMED: notes/assumptions/25) -/
def ethHdr (dst src : Nat) (tag : Option (Nat × Nat)) (etype : Nat) : Bytes :=
  be 6 dst ++ be 6 src ++ (match tag with
    | some (vid, pcp) => be 2 0x8100 ++ be 2 (pcp * 8192 + vid % 4096)
    | none => []) ++ be 2 etype

/-- Offset of the first byte after the EtherType that follows any tag. -/
def l3Of (b : Bytes) : Nat := if beAt b 12 2 = 0x8100 then 18 else 14

/-- An IPv4 header with its checksum (R920): TOS byte, total length, identification, TTL, protocol, addresses. (PRESUMED: notes/assumptions/25) -/
def ipHdr (tos len ident ttl proto src dst : Nat) : Bytes :=
  let h (c : Nat) := be 1 0x45 ++ be 1 tos ++ be 2 len ++ be 2 ident ++ be 2 0x4000 ++ be 1 ttl ++ be 1 proto ++ be 2 c ++ be 4 src ++ be 4 dst
  h (csum (h 0))

/-- The checksum of a UDP or TCP part under its pseudo-header; UDP sends 0xFFFF for zero. -/
def l4Csum (src dst proto : Nat) (part : Bytes) : Nat := csum (be 4 src ++ be 4 dst ++ be 2 proto ++ be 2 part.length ++ part)

/-- A UDP datagram with its checksum. -/
def udpPart (src dst sport dport : Nat) (payload : Bytes) : Bytes :=
  let h (c : Nat) := be 2 sport ++ be 2 dport ++ be 2 (8 + payload.length) ++ be 2 c ++ payload
  let c := l4Csum src dst 17 (h 0)
  h (if c = 0 then 65535 else c)

/-- An IPv4 packet with a UDP datagram (R920): DSCP, TTL, addresses, ports, payload. -/
def udpPacket (dscp ttl src dst sport dport : Nat) (payload : Bytes) : Bytes :=
  ipHdr (dscp * 4) (28 + payload.length) 0 ttl 17 src dst ++ udpPart src dst sport dport payload

/-- The MAC address of a multicast IPv4 group, or 0 for another address. -/
def groupMac (ip : Nat) : Nat := if ip / 2 ^ 28 = 0xE then 0x01005E000000 + ip % 2 ^ 23 else 0

/-- A port is a member of an active PRP pair. -/
def Dev.pairActive (d : Dev) (p : Nat) : Bool := p < 4 && d.flag Reg.NET_CTL (p / 2)

/-- The LAN A port of a pair. -/
def lanA (p : Nat) : Nat := p / 2 * 2

/-- The port whose addresses a port's frames carry (R925). -/
def Dev.addrPort (d : Dev) (p : Nat) : Nat := if d.pairActive p then lanA p else p

/-- MAC address of a port. -/
def Dev.mac (d : Dev) (p : Nat) : Nat := d.fld (Reg.NET_PORT_MAC_HI p) 15 0 * 2 ^ 32 + d.rdN (Reg.NET_PORT_MAC_LO p)

/-- IPv4 address of a port, of LAN A for a pair (R925). -/
def Dev.ip (d : Dev) (p : Nat) : Nat := d.rdN (Reg.ING_PORT_IPV4 (d.addrPort p))

/-- A frame padded to `n` bytes. -/
def padTo (n : Nat) (b : Bytes) : Bytes := b ++ zeros (n - b.length)

/-- A frame with its redundancy trailer (R298, R299). (PRESUMED: notes/assumptions/25) -/
def withRct (b : Bytes) (seq lan : Nat) : Bytes := b ++ be 2 seq ++ be 2 (lan * 4096 + (b.length - l3Of b + 6) % 4096) ++ be 2 0x88FB

/-- The redundancy trailer of a received frame (R300): sequence number and LAN identifier. -/
def rctOf (b : Bytes) : Option (Nat × Nat) :=
  let n := b.length
  if 24 ≤ n && beAt b (n - 2) 2 = 0x88FB && beAt b (n - 4) 2 % 4096 = n - l3Of b then some (beAt b (n - 6) 2, beAt b (n - 4) 2 / 4096) else none

/-- One segment of a job (R312): template, MSS, payload, index and number of segments. -/
def segment (tpl payload : Bytes) (mss i n : Nat) : Bytes :=
  let l := l3Of tpl
  let data := (payload.drop (i * mss)).take mss
  let src := beAt tpl (l + 12) 4
  let dst := beAt tpl (l + 16) 4
  let ip := ipHdr (byteAt tpl (l + 1)) (tpl.length - l + data.length) ((beAt tpl (l + 4) 2 + i) % 65536) (byteAt tpl (l + 8)) 6 src dst
  let fl := byteAt tpl (l + 33)
  let fl := if i = 0 then fl else fl - (fl / 128 % 2) * 128
  let fl := if i + 1 = n then fl else fl - (fl / 8 % 2) * 8 - fl % 2
  let tcp (c : Nat) := (tpl.drop (l + 20)).take 4 ++ be 4 (beAt tpl (l + 24) 4 + i * mss) ++ (tpl.drop (l + 28)).take 5 ++ be 1 fl
    ++ (tpl.drop (l + 34)).take 2 ++ be 2 c ++ tpl.drop (l + 38)
  let c := l4Csum src dst 6 (tcp 0 ++ data)
  tpl.take l ++ ip ++ tcp c ++ data

/-- The segments of a job (R311). -/
def segments (tpl payload : Bytes) (mss : Nat) : List Bytes :=
  let n := cdiv payload.length mss
  (List.range n).map (fun i => segment tpl payload mss i n)

/-- The checksum of the UDP datagram in a frame computed anew (R100). -/
def fixUdp (b : Bytes) : Bytes :=
  let l := l3Of b
  let n := beAt b (l + 24) 2
  let part := patch ((b.drop (l + 20)).take n) 6 [0, 0]
  let c := l4Csum (beAt b (l + 12) 4) (beAt b (l + 16) 4) 17 part
  patch b (l + 26) (be 2 (if c = 0 then 65535 else c))

end Sys2Proof.Machine
end

