-- ==== Sys2Proof/Machine/Time.lean ====
section
/-! DEFINITION. Sys2Proof/Machine/Time.lean: the time base and synchronisation (chapter 3): domain states, the switch and its slew,
PPS, IRIG-B, the twin exchange, leap seconds, snapshots. -/

namespace Sys2Proof.Machine

/-! Domain states (R104). -/

/-- An increment held within nominal ±500 ppm (R81). -/
def clampIncr (i : Nat) : Nat := min 10742786949 (max 10732049531 i)

/-- The increment a servo update leaves: what the servo asks for, held within its range (R81). (DESIGN CHOICE: notes/assumptions/21) -/
def servoIncr (ofs : List Int) (incr : Nat) : Nat := clampIncr (Config.servo ofs incr)

/-- A servo update sent to both wings for a tick 2 µs ahead: a step of the counter of a domain and its new increment (R84). (DESIGN CHOICE: notes/assumptions/167) -/
def Dev.sendUpdate (d : Dev) (k : Nat) (step : Int) (incr : Nat) : Dev :=
  { d with tim := { d.tim with srv := d.tim.srv ++ [⟨d.tim.clk + ticksUs 2, k, step, incr⟩] } }

/-- Updates of a domain that wait for their tick. -/
def Dev.waiting (d : Dev) (k : Nat) : List SrvUpd := d.tim.srv.filter (fun u => u.dom == k)

/-- The counter of a domain with the steps that wait for their tick. -/
def Dev.domAhead (d : Dev) (k : Nat) : Int := ((d.dom k).val : Int) + sumI ((d.waiting k).map (·.step))

/-- The increment of a domain with the updates that wait for their tick. -/
def Dev.incrAhead (d : Dev) (k : Nat) : Nat := ((d.waiting k).getLast?.map (·.incr)).getD (d.dom k).incr

/-- Lock threshold of a domain in units. -/
def Dev.lockThr (d : Dev) (k : Nat) : Nat := d.rdN (Reg.TIM_DOM_LOCK_THR k) * unitNs

/-- A domain enters a state, with its accuracy estimate on entry (R919). -/
def Dev.enterDom (d : Dev) (k : Nat) (st : DomSt) : Dev :=
  let acc := (d.accEst k).getD 0
  let d := d.modDom k (fun m => { m with st := st, since := d.tim.clk, accAt := acc, lockCnt := 0, badCnt := 0 })
  match st with
  | .locked => d.raise Reg.TIM_INT_STATUS 0
  | .holdover => d.raise Reg.TIM_INT_STATUS 4
  | .lost => d.raise Reg.TIM_INT_STATUS 5
  | .free => d
  | .acquire => d

/-- The condition of a return to domain n under R113: REVERT set, n the preferred domain, LOCKED and not selected. (DEDUCED: notes/assumptions/37) -/
def Dev.returnDue (d : Dev) (n : Nat) : Bool :=
  d.flag Reg.TIM_CTL 1 && d.tim.lockedOnce && d.fld Reg.TIM_CTL 0 0 == n && (d.dom n).st == .locked && d.tim.sel != n

/-- A switch raised under R113 lasts as long as its condition; any other ends with that of R108. (DEDUCED: notes/assumptions/37) -/
def Dev.keepReturn (d : Dev) (x : Option (Nat × Nat)) : Option (Nat × Nat) := x.filter (fun y => y.2 == 2 && d.returnDue y.1)

/-- The conditions of R108 and R113 looked at again: a switch is raised when the other domain is LOCKED and the selected one is not; a switch that waits and
one that was refused end with the condition that raised them (R108, R109, R113). (DEDUCED: notes/assumptions/37) -/
def Dev.reviewSwitch (d : Dev) : Dev :=
  let other := 1 - d.tim.sel
  let cond := d.tim.lockedOnce && (d.dom other).st == .locked && (d.dom d.tim.sel).st != .locked
  if cond then
    if d.tim.pending.isNone && (d.tim.refused.all (fun x => x.2 == 2)) then
      { d with tim := { d.tim with pending := some (other, 0), refused := none } }
    else d
  else { d with tim := { d.tim with pending := d.keepReturn d.tim.pending, refused := d.keepReturn d.tim.refused } }

/-- The source of a domain has a time value for a past tick: `v` at `ago` ticks before now. A servo update, or the source's becoming
valid (R104). What it does to the counter applies 2 µs later (R84). -/
def Dev.domUpdate (d : Dev) (k v ago : Nat) : Dev :=
  let m := d.dom k
  let vNow := v + ago * m.incr
  let ofs : Int := (vNow : Int) - d.domAhead k
  let big := decide (1000000 * unitNs < ofs.natAbs)
  let ofs16 := (ofs :: m.ofs).take 16
  let now := d.incrAhead k
  let i := servoIncr ofs16 now
  let upd (d : Dev) : Dev := (d.sendUpdate k 0 i).modDom k (fun m => { m with ofs := ofs16, incrs := (i :: m.incrs).take 16, missed := 0 })
  match m.st with
  | .free => ((d.sendUpdate k ofs now).enterDom k .acquire).modDom k (fun m => { m with missed := 0, ofs := [] }) |>.reviewSwitch
  | .holdover => ((d.enterDom k .acquire).modDom k (fun m => { m with missed := 0 })).reviewSwitch
  | .lost => ((d.enterDom k .acquire).modDom k (fun m => { m with missed := 0 })).reviewSwitch
  | .acquire =>
    if big then (d.sendUpdate k ofs now).modDom k (fun m => { m with ofs := ofs16, lockCnt := 0, missed := 0 })
    else if ofs.natAbs ≤ d.lockThr k then
      if 16 ≤ m.lockCnt + 1 then ((upd d).enterDom k .locked).reviewSwitch
      else (upd d).modDom k (fun m => { m with lockCnt := m.lockCnt + 1 })
    else (upd d).modDom k (fun m => { m with lockCnt := 0 })
  | .locked =>
    if 4 * d.lockThr k < ofs.natAbs then
      if 4 ≤ m.badCnt + 1 then ((upd d).enterDom k .acquire).reviewSwitch
      else (upd d).modDom k (fun m => { m with badCnt := m.badCnt + 1 })
    else (upd d).modDom k (fun m => { m with badCnt := 0 })

/-- An edge that serves the frequency only, some ticks after the one before (R93). -/
def Dev.domFreq (d : Dev) (k ticks : Nat) : Dev :=
  (d.sendUpdate k 0 (clampIncr (Config.servoFreq ticks (d.incrAhead k)))).modDom k (fun m => { m with missed := 0 })

/-- The source code of a domain (R86, R128). -/
def Dev.domSrc (d : Dev) (k : Nat) : Nat := d.fld (Reg.TIM_DOM_CFG k) 2 0

/-- The port or input of a domain's source. -/
def Dev.domPort (d : Dev) (k : Nat) : Nat := d.fld (Reg.TIM_DOM_CFG k) 5 3

/-- The PTP state of a port. -/
def PtpPort.start : PtpPort := ⟨0, 0, 0, 0, none, none, none, none⟩

/-- The PTP state of a port. -/
def Dev.ptp (d : Dev) (p : Nat) : PtpPort := tget PtpPort.start d.tim.ports p

/-- The PTP state of a port changed. -/
def Dev.modPtp (d : Dev) (p : Nat) (f : PtpPort → PtpPort) : Dev :=
  { d with tim := { d.tim with ports := tset PtpPort.start d.tim.ports p (f (d.ptp p)) } }

/-- A port holds no grandmaster any more: an Announce must be accepted before a Sync counts (R104). -/
def Dev.dropGm (d : Dev) (p : Nat) : Dev := d.modPtp p (fun s => { s with gm := none, syncRx := none })

/-- The source of a domain is lost (R104): LOCKED freezes the increment at its mean over the last 16 updates. (DEDUCED: notes/assumptions/97) -/
def Dev.domLost (d : Dev) (k : Nat) : Dev :=
  let d := if d.domSrc k = 1 then d.dropGm (d.domPort k) else d
  let m := d.dom k
  let cnt (d : Dev) := d.inc (Reg.TIM_DOM_LOSS_CNT k) 1
  match m.st with
  | .acquire => (cnt (d.enterDom k .free)).reviewSwitch
  | .locked =>
    let mean := if m.incrs = [] then m.incr else rdivN (m.incrs.foldl (· + ·) 0) m.incrs.length
    (cnt ((d.enterDom k .holdover).sendUpdate k 0 mean)).reviewSwitch
  | .free => d
  | .holdover => d
  | .lost => d

/-! The switch of domains (R107 to R113). -/

/-- Action 4 of R62: a switch that is due starts its slew, or is refused when its offset is too large (R108, R109, R111, R112); a return that is no longer due is dropped (R113). (DEDUCED: notes/assumptions/32, 37) -/
def Dev.domainSwitch (d : Dev) : Dev :=
  match d.tim.pending.filter (fun x => x.2 != 2 || d.returnDue x.1) with
  | none => { d with tim := { d.tim with pending := none } }
  | some (n, why) =>
    let ofs : Int := ((d.dom n).val : Int) - (d.tim.out : Int)
    let ofsNs : Int := rdiv ofs unitNs
    let body := be 1 d.tim.sel ++ be 1 n ++ be 1 (b2n (why == 1)) ++ zeros 5 ++ beI 8 ofsNs
    if why ≠ 1 && decide (d.rdN Reg.TIM_SWITCH_MAX_OFS * unitNs < ofs.natAbs) then
      ({ (d.record 0x0303 body) with tim := { d.tim with pending := none, refused := some (n, why) } }).raise Reg.TIM_INT_STATUS 3
    else
      let d := { d with tim := { d.tim with pending := none, refused := none, sel := n, slew := some (d.tim.slew.getD d.tim.clk) } }
      (d.record 0x0302 body).raise Reg.TIM_INT_STATUS 1

/-- SLEW_DONE (R110, R111, R918): the residual is below 2.5 ns and the output time follows the domain from now on. (DEDUCED: notes/assumptions/32) -/
def Dev.slewDone (d : Dev) : Dev :=
  match d.tim.slew with
  | none => d
  | some t0 =>
    if d.resid.natAbs < nomIncr then
      let dur := (d.tim.clk - t0) * 5 / 2
      let d := { d with tim := { d.tim with slew := none } }
      (d.record 0x0304 (be 1 d.tim.sel ++ zeros 7 ++ be 8 dur)).raise Reg.TIM_INT_STATUS 2
    else d

/-- DOMAIN_REVERT (R113): with REVERT set and the preferred domain LOCKED for 60 s, a switch back to it is raised. (DEDUCED: notes/assumptions/37) -/
def Dev.domainRevert (d : Dev) : Dev :=
  let p := d.fld Reg.TIM_CTL 0 0
  if d.returnDue p && decide (ticksSec 60 ≤ d.tim.clk - (d.dom p).since) && d.tim.pending.isNone && d.tim.refused.isNone then
    { d with tim := { d.tim with pending := some (p, 2) } }
  else d

/-- FORCE_SWITCH written 1 (R109, R126): starts an outstanding refused switch at the next boundary. -/
def Dev.forceSwitch (d : Dev) : Dev :=
  match d.tim.refused with
  | some (n, _) => { d with tim := { d.tim with refused := none, pending := some (n, 1) } }
  | none => d

/-- HOLD_LIM seconds have passed in HOLDOVER: the domain is LOST (R104). -/
def Dev.holdoverLimit (d : Dev) (k : Nat) : Dev :=
  if (d.dom k).st = .holdover && decide (ticksSec (d.rdN (Reg.TIM_DOM_HOLD_LIM k)) ≤ d.tim.clk - (d.dom k).since) then
    (d.enterDom k .lost).reviewSwitch
  else d

/-! PPS (R91 to R93). -/

/-- A PPS input. -/
def Dev.pps (d : Dev) (n : Nat) : Pps := if n = 0 then d.tim.pps0 else d.tim.pps1

/-- A PPS input changed. -/
def Dev.modPps (d : Dev) (n : Nat) (f : Pps → Pps) : Dev :=
  if n = 0 then { d with tim := { d.tim with pps0 := f d.tim.pps0 } } else { d with tim := { d.tim with pps1 := f d.tim.pps1 } }

/-- TIM_PPS_TOD_ARM: the value written is armed for the first edge at least 10 µs later (R92). -/
def Dev.ppsArm (d : Dev) (n : Nat) : Dev :=
  (d.wrN (Reg.TIM_PPS_TOD_ARM n) 1).modPps n (fun p => { p with armedAt := some d.tim.clk })

/-- An edge of a PPS input (R91 to R93): it marks the armed second, as TOD_LO and TOD_HI hold it at the edge, or the one after the last marked second, or
none. (DESIGN CHOICE: notes/assumptions/168) -/
def Dev.ppsEdge (d : Dev) (n : Nat) : Dev :=
  if d.flag (Reg.TIM_PPS_CFG n) 0 then
    let p := d.pps n
    let dly := d.fld (Reg.TIM_PPS_CFG n) 31 16
    let armed := match p.armedAt with
      | some a => decide (ticksUs 10 ≤ d.tim.clk - a)
      | none => false
    let mark : Option Nat := if armed then some (d.rdN (Reg.TIM_PPS_TOD_LO n) + 2 ^ 32 * d.fld (Reg.TIM_PPS_TOD_HI n) 15 0)
      else p.last.map (· + 1)
    let d := if armed then (d.wrN (Reg.TIM_PPS_TOD_ARM n) 0).modPps n (fun p => { p with armedAt := none }) else d
    let gap := p.edge.map (fun e => d.tim.clk - e)
    let d := d.modPps n (fun p => { p with last := mark, edge := some d.tim.clk })
    let d := d.wrN (Reg.TIM_PPS_LAST_NS n) ((d.ns + 1000000000 - dly % 1000000000) % 1000000000)
    foldUp 2 (fun k d =>
      if d.domSrc k = 2 && d.domPort k = n then
        let d := d.modDom k (fun m => { m with stated := 10 * unitNs, trace := false, leap := none, utc := none })
        match mark, gap with
        | some s, _ => d.domUpdate k (s * unitSec + dly * unitNs) 0
        | none, some g => d.domFreq k g
        | none, none => d
      else d) d
  else d

/-! IRIG-B (R94 to R97, R124). -/

/-- Days from 1 January 1970 to 1 January of a year. -/
def daysTo (y : Nat) : Nat := 365 * (y - 1970) + ((y - 1) / 4 - 1969 / 4) - ((y - 1) / 100 - 1969 / 100) + ((y - 1) / 400 - 1969 / 400)

/-- The year of an IRIG frame: from TIM_IRIG_YEAR with B002, none while that is zero (R96); else the two digits in the frame. (DESIGN CHOICE: notes/assumptions/34) -/
def Dev.irigYear (d : Dev) (f : IrigFrame) : Option Nat :=
  if d.fld Reg.TIM_IRIG_CFG 1 0 = 0 then
    (if d.fld Reg.TIM_IRIG_YEAR 15 0 = 0 then none else some (d.fld Reg.TIM_IRIG_YEAR 15 0))
  else some (2000 + f.year)

/-- TAI − UTC. -/
def Dev.leapOfs (d : Dev) : Int := sx 16 (d.rdN Reg.TIM_LEAP_OFS)

/-- TAI second of an IRIG frame (R97): local offset removed, TIM_LEAP_OFS added. A frame of second 60, and one of the day that a leap second has ended,
taken after the change is converted with the offset in force before it (R124). (DESIGN CHOICE: notes/assumptions/34) -/
def Dev.irigTai (d : Dev) (f : IrigFrame) (y : Nat) : Nat :=
  let ext := d.fld Reg.TIM_IRIG_CFG 1 0 = 1
  let utc : Int := (((daysTo y + f.day - 1) * 86400 + f.hour * 3600 + f.minute * 60 + f.second : Nat) : Int) - (if ext then f.localOfs else 0)
  let ofs := match d.ing.leapAt with
    | some (a, o) => if utc + d.leapOfs < a || (f.second = 60 && d.sec < a + 60) then o else d.leapOfs
    | none => d.leapOfs
  (utc + ofs).toNat

/-- An IRIG frame whose on-time point was `ago` ticks before now: used, or counted and not used (R97). A frame whose parity fails gives no time: the frame
before it stays the one that the next is held against. (DESIGN CHOICE: notes/assumptions/34, 166) -/
def Dev.irigFrame (d : Dev) (f : IrigFrame) : Dev :=
  let code := d.fld Reg.TIM_IRIG_CFG 1 0
  let dly := d.fld Reg.TIM_IRIG_CFG 31 16
  let reject (d : Dev) : Dev :=
    foldUp 2 (fun k d =>
      if d.domSrc k = 3 then
        let d := d.modDom k (fun m => { m with missed := m.missed + 1 })
        if 3 ≤ (d.dom k).missed then d.domLost k else d
      else d) (d.inc Reg.TIM_IRIG_ERR_CNT 1)
  if code = 1 && !f.parityOk then reject d
  else
    match d.irigYear f with
    | none => d
    | some y =>
      let s := d.irigTai f y
      let prev := d.tim.irig
      let d := { d with tim := { d.tim with irig := some s } }
      if prev.isSome && prev ≠ some (s - 1) then reject d
      else
        let q := if code = 1 then f.quality else 0
        let stated := if code = 1 && 1 ≤ q && q ≤ 0xB then max 1000 (10 ^ (q - 1)) else if code = 1 && 0xB < q then 10 ^ 10 + 1 + Config.accPast else 1000
        foldUp 2 (fun k d =>
          if d.domSrc k = 3 then
            let d := d.modDom k (fun m => { m with stated := stated * unitNs, trace := code = 1 && q = 0, leap := if code = 1 then some f.leap else none, utc := none })
            d.domUpdate k (s * unitSec + dly * unitNs) f.ago
          else d) d

/-! Leap seconds (R119 to R122). -/

/-- TAI − UTC by which the day of a pending leap second is told: currentUtcOffset of the source that gives its flags, else TIM_LEAP_OFS (R120). (DEDUCED: notes/assumptions/169) -/
def Dev.dayOfs (d : Dev) : Int := ((d.dom d.tim.sel).utc).getD d.leapOfs

/-- The TAI instant at which UTC 00:00:00 of the next day begins, with a leap second pending (R121). -/
def Dev.leapInstant (d : Dev) (del : Bool) : Nat :=
  let utc := ((d.sec : Int) - d.dayOfs).toNat
  ((((utc / 86400 + 1) * 86400 : Nat) : Int) + d.dayOfs + (if del then -1 else 1)).toNat

/-- LEAP_PEND_START (R122): from 60 s before the leap second LEAP_PEND is set. -/
def Dev.leapPendStart (d : Dev) : Dev :=
  match d.leapPending with
  | none => d
  | some del =>
    let at' := d.leapInstant del
    let start := if del then at' else at' - 1
    if d.tim.lockedOnce && decide (start ≤ d.sec + 60) then
      { d with tim := { d.tim with leapAt := some (at', del), leapPend := true, leapDir := del } }
    else d

/-- LEAP (R121): at the instant the offset changes by one and a LEAP record is written; a leap second that no longer pends is dropped (R120). -/
def Dev.leap (d : Dev) : Dev :=
  match d.tim.leapAt with
  | none => d
  | some (at', del) =>
    if d.leapPending ≠ some del then { d with tim := { d.tim with leapAt := none, leapPend := false } }
    else if d.tim.leapPend && decide (at' ≤ d.sec) then
      let ofs := d.leapOfs + (if del then -1 else 1)
      let d := d.putF Reg.TIM_LEAP_OFS 15 0 (cx 16 ofs)
      let d := d.putB Reg.TIM_LEAP_CTL 0 false
      let occ := (if del then at' else at' - 1) + 86400
      let d := { d with tim := { d.tim with leapAt := none, leapPend := false, leapOcc := some occ } }
      (d.record 0x0305 (be 1 (b2n del) ++ zeros 1 ++ beI 2 ofs ++ zeros 12)).raise Reg.TIM_INT_STATUS 6
    else d

/-- LEAP_OCC_END (R122). -/
def Dev.leapOccEnd (d : Dev) : Dev :=
  match d.tim.leapOcc with
  | some u => if u ≤ d.sec then { d with tim := { d.tim with leapOcc := none } } else d
  | none => d

/-! Snapshots, PPS_OUT and the registers that show the time base. -/

/-- TIM_SNAP written 1: output and elapsed time copied on one tick (R125). -/
def Dev.timSnap (d : Dev) : Dev :=
  let s := d.sec
  let e := d.elapsed
  ((((((d.wrN Reg.TIM_OUT_SEC_LO s).wrN Reg.TIM_OUT_SEC_HI (s / 2 ^ 32 % 2 ^ 16)).wrN Reg.TIM_OUT_NS d.nsIn).wrN
    Reg.TIM_OUT_FRAC (d.tim.out % unitNs)).wrN Reg.TIM_ELAPSED_SEC (e / unitSec)).wrN Reg.TIM_ELAPSED_NS (e / unitNs % 1000000000))

/-- PPS_OUT (R131): high from the top of a second for WIDTH ms; before the first lock only with ELAPSED set. -/
def Dev.ppsOut (d : Dev) : Dev :=
  let hi := (d.tim.lockedOnce || d.flag Reg.TIM_PPS_OUT_CTL 0) && decide (d.nsIn < d.fld Reg.TIM_PPS_OUT_CTL 7 1 * 1000000)
  { d with pins := { d.pins with ppsOut := hi } }

/-- The code of a domain state in TIM_DOM_STATE. -/
def domCode : DomSt → Nat
  | .free => 0
  | .acquire => 1
  | .locked => 2
  | .holdover => 3
  | .lost => 4

/-- Registers of the TIM block that show the state of the time base (R125, R127). (DEDUCED: notes/assumptions/14) -/
def Dev.timReg (d : Dev) (a : Nat) : Option Word :=
  if a = Reg.TIM_STATUS then
    some (w32 (b2n d.tim.lockedOnce + d.tim.sel * 2 + b2n d.tim.slew.isSome * 4 + d.tq * 8))
  else if a = Reg.TIM_EPOCH then some (w32 d.nv.powerEpoch)
  else if a = Reg.TIM_SLEW_RESID then
    some (if d.tim.slew.isSome then w32i (clampS 32 (rdiv d.resid unitNs)) else 0)
  else if a = Reg.TIM_LEAP_CTL then some (setBits (d.rd a) 2 2 (b2n (d.dom d.tim.sel).leap.isSome))
  else
    (List.range 2).findSome? (fun k =>
      let m := d.dom k
      if a = Reg.TIM_DOM_STATE k then some (w32 (domCode m.st))
      else if a = Reg.TIM_DOM_OFS k then some (w32i (clampS 32 (rdiv ((m.val : Int) - d.tim.out) unitNs)))
      else if d.domSrc k = 1 && a = Reg.TIM_DOM_GM_ID_LO k then some (w32 (((d.ptp (d.domPort k)).gm.map (·.id)).getD 0))
      else if d.domSrc k = 1 && a = Reg.TIM_DOM_GM_ID_HI k then some (w32 (((d.ptp (d.domPort k)).gm.map (·.id)).getD 0 / 2 ^ 32))
      else if d.domSrc k = 1 && a = Reg.TIM_DOM_PATH_DLY k then some (w32i (clampS 32 (rdiv (d.ptp (d.domPort k)).delay unitNs)))
      else if a = Reg.TIM_DOM_INCR_LO k then some (w32 m.incr)
      else if a = Reg.TIM_DOM_INCR_HI k then some (w32 (m.incr / 2 ^ 32 % 256))
      else if a = Reg.TIM_DOM_ACC k then some (match d.accEst k with | none => w32 0xFFFFFFFF | some e => w32 (min (rdivN e unitNs) 0xFFFFFFFF))
      else none)

end Sys2Proof.Machine
end

