-- ==== Sys2Proof/Machine/Ptp.lean ====
section
/-! DEFINITION. Sys2Proof/Machine/Ptp.lean: the PTP messages that the device sends (R87 to R90, R99 to R101, R306), in the formats of
IEEE 1588-2019. PRESUMED: the message formats are those of the standard that R87 names; the spec does not print them. -/

namespace Sys2Proof.Machine

/-- ROLE of a port: 0 none, 1 slave, 2 master (R129). -/
def Dev.ptpRole (d : Dev) (p : Nat) : Nat := d.fld (Reg.TIM_PORT_PTP_CFG p) 1 0

/-- The domain that a port disciplines (R88). -/
def Dev.ptpDom (d : Dev) (p : Nat) : Option Nat :=
  (List.range 2).find? (fun k => d.fld (Reg.TIM_DOM_CFG k) 2 0 = 1 && d.fld (Reg.TIM_DOM_CFG k) 5 3 = p)

/-- The domain whose PTP_DOMAIN and PROFILE a port uses: the one it disciplines, and the selected one on a master port. -/
def Dev.ptpCfg (d : Dev) (p : Nat) : Word := d.rd (Reg.TIM_DOM_CFG ((d.ptpDom p).getD d.tim.sel))

/-- The clock identity of the device, from the address of port F0. -/
def Dev.clockId (d : Dev) : Nat := d.mac 0 / 2 ^ 24 * 2 ^ 40 + 0xFFFE * 2 ^ 24 + d.mac 0 % 2 ^ 24

/-- sourcePortIdentity of a port. -/
def Dev.portId (d : Dev) (p : Nat) : Bytes := be 8 d.clockId ++ be 2 (p + 1)

/-- A PTP timestamp of a time in units: seconds and ns. -/
def ptpStamp (t : Int) : Bytes := be 6 (t.toNat / unitSec) ++ be 4 (t.toNat / unitNs % 1000000000)

/-- A header of 34 bytes: type, length, flags, sequence. (PRESUMED: notes/assumptions/23) -/
def Dev.ptpHdr (d : Dev) (p typ len flags seq ctrl : Nat) : Bytes :=
  be 1 typ ++ be 1 0x12 ++ be 2 len ++ be 1 (bits (d.ptpCfg p) 15 8) ++ be 1 0 ++ be 2 flags ++ zeros 12 ++ d.portId p ++ be 2 seq ++ be 1 ctrl ++ be 1 0

/-- A PTP message as a frame: over Ethernet or UDP, tagged or not (R87, R129, R920). -/
def Dev.ptpFrame (d : Dev) (p : Nat) (event peer : Bool) (m : Bytes) : Bytes :=
  let c := d.rd (Reg.TIM_PORT_PTP_CFG p)
  let tag := if bits c 15 4 = 0 then none else some (bits c 15 4, bits c 18 16)
  if bit c 3 && p < 4 then
    let dst := if peer then 0xE000006B else 0xE0000181
    let port := if event then 319 else 320
    ethHdr (groupMac dst) (d.mac p) tag 0x0800 ++ udpPacket 0 1 (d.rdN (Reg.ING_PORT_IPV4 p)) dst port port m
  else ethHdr (if peer then 0x0180C200000E else 0x011B19000000) (d.mac p) tag 0x88F7 ++ m

/-- One-step transmission on a port. -/
def Dev.oneStep (d : Dev) (p : Nat) : Bool := d.flag (Reg.TIM_PORT_PTP_CFG p) 2

/-- A Sync message without its origin timestamp. (PRESUMED: notes/assumptions/23) -/
def Dev.syncMsg (d : Dev) (p : Nat) : Bytes := d.ptpHdr p 0 44 (if d.oneStep p then 0 else 0x0200) (d.ptp p).seqSync 0 ++ zeros 10

/-- clockClass of R90. -/
def Dev.clockClass (d : Dev) : Nat :=
  match (d.dom d.tim.sel).st with
  | .locked => 6
  | .holdover => 7
  | .acquire => 7
  | .lost => 52
  | .free => 52

/-- clockAccuracy of IEEE 1588 for a number of ns. -/
def clockAcc (e : Nat) : Nat :=
  (([25, 100, 250, 1000, 2500, 10000, 25000, 100000, 250000, 1000000, 2500000, 10000000, 25000000, 100000000, 250000000, 1000000000,
    10000000000].zipIdx.find? (fun x => decide (e ≤ x.1))).map (fun x => 0x20 + x.2)).getD 0x31

/-- The grandmaster to which the selected domain is slave, if any. -/
def Dev.parent (d : Dev) : Option Gm := if d.domSrc d.tim.sel = 1 then (d.ptp (d.domPort d.tim.sel)).gm else none

/-- An Announce message (R90) with the TLVs of R87, whose bytes the standards give and the spec does not; a boundary clock names the grandmaster that its
selected domain follows, one step further on (R89). (PRESUMED: notes/assumptions/23) -/
def Dev.announceMsg (d : Dev) (p : Nat) : Bytes :=
  let lp := d.leapBits.1
  let flags := (if lp && !d.tim.leapDir then 1 else 0) + (if lp && d.tim.leapDir then 2 else 0) + 4 + 8 + (if d.tq / 16 % 2 = 1 then 16 else 0)
  let tail := (Config.ptpTlvs (d.flag (Reg.TIM_DOM_CFG ((d.ptpDom p).getD d.tim.sel)) 6))
  d.ptpHdr p 0xB (64 + tail.length) flags (d.ptp p).seqAnnounce 5 ++ zeros 10 ++ be 2 (d.rdN Reg.TIM_LEAP_OFS) ++ zeros 1 ++ [Config.ptpByte 0]
    ++ be 1 d.clockClass ++ be 1 (match d.accEst d.tim.sel with | some e => clockAcc (cdiv e unitNs) | none => 0xFE)
    ++ [Config.ptpByte 1, Config.ptpByte 2, Config.ptpByte 3] ++ be 8 ((d.parent.map (·.id)).getD d.clockId)
    ++ be 2 ((d.parent.map (fun g => g.steps + 1)).getD 0) ++ [Config.ptpByte 4] ++ tail

/-- Departure at the reference plane of a frame that starts now (R100). -/
def Dev.departure (d : Dev) (p : Nat) : Int := d.tim.out + d.rdN (Reg.TIM_PORT_TX_LAT p) * unitNs

/-- correctionField in 2^−16 ns of a time in units. -/
def corrOf (t : Int) : Int := t / 65536

/-- correctionField of a message. -/
def corrAt (m : Bytes) (off : Nat) : Int := sx 64 (beAt m (off + 8) 8)

/-- An amount in 2^−16 ns added to the correctionField of the message at an offset of a frame. -/
def addCorr (b : Bytes) (off : Nat) (c : Int) : Bytes := patch b (off + 8) (beI 8 (corrAt b off + c))

/-- A PTP event message leaves (R99 to R101): the frame as it leaves, and the general message that follows it in two-step mode. -/
def Dev.ptpDepart (d : Dev) (p kind : Nat) (stamp : Int) (b : Bytes) : Bytes × Option Bytes × Dev :=
  let udp := beAt b (l3Of b - 2) 2 = 0x0800
  let off := l3Of b + (if udp then 28 else 0)
  let fix (b : Bytes) := if udp then fixUdp b else b
  let dep := d.departure p
  if kind = 2 then (b, none, d.modPtp p (fun s => { s with reqAt := some dep.toNat }))
  else if d.oneStep p then
    if kind = 1 then (fix (addCorr (patch b (off + 34) (ptpStamp dep)) off (corrOf (dep % unitNs))), none, d)
    else (fix (addCorr b off (corrOf (dep - stamp))), none, d)
  else
    let seq := beAt b (off + 30) 2
    if kind = 1 then
      (b, some (d.ptpFrame p false false (addCorr (d.ptpHdr p 8 44 0 seq 2 ++ ptpStamp dep) 0 (corrOf (dep % unitNs)))), d)
    else
      (b, some (d.ptpFrame p false true (addCorr (d.ptpHdr p 0xA 54 0 seq 5 ++ ptpStamp dep ++ (b.drop (off + 44)).take 10) 0 (corrOf (dep % unitNs)))), d)

end Sys2Proof.Machine
end

