-- ==== Sys2Proof/Machine/Net.lean ====
section
/-! DEFINITION. Sys2Proof/Machine/Net.lean: the network ports (chapter 7): links, receive treatment, merged release, duplicate discard,
transmit queues, pause, low-power idle, 10BASE-T1S. -/

namespace Sys2Proof.Machine

/-- A port at reset. (DESIGN CHOICE: notes/assumptions/157) -/
def Port.start : Port := ⟨false, 2, false, false, false, false, false, 0, 0, [], none, none, 0, none, 0, none, none, 0, none, none, 0, 0, 0⟩

/-- A port. -/
def Dev.port (d : Dev) (p : Nat) : Port := tget Port.start d.net.ports p

/-- A port changed. -/
def Dev.modPort (d : Dev) (p : Nat) (f : Port → Port) : Dev :=
  { d with net := { d.net with ports := tset Port.start d.net.ports p (f (d.port p)) } }

/-! Links (R286 to R288, R921). -/

/-- The wing that owns a port. -/
def portOwner (p : Nat) : Nat := if p = 0 || p = 2 || p = 4 || p = 5 then 0 else 1

/-- The mode of a port (R331). -/
def Dev.portMode (d : Dev) (p : Nat) : Nat := d.fld (Reg.NET_PORT_CFG p) 2 1

/-- FEC of a port. -/
def Dev.portFec (d : Dev) (p : Nat) : Nat := if p < 2 then d.fld (Reg.NET_PORT_CFG p) 4 3 else 0

/-- An M port in SGMII. -/
def Dev.isSgmii (d : Dev) (p : Nat) : Bool := (p == 2 || p == 3) && d.portMode p == 0

/-- SPEED_NOW of a port whose link is up (R331). -/
def Dev.speedCode (d : Dev) (p : Nat) : Nat :=
  if p < 2 then 3 else if 4 ≤ p then 0
  else if d.portMode p = 1 then 2
  else if d.flag (Reg.NET_PORT_CFG p) 5 then (d.port p).speed
  else d.fld (Reg.NET_PORT_CFG p) 12 11

/-- Link speed in Mbit/s. -/
def Dev.mbps (d : Dev) (p : Nat) : Nat :=
  if p < 2 then (if d.portMode p = 1 then 25000 else 10000)
  else if d.speedCode p = 0 then 10 else if d.speedCode p = 1 then 100 else 1000

/-- Internal RX_LAT and TX_LAT of the rows of R328 for the three kinds of port. -/
def latRow (p c : Nat) : Int × Int :=
  if p < 2 then [(46, 34), (96, 40), (142, 58), (112, 84), (236, 96)].getD c (46, 34)
  else if p < 4 then [(168, 136), (712, 640), (3912, 3528), (152, 120)].getD c (168, 136)
  else (2350, 1460)

/-- The row of R328 that applies. -/
def Dev.latCond (d : Dev) (p : Nat) : Nat :=
  if p < 2 then (if d.portMode p = 1 then d.portFec p else 3 + d.portFec p)
  else if p < 4 then (if d.portMode p = 1 then 3 else 2 - min 2 (d.speedCode p))
  else 0

/-- RX_LAT and TX_LAT show the internal latency with the external part, as far as their 12 bits hold the sum (R328). -/
def Dev.latShow (d : Dev) (p : Nat) : Dev :=
  let s := d.port p
  let v (a b : Int) : Nat := (clampI 0 4095 (a + b)).toNat
  (d.wrN (Reg.TIM_PORT_RX_LAT p) (v (latRow p s.cond).1 s.extRx)).wrN (Reg.TIM_PORT_TX_LAT p) (v (latRow p s.cond).2 s.extTx)

/-- A change of mode, speed or FEC loads the internal latency and adds the external part (R328). (DESIGN CHOICE: notes/assumptions/57) -/
def Dev.latLoad (d : Dev) (p : Nat) : Dev :=
  if d.latCond p = (d.port p).cond then d else (d.modPort p (fun s => { s with cond := d.latCond p })).latShow p

/-- The loop-back that a port runs, 0 for none (R876). -/
def Dev.portLoop (d : Dev) (p : Nat) : Nat := (d.loop 0 p).mode

/-- Does the port have a link: medium, enable, no loop-back, a wing that is not in repair (R924), no half duplex in SGMII? -/
def Dev.linkWanted (d : Dev) (p : Nat) : Bool :=
  (d.port p).medium && d.flag (Reg.NET_PORT_CFG p) 0 && d.portLoop p == 0 && d.units.repairing != some (portOwner p) && !(d.isSgmii p && (d.port p).half)

/-- The LINK record of a port (R288). -/
def Dev.linkRecord (d : Dev) (p : Nat) (up : Bool) : Dev :=
  (d.record 0x0701 (be 1 p ++ be 1 (b2n up) ++ be 1 (d.speedCode p) ++ be 1 (d.portFec p) ++ zeros 12)).raise
    (Reg.NET_PORT_INT_STATUS p) (if up then 0 else 1)

/-- µs since a clock. -/
def Dev.usSince (d : Dev) (c : Nat) : Nat := (d.tim.clk - c) / ticksUs 1

/-- An SGMII port whose PHY reports half duplex: DUPLEX_ERR follows, and each attempt counts (R287). (DEDUCED: notes/assumptions/55) -/
def Dev.dupCheck (d : Dev) (p : Nat) : Dev :=
  let s := d.port p
  let refused := s.medium && s.half && d.isSgmii p && d.flag (Reg.NET_PORT_CFG p) 0 && d.portLoop p == 0
  if refused = s.dupErr then d
  else (d.modPort p (fun s => { s with dupErr := refused })).inc (Reg.NET_PORT_LINK_DOWN_CNT p) (b2n (refused && !s.link))

/-- PLCA status falls (R324). (DEDUCED: notes/assumptions/58) -/
def Dev.plcaDown (d : Dev) (p : Nat) : Dev :=
  ((d.modPort p (fun s => { s with plca := false, burst := 0 })).record 0x0704 (be 1 p ++ zeros 15)).raise (Reg.NET_PORT_INT_STATUS p) 5

/-- PLCA status comes up; a transmit opportunity may open, and a coordinator transmits the BEACON (R323). (DESIGN CHOICE: notes/assumptions/177) -/
def Dev.plcaRise (d : Dev) (p : Nat) : Dev :=
  let d := d.modPort p (fun s => { s with plca := true, burst := 0, oppAt := d.tim.clk })
  if d.fld (Reg.NET_PORT_PLCA_CFG p) 7 0 = 0 then d.emit (.beacon p) else d

/-- PLCA status of a T port follows PLCA_EN and the link; a coordinator has it while both are there (R323, R324). (DEDUCED: notes/assumptions/58) -/
def Dev.plcaReview (d : Dev) (p : Nat) : Dev :=
  let s := d.port p
  let may := s.link && d.flag (Reg.NET_PORT_CFG p) 8
  if s.plca && !may then d.plcaDown p
  else if 4 ≤ p && !s.plca && may && d.fld (Reg.NET_PORT_PLCA_CFG p) 7 0 == 0 then d.plcaRise p
  else d

/-- A 1000BASE-X port with auto-negotiation advertises symmetric pause equal to PAUSE_EN (R316). (DEDUCED: notes/assumptions/178) -/
def Dev.advertise (d : Dev) (p : Nat) : Dev :=
  if (p == 2 || p == 3) && d.portMode p == 1 && d.flag (Reg.NET_PORT_CFG p) 5 then d.emit (.page p (d.flag (Reg.NET_PORT_CFG p) 6)) else d

/-- The link state follows its conditions; a change writes its record, and with the link the frames that wait are discarded (R288, R921). (DEDUCED: notes/assumptions/55, 58) -/
def Dev.relink (d : Dev) (p : Nat) : Dev :=
  let d := d.dupCheck p
  let want := d.linkWanted p
  if want = (d.port p).link then d.plcaReview p
  else if want then
    (((d.modPort p (fun s => { s with link := true, emptyAt := d.tim.clk })).latLoad p).linkRecord p true).advertise p |>.plcaReview p
  else
    let s := d.port p
    let lost := s.txq.length + b2n s.cur.isSome
    let d := if d.portLoop p = 0 then d else d.incW (Reg.TST_PORT_DISC_CNT p) lost
    let d := if s.lpiAt.isSome then d.incW (Reg.NET_PORT_LPI_US p) (d.usSince (s.lpiAt.getD 0)) else d
    let d := if s.pauseTo.isSome then d.incW (Reg.NET_PORT_TX_PAUSED_US p) (d.usSince s.holdAt) else d
    let d := d.modPort p (fun s => { s with link := false, txq := [], cur := none, follow := none, pauseTo := none, lpiAt := none, wakeTo := none,
                                            coll := 0, backTo := none, emptyAt := d.tim.clk })
    ((d.inc (Reg.NET_PORT_LINK_DOWN_CNT p) 1).linkRecord p false).plcaReview p

/-- LINK_CHANGE: what the medium of a port offers, low-power idle of the partner with it (R287, R288, R322, R331). (DEDUCED: notes/assumptions/55) -/
def Dev.linkChange (d : Dev) (p : Nat) (up : Bool) (speed : Nat) (peer : LinkPeer) : Dev :=
  let d := d.modPort p (fun s => { s with medium := up, speed := speed % 3, half := peer.half, dupErr := false, lpiRx := peer.lpi })
  let d := d.relink p
  if (d.port p).link then d.latLoad p else d

/-! Transmission (R292, R293, R305 to R314). -/

/-- The queue that is served next (R309): the highest that is not empty. -/
def topQueue (l : List (Nat × TxFrame)) : Nat := maxN (l.map (·.1))

/-- The first frame of a queue taken out. -/
def takeFrame : List (Nat × TxFrame) → Nat → Option (TxFrame × List (Nat × TxFrame))
  | [], _ => none
  | (q, f) :: r, k => if q = k then some (f, r) else (takeFrame r k).map (fun x => (x.1, (q, f) :: x.2))

/-- A frame goes on the wire: a PTP event message with the stamp of this departure, and the general message that is to follow it (R100, R101). -/
def Dev.txWire (d : Dev) (p : Nat) (f : TxFrame) : Dev :=
  if f.ptp = 0 then (d.modPort p (fun s => { s with follow := none })).emit (.frame p f.bytes)
  else
    let (b, after, d) := d.ptpDepart p f.ptp f.stamp f.bytes
    (d.modPort p (fun s => { s with follow := after })).emit (.frame p b)

/-- The general message that follows a PTP event message which has left enters its queue (R101). -/
def Dev.txFollow (d : Dev) (p : Nat) : Dev :=
  match (d.port p).follow with
  | some m => d.modPort p (fun s => { s with follow := none, txq := s.txq ++ [(6, ⟨padTo 60 m, 0, 0, false, none⟩)] })
  | none => d

/-- Ticks from the end of a transmit opportunity to the earliest next one: the BEACON, and the opportunities of a cycle in which no other node sends
(R323, R326). (DESIGN CHOICE: notes/assumptions/177) -/
def Dev.plcaCycle (d : Dev) (p : Nat) : Nat :=
  ticksUs 2 + d.fld (Reg.NET_PORT_PLCA_CFG p) 15 8 * d.fld (Reg.NET_PORT_PLCA_CFG p) 23 16 * 40

/-- May a T port under PLCA start a frame: in the open opportunity, or in a new one (R323)? -/
def Port.plcaMay (s : Port) (clk : Nat) : Bool := !s.plca || s.burst != 0 || decide (s.oppAt ≤ clk)

/-- A frame starts in its transmit opportunity; the cycle of a coordinator begins with the BEACON (R323). -/
def Dev.plcaStart (d : Dev) (p : Nat) : Dev :=
  let s := d.port p
  if !s.plca then d
  else
    let d := if s.burst = 0 && d.fld (Reg.NET_PORT_PLCA_CFG p) 7 0 = 0 then d.emit (.beacon p) else d
    d.modPort p (fun s => { s with burst := s.burst + 1 })

/-- A frame has ended: the opportunity ends with the queues empty or after 1 + MAX_BURST frames (R323). -/
def Dev.plcaEnd (d : Dev) (p : Nat) : Dev :=
  let s := d.port p
  if s.plca && (s.txq.isEmpty || decide (d.fld (Reg.NET_PORT_PLCA_CFG p) 31 24 < s.burst)) then
    d.modPort p (fun s => { s with burst := 0, oppAt := d.tim.clk + d.plcaCycle p })
  else d

/-- A port starts the head frame of its highest queue when it may (R309, R316, R321, R323, R325). (DESIGN CHOICE: notes/assumptions/59) -/
def Dev.txStart (d : Dev) (p : Nat) : Dev :=
  let s := d.port p
  if s.txq = [] then d
  else if !s.link then
    let d := if d.portLoop p = 0 then d else d.incW (Reg.TST_PORT_DISC_CNT p) s.txq.length
    d.modPort p (fun s => { s with txq := [] })
  else if s.cur.isSome || s.pauseTo.isSome || s.wakeTo.isSome || s.backTo.isSome || !s.plcaMay d.tim.clk then d
  else
    let q := topQueue s.txq
    match takeFrame s.txq q with
    | none => d
    | some (f, rest) =>
      ((d.modPort p (fun s => { s with txq := rest, cur := some (q, f), coll := 0 })).plcaStart p).txWire p f

/-- CAP of a queue of the device that holds frames (R568, R569). (DESIGN CHOICE: notes/assumptions/179) -/
def devCap (q : Nat) : Nat := 2 + (Config.queDevCapOf q).val

/-- Is there a credit for a transmit queue (R308, R576)? (DESIGN CHOICE: notes/assumptions/179) -/
def Dev.txRoom (d : Dev) (p q : Nat) : Bool :=
  let n := ((d.port p).txq.filter (fun x => x.1 == q)).length
  decide (n < 2) || decide (n < devCap (8 * p + q))

/-- A frame enters a transmit queue against a credit: low-power idle ends, and its wake time runs (R321, R576). The ports of a FAULTED wing send nothing
(R712). (DEDUCED: notes/assumptions/55) -/
def Dev.txPut (d : Dev) (p q : Nat) (f : TxFrame) : Dev :=
  if (d.wing (portOwner p)).role = .faulted || !d.txRoom p q then d else
  let s := d.port p
  let d := match s.lpiAt with
    | some a =>
      let tw := (if d.speedCode p = 2 then 6600 else 12000) + ticksUs (d.fld (Reg.NET_PORT_EEE_CFG p) 23 16)
      (d.modPort p (fun s => { s with lpiAt := none, wakeTo := some (d.tim.clk + tw) })).incW (Reg.NET_PORT_LPI_US p) (d.usSince a)
    | none => d
  (d.modPort p (fun s => { s with txq := s.txq ++ [(q, f)] })).queMax (8 * p + q) ((d.port p).txq.filter (fun x => x.1 == q)).length.succ

/-- A refusal under R293. -/
def Dev.txRefuse (d : Dev) (p q src len : Nat) : Dev :=
  ((d.inc (Reg.NET_PORT_TX_REFUSED p) 1).record 0x0702 (be 1 p ++ be 1 q ++ be 2 src ++ be 4 len ++ zeros 8)).raise (Reg.NET_PORT_INT_STATUS p) 4

/-- MAX_FRM of a port. -/
def Dev.maxFrm (d : Dev) (p : Nat) : Nat := d.fld (Reg.NET_PORT_MAX_FRM p) 13 0

/-- Register of a pair's sequence number. (DEDUCED: notes/assumptions/60) -/
def prpSeqReg (p : Nat) : Nat := if p < 2 then Reg.NET_PRP_TX_SEQ_F else Reg.NET_PRP_TX_SEQ_M

/-- The output that a queued frame belongs to; the segments of a TCP job end with their connection. -/
def Dev.outTag (d : Dev) (job : Bool) : Option (Nat × Nat) := if job then none else d.units.emitting

/-- Frames of an output that wait in a queue or are on the wire (R745, R747): port, queue, frame. -/
def Dev.outFrames (d : Dev) : List (Nat × Nat × TxFrame) :=
  (List.range 8).flatMap (fun p => ((d.port p).cur.toList ++ (d.port p).txq).map (fun x => (p, x)))

/-- Frames enqueued one after the other on one port, without trailer. -/
def Dev.txList (d : Dev) (p q : Nat) (job : Bool) : List Bytes → Dev
  | [] => d
  | b :: r => (d.txPut p q ⟨padTo 60 b, 0, 0, job && r == [], d.outTag job⟩).txList p q job r

/-- Frames enqueued one after the other on both ports of a pair, with consecutive sequence numbers (R305, R307). (DEDUCED: notes/assumptions/60) -/
def Dev.txPair (d : Dev) (p q : Nat) (job : Bool) : List Bytes → Dev
  | [] => d
  | b :: r =>
    let a := lanA p
    let n := (d.fld (prpSeqReg p) 15 0 + 1) % 65536
    let d := d.wrN (prpSeqReg p) n
    let d := { d with units := { d.units with outSeq := tset 0 d.units.outSeq (2165 + a / 2) (n + 1) } }
    let b := padTo 54 (patch b 6 (be 6 (d.mac a)))
    (((d.txPut a q ⟨withRct b n 0xA, 0, 0, job && r == [], d.outTag job⟩).txPut (a + 1) q ⟨withRct b n 0xB, 0, 0, job && r == [], d.outTag job⟩)).txPair p q job r

/-- Frames (one, or the segments of a job) offered for a port's queue by a source: enqueued, or refused whole (R292, R293, R305, R313). -/
def Dev.txSend (d : Dev) (p q src : Nat) (job : Bool) (fs : List Bytes) : Dev :=
  if d.pairActive p then
    let a := lanA p
    let len := maxN (fs.map (fun b => (padTo 54 b).length + 10))
    if min (d.maxFrm a) (d.maxFrm (a + 1)) < len then (d.txRefuse a q src len).txRefuse (a + 1) q src len
    else ((d.txPair p q job fs).txStart a).txStart (a + 1)
  else
    let len := maxN (fs.map (fun b => (padTo 60 b).length + 4))
    if d.maxFrm p < len then d.txRefuse p q src len else (d.txList p q job fs).txStart p

/-- A PTP message for one port, without trailer (R306). -/
def Dev.txPtp (d : Dev) (p kind : Nat) (stamp : Int) (b : Bytes) : Dev :=
  if d.maxFrm p < (padTo 60 b).length + 4 then d.txRefuse p 6 0xFFFF ((padTo 60 b).length + 4)
  else (d.txPut p 6 ⟨padTo 60 b, kind, stamp, false, none⟩).txStart p

/-- The queues of a port may have become empty (R319). -/
def Dev.txIdle (d : Dev) (p : Nat) : Dev :=
  if (d.port p).txq = [] && (d.port p).cur = none then d.modPort p (fun s => { s with emptyAt := d.tim.clk }) else d

/-- FRAME_TRANSMIT_END: the frame on the wire ends, and the next starts (R309, R330). (DESIGN CHOICE: notes/assumptions/59) -/
def Dev.txEnd (d : Dev) (p : Nat) : Dev :=
  match (d.port p).cur with
  | none => d.txStart p
  | some (_, f) =>
    if (d.port p).backTo.isSome then d
    else
      let d := (d.incW (Reg.NET_PORT_TX_FRM p) 1).inc64 (Reg.NET_PORT_TX_OCT_LO p) (Reg.NET_PORT_TX_OCT_HI p) (f.bytes.length + 4)
      let d := if f.lastSeg then d.incW (Reg.NET_PORT_TX_SEG_JOBS p) 1 else d
      ((((d.modPort p (fun s => { s with cur := none, coll := 0 })).txFollow p).plcaEnd p).txStart p).txIdle p

/-! PTP messages sent at their intervals (R87 to R90). -/

/-- PTP_MASTER_SEND: Sync and Announce of a master port, from the first lock on (R90). -/
def Dev.ptpMasterSend (d : Dev) (p : Nat) : Dev :=
  if d.ptpRole p = 2 && d.tim.lockedOnce then
    let d := d.modPtp p (fun s => { s with seqSync := (s.seqSync + 1) % 65536, seqAnnounce := (s.seqAnnounce + 1) % 65536 })
    (d.txPtp p 0 0 (d.ptpFrame p false false (d.announceMsg p))).txPtp p 1 0 (d.ptpFrame p true false (d.syncMsg p))
  else d

/-- PDELAY_REQ_SEND on a port with a role (R87). -/
def Dev.pdelaySend (d : Dev) (p : Nat) : Dev :=
  if d.ptpRole p = 1 || d.ptpRole p = 2 then
    let d := d.modPtp p (fun s => { s with seqPdelay := (s.seqPdelay + 1) % 65536, reqAt := none })
    d.txPtp p 2 0 (d.ptpFrame p true true (d.ptpHdr p 2 54 0 (d.ptp p).seqPdelay 5 ++ zeros 20))
  else d

/-! Pause (R315 to R318). -/

/-- A pause hold ends: the µs held are counted and transmission resumes. -/
def Dev.pauseRelease (d : Dev) (p : Nat) : Dev :=
  if (d.port p).pauseTo.isSome then
    ((d.incW (Reg.NET_PORT_TX_PAUSED_US p) (d.usSince (d.port p).holdAt)).modPort p (fun s => { s with pauseTo := none })).txStart p
  else d

/-- A PAUSE frame acted on: a hold for its quanta of 512 bit times, or the end of the hold (R316, R318). -/
def Dev.pauseFrame (d : Dev) (p quanta : Nat) : Dev :=
  if d.flag (Reg.NET_PORT_CFG p) 6 && p < 4 && (d.port p).ignoreTo.isNone then
    if quanta = 0 then d.pauseRelease p
    else
      let until' := d.tim.clk + cdiv (quanta * 204800) (d.mbps p)
      d.modPort p (fun s => { s with pauseTo := some until', holdAt := if s.pauseTo.isSome then s.holdAt else d.tim.clk })
  else d

/-- PAUSE_HOLD_END. -/
def Dev.pauseHoldEnd (d : Dev) (p : Nat) : Dev :=
  match (d.port p).pauseTo with
  | some u => if u ≤ d.tim.clk then d.pauseRelease p else d
  | none => d

/-- PAUSE_WATCHDOG: a hold that has lasted WD µs is released, and pause is ignored for IGN ms (R317). -/
def Dev.pauseWatchdog (d : Dev) (p : Nat) : Dev :=
  let c := d.rd (Reg.NET_PORT_PAUSE_CFG p)
  let s := d.port p
  if s.pauseTo.isSome && ticksUs (bits c 15 0) ≤ d.tim.clk - s.holdAt then
    let held := d.usSince s.holdAt
    let d := d.modPort p (fun s => { s with ignoreTo := some (d.tim.clk + ticksMs (bits c 31 16)) })
    let d := ((d.inc (Reg.NET_PORT_PAUSE_WD_CNT p) 1).record 0x0703 (be 1 p ++ zeros 3 ++ be 4 held ++ zeros 8)).raise (Reg.NET_PORT_INT_STATUS p) 3
    d.pauseRelease p
  else d

/-- PAUSE_IGNORE_END (R318). -/
def Dev.pauseIgnoreEnd (d : Dev) (p : Nat) : Dev :=
  match (d.port p).ignoreTo with
  | some u => if u ≤ d.tim.clk then d.modPort p (fun s => { s with ignoreTo := none }) else d
  | none => d

/-! Low-power idle (R319, R321). -/

/-- LPI_ENTRY (R319). -/
def Dev.lpiEntry (d : Dev) (p : Nat) : Dev :=
  let s := d.port p
  if d.isSgmii p && s.link && d.speedCode p != 0 && d.flag (Reg.NET_PORT_CFG p) 7 && s.txq == [] && s.cur == none && s.lpiAt.isNone
      && s.wakeTo.isNone && ticksUs (d.fld (Reg.NET_PORT_EEE_CFG p) 15 0) ≤ d.tim.clk - s.emptyAt then
    (d.modPort p (fun s => { s with lpiAt := some d.tim.clk })).incW (Reg.NET_PORT_LPI_ENTRY p) 1
  else d

/-- LPI_WAKE (R321). -/
def Dev.lpiWake (d : Dev) (p : Nat) : Dev :=
  match (d.port p).wakeTo with
  | some u => if u ≤ d.tim.clk then (d.modPort p (fun s => { s with wakeTo := none })).txStart p else d
  | none => d

/-! 10BASE-T1S (R323 to R325). -/

/-- PLCA_LOST (R324). (DEDUCED: notes/assumptions/58) -/
def Dev.plcaLost (d : Dev) (p : Nat) : Dev :=
  if (d.port p).plca then d.plcaDown p else d

/-- PLCA_STATUS_UP (R324). (DEDUCED: notes/assumptions/58) -/
def Dev.plcaUp (d : Dev) (p : Nat) : Dev :=
  if 4 ≤ p && (d.port p).link && d.flag (Reg.NET_PORT_CFG p) 8 && !(d.port p).plca then d.plcaRise p else d

/-- COLLISION on a T port under CSMA/CD (R325): jam and back-off, or the frame discarded after 16 attempts or when late. -/
def Dev.collision (d : Dev) (p : Nat) (late : Bool) : Dev :=
  let s := d.port p
  if 4 ≤ p && s.link && !s.plca && s.cur.isSome && s.backTo.isNone then
    let d := d.incW (Reg.NET_PORT_COLL p) 1
    let drop (d : Dev) (cnt k : Nat) : Dev :=
      (((d.inc cnt 1).raise (Reg.NET_PORT_INT_STATUS p) k).modPort p (fun s => { s with cur := none, coll := 0, follow := none })).txStart p |>.txIdle p
    if late then drop d (Reg.NET_PORT_LATE_COLL p) 7
    else if 16 ≤ s.coll + 1 then drop d (Reg.NET_PORT_EXCESS_COLL p) 6
    else
      let (x, d) := d.free
      let wait := x % 2 ^ min (s.coll + 1) 10 * 20480
      d.modPort p (fun s => { s with coll := s.coll + 1, backTo := some (d.tim.clk + wait) })
  else d

/-- BACKOFF_END: transmission is retried (R325); a PTP event message takes the stamp of this departure (R100, R101). -/
def Dev.backoffEnd (d : Dev) (p : Nat) : Dev :=
  match (d.port p).backTo, (d.port p).cur with
  | some u, some (_, f) => if u ≤ d.tim.clk then (d.modPort p (fun s => { s with backTo := none })).txWire p f else d
  | some _, none => d.modPort p (fun s => { s with backTo := none })
  | none, _ => d

/-! Reception (R289 to R297, R926). -/

/-- A multicast table entry. -/
def Dev.mcastAt (d : Dev) (p : Nat) : Nat := tget 0 d.net.mcast (64 * p + d.fld (Reg.NET_PORT_MCAST_SEL p) 5 0)

/-- Ticks that the longest frame takes on the wire, and more: changes of the multicast table are remembered as long (R330). -/
def mcastKept : Nat := ticksMs 10

/-- A write of MCAST_LO or MCAST_HI changes that half of the selected entry, for the frames that start from then on (R330). (DEDUCED: notes/assumptions/180) -/
def Dev.mcastWrite (d : Dev) (p : Nat) (hi : Bool) (v : Word) : Dev :=
  let e := d.mcastAt p
  let key := 64 * p + d.fld (Reg.NET_PORT_MCAST_SEL p) 5 0
  let n := if hi then bits v 16 0 * 2 ^ 32 + e % 2 ^ 32 else e / 2 ^ 32 * 2 ^ 32 + v.toNat
  { d with net := { d.net with mcast := tset 0 d.net.mcast key n,
                               mcastLog := (d.tim.clk, key, e) :: d.net.mcastLog.filter (fun x => decide (d.tim.clk < x.1 + mcastKept)) } }

/-- An entry of the multicast table as it was at a clock (R330). -/
def Dev.mcastThen (d : Dev) (key start : Nat) : Nat :=
  d.net.mcastLog.foldl (fun v x => if x.2.1 = key && start < x.1 then x.2.2 else v) (tget 0 d.net.mcast key)

/-- Does the address filter accept the destination of a frame that started at a clock (R294, R925)? (DEDUCED: notes/assumptions/180) -/
def Dev.accepts (d : Dev) (p dst start : Nat) : Bool :=
  dst == d.mac p || (d.pairActive p && dst == d.mac (lanA p)) || dst == 0xFFFFFFFFFFFF ||
  (List.range 64).any (fun e => d.mcastThen (64 * p + e) start == 2 ^ 48 + dst) || d.flag (Reg.NET_PORT_CFG p) 9

/-- FRAME_RECEIVED on a port that runs no loop-back (R290 to R296, R926): a frame without its FCS, whether its FCS is good, and the ticks of the timing clock from its
start delimiter, stamped on a tick (R83, R99), to its end. (DEDUCED: notes/assumptions/56) -/
def Dev.frameReceived (d : Dev) (p : Nat) (b : Bytes) (fcsOk : Bool) (sfd : Nat) : Dev :=
  let len := b.length + 4
  if !(d.port p).link then d
  else if len ≤ 63 then d.inc (Reg.NET_PORT_RX_RUNT p) 1
  else if d.maxFrm p < len then d.inc (Reg.NET_PORT_RX_OVERSIZE p) 1
  else if !fcsOk then d.inc (Reg.NET_PORT_RX_FCS_ERR p) 1
  else
    let d := d.incW (Reg.NET_PORT_RX_FRM p) 1
    let dst := beAt b 0 6
    if beAt b 12 2 = 0x8808 then
      let op := beAt b 14 2
      if op = 1 then
        let d := d.incW (Reg.NET_PORT_RX_PAUSE p) 1
        if dst = 0x0180C2000001 || dst = d.mac p then d.pauseFrame p (beAt b 16 2) else d
      else if op = 0x0101 then d.inc (Reg.NET_PORT_RX_PFC_DROP p) 1
      else d
    else if !d.accepts p dst (d.tim.clk - sfd) then d.incW (Reg.NET_PORT_RX_FILTER_DROP p) 1
    else if 65536 < sumN ((d.net.rxq.filter (fun f => f.port == p)).map (fun f => f.bytes.length + 4)) + len then
      (d.inc (Reg.NET_PORT_RX_OVF_DROP p) 1).raise (Reg.NET_PORT_INT_STATUS p) 2
    else
      let d := d.inc64 (Reg.NET_PORT_RX_OCT_LO p) (Reg.NET_PORT_RX_OCT_HI p) len
      let stamp : Int := (d.tim.out : Int) - sfd * d.tim.outIncr - d.rdN (Reg.TIM_PORT_RX_LAT p) * unitNs
      { d with net := { d.net with rxq := d.net.rxq ++ [⟨d.tim.out, p, b, stamp⟩] } }

/-- The frame that is released next: the least end time, ties to the lower port (R297). -/
def nextRelease : List RxFrame → Option RxFrame
  | [] => none
  | f :: r =>
    match nextRelease r with
    | none => some f
    | some g => if g.fin < f.fin || (g.fin == f.fin && g.port < f.port) then some g else some f

/-- d of R302: n − H modulo 65,536 in two's complement. -/
def prpDist (n h : Nat) : Int := sx 16 (n + 65536 - h % 65536)

/-- Duplicate discard of a released frame (R302, R303): is it accepted? -/
def Dev.prpDiscard (d : Dev) (mac n : Nat) : Bool × Dev :=
  let put (d : Dev) (e : PrpEntry) : Dev := { d with net := { d.net with prp := d.net.prp.filter (fun x => x.mac != e.mac) ++ [e] } }
  match d.net.prp.find? (fun e => e.mac == mac) with
  | none =>
    let d := if 131072 ≤ d.net.prp.length then { (d.inc Reg.NET_PRP_EVICT_CNT 1) with net := { d.net with prp := d.net.prp.drop 1 } } else d
    (true, put d ⟨mac, n, 1, d.tim.clk⟩)
  | some e =>
    let k := prpDist n e.high
    if 0 < k then (true, put d ⟨mac, n, (e.window <<< k.toNat) % 2 ^ 64 + 1, d.tim.clk⟩)
    else if -64 < k then
      if e.window.testBit k.natAbs then (false, (put d { e with seen := d.tim.clk }).incW Reg.NET_PRP_DUP_CNT 1)
      else (true, put d { e with window := e.window + 2 ^ k.natAbs, seen := d.tim.clk })
    else (true, (put d { e with seen := d.tim.clk }).inc Reg.NET_PRP_OLD_CNT 1)

/-- FRAME_RELEASE: the frame due next leaves the merge; duplicate discard may take it (R297, R300 to R302). What is left goes to ingress. -/
def Dev.release (d : Dev) : Option RxFrame × Dev :=
  match nextRelease d.net.rxq with
  | none => (none, d)
  | some f =>
    if f.fin + 500 * unitNs ≤ d.tim.out then
      let d := { d with net := { d.net with rxq := d.net.rxq.erase f } }
      if d.pairActive f.port then
        match rctOf f.bytes with
        | none => (some f, d)
        | some (n, lan) =>
          let d := if lan = 0xA + f.port % 2 then d else d.inc Reg.NET_PRP_WRONG_LAN_CNT 1
          let (ok, d) := d.prpDiscard (beAt f.bytes 6 6) n
          (if ok then some { f with bytes := f.bytes.take (f.bytes.length - 6) } else none, d)
      else (some f, d)
    else (none, d)

/-- PRP_AGE_OUT (R303). -/
def Dev.prpAge (d : Dev) : Dev :=
  { d with net := { d.net with prp := d.net.prp.filter (fun e => decide (d.tim.clk - e.seen < ticksMs (d.rdN Reg.NET_PRP_AGE))) } }

/-! Registers (R330 to R332). -/

/-- STATUS of a port (R331). -/
def Dev.netStatus (d : Dev) (p : Nat) : Word :=
  let s := d.port p
  w32 (b2n s.link + (if s.link then d.speedCode p else 0) * 2 + b2n (s.link && p < 2 && d.portFec p != 0) * 8 + b2n s.pauseTo.isSome * 16
    + b2n s.ignoreTo.isSome * 32 + b2n s.lpiAt.isSome * 64
    + b2n (s.link && s.lpiRx) * 128 + b2n s.plca * 256 + b2n (4 ≤ p && s.link && !s.plca) * 512 + b2n s.dupErr * 1024
    + b2n (d.pairActive p) * 2048 + sumN ((List.range 8).map (fun q => b2n (s.txq.any (fun x => x.1 == q)) * 2 ^ (12 + q))))

/-- Registers of the NET block that show state held elsewhere. -/
def Dev.netReg (d : Dev) (a : Nat) : Option Word :=
  if a = Reg.NET_PRP_ENTRIES then some (w32 d.net.prp.length)
  else
    (List.range 8).findSome? (fun p =>
      if a = Reg.NET_PORT_STATUS p then some (d.netStatus p)
      else if a = Reg.NET_PORT_MCAST_LO p then some (w32 (d.mcastAt p))
      else if a = Reg.NET_PORT_MCAST_HI p then some (w32 (d.mcastAt p / 2 ^ 32))
      else if a = Reg.NET_PORT_TX_PAUSED_US p && (d.port p).pauseTo.isSome then some (w32 (d.rdN a + d.usSince (d.port p).holdAt))
      else if a = Reg.NET_PORT_LPI_US p then ((d.port p).lpiAt).map (fun c => w32 (d.rdN a + d.usSince c))
      else none)

end Sys2Proof.Machine
end

