-- ==== Sys2Proof/Machine/PtpRx.lean ====
section
/-! DEFINITION. Sys2Proof/Machine/PtpRx.lean: received PTP messages (R87, R99 to R102, R104, R117, R120, R919), in the formats of IEEE 1588-2019. -/

namespace Sys2Proof.Machine

/-- The bound of a clockAccuracy in 2^−32 ns, rounded up (R919): from 1 ps for 0x17 to 10 s for 0x30, more than 10 s for 0x31; 1,000 ns when it is 0xFE or not
known. (PRESUMED: notes/assumptions/23; DESIGN CHOICE: notes/assumptions/166) -/
def clockAccOf (a : Nat) : Nat :=
  if 0x17 ≤ a && a < 0x20 then cdiv ([10, 25, 100, 250, 1000, 2500, 10000, 25000, 100000].getD (a - 0x17) 0 * unitNs) 10000
  else if 0x20 ≤ a && a ≤ 0x30 then
    [25, 100, 250, 1000, 2500, 10000, 25000, 100000, 250000, 1000000, 2500000, 10000000, 25000000, 100000000, 250000000, 1000000000, 10000000000].getD (a - 0x20) 1000 * unitNs
  else if a = 0x31 then (10 ^ 10 + 1 + Config.accPast) * unitNs else 1000 * unitNs

/-- The IEEE C37.238 profile TLV in the tail of an Announce: an organization extension of organization 1C-12-9D; its data, empty where there is none (R87). (PRESUMED: notes/assumptions/158) -/
def c37Tlv : Nat → Bytes → Bytes
  | 0, _ => []
  | n + 1, b =>
    let len := beAt b 2 2
    if b.length < 4 + len then []
    else if beAt b 0 2 = 3 && beAt b 4 3 = 0x1C129D then (b.drop 10).take (len - 6)
    else c37Tlv n (b.drop (4 + len))

/-- Is an Announce accepted: none is held, its sender is the one held, or it is of a better grandmaster (R104)? (PRESUMED: notes/assumptions/23) -/
def Gm.accepts (old : Option Gm) (g : Gm) : Bool :=
  match old with
  | none => true
  | some o => g.src == o.src || decide (g.rank < o.rank) || (g.rank == o.rank && decide (g.steps < o.steps))

/-- A message comes from the sender of the accepted Announce. -/
def Dev.fromGm (d : Dev) (p : Nat) (m : Bytes) : Bool := (d.ptp p).gm.any (fun g => g.src == beAt m 20 10)

/-- A PTP timestamp in units. -/
def ptpTime (m : Bytes) (off : Nat) : Int := beAt m off 6 * unitSec + beAt m (off + 6) 4 * unitNs

/-- correctionField of a message in units. -/
def ptpCorr (m : Bytes) : Int := corrAt m 0 * 65536

/-- The asymmetry of a port in units (R102). -/
def Dev.asym (d : Dev) (p : Nat) : Int := sx 32 (d.rdN (Reg.TIM_PORT_ASYM p)) * unitNs

/-- A Sync with its origin and corrections gives the time at its receive stamp: the source's time now (R104). -/
def Dev.ptpSync (d : Dev) (p : Nat) (origin stamp : Int) : Dev :=
  match d.ptpDom p with
  | none => d
  | some k => d.domUpdate k (origin + (d.ptp p).delay + d.asym p + ((d.tim.out : Int) - stamp)).toNat 0

/-- A PTP message received on a port, with the receive stamp of its frame (R87). An Announce with both leap flags set counts as an insertion. (PRESUMED: notes/assumptions/23; DESIGN CHOICE: notes/assumptions/36) -/
def Dev.ptpReceive (d : Dev) (p : Nat) (m : Bytes) (stamp : Int) : Dev :=
  let role := d.ptpRole p
  let typ := byteAt m 0 % 16
  let seq := beAt m 30 2
  let s := d.ptp p
  if role = 0 || m.length < 44 || byteAt m 4 ≠ bits (d.ptpCfg p) 15 8 then d
  else if typ = 0 then
    if role = 1 && d.fromGm p m then
      if (byteAt m 6).testBit 1 then d.modPtp p (fun s => { s with syncRx := some (seq, stamp, ptpCorr m) })
      else d.ptpSync p (ptpTime m 34 + ptpCorr m) stamp
    else d
  else if typ = 8 then
    match s.syncRx with
    | some (n, st, c) =>
      if role = 1 && n = seq && d.fromGm p m then (d.modPtp p (fun s => { s with syncRx := none })).ptpSync p (ptpTime m 34 + ptpCorr m + c) st else d
    | none => d
  else if typ = 2 then
    let one := d.oneStep p
    let r := d.ptpHdr p 3 54 (if one then 0 else 0x0200) seq 5 ++ (if one then zeros 10 else ptpStamp stamp) ++ (m.drop 20).take 10
    d.txPtp p 3 stamp (d.ptpFrame p true true (patch r 8 ((m.drop 8).take 8)))
  else if typ = 3 && (m.drop 44).take 10 = d.portId p && seq = s.seqPdelay then
    match s.reqAt with
    | none => d
    | some t1 =>
      if (byteAt m 6).testBit 1 then d.modPtp p (fun s => { s with respRx := some (seq, stamp, ptpTime m 34 - ptpCorr m) })
      else d.modPtp p (fun s => { s with delay := (stamp - t1 - ptpCorr m) / 2, reqAt := none })
  else if typ = 0xA && (m.drop 44).take 10 = d.portId p then
    match s.respRx, s.reqAt with
    | some (n, t4, t2), some t1 =>
      if n = seq then d.modPtp p (fun s => { s with delay := (t4 - t1 - (ptpTime m 34 + ptpCorr m - t2)) / 2, respRx := none, reqAt := none }) else d
    | _, _ => d
  else if typ = 0xB && role = 1 && 64 ≤ m.length then
    let f := byteAt m 7
    let tlv := if d.flag (Reg.TIM_DOM_CFG ((d.ptpDom p).getD 0)) 6 then c37Tlv m.length (m.drop 64) else []
    let g : Gm := ⟨beAt m 20 10, beAt m 47 14, beAt m 61 2, beAt m 53 8, tlv⟩
    if Gm.accepts s.gm g then
      let d := d.modPtp p (fun s => { s with gm := some g, syncRx := if s.gm.all (fun o => o.src == g.src) then s.syncRx else none })
      match d.ptpDom p with
      | some k =>
        let leap := if f.testBit 0 then some false else if f.testBit 1 then some true else none
        d.modDom k (fun x => { x with
          stated := clockAccOf (byteAt m 49), trace := byteAt m 48 == 6, leap := some leap, missed := 0
          utc := if f.testBit 2 then some (sx 16 (beAt m 44 2)) else none })
      | none => d
    else d
  else d

end Sys2Proof.Machine
end

