-- ==== Sys2Proof/Machine/Float.lean ====
section
/-! DEFINITION. Sys2Proof/Machine/Float.lean: IEEE 754 single precision as exact rationals (R367, R410), the angle of a record in radians,
and the CRC-CCITT of C37.118.2 frames. -/

namespace Sys2Proof.Machine

/-- A finite single-precision number as m × 2^e; none for an infinity or a NaN. (DESIGN CHOICE: notes/assumptions/65) -/
def f32 (b : Nat) : Option (Int × Int) :=
  let ex : Nat := b / 2 ^ 23 % 256
  let fr : Nat := b % 2 ^ 23
  let sg (m : Nat) : Int := if b / 2 ^ 31 % 2 = 1 then - (m : Int) else m
  if ex = 255 then none else if ex = 0 then some (sg fr, -149) else some (sg (2 ^ 23 + fr), (ex : Int) - 150)

/-- m × 2^e × a / b rounded to the nearest integer (R11). -/
def roundScaled (m e a : Int) (b : Nat) : Int :=
  if 0 ≤ e then rdiv (m * 2 ^ e.toNat * a) b else rdiv (m * a) (b * 2 ^ (- e).toNat)

/-- The single-precision number nearest to p / q; beyond the range the largest finite number (R11). -/
def toF32 (p : Int) (q : Nat) : Nat :=
  if p = 0 || q = 0 then 0
  else
    let a := p.natAbs
    let l : Int := (a.log2 : Int) - q.log2
    let low := if 0 ≤ l then decide (a < q * 2 ^ l.toNat) else decide (a * 2 ^ (- l).toNat < q)
    let ex := max (if low then l - 1 else l) (-126)
    let s := 23 - ex
    let m := if 0 ≤ s then rdivN (a * 2 ^ s.toNat) q else rdivN a (q * 2 ^ (- s).toNat)
    let (m, ex) := if m = 2 ^ 24 then (2 ^ 23, ex + 1) else (m, ex)
    let v := if 127 < ex then 0x7F7FFFFF else if m < 2 ^ 23 then m else (ex + 127).toNat * 2 ^ 23 + (m - 2 ^ 23)
    v + (if p < 0 then 2 ^ 31 else 0)

/-- 2π × 10^30, rounded. -/
def twoPi : Nat := 6283185307179586476925286766559

/-- An angle in 2^−16 turn, read as signed, in 10^−4 rad (R410). -/
def angMilli (a : Nat) : Int := rdivAway (sx 16 a * twoPi * 10000) (65536 * 10 ^ 30)

/-- The same angle in rad, single precision. -/
def angF32 (a : Nat) : Nat := toF32 (sx 16 a * twoPi) (65536 * 10 ^ 30)

/-- The first `k` binary digits of the angle of a vector other than zero, in turns: whether it lies in the second half turn, then those of twice the angle. -/
def angleBits : Nat → Int × Int → Nat
  | 0, _ => 0
  | k + 1, (re, im) =>
    let low := decide (0 < im) || (im == 0 && decide (0 < re))
    (if low then 0 else 2 ^ k) + angleBits k (re * re - im * im, 2 * re * im)

/-- The angle of a vector in 2^−16 turn, rounded; that of the zero vector is free (R367). (DESIGN CHOICE: notes/assumptions/181) -/
def angleTurn (re im : Int) : Int :=
  if re = 0 && im = 0 then (Config.atan2 0 0 % 65536 : Nat) else ((angleBits 17 (re, im) + 1) / 2 % 65536 : Nat)

/-- An angle m × 2^e rad in 2^−16 turn (R367). -/
def radTurn (m e : Int) : Int := roundScaled m e (65536 * 10 ^ 30 : Nat) twoPi

/-- One bit of CRC-CCITT, polynomial 0x1021. -/
def crcCcittBit (c : Nat) : Nat := if 32768 ≤ c then (2 * c % 65536) ^^^ 0x1021 else 2 * c

/-- One byte of it. -/
def crcCcittByte (c x : Nat) : Nat := foldUp 8 (fun _ c => crcCcittBit c) (c ^^^ (x * 256))

/-- CRC-CCITT of IEEE C37.118.2, initial value 0xFFFF (R362, R419). (PRESUMED: notes/assumptions/64) -/
def crcCcitt (b : Bytes) : Nat := b.foldl (fun c x => crcCcittByte c x.toNat) 0xFFFF

end Sys2Proof.Machine
end

