-- ==== Sys2Proof/Machine/Out.lean ====
section
/-! DEFINITION. Sys2Proof/Machine/Out.lean: outputs and their claim gate (R31, R713 to R716, R729): an output that is ready passes the gate of the active
wing, is mirrored to the standby twin first, or is held until a gate admits it. -/

namespace Sys2Proof.Machine

/-- What passing an output does, but for the sampling of GOOSE blocks and the sending of scale commands. -/
def Dev.act (d : Dev) : Act → Dev
  | .send p q src job fs => d.txSend p q src job fs
  | .log typ body => d.record typ body
  | .wide key mask on =>
    (d.aoWide key mask on) |> fun (d : Dev) => { d with roost := { d.roost with alarms :=
      if on then (if d.roost.alarms.contains key then d.roost.alarms else d.roost.alarms ++ [key]) else d.roost.alarms.filter (· != key) } }
  | .raise reg k => d.raise reg k
  | .set reg v => d.wr reg v
  | .count reg => d.incW reg 1
  | .frame p q b => (d.txPut p q ⟨b, 0, 0, false, d.units.emitting⟩).txStart p
  | .goose => d
  | .cmd _ _ => d

/-- What an output does, with the frames that it queues named after it (R745, R747). -/
def Dev.emits (d : Dev) (x : Out) (f : Dev → Dev) : Dev :=
  let d := f { d with units := { d.units with emitting := some (x.o, x.seq) } }
  { d with units := { d.units with emitting := none } }

/-- An output passes: the arbiter holds its sequence, and its acts follow. -/
def Dev.pass (d : Dev) (x : Out) : Dev := (d.gatePass x.o x.seq).emits x (fun (d : Dev) => x.acts.foldl (fun (d : Dev) a => d.act a) d)

/-- An Oznis frame: the header of R743, the payload and the CRC. -/
def Dev.ozFrame (d : Dev) (lane typ linkSeq : Nat) (payload : Bytes) : Bytes :=
  let flags := lane + 2 * (d.pins.sampled % 2) + 4 * b2n d.activeTwin + 8 * b2n (d.pins.sampled.testBit 1)
  let b := be 2 0xA7E1 ++ be 1 1 ++ be 1 typ ++ be 2 payload.length ++ be 1 flags ++ zeros 1 ++ be 4 linkSeq
    ++ be 4 (if d.units.holder.isSome then d.units.claim else 0) ++ payload
  b ++ be 4 (crc32c b)

/-- A frame is sent on a lane; its LINK_SEQ counts per lane (R743). -/
def Dev.ozSend (d : Dev) (lane typ : Nat) (payload : Bytes) : Nat × Dev :=
  let l := if lane = 0 then d.units.lane0 else d.units.lane1
  let n := (l.seq + 1) % 2 ^ 32
  let u := if lane = 0 then { d.units with lane0 := { l with seq := n } } else { d.units with lane1 := { l with seq := n } }
  (n, { d with units := u }.emit (.oznis lane (d.ozFrame lane typ n payload)))

/-- The lane that other frames travel on: the first that is up (R742). -/
def Dev.ozLane (d : Dev) : Nat := if d.units.lane0.up then 0 else 1

/-- The Oznis link is up (R742). -/
def Dev.ozUp (d : Dev) : Bool := d.units.lane0.up || d.units.lane1.up

/-- Outputs wait for the standby twin's acknowledgement (R729). -/
def Dev.mirrors (d : Dev) : Bool := d.units.paired && d.activeTwin && d.ozUp && d.units.twinCurrent

/-- The largest part of an output that one OUTPUT frame carries (R744). -/
def fragBytes : Nat := 8168

/-- The payload of an OUTPUT frame: one part of the bytes of an output (R744). -/
def Out.part (x : Out) (frag frags : Nat) : Bytes :=
  let b := (x.bytes.drop (fragBytes * frag)).take fragBytes
  be 2 x.o ++ be 1 frag ++ be 1 frags ++ zeros 4 ++ be 8 x.seq ++ be 4 b.length ++ zeros 4 ++ b

/-- An output is sent to the standby twin, in as many frames as its bytes need (R729, R744). -/
def Dev.mirror (d : Dev) (x : Out) : Dev :=
  let frags := max 1 ((x.bytes.length + fragBytes - 1) / fragBytes)
  foldUp frags (fun k (d : Dev) =>
    let (n, d) := d.ozSend d.ozLane 3 (x.part k frags)
    { d with units := { d.units with unacked := d.units.unacked ++ [(⟨n, d.ozLane, x.o, x.seq, false, d.tim.clk, false, 0, k, frags⟩, x)] } }) d

/-- An output that is ready: passed, mirrored first, or held for a gate (R715, R716, R729). Has it passed? (DEDUCED: notes/assumptions/198) -/
def Dev.present (d : Dev) (x : Out) : Bool × Dev :=
  if d.gateOpen d.active x.o x.seq then
    if d.mirrors && 16 ≤ x.o && x.o < 2160 then (false, d.mirror x)
    else (true, d.pass x)
  else if tget 0 d.units.outSeq x.o ≤ x.seq then (false, { d with units := { d.units with outs := d.units.outs ++ [x] } })
  else (false, d)

end Sys2Proof.Machine
end

