-- ==== Sys2Proof/Machine/Roost.lean ====
section
/-! DEFINITION. Sys2Proof/Machine/Roost.lean: the roost (R385 to R406): slots, placing, closing, the slow window and the native export. -/

namespace Sys2Proof.Machine

/-! Points (R338, R340, R383). -/

/-- Runtime state of a point after a clear. -/
def PointRt.start : PointRt := ⟨0, false, 0, 0, 0, 0, 0, 0, 0, none, 0, 0, 0⟩

/-- Runtime state of a point. -/
def Dev.pointRt (d : Dev) (i : Nat) : PointRt := tget PointRt.start d.ing.points i

/-- Runtime state of a point changed. -/
def Dev.modPoint (d : Dev) (i : Nat) (f : PointRt → PointRt) : Dev :=
  { d with ing := { d.ing with points := tset PointRt.start d.ing.points i (f (d.pointRt i)) } }

/-- The table entry of a point (R338). -/
def Dev.point (d : Dev) (i : Nat) : Option Bytes := (d.recOf 0x0801 i).map (·.take 32)

/-- VALID and EN of a table entry. -/
def pointEnabled (b : Bytes) : Bool := beAt b 8 2 % 4 == 3

/-- A report discarded after its lookup: word 6 and word 7 of R383. -/
def Dev.pointDrop (d : Dev) (i cause : Nat) : Dev := d.modPoint i (fun p => { p with disc := (p.disc + 1) % 2 ^ 32, cause := cause })

/-! Slots (R385 to R388). -/

/-- Instant of slot N in ns (R47, R385). -/
def slotNs (rate n : Nat) : Nat := if rate = 0 then 0 else n / rate * 1000000000 + n % rate * 1000000000 / rate

/-- The slot of N in its ring position (R386). -/
def Dev.slot (d : Dev) (n : Nat) : Option Slot9 :=
  match d.roost.ring.find? (fun x => x.1 == n % 16) with
  | some (_, s) => if s.n = n then some s else none
  | none => none

/-- The slot of N changed. -/
def Dev.modSlot (d : Dev) (n : Nat) (f : Slot9 → Slot9) : Dev :=
  match d.slot n with
  | some s => { d with roost := { d.roost with ring := tput d.roost.ring (n % 16) (f s) } }
  | none => d

/-- The record of an entry in a slot, none when its presence bit is clear (R388). -/
def Slot9.get (s : Slot9) (e : Nat) : Option Bytes := (s.recs.find? (fun x => x.1 == e)).map (·.2)

/-- A missing entry as its consumers see it (R400). -/
def missing : Bytes := zeros 30 ++ [0xFF, 0xFF]

/-- The record of an entry in a slot of the ring. -/
def Dev.slotRec (d : Dev) (n e : Nat) : Option Bytes := (d.slot n).bind (fun s => s.get e)

/-- Length of the slow window in wingbeats. -/
def Dev.slowLen (d : Dev) : Nat := d.fld Reg.ALN_SLOW_LEN 9 0

/-- A slot of the slow window whose time there has passed (R405). (DEDUCED: notes/assumptions/138) -/
def Dev.slowDue (d : Dev) (s : Slot9) : Bool := decide (s.closeWb + d.slowLen ≤ d.wbSeq)

/-- The slot of N in the slow window. -/
def Dev.slowSlot (d : Dev) (n : Nat) : Option Slot9 := d.roost.slow.find? (fun s => s.n == n && !d.slowDue s)

/-- The newest slot that has closed and is not held in the slow window (check 9 of R351). -/
def Dev.newestGone (d : Dev) : Option Nat :=
  match (d.roost.slow.filter d.slowDue).getLast? with
  | some s => some s.n
  | none => d.roost.left

/-! Placing (R394 to R398, R403, R927). -/

/-- What becomes of a record (R394). -/
inductive Placed where
  | accepted | dup | early | dropped | late
  deriving DecidableEq, Repr

/-- A duplicate whose bytes 0 to 29 differ (R395). -/
def Dev.dupDiffers (d : Dev) (entry n : Nat) (old new : Bytes) : Dev :=
  if old.take 30 = new.take 30 then d
  else
    let d := (d.inc Reg.ALN_DUP_DIFF_CNT 1).raise Reg.ALN_INT_STATUS 1
    let (c, at') := tget (0, none) d.roost.dupDiff entry
    let c := c + 1
    let due := match at' with | some a => decide (ticksSec 1 ≤ d.tim.clk - a) | none => true
    let set (d : Dev) (v : Nat × Option Nat) : Dev := { d with roost := { d.roost with dupDiff := tput d.roost.dupDiff entry v } }
    if due then (set d (0, some d.tim.clk)).record 0x0901 (be 4 entry ++ be 4 c ++ be 8 n) else set d (c, at')

/-- The runtime state of a point after a report is accepted: its time, its SEQ where it carries one, a gap where SEQ does not follow, the count (R340, R347, R383). (DEDUCED: notes/assumptions/67) -/
def PointRt.accept (p : PointRt) (t : Nat) (seqNo : Option Nat) : PointRt :=
  let p := { p with acc := (p.acc + 1) % 2 ^ 32, sec := t / 1000000000, ns := t % 1000000000 }
  match seqNo with
  | some s => { p with gaps := if p.seen && s != (p.seq + 1) % 65536 then (p.gaps + 1) % 2 ^ 32 else p.gaps, seq := s, seen := true }
  | none => p

/-- A report is accepted: it counts, its SEQ and its time are the point's last, and the active twin forwards it (R376, R728). -/
def Dev.acceptPoint (d : Dev) (entry n : Nat) (b : Bytes) (seqNo : Option Nat) : Dev :=
  if entry < 65536 then
    let d := (d.inc64 Reg.ING_ACC_CNT_LO Reg.ING_ACC_CNT_HI 1).modPoint entry (fun p => p.accept (slotNs d.rate n) seqNo)
    if d.units.paired && d.activeTwin && d.ozUp then (d.ozSend d.ozLane 9 (be 2 entry ++ zeros 6 ++ be 8 n ++ b)).2 else d
  else d

/-- A record for an open slot (R394). -/
def Dev.placeOpen (d : Dev) (s : Slot9) (entry : Nat) (b : Bytes) (seqNo : Option Nat) (early : Bool) : Placed × Dev :=
  match s.get entry with
  | some old => (.dup, (d.inc Reg.ALN_DUP_CNT 1).dupDiffers entry s.n old b)
  | none =>
    let d := d.modSlot s.n (fun s => { s with recs := tput s.recs entry b, early := if early then s.early ++ [entry] else s.early })
    (.accepted, d.acceptPoint entry s.n b seqNo)

/-- Histogram bin of a lateness (R403). -/
def lateBin (l : Nat) : Nat :=
  if l = 0 then 0 else if l = 1 then 1 else if l < 4 then 2 else if l < 8 then 3 else if l < 16 then 4 else if l < 32 then 5 else if l < 128 then 6 else 7

/-- A late record for a slot in the slow window (R403, R404), from a frame that ended at an output time in ns. -/
def Dev.placeLate (d : Dev) (s : Slot9) (entry fin : Nat) (b : Bytes) : Placed × Dev :=
  match s.get entry with
  | some old => (.dup, (d.inc Reg.ALN_DUP_CNT 1).dupDiffers entry s.n old b)
  | none =>
    let d := (d.inc Reg.ALN_LATE_CNT 1).inc (Reg.ALN_LATE_HIST (lateBin ((fin - s.closeAt) * d.rate / 1000000000))) 1
    let slow := d.roost.slow.map (fun x => if x.n = s.n then { x with recs := tput x.recs entry b, late := x.late ++ [entry] } else x)
    (.late, { d with roost := { d.roost with slow := slow } })

/-- A slot that will open or still waits to be opened (R390, R391, R927). -/
def Dev.awaits (d : Dev) (n : Nat) : Bool :=
  d.roost.busy.contains n ||
  (match d.grid.trans with
   | some (s, k) => decide (s * d.rate + k ≤ n)
   | none => decide (d.wbSeq < n))

/-- A record for entry e of slot n is placed (R394). -/
def Dev.place (d : Dev) (entry n fin : Nat) (b : Bytes) (seqNo : Option Nat) : Placed × Dev :=
  match d.slot n with
  | some s =>
    if s.opened then d.placeOpen s entry b seqNo false
    else match d.slowSlot n with
      | some s => if entry < 65536 then d.placeLate s entry fin b else (.dropped, d)
      | none => (.dropped, d)
  | none =>
    if d.awaits n then
      if d.roost.early.length < 8192 then (.early, Dev.queMax { d with roost := { d.roost with early := d.roost.early ++ [⟨entry, n, b, seqNo⟩] } } 68 (d.roost.early.length + 1))
      else (.dropped, (d.inc Reg.ALN_EARLY_DROP 1).raise Reg.ALN_INT_STATUS 0)
    else match d.slowSlot n with
      | some s => if entry < 65536 then d.placeLate s entry fin b else (.dropped, d)
      | none => if entry < 65536 then (.dropped, (d.inc Reg.ALN_EARLY_DROP 1).raise Reg.ALN_INT_STATUS 0) else (.dropped, d)

/-- What the runtime state of a point shows of the roost's decision (R383). (DEDUCED: notes/assumptions/67) -/
def Dev.pointPlaced (d : Dev) (entry : Nat) (p : Placed) : Dev :=
  match p with
  | .dup => d.pointDrop entry 0xF0
  | .dropped => d.pointDrop entry 0xF1
  | .accepted => d
  | .early => d
  | .late => d

/-- ARRIVAL of what was ready at a time for an instant, in ns (R357, R397). -/
def arrival (fin at' : Nat) : Nat := if 2097000000 ≤ fin - at' then 65535 else (fin - at') / 32000

/-- ALN_LOC_EN of a channel position (R397). -/
def Dev.locEn (d : Dev) (n : Nat) : Bool := d.flag (Reg.ALN_LOC_EN (n / 32)) (n % 32)

/-- The record of a delivered phasor (R397). -/
def Dev.localRecord (d : Dev) (n : Nat) (r : Deliv) : Bytes :=
  let (mag, clamped) := d.roostMag n r.magX
  let suspect := r.tq / 2 ^ 14 != 1 || r.slew
  let st := b2n r.valid + 16 * b2n r.fok + 128 * b2n (!r.valid) + 2 ^ 12 * b2n suspect + 2 ^ 13 * b2n clamped + (if n < 192 then 2 else 3) * 2 ^ 14
  let dig := b2n r.oor + 2 * b2n r.slew + 4 * b2n r.lp + 8 * r.cls
  be 2 mag ++ be 2 r.ang ++ zeros 12 ++ beI 4 (clampS 32 r.f) ++ beI 2 (clampS 16 r.rocof) ++ be 2 st ++ zeros 4 ++ be 2 dig
    ++ be 2 (arrival d.ns r.time)

/-- The phasors that a channel position delivers at a flutter: its registers, and the roost (R259, R283, R397, R398). -/
def Dev.deliver (d : Dev) (n : Nat) : Dev :=
  (d.delivered n).foldl (fun (d : Dev) x =>
    let d := d.noteDeliv n x.2
    if d.locEn n && d.roost.first.isSome then (d.place (65536 + n) x.1 0 (d.localRecord n x.2) none).2 else d) d

/-! Opening (R389 to R391). -/

/-- The slot that an item works on. -/
def Work.slot : Work → Option Nat
  | .slotScan n _ => some n
  | .isl n _ _ => some n
  | .osc n _ => some n
  | .digest n => some n
  | .fltchk n => n
  | .patched n => n
  | _ => none

/-- Critical items of slot N − 16 have not completed (R391). -/
def Dev.prevBusy (d : Dev) (n : Nat) : Bool := (d.ws d.active).openCrit.any (fun i => i.work.slot == some (n - 16) && decide (16 ≤ n))

/-- The records that the early buffer holds for a slot are placed in their order (R390, R396). -/
def Dev.placeEarly (d : Dev) (n : Nat) : Dev :=
  let mine := d.roost.early.filter (fun x => x.n == n)
  let d := { d with roost := { d.roost with early := d.roost.early.filter (fun x => x.n != n) } }
  mine.foldl (fun (d : Dev) x =>
    match d.slot n with
    | some s =>
      let (p, d) := d.placeOpen s x.entry (x.bytes.take 30 ++ [0, 0]) x.seq true
      let d := if p = .accepted then d.inc Reg.ALN_EARLY_CNT 1 else d
      if x.entry < 65536 then d.pointPlaced x.entry p else d
    | none => d) d

/-- The presence bits of a ring position are cleared and its slot is open. -/
def Dev.slotFresh (d : Dev) (n : Nat) (tq : Nat) : Dev :=
  let s : Slot9 := ⟨n, slotNs d.rate n, tq, true, [], [], [], 0, 0⟩
  ({ d with roost := { d.roost with ring := tput d.roost.ring (n % 16) s, opened := some n, first := some (d.roost.first.getD n),
                                    busy := d.roost.busy.filter (· != n) } }).placeEarly n

/-- The slot of the boundary that has just fallen opens, waits, or is passed over (R389 to R391, R927). -/
def Dev.slotOpen (d : Dev) : Dev :=
  let n := d.wbSeq
  if d.grid.absolute && d.rate != 0 && d.flag Reg.ALN_CTL 0 then
    if d.prevBusy n then { d with roost := { d.roost with busy := d.roost.busy ++ [n] } } else d.slotFresh n d.tq
  else
    let gone := d.roost.early.filter (fun x => decide (x.n ≤ n) && !d.roost.busy.contains x.n)
    let d := { d with roost := { d.roost with early := d.roost.early.filter (fun x => !(decide (x.n ≤ n) && !d.roost.busy.contains x.n)) } }
    gone.foldl (fun (d : Dev) x =>
      let d := (d.inc Reg.ALN_EARLY_DROP 1).raise Reg.ALN_INT_STATUS 0
      if x.entry < 65536 then d.pointDrop x.entry 0xF1 else d) d

/-- Slots whose ring position has become free are opened, with the time quality of their instant (R391, R409, R411). -/
def Dev.busyCheck (d : Dev) : Dev :=
  d.roost.busy.foldl (fun (d : Dev) n => if d.prevBusy n then d else d.slotFresh n (d.qualOf n).1) d

/-! Export (R420 to R423). -/

/-- The bits of a map of `n` entries as bytes, first entry in bit 0 of byte 0, padded to a multiple of 8 bytes. -/
def mapBytes (n : Nat) (f : Nat → Bool) : Bytes :=
  (List.range (cdiv n 64 * 8)).map (fun j => BitVec.ofNat 8 (sumN ((List.range 8).map (fun k => b2n (decide (8 * j + k < n) && f (8 * j + k)) * 2 ^ k))))

/-- An export entry of a slot (R421). -/
def Dev.exportEntry (d : Dev) (s : Slot9) (slow : Bool) : Bytes :=
  let f := d.fld Reg.ALN_EXP_FIRST 16 0
  let c := d.fld Reg.ALN_EXP_COUNT 16 0
  let lateIn := s.late.any (fun e => decide (f ≤ e) && decide (e < f + c))
  le 8 s.n ++ le 8 (s.at' / 1000000000) ++ le 4 (s.at' % 1000000000) ++ le 2 s.tq ++ le 2 (b2n slow + 2 * b2n lateIn) ++ le 4 f ++ le 4 c
    ++ mapBytes c (fun j => (s.get (f + j)).isSome) ++ (List.range c).flatMap (fun j => (s.get (f + j)).getD missing)

/-- An export entry is made when its mode and the ring are set (R420, R422). (DEDUCED: notes/assumptions/72) -/
def Dev.exportMake (d : Dev) (s : Slot9) (slow : Bool) : Dev :=
  if d.flag Reg.ALN_EXP_CFG (if slow then 1 else 0) && d.rdN Reg.ALN_EXP_SIZE != 0 then
    { d with roost := { d.roost with exports := d.roost.exports ++ [(slow, s.n, d.exportEntry s slow)] } }
  else d

/-- EXPORT_WRITE: the next export entry passes the gate, and is written when the ring has room for it, or skipped (R422, R423). (DEDUCED: notes/assumptions/72) -/
def Dev.exportWrite (d : Dev) : Dev :=
  match d.roost.exports with
  | [] => d
  | (slow, n, b) :: rest =>
    let o := if slow then 2161 else 2160
    let size := d.rdN Reg.ALN_EXP_SIZE
    if size = 0 then { d with roost := { d.roost with exports := rest } }
    else if d.gateOpen d.active o n then
      let d := ({ d with roost := { d.roost with exports := rest } }).gatePass o n
      let head := d.rdN Reg.ALN_EXP_HEAD
      if b.length ≤ ringRoom size head (d.rdN Reg.ALN_EXP_TAIL) && d.dma then
        (d.ringWrite (d.rd64 Reg.ALN_EXP_BASE_LO Reg.ALN_EXP_BASE_HI) size head b).wrN Reg.ALN_EXP_HEAD ((head + b.length) % size)
      else (d.inc Reg.ALN_EXP_DROP_CNT 1).raise Reg.ALN_INT_STATUS 2
    else d

/-! Closing (R392, R393, R399, R405, R406). -/

/-- Enabled entries of a slot (R399): points with VALID and EN, and local entries. -/
def Dev.enabledEntries (d : Dev) : List Nat :=
  ((d.recs 0x0801).filter (fun r => pointEnabled r.body)).map (·.key) ++ ((List.range 256).filter d.locEn).map (65536 + ·)

/-- SLOW_WINDOW_LEAVE: slots whose time in the slow window has passed leave it, oldest first (R405, R406). (DEDUCED: notes/assumptions/138) -/
def Dev.slowLeave (d : Dev) : Dev :=
  let due := d.roost.slow.filter d.slowDue
  let d := { d with roost := { d.roost with slow := d.roost.slow.filter (fun s => !d.slowDue s) } }
  due.foldl (fun (d : Dev) s =>
    let d := ({ d with roost := { d.roost with left := some s.n } }).exportMake s true
    let (ok, d) := d.mkItem 0x30 65792 0 (.archive s.n)
    if ok then { d with roost := { d.roost with leaving := d.roost.leaving ++ [s] } } else d) d

/-- A slot closes (R399): its contents freeze, its entries are counted, its close export is made and it enters the slow window. -/
def Dev.slotClose (d : Dev) (n : Nat) : Dev :=
  match d.slot n with
  | none => d
  | some s =>
    let s := { s with opened := false, closeAt := slotNs d.rate d.wbSeq, closeWb := d.wbSeq }
    let d := d.modSlot n (fun _ => s)
    let en := d.enabledEntries
    let miss := (en.filter (fun e => (s.get e).isNone)).length
    let d := (d.wrN Reg.ALN_LAST_PRESENT s.recs.length).wrN Reg.ALN_LAST_MISSING miss
    let d := if d.rdN Reg.ALN_MISS_THR < miss then d.raise Reg.ALN_INT_STATUS 5 else d
    ({ d with roost := { d.roost with closed := some n, slow := d.roost.slow ++ [s] } }).exportMake s false

/-- The slots that are due at the boundary that has just fallen, in ascending order (R392, R393). -/
def Dev.dueSlots (d : Dev) : List Nat :=
  let open' := ((d.roost.ring.filter (fun x => x.2.opened)).map (fun x => x.2.n)).filter (fun n => decide (n + d.fld Reg.ALN_WAIT 3 0 ≤ d.wbSeq))
  open'.mergeSort (fun a b => decide (a ≤ b))

/-! The entry window (R434). -/

/-- ALN_ENT_STATUS_READ: the selected entry of the selected slot in the read view. (DEDUCED: notes/assumptions/66) -/
def Dev.entCapture (d : Dev) (i : Iface) : Word × Dev :=
  let e := d.fld Reg.ALN_ENT_SEL 16 0
  let age := d.fld Reg.ALN_ENT_SEL 27 24
  let n := (d.roost.opened.getD 0) - age
  let s := d.slot n
  let b := ((s.bind (fun s => s.get e)).getD missing)
  let late := d.roost.slow.any (fun x => x.n == n && x.late.contains e)
  let st := match s with
    | some x => w32 (b2n (x.get e).isSome + 2 * b2n x.opened + 4 * b2n (x.early.contains e) + 8 * b2n late)
    | none => 0
  let d := d.latch i Reg.ALN_ENT_SEQ_LO (w32 n)
  let d := d.latch i Reg.ALN_ENT_SEQ_HI (w32 (n / 2 ^ 32))
  (st, d.view i (Reg.ALN_ENT_DATA 0) 8 (fun j => w32 (beAt b (4 * j) 4)))

end Sys2Proof.Machine
end

