-- ==== Sys2Proof/Machine/Streams.lean ====
section
/-! DEFINITION. Sys2Proof/Machine/Streams.lean: C37.118.2 output streams over UDP and TCP (R407 to R419) and GOOSE publication (R424 to R430). -/

namespace Sys2Proof.Machine

/-! Outputs with GOOSE sampling. -/

/-- The device runs on the test root (R702). -/
def Dev.testRoot (d : Dev) : Bool := d.pins.sampled.testBit 1

/-- The unit that is active speaks for the module (R32, R715, R716). -/
def Dev.speaks (d : Dev) : Bool := d.gateOpen d.active 0 0

/-- Frames for every port of a mask, a pair served once (R305): `mk` builds the frame that a port sends. -/
def Dev.toPorts (d : Dev) (mask q src : Nat) (mk : Nat → Bytes) : List Act :=
  ((List.range 8).filter (fun p => mask.testBit p && !(d.pairActive p && p % 2 == 1 && mask.testBit (lanA p)))).map
    (fun p => Act.send p q src false [mk p])

/-! GOOSE (R424 to R430). -/

/-- A GOOSE block that has published nothing. -/
def Goose.start : Goose := ⟨false, 0, 0, 0, 0, 0, 0, 0⟩

/-- A GOOSE block. -/
def Dev.gooseOf (d : Dev) (g : Nat) : Goose := tget Goose.start d.roost.goose g

/-- A GOOSE block changed. -/
def Dev.modGoose (d : Dev) (g : Nat) (f : Goose → Goose) : Dev :=
  { d with roost := { d.roost with goose := tset Goose.start d.roost.goose g (f (d.gooseOf g)) } }

/-- The value of a signal code (R425). -/
def Dev.signal (d : Dev) (c : Nat) : Bool :=
  if c < 0x200 then d.acq.bus.testBit c
  else if 0x400 ≤ c && c < 0x800 then d.roost.alarms.contains (65536 + (c - 0x400))
  else if 0x800 ≤ c && c < 0x810 then d.roost.alarms.contains (2 * 65536 + (c - 0x800))
  else if 0xC00 ≤ c && c < 0xC10 then d.pins.aoCmd.testBit (c - 0xC00)
  else false

/-- Members of a block, in order: signal codes (R431). -/
def Dev.gooseMembers (d : Dev) (g : Nat) : List Nat := ((d.recs 0x0905).filter (fun r => byteAt r.body 0 == g)).map (fun r => beAt r.body 2 2)

/-- BER length. -/
def berLen (n : Nat) : Bytes := if n < 128 then be 1 n else if n < 256 then be 1 0x81 ++ be 1 n else be 1 0x82 ++ be 2 n

/-- A BER element. (PRESUMED: notes/assumptions/24) -/
def ber (tag : Nat) (c : Bytes) : Bytes := be 1 tag ++ berLen c.length ++ c

/-- A BER INTEGER content of a number: shortest, with a leading zero where the top bit is set. -/
def berNat (n : Nat) : Bytes := be (n.log2 / 8 + 1) n |> fun b => if 128 ≤ byteAt b 0 then 0 :: b else b

/-- ASCII without its zero padding. -/
def asciiOf (b : Bytes) : Bytes := b.takeWhile (· != 0)

/-- UTC second of a TAI second (R119, R123): an inserted second repeats 23:59:59. (DESIGN CHOICE: notes/assumptions/192) -/
def Dev.soc (d : Dev) (tai : Nat) : Nat :=
  let cur := d.leapOfs
  match d.tim.leapAt with
  | some (at', del) =>
    ((tai : Int) - cur - (if !del && tai + 1 = at' then 1 else if at' ≤ tai then (if del then -1 else 1) else 0)).toNat
  | none =>
    match d.ing.leapAt with
    | some (at', old) =>
      if at' ≤ tai then ((tai : Int) - cur).toNat
      else ((tai : Int) - old - (if old < cur && tai + 1 = at' then 1 else 0)).toNat
    | none => ((tai : Int) - cur).toNat

/-- The t field of a time in ns with a quality (R428): UTC seconds, fraction in 2^−24 s, TimeQuality. (PRESUMED: notes/assumptions/24) -/
def Dev.gooseTime (d : Dev) (t tq : Nat) : Bytes :=
  let ss := tq / 2 ^ 14
  be 4 (d.soc (t / 1000000000)) ++ be 3 (t % 1000000000 * 2 ^ 24 / 1000000000)
    ++ be 1 (128 + (if ss = 0 || ss = 3 then 64 else 0) + (if ss = 1 then 0 else 32) + 20)

/-- The frame of a block for a port (R424): EtherType 0x88B8 with the PDU. (PRESUMED: notes/assumptions/24) -/
def Dev.gooseFrame (d : Dev) (g p : Nat) (x : Goose) : Bytes :=
  let b := (d.recOf 0x0904 g).getD []
  let n := (d.gooseMembers g).length
  let vals := (List.range n).flatMap (fun m => ber 0x83 [if x.vals.testBit m then 1 else 0])
  let pdu := ber 0x61 (ber 0x80 (asciiOf ((b.drop 20).take 65)) ++ ber 0x81 (berNat (2 * x.gap)) ++ ber 0x82 (asciiOf ((b.drop 85).take 65))
    ++ ber 0x83 (asciiOf ((b.drop 150).take 65)) ++ ber 0x84 (d.gooseTime x.t x.tq) ++ ber 0x85 (berNat x.st) ++ ber 0x86 (berNat x.sq)
    ++ ber 0x87 [if d.testRoot then 1 else 0] ++ ber 0x88 (berNat (beAt b 12 4)) ++ ber 0x89 [0] ++ ber 0x8A (berNat n) ++ ber 0xAB vals)
  let v := beAt b 10 2
  ethHdr (beAt b 4 6) (d.mac (d.addrPort p)) (some (v % 4096, v / 4096 % 8)) 0x88B8 ++ be 2 (beAt b 2 2) ++ be 2 (8 + pdu.length) ++ zeros 4 ++ pdu

/-- A message of a block passes its gate and is sent through TXQ7 (R426, R429). -/
def Dev.gooseSend (d : Dev) (g : Nat) : Dev :=
  let x := d.gooseOf g
  let mask := byteAt ((d.recOf 0x0904 g).getD []) 1
  let o : Out := ⟨80 + g, x.st * 2 ^ 32 + x.sq, d.toPorts mask 7 0xFFFF (fun p => d.gooseFrame g p x) ++
    [.set (Reg.ALN_GO_STNUM g) (w32 x.st), .set (Reg.ALN_GO_SQNUM g) (w32 x.sq), .count (Reg.ALN_GO_TX_CNT g)], []⟩
  (d.present o).2

/-- A block samples its dataset (R426): a change makes a new stNum and is sent at once. While its unit does not speak it samples nothing. (DESIGN CHOICE: notes/assumptions/71) -/
def Dev.gooseSample (d : Dev) (g : Nat) : Dev :=
  if d.flag (Reg.ALN_GO_CFG g) 0 && (d.recOf 0x0904 g).isSome && d.speaks then
    let v := sumN ((d.gooseMembers g).zipIdx.map (fun x => b2n (d.signal x.1) * 2 ^ x.2))
    let x := d.gooseOf g
    if x.live && x.vals = v then d
    else
      let minT := d.fld (Reg.ALN_GO_CFG g) 15 8
      (d.modGoose g (fun x => ⟨true, v, (x.st + 1) % 2 ^ 32, 0, d.ns, d.tq, minT, d.tim.clk + ticksMs minT⟩)).gooseSend g
  else d

/-- Every block samples. -/
def Dev.gooseAll (d : Dev) : Dev := foldUp 16 (fun g d => d.gooseSample g) d

/-- After a takeover from the twin a block continues from what it emitted last (R429): its next sampling makes the next stNum. (DESIGN CHOICE: notes/assumptions/71) -/
def Dev.gooseContinue (d : Dev) : Dev :=
  foldUp 16 (fun g (d : Dev) =>
    let e := tget 0 d.units.outSeq (80 + g)
    if e = 0 then d else d.modGoose g (fun x => { x with live := false, st := (e - 1) / 2 ^ 32, sq := (e - 1) % 2 ^ 32 })) d

/-- GOOSE_RETRANSMIT (R427): MIN_T, 2 × MIN_T, 4 × MIN_T and so on after the change, as long as no interval exceeds MAX_T. (DEDUCED: notes/assumptions/186) -/
def Dev.gooseRepeat (d : Dev) (g : Nat) : Dev :=
  let x := d.gooseOf g
  if x.live && d.flag (Reg.ALN_GO_CFG g) 0 && decide (x.due ≤ d.tim.clk) && d.speaks then
    let gap := min (if x.sq = 0 then x.gap else 2 * x.gap) (d.fld (Reg.ALN_GO_CFG g) 31 16)
    (d.modGoose g (fun x => { x with sq := (x.sq + 1) % 2 ^ 32, gap := gap, due := d.tim.clk + ticksMs gap })).gooseSend g
  else d

/-- An output that passes, with the sampling of GOOSE that an alarm asks for (R68, R426). -/
def Dev.passOut (d : Dev) (x : Out) : Dev := let d := d.pass x; if x.acts.contains .goose then d.gooseAll else d

/-- An output that is ready. -/
def Dev.output (d : Dev) (x : Out) : Dev :=
  let (passed, d) := d.present x
  if passed && x.acts.contains .goose then d.gooseAll else d

/-! Data frames (R407 to R412). -/

/-- A stream at reset. -/
def Str.start : Str := ⟨false, none⟩

/-- A stream. -/
def Dev.str (d : Dev) (s : Nat) : Str := tget Str.start d.roost.strs s

/-- A stream changed. -/
def Dev.modStr (d : Dev) (s : Nat) (f : Str → Str) : Dev := { d with roost := { d.roost with strs := tset Str.start d.roost.strs s (f (d.str s)) } }

/-- The STREAM_BLOCK records of a stream, in ascending block order. -/
def Dev.blocks (d : Dev) (s : Nat) : List Bytes := ((d.recs 0x0902).filter (fun r => byteAt r.body 0 == s)).map (·.body)

/-- A number times a single-precision scale, single precision; an infinity or a NaN counts as the free Config.f32Bad. (DESIGN CHOICE: notes/assumptions/65) -/
def scaleF32 (v : Int) (scale : Nat) : Nat :=
  let (m, e) := (f32 scale).getD (Config.f32Bad scale)
  if 0 ≤ e then toF32 (v * m * 2 ^ e.toNat) 1 else toF32 (v * m) (2 ^ (- e).toNat)

/-- A field of a missing entry (R412). -/
def missField (float : Bool) : Bytes := if float then be 4 0x7FC00000 else be 2 0x8000

/-- STAT of a block (R411). -/
def blockStat (local' : Bool) (acc : Nat) : Option Bytes → Nat
  | none => 2 ^ 15
  | some r =>
    let st := beAt r 22 2
    let q := if acc ≤ 2 then 1 else if acc = 3 then 2 else if acc = 4 then 3 else if acc = 5 then 4 else if acc = 6 then 5 else if acc = 7 then 6 else 7
    (if st.testBit 7 then 2 ^ 14 else 0) + (if st.testBit 12 then 2 ^ 13 + 0x30 else 0) + (if st.testBit 13 then 2 ^ 9 else 0)
      + (if local' then q * 64 else 0)

/-- One PMU block (R408, R410, R412). -/
def Dev.blockBytes (d : Dev) (s : Nat) (acc : Nat) (blk : Bytes) (r : Option Bytes) : Bytes :=
  let cfg := d.rd (Reg.ALN_STR_CFG s)
  let pf := bit cfg 3
  let af := bit cfg 4
  let ff := bit cfg 5
  let stat := be 2 (blockStat (decide (65536 ≤ beAt blk 4 4)) acc r)
  let b := r.getD []
  let ph (k : Nat) : Bytes :=
    if r.isNone then missField pf ++ missField pf
    else if pf then be 4 (scaleF32 (beAt b (4 * k) 2) (beAt blk (12 + 4 * k) 4)) ++ be 4 (angF32 (beAt b (4 * k + 2) 2))
    else be 2 (beAt b (4 * k) 2) ++ beI 2 (clampS 16 (angMilli (beAt b (4 * k + 2) 2)))
  let fd := sx 32 (beAt b 16 4)
  let ro := sx 16 (beAt b 20 2)
  let freq := if r.isNone then missField ff ++ missField ff
    else if ff then be 4 (toF32 ((d.f0 * 1000000 : Nat) + fd) 1000000) ++ be 4 (toF32 ro 1000)
    else beI 2 (clampS 16 (rdiv fd 1000)) ++ beI 2 (clampS 16 (rdiv ro 10))
  let an (j : Nat) : Bytes :=
    if r.isNone then missField af
    else if af then be 4 (scaleF32 (sx 16 (beAt b (24 + 2 * j) 2)) (beAt blk (28 + 4 * j) 4))
    else be 2 (beAt b (24 + 2 * j) 2)
  let dg := if byteAt blk 10 = 0 then [] else if r.isNone then zeros 2 else be 2 (beAt b 28 2)
  stat ++ (List.range (byteAt blk 8)).flatMap ph ++ freq ++ (List.range (byteAt blk 9)).flatMap an ++ dg

/-- SOC and FRACSEC of a time in ns with a quality (R409). -/
def Dev.socFrac (d : Dev) (t tq base : Nat) : Bytes :=
  let q := tq / 128 % 2 * 64 + tq / 64 % 2 * 32 + tq / 32 % 2 * 16 + tq / 256 % 16
  be 4 (d.soc (t / 1000000000)) ++ be 1 q ++ be 3 (rdivN (t % 1000000000 * base) 1000000000)

/-- A frame with its CHK. -/
def withChk (b : Bytes) : Bytes := b ++ be 2 (crcCcitt b)

/-- The data frame of a stream for a slot (R408, R409). -/
def Dev.dataFrame (d : Dev) (s : Nat) (x : Slot9) : Bytes :=
  let rec' := (d.recOf 0x0901 s).getD []
  let body := (d.blocks s).flatMap (fun blk => d.blockBytes s (x.tq / 256 % 16) blk (x.get (beAt blk 4 4)))
  withChk (be 2 (if d.flag (Reg.ALN_STR_CFG s) 2 then 0xAA02 else 0xAA01) ++ be 2 (16 + body.length) ++ be 2 (beAt rec' 4 2)
    ++ d.socFrac x.at' x.tq (beAt rec' 8 4) ++ body)

/-- A stream sends data (R415, R416). (DEDUCED: notes/assumptions/70) -/
def Dev.strOn (d : Dev) (s : Nat) : Bool :=
  d.flag (Reg.ALN_STR_CFG s) 0 && (d.str s).dataOn &&
  (!d.flag (Reg.ALN_STR_CFG s) 1 || (match (d.str s).conn with | some c => c.up | none => false))

/-- The stream builders at the close of a slot: a K_STREAM item for each data frame that is due (R399, R407, R414, R533). (DEDUCED: notes/assumptions/70) -/
def Dev.buildStreams (d : Dev) (n : Nat) : Dev :=
  match d.slot n with
  | none => d
  | some x =>
    foldUp 64 (fun s d =>
      let div := d.fld (Reg.ALN_STR_CFG s) 15 8
      if d.strOn s && (div = 0 || n % d.rate % div = 0) then (d.mkItemBy 0x20 (d.worst 0x20 (d.blocks s).length) 0 ((d.recOf 0x0901 s).map (fun b => beAt b 26 2)) (.stream s n (d.dataFrame s x))).2 else d) d

/-! Sending (R413 to R419). -/

/-- Tag of a stream: VID and PCP (R431). -/
def Dev.strTag (d : Dev) (s : Nat) : Option (Nat × Nat) :=
  let v := beAt ((d.recOf 0x0901 s).getD []) 6 2
  if v.testBit 15 then some (v % 4096, v / 4096 % 8) else none

/-- A C37.118.2 frame of a UDP stream as frames of its ports. -/
def Dev.udpStream (d : Dev) (s q : Nat) (f : Bytes) : List Act :=
  let r := (d.recOf 0x0901 s).getD []
  d.toPorts (d.fld (Reg.ALN_STR_CFG s) 23 16) q 0x20 (fun p =>
    ethHdr (beAt r 16 6) (d.mac (d.addrPort p)) (d.strTag s) 0x0800 ++
      udpPacket 0 64 (d.ip p) (d.rdN (Reg.ALN_STR_DST_IPV4 s)) (d.fld (Reg.ALN_STR_PORTS s) 31 16) (d.fld (Reg.ALN_STR_PORTS s) 15 0) f)

/-- The MSS of a connection (R416). (PRESUMED: notes/assumptions/69) -/
def Dev.mssCap (d : Dev) (s p peer : Nat) : Nat :=
  let pair := d.pairActive p
  let m := if pair then min (d.maxFrm (lanA p)) (d.maxFrm (lanA p + 1)) else d.maxFrm p
  min peer (m - 58 - (if (d.strTag s).isSome then 4 else 0) - (if pair then 6 else 0))

/-- The header template of a segment of a connection (R311, R920): flags, sequence number, options. (PRESUMED: notes/assumptions/69) -/
def Dev.tcpTemplate (d : Dev) (s : Nat) (c : Conn) (flags seqNo : Nat) (opts : Bytes) : Bytes :=
  let own := d.ip c.port
  let tcp := be 2 (d.fld (Reg.ALN_STR_PORTS s) 15 0) ++ be 2 c.sport ++ be 4 seqNo ++ be 4 c.rcvNxt ++ be 1 ((5 + opts.length / 4) * 16) ++ be 1 flags
    ++ be 2 Config.tcpWindow ++ zeros 4 ++ opts
  ethHdr c.mac (d.mac (d.addrPort c.port)) (d.strTag s) 0x0800 ++ ipHdr 0 (20 + tcp.length) 0 64 6 own c.ip ++ tcp

/-- A TCP segment without payload, through TXQ4. -/
def Dev.tcpBare (d : Dev) (s : Nat) (c : Conn) (flags seqNo : Nat) (opts : Bytes) : Dev :=
  if d.speaks then d.txSend c.port 4 0x24 false [segment (d.tcpTemplate s c flags seqNo opts) [] 1 0 1] else d

/-- Bytes of a connection as segments of one job. -/
def Dev.tcpData (d : Dev) (s : Nat) (c : Conn) (b : Bytes) : List Bytes :=
  segments (d.tcpTemplate s c 0x18 c.sndNxt []) b (max 1 c.mss)

/-- The connection of a stream changed. -/
def Dev.modConn (d : Dev) (s : Nat) (f : Conn → Conn) : Dev := d.modStr s (fun x => { x with conn := x.conn.map f })

/-- A command's answer, or a data frame, put in the send buffer of a connection, with the queue that its segments take. -/
def Dev.tcpBuffer (d : Dev) (s q : Nat) (b : Bytes) : Dev :=
  d.modConn s (fun c => { c with buf := c.buf ++ [(q, b)], sndNxt := (c.sndNxt + b.length) % 2 ^ 32 })

/-- Bytes in the send buffer of a connection. -/
def Conn.held (c : Conn) : Nat := sumN (c.buf.map (fun x => x.2.length))

/-- A send buffer after bytes at its front are acknowledged. -/
def bufDrop : Nat → List (Nat × Bytes) → List (Nat × Bytes)
  | _, [] => []
  | n, (q, b) :: r => if n < b.length then (q, b.drop n) :: r else bufDrop (n - b.length) r

/-- What a send buffer holds is sent again from a sequence number on, each frame through its queue. -/
def Dev.tcpResend (d : Dev) (s : Nat) (c : Conn) : Nat → List (Nat × Bytes) → Dev
  | _, [] => d
  | n, (q, b) :: r => (d.txSend c.port q 0x24 true (segments (d.tcpTemplate s c 0x18 n []) b (max 1 c.mss))).tcpResend s c ((n + b.length) % 2 ^ 32) r

/-- K_STREAM presents a built data frame to the claim gate, while the stream sends data (R414 to R417). -/
def Dev.streamPresent (d : Dev) (s n : Nat) (f : Bytes) : Dev :=
  let note := [Act.set (Reg.ALN_STR_LAST_SEQ_LO s) (w32 n), .set (Reg.ALN_STR_LAST_SEQ_HI s) (w32 (n / 2 ^ 32)), .count (Reg.ALN_STR_FRM_CNT s)]
  if !(d.str s).dataOn then d
  else if d.flag (Reg.ALN_STR_CFG s) 1 then
    match (d.str s).conn with
    | some c =>
      if !c.up then d
      else if 262144 < c.held + f.length then (d.inc (Reg.ALN_STR_DROP_CNT s) 1).raise Reg.ALN_INT_STATUS 3
      else (d.tcpBuffer s 5 f).output ⟨16 + s, n, [.send c.port 5 0x20 true (d.tcpData s c f)] ++ note, []⟩
    | none => d
  else d.output ⟨16 + s, n, d.udpStream s 5 f ++ note, f⟩

/-- Slots of the K_STREAM items of a stream that the active wing has still to complete. -/
def Dev.streamOpen (d : Dev) (s : Nat) : List Nat :=
  let w := d.ws d.active
  (w.wait ++ w.cores.map (·.2.item) ++ w.early).filterMap (fun i => match i.work with | .stream t n _ => if t = s then some n else none | _ => none)

/-- The frames that K_STREAM has ready are presented, those of one stream in ascending order of their slots (R414). (DEDUCED: notes/assumptions/184) -/
def Dev.streamDrain (d : Dev) : Dev :=
  (d.roost.ready.mergeSort (fun a b => decide (a.2.1 ≤ b.2.1))).foldl (fun (d : Dev) x =>
    if (d.streamOpen x.1).any (fun n => decide (n < x.2.1)) then d
    else ({ d with roost := { d.roost with ready := d.roost.ready.erase x } }).streamPresent x.1 x.2.1 x.2.2) d

/-- A stored header or configuration frame sent (R418, R419): type 1 header, 3 CFG-2; the SYNC type nibble as given. -/
def Dev.sendStored (d : Dev) (s typ nibble : Nat) : Dev :=
  match d.recOf 0x0903 (s * 256 + typ) with
  | none => d
  | some r =>
    let f := (r.drop 4).take (beAt r 2 2)
    let base := beAt ((d.recOf 0x0901 s).getD []) 8 4
    let ver := if d.flag (Reg.ALN_STR_CFG s) 2 then 2 else 1
    let f := patch (patch f 0 (be 1 0xAA ++ be 1 (nibble * 16 + ver))) 6 (d.socFrac d.ns d.tq base)
    let f := withChk (f.take (f.length - 2))
    if !d.speaks then d
    else if d.flag (Reg.ALN_STR_CFG s) 1 then
      match (d.str s).conn with
      | some c => if c.up then (d.tcpBuffer s 4 f).txSend c.port 4 0x24 true (d.tcpData s c f) else d
      | none => d
    else (d.udpStream s 4 f).foldl (fun (d : Dev) a => d.act a) d

/-- A command frame of a stream (R418). (DEDUCED: notes/assumptions/68) -/
def Dev.c37Command (d : Dev) (s cmd : Nat) : Dev :=
  if d.flag (Reg.ALN_STR_CFG s) 0 then
    let acted (d : Dev) : Dev := d.incW (Reg.ALN_STR_CMD_CNT s) 1
    if cmd = 1 then acted (d.modStr s (fun x => { x with dataOn := false }))
    else if cmd = 2 then acted (d.modStr s (fun x => { x with dataOn := true }))
    else if cmd = 3 then acted (d.sendStored s 1 1)
    else if cmd = 4 then acted (d.sendStored s 3 2)
    else if cmd = 5 then acted (d.sendStored s 3 3)
    else d.inc (Reg.ALN_STR_CMD_IGN_CNT s) 1
  else d

/-- A command frame with a valid CHK and the stream's IDCODE is acted on (R418). -/
def Dev.c37Take (d : Dev) (s : Nat) (x : Bytes) : Dev :=
  let n := x.length
  if 18 ≤ n && beAt x 2 2 = n && beAt x 0 2 / 16 = 0xAA4 && beAt x 4 2 = beAt ((d.recOf 0x0901 s).getD []) 4 2
      && crcCcitt (x.take (n - 2)) = beAt x (n - 2) 2 then d.c37Command s (beAt x 14 2) else d

/-- Command frames taken from the bytes that a connection has received (R418); the rest stays. (DEDUCED: notes/assumptions/68) -/
def Dev.c37Bytes (d : Dev) (s : Nat) (b : Bytes) : Nat → Bytes × Dev
  | 0 => (b, d)
  | f + 1 =>
    let n := beAt b 2 2
    if b.length < 4 || b.length < n || n < 18 then (if 4 ≤ b.length && n < 18 then [] else b, d)
    else
      (d.c37Take s (b.take n)).c37Bytes s (b.drop n) f

/-- The MSS that the options of a segment announce, 536 where none does (R416). -/
def tcpMss : Nat → Bytes → Nat
  | 0, _ => 536
  | f + 1, o =>
    let k := byteAt o 0
    if k = 0 then 536 else if k = 1 then tcpMss f (o.drop 1) else if k = 2 then beAt o 2 2 else tcpMss f (o.drop (max 2 (byteAt o 1)))

/-- K_TCP on one received segment of a stream's listener, or on a timer event (R416, R527). (PRESUMED: notes/assumptions/69; DEDUCED: notes/assumptions/140) -/
def Dev.tcpStep (d : Dev) (s p : Nat) (b : Bytes) : Dev :=
  match b with
  | [] =>
    match (d.str s).conn with
    | some c =>
      if c.up && c.buf ≠ [] && d.speaks then d.tcpResend s c c.sndUna c.buf else d
    | none => d
  | _ =>
    let l := l3Of b
    let h := 4 * (byteAt b l % 16)
    let t := l + h
    let fl := byteAt b (t + 13)
    let off := byteAt b (t + 12) / 16 * 4
    let tot := beAt b (l + 2) 2
    let data := (b.drop (t + off)).take (tot - h - off)
    let sq := beAt b (t + 4) 4
    let peer : Conn := ⟨p, beAt b 6 6, beAt b (l + 12) 4, beAt b t 2, 0, 0, 0, (sq + 1) % 2 ^ 32, false, [], []⟩
    let same (c : Conn) : Bool := c.ip == peer.ip && c.sport == peer.sport
    if fl.testBit 1 && !fl.testBit 4 then
      match (d.str s).conn with
      | some c => if same c then d else d.tcpBare s peer 0x14 0 []
      | none =>
        let opts := (b.drop (t + 20)).take (off - 20)
        let mss := tcpMss opts.length opts
        let (isn, d) := d.free
        let c := { peer with mss := d.mssCap s p mss, sndNxt := (isn + 1) % 2 ^ 32, sndUna := (isn + 1) % 2 ^ 32 }
        (d.modStr s (fun x => { x with conn := some c, dataOn := false })).tcpBare s c 0x12 (isn % 2 ^ 32) (be 1 2 ++ be 1 4 ++ be 2 (d.mssCap s p 65535))
    else
      match (d.str s).conn with
      | none => if fl.testBit 2 then d else d.tcpBare s peer 0x14 (beAt b (t + 8) 4) []
      | some c =>
        if !same c then (if fl.testBit 2 then d else d.tcpBare s peer 0x14 (beAt b (t + 8) 4) [])
        else if fl.testBit 2 then (d.modStr s (fun x => { x with conn := none })).raise Reg.ALN_INT_STATUS 4
        else
          let d := if c.up then d else (d.modConn s (fun c => { c with up := true })).raise Reg.ALN_INT_STATUS 4
          let got := (beAt b (t + 8) 4 + 2 ^ 32 - c.sndUna) % 2 ^ 32
          let d := if got ≤ c.held then d.modConn s (fun c => { c with sndUna := beAt b (t + 8) 4, buf := bufDrop got c.buf }) else d
          let d := if data ≠ [] && sq = c.rcvNxt then
              let (rest, d) := d.c37Bytes s (c.rx ++ data) 64
              d.modConn s (fun c => { c with rx := rest, rcvNxt := (c.rcvNxt + data.length) % 2 ^ 32 })
            else d
          let d := if fl.testBit 0 then d.modConn s (fun c => { c with rcvNxt := (c.rcvNxt + 1) % 2 ^ 32 }) else d
          let d := match (d.str s).conn with
            | some c => if data ≠ [] || fl.testBit 0 then d.tcpBare s c (if fl.testBit 0 then 0x11 else 0x10) c.sndNxt [] else d
            | none => d
          if fl.testBit 0 then (d.modStr s (fun x => { x with conn := none })).raise Reg.ALN_INT_STATUS 4 else d

/-- DATA_ON of the UDP streams at a load or commit (R415). -/
def Dev.strCommit (d : Dev) : Dev :=
  foldUp 64 (fun s d => if d.flag (Reg.ALN_STR_CFG s) 1 then d else d.modStr s (fun x => { x with dataOn := d.flag (Reg.ALN_STR_CFG s) 6 })) d

/-! Registers of the ALN block that show state held elsewhere. -/

/-- Registers of the ALN block (R432, R433). -/
def Dev.alnReg (d : Dev) (a : Nat) : Option Word :=
  if a = Reg.ALN_STATUS then some (w32 (b2n (d.flag Reg.ALN_CTL 0 && d.roost.first.isSome) + 2 * b2n (d.roost.busy != [])))
  else if a = Reg.ALN_OPEN_SEQ_LO then some (w32 (d.roost.opened.getD 0))
  else if a = Reg.ALN_OPEN_SEQ_HI then some (w32 (d.roost.opened.getD 0 / 2 ^ 32))
  else if a = Reg.ALN_CLOSED_SEQ_LO then some (w32 (d.roost.closed.getD 0))
  else if a = Reg.ALN_CLOSED_SEQ_HI then some (w32 (d.roost.closed.getD 0 / 2 ^ 32))
  else if a = Reg.ALN_EARLY_DEPTH then some (w32 d.roost.early.length)
  else
    match (List.range 64).findSome? (fun s =>
      if a = Reg.ALN_STR_STATUS s then
        some (w32 (b2n (d.str s).dataOn + 2 * b2n (match (d.str s).conn with | some c => c.up | none => false) + 65536 * (d.blocks s).length))
      else none) with
    | some w => some w
    | none =>
      (List.range 16).findSome? (fun g =>
        let x := d.gooseOf g
        if a = Reg.ALN_GO_STATUS g then some (w32 (b2n d.testRoot + 256 * (d.gooseMembers g).length))
        else if a = Reg.ALN_GO_VAL_LO g then some (w32 x.vals)
        else if a = Reg.ALN_GO_VAL_HI g then some (w32 (x.vals / 2 ^ 32))
        else none)

end Sys2Proof.Machine
end

