-- ==== Sys2Proof/Machine/Ingress.lean ====
section
/-! DEFINITION. Sys2Proof/Machine/Ingress.lean: points and ingress (chapter 8): the point table, the classifier, scale reports, C37.118.2 frames,
sampled values, the ingress queues and their gap markers. -/

namespace Sys2Proof.Machine

/-! The point table (R333 to R340). -/

/-- The candidate buckets of an identity (R335). -/
def buckets (id : Nat) : Nat × Nat :=
  let c := crc32c (be 8 id)
  let a := c % 8192
  let b := c / 65536 % 8192
  (a, if b = a then (a + 1) % 8192 else b)

/-- An entry found outside both of its buckets is in the overflow CAM (R336). -/
def inCam (id idx : Nat) : Bool := let (a, b) := buckets id; idx / 8 != a && idx / 8 != b

/-- A lookup (R337): the index of the valid entry with an identity. -/
def Dev.lookup (d : Dev) (id : Nat) : Option Nat :=
  ((d.recs 0x0801).find? (fun r => beAt r.body 0 8 == id && beAt r.body 8 2 % 2 == 1)).map (·.key)

/-- ING_LOOKUP: a write of ING_LOOKUP_ID_HI starts a lookup, which ends at once (R337, R382). -/
def Dev.ingLookup (d : Dev) (hi : Word) : Dev :=
  let d := d.wr Reg.ING_LOOKUP_ID_HI hi
  let id := d.rd64 Reg.ING_LOOKUP_ID_LO Reg.ING_LOOKUP_ID_HI
  d.wrN Reg.ING_LOOKUP_RES (match d.lookup id with
    | some i => i + 2 ^ 16 + b2n (inCam id i) * 2 ^ 17 + 2 ^ 18
    | none => 2 ^ 18)

/-- The runtime state of every index whose entry gains VALID or takes another identity is cleared, as is that of an entry that is gone (R340), given the
table before. -/
def Dev.pointCommit (d : Dev) (old : List CfgRec) : Dev :=
  let gone := old.filter (fun x => x.typ == 0x0801 && (d.recOf 0x0801 x.key).isNone)
  let d := gone.foldl (fun (d : Dev) x => d.modPoint x.key (fun _ => PointRt.start)) d
  (d.recs 0x0801).foldl (fun (d : Dev) r =>
    let was := old.find? (fun x => x.typ == 0x0801 && x.key == r.key)
    let valid (b : Bytes) := beAt b 8 2 % 2 == 1
    let clear := match was with
      | some w => (valid r.body && !valid w.body) || beAt w.body 0 8 != beAt r.body 0 8
      | none => valid r.body
    if clear then d.modPoint r.key (fun _ => PointRt.start) else d) d

/-! Keys (R353 to R355). -/

/-- The material of the root key that ROOT_SLOT names (R353). -/
def Dev.rootKey (d : Dev) (sel : Nat) : Bytes :=
  let slot := byteAt ((d.recOf 0x0800 0).getD []) (20 + sel)
  match d.key.force.find? (fun x => x.1 == slot) with
  | some (_, k) => if k.use = 4 && k.typ = 2 then k.material else []
  | none => []

/-- The key of a point, from its entry: label FJARARI-PT, context identity and key epoch (R353). -/
def Dev.derivePoint (d : Dev) (b : Bytes) : Bytes :=
  kdf 1 (d.rootKey (beAt b 8 2 / 16 % 16)) ([0x46, 0x4A, 0x41, 0x52, 0x41, 0x52, 0x49, 0x2D, 0x50, 0x54]) (b.take 8 ++ (b.drop 10).take 2)

/-- The key of a point as the derived-key memory holds it (R33, R355). -/
def Dev.pointKey (d : Dev) (i : Nat) : Bytes := tget [] d.ing.keys i

/-! Drops (R381). -/

/-- A drop under a code. -/
def Dev.drop (d : Dev) (c : Nat) : Dev := d.inc (Reg.ING_DROP_CNT c) 1

/-- A drop after the lookup found the point (R383). -/
def Dev.dropPoint (d : Dev) (i c : Nat) : Dev := (d.drop c).pointDrop i c

/-! Queues (R372, R373). -/

/-- Capacity of an ingress queue. -/
def iqCap (q : Nat) : Nat := if q = 0 then 32768 else if q = 3 then 2048 else 4096

/-- Virtual service of an ingress queue: ps per frame (R372). -/
def iqServPs (q : Nat) : Nat := if q = 0 then 62500 else if q = 1 then 500000 else 4000000

/-- A virtual depth at a time in units, after the services since, one every `ps` ps while it is above zero (R372, R575). With no period it is served at once. (DESIGN CHOICE: notes/assumptions/182) -/
def VDepth.serve (x : VDepth) (ps t : Nat) : VDepth :=
  let per := ps * unitNs / 1000
  if x.n = 0 || per = 0 then ⟨0, 0⟩
  else
    let k := (t - x.at') / per
    if x.n ≤ k then ⟨0, 0⟩ else ⟨x.n - k, x.at' + k * per⟩

/-- One more in a virtual depth at a time: the service of an empty one begins with it. -/
def VDepth.push (x : VDepth) (t : Nat) : VDepth := ⟨x.n + 1, if x.n = 0 then t else x.at'⟩

/-- The release time that services have reached: no frame whose release is still to come lies before it (R297, R372). -/
def Dev.released (d : Dev) : Nat :=
  match nextRelease d.net.rxq with
  | some f => min d.tim.out (f.fin + 500 * unitNs)
  | none => d.tim.out

/-- The virtual depth of a queue at a release time. -/
def Dev.iqAt (d : Dev) (q t : Nat) : VDepth := (tget ⟨0, 0⟩ d.ing.iq q).serve (iqServPs q) t

/-- Frames in the IQ_HOST of a wing (R375). -/
def Dev.hostFrames (d : Dev) (w : Nat) : List Bytes := (d.ing.hostq.filter (fun x => x.1 == w)).map (·.2)

/-- Depth of an ingress queue: virtual for 0 to 2, real for 3, where it is that of the active wing (R375, R384). -/
def Dev.iqDepth (d : Dev) (q : Nat) : Nat := if q = 3 then (d.hostFrames d.active).length else (d.iqAt q d.released).n

/-- Wings on which a queue holds what the frames bring: both, or the active one for IQ_HOST (R372, R375). -/
def Dev.iqWings (d : Dev) (q : Nat) : List Nat := if q = 3 then [d.active] else [0, 1]

/-- Items that an ingress queue holds on a wing: its markers, and the frames of IQ_HOST. The frames of queues 0 to 2 are served in the command that
releases them. (DEDUCED: notes/assumptions/86) -/
def Dev.iqItems (d : Dev) (w q : Nat) : Nat :=
  (tget [] d.ing.gaps (if q = 3 then 3 + w else q)).length + (if q = 3 then (d.hostFrames w).length else 0)

/-- Place of the gap markers of a queue. -/
def Dev.gapKey (d : Dev) (q : Nat) : Nat := if q = 3 then 3 + d.active else q

/-- Place of a register of an ingress queue: IQ_HOST has its own on each wing (R375, R384). -/
def Dev.iqReg (d : Dev) (q a : Nat) : Nat := if q = 3 then wingAddr d.active a else a

/-- A frame that is not admitted: it counts, and joins the marker at the tail or makes one (R373, R573). -/
def Dev.iqDrop (d : Dev) (q fin : Nat) : Dev :=
  let k := d.gapKey q
  let ms := tget [] d.ing.gaps k
  let joins := (ms.getLast?).any (·.newest)
  let ms := if joins then lmod ms (ms.length - 1) (fun m => { m with count := m.count + 1, last := fin }) else ms ++ [⟨1, fin, fin, true⟩]
  let d : Dev := { d with ing := { d.ing with gaps := tset [] d.ing.gaps k ms } }
  let d := d.inc (d.iqReg q (Reg.ING_IQ_GAP_CNT q)) 1
  (d.iqWings q).foldl (fun (d : Dev) w =>
    let d := (d.inc (wingAddr w (Reg.QUE_Q_DROP_CNT (64 + q))) 1).wrMax (wingAddr w (Reg.QUE_Q_MAX_DEPTH (64 + q))) (d.iqItems w q)
    if joins then d else (d.inc (wingAddr w (Reg.QUE_Q_GAP_CNT (64 + q))) 1).raise (wingAddr w Reg.QUE_INT_STATUS) 0) d

/-- A frame is admitted: it is the newest item, and the largest depths are noted. -/
def Dev.iqEnter (d : Dev) (q n : Nat) : Dev :=
  let k := d.gapKey q
  let d := { d with ing := { d.ing with gaps := tset [] d.ing.gaps k ((tget [] d.ing.gaps k).map (fun (m : GapMark) => { m with newest := false })) } }
  (d.iqWings q).foldl (fun (d : Dev) w => d.wrMax (wingAddr w (Reg.QUE_Q_MAX_DEPTH (64 + q))) (d.iqItems w q + 1)) (d.wrMax (d.iqReg q (Reg.ING_IQ_MAX_DEPTH q)) n)

/-- Is a frame that ended at a time in units admitted to a queue at its release (R297, R372, R373)? (DEDUCED: notes/assumptions/61) -/
def Dev.iqAdmit (d : Dev) (q fin : Nat) : Bool × Dev :=
  if q = 3 then
    let n := (d.hostFrames d.active).length
    if n < iqCap 3 then (true, d.iqEnter 3 (n + 1)) else (false, d.iqDrop 3 (fin / unitNs))
  else
    let t := fin + 500 * unitNs
    let x := d.iqAt q t
    if x.n < iqCap q then (true, ({ d with ing := { d.ing with iq := tset ⟨0, 0⟩ d.ing.iq q (x.push t) } }).iqEnter q (x.n + 1))
    else (false, ({ d with ing := { d.ing with iq := tset ⟨0, 0⟩ d.ing.iq q x } }).iqDrop q (fin / unitNs))

/-- GAP_MARKER_DEQUEUE: the oldest marker of a queue (R373). (DEDUCED: notes/assumptions/61) -/
def Dev.gapDequeue (d : Dev) (q : Nat) : Dev :=
  match tget [] d.ing.gaps (d.gapKey q) with
  | [] => d
  | m :: r =>
    let d := { d with ing := { d.ing with gaps := tset [] d.ing.gaps (d.gapKey q) r } }
    let n := min m.count 0xFFFFFFFF
    ((d.recordAt 0x0802 m.first d.tq (be 1 q ++ zeros 3 ++ be 4 n ++ be 8 m.first ++ be 8 m.last ++ zeros 8)).inc (Reg.ING_DROP_CNT 0) m.count).raise
      Reg.ING_INT_STATUS 1

/-- VIRTUAL_SERVICE_TICK of an ingress queue: the services due by the release time reached (R372, R575). (DESIGN CHOICE: notes/assumptions/182) -/
def Dev.iqService (d : Dev) (q : Nat) : Dev := { d with ing := { d.ing with iq := tset ⟨0, 0⟩ d.ing.iq q (d.iqAt q d.released) } }

/-! Reading a frame. -/

/-- The parts of a frame that the classifier reads: offset after the EtherType, EtherType, VID of the tag. -/
structure Parsed where
  l3 : Nat
  etype : Nat
  vid : Option Nat
  deriving DecidableEq, Repr

/-- A frame read by the classifier; none with two or more tags (R342). (PRESUMED: notes/assumptions/25) -/
def parseEth (b : Bytes) : Option Parsed :=
  if beAt b 12 2 = 0x8100 then
    (if beAt b 16 2 = 0x8100 || beAt b 16 2 = 0x88A8 then none else some ⟨18, beAt b 16 2, some (beAt b 14 2 % 4096)⟩)
  else some ⟨14, beAt b 12 2, none⟩

/-- The transport port that an IPv4 packet of a protocol names, when its fragment offset is 0 and the frame holds the field (R341, R343). -/
def dstPort (b : Bytes) (l3 proto : Nat) : Option Nat :=
  let ihl := byteAt b l3 % 16
  if byteAt b (l3 + 9) = proto && beAt b (l3 + 6) 2 % 8192 = 0 && l3 + 4 * ihl + 4 ≤ b.length then some (beAt b (l3 + 4 * ihl + 2) 2) else none

/-- The checks of R343 on the IPv4 part: discarded as IP_ERR? -/
def Dev.ipErr (d : Dev) (p : Nat) (b : Bytes) (l3 : Nat) : Bool :=
  let dst := beAt b (l3 + 16) 4
  csum ((b.drop l3).take (4 * (byteAt b l3 % 16))) != 0 || byteAt b l3 % 16 != 5 || decide (beAt b (l3 + 2) 2 < 28) ||
  decide (b.length < l3 + beAt b (l3 + 2) 2) || beAt b (l3 + 6) 2 % 16384 != 0 || !(dst == d.ip p || dst / 2 ^ 28 == 0xE)

/-- The checks of R343 on the UDP part: discarded as UDP_ERR? -/
def udpErr (b : Bytes) (l3 : Nat) : Bool :=
  let n := beAt b (l3 + 24) 2
  n != beAt b (l3 + 2) 2 - 20 ||
  (beAt b (l3 + 26) 2 != 0 && l4Csum (beAt b (l3 + 12) 4) (beAt b (l3 + 16) 4) 17 ((b.drop (l3 + 20)).take n) != 0)

/-- The wingbeat boundary at a time of a second (R47): its k. -/
def gridK (rate ns : Nat) : Option Nat :=
  let k := cdiv (ns * rate) 1000000000
  if rate ≠ 0 && k < rate && k * 1000000000 / rate = ns then some k
  else none

/-- Does the tag of a frame pass the VLAN field of an entry (R351)? -/
def vlanOk (v : Nat) : Option Nat → Bool
  | none => v.testBit 13
  | some vid => v.testBit 12 || vid == v % 4096

/-- A report is sent no further than its slot: check 9 of R351. -/
def Dev.tooOld (d : Dev) (n : Nat) : Bool := match d.newestGone with | some g => decide (n ≤ g) | none => false

/-- Checks 3, 4, 8 and 9 of R351 on a point, for a slot whose instant is given in ns; C37 tells the path. -/
def Dev.check (_d : Dev) (b : Bytes) (c37 : Bool) (p : Nat) (vid : Option Nat) : Option Nat :=
  let fl := beAt b 8 2
  if !fl.testBit 1 || fl.testBit 2 != c37 then some 9
  else if !fl.testBit (8 + p) || !vlanOk (beAt b 12 2) vid then some 10
  else none

/-- Checks 8 and 9 of R351. -/
def Dev.checkTime (d : Dev) (n : Nat) : Option Nat :=
  if d.ns + d.rdN Reg.ING_FUTURE_TOL * 1000 < slotNs d.rate n then some 14 else if d.tooOld n then some 15 else none

/-- An authentication failure (R352). -/
def Dev.authFail (d : Dev) (i : Nat) (b : Bytes) (epoch : Nat) : Dev :=
  let d := ((d.dropPoint i 16).raise Reg.ING_INT_STATUS 0).modPoint i (fun p => { p with auth := (p.auth + 1) % 2 ^ 32, authNew := p.authNew + 1 })
  let due := match (d.pointRt i).authAt with | some a => decide (ticksSec 1 ≤ d.tim.clk - a) | none => true
  if due then
    (d.record 0x0801 (be 2 i ++ be 2 epoch ++ be 4 (d.pointRt i).authNew ++ b.take 8)).modPoint i (fun p => { p with authNew := 0, authAt := some d.tim.clk })
  else d

/-- A magnitude of a scale report after normalisation (R358), and whether it clamped. -/
def normMag (mag scale : Nat) : Nat × Bool := let v := (mag * scale + 2 ^ 13) / 2 ^ 14; (min v 65535, decide (65535 < v))

/-- The normalised record of a scale report (R357 to R359): its 72 bytes, the table entry, ARRIVAL and TQ_MAX_ACC. -/
def normalise (r b : Bytes) (arr maxAcc : Nat) : Bytes :=
  let ph (k : Nat) : Bytes × Bool :=
    let (m, c) := normMag (beAt r (24 + 4 * k) 2) (beAt b (16 + 2 * k) 2)
    (be 2 m ++ be 2 ((beAt r (26 + 4 * k) 2 + beAt b 14 2) % 65536), c)
  let sat := (List.range 4).any (fun k => (ph k).2)
  let tq := beAt r 22 2
  let suspect := tq / 2 ^ 14 != 1 || decide (maxAcc < tq / 256 % 16)
  let st := beAt r 46 2 % 4096 + b2n suspect * 2 ^ 12 + b2n sat * 2 ^ 13
  (List.range 4).flatMap (fun k => (ph k).1) ++ (r.drop 40).take 6 ++ be 2 st ++ (r.drop 48).take 6 ++ be 2 arr

/-- A point's record goes to the roost, and its runtime state follows (R383, R394). (DEDUCED: notes/assumptions/67) -/
def Dev.placePoint (d : Dev) (i n fin : Nat) (rec' : Bytes) (seqNo : Option Nat) : Dev :=
  let (pl, d) := d.place i n fin rec' seqNo
  d.pointPlaced i pl

/-- The checks of a scale report in their order (R351), its authentication and its placing; the 72 bytes, receiving port and tag, frame end in ns. -/
def Dev.scaleReport (d : Dev) (r : Bytes) (p : Nat) (vid : Option Nat) (fin : Nat) : Dev :=
  if !d.tim.lockedOnce then d.drop 7
  else match d.lookup (beAt r 2 8) with
    | none => (d.drop 8).raise Reg.ING_INT_STATUS 2
    | some i =>
      let b := (d.point i).getD []
      match d.check b false p vid with
      | some c => d.dropPoint i c
      | none =>
        if (byteAt r 1).testBit 0 && !(beAt b 8 2).testBit 3 then d.dropPoint i 11
        else if beAt r 54 2 ≠ beAt b 10 2 then (d.dropPoint i 12).raise Reg.ING_INT_STATUS 6
        else match gridK d.rate (beAt r 18 4) with
          | none => d.dropPoint i 13
          | some k =>
            let sec := beAt r 12 6
            let n := sec * d.rate + k
            match d.checkTime n with
            | some c => d.dropPoint i c
            | none =>
              let iv := (r.drop 6).take 4 ++ be 8 (sec * 1000000000 + beAt r 18 4)
              if Config.gmac (d.pointKey i) iv (r.take 56) ≠ (r.drop 56).take 16 then d.authFail i b (beAt r 54 2)
              else d.placePoint i n fin (normalise r b (arrival fin (slotNs d.rate n)) (d.fld Reg.ING_CFG 7 4)) (some (beAt r 10 2))

/-! C37.118.2 points (R360 to R368). -/

/-- The trust rule (R361). -/
def Dev.trusted (d : Dev) (p : Nat) : Option Nat → Bool
  | none => d.flag (Reg.ING_PORT_TRUST p) 0
  | some vid => d.flag (Reg.ING_PORT_TRUST p) 1 ||
    (List.range 16).any (fun i =>
      let v := d.rd (Reg.ING_TRUST_VLAN i)
      bit v 12 && bits v 11 0 == vid && bit v (16 + p))

/-- A frame discarded as UNTRUSTED. -/
def Dev.untrusted (d : Dev) : Dev := (d.drop 17).raise Reg.ING_INT_STATUS 5

/-- A C37 source at reset. -/
def C37Src.start : C37Src := ⟨none, none, none, false, 0⟩

/-- Runtime state of a C37 source. -/
def Dev.c37 (d : Dev) (i : Nat) : C37Src := tget C37Src.start d.ing.c37 i

/-- It changed. -/
def Dev.modC37 (d : Dev) (i : Nat) (f : C37Src → C37Src) : Dev := { d with ing := { d.ing with c37 := tset C37Src.start d.ing.c37 i (f (d.c37 i)) } }

/-- The source of a C37 frame (R363). -/
def Dev.c37Source (d : Dev) (idcode ip port : Nat) : Option Nat :=
  ((d.recs 0x0802).find? (fun r => beAt r.body 2 2 == idcode && beAt r.body 4 4 == ip && beAt r.body 8 2 == port)).map (·.key)

/-- "Send CFG-2" to a source, at most once a second (R364). (PRESUMED: notes/assumptions/64) -/
def Dev.c37Request (d : Dev) (src p : Nat) (b : Bytes) (l3 : Nat) : Dev :=
  let due := match (d.c37 src).reqAt with | some a => decide (ticksSec 1 ≤ d.tim.clk - a) | none => true
  if d.flag Reg.ING_CFG 8 && due then
    let d := d.modC37 src (fun s => { s with reqAt := some d.tim.clk })
    if d.speaks then
      let r := (d.recOf 0x0802 src).getD []
      let f := withChk (be 2 0xAA41 ++ be 2 18 ++ be 2 (beAt r 2 2) ++ d.socFrac d.ns d.tq 1000000 ++ be 2 5)
      let tag := if l3 = 18 then some (beAt b 14 2 % 4096, beAt b 14 2 / 8192) else none
      d.txSend p 3 0xFFFF false [ethHdr (beAt b 6 6) (d.mac (d.addrPort p)) tag 0x0800 ++
        udpPacket 0 64 (d.ip p) (beAt b (l3 + 12) 4) (d.fld Reg.ING_C37_UDP_PORT 15 0) (beAt b (l3 + 20) 2) f]
    else d
  else d

/-- Bytes of a block in a data frame. -/
def C37Block.size (b : C37Block) : Nat :=
  2 + b.phnmr * (if b.format.testBit 1 then 8 else 4) + (if b.format.testBit 3 then 8 else 4)
    + b.annmr * (if b.format.testBit 2 then 4 else 2) + 2 * b.dgnmr

/-- A single-precision field as m × 2^e; an infinity or a NaN counts as the free Config.f32Bad. (DESIGN CHOICE: notes/assumptions/65) -/
def f32At (x : Bytes) (off : Nat) : Int × Int := (f32 (beAt x off 4)).getD (Config.f32Bad (beAt x off 4))

/-- A phasor of a block in record form (R367): magnitude before the clamp, angle in 2^−16 turn. (PRESUMED: notes/assumptions/64) -/
def c37Phasor (blk : C37Block) (x : Bytes) (k scale shift : Nat) : Int × Int :=
  let unit : Int := (blk.phunit.getD k 0 % 2 ^ 24 : Nat)
  let den := 2 ^ shift
  if blk.format.testBit 1 then
    let (m1, e1) := f32At x (2 + 8 * k)
    let (m2, e2) := f32At x (6 + 8 * k)
    if blk.format.testBit 0 then (roundScaled m1 e1 (100000 * scale : Nat) den, radTurn m2 e2)
    else
      let e := min e1 e2
      let re := m1 * 2 ^ (e1 - e).toNat
      let im := m2 * 2 ^ (e2 - e).toNat
      ((sqrtNear ((re.natAbs ^ 2 + im.natAbs ^ 2) * (100000 * scale * 2 ^ e.toNat) ^ 2) ((den * 2 ^ (- e).toNat) ^ 2) : Nat), angleTurn re im)
  else
    let a := beAt x (2 + 4 * k) 2
    let b := beAt x (4 + 4 * k) 2
    if blk.format.testBit 0 then (rdiv (a * unit * scale) den, rdiv (sx 16 b * 65536 * (10 ^ 26 : Nat)) twoPi)
    else
      let re := sx 16 a
      let im := sx 16 b
      ((sqrtNear ((re.natAbs ^ 2 + im.natAbs ^ 2) * (unit.natAbs * scale) ^ 2) (den ^ 2) : Nat), angleTurn re im)

/-- The record of a point from its block (R367, R368). (PRESUMED: notes/assumptions/64) -/
def Dev.c37Record (d : Dev) (blk : C37Block) (x e : Bytes) (tqCode arr : Nat) : Bytes :=
  let n := min 4 blk.phnmr
  let shift := byteAt e 29
  let ph (k : Nat) : Bytes × Bool :=
    if k < n then
      let (m, a) := c37Phasor blk x k (beAt e (16 + 2 * k) 2) shift
      (be 2 (clampI 0 65535 m).toNat ++ be 2 ((a + beAt e 14 2) % 65536).toNat, decide (65535 < m))
    else (zeros 4, false)
  let o := 2 + blk.phnmr * (if blk.format.testBit 1 then 8 else 4)
  let nomUHz : Int := (d.f0 * 1000000 : Nat)
  let fnom : Int := if blk.fnom % 2 = 1 then 50000000 else 60000000
  let ff := blk.format.testBit 3
  let fdev : Int := fnom + (if ff then (let (m, ex) := f32At x o; roundScaled m ex 1000000 1) else sx 16 (beAt x o 2) * 1000) - nomUHz
  let ro : Int := if ff then (let (m, ex) := f32At x (o + 4); roundScaled m ex 1000 1) else sx 16 (beAt x (o + 2) 2) * 10
  let o2 := o + (if ff then 8 else 4)
  let aw := if blk.format.testBit 2 then 4 else 2
  let an (j : Nat) : Int :=
    if blk.annmr ≤ j then 0
    else if blk.format.testBit 2 then (let (m, ex) := f32At x (o2 + 4 * j); roundScaled m ex 1 1) else sx 16 (beAt x (o2 + 2 * j) 2)
  let dig := if blk.dgnmr = 0 then 0 else beAt x (o2 + blk.annmr * aw) 2
  let stat := beAt x 0 2
  let good := stat / 2 ^ 14 == 0
  let suspect := stat.testBit 13 || decide (d.fld Reg.ING_CFG 7 4 < tqCode)
  let sat := (List.range 4).any (fun k => (ph k).2)
  let st := (if good then (2 ^ n - 1) + 16 + 32 * b2n (decide (0 < blk.annmr)) + 64 * b2n (decide (1 < blk.annmr)) else 128)
    + b2n suspect * 2 ^ 12 + b2n sat * 2 ^ 13 + 2 ^ 14
  (List.range 4).flatMap (fun k => (ph k).1) ++ beI 4 (clampS 32 fdev) ++ beI 2 (clampS 16 ro) ++ be 2 st ++ beI 2 (clampS 16 (an 0))
    ++ beI 2 (clampS 16 (an 1)) ++ be 2 dig ++ be 2 arr

/-- The offsets of the blocks of a data frame. -/
def blockOffs : Nat → List C37Block → List Nat
  | _, [] => []
  | o, b :: r => o :: blockOffs (o + b.size) r

/-- The TAI − UTC that a data frame uses (R366). -/
def Dev.c37LeapOfs (d : Dev) (frac : Nat) : Int :=
  match d.ing.leapAt with
  | some (at', old) => if d.sec < at' + 2 && !frac.testBit 29 then old else d.leapOfs
  | none => d.leapOfs

/-- A data frame of a source with a configuration (R365 to R368): port, tag, frame end in ns. -/
def Dev.c37Data (d : Dev) (src p : Nat) (vid : Option Nat) (fin : Nat) (f : Bytes) (cfg : C37Cfg) : Dev :=
  let frac := beAt f 10 4
  let t : Int := ((beAt f 6 4 : Nat) + d.c37LeapOfs frac) * 1000000000 + rdivN (frac % 2 ^ 24 * 1000000000) cfg.timeBase
  let tol : Int := d.rdN Reg.ING_C37_TOL
  let s := t.toNat / 1000000000
  let k := rdivN (t.toNat % 1000000000 * d.rate) 1000000000
  let n := s * d.rate + k
  let dist : Int := (slotNs d.rate n : Int) - t
  let offs := blockOffs 14 cfg.blocks
  let d := d.modC37 src (fun x => { x with change := x.change || offs.any (fun o => (beAt f o 2).testBit 10) })
  if d.rate = 0 || tol < dist.natAbs then d.drop 13
  else
    let d := d.modC37 src (fun x => { x with frames := (x.frames + 1) % 2 ^ 32 })
    (d.recs 0x0801).foldl (fun (d : Dev) r =>
      let e := r.body
      if (beAt e 8 2).testBit 0 && (beAt e 8 2).testBit 2 && beAt e 26 2 = src && byteAt e 28 < cfg.blocks.length then
        if !d.tim.lockedOnce then d.drop 7
        else match d.check e true p vid with
          | some c => d.dropPoint r.key c
          | none =>
            match d.checkTime n with
            | some c => d.dropPoint r.key c
            | none =>
              let blk := cfg.blocks.getD (byteAt e 28) ⟨0, 0, 0, 0, [], 0⟩
              let x := f.drop (offs.getD (byteAt e 28) 14)
              d.placePoint r.key n fin (d.c37Record blk x e (frac / 2 ^ 24 % 16) (arrival fin (slotNs d.rate n))) none
      else d) d

/-- The blocks of a CFG-2 from an offset on. -/
def cfgBlocks (f : Bytes) : Nat → Nat → List C37Block × Nat
  | 0, o => ([], o)
  | n + 1, o =>
    let ph := beAt f (o + 20) 2
    let an := beAt f (o + 22) 2
    let dg := beAt f (o + 24) 2
    let u := o + 26 + 16 * (ph + an + 16 * dg)
    let v := u + 4 * (ph + an + dg)
    let b : C37Block := ⟨beAt f (o + 18) 2, ph, an, dg, (List.range ph).map (fun k => beAt f (u + 4 * k) 4), beAt f v 2⟩
    let (r, e) := cfgBlocks f n (v + 4)
    (b :: r, e)

/-- Worst-case cycles of K_C37CFG on a frame: per PMU block and, for the ROM kernel, 60 per channel name (R527). -/
def Dev.cfgCost (d : Dev) (f : Bytes) : Nat :=
  d.worst 0x22 (beAt f 18 2) + (if d.patched 0x22 then 0 else 60 * sumN ((cfgBlocks f (beAt f 18 2) 20).1.map (fun b => b.phnmr + b.annmr + 16 * b.dgnmr)))

/-- K_C37CFG (R365): a CFG-2 with the number of blocks of its source waits for the next boundary; another is rejected. -/
def Dev.c37Config (d : Dev) (src : Nat) (f : Bytes) : Dev :=
  let n := beAt f 18 2
  let (bl, e) := cfgBlocks f n 20
  if n = byteAt ((d.recOf 0x0802 src).getD []) 10 && e + 4 = beAt f 2 2 then
    d.modC37 src (fun s => { s with pend := some ⟨beAt f 14 4 % 2 ^ 24, bl⟩ })
  else d

/-- At a boundary the parsed configurations take force (R365). -/
def Dev.c37Boundary (d : Dev) : Dev :=
  d.ing.c37.foldl (fun (d : Dev) x =>
    match x.2.pend with
    | some c => (d.modC37 x.1 (fun s => { s with cfg := some c, pend := none, change := false })).raise Reg.ING_INT_STATUS 3
    | none => d) d

/-- A C37 frame (R360 to R364): the frame, the receiving port, tag, frame end in units and the whole packet. -/
def Dev.c37Frame (d : Dev) (f : Bytes) (p : Nat) (vid : Option Nat) (fin : Nat) (b : Bytes) (l3 : Nat) : Dev :=
  let sync := beAt f 0 2
  let data := sync == 0xAA01 || sync == 0xAA02
  if !d.trusted p vid then d.untrusted
  else if !(data || sync == 0xAA31 || sync == 0xAA32) || beAt f 2 2 ≠ f.length || f.length < 16 then d.drop 18
  else if crcCcitt (f.take (f.length - 2)) ≠ beAt f (f.length - 2) 2 then d.drop 19
  else match d.c37Source (beAt f 4 2) (beAt b (l3 + 12) 4) (beAt b (l3 + 20) 2) with
    | none => (d.drop 8).raise Reg.ING_INT_STATUS 2
    | some src =>
      if data then
        match (d.c37 src).cfg with
        | none => (d.drop 20).c37Request src p b l3
        | some cfg =>
          let d := d.c37Data src p vid (fin / unitNs) f cfg
          if (blockOffs 14 cfg.blocks).any (fun o => (beAt f o 2).testBit 10) then d.c37Request src p b l3 else d
      else
        let (ok, d) := d.iqAdmit 2 fin
        if ok then (d.mkItemBy 0x22 (d.cfgCost f) 0 none (.c37cfg src f)).2 else d

/-! Sampled values (R369 to R371). -/

/-- The next BER element of a byte string: tag, content, rest. -/
def berNext (b : Bytes) : Option (Nat × Bytes × Bytes) :=
  if b.length < 2 then none
  else
    let l := byteAt b 1
    let (n, h) := if l < 128 then (l, 2) else if l = 0x81 then (byteAt b 2, 3) else if l = 0x82 then (beAt b 2 2, 4) else (b.length, 2)
    if b.length < h + n then none else some (byteAt b 0, (b.drop h).take n, b.drop (h + n))

/-- The elements of a byte string; none where it is no sequence of them. -/
def berAll : Nat → Bytes → Option (List (Nat × Bytes))
  | _, [] => some []
  | 0, _ => none
  | f + 1, b =>
    match berNext b with
    | none => none
    | some (t, c, r) => (berAll f r).map (fun l => (t, c) :: l)

/-- The ASDUs of a sampled-value frame, each as its elements; none where the encoding is not valid, has security extensions or more than 8. (PRESUMED: notes/assumptions/25) -/
def asdus (b : Bytes) (l3 : Nat) : Option (List (List (Nat × Bytes))) :=
  let n := beAt b (l3 + 2) 2
  if n < 8 || b.length < l3 + n then none
  else match berAll 4 ((b.drop (l3 + 8)).take (n - 8)) with
    | some [(0x60, c)] =>
      match berAll 8 c with
      | some es =>
        let no := (es.find? (fun e => e.1 == 0x80)).map (fun e => ofBe e.2)
        match es.find? (fun e => e.1 == 0xA2), no with
        | some (_, sq), some no =>
          if es.any (fun e => e.1 == 0x81) || 8 < no || no = 0 then none
          else match berAll 9 sq with
            | some l => if l.length = no && l.all (fun e => e.1 == 0x30) then l.mapM (fun e => berAll 16 e.2) else none
            | none => none
        | _, _ => none
      | none => none
    | _ => none

/-- An element of an ASDU. -/
def asduGet (a : List (Nat × Bytes)) (t : Nat) : Bytes := ((a.find? (fun e => e.1 == t)).map (·.2)).getD []

/-- Does an ASDU hold what the stream's format gives it: smpCnt, confRev, smpSynch and a dataset of its length, 8 values with their qualities for
IEC 61850-9-2 LE (R370)? (PRESUMED: notes/assumptions/62) -/
def asduOk (le : Bool) (a : List (Nat × Bytes)) : Bool :=
  let n := (asduGet a 0x87).length
  (asduGet a 0x82).length == 2 && (asduGet a 0x83).length == 4 && (asduGet a 0x85).length == 1 && (if le then n == 64 else n != 0 && n % 8 == 0)

/-- The sample number S × rate + SmpCnt of a value (R238): the second is the one that puts its instant nearest to the output time. (DEDUCED: notes/assumptions/63) -/
def Dev.svNumber (d : Dev) (rate cnt : Nat) : Nat :=
  let at' (s : Nat) : Nat := s * 1000000000 + cnt * 1000000000 / rate
  let far (s : Nat) : Nat := ((at' s : Int) - d.ns).natAbs
  let s := d.sec
  let s := if far (s - 1) < far s then s - 1 else if far (s + 1) < far s then s + 1 else s
  s * rate + cnt

/-- One ASDU's values pass to the virtual channels mapped to its stream (R371). -/
def Dev.svAsdu (d : Dev) (s : Nat) (a : List (Nat × Bytes)) : Dev :=
  let data := asduGet a 0x87
  let cnt := ofBe (asduGet a 0x82)
  let sync := ofBe (asduGet a 0x85)
  foldUp 64 (fun v d =>
    let m := d.rd (Reg.ING_VC_MAP v)
    let item := bits m 8 4
    if bit m 9 && bits m 3 0 = s && 8 * item + 8 ≤ data.length && 0 < d.vcRate v then
      let q := beAt data (8 * item + 4) 4
      let fmt := d.fld (Reg.FLT_VC_CFG v) 1 0
      d.vcValue v (d.svNumber (d.vcRate v) cnt) (sx 32 (beAt data (8 * item) 4)) (q % 4 == 0) (q.testBit 11) (if fmt = 1 then sync != 0 else sync == 2)
    else d) d

/-- A sampled-value frame (R369, R370). (PRESUMED: notes/assumptions/62) -/
def Dev.svFrame (d : Dev) (b : Bytes) (p l3 : Nat) (vid : Option Nat) (fin : Nat) : Dev :=
  let (ok, d) := d.iqAdmit 1 fin
  if !ok then d
  else if !d.flag Reg.ING_CFG 3 then d.drop 22
  else if !d.trusted p vid then d.untrusted
  else
    let parsed := asdus b l3
    let svId := match parsed with
      | some (a :: _) => asduGet a 0x80
      | _ => []
    let hit := (List.range 16).find? (fun s =>
      let c := d.rd (Reg.ING_SV_CFG s)
      let r := (d.recOf 0x0803 s).getD []
      bit c 16 && bits c 15 0 == beAt b l3 2 && (match vid with | some v => bit c 30 && bits c 29 18 == v | none => !bit c 30) &&
        (parsed.isNone || svId == (r.drop 11).take (byteAt r 10)))
    match hit with
    | none => d.drop 22
    | some s =>
      let d := d.incW (Reg.ING_SV_RX_CNT s) 1
      match parsed with
      | some l =>
        if l.all (fun a => asduOk (!d.flag (Reg.ING_SV_CFG s) 17) a && ofBe (asduGet a 0x83) == d.rdN (Reg.ING_SV_CONFREV s)) then l.foldl (fun (d : Dev) a => d.svAsdu s a) d
        else (d.drop 21).inc (Reg.ING_SV_ERR_CNT s) 1
      | none => (d.drop 21).inc (Reg.ING_SV_ERR_CNT s) 1

/-! Replies (R527). -/

/-- K_REPLY on an ARP request or an ICMP echo request: the reply, through TXQ2. -/
def Dev.reply (d : Dev) (p : Nat) (b : Bytes) : Dev :=
  let l := l3Of b
  let own := d.mac (d.addrPort p)
  let tag := if l = 18 then some (beAt b 14 2 % 4096, beAt b 14 2 / 8192) else none
  if !d.speaks then d
  else if beAt b (l - 2) 2 = 0x0806 then
    d.txSend p 2 0x23 false [ethHdr (beAt b 6 6) own tag 0x0806 ++ (b.drop l).take 6 ++ be 2 2 ++ be 6 own ++ be 4 (d.ip p) ++ (b.drop (l + 8)).take 10]
  else
    let h := 4 * (byteAt b l % 16)
    let icmp := patch ((b.drop (l + h)).take (beAt b (l + 2) 2 - h)) 0 (zeros 4)
    d.txSend p 2 0x23 false [ethHdr (beAt b 6 6) own tag 0x0800 ++ ipHdr 0 (20 + icmp.length) 0 64 1 (d.ip p) (beAt b (l + 12) 4) ++ patch icmp 2 (be 2 (csum icmp))]

/-! The classifier (R341). -/

/-- The TCP stream that listens on a port number. -/
def Dev.listener (d : Dev) (port : Nat) : Option Nat :=
  (List.range 64).find? (fun s => d.flag (Reg.ALN_STR_CFG s) 0 && d.flag (Reg.ALN_STR_CFG s) 1 && d.fld (Reg.ALN_STR_PORTS s) 15 0 == port)

/-- The UDP stream whose command frames a packet may carry: it comes from the stream's destination address to its own address and port, with the stream's
IDCODE (R418). (DEDUCED: notes/assumptions/183) -/
def Dev.udpStreamOf (d : Dev) (p : Nat) (b : Bytes) (l3 port : Nat) (cmd : Bytes) : Option Nat :=
  (List.range 64).find? (fun s =>
    d.flag (Reg.ALN_STR_CFG s) 0 && !d.flag (Reg.ALN_STR_CFG s) 1 && d.fld (Reg.ALN_STR_PORTS s) 31 16 == port &&
    d.rdN (Reg.ALN_STR_DST_IPV4 s) == beAt b (l3 + 12) 4 && beAt b (l3 + 16) 4 == d.ip p && (d.fld (Reg.ALN_STR_CFG s) 23 16).testBit p &&
    beAt ((d.recOf 0x0901 s).getD []) 4 2 == beAt cmd 4 2)

/-- A frame after duplicate discard: admission to IFQ and its path (R341, R342, R372). (DEDUCED: notes/assumptions/61) -/
def Dev.ingress (d : Dev) (f : RxFrame) : Dev :=
  let fin := f.fin
  let p := f.port
  let b := f.bytes
  let (ok, d) := d.iqAdmit 0 fin
  if !ok then d
  else
    let d := d.incW (Reg.ING_PORT_RX_CNT p) 1
    match parseEth b with
    | none => d.drop 1
    | some x =>
      let l := x.l3
      let ip := x.etype == 0x0800
      let udp := if ip then dstPort b l 17 else none
      let tcp := if ip then dstPort b l 6 else none
      let payload := (b.drop (l + 28)).take (beAt b (l + 24) 2 - 8)
      if x.etype = 0x88F7 then d.ptpReceive p (b.drop l) f.stamp
      else if udp = some 319 || udp = some 320 then (if p < 4 then d.ptpReceive p (b.drop (l + 28)) f.stamp else d)
      else if !d.flag Reg.ING_CFG 0 then d.drop 1
      else if x.etype = 0x88BA then d.svFrame b p l x.vid fin
      else if udp = some (d.fld Reg.ING_SR_UDP_PORT 15 0) then
        if d.ipErr p b l then d.drop 2
        else if udpErr b l then d.drop 3
        else if beAt b (l + 24) 2 < 80 then d.drop 4
        else if 80 < beAt b (l + 24) 2 then d.drop 5
        else if byteAt payload 0 ≠ 1 then d.drop 6
        else d.scaleReport payload p x.vid (fin / unitNs)
      else if udp = some (d.fld Reg.ING_C37_UDP_PORT 15 0) && d.flag Reg.ING_CFG 2 then
        if d.ipErr p b l then d.drop 2
        else if udpErr b l then d.drop 3
        else d.c37Frame payload p x.vid fin b l
      else match tcp.bind d.listener with
        | some s =>
          let (ok, d) := d.iqAdmit 2 fin
          if ok then (d.mkItem 0x24 0 0 (.tcp s p b)).2 else d
        | none =>
          match udp.bind (fun port => d.udpStreamOf p b l port payload) with
          | some s =>
            let (ok, d) := d.iqAdmit 2 fin
            if ok && !d.ipErr p b l && !udpErr b l then d.c37Take s payload else d
          | none =>
          let arp := x.etype == 0x0806 && beAt b (l + 6) 2 == 1 && beAt b (l + 24) 4 == d.ip p
          let echo := ip && byteAt b (l + 9) == 1 && beAt b (l + 6) 2 % 8192 == 0 && byteAt b (l + 4 * (byteAt b l % 16)) == 8 && beAt b (l + 16) 4 == d.ip p
          if arp || echo then
            let (ok, d) := d.iqAdmit 2 fin
            if ok then (d.mkItem 0x23 b.length 0 (.reply p b)).2 else d
          else if d.flag Reg.ING_CFG 1 then
            let (ok, d) := d.iqAdmit 3 fin
            if ok then { d with ing := { d.ing with hostq := d.ing.hostq ++ [(d.active, b)] } } else d
          else d.drop 1

/-! Registers of the ING block (R380 to R384). -/

/-- Word i of the runtime view of a point (R383). -/
def PointRt.word (p : PointRt) (i : Nat) : Nat :=
  [p.seq, p.sec % 2 ^ 32, p.ns, p.acc, p.auth, p.gaps, p.disc, p.cause].getD i 0

/-- Registers that show state held elsewhere. -/
def Dev.ingReg (d : Dev) (a : Nat) : Option Word :=
  let sel := d.rd Reg.ING_PT_SEL
  let src := d.fld Reg.ING_C37_SEL 11 0
  if a = Reg.ING_STATUS then
    some (w32 (b2n (d.flag Reg.ING_CFG 0 && d.txn.inForce.isSome) + 2 * b2n (!d.tim.lockedOnce) + 4 * b2n (d.flag a 2) + 8 * b2n (d.ing.lag.contains d.active)))
  else if a = Reg.ING_TX_BASE then some (w32 (beAt ((d.recOf 0x0800 0).getD []) 16 4))
  else if a = Reg.ING_CAM_USED then some (w32 ((d.recs 0x0801).filter (fun r => inCam (beAt r.body 0 8) r.key)).length)
  else if a = Reg.ING_C37_STATUS then
    some (w32 (b2n (d.c37 src).cfg.isSome + 2 * b2n (d.c37 src).change + 256 * byteAt ((d.recOf 0x0802 src).getD []) 10))
  else if a = Reg.ING_C37_IDCODE then some (w32 (beAt ((d.recOf 0x0802 src).getD []) 2 2))
  else if a = Reg.ING_C37_FRM_CNT then some (w32 (d.c37 src).frames)
  else if Reg.ING_PT_DATA 0 ≤ a && a < Reg.ING_PT_DATA 8 then
    let i := (a - Reg.ING_PT_DATA 0) / 4
    some (w32 (if bit sel 16 then (d.pointRt (bits sel 15 0)).word i else beAt ((d.point (bits sel 15 0)).getD []) (4 * i) 4))
  else (List.range 4).findSome? (fun q => if a = Reg.ING_IQ_DEPTH q then some (w32 (d.iqDepth q)) else if a = Reg.ING_IQ_CAP q then some (w32 (iqCap q)) else none)

end Sys2Proof.Machine
end

