-- ==== Sys2Proof/Machine/Que.lean ====
section
/-! DEFINITION. Sys2Proof/Machine/Que.lean: the queue fabric (chapter 13): admission, gap markers, credits, cut-through reads, flush, memory errors. The
frames and items of the device's own queues are held where their chapters hold them. -/

namespace Sys2Proof.Machine

/-- An empty queue. (DESIGN CHOICE: notes/assumptions/157) -/
def Queue.start : Queue := ⟨[], 0, none, false, ⟨0, 0⟩, []⟩

/-- Queue q of a wing. -/
def Dev.queue (d : Dev) (w q : Nat) : Queue := tget Queue.start d.que.qs (512 * w + q)

/-- A queue changed. -/
def Dev.modQueue (d : Dev) (w q : Nat) (f : Queue → Queue) : Dev :=
  { d with que := { d.que with qs := tset Queue.start d.que.qs (512 * w + q) (f (d.queue w q)) } }

/-- Fields of QUE_Q[q]_CFG (R593). -/
def Dev.qEn (d : Dev) (q : Nat) : Bool := d.flag (Reg.QUE_Q_CFG q) 0
def Dev.qCredit (d : Dev) (q : Nat) : Bool := d.flag (Reg.QUE_Q_CFG q) 1
def Dev.qVserv (d : Dev) (q : Nat) : Bool := d.flag (Reg.QUE_Q_CFG q) 3
def Dev.qCt (d : Dev) (q : Nat) : Nat := d.fld (Reg.QUE_Q_CFG q) 20 16

/-- Queues that the device holds with accepted work (R588), and ACC of the others. -/
def Dev.qAcc (d : Dev) (q : Nat) : Bool :=
  if q < 64 then q % 8 = 5 || q % 8 = 7 else if q < 128 then false else if q < 192 then true else d.flag (Reg.QUE_Q_CFG q) 2

/-- Size of a credit pool (R576, R589). -/
def Dev.pool (d : Dev) (q k : Nat) : Nat := beAt ((d.recOf 0x0D00 q).getD []) (20 + 4 * (k % 4)) 4

/-- Virtual service of a queue of the image: VSERV in ps per item (R575). -/
def Dev.qServPs (d : Dev) (q : Nat) : Nat := d.rdN (Reg.QUE_Q_VSERV q) * 1000

/-- Every word of an item is written. -/
def QItem.whole (x : QItem) : Bool := decide (x.len ≤ x.words.length)

/-- The consumer sees an item (R571). -/
def QItem.visible (ct : Nat) (x : QItem) : Bool := x.whole || (ct != 0 && decide (ct ≤ x.words.length))

/-- Occupied slots, and items that the consumer sees (R571). -/
def Queue.occ (x : Queue) : Nat := x.items.length + b2n x.held.isSome
def Queue.depth (ct : Nat) (x : Queue) : Nat := (x.items.filter (QItem.visible ct)).length

/-- The words of a gap marker (R574). -/
def gapWords (count first last : Nat) : List (BitVec 64) :=
  [BitVec.ofNat 64 (min count 0xFFFFFFFF), BitVec.ofNat 64 first, BitVec.ofNat 64 last]

/-- A gap marker in its slot. -/
def gapItem (count first last : Nat) : QItem := ⟨true, 3, gapWords count first last, 0, first, 0, false⟩

/-- COUNT, FIRST and LAST of a marker. -/
def QItem.gapOf (x : QItem) : Nat × Nat × Nat := ((x.words.getD 0 0).toNat % 2 ^ 32, (x.words.getD 1 0).toNat, (x.words.getD 2 0).toNat)

/-- The largest depth of a queue is noted. -/
def Dev.qNote (d : Dev) (w q : Nat) : Dev := d.wrMax (wingAddr w (Reg.QUE_Q_MAX_DEPTH q)) ((d.queue w q).depth (d.qCt q))

/-- A data item that is not admitted joins the marker at the tail, or makes one (R573). -/
def Dev.qDrop (d : Dev) (w q stamp : Nat) : Dev :=
  let d := d.inc (wingAddr w (Reg.QUE_Q_DROP_CNT q)) 1
  let x := d.queue w q
  match x.items.getLast? with
  | some m =>
    if m.gap then
      let (c, f, _) := m.gapOf
      d.modQueue w q (fun x => { x with items := x.items.dropLast ++ [{ m with words := gapWords (c + 1) f stamp }] })
    else
      (((d.modQueue w q (fun x => { x with items := x.items ++ [gapItem 1 stamp stamp] })).inc (wingAddr w (Reg.QUE_Q_GAP_CNT q)) 1).raise
        (wingAddr w Reg.QUE_INT_STATUS) 0).qNote w q
  | none =>
    (((d.modQueue w q (fun x => { x with items := x.items ++ [gapItem 1 stamp stamp] })).inc (wingAddr w (Reg.QUE_Q_GAP_CNT q)) 1).raise
      (wingAddr w Reg.QUE_INT_STATUS) 0).qNote w q

/-- The first word of an item, with the words that follow it at once: admitted or dropped whole (R570, R572, R575, R576). Is it a wing fault (R575)? (DEDUCED: notes/assumptions/87) -/
def Dev.qPush (d : Dev) (w q len pool : Nat) (stamp : Option Nat) (ws : List (BitVec 64)) : Bool × Dev :=
  if !d.qEn q then (false, d)
  else
    let x := d.queue w q
    let cap := d.fld (Reg.QUE_Q_CAP q) 16 0
    let st := stamp.getD d.ns
    let item : QItem := ⟨false, len, ws.take len, 0, st, pool % 4, false⟩
    let put (d : Dev) : Dev := (d.modQueue w q (fun x => { x with items := x.items ++ [item], skip := 0 })).qNote w q
    let rest := len - ws.length
    if d.qCredit q then
      if tget 0 x.used (pool % 4) < d.pool q pool then
        (false, (put d).modQueue w q (fun x => { x with used := tset 0 x.used (pool % 4) (tget 0 x.used (pool % 4) + 1) }))
      else (false, d.modQueue w q (fun x => { x with skip := rest }))
    else
      let vd := x.vdepth.serve (d.qServPs q) d.tim.out
      let v := !d.qVserv q || decide (vd.n < d.fld (Reg.QUE_Q_VCAP q) 16 0)
      if x.occ + 1 ≤ cap - 1 && v then
        (false, (put d).modQueue w q (fun x => { x with vdepth := if d.qVserv q then vd.push d.tim.out else x.vdepth }))
      else (d.qVserv q && v, (d.qDrop w q st).modQueue w q (fun x => { x with skip := rest }))

/-- The credit of an item returns to its pool (R576). -/
def Queue.credit (x : Queue) (pool : Nat) : Queue := { x with used := tset 0 x.used pool (tget 0 x.used pool - 1) }

/-- Words of an item that has been dropped or ended are discarded; with the end word the slot is free, and in credit mode its credit returns (R576, R579). (DESIGN CHOICE: notes/assumptions/197) -/
def Queue.skipWords (x : Queue) (credit : Bool) (n : Nat) : Queue :=
  if x.skip ≤ n then
    let y := match x.held with | some k => if credit then x.credit k else x | none => x
    { y with skip := 0, held := none }
  else { x with skip := x.skip - n }

/-- Further words of the item that its producer is writing; those of an item that has been dropped or ended are discarded (R570, R578, R579). -/
def Dev.qMore (d : Dev) (w q : Nat) (ws : List (BitVec 64)) : Dev :=
  let x := d.queue w q
  if x.skip != 0 then d.modQueue w q (fun x => x.skipWords (d.qCredit q) ws.length)
  else
    match x.items.getLast? with
    | some m =>
      if m.whole then d
      else (d.modQueue w q (fun x => { x with items := x.items.dropLast ++ [{ m with words := (m.words ++ ws).take m.len }] })).qNote w q
    | none => d

/-- What a pop answers is held for the wing. -/
def Dev.setPop (d : Dev) (w : Nat) (p : Option PopOut) : Dev :=
  if w = 0 then { d with que := { d.que with pop0 := p } } else { d with que := { d.que with pop1 := p } }

/-- A QUE_UE record with its counts (R586, R587). -/
def Dev.qUe (d : Dev) (w q slot : Nat) : Dev :=
  let d := (d.recordLocal w 0x0D01 (be 1 w ++ zeros 1 ++ be 2 q ++ be 4 slot ++ zeros 8)).inc (wingAddr w Reg.QUE_UE_TOTAL) 1
  if d.qAcc q then d else (d.inc (wingAddr w (Reg.QUE_Q_UE_CNT q)) 1).raise (wingAddr w Reg.QUE_INT_STATUS) 2

/-- Corrected errors (R584). -/
def Dev.qCe (d : Dev) (w q n : Nat) : Dev :=
  if n = 0 then d
  else ((d.inc (wingAddr w (Reg.QUE_Q_CE_CNT q)) n).inc (wingAddr w Reg.QUE_CE_TOTAL) n).raise (wingAddr w Reg.QUE_INT_STATUS) 1

/-- Item `slot` of the items with a property, in a list. -/
def nthOf {α : Type} (p : α → Bool) (slot : Nat) (l : List α) : Option α := (l.filter p)[slot]?

/-- An uncorrectable error in a queue of the device that holds no accepted work (R587): a frame to be sent or a record of the early buffer is discarded by its
consumer, a frame or marker of an ingress queue is replaced by a marker. -/
def Dev.qErrorDevice (d : Dev) (w q slot : Nat) : Dev :=
  let lost : GapMark := ⟨1, 2 ^ 64 - 1, 2 ^ 64 - 1, false⟩
  if q < 64 then
    if w ≠ d.active then d
    else match nthOf (fun f => f.1 == q % 8) slot (d.port (q / 8)).txq with
      | some f => (d.modPort (q / 8) (fun x => { x with txq := x.txq.erase f })).txIdle (q / 8)
      | none => d
  else if q = 67 then
    match nthOf (fun x => x.1 == w) slot d.ing.hostq with
    | some f => { d with ing := { d.ing with hostq := d.ing.hostq.erase f, gaps := tset [] d.ing.gaps (3 + w) (lost :: tget [] d.ing.gaps (3 + w)) } }
    | none => d
  else if q < 67 then
    { d with ing := { d.ing with gaps := tset [] d.ing.gaps (q - 64) (lmod (tget [] d.ing.gaps (q - 64)) slot (fun (m : GapMark) => { lost with newest := m.newest })) } }
  else if q = 68 && w == d.active then { d with roost := { d.roost with early := d.roost.early.eraseIdx slot } }
  else d

/-- An uncorrectable error in the item of a slot, counted from the head (R586, R587): the words of an item that carries ERR are free. Is it a wing fault? (DESIGN CHOICE: notes/assumptions/88) -/
def Dev.qError (d : Dev) (w q slot : Nat) : Bool × Dev :=
  let d := d.qUe w q slot
  if d.qAcc q then (true, d)
  else if q < 192 then (false, d.qErrorDevice w q slot)
  else
    let (v, d) := d.free
    (false, d.modQueue w q (fun x => { x with items := lmod x.items slot (fun i =>
      if d.qCredit q then { i with err := true, words := i.words.mapIdx (fun j _ => BitVec.ofNat 64 (v / 2 ^ (64 * j))) }
      else gapItem 1 (2 ^ 64 - 1) (2 ^ 64 - 1)) }))

/-- QUEUE_POP: the consumer reads up to `n` words of the head item; with its last word the item leaves (R571, R576, R577, R580). `ce` errors are corrected,
`ue`: an uncorrectable error is found in the item. Is it a wing fault? (DEDUCED: notes/assumptions/87) -/
def Dev.qPop (d : Dev) (w q n ce : Nat) (ue : Bool) : Bool × Dev :=
  if q = 67 then
    let d := d.qCe w q ce
    if ue then (false, (d.qError w q 0).2.setPop w none)
    else match d.hostFrames w with
    | [] => (false, d.setPop w none)
    | f :: _ =>
      let ws := (List.range (cdiv f.length 8)).map (fun j => BitVec.ofNat 64 (leAt f (8 * j) 8))
      (false, ({ d with ing := { d.ing with hostq := d.ing.hostq.erase (w, f) } }).setPop w (some ⟨false, ws, false, false⟩))
  else
    let d := d.qCe w q ce
    let x := d.queue w q
    if x.abort then (false, (d.modQueue w q (fun x => { x with abort := false })).setPop w (some ⟨false, [], false, true⟩))
    else
      match x.items with
      | [] => (false, d.setPop w none)
      | i :: _ =>
        if !i.visible (d.qCt q) then (false, d.setPop w none)
        else
          let (fault, d) := if ue then d.qError w q 0 else (false, d)
          match (d.queue w q).items with
          | [] => (fault, d)
          | i :: r =>
            let got := (i.words.drop i.read).take n
            let now := i.read + got.length
            let d := d.setPop w (some ⟨i.gap, got, i.err, false⟩)
            if now < i.len then (fault, d.modQueue w q (fun x => { x with items := { i with read := now } :: r }))
            else (fault, d.modQueue w q (fun x => (if d.qCredit q then x.credit i.pool else x) |> fun x => { x with items := r }))

/-- An item ends before its pop: its slot, and in credit mode its credit, is free at once, or with its end word when it is partial (R576, R578, R579). (DESIGN CHOICE: notes/assumptions/197) -/
def Queue.ended (x : Queue) (credit : Bool) (i : QItem) : Queue :=
  if !i.whole then { x with skip := i.len - i.words.length, held := some i.pool } else if credit then x.credit i.pool else x

/-- A flush of a queue of a wing (R579, R580). (DESIGN CHOICE: notes/assumptions/197) -/
def Dev.qFlushWing (d : Dev) (w q : Nat) : Dev :=
  let x := d.queue w q
  let n := (x.items.filter QItem.whole).length
  let d := d.inc (wingAddr w (Reg.QUE_Q_FLUSH_CNT q)) n
  d.modQueue w q (fun x => x.items.foldl (fun (y : Queue) i => y.ended (d.qCredit q) i)
    { x with items := [], abort := x.abort || (d.qCt q != 0 && x.items.any (fun i => i.read != 0)) })

/-- A drop-remainder on a wing: the head item leaves the depth at once (R578, R580). -/
def Dev.qDropRem (d : Dev) (w q : Nat) : Dev :=
  match (d.queue w q).items with
  | [] => d
  | i :: r =>
    let d := d.inc (wingAddr w (Reg.QUE_Q_FLUSH_CNT q)) 1
    d.modQueue w q (fun x => { x with items := r, abort := x.abort || (d.qCt q != 0 && i.read != 0) }.ended (d.qCredit q) i)

/-- Items that a queue of the device holds on a wing, as its chapter holds them. (DEDUCED: notes/assumptions/86) -/
def Dev.devItems (d : Dev) (w q : Nat) : Nat :=
  if q < 64 then ((d.port (q / 8)).txq.filter (fun f => f.1 == q % 8)).length
  else if q < 68 then d.iqItems w (q - 64)
  else if q = 68 then d.roost.early.length
  else if q < 128 then 0
  else ((d.ws w).wait.filter (fun i => i.list == q - 128)).length

/-- A flush of a queue whose items its own chapter holds. -/
def Dev.qFlushDevice (d : Dev) (q : Nat) : Dev :=
  if q < 64 then
    let p := q / 8
    if d.devItems 0 q = 0 then d else (d.modPort p (fun x => { x with txq := x.txq.filter (fun f => f.1 != q % 8) })).txIdle p
  else if q < 68 then
    { d with ing := { d.ing with
        hostq := if q = 67 then [] else d.ing.hostq
        gaps := d.ing.gaps.filter (fun x => if q = 67 then decide (x.1 < 3) else x.1 != q - 64) } }
  else if q = 68 then { d with roost := { d.roost with early := [] } }
  else d

/-- LAST of QUE_CMD_STATUS set, with CMD_REFUSED for a refusal (R583, R593). -/
def Dev.qLast (d : Dev) (v : Nat) : Dev :=
  foldUp 2 (fun w d =>
    let d := d.wrN (wingAddr w Reg.QUE_CMD_STATUS) v
    if v = 0 then d else d.raise (wingAddr w Reg.QUE_INT_STATUS) 3) d

/-- The queue is enabled: by the device, or by its CFG (R569). -/
def Dev.qOn (d : Dev) (q : Nat) : Bool :=
  if q < 69 then true else if q < 128 then false else if q < 192 then d.listClass (q - 128) != 0 else d.qEn q

/-- A write of QUE_CMD (R583, R593), which reaches both wings (R591). (DEDUCED: notes/assumptions/87) -/
def Dev.queCmd (d : Dev) (data : Word) : Dev :=
  let q := bits data 8 0
  let op := bits data 13 12
  if (op != 1 && op != 2) || !d.qOn q then d.qLast 2
  else if op = 1 then
    if d.qAcc q then d.qLast 1
    else if q < 192 then
      (foldUp 2 (fun w (e : Dev) => e.inc (wingAddr w (Reg.QUE_Q_FLUSH_CNT q)) (d.devItems w q)) (d.qFlushDevice q)).qLast 0
    else (foldUp 2 (fun w d => d.qFlushWing w q) d).qLast 0
  else if !d.flag (Reg.QUE_Q_CFG q) 4 then d.qLast 3
  else
    let seen (w : Nat) : Bool := match (d.queue w q).items with | i :: _ => i.visible (d.qCt q) | [] => false
    if seen d.active then (foldUp 2 (fun w d => if seen w then d.qDropRem w q else d) d).qLast 0 else d.qLast 4

/-- SCRUB_PASS of a wing: corrected errors by queue, uncorrectable ones by queue and slot (R585). Is it a wing fault? -/
def Dev.qScrub (d : Dev) (w : Nat) (ces : List Nat) (ues : List (Nat × Nat)) : Bool × Dev :=
  let d := ces.foldl (fun (d : Dev) q => d.qCe w q 1) d
  let (f, d) := ues.foldl (fun (x : Bool × Dev) u => let (f, d) := x.2.qError w u.1 u.2; (x.1 || f, d)) (false, d)
  (f, d.incW (wingAddr w Reg.QUE_SCRUB_PASS) 1)

/-- VIRTUAL_SERVICE_TICK: the services of a virtual depth that are due, on both wings (R372, R575). (DESIGN CHOICE: notes/assumptions/182) -/
def Dev.qService (d : Dev) (q : Nat) : Dev :=
  if 64 ≤ q && q ≤ 66 then d.iqService (q - 64)
  else if q < 192 then d
  else foldUp 2 (fun w d => d.modQueue w q (fun x => { x with vdepth := x.vdepth.serve (d.qServPs q) d.tim.out })) d

/-- A QUEUE record in force sets CFG, CAP, VSERV and VCAP (R589). -/
def queueRegs (b : Bytes) : List (Nat × Word) :=
  let q := beAt b 0 2
  [(Reg.QUE_Q_CFG q, w32 (byteAt b 2 % 32 + byteAt b 3 % 32 * 256 + byteAt b 8 % 32 * 65536)), (Reg.QUE_Q_CAP q, w32 (beAt b 4 4)),
   (Reg.QUE_Q_VSERV q, w32 (beAt b 12 4)), (Reg.QUE_Q_VCAP q, w32 (beAt b 16 4))]

/-- Words that a queue of the image takes (R568). -/
def Dev.qWords (d : Dev) (q : Nat) : Nat := if d.qEn q then d.fld (Reg.QUE_Q_CAP q) 16 0 * (d.fld (Reg.QUE_Q_CFG q) 12 8 + 1) else 0

/-- CAP of a queue of the device (R372, R396, R568, R575). (DESIGN CHOICE: notes/assumptions/179) -/
def devCapOf (q : Nat) : Nat :=
  if q < 64 then devCap q else if q < 67 then iqCap (q - 64) + 2048 else if q = 67 then iqCap 3 + 1 else 8192

/-- Registers of the QUE block of a wing that show its state (R592, R593). -/
def Dev.queReg (d : Dev) (w a : Nat) : Option Word :=
  if a = Reg.QUE_STATUS then some (w32 (((List.range 512).filter d.qOn).length))
  else if a = Reg.QUE_WORDS_USED then some (w32 (Config.queDevWords + sumN ((List.range 320).map (fun j => d.qWords (192 + j)))))
  else if Reg.QUE_Q_CFG 0 ≤ a && a < Reg.QUE_Q_CFG 512 then
    let q := (a - Reg.QUE_Q_CFG 0) / 0x40
    let x := d.queue w q
    let ct := d.qCt q
    match (a - Reg.QUE_Q_CFG 0) % 0x40 with
    | 0x00 => if q < 192 && d.qOn q then some (w32 (1 + 2 * b2n (!(decide (64 ≤ q) && decide (q < 69))) + 4 * b2n (d.qAcc q)
        + 8 * b2n (decide (64 ≤ q) && decide (q < 67)) + 256 * (Config.queItemWords q % 16 + 1))) else none
    | 0x04 => if q < 69 then some (w32 (devCapOf q)) else if 128 ≤ q && q < 192 then some (w32 (d.listCap (q - 128))) else none
    | 0x08 => if 64 ≤ q && q < 67 then some (w32 (rdivN (iqServPs (q - 64)) 1000)) else none
    | 0x0C => if 64 ≤ q && q < 67 then some (w32 (iqCap (q - 64))) else none
    | 0x10 => some (w32 (Config.queBase q))
    | 0x14 =>
      if q < 192 then some (w32 (d.devItems w q + 2 ^ 17 * b2n (decide (64 ≤ q) && decide (q < 68) &&
        ((tget [] d.ing.gaps (if q = 67 then 3 + w else q - 64)).getLast?).any (·.newest))))
      else some (w32 (x.depth ct + 2 ^ 17 * b2n ((x.items.getLast?).elim false (·.gap)) + 2 ^ 18 * b2n (x.skip != 0 || (x.items.getLast?).elim false (fun i => !i.whole))))
    | 0x18 => some (w32 (if q < 192 then d.devItems w q else x.occ))
    | 0x34 =>
      some (w32 (if d.qCredit q then sumN ((List.range 4).map (fun k => d.pool q k - tget 0 x.used k))
        else if 128 ≤ q && q < 192 then d.listCap (q - 128) - d.devItems w q
        else if q < 64 then devCap q - d.devItems w q else 0))
    | 0x38 => some (w32 (if 64 ≤ q && q < 67 then d.iqDepth (q - 64) else (x.vdepth.serve (d.qServPs q) d.tim.out).n))
    | _ => none
  else none

end Sys2Proof.Machine
end

