-- ==== Sys2Proof/Machine/Osc.lean ====
section
/-! DEFINITION. Sys2Proof/Machine/Osc.lean: the oscillation watch (chapter 10): inputs and their conditioning, the spectral bank, the subspace trackers,
damping, alarms and the read views. -/

namespace Sys2Proof.Machine

/-! Configuration. -/

/-- f_b of every bin in 2^−32 Hz: 0.05 × 80^(b/63) Hz (R444). -/
def binHz : List Nat :=
  [214748365, 230217134, 246800151, 264577677, 283635754, 304066625, 325969173, 349449408] ++
  [374620972, 401605696, 430534186, 461546454, 494792601, 530433536, 568641762, 609602205] ++
  [653513114, 700587016, 751051749, 805151561, 863148295, 925322654, 991975560, 1063429613] ++
  [1140030649, 1222149417, 1310183369, 1404558590, 1505731852, 1614192835, 1730466486, 1855115569] ++
  [1988743384, 2131996687, 2285568822, 2450203075, 2626696275, 2815902645, 3018737942, 3236183885] ++
  [3469292909, 3719193259, 3987094448, 4274293115, 4582179296, 4912243157, 5266082200, 5645409002] ++
  [6052059499, 6488001873, 6955346079, 7456354055, 7993450673, 8569235472, 9186495242, 9848217511] ++
  [10557605005, 11318091149, 12133356684, 13007347483, 13944293648, 14948729986, 16025517952, 17179869184]

/-- f_b of a bin in 2^−32 Hz. -/
def fBin (b : Nat) : Nat := binHz.getD b 0

/-- ζ_lim of R457 in whole 10^−4 for CYC 1 to 8, with which a sum of two whole numbers is compared (R460). -/
def zetaLim : List Nat := [1263, 635, 424, 318, 254, 212, 181, 159]

/-- CYC, HOLD_MAX and DAMP_WIN in force (R472). -/
def Dev.oscCyc (d : Dev) : Nat := d.fld Reg.OSC_CFG 3 0
def Dev.oscHold (d : Dev) : Nat := d.fld Reg.OSC_CFG 7 4
def Dev.oscWin (d : Dev) : Nat := d.fld Reg.OSC_CFG 27 16

/-- Updates are made at half the wingbeat rate (R439). -/
def Dev.oscHalf (d : Dev) : Bool := d.rate = 200 || d.rate = 240

/-- U, the eyespot rate (R439). -/
def Dev.oscU (d : Dev) : Nat := if d.oscHalf then d.rate / 2 else d.rate

/-- Bins of a signal with nothing in them. -/
def noBins : List (Int × Int) := List.replicate 64 (0, 0)

/-- A signal at the start of the engine, or restarted by a commit (R442, R447, R468). -/
def OscSig.start : OscSig := ⟨1, 0, 0, 0, 0, false, 0, noBins, (0, none)⟩

/-- A complex number. -/
abbrev Cx := Int × Int

/-- One in the number format of the trackers. -/
def cOne : Int := 2 ^ Config.oscBits

/-- A tracker that is OFF. -/
def OscTrk.start : OscTrk :=
  ⟨0, 0, 0, false, none, [], [], [], [], none, [], [], [], 0, 0, 0, 0, 0, [], [], false, 0, 0, false, false, false, [], []⟩

/-- A signal. -/
def Dev.oscSig (d : Dev) (i : Nat) : OscSig := tget OscSig.start d.osc.sigs i

/-- A tracker. -/
def Dev.oscTrk (d : Dev) (t : Nat) : OscTrk := tget OscTrk.start d.osc.trks t

/-- A signal changed. -/
def Dev.modSig (d : Dev) (i : Nat) (f : OscSig → OscSig) : Dev :=
  { d with osc := { d.osc with sigs := tset OscSig.start d.osc.sigs i (f (d.oscSig i)) } }

/-- A tracker changed. -/
def Dev.modTrk (d : Dev) (t : Nat) (f : OscTrk → OscTrk) : Dev :=
  { d with osc := { d.osc with trks := tset OscTrk.start d.osc.trks t (f (d.oscTrk t)) } }

/-- TYPE of a signal, 0 with no record (R436). -/
def Dev.sigType (d : Dev) (i : Nat) : Nat := match d.recOf 0x0A01 i with | some b => byteAt b 2 | none => 0

/-! Inputs (R436, R438). -/

/-- Magnitude code and angle of a phasor of a record, when it is valid. -/
def recPh (r : Bytes) (k : Nat) : Option (Nat × Nat) :=
  if (beAt r 22 2).testBit k then some (beAt r (4 * k) 2, beAt r (4 * k + 2) 2) else none

/-- FREQ_DEV of a record, when it is valid. -/
def recFreq (r : Bytes) : Option Int := if (beAt r 22 2).testBit 4 then some (sx 32 (beAt r 16 4)) else none

/-- ANA of a record, when it is valid. -/
def recAna (r : Bytes) (k : Nat) : Option Int := if (beAt r 22 2).testBit (5 + k) then some (sx 16 (beAt r (24 + 2 * k) 2)) else none

/-- The raw quantity of a SIGNAL record for a slot, as a quotient (R436). -/
def rawSignal (b : Bytes) (get : Nat → Option Bytes) : Option (Int × Nat) :=
  let sa := byteAt b 3 % 4
  let sb := byteAt b 3 / 4 % 4
  let a := get (beAt b 4 4)
  let e := get (beAt b 8 4)
  match byteAt b 2 with
  | 1 => a.bind recFreq |>.map (fun x => (x, 1))
  | 2 => a.bind (fun r => recPh r sa) |>.map (fun x => ((x.1 : Int), 1))
  | 3 => (a.bind (fun r => recPh r sa)).bind (fun x => (e.bind (fun r => recPh r sb)).map (fun y => (sx 16 (x.2 + 65536 - y.2), 1)))
  | 4 => (a.bind recFreq).bind (fun x => (e.bind recFreq).map (fun y => (x - y, 1)))
  | 5 => a.bind (fun r => recAna r sa) |>.map (fun x => (x, 1))
  | 6 => (a.bind (fun r => recPh r sa)).bind (fun x => (a.bind (fun r => recPh r sb)).map (fun y =>
      (((x.1 * y.1 : Nat) : Int) * Config.cosT ((x.2 + 65536 - y.2) % 65536 * 65536), 2 ^ 46)))
  | _ => none

/-- The input of a signal for a slot in watch units, none when it is invalid (R438). -/
def Dev.sigInput (d : Dev) (i : Nat) (get : Nat → Option Bytes) : Option Int :=
  (d.recOf 0x0A01 i).bind (fun b => (rawSignal b get).map (fun x => clampI (1 - 2 ^ 31) (2 ^ 31 - 1) (rdiv (x.1 * beAt b 12 4) (x.2 * 65536))))

/-- The smallest K with 2^K ≥ n. -/
def clog2 (n : Nat) : Nat := if n ≤ 1 then 0 else (n - 1).log2 + 1

/-! The bank (R440 to R446). -/

/-- α_b times 2^32 (R445): τ_b U is CYC × U / f_b. (DESIGN CHOICE: notes/assumptions/77) -/
def oscAlpha (u cyc b : Nat) : Int := 2 ^ 32 - Config.expNeg (fBin b) (cyc * u * 2 ^ 32)

/-- Every bin of a signal updated with y in 2^−16 unit and the phases of the update (R445). -/
def bankStep (u cyc : Nat) (phase : Nat → Nat) (y : Int) (bins : List Cx) : List Cx :=
  bins.zipIdx.map (fun x =>
    let b := x.2
    let (re, im) := x.1
    let al := oscAlpha u cyc b
    let yy := y * 2 ^ Config.oscBits
    (re + Config.oscQ (al * (yy * Config.cosT (phase b) - re * 2 ^ 46)) (2 ^ 78),
     im + Config.oscQ (al * (- (yy * Config.sinT (phase b)) - im * 2 ^ 46)) (2 ^ 78)))

/-- Fill count at which a signal in FILL is taken as full for a lowest frequency in 2^−32 Hz (R443). -/
def fillFor (cyc u f : Nat) : Nat := cdiv (3 * cyc * u * 2 ^ 32) f

/-- A signal at an update with its input (R440 to R445). (DEDUCED: notes/assumptions/79) -/
def OscSig.step (x : OscSig) (u cyc hold : Nat) (phase : Nat → Nat) (inp : Option Int) : OscSig :=
  let use (x : OscSig) (v : Int) : OscSig :=
    let m := if x.mOk then x.m + rdiv (v * 65536 - x.m) (2 ^ clog2 (64 * u)) else v * 65536
    let fill := x.fill + 1
    { x with m := m, last := v, mOk := x.mOk || inp.isSome, fill := fill
             st := if x.st = 2 || 60 * cyc * u ≤ fill then 2 else 1
             bins := bankStep u cyc phase (if x.mOk || inp.isSome then v * 65536 - m else 0) x.bins }
  match inp with
  | some v =>
    if x.st = 3 then use { x with st := 1, hold := 0, fill := 0, mOk := false, bins := noBins } v else use { x with hold := 0 } v
  | none =>
    if x.st = 3 then { x with inv := (x.inv + 1) % 2 ^ 32 }
    else if x.hold < hold then use { x with hold := x.hold + 1 } x.last
    else { x with st := 3, inv := (x.inv + 1) % 2 ^ 32 }

/-- |X|² of a bin. -/
def energyOf (b : Cx) : Nat := (b.1 * b.1 + b.2 * b.2).toNat

/-- A_(s,b) in watch units (R446). -/
def binAmp (b : Cx) : Nat := rdivN (2 * Config.oscRoot (energyOf b)) (2 ^ Config.oscBits)

/-! Complex arithmetic of the trackers. -/

def cAdd (a b : Cx) : Cx := (a.1 + b.1, a.2 + b.2)
def cSub (a b : Cx) : Cx := (a.1 - b.1, a.2 - b.2)
def cConj (a : Cx) : Cx := (a.1, - a.2)

/-- A product with twice the fraction bits. -/
def cMul (a b : Cx) : Cx := (a.1 * b.1 - a.2 * b.2, a.1 * b.2 + a.2 * b.1)

/-- A complex number divided by a number, as the engine rounds. -/
def cDiv (a : Cx) (q : Int) : Cx := (Config.oscQ a.1 q, Config.oscQ a.2 q)

/-- The inner sum Σ a_i b_i, in the format of the trackers. -/
def cDot (a b : List Cx) : Cx := cDiv ((a.zip b).foldl (fun s x => cAdd s (cMul x.1 x.2)) (0, 0)) cOne

/-- Row r of a 4 × 4 matrix. -/
def row4 (m : List Cx) (r : Nat) : List Cx := (m.drop (4 * r)).take 4

/-- A 4 × 4 matrix times a vector. -/
def mat4 (m : List Cx) (v : List Cx) : List Cx := (List.range 4).map (fun r => cDot (row4 m r) v)

/-- A 4 × 4 matrix from its elements. -/
def gen4 (f : Nat → Nat → Cx) : List Cx := (List.range 4).flatMap (fun r => (List.range 4).map (fun k => f r k))

/-- Element of a vector. -/
def at4 (v : List Cx) (k : Nat) : Cx := v.getD k (0, 0)

/-- Element of a 4 × 4 matrix. -/
def el4 (m : List Cx) (r k : Nat) : Cx := m.getD (4 * r + k) (0, 0)

/-- β of R450 for a time constant in ms, in the format of the trackers. (DESIGN CHOICE: notes/assumptions/77) -/
def oscBeta (tau u : Nat) : Int := Config.oscQ (Config.expNeg 1000 (tau * u) * cOne) (2 ^ 32)

/-- w, p, c after the recursion of R450 on y with β. -/
def subspace (beta : Int) (w : List (List Cx)) (p c : List Cx) (y : List Cx) : List (List Cx) × List Cx × List Cx :=
  let h := (List.range 4).map (fun k => cDot (w.map (fun r => cConj (at4 r k))) y)
  let ph := mat4 p h
  let den := beta + (cDot (h.map cConj) ph).1
  let g := ph.map (fun x => cDiv (x.1 * cOne, x.2 * cOne) den)
  let hp := (List.range 4).map (fun k => cDot (h.map cConj) ((List.range 4).map (fun r => el4 p r k)))
  let p' := gen4 (fun r k => let v := cSub (el4 p r k) (cDiv (cMul (at4 g r) (at4 hp k)) cOne); cDiv (v.1 * cOne, v.2 * cOne) beta)
  let w' := (w.zip y).map (fun x =>
    let e := cSub x.2 (cDot x.1 h)
    (List.range 4).map (fun k => cAdd (at4 x.1 k) (cDiv (cMul e (cConj (at4 g k))) cOne)))
  let c' := gen4 (fun r k =>
    let hh := cDiv (cMul (at4 h r) (cConj (at4 h k))) cOne
    let o := el4 c r k
    cDiv (beta * o.1 + (cOne - beta) * hh.1, beta * o.2 + (cOne - beta) * hh.2) cOne)
  (w', p', c')

/-! Trackers (R449 to R455). -/

/-- Fields of a tracker (R469, R472). -/
def Dev.trkEn (d : Dev) (t : Nat) : Bool := d.flag (Reg.OSC_TRK_CFG t) 0
def Dev.trkLo (d : Dev) (t : Nat) : Nat := d.fld (Reg.OSC_TRK_CFG t) 15 8
def Dev.trkHi (d : Dev) (t : Nat) : Nat := d.fld (Reg.OSC_TRK_CFG t) 23 16
def Dev.trkFirst (d : Dev) (t : Nat) : Nat := d.fld (Reg.OSC_TRK_LIST t) 11 0
def Dev.trkCount (d : Dev) (t : Nat) : Nat := d.fld (Reg.OSC_TRK_LIST t) 28 16

/-- A tracker restarted as from OFF (R455): unit vectors, identity, zero. -/
def Dev.trkRestart (d : Dev) (t : Nat) : Dev :=
  d.modTrk t (fun x => { OscTrk.start with
    st := 1, flag := x.flag, al := x.al, pinP := x.pinP, pinS := x.pinS
    w := (List.range (d.trkCount t)).map (fun j => (List.range 4).map (fun k => if j = k then (cOne, 0) else (0, 0)))
    p := gen4 (fun r k => if r = k then (cOne, 0) else (0, 0)), c := gen4 (fun _ _ => (0, 0)) })

/-- Is a signal included in a tracker whose lowest bin is at f (R443)? -/
def OscSig.includedAt (x : OscSig) (cyc u f : Nat) : Bool := x.st = 2 || (x.st = 1 && decide (fillFor cyc u f ≤ x.fill))

/-- The signals of a tracker's list, none for one that is excluded. -/
def Dev.trkList (d : Dev) (t : Nat) : List (Option OscSig) :=
  (List.range (d.trkCount t)).map (fun j =>
    let i := d.trkFirst t + j
    let x := d.oscSig i
    if d.sigType i != 0 && x.includedAt d.oscCyc d.oscU (fBin (d.trkLo t)) then some x else none)

/-- S_b over the included signals (R449). -/
def binSum (l : List (Option OscSig)) (b : Nat) : Nat := sumN (l.map (fun x => match x with | some s => energyOf (s.bins.getD b (0, 0)) | none => 0))

/-- Bins of a tracker's band. -/
def Dev.trkBand (d : Dev) (t : Nat) : List Nat := (List.range 64).filter (fun b => decide (d.trkLo t ≤ b) && decide (b ≤ d.trkHi t))

/-- The bin with the largest of some values, the lower one on a tie. -/
def argMax (l : List (Nat × Nat)) : Nat := ((l.foldl (fun (m : Option (Nat × Nat)) x => match m with | some y => if y.2 < x.2 then some x else some y | none => some x) none).map (·.1)).getD 0

/-- A tracker with the active bin changed: its angles, energies and estimates start anew (R453, R456, R459). -/
def OscTrk.setBin (x : OscTrk) (b : Nat) : OscTrk :=
  if x.chosen && x.bin = b then { x with next := none, runs := [] }
  else { x with bin := b, chosen := true, next := none, runs := [], arg := none, steps := [], energy := [], ests := [] }

/-- Wrapped difference of two angles in 2^−32 turn. -/
def turnDiff (a b : Nat) : Int := sx 32 (a + 2 ^ 32 - b)

/-- f̂ in 2^−32 Hz of a tracker (R453). -/
def OscTrk.fHat (x : OscTrk) (u : Nat) : Int :=
  (fBin x.bin : Int) + (if x.steps = [] then 0 else rdiv (sumI x.steps * u) x.steps.length)

/-- ζ of a slope per update, in 10^−4 with `Config.fxBits` more bits (R457, R458). -/
def zetaOf (slope : Int) (u : Nat) (f : Int) : Int :=
  let sg := - slope * u
  let w := rdiv (2 * twoPi * f) (10 ^ 30)
  Config.oscQ (sg * 10000 * 2 ^ Config.fxBits) (Config.oscRoot (sg * sg + w * w).toNat)

/-- ζ_lim in the same unit (R457). -/
def zetaLimFx (cyc : Nat) : Int :=
  Config.oscQ (8 * 10 ^ 19 * 2 ^ Config.fxBits) (Config.oscRoot (64 * 10 ^ 30 + (cyc * twoPi / 10 ^ 14) ^ 2))

/-- The least-squares line of ln e against the update, oldest first (R456): the sign of its slope, its slope per update times 2^32, and a coefficient of
determination of at least 0.8. (DESIGN CHOICE: notes/assumptions/77) -/
def oscFit (l : List Nat) : Int × Int × Bool :=
  let n : Int := l.length
  let y := l.map Config.oscLn
  let sx := n * (n - 1) / 2
  let sy := sumI y
  let xx := n * (n * (n - 1) * (2 * n - 1) / 6) - sx * sx
  let xy := n * sumI (y.zipIdx.map (fun p => p.1 * (p.2 : Int))) - sx * sy
  let yy := n * sumI (y.map (fun v => v * v)) - sy * sy
  (xy.sign, Config.oscQ xy xx, decide (8 * (xx * yy) ≤ 10 * (xy * xy)))

/-- The damping estimate that an update gives (R456 to R458). -/
def OscTrk.estimate (x : OscTrk) (u cyc win ampMin : Nat) : Option OscEst :=
  let big (e : Nat) : Bool := decide (ampMin * ampMin * 4 ^ Config.oscBits ≤ 4 * e)
  let seg := x.energy.take (win + 1)
  let m := x.energy.getD win 0
  let (sg, s, fits) := oscFit seg.reverse
  if 2 * win + 1 ≤ x.energy.length && (x.energy.take (2 * win + 1)).all (fun e => decide (e ≤ m)) && big m && decide (sg < 0) && fits then
    let above := decide (16 * (fBin x.bin : Int) ≤ 10 * cyc * (- s * u))
    if above then some ⟨zetaLimFx cyc, true, false⟩ else some ⟨zetaOf s u (x.fHat u), false, false⟩
  else
    let (sg, s, fits) := oscFit (x.energy.take win).reverse
    if win ≤ x.energy.length && decide (0 < sg) && fits && big (x.energy.headD 0) then some ⟨zetaOf s u (x.fHat u), false, true⟩ else none

/-- Published ζ in 10^−4 (R459). -/
def OscTrk.zeta (x : OscTrk) : Int := if x.ests = [] then 0 else rdiv (sumI (x.ests.map (·.z))) (x.ests.length * 2 ^ Config.fxBits)

/-- DAMP_VALID (R459). (DEDUCED: notes/assumptions/79) -/
def OscTrk.dampOk (x : OscTrk) (win : Nat) : Bool := x.ests != [] && decide (x.cnt - x.estAt ≤ 4 * win)

/-- The mode shape and the projected coordinate of an update (R451, R452): components (magnitude, angle), REF_USED, z. -/
def modeShape (w : List (List Cx)) (v : List Cx) (ref : Nat) (y : List Cx) : List (Nat × Nat) × Bool × Cx :=
  let e := w.map (fun r => cDot r v)
  let mags := e.map (fun x => Config.oscRoot (energyOf x))
  let norm := Config.oscRoot (sumN (e.map energyOf))
  let big := maxN mags
  let own := decide (256 * mags.getD ref 0 < big)
  let at' := if own then argMax (mags.zipIdx.map (fun x => (x.2, x.1))) else ref
  let rx := cConj (e.getD at' (0, 0))
  let rm := mags.getD at' 0
  let u := e.map (fun x => cDiv (cMul (cDiv (cMul x rx) rm) (cOne, 0)) norm)
  (u.map (fun x => (Config.oscRoot (energyOf x), Config.atan2 x.2 x.1)), own, cDot (u.map cConj) y)

/-- A tracker at an update (R449 to R459), with the signals of its list. (DEDUCED: notes/assumptions/78) -/
def Dev.trkUpdate (d : Dev) (t n : Nat) : Dev :=
  let l := d.trkList t
  let u := d.oscU
  let win := d.oscWin
  let x := d.oscTrk t
  let incl := (l.filter Option.isSome).length
  let short := decide (incl * 1000 < d.fld (Reg.OSC_TRK_REF t) 31 16 * d.trkCount t)
  let sums := (d.trkBand t).map (fun b => (b, binSum l b))
  let leaves := x.st = 1 && decide (cdiv (3 * d.rdN Reg.OSC_TRK_TAU * u) 1000 ≤ x.cnt + 1) && !short
  let x : OscTrk := if leaves || !x.chosen then x.setBin (argMax sums) else match x.next with | some b => x.setBin b | none => x
  let y := l.map (fun s => match s with | some s => s.bins.getD x.bin (0, 0) | none => (0, 0))
  let (w, p, c) := subspace (oscBeta (d.rdN Reg.OSC_TRK_TAU) u) x.w x.p x.c y
  let (lam, v) := Config.oscEig c
  let (shape, own, z) := modeShape w v (d.fld (Reg.OSC_TRK_REF t) 11 0) y
  let ang := Config.atan2 z.2 z.1
  let here := (sums.find? (fun b => b.1 == x.bin)).elim 0 (·.2)
  let runs := (sums.filter (fun b => decide (2 * here < b.2) && b.1 != x.bin)).map (fun b => (b.1, tget 0 x.runs b.1 + 1))
  let ready := sums.filter (fun b => decide (8 ≤ tget 0 runs b.1))
  let x : OscTrk := { x with
    cnt := x.cnt + 1, w := w, p := p, c := c, arg := some ang, runs := runs, next := if ready = [] then none else some (argMax ready)
    steps := (match x.arg with | some a => turnDiff ang a :: x.steps | none => x.steps).take win
    energy := (energyOf z :: x.energy).take (2 * win + 1)
    incl := incl, lam := lam.map (fun (e : Int) => rdivN (Config.oscRoot (e.toNat * 2 ^ Config.oscBits)) (2 ^ Config.oscBits)), shape := shape, refUsed := own
    aMode := binAmp z
    aMax := maxN (l.map (fun (s : Option OscSig) => match s with | some s => maxN ((d.trkBand t).map (fun b => binAmp (s.bins.getD b (0, 0)))) | none => 0)) }
  let x : OscTrk := { x with freq := rdiv (x.fHat u * 1000000) (2 ^ 32) }
  let est := x.estimate u d.oscCyc win (d.rdN (Reg.OSC_TRK_AMP_MIN t))
  let x : OscTrk := match est with | some e => { x with ests := (e :: x.ests).take 4, estAt := x.cnt } | none => x
  let st := if leaves then 2 else if x.st = 1 then 1 else if short then 3 else 2
  let d := if est.isSome then d.raise Reg.OSC_INT_STATUS 4 else d
  let d := if x.st = 2 && st = 3 then (d.raise Reg.OSC_INT_STATUS 2).record 0x0A02 (be 1 t ++ be 1 3 ++ zeros 2 ++ be 4 incl ++ be 8 n) else d
  d.modTrk t (fun _ => { x with st := st })

/-- The engine's update on the close of slot N (R439, R445, R448). (DEDUCED: notes/assumptions/76) -/
def Dev.oscUpdate (d : Dev) (n : Nat) : Dev :=
  if d.flag Reg.OSC_CTL 0 then
    let get (e : Nat) : Option Bytes := d.slotRec n e
    let ids := ((d.recs 0x0A01).filter (fun r => byteAt r.body 2 != 0)).map (·.key)
    if d.oscHalf && n % 2 = 0 then ids.foldl (fun (d : Dev) i => let v := d.sigInput i get; d.modSig i (fun x => { x with prev := (n, v) })) d
    else
      let u := d.oscU
      let ph (b : Nat) : Nat := if d.oscHalf then rdivN (fBin b * (2 * n - 1)) (2 * d.rate) % 2 ^ 32 else rdivN (fBin b * n) d.rate % 2 ^ 32
      let d := ids.foldl (fun (d : Dev) i =>
        let v := d.sigInput i get
        let x := d.oscSig i
        let v := if d.oscHalf then
            match (if x.prev.1 + 1 = n then x.prev.2 else none), v with
            | some a, some b => some (rdiv (a + b) 2)
            | some a, none => some a
            | none, b => b
          else v
        let y := x.step u d.oscCyc d.oscHold ph v
        let d := if y.st = 3 && x.st != 3 then d.raise Reg.OSC_INT_STATUS 3 else d
        d.modSig i (fun _ => y)) d
      let d := foldUp 16 (fun t d => if d.trkEn t && (d.oscTrk t).st != 0 then d.trkUpdate t n else d) d
      { d with osc := { d.osc with upd := some n } }
  else d

/-! Alarms (R461 to R465). -/

/-- The flag of a tracker as its consumers see it. (DEDUCED: notes/assumptions/80) -/
def Dev.trkFlag (d : Dev) (t : Nat) : Bool := (d.oscTrk t).flag || d.forced (2 * 65536 + t)

/-- A change of a tracker's flag is emitted (R464). -/
def Dev.trkEmit (d : Dev) (t n : Nat) : Dev :=
  let x := d.oscTrk t
  let on := d.trkFlag t
  let pos := argMax (x.shape.zipIdx.map (fun s => (s.2, s.1.1)))
  let body := be 1 t ++ be 1 (b2n on) ++ be 1 x.bin ++ zeros 1 ++ be 2 pos ++ zeros 2 ++ be 8 n ++ beI 4 x.freq ++ beI 2 (clampS 16 x.zeta) ++ zeros 2
    ++ be 4 (min x.aMode 0xFFFFFFFF) ++ be 4 (min x.aMax 0xFFFFFFFF)
  (d.inc (Reg.OSC_TRK_ALARM_CNT t) 1).output ⟨2144 + t, n,
    [.wide (2 * 65536 + t) (d.fld (Reg.OSC_TRK_AO_MASK t) 15 0) on, .log 0x0A01 body, .raise Reg.OSC_INT_STATUS (if on then 0 else 1),
     .set (Reg.OSC_TRK_LAST_SEQ_LO t) (w32 n), .set (Reg.OSC_TRK_LAST_SEQ_HI t) (w32 (n / 2 ^ 32)), .goose], []⟩

/-- A tracker's alarm state changed by a function; a change of its flag is emitted. (DEDUCED: notes/assumptions/79) -/
def Dev.trkAlarm (d : Dev) (t n : Nat) (f : OscTrk → OscTrk) : Dev :=
  let was := d.trkFlag t
  let d := d.modTrk t f
  if d.trkFlag t != was then d.trkEmit t n else d

/-- K_OSCDEC evaluates a tracker after the close of slot N (R461, R462). -/
def Dev.oscEval (d : Dev) (n t : Nat) : Dev :=
  if d.flag Reg.OSC_CTL 0 && decide (t < 16) then
    let x := d.oscTrk t
    if x.st = 2 then
      let x := if x.al = 3 then { x with al := if x.flag then 2 else 0 } else x
      let thr := d.rdN (Reg.OSC_TRK_AMP_THR t)
      let amp := decide (thr ≤ x.aMax)
      let ampR := decide ((x.aMax : Int) ≤ (thr : Int) - (d.rdN (Reg.OSC_TRK_AMP_HYST t) : Nat))
      let dthr := sx 16 (d.fld (Reg.OSC_TRK_DAMP_THR t) 15 0)
      let okD := x.dampOk d.oscWin
      let okA := decide (d.rdN (Reg.OSC_TRK_AMP_MIN t) ≤ x.aMode)
      let damp := okD && okA && decide (x.zeta < dthr)
      let dampR := !damp || decide (dthr + (d.fld (Reg.OSC_TRK_DAMP_THR t) 31 16 : Nat) ≤ x.zeta)
      let both := d.flag (Reg.OSC_TRK_CFG t) 1
      let crit := if both then amp && damp else amp || damp
      let rel := if both then ampR || dampR else ampR && dampR
      let persist := d.fld (Reg.OSC_TRK_PERSIST t) 15 0
      let release := d.fld (Reg.OSC_TRK_PERSIST t) 31 16
      let x := { x with amp := amp, damp := damp }
      let x :=
        if x.al = 2 then
          (if rel then (if x.alCnt + 1 < release then { x with alCnt := x.alCnt + 1 } else { x with al := 0, alCnt := 0, flag := false })
           else { x with alCnt := 0 })
        else if crit then
          (if (if x.al = 1 then x.alCnt else 0) + 1 < persist then { x with al := 1, alCnt := (if x.al = 1 then x.alCnt else 0) + 1 }
           else { x with al := 2, alCnt := 0, flag := true })
        else { x with al := 0, alCnt := 0 }
      d.trkAlarm t n (fun _ => x)
    else
      let ia := d.fld (Reg.OSC_TRK_CFG t) 3 2
      d.trkAlarm t n (fun x => { x with al := 3, alCnt := 0, flag := if ia = 1 then false else if ia = 2 then true else x.flag })
  else d

/-! Commits (R455, R463, R468). -/

/-- What a load or commit does to the engine, from the configuration before it (R455, R463, R468). -/
def Dev.oscCommit (d : Dev) (old : Dev) : Dev :=
  let all := d.rd Reg.OSC_CFG != old.rd Reg.OSC_CFG || d.rd Reg.OSC_TRK_TAU != old.rd Reg.OSC_TRK_TAU
  let ids := ((d.recs 0x0A01).map (·.key)) ++ ((old.recs 0x0A01).map (·.key))
  let d := if all then { d with osc := { d.osc with sigs := [] } }
    else ids.foldl (fun (d : Dev) i => if d.recOf 0x0A01 i = old.recOf 0x0A01 i then d else d.modSig i (fun _ => OscSig.start)) d
  foldUp 16 (fun t d =>
    let ne (a hi lo : Nat) : Bool := d.fld a hi lo != old.fld a hi lo
    if !d.trkEn t then (if old.trkEn t then d.modTrk t (fun x => { x with st := 0 }) else d)
    else
      let d := if all || !old.trkEn t || ne (Reg.OSC_TRK_LIST t) 31 0 || ne (Reg.OSC_TRK_CFG t) 23 8 || ne (Reg.OSC_TRK_REF t) 11 0 then d.trkRestart t else d
      let d := if ne (Reg.OSC_TRK_CFG t) 3 1 || [Reg.OSC_TRK_DAMP_THR t, Reg.OSC_TRK_AMP_THR t, Reg.OSC_TRK_AMP_HYST t, Reg.OSC_TRK_AMP_MIN t,
          Reg.OSC_TRK_PERSIST t, Reg.OSC_TRK_AO_MASK t].any (fun a => ne a 31 0) then d.modTrk t (fun x => { x with alCnt := 0 }) else d
      if ne (Reg.OSC_TRK_AO_MASK t) 15 0 && d.roost.alarms.contains (2 * 65536 + t) then
        (d.aoWide (2 * 65536 + t) (old.fld (Reg.OSC_TRK_AO_MASK t) 15 0) false).aoWide (2 * 65536 + t) (d.fld (Reg.OSC_TRK_AO_MASK t) 15 0) true
      else d) d

/-! Read views (R470, R471). -/

/-- Word j of the selected view of the selected signal (R470). -/
def Dev.sigView (d : Dev) (j : Nat) : Word :=
  let i := d.fld Reg.OSC_SIG_SEL 11 0
  let x := d.oscSig i
  let off := d.sigType i == 0
  match d.fld Reg.OSC_SIG_SEL 17 16 with
  | 0 => if j < 4 then w32 (beAt (fit 16 ((d.recOf 0x0A01 i).getD (be 2 i))) (4 * j) 4) else 0
  | 1 =>
    if j = 0 then w32 ((if off then 0 else x.st) + 4 * x.hold + 65536 * min x.fill 65535)
    else if j = 1 then w32i x.last else if j = 2 then w32i (x.m / 65536) else if j = 3 then w32 x.inv else 0
  | 2 => w32 (min 0xFFFFFFFF (binAmp (x.bins.getD (8 * d.fld Reg.OSC_SIG_SEL 22 20 + j) (0, 0))))
  | _ => 0

/-- OSC_SIG_STATUS_READ: the selected view is captured, and word 0 of view 1 is answered. -/
def Dev.sigCapture (d : Dev) (i : Iface) : Word × Dev :=
  let n := d.fld Reg.OSC_SIG_SEL 11 0
  let x := d.oscSig n
  (w32 ((if d.sigType n = 0 then 0 else x.st) + 4 * x.hold + 65536 * min x.fill 65535), d.view i (Reg.OSC_SIG_DATA 0) 8 d.sigView)

/-- The shape of a tracker as read (R454): magnitude, angle and participation by list position. -/
def OscTrk.shapeView (x : OscTrk) : List (Nat × Nat × Nat) :=
  let big := maxN (x.shape.map (·.1))
  let tot := sumN (x.shape.map (fun s => s.1 * s.1))
  x.shape.map (fun s => (rdivN (s.1 * 65535) big, rdivN s.2 65536 % 65536, min 65535 (rdivN (s.1 * s.1 * 65536) tot)))

/-- OSC_TRK[t]_STATUS (R472). -/
def Dev.trkStatus (d : Dev) (t : Nat) : Word :=
  let x := d.oscTrk t
  w32 (x.st + 4 * x.al + 16 * b2n (d.trkFlag t) + 32 * b2n x.amp + 64 * b2n x.damp + 128 * b2n x.refUsed + 256 * x.bin + 65536 * x.incl)

/-- OSC_TRK_STATUS_READ: results of the latest update into the read view, and its shape pinned (R471). -/
def Dev.trkCapture (d : Dev) (i : Iface) (t : Nat) : Word × Dev :=
  let x := d.oscTrk t
  let newest := x.ests.head?
  let damp := w32 (cx 16 (clampS 16 x.zeta) + 65536 * b2n (x.dampOk d.oscWin) + 2 ^ 17 * b2n (newest.elim false (·.above))
    + 2 ^ 18 * b2n (newest.elim false (·.growing)) + 2 ^ 19 * x.ests.length)
  let d := (d.latch i (Reg.OSC_TRK_FREQ t) (w32i x.freq)).latch i (Reg.OSC_TRK_DAMP t) damp
  let d := (d.latch i (Reg.OSC_TRK_AMP t) (w32 (min x.aMode 0xFFFFFFFF))).latch i (Reg.OSC_TRK_AMP_MAX t) (w32 (min x.aMax 0xFFFFFFFF))
  let d := d.view i (Reg.OSC_TRK_LAMBDA_RT t 0) 4 (fun j => w32 (min (x.lam.getD j 0) 0xFFFFFFFF))
  (d.trkStatus t, d.modTrk t (fun x => if i = .pcie then { x with pinP := x.shapeView } else { x with pinS := x.shapeView }))

/-- The pinned shape at the selected position. -/
def Dev.shapeAt (d : Dev) (i : Iface) (t : Nat) : Nat × Nat × Nat :=
  (if i = .pcie then (d.oscTrk t).pinP else (d.oscTrk t).pinS).getD (d.fld (Reg.OSC_TRK_SHAPE_SEL t) 11 0) (0, 0, 0)

/-- SHAPE_PART_READ: the participation, and SHAPE_SEL advances, wrapping at COUNT (R469). -/
def Dev.shapePart (d : Dev) (i : Iface) (t : Nat) : Word × Dev :=
  let s := d.fld (Reg.OSC_TRK_SHAPE_SEL t) 11 0
  (w32 (d.shapeAt i t).2.2, d.putF (Reg.OSC_TRK_SHAPE_SEL t) 11 0 (if s + 1 < d.trkCount t then s + 1 else 0))

/-- Registers of the OSC block that show its state (R469, R472). -/
def Dev.oscReg (d : Dev) (i : Iface) (a : Nat) : Option Word :=
  let sigs := ((d.recs 0x0A01).filter (fun r => byteAt r.body 2 != 0)).map (fun r => (d.oscSig r.key).st)
  if a = Reg.OSC_STATUS then
    some (w32 (b2n (d.flag Reg.OSC_CTL 0 && d.osc.upd.isSome) + 2 * b2n d.oscHalf + 65536 * (sigs.filter (· == 2)).length))
  else if a = Reg.OSC_UPD_SEQ_LO then some (w32 (d.osc.upd.getD 0))
  else if a = Reg.OSC_UPD_SEQ_HI then some (w32 (d.osc.upd.getD 0 / 2 ^ 32))
  else if a = Reg.OSC_ALARM then some (w32 (sumN ((List.range 16).map (fun t => b2n (d.trkFlag t) * 2 ^ t))))
  else if a = Reg.OSC_SIG_INVALID_CNT then some (w32 (sigs.filter (· == 3)).length)
  else
    (List.range 16).findSome? (fun t =>
      if a = Reg.OSC_TRK_SHAPE_DATA t then some (w32 ((d.shapeAt i t).1 + 65536 * (d.shapeAt i t).2.1)) else none)

end Sys2Proof.Machine
end

