-- ==== Sys2Proof/Machine/Isl.lean ====
section
/-! DEFINITION. Sys2Proof/Machine/Isl.lean: islanding and commands to points (chapter 11): group statistics, decision, demands, scale commands,
acknowledgement and the read views. -/

namespace Sys2Proof.Machine

/-! Configuration. -/

/-- An island group with nothing counted; a command group. -/
def IslGrp.start : IslGrp := ⟨[], [], 0, 0, false, false, [], false, false, false, 0, false, 0, []⟩
def CmdGrp.start : CmdGrp := ⟨(0, 0), (0, 0), (0, 0), false, false, 0, 0, 0, none, [], none, 0⟩

/-- An island group. -/
def Dev.islGrp (d : Dev) (g : Nat) : IslGrp := tget IslGrp.start d.isl.grps g

/-- An island group changed. -/
def Dev.modIsl (d : Dev) (g : Nat) (f : IslGrp → IslGrp) : Dev :=
  { d with isl := { d.isl with grps := tset IslGrp.start d.isl.grps g (f (d.islGrp g)) } }

/-- A command group. -/
def Dev.cmdGrp (d : Dev) (c : Nat) : CmdGrp := tget CmdGrp.start d.isl.cmds c

/-- A command group changed. -/
def Dev.modCmd (d : Dev) (c : Nat) (f : CmdGrp → CmdGrp) : Dev :=
  { d with isl := { d.isl with cmds := tset CmdGrp.start d.isl.cmds c (f (d.cmdGrp c)) } }

/-- The ISLAND record of an enabled group. -/
def Dev.islRec (d : Dev) (g : Nat) : Option Bytes := (d.recOf 0x0B02 g).filter (fun b => (byteAt b 2).testBit 6)

/-- The CMD_GROUP record of an enabled command group. -/
def Dev.cmdRec (d : Dev) (c : Nat) : Option Bytes := (d.recOf 0x0B04 c).filter (fun b => (byteAt b 2).testBit 0)

/-- The point at a position of a member table, from the ISL_MEMBER or CMD_MEMBER records (R474, R493, R515). -/
def Dev.member (d : Dev) (typ pos : Nat) : Option Nat :=
  ((d.recs typ).findSome? (fun r =>
    let f := beAt r.body 0 4
    if f ≤ pos && decide (pos < f + beAt r.body 4 2) then some (beAt r.body (8 + 4 * (pos - f)) 4) else none))

/-- The points of a member range, in ascending position. -/
def Dev.members (d : Dev) (typ first count : Nat) : List Nat := (List.range count).filterMap (fun j => d.member typ (first + j))

/-! References and statistics (R476 to R481). -/

/-- The usability test of R477 on a record with a phasor selector. -/
def usable (r : Bytes) (sel : Nat) : Bool :=
  let st := beAt r 22 2
  st.testBit sel && st.testBit 4 && !st.testBit 12 && !st.testBit 7

/-- The record of a usable reference in slot N, with its selector (R477). -/
def Dev.refRec (d : Dev) (n r : Nat) : Option (Bytes × Nat) :=
  let cfg := Reg.ISL_REF_CFG r
  let sel := d.fld cfg 18 17
  if d.flag cfg 19 && decide (r < 32) then
    match d.slotRec n (d.fld cfg 16 0) with
    | some b => if usable b sel then some (b, sel) else none
    | none => none
  else none

/-- A group is open at the boundary that has just fallen (R478). -/
def Dev.islOpen (d : Dev) (b : Bytes) : Bool :=
  (List.range 4).any (fun i =>
    let w := beAt b (44 + 2 * i) 2
    w.testBit 15 && (d.busAt (w % 512) d.ns == w.testBit 9))

/-- Angle code of a phasor of a record. -/
def angOf (r : Bytes) (sel : Nat) : Nat := beAt r (4 * sel + 2) 2

/-- The statistics of a group for slot N (R479 to R481); where no reference is usable or no member is present, what the spec leaves undefined is free. (DESIGN CHOICE: notes/assumptions/81) -/
def Dev.islStat (d : Dev) (g n : Nat) (b : Bytes) : IslStat × Dev :=
  let sel := byteAt b 3 / 64
  let main := d.refRec n (byteAt b 4)
  let alt := if byteAt b 5 = 0xFF then none else d.refRec n (byteAt b 5)
  let use := if main.isSome then main else alt
  let ref := if main.isSome then some (byteAt b 4) else if alt.isSome then some (byteAt b 5) else none
  let mem := (d.members 0x0B03 (beAt b 8 4) (beAt b 12 4)).filterMap (fun p => (d.slotRec n p).filter (fun r => usable r sel))
  let pr := mem.length
  let opened := d.islOpen b
  match use with
  | some (rr, rs) =>
    if pr = 0 then
      let (x, d) := d.free
      (⟨n, opened, false, !main.isSome, ref, 0, sx 16 x, x / 2 ^ 16 % 65536, sx 16 (x / 2 ^ 32), false, sx 32 (x / 2 ^ 48), sx 16 (x / 2 ^ 80)⟩, d)
    else
      let dl := mem.map (fun r => sx 16 (angOf r sel + 65536 - angOf rr rs))
      let mean := clampS 16 (rdivAway (sumI dl) pr)
      let spread := min 65535 (isqrtNear (rdivAway (sumI (dl.map (fun x => (x - mean) * (x - mean)))) pr).toNat)
      let valid := decide (beAt b 16 2 * beAt b 12 4 ≤ pr * 1000)
      let fdiff := clampS 32 (rdivAway (sumI (mem.map (fun r => sx 32 (beAt r 16 4)))) pr - sx 32 (beAt rr 16 4))
      let rdiff := clampS 16 (rdivAway (sumI (mem.map (fun r => sx 16 (beAt r 20 2)))) pr - sx 16 (beAt rr 20 2))
      let old := (d.islGrp g).hist.find? (fun h => h.1 + byteAt b 6 == n && some h.2.2 == ref)
      match old, valid with
      | some h, true => (⟨n, opened, true, !main.isSome, ref, pr, mean, spread, sx 16 (mean - h.2.1 + 65536).toNat, true, fdiff, rdiff⟩, d)
      | _, _ =>
        let (x, d) := d.free
        (⟨n, opened, valid, !main.isSome, ref, pr, mean, spread, sx 16 x, false, fdiff, rdiff⟩, d)
  | none =>
    let (x, d) := d.free
    (⟨n, opened, false, byteAt b 5 != 0xFF, none, pr, sx 16 x, x / 2 ^ 16 % 65536, sx 16 (x / 2 ^ 32), false, sx 32 (x / 2 ^ 48), sx 16 (x / 2 ^ 80)⟩, d)

/-- ISLAND_STATISTICS: every enabled group at the close of slot N (R479, R482). (DEDUCED: notes/assumptions/76) -/
def Dev.islUpdate (d : Dev) (n : Nat) : Dev :=
  if d.flag Reg.ISL_CTL 0 then
    let d := { d with isl := { d.isl with refUsable := (List.range 32).filter (fun r => (d.refRec n r).isSome) } }
    (d.recs 0x0B02).foldl (fun (d : Dev) r =>
      match d.islRec r.key with
      | some b =>
        let (s, d) := d.islStat r.key n b
        let was := match (d.islGrp r.key).stats.head? with | some x => x.valid | none => false
        let d := if was && !s.valid then d.raise Reg.ISL_INT_STATUS 2 else d
        d.modIsl r.key (fun x => { x with
          stats := (s :: x.stats).take 16
          hist := match s.ref, s.valid with | some q, true => ((n, s.mean, q) :: x.hist).take 256 | _, _ => x.hist })
      | none => d) d
  else d

/-! Alarms (R483 to R490). -/

/-- The flag of a group as its consumers see it. (DEDUCED: notes/assumptions/80) -/
def Dev.islFlag (d : Dev) (g : Nat) : Bool := (d.islGrp g).flag || d.forced (65536 + g)

/-- A change of a group's flag is emitted with the sequence number of the slot at whose close it was decided (R490). -/
def Dev.islEmit (d : Dev) (g n : Nat) : Dev :=
  let x := d.islGrp g
  let on := d.islFlag g
  let arms := b2n x.exposed + 2 * b2n x.measured
  let b := (d.recOf 0x0B02 g).getD []
  let (mean, spread, drift, rdiff, fdiff, pres) := match x.stats.find? (fun s => s.n == n) with
    | some s => (s.mean, s.spread, s.drift, s.rdiff, s.fdiff, s.present)
    | none => match x.stats.head? with
      | some s => (s.mean, s.spread, s.drift, s.rdiff, s.fdiff, s.present)
      | none => (0, 0, 0, 0, 0, 0)
  let body := be 2 g ++ be 1 (b2n on) ++ be 1 arms ++ beI 2 mean ++ be 2 spread ++ be 8 n ++ beI 2 drift ++ beI 2 rdiff ++ beI 4 fdiff ++ be 4 pres ++ zeros 4
  d.output ⟨1120 + g, n, [.wide (65536 + g) (beAt b 22 2) on, .log 0x0B01 body, .raise Reg.ISL_INT_STATUS (if on then 0 else 1), .goose], []⟩

/-- A group changed by a function; a change of its flag is emitted. (DEDUCED: notes/assumptions/82) -/
def Dev.islAlarm (d : Dev) (g n : Nat) (f : IslGrp → IslGrp) : Dev :=
  let was := d.islFlag g
  let d := d.modIsl g f
  if d.islFlag g != was then d.islEmit g n else d

/-- A criterion: met and released for a value, a threshold and a hysteresis; neither when the statistic is unavailable (R484). -/
def criterion (ok : Bool) (v : Int) (thr hyst : Nat) : Bool × Bool :=
  (ok && decide (thr < v.natAbs), ok && decide ((v.natAbs : Int) ≤ (thr : Int) - hyst))

/-- The arms of a group after slot N (R483 to R486). -/
def IslGrp.arm (x : IslGrp) (b : Bytes) (s : IslStat) : IslGrp :=
  let brk := if s.opened then x.brk + 1 else 0
  let en (k : Nat) : Bool := (byteAt b 3).testBit k
  let cr := [(en 0, criterion s.driftOk s.drift (beAt b 24 2) (beAt b 26 2)), (en 1, criterion s.valid s.fdiff (beAt b 32 4) (beAt b 36 4)),
    (en 2, criterion s.valid s.rdiff (beAt b 30 2) (beAt b 40 2))]
  let votes := (cr.filter (fun c => c.1 && c.2.1)).length
  let ok := decide (s.spread ≤ beAt b 28 2)
  let met := decide (byteAt b 3 / 16 % 4 ≤ votes) && ok
  let n := if met then x.meas + 1 else 0
  let x := { x with brk := brk, exposed := decide (byteAt b 7 ≤ brk), met := cr.map (fun c => c.1 && c.2.1), spreadOk := s.valid && ok }
  if s.valid then { x with meas := n, measured := decide (beAt b 18 2 ≤ n), relMeas := cr.all (fun c => !c.1 || c.2.2) }
  else
    match byteAt b 2 / 4 % 4 with
    | 1 => { x with meas := 0, measured := false, relMeas := true }
    | 2 => { x with measured := true, relMeas := false }
    | _ => x

/-- Criterion and release of a group by MODE (R487). -/
def IslGrp.byMode (x : IslGrp) (mode : Nat) (opened : Bool) : Bool × Bool :=
  match mode with
  | 0 => (x.exposed || x.measured, !opened && x.relMeas)
  | 1 => (x.exposed && x.measured, !opened || x.relMeas)
  | 2 => (x.measured, x.relMeas)
  | _ => (x.exposed, !opened)

/-- Demands that an ISLAND record names: command group, type, setpoint (R494, R515). -/
def islCmds (b : Bytes) : List (Nat × Nat × Nat) :=
  (List.range 4).filterMap (fun i =>
    let w := beAt b (52 + 4 * i) 4
    if w / 1024 % 8 != 0 then some (w % 1024, w / 1024 % 8, if w / 1024 % 8 = 2 then w / 65536 else 0) else none)

/-- The flag of a group cleared, with its demands (R488, R492). -/
def IslGrp.clear (x : IslGrp) : IslGrp := { x with flag := false, latched := false, cnt := 0, dem := [] }

/-- The alarm of a group at an evaluation; its demands are those of the record at the alarm (R488, R492). -/
def IslGrp.evaluate (x : IslGrp) (b : Bytes) (s : IslStat) : IslGrp :=
  let x := x.arm b s
  let (crit, rel) := x.byMode (byteAt b 2 % 4) s.opened
  if x.flag then
    if rel then
      if x.cnt + 1 < beAt b 20 2 then { x with cnt := x.cnt + 1 }
      else if (byteAt b 2).testBit 4 then { x with latched := true }
      else x.clear
    else { x with cnt := 0, latched := false }
  else if crit then { x with flag := true, cnt := 0, latched := false, arms := b2n x.exposed + 2 * b2n x.measured, dem := islCmds b }
  else x

/-- K_ISLDEC evaluates a group after the close of slot N. -/
def Dev.islEval (d : Dev) (n g : Nat) : Dev :=
  match d.islRec g, (d.islGrp g).stats.find? (fun s => s.n == n) with
  | some b, some s => d.islAlarm g n (fun x => x.evaluate b s)
  | _, _ => d

/-! Demands (R493 to R498). -/

/-- Rank of a demand, the strongest lowest (R494): TRIP, CURTAIL by setpoint, HOLD, none. -/
def demandRank (x : Nat × Nat) : Nat := if x.1 = 1 then 0 else if x.1 = 2 then 1 + x.2 else if x.1 = 3 then 0x20000 else 0x40000

/-- SAFE_STATE of a safety object, none where no record names it (R777). -/
def Dev.safeState (d : Dev) (kind i : Nat) : Option Nat :=
  ((d.recs 0x1301).find? (fun r => byteAt r.body 0 == kind && beAt r.body 2 2 == i)).map (fun r => byteAt r.body 1)

/-- The demands of an island group that are in the demand sets: those of its alarm, or those of its record where it is forced with SAFE_STATE 1 (R488,
R492, R495, R753). (DEDUCED: notes/assumptions/82) -/
def Dev.islDemands (d : Dev) (g : Nat) : List (Nat × Nat × Nat) :=
  if (d.islGrp g).flag then (d.islGrp g).dem
  else if d.forced (65536 + g) && d.safeState 1 g == some 1 then ((d.islRec g).map islCmds).getD [] else []

/-- The demands of island groups on a command group: type, setpoint, island group (R495). -/
def Dev.demandsOn (d : Dev) (c : Nat) : List (Nat × Nat × Nat) :=
  (d.recs 0x0B02).flatMap (fun r =>
    (d.islDemands r.key).filterMap (fun y => if y.1 = c then some (y.2.1, y.2.2, r.key) else none))

/-- The strongest demand of a command group: type, setpoint, island group, 0xFFFF for the host or none (R494, R495, R499). (DEDUCED: notes/assumptions/84) -/
def Dev.strongest (d : Dev) (c : Nat) : Nat × Nat × Nat :=
  let h := (d.cmdGrp c).host
  (d.demandsOn c ++ (if h.1 = 0 then [] else [(h.1, h.2, 0xFFFF)])).foldl
    (fun (m x : Nat × Nat × Nat) => if demandRank (x.1, x.2.1) < demandRank (m.1, m.2.1) then x else m) (0, 0, 0xFFFF)

/-! Scale commands (R499 to R505). -/

/-- The command key of a group (R500). -/
def Dev.deriveCmd (d : Dev) (c : Nat) (b : Bytes) : Bytes :=
  kdf 1 (d.rootKey (byteAt b 24)) [0x46, 0x4A, 0x41, 0x52, 0x41, 0x52, 0x49, 0x2D, 0x43, 0x47] (zeros 6 ++ be 2 c ++ be 2 (beAt b 22 2))

/-- Derived keys of every valid point and every command group, for the configuration in force (R33, R355, R500). -/
def Dev.deriveKeys (d : Dev) : Dev :=
  { d with ing := { d.ing with
    keys := (d.recs 0x0801).foldl (fun t r => if beAt r.body 8 2 % 2 == 1 then tput t r.key (d.derivePoint r.body) else t) []
    cmdKeys := (d.recs 0x0B04).foldl (fun t r => tput t r.key (d.deriveCmd r.key r.body)) [] } }

/-- The key of a command group as derived (R500). -/
def Dev.cmdKey (d : Dev) (c : Nat) : Bytes := tget [] d.ing.cmdKeys c

/-- The payload of a command under the claim: its 44 bytes and the tag (R499, R501). -/
def Dev.cmdPayload (d : Dev) (c : Nat) (head : Bytes) : Bytes :=
  let h := patch head 8 (be 4 d.units.claim)
  h ++ fit 16 (Config.gmac (d.cmdKey c) (be 4 d.units.claim ++ (h.drop 12).take 4 ++ be 2 c ++ zeros 2) h)

/-- The frames of a command (R308, R499, R920). -/
def Dev.cmdFrames (d : Dev) (c : Nat) (head b : Bytes) : List Act :=
  let pl := d.cmdPayload c head
  let v := beAt b 18 2
  let tag := if v.testBit 15 then some (v % 4096, v / 4096 % 8) else none
  let port := d.fld Reg.ISL_CMD_UDP_PORT 15 0
  d.toPorts (byteAt b 20) 7 0x11 (fun p =>
    ethHdr (beAt b 12 6) (d.mac (d.addrPort p)) tag 0x0800 ++ udpPacket 46 64 (d.ip p) (beAt b 8 4) port port pl)

/-- The CMD_ACK record of a command group whose counting ends (R514); where no slot was counted its counts are free. (DESIGN CHOICE: notes/assumptions/85) -/
def Dev.ackEnd (d : Dev) (c : Nat) : Dev :=
  match (d.cmdGrp c).ack with
  | none => d
  | some a =>
    let d := d.modCmd c (fun x => { x with ack := none })
    let ((k, o, m), d) := match a.counts with
      | some q => (q, d)
      | none => let (x, d) := d.free; ((x % 2 ^ 18, x / 2 ^ 18 % 2 ^ 18, x / 2 ^ 36 % 2 ^ 18), d)
    let d := d.record 0x0B02 (be 2 c ++ be 1 a.typ ++ zeros 1 ++ be 4 a.seq ++ be 4 k ++ be 4 o ++ be 4 m ++ zeros 4)
    let d := d.modCmd c (fun x => { x with unack := o + m })
    if o + m = 0 then d else d.raise Reg.ISL_INT_STATUS 4

/-- A command passes the gate: it is sent, its repeats are due, its acknowledgement is counted (R503, R504, R513). -/
def Dev.cmdPass (d : Dev) (c : Nat) (head : Bytes) : Dev :=
  match d.recOf 0x0B04 c with
  | none => d
  | some b =>
    let d := d.ackEnd c
    let acts := d.cmdFrames c head b
    let typ := byteAt head 2
    let sq := beAt head 12 4
    let d := acts.foldl (fun (d : Dev) a => d.act a) d
    let rep : CmdRep := ⟨acts, byteAt b 3 - 1, d.tim.clk + ticksMs (beAt b 4 2), d.units.claim⟩
    (d.modCmd c (fun x => { x with
      lastSeq := sq, sent := (x.sent + 1) % 2 ^ 32
      last := some ⟨typ, beAt head 36 2, beAt head 38 2, beAt head 26 6 * 1000000000 + beAt head 32 4⟩
      reps := if rep.left = 0 then x.reps else x.reps ++ [rep]
      ack := some ⟨sq, typ, d.ns, d.tim.clk + byteAt b 21 * d.wbTicks, none⟩ })).raise Reg.ISL_INT_STATUS 3

/-- What else a passed output does: its scale commands. -/
def Dev.cmdActs (d : Dev) (x : Out) : Dev :=
  d.emits x (fun (d : Dev) => x.acts.foldl (fun (d : Dev) a => match a with | .cmd c h => d.cmdPass c h | _ => d) d)

/-- An output that passes its gate, with all that follows. -/
def Dev.passAll (d : Dev) (x : Out) : Dev := (d.passOut x).cmdActs x

/-- The 44 bytes of a command ahead of its tag, CLAIM as zeros (R499). -/
def Dev.cmdHead (d : Dev) (c typ reason island sq issue tq set' ramp : Nat) (b : Bytes) : Bytes :=
  let valid := issue + beAt b 6 2 * 1000000
  be 1 1 ++ be 1 (b2n d.testRoot) ++ be 1 typ ++ be 1 reason ++ be 2 c ++ be 2 island ++ zeros 4 ++ be 4 sq
    ++ be 6 (issue / 1000000000) ++ be 4 (issue % 1000000000) ++ be 6 (valid / 1000000000) ++ be 4 (valid % 1000000000)
    ++ be 2 set' ++ be 2 ramp ++ be 2 (beAt b 22 2) ++ be 2 tq

/-- A command is emitted: it takes the next SEQ of its group and goes to the gate (R503). (DEDUCED: notes/assumptions/84) -/
def Dev.cmdEmit (d : Dev) (c typ reason island issue tq set' ramp : Nat) : Dev :=
  match d.recOf 0x0B04 c with
  | none => d
  | some b =>
    let sq := ((d.cmdGrp c).seq + 1) % 2 ^ 32
    let d := d.modCmd c (fun x => { x with seq := sq })
    let x : Out := ⟨96 + c, sq, [.cmd c (d.cmdHead c typ reason island sq issue tq set' ramp b)], []⟩
    let (passed, d) := d.present x
    if passed then d.cmdActs x else d

/-- REASON of a command from the arms of the island group whose demand it carries; open where the group is in ALARM by forcing alone (R499). (DESIGN CHOICE: notes/assumptions/85) -/
def Dev.cmdReason (d : Dev) (island : Nat) : Nat × Dev :=
  if island = 0xFFFF then (0, d)
  else match (d.islGrp island).arms with
    | 0 => let (x, d) := d.free; (x % 256, d)
    | a => (a, d)

/-- Time and quality of the boundary at which slot N closed: output time in ns and time quality. (DESIGN CHOICE: notes/assumptions/85) -/
def Dev.closing (d : Dev) (n : Nat) : Nat × Nat :=
  match d.slot n with
  | some s => (s.closeAt, match d.slot s.closeWb with | some o => o.tq | none => d.tq)
  | none => (slotNs d.rate d.wbSeq, d.tq)

/-- K_ISLDEC compares a command group's strongest demand with its command in force (R496, R498). (DEDUCED: notes/assumptions/84) -/
def Dev.cmdEval (d : Dev) (n c : Nat) : Dev :=
  match d.cmdRec c with
  | none => d
  | some b =>
    let (typ, sp, island) := d.strongest c
    let x := d.cmdGrp c
    let (issue, tq) := d.closing n
    let d := d.modCmd c (fun x => { x with demand := (typ, sp) })
    let d :=
      if typ != 0 then
        if x.force = (typ, sp) then d
        else
          let (rs, d) := d.cmdReason island
          (d.modCmd c (fun x => { x with force := (typ, sp) })).cmdEmit c typ rs island issue tq sp 0
      else if x.force.1 != 0 && !x.rel then
        if (byteAt b 2).testBit 1 then (d.modCmd c (fun x => { x with force := (0, 0), wait := false })).cmdEmit c 4 5 0xFFFF issue tq 0 Config.cmdRamp
        else
          let d := if x.wait then d else d.raise Reg.ISL_INT_STATUS 6
          d.modCmd c (fun x => { x with wait := true })
      else d
    if x.rel then
      let d := d.modCmd c (fun x => { x with rel := false })
      let last (d : Dev) (v : Nat) : Dev := { d with isl := { d.isl with host := { d.isl.host with last := v } } }
      if typ = 0 then last ((d.modCmd c (fun x => { x with force := (0, 0), wait := false })).cmdEmit c 4 0 0xFFFF issue tq 0 Config.cmdRamp) 0
      else (last d 1).raise Reg.ISL_INT_STATUS 5
    else d

/-- Item i of a stage of K_ISLDEC for slot N (R527): 128 island groups, or 128 command groups. -/
def Dev.islItem (d : Dev) (n : Nat) (stageB : Bool) (i : Nat) : Dev :=
  if d.flag Reg.ISL_CTL 0 then
    let d := { d with isl := { d.isl with upd := some n } }
    foldUp 128 (fun j d => if stageB then d.cmdEval n (128 * i + j) else d.islEval n (128 * i + j)) d
  else d

/-- COMMAND_REPEAT: the next send of a command whose repeat is due, while the claim it was emitted under stands (R504). -/
def Dev.cmdRepeat (d : Dev) (c : Nat) : Dev :=
  match (d.cmdGrp c).reps.find? (fun r => decide (r.next ≤ d.tim.clk)) with
  | none => d
  | some r =>
    let rest := (d.cmdGrp c).reps.erase r
    if d.speaks && r.claim = d.units.claim then
      let b := (d.recOf 0x0B04 c).getD []
      let d := r.acts.foldl (fun (d : Dev) a => d.act a) d
      d.modCmd c (fun x => { x with reps := if r.left ≤ 1 then rest else rest ++ [{ r with left := r.left - 1, next := r.next + ticksMs (beAt b 4 2) }] })
    else d.modCmd c (fun x => { x with reps := rest })

/-- Commands whose VALID time lies after the takeover boundary are emitted again under the new claim; older repeats are not sent (R505). -/
def Dev.reassert (d : Dev) : Dev :=
  let at' := slotNs d.rate d.wbSeq
  d.isl.cmds.foldl (fun (d : Dev) y =>
    let d := d.modCmd y.1 (fun x => { x with reps := [] })
    match (d.cmdGrp y.1).last with
    | some l => if at' < l.validTo then d.cmdEmit y.1 l.typ 4 (d.strongest y.1).2.2 at' d.tq l.set' l.ramp else d
    | none => d) d

/-! Acknowledgement (R513, R514). -/

/-- Does a record show the state that a command's TYPE executes (R510, R513)? -/
def showsState (typ : Nat) (r : Bytes) : Bool :=
  let st := beAt r 22 2
  match typ with
  | 1 => st.testBit 8 && !st.testBit 11
  | 2 => st.testBit 9
  | 3 => st.testBit 10
  | _ => !st.testBit 8 && !st.testBit 9 && !st.testBit 10

/-- Members of a command group. -/
def Dev.cmdMembers (d : Dev) (c : Nat) : List Nat :=
  match d.recOf 0x0B04 c with | some b => d.members 0x0B05 (beAt b 28 4) (beAt b 32 4) | none => []

/-- K_CMDACK items at the close of slot N for the groups that count it (R513). -/
def Dev.ackItems (d : Dev) (n : Nat) : Dev :=
  d.isl.cmds.foldl (fun (d : Dev) y =>
    match (d.cmdGrp y.1).ack with
    | some a => if a.from' < slotNs d.rate n then (d.mkItem 0x21 (d.cmdMembers y.1).length 0 (.cmdAck y.1 n)).2 else d
    | none => d) d

/-- K_CMDACK counts the members of a group in slot N (R513). -/
def Dev.ackCount (d : Dev) (c n : Nat) : Dev :=
  match (d.cmdGrp c).ack with
  | some a =>
    if a.from' < slotNs d.rate n && (d.slot n).isSome then
      let rs := (d.cmdMembers c).map (fun p => d.slotRec n p)
      let ok := (rs.filter (fun r => match r with | some b => showsState a.typ b | none => false)).length
      let miss := (rs.filter Option.isNone).length
      let q := (ok, rs.length - ok - miss, miss)
      d.modCmd c (fun x => { x with ack := some { a with counts := some q }, unack := q.2.1 + q.2.2 })
    else d
  | none => d

/-- CMD_ACK_END: ACK_WB wingbeats have passed (R514). -/
def Dev.ackTimer (d : Dev) (c : Nat) : Dev :=
  match (d.cmdGrp c).ack with
  | some a => if a.until' ≤ d.tim.clk then d.ackEnd c else d
  | none => d

/-! Host operations (R489, R497, R498). -/

/-- A write of ISL_HOST_CMD: refused at once, or waiting for its boundary (R497). (DEDUCED: notes/assumptions/83) -/
def Dev.hostCmd (d : Dev) (data : Word) : Dev :=
  let c := bits data 9 0
  let op := bits data 14 12
  let sp := bits data 31 16
  let last (v : Nat) : Dev := ({ d with isl := { d.isl with host := { d.isl.host with last := v } } }).raise Reg.ISL_INT_STATUS 5
  if d.isl.host.pend.isSome then last 3
  else if (d.cmdRec c).isNone || op = 0 || 5 < op || (op = 2 && 10000 < sp) then last 2
  else { d with isl := { d.isl with host := { d.isl.host with pend := some (c, op, sp, d.tim.clk) } } }

/-- A write of ISL_UNLATCH waits for its boundary (R489). -/
def Dev.islUnlatch (d : Dev) (data : Word) : Dev :=
  { d with isl := { d.isl with host := { d.isl.host with unlatch := d.isl.host.unlatch ++ [(bits data 9 0, d.tim.clk)] } } }

/-- The sequence number of a flag change that a boundary decides: of the slot that closes at it, else one more than the last closed. -/
def Dev.boundaryN (d : Dev) : Nat := d.dueSlots.headD ((d.roost.closed.map (· + 1)).getD 0)

/-- An unlatch applied (R488, R489). (DEDUCED: notes/assumptions/82) -/
def Dev.unlatchGroup (d : Dev) (g n : Nat) : Dev :=
  if (d.islGrp g).latched then d.islAlarm g n IslGrp.clear
  else d.inc Reg.ISL_UNLATCH_IGN_CNT 1

/-- Unlatches and the host operation that are at least 2 µs old take effect at a boundary, after slot n has closed (R489, R497). `closed`: a slot closes
at this boundary, so that K_ISLDEC makes the comparison. (DEDUCED: notes/assumptions/82) -/
def Dev.islBoundary (d : Dev) (n : Nat) (closed : Bool) : Dev :=
  let old (c : Nat) : Bool := decide (c + ticksUs 2 ≤ d.tim.clk)
  let due := d.isl.host.unlatch.filter (fun u => old u.2)
  let d := { d with isl := { d.isl with host := { d.isl.host with unlatch := d.isl.host.unlatch.filter (fun u => !old u.2) } } }
  let d := due.foldl (fun (d : Dev) u => d.unlatchGroup u.1 n) d
  match d.isl.host.pend with
  | some (c, op, sp, at') =>
    if old at' then
      let d := { d with isl := { d.isl with host := { d.isl.host with pend := none } } }
      let d := if op = 5 then d.modCmd c (fun x => { x with rel := true })
        else (d.modCmd c (fun x => { x with host := if op = 4 then (0, 0) else (op, if op = 2 then sp else 0) })) |> fun (d : Dev) =>
          { d with isl := { d.isl with host := { d.isl.host with last := 0 } } }
      if closed && d.flag Reg.ISL_CTL 0 then d else d.cmdEval n c
    else d
  | none => d

/-! Commits (R492, R500). -/

/-- What a load or commit does to the island engine, from the configuration before it (R492). -/
def Dev.islCommit (d : Dev) (old : Dev) : Dev :=
  let gs := ((d.recs 0x0B02).map (·.key)) ++ ((old.recs 0x0B02).map (·.key)).filter (fun g => (d.recOf 0x0B02 g).isNone)
  gs.foldl (fun (d : Dev) g =>
    let o := old.recOf 0x0B02 g
    let b := d.recOf 0x0B02 g
    if o = b then d
    else
      let d := d.modIsl g (fun x => { x with cnt := 0, brk := 0, meas := 0, hist := [] })
      if (d.islRec g).isNone then
        if (d.islGrp g).flag then d.islAlarm g d.boundaryN IslGrp.clear else d
      else if d.roost.alarms.contains (65536 + g) then
        (d.aoWide (65536 + g) 0xFFFF false).aoWide (65536 + g) (beAt (b.getD []) 22 2) true
      else d) d

/-! Registers (R517 to R519). -/

/-- Word 0 of view 1 of the selected group (R518). -/
def Dev.grpStatus (d : Dev) (g : Nat) : Word :=
  let x := d.islGrp g
  let s := x.stats.head?
  w32 (b2n (d.islFlag g) + 2 * b2n x.latched + 4 * b2n (s.elim false (·.opened)) + 8 * b2n x.exposed + 16 * b2n x.measured
    + 32 * b2n (s.elim false (·.valid)) + 64 * b2n (s.elim false (·.alt)) + 128 * b2n (x.met.getD 0 false) + 256 * b2n (x.met.getD 1 false)
    + 512 * b2n (x.met.getD 2 false) + 1024 * b2n x.spreadOk + 65536 * min 255 x.cnt + 2 ^ 24 * min 255 x.brk)

/-- Word j of the selected view of the selected group (R518). -/
def Dev.grpView (d : Dev) (j : Nat) : Word :=
  let g := d.fld Reg.ISL_GRP_SEL 9 0
  if d.flag Reg.ISL_GRP_SEL 16 then
    match (d.islGrp g).stats.head?, j with
    | _, 0 => d.grpStatus g
    | some s, 1 => w32 (cx 16 s.mean + 65536 * s.spread)
    | some s, 2 => w32 (cx 16 s.drift + 65536 * cx 16 s.rdiff)
    | some s, 3 => w32i s.fdiff
    | some s, 4 => w32 s.present
    | some s, 5 => w32 s.n
    | _, _ => 0
  else w32 (beAt (fit 68 ((d.recOf 0x0B02 g).getD (be 2 g))) (4 * j) 4)

/-- ISL_GRP_STATUS_READ: the selected view is captured. -/
def Dev.grpCapture (d : Dev) (i : Iface) : Word × Dev :=
  (d.grpStatus (d.fld Reg.ISL_GRP_SEL 9 0), d.view i (Reg.ISL_GRP_DATA 0) 17 d.grpView)

/-- ISL_CG[c]_STATUS (R519). -/
def Dev.cgStatus (d : Dev) (c : Nat) : Word :=
  let x := d.cmdGrp c
  w32 (x.force.1 + 8 * x.demand.1 + 64 * b2n (x.host.1 != 0) + 128 * b2n x.wait + 256 * b2n x.ack.isSome + 65536 * x.force.2)

/-- ISL_CG_STATUS_READ: LAST_SEQ, UNACK and SENT_CNT are captured (R519). -/
def Dev.cgCapture (d : Dev) (i : Iface) (c : Nat) : Word × Dev :=
  let x := d.cmdGrp c
  (d.cgStatus c, ((d.latch i (Reg.ISL_CG_LAST_SEQ c) (w32 x.lastSeq)).latch i (Reg.ISL_CG_UNACK c) (w32 x.unack)).latch i (Reg.ISL_CG_SENT_CNT c) (w32 x.sent))

/-- Groups in ALARM, forced ones among them. -/
def Dev.islOn (d : Dev) : List Nat := (List.range 1024).filter d.islFlag

/-- Registers of the ISL block that show its state (R517). -/
def Dev.islReg (d : Dev) (a : Nat) : Option Word :=
  if a = Reg.ISL_STATUS then some (w32 (b2n (d.flag Reg.ISL_CTL 0) + 65536 * d.islOn.length))
  else if a = Reg.ISL_UPD_SEQ_LO then some (w32 (d.isl.upd.getD 0))
  else if a = Reg.ISL_UPD_SEQ_HI then some (w32 (d.isl.upd.getD 0 / 2 ^ 32))
  else if a = Reg.ISL_HOST_CMD_STATUS then some (w32 (d.isl.host.last + 8 * b2n d.isl.host.pend.isSome))
  else
    match (List.range 32).find? (fun i => a == Reg.ISL_ALARM i) with
    | some i => some (w32 (sumN ((List.range 32).map (fun j => b2n (d.islFlag (32 * i + j)) * 2 ^ j))))
    | none => ((List.range 32).find? (fun r => a == Reg.ISL_REF_STATUS r)).map (fun r => w32 (b2n (d.isl.refUsable.contains r)))

end Sys2Proof.Machine
end

