-- ==== Sys2Proof/Machine/Fault.lean ====
section
/-! DEFINITION. Sys2Proof/Machine/Fault.lean: unit faults, claims and the entry to SAFE (R710 to R718, R758, R759, R923), and the forcing of safety objects
(R753, R756, R757). -/

namespace Sys2Proof.Machine

/-! Units. -/

/-- TWIN_ID of this module. -/
def Dev.twinId (d : Dev) : Nat := d.pins.sampled % 2

/-- A unit of this module is FAULTED or in RESYNC, or the twin is lost (R712), or both wings overran in the last wingbeat (R60). (DEDUCED: notes/assumptions/112) -/
def Dev.degraded (d : Dev) : Bool :=
  [d.units.w0.role, d.units.w1.role].any (fun r => r == .faulted || r == .resync) || d.units.twinRole == .resync || d.units.peerLost || d.saf.bothOver

/-- RUN and DEGRADED follow the health of the units; before the first lock the device stays in DEGRADED (R39, R712, R850). -/
def Dev.reviewRun (d : Dev) : Dev :=
  if d.boot = 5 && d.degraded then d.setBoot 6
  else if d.boot = 6 && !d.degraded && d.tim.lockedOnce then d.setBoot 5
  else d

/-- SAFETY_OBJECT records in force as keys kind × 65536 + index (R753). -/
def Dev.safetyObjects (d : Dev) : List Nat := (d.recs 0x1301).map (fun r => byteAt r.body 0 * 65536 + beAt r.body 2 2)

/-- A cause is present, or no longer, for an object. -/
def Dev.causePresent (d : Dev) (key c : Nat) (on : Bool) : Dev :=
  let v := tget 0 d.saf.present key
  { d with saf := { d.saf with present := tset 0 d.saf.present key (if v.testBit c = on then v else v ^^^ 2 ^ c) } }

/-- A cause is no longer present for any object. -/
def Dev.causeGone (d : Dev) (c : Nat) : Dev := d.saf.present.foldl (fun (d : Dev) x => d.causePresent x.1 c false) d

/-- Drivers of pins released (R714, R759, R766). -/
def Dev.aoRelease (d : Dev) (mask : Nat) : Dev := { d with pins := { d.pins with aoReleased := d.pins.aoReleased ||| mask % 65536 } }

/-- SAFE_ENTRY (R758, R759): every safety object is to be forced, and the safety pins lose both drivers. -/
def Dev.enterSafe (d : Dev) (cause : Nat) : Dev :=
  if d.boot = 7 then d
  else
    let d := ((d.setBoot 7).wrN Reg.SAF_SAFE_CAUSE cause).raise Reg.SAF_INT_STATUS 0
    let d := { d with units := { d.units with due := none } }
    let d := d.record 0x1301 (be 1 cause ++ zeros 7 ++ be 8 d.wbSeq)
    let d := d.safetyObjects.foldl (fun (d : Dev) k => d.causePresent k 4 true) d
    d.aoRelease (d.rdN Reg.SAF_AO_SAFETY)

/-- UNIT_FAULT (R749). -/
def Dev.faultRecord (d : Dev) (w cause : Nat) : Dev :=
  (d.record 0x1202 (be 1 w ++ be 1 d.twinId ++ be 1 cause ++ zeros 5 ++ be 8 d.wbSeq)).raise Reg.WNG_INT_STATUS 1

/-- The ports of a wing go down with its repair and retrain after it (R924). -/
def Dev.relinkWing (d : Dev) (w : Nat) : Dev := foldUp 8 (fun p d => if portOwner p = w then d.relink p else d) d

/-- The twin can take over: it is paired, converged and STANDBY. -/
def Dev.twinReady (d : Dev) : Bool := d.units.paired && d.units.twinCurrent && d.units.peerRole == .standby

/-- The twin is the active one of the pair, or can take over: a fault of this module's last wing is no entry to SAFE (R712, R758). -/
def Dev.twinSpeaks (d : Dev) : Bool := d.twinReady || (d.units.paired && d.units.twinRole != .active)

/-- A wing is faulted (R712, R717, R718). A takeover that it makes due happens at a heartbeat tick at least 10 µs on, or at the present boundary (R722). -/
def Dev.wingFaultAt (d : Dev) (w cause : Nat) (atBoundary : Bool) : Dev :=
  if (d.wing w).role = .faulted then d
  else
    let was := d.active
    let claimed := d.units.holder.isSome
    let other := (d.wing (1 - w)).role
    let d := d.modWing w (fun x => { x with role := .faulted, cause := cause })
    let d := { d with units := { d.units with redundant := false, matching := 0 } }
    let d := d.faultRecord w cause
    let d :=
      if w = was then
        if other = .standby then
          if claimed then { d with units := { d.units with due := some ⟨cause, w, false, if atBoundary then none else some (d.tim.clk + ticksUs 10)⟩ } }
          else d.modWing (1 - w) (fun x => { x with role := .active })
        else if d.twinSpeaks then d
        else d.enterSafe 1
      else if d.units.due.isSome then (if d.twinSpeaks then { d with units := { d.units with due := none } } else d.enterSafe 1)
      else d
    d.reviewRun

/-- A wing is faulted by an event of its own. -/
def Dev.wingFault (d : Dev) (w cause : Nat) : Dev := d.wingFaultAt w cause false

/-- Wings whose real backlog in an ingress queue exceeds the virtual depth by more than 1,024 frames lag, and are faulted (R374, R718). (DEDUCED: notes/assumptions/61) -/
def Dev.ingressLag (d : Dev) (lag : List (Nat × Nat × Nat)) : Dev :=
  lag.foldl (fun (d : Dev) x =>
    if d.runsWork x.1 && decide (d.iqDepth x.2.1 + 1024 < x.2.2) then
      (({ d with ing := { d.ing with lag := x.1 :: d.ing.lag.filter (· != x.1) } }).raise Reg.ING_INT_STATUS 4).wingFault x.1 6
    else d) d

/-! Claims (R32, R711, R715). -/

/-- A wing claims: the highest epoch seen plus one, stored in both copies of the counter before the claim is held (R711). (DEDUCED: notes/assumptions/109) -/
def Dev.claimBy (d : Dev) (w : Nat) : Dev :=
  let e := (max d.units.highest d.nv.claimEpoch + 1) % 2 ^ 28
  let d := { d with nv := { d.nv with claimEpoch := e } }
  let d := d.modWing w (fun x => { x with role := .active })
  { d with units := { d.units with holder := some w, claim := e * 16 + d.twinId * 2 + w, highest := e, twinRole := .active } }

/-- Outputs that were held go to the gate again, in the order of their keys (R723). -/
def Dev.flushOuts (d : Dev) : Dev :=
  let l := d.units.outs
  l.foldl (fun (d : Dev) x =>
    let (passed, d) := d.present x
    if !passed then d else (if x.acts.contains .goose then d.gooseAll else d).cmdActs x) { d with units := { d.units with outs := [] } }

/-- The first claim of the power epoch (R711, R736, R923); outputs of the journal leave first (R746). (DEDUCED: notes/assumptions/107) -/
def Dev.firstClaim (d : Dev) : Dev := if d.units.holder.isSome then d else (d.claimBy d.active).flushOuts

/-- An ACTIVE unit sees a higher claim and stands down (R712, R725, R734): 1 over Oznis, 2 by beacon. -/
def Dev.standDown (d : Dev) (seen source : Nat) : Dev :=
  let d := (d.record 0x1204 (be 4 d.units.claim ++ be 4 seen ++ be 1 source ++ zeros 7)).raise Reg.WNG_INT_STATUS 3
  let d := { d with units := { d.units with twinRole := .resync, stoodDown := true, resyncAt := d.tim.clk, twinCurrent := false } }
  d.reviewRun

/-! Forcing (R753, R756, R757). -/

/-- SAFETY_FORCED (R776): the CAUSE of an overrun, for which the spec gives no code, is free. (DEDUCED: notes/assumptions/113) -/
def Dev.forcedRecord (d : Dev) (key : Nat) (on : Bool) (causes : Nat) : Dev :=
  let c := ((List.range 5).find? (fun c => causes.testBit c)).getD 0
  let (code, d) := if c = 0 then (let (x, d) := d.free; (x % 256, d)) else (c, d)
  (d.record 0x1302 (be 1 (key / 65536) ++ be 1 (b2n on) ++ be 2 (key % 65536) ++ be 1 code ++ zeros 3 ++ be 8 d.wbSeq)).raise Reg.SAF_INT_STATUS 1

/-- The causes that force an object after a boundary. (DEDUCED: notes/assumptions/112) -/
def Dev.forceNext (d : Dev) (key : Nat) (clear : Bool) : Nat :=
  tget 0 d.saf.present key ||| (if clear then 0 else tget 0 d.saf.forced key)

/-- What follows a change of forcing of an object: the flag's own output (R279, R464, R490). -/
def Dev.forceEmit (d : Dev) (key n : Nat) : Dev :=
  if key < 65536 then d.detPublish key
  else if key < 2 * 65536 then d.islEmit (key - 65536) n
  else d.trkEmit (key - 2 * 65536) n

/-- The flag of an object as it stands. -/
def Dev.objFlag (d : Dev) (key : Nat) : Bool :=
  if key < 65536 then d.detFlag key else if key < 2 * 65536 then d.islFlag (key - 65536) else d.trkFlag (key - 2 * 65536)

/-- FORCING_APPLY for one object (R756, R757); n is the sequence of a flag change that the boundary makes. (DEDUCED: notes/assumptions/113) -/
def Dev.forceOne (d : Dev) (key n : Nat) (clear : Bool) : Dev :=
  let old := tget 0 d.saf.forced key
  let new := d.forceNext key clear
  let was := d.objFlag key
  let d := { d with saf := { d.saf with forced := tset 0 d.saf.forced key new } }
  let d := if (old = 0) ≠ (new = 0) then d.forcedRecord key (new != 0) (if new = 0 then old else new) else d
  if d.objFlag key = was then d else d.forceEmit key n

/-- Objects that forcing concerns, by kind. -/
def Dev.forceKeys (d : Dev) (det : Bool) : List Nat :=
  let ks := d.saf.forced.map (·.1) ++ (d.saf.present.map (·.1)).filter (fun k => tget 0 d.saf.forced k == 0)
  (ks.filter (fun k => decide (k < 65536) == det)).mergeSort (fun a b => decide (a ≤ b))

/-- Forcing and clearing of detectors at a flutter boundary. -/
def Dev.forceDet (d : Dev) : Dev :=
  let clear := d.saf.clearDet && d.boot != 7
  let d := { d with saf := { d.saf with clearDet := false } }
  (d.forceKeys true).foldl (fun (d : Dev) k => d.forceOne k 0 clear) d

/-- Forcing and clearing of island groups and trackers at a wingbeat boundary. -/
def Dev.forceWide (d : Dev) (n : Nat) : Dev :=
  let clear := d.saf.clearWide && d.boot != 7
  let d := { d with saf := { d.saf with clearWide := false } }
  (d.forceKeys false).foldl (fun (d : Dev) k => d.forceOne k n clear) d

/-- SAF_CLEAR (R757): ignored in SAFE. -/
def Dev.safClear (d : Dev) (data : Word) : Dev :=
  if data.getLsbD 0 && d.boot != 7 then { d with saf := { d.saf with clearDet := true, clearWide := true } } else d

end Sys2Proof.Machine
end

