-- ==== Sys2Proof/Machine/Saf.lean ====
section
/-! DEFINITION. Sys2Proof/Machine/Saf.lean: the diagnostics of functional safety (chapter 19): partner comparison, AO readback, flutter digest, AO proof, and
the registers of the SAF block. -/

namespace Sys2Proof.Machine

/-! Partner comparison (R764, R765). -/

/-- Detectors that are safety objects. -/
def Dev.safetyDets (d : Dev) : List Nat := d.safetyObjects.filter (· < 65536)

/-- The channels that a detector reads: CH, and REF of type 3. -/
def Dev.detChans (d : Dev) (k : Nat) : List Nat :=
  d.fld (Reg.PHS_DET_CFG k) 19 12 :: (if d.fld (Reg.PHS_DET_CFG k) 2 0 = 3 then [d.fld (Reg.PHS_DET_CFG k) 27 20] else [])

/-- Partner of a channel. -/
def Dev.partner (d : Dev) (n : Nat) : Nat := d.fld (Reg.CNV_CH_CFG n) 8 1

/-- The scaled difference of a pair in 0.01 % of the larger magnitude, and of angle in 2^−32 turn; whether it disagrees; none where an estimate is invalid. -/
def Dev.pairDiff (d : Dev) (n : Nat) : Option (Nat × Int × Bool) :=
  let p := d.partner n
  match (d.chan n).estP[0]?, (d.chan p).estP[0]? with
  | some a, some b =>
    if a.ok && b.ok then
      let x := a.mag * d.rdN (Reg.PHS_CH_SCALE n)
      let y := b.mag * d.rdN (Reg.PHS_CH_SCALE p)
      let dm := max x y - min x y
      let da := wrapT ((a.psi : Int) - b.psi)
      some (rdivN (dm * 10000) (max x y), da,
        decide (d.rdN Reg.SAF_PARTNER_TOL_MAG * max x y < dm * 10000) || decide (d.rdN Reg.SAF_PARTNER_TOL_ANG * 65536 < da.natAbs))
    else none
  | _, _ => none

/-- A pair of channels. -/
def Dev.partnerStep (d : Dev) (n : Nat) : Dev :=
  match d.pairDiff n with
  | none => d
  | some (dm, da, bad) =>
    let cnt := d.fld Reg.SAF_CTL 6 0
    let b := if bad then tget 0 d.saf.partnerBad n + 1 else 0
    let g := if bad then 0 else tget 0 d.saf.partnerGood n + 1
    let d := { d with saf := { d.saf with partnerBad := tset 0 d.saf.partnerBad n b, partnerGood := tset 0 d.saf.partnerGood n g } }
    let set (d : Dev) (fail : Bool) : Dev :=
      let l := if fail then d.saf.partnerFail ++ [n] else d.saf.partnerFail.filter (· != n)
      (({ d with saf := { d.saf with partnerFail := l } }).record 0x1304 (be 2 n ++ be 2 (d.partner n) ++ be 1 (b2n fail) ++ zeros 3
        ++ be 4 (min dm 0xFFFFFFFF) ++ beI 2 (rdiv da 65536) ++ zeros 2)).raise Reg.SAF_INT_STATUS 2
    if cnt ≤ b && !d.saf.partnerFail.contains n then set d true
    else if cnt ≤ g && d.saf.partnerFail.contains n then set d false
    else d

/-- Channels in SAF_PARTNER_FAIL: both of each pair that fails. -/
def Dev.failedChans (d : Dev) : List Nat := d.saf.partnerFail ++ d.saf.partnerFail.map d.partner

/-- PARTNER_COMPARE: each local channel that serves a safety detector and has a partner; then the detectors that the pairs force. -/
def Dev.partnerCompare (d : Dev) : Dev :=
  let chs := (d.safetyDets.flatMap d.detChans).filter (fun n => decide (n < 192) && d.flag (Reg.CNV_CH_CFG n) 9)
  let d := chs.eraseDups.foldl (fun (d : Dev) n => d.partnerStep n) d
  d.safetyDets.foldl (fun (d : Dev) k => d.causePresent k 3 ((d.detChans k).any (fun n => d.failedChans.contains n))) d

/-! AO readback (R754, R766). -/

/-- The pin is in SAF_AO_SAFETY. -/
def Dev.aoSafety (d : Dev) (a : Nat) : Bool := d.flag Reg.SAF_AO_SAFETY a

/-- The commanded level of a pin: a safety pin is low at alarm level, another high (R754). (DEDUCED: notes/assumptions/116) -/
def Dev.aoLevel (d : Dev) (a : Nat) : Bool := d.pins.aoCmd.testBit a != d.aoSafety a

/-- The level that a driver of the holder of the claim gives a pin; none while both drivers are released (R714, R754). -/
def Dev.aoDriven (d : Dev) (a : Nat) : Option Bool :=
  if d.gateOpen d.active a 0 && !d.pins.aoReleased.testBit a && (match d.saf.proof with | some (p, c, _) => !(p == a && decide (d.tim.clk < c + ticksUs (d.fld Reg.SAF_PROOF_CFG 9 0))) | none => true)
  then some (d.aoLevel a) else none

/-- A pin's readback has failed (R766). (DEDUCED: notes/assumptions/116) -/
def Dev.aoFail (d : Dev) (a : Nat) (read : Bool) : Dev :=
  let d := if d.saf.aoFault.testBit a then d
    else (({ d with saf := { d.saf with aoFault := d.saf.aoFault ||| 2 ^ a } }).record 0x1305
      (be 1 a ++ be 1 d.active ++ be 1 (b2n (d.aoLevel a)) ++ be 1 (b2n read) ++ zeros 12)).raise Reg.SAF_INT_STATUS 3
  if d.aoSafety a then d.aoRelease (2 ^ a) else d

/-- AO_READBACK: the levels sensed at the pins at a flutter boundary. -/
def Dev.aoReadback (d : Dev) (sense : Nat) : Dev :=
  let diff := sumN ((List.range 16).map (fun a => b2n (sense.testBit a != d.aoLevel a) * 2 ^ a))
  let was := d.saf.aoDiff
  foldUp 16 (fun a d => if diff.testBit a && was.testBit a then d.aoFail a (sense.testBit a) else d)
    { d with saf := { d.saf with aoDiff := diff } }

/-! Flutter digest (R762). -/

/-- FLUTTER_DIGEST_COMPARE: the wings' digests agree (none), or differ: DET_DIFF and the flags of wing 0. -/
def Dev.flutterDigest (d : Dev) (mis : Option (Nat × Nat)) : Dev :=
  if d.hasStandby then
    match mis with
    | none => d.causeGone 2
    | some (diff, flags0) =>
      let d := (d.inc Reg.SAF_FLUTTER_MISMATCH_CNT 1).raise Reg.SAF_INT_STATUS 6
      let l := (List.range 64).filter (fun k => diff.testBit k)
      { d with units := { d.units with attrib := d.units.attrib ++ [⟨true, 0, d.time, d.tq, diff % 2 ^ 64, l.map (fun k => (k, flags0.testBit k)), 0, 0⟩] } }
  else d

/-! AO proof (R774, R775). -/

/-- A result of a proof: the status and the PROOF record. -/
def Dev.proofResult (d : Dev) (pin res : Nat) : Dev :=
  ((d.putF Reg.SAF_PROOF_STATUS 2 0 res).record 0x1306 (be 1 pin ++ be 1 res ++ zeros 2 ++ be 4 (d.fld Reg.SAF_PROOF_CFG 9 0) ++ zeros 8)).raise Reg.SAF_INT_STATUS 4

/-- A write of SAF_PROOF_CTL. (DEDUCED: notes/assumptions/115) -/
def Dev.proofStart (d : Dev) (data : Word) : Dev :=
  let pin := bits data 3 0
  if !bit data 8 then d
  else if !d.running then (d.putF Reg.SAF_PROOF_STATUS 7 4 pin).proofResult pin 5
  else if d.saf.proof.isSome then d.proofResult pin 3
  else
    let d := d.putF Reg.SAF_PROOF_STATUS 7 4 pin
    if (d.ao pin).alarm || d.pins.aoReleased.testBit pin then d.proofResult pin 4
    else { d with saf := { d.saf with proof := some (pin, d.tim.clk, none) } }

/-- A proof ends. -/
def Dev.proofEnd (d : Dev) (pin res : Nat) : Dev := ({ d with saf := { d.saf with proof := none } }).proofResult pin res

/-- PROOF_SAMPLE: the readback sampled at PULSE/2 after the release, and at PULSE/2 after the restore. -/
def Dev.proofSample (d : Dev) (level : Bool) : Dev :=
  match d.saf.proof with
  | none => d
  | some (pin, at', first) =>
    let pulse := ticksUs (d.fld Reg.SAF_PROOF_CFG 9 0)
    let p := d.ao pin
    match first with
    | none =>
      if at' + pulse / 2 ≤ d.tim.clk then
        if p.alarm then d.proofEnd pin 6
        else { d with saf := { d.saf with proof := some (pin, at', some (!level)) } }
      else d
    | some ok =>
      if at' + pulse + pulse / 2 ≤ d.tim.clk then
        if p.alarm && p.since ≤ at' + pulse then d.proofEnd pin 6
        else if ok && level == d.aoLevel pin then
          ({ d with nv := { d.nv with proofSec := tput d.nv.proofSec pin d.sec } }).proofEnd pin 1
        else (d.aoFail pin level).proofEnd pin 2
      else d

/-- A safety pin has no stored pass, or one older than SAF_PROOF_INT days (R775). -/
def Dev.proofDue (d : Dev) : Bool :=
  d.tim.lockedOnce && (List.range 16).any (fun a => d.aoSafety a &&
    (match d.nv.proofSec.find? (fun x => x.1 == a) with
     | some (_, s) => decide (s + d.rdN Reg.SAF_PROOF_INT * 86400 < d.sec)
     | none => true))

/-- PROOF_DUE (R775). -/
def Dev.proofDueEvent (d : Dev) : Dev := if d.proofDue then d.raise Reg.SAF_INT_STATUS 5 else d

/-! Registers (R778, R779). -/

/-- Seconds since the last full self-test pass of the standby, saturating (R750). -/
def Dev.selftestAge (d : Dev) : Nat := match d.units.passAt with | some c => min 0xFFFFFFFF ((d.tim.clk - c) / ticksSec 1) | none => 0xFFFFFFFF

/-- Registers of the SAF block that show its state. -/
def Dev.safReg (d : Dev) (a : Nat) : Option Word :=
  let word (base i : Nat) : Word := w32 (sumN ((List.range 32).map (fun j => b2n (d.forced (base + 32 * i + j)) * 2 ^ j)))
  if a = Reg.SAF_STATUS then
    some (w32 (b2n (d.boot == 7) + 2 * b2n (d.saf.forced != []) + 4 * b2n d.proofDue + 8 * b2n (d.saf.aoFault != 0) + 16 * b2n (d.saf.partnerFail != [])
      + 32 * b2n d.units.redundant + 64 * b2n (decide (d.selftestAge ≤ 900))))
  else if a = Reg.SAF_AO_FAULT then some (w32 d.saf.aoFault)
  else if a = Reg.SAF_PROOF_STATUS then some (setBits (d.rd a) 3 3 (b2n d.saf.proof.isSome))
  else if a = Reg.SAF_FORCED_TRK then some (w32 ((word (2 * 65536) 0).toNat % 65536))
  else
    match (List.range 6).find? (fun i => a == Reg.SAF_PARTNER_FAIL i), (List.range 2).find? (fun i => a == Reg.SAF_FORCED_DET i),
      (List.range 32).find? (fun i => a == Reg.SAF_FORCED_ISL i), (List.range 16).find? (fun i => a == Reg.SAF_AO_PROOF_SEC i) with
    | some i, _, _, _ => some (w32 (sumN ((List.range 32).map (fun j => b2n (d.failedChans.contains (32 * i + j)) * 2 ^ j))))
    | _, some i, _, _ => some (word 0 i)
    | _, _, some i, _ => some (word 65536 i)
    | _, _, _, some i => some (w32 (tget 0 d.nv.proofSec i))
    | _, _, _, _ => none

end Sys2Proof.Machine
end

