-- ==== Sys2Proof/Machine/Wings.lean ====
section
/-! DEFINITION. Sys2Proof/Machine/Wings.lean: heartbeats, digests and attribution, the Oznis link, mirrored outputs, claim beacons, repair and
resynchronisation, and the registers of the WNG block (chapter 18). -/

namespace Sys2Proof.Machine

/-! Heartbeats (R717, R725). -/

/-- A count in a field of an RC register; past its largest value it is open. -/
def Dev.incF (d : Dev) (a hi lo : Nat) : Dev :=
  let v := d.fld a hi lo + 1
  d.putF a hi lo (if v < 2 ^ (hi + 1 - lo) then v else (Config.countPast a).toNat)

/-- WING_HEARTBEAT: the paths on which a wing's heartbeat has arrived in time. -/
def Dev.wingHeartbeat (d : Dev) (w : Nat) (link arb : Bool) : Dev :=
  d.modWing w (fun x => { x with missLink := if link then 0 else x.missLink, missArb := if arb then 0 else x.missArb })

/-- A wing that still runs has lost its path to the arbiter, or is declared failed: CAUSE 1; with neither wing at the arbiter the device enters SAFE. (DEDUCED: notes/assumptions/110) -/
def Dev.pathLost (d : Dev) (w : Nat) : Dev :=
  let d := d.modWing w (fun x => { x with arbPath := false })
  if (d.wing (1 - w)).arbPath then d.wingFault w 1
  else
    let d := d.modWing w (fun x => { x with role := .faulted, cause := 1 })
    ((d.faultRecord w 1).enterSafe 4).reviewRun

/-- HEARTBEAT_MISS: the paths on which a wing's heartbeat is missed. (DEDUCED: notes/assumptions/110) -/
def Dev.heartbeatMiss (d : Dev) (w : Nat) (link arb : Bool) : Dev :=
  if (d.wing w).role = .faulted || !(link || arb) then d
  else
    let d := d.incF Reg.WNG_HB_MISS_CNT 15 0
    let d := d.modWing w (fun x => { x with missLink := if link then x.missLink + 1 else x.missLink, missArb := if arb then x.missArb + 1 else x.missArb })
    let x := d.wing w
    let o := d.wing (1 - w)
    if 3 ≤ x.missArb then d.pathLost w
    else if 3 ≤ x.missLink && x.missArb = 0 && o.missArb = 0 && o.arbPath && o.role != .faulted then d.wingFault (1 - d.active) 1
    else d

/-- CLOCK_LOSS (R758, R761): the CAUSE of R749 of a clock fault is not given and is free. (DESIGN CHOICE: notes/assumptions/111) -/
def Dev.clockLoss (d : Dev) (w0 w1 : Bool) : Dev :=
  if w0 && w1 then (d.enterSafe 3).reviewRun
  else if w0 || w1 then
    let (x, d) := d.free
    d.wingFault (if w0 then 0 else 1) (x % 16)
  else d

/-! Slot digests (R719 to R721, R763). -/

/-- DIGEST_COMPARE: N, both digests, the SUBMASK of the sub-digests that differ, and the safety objects whose flags differ with the flag of wing 0. (DEDUCED: notes/assumptions/114) -/
def Dev.digestCompare (d : Dev) (n d0 d1 mask : Nat) (differ : List (Nat × Bool)) : Dev :=
  let d := ((d.wr64 Reg.WNG_DIGEST_SEQ_LO Reg.WNG_DIGEST_SEQ_HI n).wr64 Reg.WNG_DIGEST_W0_LO Reg.WNG_DIGEST_W0_HI d0).wr64
    Reg.WNG_DIGEST_W1_LO Reg.WNG_DIGEST_W1_HI d1
  if d0 = d1 then
    let m := d.units.matching + 1
    ({ d with units := { d.units with matching := m, redundant := d.units.redundant || decide (16 ≤ m) } }).causeGone 1
  else
    let d := (d.inc Reg.WNG_MISMATCH_CNT 1).raise Reg.WNG_INT_STATUS 2
    { d with units := { d.units with matching := 0, attrib := d.units.attrib ++ [⟨false, n, d.time, d.tq, mask % 256, differ, d0, d1⟩] } }

/-- The record of an attribution that has ended, naming the wing it faults (R721, R762). (DEDUCED: notes/assumptions/114) -/
def Dev.attribRecord (d : Dev) (a : Attrib) (w : Nat) : Dev :=
  if a.flutter then d.recordAt 0x1303 a.time a.tq (be 1 w ++ zeros 7 ++ be 8 a.mask)
  else d.recordAt 0x1203 a.time a.tq (be 8 a.n ++ be 8 a.d0 ++ be 8 a.d1 ++ be 1 a.mask ++ be 1 w ++ zeros 6)

/-- DIGEST_ATTRIBUTION: the tests of both wings for the oldest mismatch have ended. A wing whose test fails is faulted; when neither fails, the standby is. Safety objects that the
wing that keeps the claim holds clear, and the other set, are to be forced (R763). (DEDUCED: notes/assumptions/114) -/
def Dev.attribute (d : Dev) (fail0 fail1 : Bool) : Dev :=
  match d.units.attrib with
  | [] => d
  | a :: rest =>
    let act := d.active
    let failAct := if act = 0 then fail0 else fail1
    let failSby := if act = 0 then fail1 else fail0
    let keep := if failAct then 1 - act else act
    let d := { d with units := { d.units with attrib := rest } }
    let d := d.attribRecord a (if failAct then act else 1 - act)
    let obj := d.safetyObjects
    let d := a.differ.foldl (fun (d : Dev) x =>
      let flag := if keep = 0 then x.2 else !x.2
      if !flag && obj.contains x.1 then d.causePresent x.1 (if a.flutter then 2 else 1) true else d) d
    let d := if failSby || !failAct then d.wingFault (1 - act) 4 else d
    if failAct then d.wingFault act 4 else d

/-! The Oznis link (R742 to R745). -/

/-- A lane. -/
def Dev.lane (d : Dev) (l : Nat) : Lane := if l = 0 then d.units.lane0 else d.units.lane1

/-- A lane changed. -/
def Dev.modLane (d : Dev) (l : Nat) (f : Lane → Lane) : Dev :=
  if l = 0 then { d with units := { d.units with lane0 := f d.units.lane0 } } else { d with units := { d.units with lane1 := f d.units.lane1 } }

/-- OZNIS_LANE (R749). -/
def Dev.laneRecord (d : Dev) (l : Nat) (up : Bool) : Dev :=
  (d.record 0x1207 (be 1 l ++ be 1 (b2n up) ++ zeros 6 ++ be 4 (d.rdN (Reg.WNG_LANE_HB_MISS l)) ++ be 4 (d.rdN (Reg.WNG_LANE_CRC_ERR l)))).raise
    Reg.WNG_INT_STATUS 5

/-- The role of a wing or module as WNG_STATUS codes it (R751). -/
def roleCode : Role → Nat
  | .active => 0
  | .standby => 1
  | .resync => 2
  | .faulted => 3

/-- The role of a wing as it is shown: while this module is not the active twin, its active wing has the module's role (R712, R726). (DEDUCED: notes/assumptions/107) -/
def Dev.shownRole (d : Dev) (w : Nat) : Role := if (d.wing w).role = .active then d.units.twinRole else (d.wing w).role

/-- Pairing (R726): the link is up, both enable it, instars, rates and key roots agree, and neither runs on the test root. (DESIGN CHOICE: notes/assumptions/108) -/
def Dev.reviewPair (d : Dev) : Dev :=
  let p := d.flag Reg.WNG_CTL 0 && d.ozUp && d.units.peerSeen && d.units.peerOk && d.units.peerInstar == d.txn.instar && !d.testRoot
  { d with units := { d.units with paired := p, twinCurrent := d.units.twinCurrent && p } }

/-- A higher claim than that of an ACTIVE unit has been seen (R712, R734). -/
def Dev.seeClaim (d : Dev) (claim source : Nat) : Dev :=
  let d := { d with units := { d.units with highest := max d.units.highest (claim / 16) } }
  if d.activeTwin && d.units.claim < claim then d.standDown claim source else d

/-- A frame received on a lane: counted, checked, its CLAIM seen; TYPE, FLAGS, LINK_SEQ and payload. -/
def Dev.ozReceive (d : Dev) (l : Nat) (b : Bytes) : Option (Nat × Nat × Nat × Bytes) × Dev :=
  let d := d.incW (Reg.WNG_LANE_RX_CNT l) 1
  let n := beAt b 4 2
  if b.length < 20 || crc32c (b.take (b.length - 4)) != beAt b (b.length - 4) 4 then (none, d.inc (Reg.WNG_LANE_CRC_ERR l) 1)
  else if beAt b 0 2 != 0xA7E1 || byteAt b 2 != 1 || 8192 < n || b.length != 20 + n then (none, d)
  else
    let claim := beAt b 12 4
    let d := { d with units := { d.units with peerClaim := claim, peerSeen := true } }
    (some (byteAt b 3, byteAt b 6, beAt b 8 4, (b.drop 16).take n), d.seeClaim claim 1)

/-- The payload of this module's heartbeat (R745). -/
def Dev.heartbeatBytes (d : Dev) : Bytes :=
  be 8 d.wbSeq ++ be 4 d.txn.instar ++ be 4 (max d.units.highest d.nv.claimEpoch) ++ be 1 (roleCode (d.shownRole d.active)) ++ be 1 d.boot
    ++ be 2 (d.rdN Reg.WNG_HEALTH % 65536) ++ be 4 d.units.doneSeq

/-- DONE_SEQ: the last of the mirrored outputs that have left every port with all that passed before them (R745). (DEDUCED: notes/assumptions/119) -/
def Dev.reviewDone (d : Dev) : Dev :=
  let here := d.outFrames.filterMap (·.2.2.out)
  let gone := d.units.leaving.takeWhile (fun x => !here.contains x.2)
  { d with units := { d.units with doneSeq := (gone.getLast?.map (·.1)).getD d.units.doneSeq, leaving := d.units.leaving.drop gone.length } }

/-- A heartbeat is sent on a lane, with DONE_SEQ as it then is (R745). -/
def Dev.sendHeartbeat (d : Dev) (l : Nat) : Dev :=
  let d := d.reviewDone
  (d.ozSend l 1 d.heartbeatBytes).2

/-- A heartbeat of the twin (R726, R729, R738, R745). -/
def Dev.takeHeartbeat (d : Dev) (l : Nat) (flags : Nat) (p : Bytes) (peerOk : Bool) : Dev :=
  let wasUp := d.ozUp
  let d := if (d.lane l).up then d else (d.modLane l (fun x => { x with up := true })).laneRecord l true
  let d := d.modLane l (fun x => { x with missed := 0 })
  let old := d.units.peerRole
  let role := match byteAt p 16 with | 0 => Role.active | 1 => .standby | 2 => .resync | _ => .faulted
  let done := beAt p 20 4
  let d := { d with units := { d.units with
    peerRole := role, peerState := byteAt p 17, peerInstar := beAt p 8 4, highest := max d.units.highest (beAt p 12 4 % 2 ^ 28), peerLost := false
    peerOk := peerOk && !flags.testBit 3, heldFrames := d.units.heldFrames.filter (fun h => decide (done < h.linkSeq)) } }
  let d := d.reviewPair
  let d := if d.units.paired && d.activeTwin && old = .resync && role = .standby then { d with units := { d.units with twinCurrent := true } } else d
  let d := if !wasUp && d.running && d.units.twinRole != .active then
      { d with units := { d.units with twinRole := .resync, resyncAt := d.tim.clk } } else d
  d.reviewRun

/-- OZNIS_HEARTBEAT: sent, or a frame received with what the other module alone knows of R726. (DESIGN CHOICE: notes/assumptions/108) -/
def Dev.oznisHeartbeat (d : Dev) (l : Nat) (rx : Option Bytes) (peerOk : Bool) : Dev :=
  match rx with
  | none => d.sendHeartbeat l
  | some b =>
    match d.ozReceive l b with
    | (some (1, flags, _, p), d) => d.takeHeartbeat l flags p peerOk
    | (_, d) => d

/-! The twin exchange (R98). -/

/-- The body of a TIME frame (R744). -/
def timeBody (resp t1 t2 t3 : Nat) : Bytes := be 1 resp ++ zeros 7 ++ be 8 t1 ++ be 8 t2 ++ be 8 t3

/-- A TIME exchange has completed: a domain with SRC 4 has the twin's output time now, from the four stamps in ns; the twin's estimate and TRACE (R919, R117). -/
def Dev.twinUpdate (d : Dev) (t1 t2 t3 t4 estNs : Nat) (trace : Bool) : Dev :=
  foldUp 2 (fun k d =>
    if d.domSrc k = 4 && !(d.units.paired && d.activeTwin) then
      let v : Int := (2 * (t3 : Int) + ((t4 : Int) - t1) - ((t3 : Int) - t2)) * unitNs / 2
      (d.modDom k (fun m => { m with stated := (estNs + 10) * unitNs, trace := trace, leap := none, utc := none })).domUpdate k v.toNat 0
    else d) d

/-- TWIN_TIME_EXCHANGE (R98, R744): a request is due, or a TIME frame has come: a request is answered, a response ends the exchange of its t1. On the active
twin of a pair a domain with SRC 4 counts as one whose source is lost (R731). (DESIGN CHOICE: notes/assumptions/171) -/
def Dev.twinExchange (d : Dev) (x : TimeExchange) : Dev :=
  let d := foldUp 2 (fun k (d : Dev) => if d.domSrc k = 4 && d.units.paired && d.activeTwin then d.domLost k else d) d
  match x.rx with
  | none =>
    if (d.lane x.lane).up && (List.range 2).any (fun k => d.domSrc k == 4) then
      (({ d with tim := { d.tim with twinReq := some d.ns } }).ozSend x.lane 2 (timeBody 0 d.ns 0 0)).2
    else d
  | some b =>
    match d.ozReceive x.lane b with
    | (some (2, _, _, p), d) =>
      if byteAt p 0 = 0 then (d.ozSend x.lane 2 (timeBody 1 (beAt p 8 8) d.ns d.ns)).2
      else if d.tim.twinReq = some (beAt p 8 8) then
        ({ d with tim := { d.tim with twinReq := none } }).twinUpdate (beAt p 8 8) (beAt p 16 8) (beAt p 24 8) d.ns x.estNs x.trace
      else d
    | (_, d) => d

/-- No valid beacon of the twin within 3 ms, or none is watched for (R732). -/
def Dev.beaconsLost (d : Dev) : Bool :=
  !d.flag Reg.WNG_CTL 1 || (match d.units.lastBeacon with | some c => decide (ticksMs 3 ≤ d.tim.clk - c) | none => true)

/-- TWIN_FAILURE: the link and the beacons are lost (R732); a converged standby twin will claim (R712). -/
def Dev.twinFailure (d : Dev) : Dev :=
  if d.units.peerSeen && !d.units.peerLost && !d.ozUp && d.beaconsLost then
    let d := { d with units := { d.units with peerLost := true } }
    let d := if d.units.twinRole = .standby then
        { d with units := { d.units with due := some ⟨11, d.active, true, some d.tim.clk⟩ } } else d
    d.reviewRun
  else d

/-- OZNIS_HEARTBEAT_MISS: a heartbeat of a lane is more than 20 µs late. -/
def Dev.oznisMiss (d : Dev) (l : Nat) : Dev :=
  let d := (d.inc (Reg.WNG_LANE_HB_MISS l) 1).incF Reg.WNG_HB_MISS_CNT 31 16
  let d := d.modLane l (fun x => { x with missed := x.missed + 1 })
  let d := if (d.lane l).up && 3 ≤ (d.lane l).missed then
      ((d.modLane l (fun x => { x with up := false })).laneRecord l false).reviewPair else d
  d.twinFailure

/-! Mirrored outputs (R728 to R730, R742). -/

/-- A mirrored output that may pass meets its gate again: it passes, is held for a gate that will open, or is suppressed (R32, R715). -/
def Dev.passMirrored (d : Dev) (o : OzOut) (x : Out) : Dev :=
  if d.gateOpen d.active x.o x.seq then ({ d with units := { d.units with leaving := d.units.leaving ++ [(o.linkSeq, x.o, x.seq)] } }).passAll x
  else if tget 0 d.units.outSeq x.o ≤ x.seq then { d with units := { d.units with outs := d.units.outs ++ [x] } }
  else d

/-- The first mirrored output that may pass with none of the same index ahead of it: outputs of one index pass in the order of their sequences. -/
def nextMirrored : List Nat → List (OzOut × Out) → Option (OzOut × Out)
  | _, [] => none
  | held, (o, x) :: r =>
    if o.passed then nextMirrored held r
    else if o.ready ≠ 0 && !held.contains o.out then some (o, x)
    else nextMirrored (o.out :: held) r

/-- Mirrored outputs that may pass do so, in order; one whose time ran out stays listed until it has been sent again (R32, R729, R742). -/
def Dev.drainMirrored : Nat → Dev → Dev
  | 0, d => d
  | n + 1, d =>
    match nextMirrored [] d.units.unacked with
    | none => d
    | some (o, x) =>
      let l := d.units.unacked.filterMap (fun y =>
        if y.1 = o then (if o.ready = 2 || o.again then none else some ({ o with passed := true }, y.2)) else some y)
      Dev.drainMirrored n (({ d with units := { d.units with unacked := l } }).passMirrored o x)

/-- Another part of the same mirrored output. -/
def OzOut.sibling (o x : OzOut) : Bool := x.out == o.out && x.seq == o.seq && x.frag != o.frag

/-- A frame of a mirrored output is acknowledged, or its time has run out: the output may pass once every part is acknowledged or the time of one has run
out, and what may pass then does (R729). -/
def Dev.readyMirrored (d : Dev) (o : OzOut) (why : Nat) : Dev :=
  let waits := d.units.unacked.any (fun y => o.sibling y.1 && !y.1.passed)
  let l := d.units.unacked.filterMap (fun y =>
    if y.1 = o then (if o.passed || (why = 2 && waits) then none else some ({ o with ready := why }, y.2))
    else if why = 1 && o.sibling y.1 then some ({ y.1 with passed := true }, y.2) else some y)
  Dev.drainMirrored l.length { d with units := { d.units with unacked := l } }

/-- OUTPUT_ACK: the output of an acknowledged frame passes. -/
def Dev.outputAck (d : Dev) (l : Nat) (b : Bytes) : Dev :=
  match d.ozReceive l b with
  | (some (4, _, _, p), d) =>
    match d.units.unacked.find? (fun x => x.1.linkSeq == beAt p 0 4) with
    | some (o, _) => d.readyMirrored o 2
    | none => d
  | (_, d) => d

/-- OUTPUT_ACK_TIMEOUT: 20 µs without an acknowledgement: the output passes and TWIN_CURRENT clears (R729). (DEDUCED: notes/assumptions/119) -/
def Dev.ackTimeout (d : Dev) (seq : Nat) : Dev :=
  match d.units.unacked.find? (fun x => x.1.linkSeq == seq && x.1.ready == 0 && decide (x.1.at' + ticksUs 20 ≤ d.tim.clk)) with
  | some (o, _) => (({ d with units := { d.units with twinCurrent := false } }).raise Reg.WNG_INT_STATUS 7).readyMirrored o 1
  | none => d

/-- OZNIS_RETRANSMIT: a frame not acknowledged within 20 µs is sent once more on the other lane (R742). (DEDUCED: notes/assumptions/119) -/
def Dev.oznisRetransmit (d : Dev) (seq : Nat) : Dev :=
  match d.units.unacked.find? (fun x => x.1.linkSeq == seq && !x.1.again && decide (x.1.at' + ticksUs 20 ≤ d.tim.clk)) with
  | some (o, x) =>
    let l := 1 - o.lane
    if (d.lane l).up then
      let (n, d) := (d.inc (Reg.WNG_LANE_RETX_CNT l) 1).ozSend l 3 (x.part o.frag o.frags)
      let u := d.units.unacked.filterMap (fun y =>
        if y.1 = o then (if o.passed then none else some ({ o with linkSeq := n, lane := l, again := true }, y.2)) else some y)
      { d with units := { d.units with unacked := u } }
    else d
  | none => d

/-- OUTPUT_FRAME: the standby twin takes a mirrored output and acknowledges it; it keeps a stream frame until DONE_SEQ shows it sent (R729, R730). -/
def Dev.outputFrame (d : Dev) (l : Nat) (b : Bytes) : Dev :=
  match d.ozReceive l b with
  | (some (3, _, n, p), d) =>
    if d.activeTwin then d
    else
      let o := beAt p 0 2
      let sq := beAt p 8 8
      let len := beAt p 16 4
      let frag := byteAt p 2
      let d := { d with units := { d.units with
        outSeq := tset 0 d.units.outSeq o (max (tget 0 d.units.outSeq o) (sq + 1))
        outs := d.units.outs.filter (fun x => !(x.o == o && decide (x.seq ≤ sq)))
        heldFrames := if len = 0 || d.units.heldFrames.any (fun h => h.out == o && h.seq == sq && h.frag == frag) then d.units.heldFrames
          else d.units.heldFrames ++ [({ out := o, seq := sq, linkSeq := n, frag := frag, bytes := (p.drop 24).take len } : Held)] } }
      (d.ozSend l 4 (be 4 n ++ zeros 4)).2
  | (_, d) => d

/-- REPORT_FRAME: a record that the active twin accepted is placed (R394, R728); its ARRIVAL tells when its frame ended. (DEDUCED: notes/assumptions/185) -/
def Dev.reportFrame (d : Dev) (l : Nat) (b : Bytes) : Dev :=
  match d.ozReceive l b with
  | (some (9, _, _, p), d) =>
    if d.tim.lockedOnce && !d.activeTwin then
      let e := beAt p 0 2
      let n := beAt p 8 8
      let b := fit 32 (p.drop 16)
      let (r, d) := d.place e n (slotNs d.rate n + beAt b 30 2 * 32000) b none
      d.pointPlaced e r
    else d
  | (_, d) => d

/-- HEALTH_FRAME: the twin's health report (R744). (DEDUCED: notes/assumptions/120) -/
def Dev.healthFrame (d : Dev) (l : Nat) (b : Bytes) : Dev :=
  match d.ozReceive l b with
  | (some (6, _, _, p), d) => { d with units := { d.units with peerHealth := p } }
  | (_, d) => d

/-! Claim beacons (R733, R734). -/

/-- The pair key (R500, R733): label FJARARI-TW. -/
def Dev.pairKey (d : Dev) : Bytes :=
  kdf 1 (d.rootKey (d.fld Reg.WNG_BEACON_CFG 11 8)) [0x46, 0x4A, 0x41, 0x52, 0x41, 0x52, 0x49, 0x2D, 0x54, 0x57]
    (zeros 8 ++ be 2 (d.fld Reg.WNG_BEACON_CFG 31 16))

/-- The 40 bytes of a beacon from its first 24. -/
def Dev.beaconBytes (d : Dev) (h : Bytes) : Bytes :=
  h ++ fit 16 (Config.gmac d.pairKey ((h.drop 4).take 8 ++ zeros 4) h)

/-- BEACON_SEND: the active twin sends a claim beacon through TXQ7 of each port of PORT_MASK. -/
def Dev.beaconSend (d : Dev) : Dev :=
  if d.activeTwin && d.flag Reg.WNG_CTL 1 then
    let sq := (d.units.beaconSeq + 1) % 2 ^ 32
    let d := { d with units := { d.units with beaconSeq := sq } }
    let pl := d.beaconBytes (be 1 1 ++ be 1 (b2n d.testRoot) ++ zeros 2 ++ be 4 d.units.claim ++ be 4 sq ++ be 6 d.sec ++ be 4 d.nsIn
      ++ be 2 (d.fld Reg.WNG_BEACON_CFG 31 16))
    let port := d.fld Reg.WNG_BEACON_UDP_PORT 15 0
    let dst := d.rdN Reg.WNG_BEACON_GROUP
    (d.toPorts (d.fld Reg.WNG_BEACON_CFG 7 0) 7 0x12 (fun p =>
      ethHdr (groupMac dst) (d.mac (d.addrPort p)) none 0x0800 ++ udpPacket 46 64 (d.ip p) dst port port pl)).foldl (fun (d : Dev) a => d.act a) d
  else d

/-- BEACON_RECEIVED: the payload of a beacon that a port copies to the claim watch. -/
def Dev.beaconReceived (d : Dev) (b : Bytes) : Dev :=
  if d.flag Reg.WNG_CTL 1 && b.length == 40 && byteAt b 0 == 1 then
    if d.beaconBytes (b.take 24) != b then d.inc Reg.WNG_BEACON_BAD_CNT 1
    else
      let claim := beAt b 4 4
      let d := if claim / 2 % 2 = d.twinId then d else { d with units := { d.units with lastBeacon := some d.tim.clk } }
      d.seeClaim claim 2
  else d

/-- TWIN_B_CLAIM_WAIT: 20 ms after its entry to RUN without a sign of twin A (R736). -/
def Dev.twinBClaim (d : Dev) : Dev :=
  if d.twinId = 1 && d.tim.lockedOnce && d.running && d.units.holder.isNone && decide (d.units.runAt + ticksMs 20 ≤ d.tim.clk)
    && d.units.peerClaim == 0 && d.units.lastBeacon.isNone
  then d.firstClaim.beaconSend else d

/-! Repair, resynchronisation, self-test (R738 to R741). -/

/-- REPAIR: the FAULTED wing die alone is reset and runs its SELFTEST. -/
def Dev.repair (d : Dev) : Dev :=
  let w := if d.units.w0.role = .faulted then some 0 else if d.units.w1.role = .faulted then some 1 else none
  match w with
  | some w => (({ d with units := { d.units with repairing := some w } }).modWing w (fun x => { x with missLink := 0, missArb := 0 })).relinkWing w
  | none => d

/-- WING_SELFTEST_DONE: the SELFTEST of the repaired wing ends. -/
def Dev.wingTested (d : Dev) (w : Nat) (pass : Bool) : Dev :=
  if d.units.repairing = some w then
    let d := { d with units := { d.units with repairing := none } }
    if pass then
      let d := d.modWing w (fun x => { x with role := .resync, cause := 0, arbPath := true, missLink := 0, missArb := 0 })
      let d := ({ d with ing := { d.ing with lag := d.ing.lag.filter (· != w) } }.modWs w (fun _ => WSched.start)).wrN Reg.WNG_RESYNC_PROG 0
      (({ d with units := { d.units with resyncAt := d.tim.clk } }).relinkWing w).reviewRun
    else (d.modWing w (fun x => { x with cause := 8 })).faultRecord w 8
  else d

/-- RESYNC_FRAME: per mille of the state stream received. (DESIGN CHOICE: notes/assumptions/118) -/
def Dev.resyncFrame (d : Dev) (prog : Nat) : Dev :=
  if d.units.w0.role == .resync || d.units.w1.role == .resync || d.units.twinRole == .resync then d.wrN Reg.WNG_RESYNC_PROG (min 1000 prog) else d

/-- The work that the active wing has not completed, taken over by a wing that converges. -/
def Dev.syncWs (d : Dev) (w : Nat) : Dev :=
  let s := d.ws d.active
  let run := s.cores.map (·.2.item)
  d.modWs w (fun _ => { WSched.start with
    crit := run.filter (fun i => i.cls == 0) ++ s.crit, wait := run.filter (fun i => i.cls != 0) ++ s.wait
    deficit := s.deficit, aff := s.aff, impatient := s.impatient, since := s.since, turn := s.turn, began := s.began })

/-- RESYNC_CONVERGE: a unit has the active unit's state and is STANDBY. (DESIGN CHOICE: notes/assumptions/118) -/
def Dev.converge (d : Dev) (w : Nat) (twin : Bool) : Dev :=
  let note (d : Dev) (w : Nat) : Dev :=
    (d.record 0x1205 (be 1 w ++ be 1 (b2n twin) ++ zeros 2 ++ be 4 (min 0xFFFFFFFF ((d.tim.clk - d.units.resyncAt) / ticksMs 1)) ++ be 8 d.wbSeq)).raise
      Reg.WNG_INT_STATUS 4
  if twin then
    if d.units.twinRole = .resync then
      (note { d with units := { d.units with twinRole := .standby, stoodDown := false } } d.active).reviewRun
    else d
  else if (d.wing w).role = .resync then
    let d := (d.syncWs w).modWing w (fun x => { x with role := .standby })
    let d := { d with units := { d.units with matching := 0, redundant := false, stoodDown := false } }
    ((note ((d.causeGone 1).causeGone 2) w).dispatch w).reviewRun
  else d

/-- SELFTEST_SLICE: the standby runs its slice of this second and publishes its health. -/
def Dev.selftestSlice (d : Dev) (failed : Bool) : Dev :=
  if d.hasStandby then
    let w := 1 - d.active
    let s := d.units.slice
    let f := (if s = 0 then 0 else d.units.sliceFail) + b2n failed
    let d := { d with units := { d.units with slice := if s = 899 then 0 else s + 1, sliceFail := f, passAt := if s = 899 then some d.tim.clk else d.units.passAt } }
    let d := d.wrN Reg.WNG_HEALTH (s + 65536 * f)
    let body := be 1 w ++ be 1 d.twinId ++ be 2 s ++ be 2 f ++ zeros 2 ++ be 4 d.selftestAge ++ zeros 4
    let d := d.recordLocal w 0x1206 body
    let d := if d.ozUp then (d.ozSend d.ozLane 6 body).2 else d
    if failed then (d.raise Reg.WNG_INT_STATUS 6).wingFault w 8 else d
  else d

/-- SWITCH (R740): ignored unless the standby is redundant. -/
def Dev.wingSwitch (d : Dev) : Dev :=
  if d.hasStandby && d.units.redundant then { d with units := { d.units with switchReq := true } } else d

/-- The bits of a write to WNG_CTL that act at once: REPAIR and SWITCH (R751). -/
def Dev.wngCtl (d : Dev) (data : Word) : Dev :=
  let d := if bit data 2 then d.repair else d
  if bit data 3 then d.wingSwitch else d

/-! Registers (R750, R751). -/

/-- WNG_OUT_STATUS_READ: the selected output in the read view. -/
def Dev.outCapture (d : Dev) (i : Iface) : Word × Dev :=
  let o := d.fld Reg.WNG_OUT_SEL 11 0
  let s := tget 0 d.units.outSeq o
  let d := (d.latch i Reg.WNG_OUT_SEQ_LO (w32 (s - 1))).latch i Reg.WNG_OUT_SEQ_HI (w32 ((s - 1) / 2 ^ 32))
  (w32 (b2n (decide (16 ≤ o) && decide (o < 2176) && o != 2167) + 2 * b2n (s != 0)), d)

/-- Registers of the WNG block that show its state. (DEDUCED: notes/assumptions/14, 117) -/
def Dev.wngReg (d : Dev) (a : Nat) : Option Word :=
  let u := d.units
  if a = Reg.WNG_STATUS then
    some (w32 (d.active + 2 * b2n d.activeTwin + 4 * d.twinId + 8 * b2n u.paired + 16 * b2n u.twinCurrent + 32 * b2n u.redundant
      + 2 ^ 8 * roleCode (d.shownRole 0) + 2 ^ 10 * roleCode (d.shownRole 1) + 2 ^ 12 * (if d.ozUp || u.peerLost then roleCode u.peerRole else 0) + 2 ^ 14 * b2n u.stoodDown))
  else if a = Reg.WNG_CLAIM then some (w32 u.claim)
  else if a = Reg.WNG_HIGHEST_EPOCH then some (w32 (max u.highest d.nv.claimEpoch))
  else if a = Reg.WNG_PEER_CLAIM then some (w32 u.peerClaim)
  else if a = Reg.WNG_FAULT_CAUSE then some (w32 (u.w0.cause % 16 + 16 * (u.w1.cause % 16) + 256 * (if u.peerLost then 11 else 0)))
  else if a = Reg.WNG_SELFTEST_AGE then some (w32 d.selftestAge)
  else ((List.range 2).find? (fun l => a == Reg.WNG_LANE_STATUS l)).map (fun l => w32 (3 * b2n (d.lane l).up))

end Sys2Proof.Machine
end

