-- ==== Sys2Proof/Machine/Sched.lean ====
section
/-! DEFINITION. Sys2Proof/Machine/Sched.lean: the completion of work items (R530, R538, R539), critical overruns (R58 to R61), the power manager and the wear
ledger (R546 to R557), the statistics record (R558, R559) and the registers of the SCH and PWR blocks (chapter 12). -/

namespace Sys2Proof.Machine

/-! What an item yields (R527). -/

/-- K_SLOTSCAN, item i of slot n: 4,096 points; after `Config.silentAfter` missing wingbeats in a row a POINT_SILENT record. (DESIGN CHOICE: notes/assumptions/146) -/
def Dev.slotScan (d : Dev) (n i : Nat) : Dev :=
  let ps := (d.recs 0x0801).filter (fun r => r.key / 4096 == i && pointEnabled r.body)
  ps.foldl (fun (d : Dev) r =>
    match d.slotRec n r.key with
    | some b => d.modPoint r.key (fun p => { p with silent := 0, status := beAt b 22 2 % 4096 })
    | none =>
      let c := (d.pointRt r.key).silent + 1
      let d := d.modPoint r.key (fun p => { p with silent := c })
      if c = Config.silentAfter then d.record 0x0803 (be 2 r.key ++ zeros 2 ++ be 4 c ++ be 8 n) else d) d

/-- The bytes that K_ARCHIVE packs of a slot: its presence map and its records. (DESIGN CHOICE: notes/assumptions/127) -/
def archiveBytes (s : Slot9) : Bytes := mapBytes 65792 (fun e => (s.get e).isSome) ++ (List.range 65792).flatMap (fun e => (s.get e).getD missing)

/-- Bytes cut into the largest blocks that a stored block can carry, whose PAYLOAD_LEN has 16 bits (R625, R627). (DESIGN CHOICE: notes/assumptions/127) -/
def archiveChunks (b : Bytes) : List Bytes := (List.range (cdiv b.length 65535)).map (fun j => (b.drop (65535 * j)).take 65535)

/-- K_ARCHIVE hands a slot's blocks to the compression engines of both wings, by the dictionary method. (DESIGN CHOICE: notes/assumptions/127) -/
def Dev.archive (d : Dev) (s : Slot9) : Dev :=
  let d := (archiveChunks (archiveBytes s)).zipIdx.foldl (fun (d : Dev) x =>
    let j : CmpJob := ⟨1, d.cmp.nextJob, 1, 2, Config.arcLevel, 0, x.2, x.1, 0, 0, 0, 0, false⟩
    { d with cmp := { d.cmp with
        nextJob := d.cmp.nextJob + 1
        w0 := { d.cmp.w0 with waitArc := d.cmp.w0.waitArc ++ [j] }
        w1 := { d.cmp.w1 with waitArc := d.cmp.w1.waitArc ++ [j] } } }) d
  d.cmpStart

/-- The slots of a host range, when the range lies wholly inside the slow window (R528). -/
def Dev.hostRange (d : Dev) (first count : Nat) : Option (List Slot9) :=
  ((List.range (min count 4096)).map (fun j => d.slowSlot (first + j))).foldr (fun x l => match x, l with | some s, some l => some (s :: l) | _, _ => none)
    (if count ≤ 4096 then some [] else none)

/-- The outputs of a work item. (DESIGN CHOICE: notes/assumptions/74) -/
def Dev.perform (d : Dev) (w : Work) : Dev :=
  match w with
  | .slotScan n i => d.slotScan n i
  | .isl n st i => d.islItem n st i
  | .osc n i => d.oscEval n i
  | .digest _ => d
  | .fltchk _ => d
  | .stream s n f => ({ d with roost := { d.roost with ready := d.roost.ready ++ [(s, n, f)] } }).streamDrain
  | .cmdAck c n => d.ackCount c n
  | .c37cfg s f => d.c37Config s f
  | .reply p f => d.reply p f
  | .tcp s p f => d.tcpStep s p f
  | .archive n =>
    match d.roost.leaving.find? (fun s => s.n == n) with
    | some s => ({ d with roost := { d.roost with leaving := d.roost.leaving.filter (fun x => x.n != n) } }).archive s
    | none => d
  | .archiveHost f c => match d.hostRange f c with | some l => l.foldl (fun (d : Dev) s => d.archive s) d | none => d
  | .badArg => d
  | .patched _ => d

/-- BAD_ARG of an item (R528, R530). -/
def Dev.badArgs (d : Dev) (w : Work) : Bool :=
  match w with
  | .badArg => true
  | .archiveHost f c => (d.hostRange f c).isNone
  | _ => false

/-- The active wing's completed items produce their outputs: critical ones in the order of their keys (R538), each once for both wings (R723). (DEDUCED: notes/assumptions/121) -/
def Dev.performReady (d : Dev) : Nat → Dev
  | 0 => d
  | f + 1 =>
    let a := d.active
    let s := d.ws a
    let ready := s.early.filter (fun i => (i.cls != 0 || s.openCrit.all (fun x => !x.before i)) && !s.failed.any (fun x => x.id == i.id))
    let next := ready.foldl (fun (m : Option Item) i => match m with
      | none => some i
      | some j => if j.cls = 0 && (i.cls != 0 || i.before j) then some i else some j) none
    match next with
    | none => d.streamDrain
    | some i =>
      let d := d.modWs a (fun s => { s with early := s.early.filter (fun x => x.id != i.id) })
      let o := 1 - a
      let so := d.ws o
      let had := so.early.any (fun x => x.id == i.id)
      let holds := (so.crit ++ so.wait ++ so.cores.map (·.2.item)).any (fun x => x.id == i.id)
      let d := d.modWs o (fun s => { s with
        early := s.early.filter (fun x => x.id != i.id), applied := if holds && !had then s.applied ++ [i.id] else s.applied })
      (d.perform i.work).performReady f

/-! Completion (R530, R538, R539, R543, R56, R57). -/

/-- Lateness of a regular item that completes now: wingbeat boundaries from its deadline on, at most 255, with whether it was more. (DEDUCED: notes/assumptions/122) -/
def Dev.lateness (d : Dev) (i : Item) : Nat × Bool :=
  let dl := i.boundary + i.deadline
  let l := d.wbSeq + b2n (decide (boundaryAt d.rate d.nextGrid.1 d.nextGrid.2 < d.tim.out)) + 1 - dl
  if i.cls = 1 && 0 < l then (min l 255, decide (255 < l)) else (0, false)

/-- Bin of the lateness histogram (R563). -/
def lateHistBin (l : Nat) : Nat :=
  if l ≤ 1 then 0 else if l = 2 then 1 else if l ≤ 4 then 2 else if l ≤ 8 then 3 else if l ≤ 16 then 4 else if l ≤ 64 then 5 else if l ≤ 254 then 6 else 7

/-- The lateness of an item enters the statistics of a wing. (DEDUCED: notes/assumptions/122) -/
def Dev.noteLate (d : Dev) (w late : Nat) (sat : Bool) : Dev :=
  if late = 0 then d
  else
    let d := ((d.inc (wingAddr w (Reg.SCH_CLASS_LATE_CNT 1)) 1).inc (wingAddr w (Reg.SCH_LATE_HIST (lateHistBin late))) 1).raise (wingAddr w Reg.SCH_INT_STATUS) 1
    let d := if sat then (d.inc (wingAddr w Reg.SCH_LATE_SAT_CNT) 1).raise (wingAddr w Reg.SCH_INT_STATUS) 2 else d
    d.modWs w (fun s => { s with late := s.late + 1, lateMax := max s.lateMax late, lateSat := s.lateSat + b2n sat })

/-- A critical item that completes now has overrun: its completion is stamped at or after its deadline boundary (R55, R58), whose actions have yet to run. -/
def Dev.completesLate (d : Dev) (i : Item) : Bool := i.cls == 0 && i.boundary == d.wbSeq && d.boundaryDue

/-- ITEM_COMPLETE: the item on a core of a wing ends, having used a number of cycles, with a STATUS of R530. (DEDUCED: notes/assumptions/121) -/
def Dev.itemComplete (d : Dev) (w core cycles status : Nat) : Dev :=
  match (d.ws w).cores.find? (fun c => c.1 == core) with
  | none => d
  | some (_, r) =>
    let i := r.item
    let st := if status = 0 && d.badArgs i.work then 4 else status
    let dt := d.tim.clk - max r.start d.sch.openClk
    let d := d.modWs w (fun s => { s with
      cores := tdel s.cores core
      busy := tset 0 s.busy core (tget 0 s.busy core + dt)
      doneC := s.doneC + b2n (i.cls == 0), doneR := s.doneR + b2n (i.cls == 1), doneD := s.doneD + b2n (i.cls == 2)
      critEnd := if i.cls = 0 then d.tim.clk else s.critEnd })
    let d := (d.incW (wingAddr w (Reg.SCH_CLASS_DONE i.cls)) 1).incW (wingAddr w (Reg.SCH_CORE_ITEMS core)) 1
    let d := if st = 5 then d.inc (wingAddr w (Reg.SCH_CORE_MEM_ERR_CNT core)) 1 else d
    let d := if st = 6 then d.raise (wingAddr w Reg.SCH_INT_STATUS) 6 else d
    let (late, sat) := d.lateness i
    let d := d.noteLate w late sat
    let d := if i.cls = 0 then d
      else
        d.modWs w (fun s => { s with deficit := tset 0 s.deficit i.list (tget 0 s.deficit i.list + ((i.wc : Int) - cycles)) })
    let e := d.compEntry i.cookie i.kernel st late cycles
    let d := if i.comp then (d.qPush w i.compq 2 0 none [BitVec.ofNat 64 (leAt e 0 8), BitVec.ofNat 64 (leAt e 8 8)]).2 else d
    let d := match i.host with | some (r, idx) => d.hostDone r idx e (!i.comp && st == 0) | none => d
    let d := if i.cls = 0 && (st != 0 || d.completesLate i) then d.modWs w (fun s => { s with failed := s.failed ++ [i] }) else d
    let d :=
      if st ≠ 0 then d
      else if (d.ws w).applied.contains i.id then d.modWs w (fun s => { s with applied := s.applied.filter (· != i.id) })
      else d.modWs w (fun s => { s with early := s.early ++ [i] })
    let d := if w = d.active then d.performReady 65536 else d
    (d.busyCheck).dispatch w

/-! Critical overrun (R58 to R61, R539, R758). -/

/-- Critical items of a wing released in a wingbeat that have not completed with OK strictly before its closing boundary (R58, R59). -/
def Dev.overran (d : Dev) (w n : Nat) : List Item :=
  if d.runsWork w then (((d.ws w).openCrit ++ (d.ws w).failed).filter (fun i =>
    i.boundary == n || (i.boundary < n && decide (d.sch.openClk ≤ i.release)))).mergeSort (fun a b => !b.before a) else []

/-- An overrun of a wing: its record, counts and flag. -/
def Dev.overrunNote (d : Dev) (w : Nat) (l : List Item) : Dev :=
  match l with
  | [] => d
  | i :: _ =>
    let d := d.recordLocal w 0x0C01 (be 1 w ++ zeros 1 ++ be 2 i.kernel ++ be 2 i.index ++ zeros 2 ++ be 8 (i.work.slot.getD i.boundary))
    let d := (d.inc (wingAddr w Reg.SCH_OVERRUN_CNT) l.length).inc (wingAddr w (Reg.SCH_CLASS_LATE_CNT 0)) l.length
    (d.raise (wingAddr w Reg.SCH_INT_STATUS) 0).modWs w (fun s => { s with overrun := true })

/-- Kernels of the safety functions, and the kind of the objects that each decides (R753). (DEDUCED: notes/assumptions/112) -/
def safetyKernel (k : Nat) : Option Nat := if k = 0x14 then some 0 else if k = 0x11 then some 1 else if k = 0x12 then some 2 else none

/-- CRITICAL_OVERRUN: action 1 at the closing boundary of wingbeat n. Did a wing overrun? (DEDUCED: notes/assumptions/112) -/
def Dev.overrunCheck (d : Dev) (n : Nat) : Bool × Dev :=
  let a := d.active
  let la := d.overran a n
  let ls := d.overran (1 - a) n
  let sby := d.hasStandby
  let d := (d.overrunNote a la).overrunNote (1 - a) ls
  let d := (d.modWs 0 (fun s => { s with failed := [] })).modWs 1 (fun s => { s with failed := [] })
  let was := d.saf.common
  let both := sby && la != [] && ls != []
  let same := if both then ((la.map (·.kernel)).filter (fun k => (ls.map (·.kernel)).contains k)).eraseDups else []
  let d := { d with saf := { d.saf with common := same, bothOver := both } }
  let d := if !both then d.causeGone 0
    else d.safetyObjects.foldl (fun (d : Dev) k => d.causePresent k 0 ((la ++ ls).any (fun x => safetyKernel x.kernel == some (k / 65536)))) d
  let d := if same.any (fun k => (safetyKernel k).isSome && was.contains k) then d.enterSafe 2 else d
  let d :=
    if la != [] && ls = [] then d.wingFaultAt a 3 true
    else if la = [] && ls != [] then d.wingFaultAt (1 - a) 3 true
    else d
  (la != [] || ls != [], d.reviewRun)

/-- The standby's digest has not arrived by its boundary: a critical overrun of the standby (R720). -/
def Dev.digestMissing (d : Dev) (n : Nat) : Dev :=
  let w := 1 - d.active
  let d := d.recordLocal w 0x0C01 (be 1 w ++ zeros 1 ++ be 2 0x13 ++ zeros 4 ++ be 8 n)
  let d := (d.inc (wingAddr w Reg.SCH_OVERRUN_CNT) 1).inc (wingAddr w (Reg.SCH_CLASS_LATE_CNT 0)) 1
  ((d.raise (wingAddr w Reg.SCH_INT_STATUS) 0).modWs w (fun s => { s with overrun := true })).wingFault w 3

/-! Power (R546 to R553). -/

/-- The allowance A in nJ per 100 µs: PWR_LIMIT × d (R547). -/
def allowNj (limit derate : Nat) (t : Int) : Nat :=
  if t < derate || 1050 ≤ derate then (if t < 1050 then limit * 10000 else limit * 5000)
  else if 1050 ≤ t then limit * 5000
  else (rdiv ((limit * 10000 : Nat) * ((2 * (1050 - derate) : Nat) - (t - derate))) (2 * (1050 - derate))).toNat

/-- NECTAR (R553). -/
def Dev.nectarRecord (d : Dev) : Dev :=
  let now (d : Dev) : Dev :=
    ({ d with sch := { d.sch with nectarAt := some d.tim.clk, nectarDue := false } }).record 0x0C10
      (be 1 d.sch.level ++ zeros 3 ++ beI 4 (rdiv d.sch.nectar 1000000) ++ be 2 d.sch.allow ++ zeros 6)
  match d.sch.nectarAt with
  | some c => if ticksSec 1 ≤ d.tim.clk - c then now d else d
  | none => now d

/-- TJ_MAX shows whether a die is at 105 °C or above (R550). (DEDUCED: notes/assumptions/125) -/
def Dev.tjReview (d : Dev) (temps : List Int) : Dev := if temps.all (· < 1050) then d.putB Reg.PWR_STATUS 4 false else d

/-- NECTAR_TICK: module power over the tick in mW, and the temperatures of the sensors of R565 in 0.1 °C. (DESIGN CHOICE: notes/assumptions/124) -/
def Dev.nectarTick (d : Dev) (power : Nat) (temps : List Int) : Dev :=
  let hot := max (temps.getD 0 0) (temps.getD 1 0)
  let derate := d.rdN Reg.PWR_T_DERATE
  let a := allowNj (d.rdN Reg.PWR_LIMIT) derate hot
  let cap : Int := (d.rdN Reg.PWR_NECTAR_CAP * 1000000 : Nat)
  let e := power * 100
  let n := clampI (- cap) cap (d.sch.nectar + a - e)
  let low : Int := (d.rdN Reg.PWR_NECTAR_LOW * 1000000 : Nat)
  let lvl := if low ≤ n then 0 else if 0 ≤ n then 1 else 2
  let was := d.sch.level
  let all := temps.foldl max hot
  let d := { d with sch := { d.sch with
    nectar := n, level := lvl, allow := rdivN a 10000, tempMax := all, wbEnergy := d.sch.wbEnergy + e, energy := d.sch.energy + e
    lowSeen := d.sch.lowSeen || lvl == 1, shortSeen := d.sch.shortSeen || lvl == 2
    powSum := d.sch.powSum + power, powCnt := d.sch.powCnt + 1 } }
  let d := if d.sch.powCnt < 1000 then d
    else { d.wrN Reg.PWR_POWER (rdivN d.sch.powSum 100000) with sch := { d.sch with powSum := 0, powCnt := 0 } }
  let d := d.wr Reg.PWR_TEMP_MAX (w32i hot)
  let der := decide (a < d.rdN Reg.PWR_LIMIT * 10000)
  let d := if der && !d.flag Reg.PWR_STATUS 3 then d.raise Reg.PWR_INT_STATUS 1 else d
  let d := (d.putB Reg.PWR_STATUS 3 der).tjReview temps
  let d := if lvl = was then d else ({ d with sch := { d.sch with nectarDue := true } }).raise Reg.PWR_INT_STATUS 0
  let d := if d.sch.nectarDue then d.nectarRecord else d
  d.dispatchAll

/-- TJ_MAX: a sensor is at 105 °C or above (R550). (DEDUCED: notes/assumptions/125) -/
def Dev.tjMax (d : Dev) (sensor : Nat) (temp : Int) : Dev :=
  if d.flag Reg.PWR_STATUS 4 || temp < 1050 then d
  else (((d.putB Reg.PWR_STATUS 4 true).raise Reg.PWR_INT_STATUS 2).record 0x0C12 (be 1 sensor ++ zeros 1 ++ beI 2 (clampS 16 temp) ++ zeros 12)).dispatchAll

/-- AF of R554 times 10^6, from a mean temperature in 0.1 °C; k is that temperature in 0.01 K. (DESIGN CHOICE: notes/assumptions/147) -/
def wearAF (t : Int) : Nat :=
  let k := (10 * t + 27315).toNat
  if k ≤ 36315 then (rdiv (Config.expNeg (812350 * (36315 - k)) (36315 * k) * 1000000) (2 ^ 32)).toNat
  else (rdiv (1000000 * 2 ^ 32) (Config.expNeg (812350 * (k - 36315)) (36315 * k)).toNat).toNat

/-- WEAR_SECOND: the mean temperatures of a powered second (R554). (DESIGN CHOICE: notes/assumptions/147) -/
def Dev.wearSecond (d : Dev) (temps : List Int) : Dev :=
  let d := foldUp 9 (fun s d => d.wr (Reg.PWR_TEMP s) (w32i (temps.getD s 0))) d
  { d with sch := { d.sch with
      hourSec := d.sch.hourSec + 1
      hours := d.sch.hours.map (· + 1)
      eq := d.sch.eq.zipIdx.map (fun x => x.1 + wearAF (temps.getD x.2 0)) } }

/-- The ledger is written to both copies (R555). (DEDUCED: notes/assumptions/126) -/
def Dev.ledgerWrite (d : Dev) : Dev := { d with nv := { d.nv with wearHours := d.sch.hours, wearEq := d.sch.eq } }

/-- HOURS, EQ and AHEAD of a wing in 0.01 h. -/
def Dev.wearOf (d : Dev) (w : Nat) : Nat × Nat × Int :=
  let h := d.sch.hours.getD w 0
  let e := d.sch.eq.getD w 0
  (rdivN h 36, rdivN e 36000000, rdiv ((e : Int) - h * 1000000) 36000000)

/-- WEAR_HOUR: the hourly write and the wear cap of each wing (R555, R556). -/
def Dev.wearHour (d : Dev) : Dev :=
  if d.sch.hourSec < 3600 then d
  else
    let d := ({ d with sch := { d.sch with hourSec := d.sch.hourSec - 3600 } }).ledgerWrite
    foldUp 2 (fun w d =>
      let ahead : Int := (d.sch.eq.getD w 0 : Int) - (d.sch.hours.getD w 0 * 1000000 : Nat)
      let cap := d.rdN (Reg.PWR_WEAR_CAP w)
      let new := if 500 * 3600 * 1000000 < ahead then max 800 (cap - 100) else if ahead ≤ 0 then min 1600 (cap + 100) else cap
      if new = cap then d
      else
        let (h, e, a) := d.wearOf w
        ((d.wrN (Reg.PWR_WEAR_CAP w) new).record 0x0C11 (be 1 w ++ zeros 1 ++ be 2 new ++ beI 4 a ++ be 4 e ++ be 4 h)).raise Reg.PWR_INT_STATUS 3) d

/-! Statistics (R558, R559). -/

/-- Busy ticks of a core in the wingbeat that closes now. -/
def Dev.busyTicks (d : Dev) (w k : Nat) : Nat :=
  tget 0 (d.ws w).busy k + (match (d.ws w).cores.find? (fun c => c.1 == k) with | some (_, r) => d.tim.clk - max r.start d.sch.openClk | none => 0)

/-- A number of ticks in 2^−16 of the wingbeat that closes now. -/
def Dev.fraction (d : Dev) (t : Nat) : Nat := let n := d.tim.clk - d.sch.openClk; if n = 0 then 0 else min 65535 (t * 65536 / n)

/-- ns from the opening boundary to the last critical completion. -/
def Dev.critEndNs (d : Dev) (w : Nat) : Nat := ((d.ws w).critEnd - d.sch.openClk) * 5 / 2

/-- The 128 bytes of the statistics record of a wing for wingbeat n. -/
def Dev.statsBytes (d : Dev) (w n : Nat) : Bytes :=
  let s := d.ws w
  let dm (c : Nat) := min 65535 (tget 0 s.depthMax c)
  le 8 n ++ le 1 w ++ le 1 (b2n s.overrun + 2 * b2n d.sch.lowSeen + 4 * b2n d.sch.shortSeen + 8 * b2n (decide (d.rdN (Reg.PWR_WEAR_CAP w) < 1600))
      + 16 * b2n (d.flag Reg.PWR_STATUS 3))
    ++ le 2 (cx 16 d.sch.tempMax) ++ le 4 (cx 32 (rdiv d.sch.nectar 1000000)) ++ le 4 (rdivN d.sch.wbEnergy 1000) ++ le 4 (d.critEndNs w)
    ++ le 2 (d.clockOf w 1 3) ++ le 2 (if d.deferRuns w then d.clockOf w 2 3 else 0) ++ le 2 (dm 0) ++ le 2 (dm 1) ++ le 2 (dm 2) ++ zeros 2
    ++ le 4 s.doneC ++ le 4 s.doneR ++ le 4 s.doneD ++ le 4 s.late ++ le 2 s.lateMax ++ le 2 (min 65535 s.lateSat)
    ++ (List.range 8).flatMap (fun b => le 4 (tget 0 s.hist b)) ++ (List.range 16).flatMap (fun k => le 2 (d.fraction (d.busyTicks w k))) ++ zeros 8

/-- STATISTICS_RECORD of a wing for wingbeat n. (DEDUCED: notes/assumptions/123) -/
def Dev.statsWrite (d : Dev) (w n : Nat) : Dev :=
  let b := d.statsBytes w n
  let size := d.rdN Reg.SCH_STATS_SIZE
  let head := d.rdN Reg.SCH_STATS_HEAD
  let d := if size = 0 then d
    else if d.dma && 128 ≤ ringRoom size head (d.rdN Reg.SCH_STATS_TAIL) then
      (d.ringWrite (d.rd64 Reg.SCH_STATS_BASE_LO Reg.SCH_STATS_BASE_HI) size head b).wrBoth Reg.SCH_STATS_HEAD ((head + 128) % size)
    else (d.inc (wingAddr w Reg.SCH_STATS_DROP_CNT) 1).raise (wingAddr w Reg.SCH_INT_STATUS) 5
  let d := (d.wrN (wingAddr w Reg.SCH_CRIT_END) (d.critEndNs w)).wrMax (wingAddr w Reg.SCH_CRIT_END_MAX) (d.critEndNs w)
  let d := foldUp 16 (fun k d => d.wrN (wingAddr w (Reg.SCH_CORE_LOAD k)) (d.fraction (d.busyTicks w k))) d
  d.modWs w (fun s => { s with overrun := false, doneC := 0, doneR := 0, doneD := 0, late := 0, lateMax := 0, lateSat := 0, hist := [], depthMax := [], busy := [] })

/-- Action 6 of R62: every wing that runs writes its record, as does one faulted by its overrun at this boundary (R60), and a new wingbeat's statistics begin. (DEDUCED: notes/assumptions/123) -/
def Dev.statsAll (d : Dev) (n : Nat) : Dev :=
  let d := foldUp 2 (fun w d => if d.runsWork w || (d.ws w).overrun then d.statsWrite w n else d) d
  let lv := d.sch.level
  { d with sch := { d.sch with openClk := d.tim.clk, wbEnergy := 0, lowSeen := lv == 1, shortSeen := lv == 2 } }

/-! Registers (R562 to R566). -/

/-- State code of an item's class on a core, and its clock; CLK names the step at or above a clock lowered to the wear cap (R564). (DEDUCED: notes/assumptions/187) -/
def Running.code (r : Running) : Nat := r.item.cls + 1 + 4 * (if 1200 < r.mhz then 0 else if 800 < r.mhz then 1 else 2) + 65536 * r.item.kernel

/-- Registers of the SCH block of a wing that show its state. (DEDUCED: notes/assumptions/75) -/
def Dev.schReg (d : Dev) (w a : Nat) : Option Word :=
  let s := d.ws w
  let sel := d.fld Reg.SCH_CAT_SEL 15 0
  if a = Reg.SCH_STATUS then
    some (w32 (b2n (s.openCrit != []) + 2 ^ 16 * s.cores.length + 2 ^ 24 * (s.cores.filter (fun c => c.2.item.cls == 0)).length))
  else if a = Reg.SCH_PATCH_CNT then some (w32 (d.recs 0x0C04).length)
  else if a = Reg.SCH_CAT_INFO then
    some (match d.kernel sel with | some k => w32 (1 + 2 * b2n k.patched + 4 * k.classes + 65536 * k.version) | none => 0)
  else if a = Reg.SCH_CAT_WC_FIX then some (w32 (((d.kernel sel).map (·.fix)).getD 0))
  else if a = Reg.SCH_CAT_WC_VAR then some (w32 (((d.kernel sel).map (·.var)).getD 0))
  else if Reg.SCH_CLASS_DEPTH 0 ≤ a && a < Reg.SCH_CLASS_DEPTH 3 && (a - Reg.SCH_CLASS_DEPTH 0) % 16 = 0 then
    some (w32 (s.depth ((a - Reg.SCH_CLASS_DEPTH 0) / 16)))
  else if Reg.SCH_RL_CFG 0 ≤ a && a < Reg.SCH_RL_CFG 64 then
    let i := (a - Reg.SCH_RL_CFG 0) / 16
    match (a - Reg.SCH_RL_CFG 0) % 16 with
    | 4 => some (w32 ((s.wait.filter (fun x => x.list == i)).length))
    | 8 => some (w32i (tget 0 s.deficit i / 1024))
    | _ => none
  else if Reg.SCH_CORE_STATUS 0 ≤ a && a < Reg.SCH_CORE_STATUS 16 && (a - Reg.SCH_CORE_STATUS 0) % 16 = 0 then
    some (match s.cores.find? (fun c => c.1 == (a - Reg.SCH_CORE_STATUS 0) / 16) with | some (_, r) => w32 r.code | none => 0)
  else none

/-- Registers of the PWR block that show its state; the clocks are those of the wing selected. (DEDUCED: notes/assumptions/14) -/
def Dev.pwrReg (d : Dev) (w a : Nat) : Option Word :=
  if a = Reg.PWR_STATUS then
    some (w32 (d.sch.level + 4 * b2n (!d.deferRuns w) + 8 * b2n (d.flag a 3) + 16 * b2n (d.flag a 4) + 32 * b2n d.pins.pwrfailLow
      + 64 * b2n (decide (d.rdN (Reg.PWR_WEAR_CAP 0) < 1600) || decide (d.rdN (Reg.PWR_WEAR_CAP 1) < 1600)) + 65536 * d.sch.allow))
  else if a = Reg.PWR_NECTAR then some (w32i (rdiv d.sch.nectar 1000000))
  else if a = Reg.PWR_CLK then some (w32 (d.clockOf w 1 0 + 65536 * d.clockOf w 1 3))
  else if a = Reg.PWR_ENERGY_LO then some (w32 (d.sch.energy / 1000000000))
  else if a = Reg.PWR_ENERGY_HI then some (w32 (d.sch.energy / 1000000000 / 2 ^ 32))
  else (List.range 2).findSome? (fun v =>
    let (h, e, ah) := d.wearOf v
    if a = Reg.PWR_WEAR_HOURS v then some (w32 h) else if a = Reg.PWR_WEAR_EQ v then some (w32 e)
    else if a = Reg.PWR_WEAR_AHEAD v then some (w32i ah) else none)

end Sys2Proof.Machine
end

