-- ==== Sys2Proof/Machine/Lock.lean ====
section
/-! DEFINITION. Sys2Proof/Machine/Lock.lean: entry to RUN and the first claim, the first lock of a power epoch and the transitional
wingbeat, and the grid's advance (R39, R47 to R54, R78, R105, R254, R711, R736, R850). -/

namespace Sys2Proof.Machine

/-- Entry to RUN (R39, R711, R736): the units' health decides whether the device is DEGRADED; twin A claims at once, twin B waits. -/
def Dev.enterRun (d : Dev) : Dev :=
  if (d.boot = 4 || d.boot = 6) && d.tim.lockedOnce then
    let d := (d.setBoot 5).reviewRun
    let d := { d with units := { d.units with runAt := d.tim.clk } }
    if d.twinId = 0 && d.units.holder.isNone then d.firstClaim.beaconSend else d
  else d

/-- The first boundary of the absolute grid that lies at or after a time in units. (DESIGN CHOICE: notes/assumptions/38) -/
def absBoundary (rate t : Nat) : Nat × Nat :=
  let s := t / unitSec
  match (List.range rate).find? (fun k => decide (t ≤ boundaryAt rate s k)) with
  | some k => (s, k)
  | none => (s + 1, 0)

/-- The last boundary of the grid at or before a time in units. -/
def lastBoundary (rate t : Nat) : Nat × Nat :=
  let s := t / unitSec
  (s, (((List.range rate).reverse).find? (fun k => decide (boundaryAt rate s k ≤ t))).getD 0)

/-- A payload time of R78: seconds in 6 bytes, ns in 4. -/
def secNs (u : Nat) : Bytes := be 6 (u / unitSec) ++ be 4 (u / unitNs % 1000000000)

/-- The first lock of a power epoch, of domain k (R53, R54, R78, R105, R254): output time loaded, stored estimates moved, transitional wingbeat set,
LOCK record written, and the device in RUN. (DEDUCED: notes/assumptions/35) -/
def Dev.firstLock (d : Dev) (k : Nat) : Dev :=
  let e := d.elapsed
  let v := (d.dom k).val
  let delta : Int := (v : Int) - d.tim.out
  let d := { d with tim := { d.tim with lockedOnce := true, sel := k, out := v } }
  let d := d.rereference delta
  let rate := d.rate
  let g := d.grid
  let next := nextBoundary rate g.sec g.k
  let open' := boundaryAt rate g.sec g.k
  let full : Int := boundaryAt rate next.1 next.2 + delta
  let close := absBoundary rate full.toNat
  let closeAt := boundaryAt rate close.1 close.2
  let closeEl : Int := (closeAt / unitNs : Nat) - ((v / unitNs : Nat) - (e / unitNs : Nat))
  let d := if rate = 0 then d else { d with grid := { d.grid with trans := some close } }
  let d := d.record 0x0301 (be 4 d.nv.powerEpoch ++ secNs e ++ secNs v ++ be 1 k ++ be 1 (d.domSrc k) ++ beI 2 d.leapOfs
    ++ secNs open' ++ secNs closeAt ++ be 8 closeEl.toNat)
  let d := foldUp 64 (fun v (d : Dev) => d.vcFlag v 1 false) d
  d.reviewSwitch.enterRun

/-- Has a domain just locked for the first time in the power epoch (R105)? The output time is loaded from it on the next tick, which has come when
the command ends. (DEDUCED: notes/assumptions/35) -/
def Dev.lockCheck (d : Dev) : Dev :=
  if d.tim.lockedOnce then d
  else if d.tim.domA.st = .locked then (d.tick (d.tim.clk + 1)).firstLock 0
  else if d.tim.domB.st = .locked then (d.tick (d.tim.clk + 1)).firstLock 1
  else d

/-- The grid starts on elapsed time when a configuration with a rate takes force (R52). (DESIGN CHOICE: notes/assumptions/38) -/
def Dev.gridStart (d : Dev) : Dev :=
  if d.rate = 0 then d
  else
    let b := lastBoundary d.rate d.tim.out
    { d with grid := ⟨b.1, b.2, d.tim.lockedOnce, none, []⟩, sch := { d.sch with openClk := d.tim.clk } }

/-- The boundary that falls now: the next of the grid, or the end of the transitional wingbeat (R53). (DESIGN CHOICE: notes/assumptions/38; DEDUCED: notes/assumptions/165) -/
def Dev.gridStep (d : Dev) : Dev :=
  { d with grid := ⟨d.nextGrid.1, d.nextGrid.2, d.grid.absolute || d.grid.trans.isSome, none, d.grid.tqs⟩ }

/-- The time quality and the SLEW of the boundary that has just fallen are kept for what carries them later (R115, R260, R391, R411). -/
def Dev.gridNote (d : Dev) : Dev :=
  { d with grid := { d.grid with tqs := ((d.wbSeq, (d.tq, d.tim.slew.isSome)) :: d.grid.tqs).take 512 } }

/-- Work items keep their distance in boundaries when the numbering of wingbeats jumps at the end of the transitional wingbeat (R53, R56): `n` is the
wingbeat that closes. (DEDUCED: notes/assumptions/165) -/
def Dev.moveItems (d : Dev) (n : Nat) : Dev :=
  if d.wbSeq = n + 1 then d
  else
    let mv (i : Item) : Item := { i with boundary := i.boundary + d.wbSeq - (n + 1) }
    foldUp 2 (fun w d => d.modWs w (fun s => { s with
      crit := s.crit.map mv, wait := s.wait.map mv, early := s.early.map mv, failed := s.failed.map mv
      cores := s.cores.map (fun c => (c.1, { c.2 with item := mv c.2.item })) })) d

end Sys2Proof.Machine
end

