-- ==== Sys2Proof/Machine/Tst.lean ====
section
/-! DEFINITION. Sys2Proof/Machine/Tst.lean: test loop-backs of ports, lanes, quadrants, the PCIe endpoint and PPS, their generators and checkers, and the
registers of the TST block (chapter 23). -/

namespace Sys2Proof.Machine

/-- A loop-back changed. -/
def Dev.modLoop (d : Dev) (kind idx : Nat) (f : Loop → Loop) : Dev :=
  { d with tst := { d.tst with loops := tset Loop.start d.tst.loops (256 * kind + idx) (f (d.loop kind idx)) } }

/-! Patterns (R878, R884). -/

/-- One bit of PRBS-31, x^31 + x^28 + 1, from its 31-bit register. (PRESUMED: notes/assumptions/26) -/
def prbsBit (s : Nat) : Nat := (s / 2 ^ 30 + s / 2 ^ 27) % 2

/-- Eight bits of the sequence, first bit first, and the register after them. -/
def prbsByte : Nat → Nat → Nat → Nat × Nat
  | 0, s, v => (v, s)
  | n + 1, s, v => let b := prbsBit s; prbsByte n (s * 2 % 2 ^ 31 + b) (2 * v + b)

/-- Bytes of PRBS-31 from a register of ones. -/
def prbsFrom : Nat → Nat → Bytes
  | 0, _ => []
  | n + 1, s => let (v, s) := prbsByte 8 s 0; BitVec.ofNat 8 v :: prbsFrom n s

/-- A PRBS-31 payload. (PRESUMED: notes/assumptions/26) -/
def prbs31 (n : Nat) : Bytes := prbsFrom n (2 ^ 31 - 1)

/-- Frame k of a port's generator without its FCS. (DESIGN CHOICE: notes/assumptions/27) -/
def Dev.genFrame (d : Dev) (p len k : Nat) : Bytes :=
  be 6 (d.mac p) ++ be 6 (d.mac p) ++ be 2 0x88B5 ++ be 4 (Config.genFirst + k) ++ prbs31 (len - 22)

/-! Outcome of a write, records, interrupts. -/

/-- LAST (R874). -/
def Dev.lbLast (d : Dev) (v : Nat) : Dev := d.putF Reg.TST_LB_RESULT 2 0 v

/-- A refused write: 2 BUSY, 3 BAD_MODE, 4 NOT_COVERED, 5 IN_USE, 6 NOT_PROD. -/
def Dev.lbRefuse (d : Dev) (v : Nat) : Dev := (d.lbLast v).raise Reg.TST_INT_STATUS 3

/-- TST_LOOP (R892). -/
def Dev.loopRecord (d : Dev) (kind idx mode : Nat) (start : Bool) (cause : Nat) (ovr : Bool) : Dev :=
  d.record 0x1501 (be 1 kind ++ be 1 idx ++ be 1 mode ++ be 1 (b2n start) ++ be 1 cause ++ be 1 (b2n ovr) ++ zeros 2 ++ be 8 d.wbSeq)

/-- TST_RESULT (R892): DONE is raised, and FAIL besides where the test does not pass. -/
def Dev.loopResult (d : Dev) (kind idx : Nat) (pass : Bool) (sent rx err : Nat) : Dev :=
  (d.record 0x1502 (be 1 kind ++ be 1 idx ++ be 1 (b2n pass) ++ zeros 1 ++ be 4 sent ++ be 4 rx ++ be 4 err)).raise Reg.TST_INT_STATUS 0 |>
    fun (d : Dev) => if pass then d else d.raise Reg.TST_INT_STATUS 1

/-! The generator and the checker of a port (R878, R879). -/

/-- A generator as kept, none while there is none. -/
def Dev.gen (d : Dev) (p : Nat) : Option LoopGen := (d.tst.gens.find? (fun x => x.1 == p)).map (·.2)

/-- A generator set or removed. -/
def Dev.setGen (d : Dev) (p : Nat) (g : Option LoopGen) : Dev :=
  { d with tst := { d.tst with gens := match g with | some x => tput d.tst.gens p x | none => tdel d.tst.gens p } }

/-- The next frame of a generator starts, or its last one has left. -/
def Dev.genStep (d : Dev) (p : Nat) : Dev :=
  match d.gen p with
  | none => d
  | some g =>
    if g.lastAt.isSome then d
    else if g.sent < g.count then (d.setGen p (some { g with sent := g.sent + 1 })).emit (.frame p (d.genFrame p g.len g.sent))
    else d.setGen p (some { g with lastAt := some d.tim.clk })

/-- START: a generator for COUNT frames of LEN bytes; it begins with the loop-back, or at once in one that runs. (DEDUCED: notes/assumptions/141) -/
def Dev.genStart (d : Dev) (p : Nat) : Dev :=
  let d := d.setGen p (some ⟨d.fld (Reg.TST_PORT_GEN p) 31 16, d.fld (Reg.TST_PORT_GEN p) 13 0, 0, 0, none⟩)
  let d := ((d.wr (Reg.TST_PORT_RX_CNT p) 0).wr (Reg.TST_PORT_ERR_CNT p) 0).putF (Reg.TST_PORT_STATUS p) 6 5 0
  if d.portLoop p = 0 then d else d.genStep p

/-- A frame that comes back to a port in loop-back: reflected frames are counted, generated ones checked. -/
def Dev.loopReceived (d : Dev) (p : Nat) (b : Bytes) (fcsOk : Bool) : Dev :=
  if d.portLoop p = 4 then d.inc (Reg.TST_PORT_RX_CNT p) 1
  else
    match d.gen p with
    | none => d.inc (Reg.TST_PORT_ERR_CNT p) 1
    | some g =>
      let k := (beAt b 14 4 + 2 ^ 32 - Config.genFirst % 2 ^ 32) % 2 ^ 32
      if fcsOk && g.next ≤ k && k < g.sent && b == d.genFrame p g.len k then
        let d := if k = g.next then d else d.inc (Reg.TST_PORT_ERR_CNT p) 1
        (d.setGen p (some { g with next := k + 1 })).inc (Reg.TST_PORT_RX_CNT p) 1
      else d.inc (Reg.TST_PORT_ERR_CNT p) 1

/-- LOOP_DONE: 1 ms after the last frame has left. -/
def Dev.loopDone (d : Dev) (p : Nat) : Dev :=
  match d.gen p with
  | some g =>
    match g.lastAt with
    | some c =>
      if c + ticksMs 1 ≤ d.tim.clk then
        let rx := d.rdN (Reg.TST_PORT_RX_CNT p)
        let err := d.rdN (Reg.TST_PORT_ERR_CNT p)
        let pass := rx == g.count && err == 0
        (((d.setGen p none).putB (Reg.TST_PORT_STATUS p) 5 true).putB (Reg.TST_PORT_STATUS p) 6 pass).loopResult 0 p pass g.sent rx err
      else d
    | none => d
  | none => d

/-! Start and end of a loop-back (R871 to R873). -/

/-- Channels named for a quadrant (R880). (DEDUCED: notes/assumptions/141) -/
def Dev.quadMask (d : Dev) (q : Nat) : Nat := d.rdN (Reg.TST_Q_CH_LO q) + 2 ^ 32 * d.fld (Reg.TST_Q_CH_HI q) 15 0

/-- SETTLE begins on the channels under test, but in production mode (R882). -/
def Dev.quadSettle (d : Dev) (q mask : Nat) : Dev :=
  if d.flag Reg.TST_CTL 0 then d else foldUp 48 (fun j (d : Dev) => if mask.testBit j then d.settleStart (48 * q + j) else d) d

/-- A pattern frame on a lane in loop-back (R884). -/
def Dev.ozPatternSend (d : Dev) (l : Nat) : Dev := (d.inc (Reg.TST_OZ_TX_CNT l) 1).ozSend l 0x7F (prbs31 (Config.ozPattern % 8193)) |>.2

/-- A frame that comes back to a lane in loop-back (R884). -/
def Dev.ozPatternReceived (d : Dev) (l : Nat) (b : Bytes) : Dev :=
  let n := beAt b 4 2
  if 20 ≤ b.length && b.length == 20 + n && crc32c (b.take (b.length - 4)) == beAt b (b.length - 4) 4 && byteAt b 3 == 0x7F && (b.drop 16).take n == prbs31 n
  then d.inc (Reg.TST_OZ_RX_CNT l) 1 else d.inc (Reg.TST_OZ_ERR_CNT l) 1

/-- A lane goes down for the pair (R742, R885). -/
def Dev.laneDown (d : Dev) (l : Nat) : Dev :=
  if (d.lane l).up then ((d.modLane l (fun x => { x with up := false })).laneRecord l false).reviewPair.twinFailure else d

/-- What the start of a loop-back does to its object. -/
def Dev.loopBegin (d : Dev) (kind idx : Nat) : Dev :=
  if kind = 0 then
    let d := if (d.gen idx).isSome then d else d.wr (Reg.TST_PORT_RX_CNT idx) 0
    (d.relink idx).genStep idx
  else if kind = 1 then (d.laneDown idx).ozPatternSend idx
  else if kind = 2 then d.quadSettle idx (d.loop 2 idx).mask
  else if kind = 3 then { d with host := { d.host with linkUp := false } }
  else { d with tst := { d.tst with ppsEdges := 0, ppsMax := 0, ppsDone := false } }

/-- What the end of a loop-back does to its object; leaving the PCIe loop is an endpoint reset besides (R886). -/
def Dev.loopFinish (d : Dev) (kind idx mask : Nat) : Dev :=
  if kind = 0 then (d.setGen idx none).relink idx
  else if kind = 2 then d.quadSettle idx mask
  else d

/-- A running loop-back ends: CAUSE 0 host, 1 timeout, 2 repair or reset. (DEDUCED: notes/assumptions/141) -/
def Dev.loopEnd (d : Dev) (kind idx cause : Nat) : Dev :=
  let l := d.loop kind idx
  if l.mode = 0 then d
  else
    let d := d.modLoop kind idx (fun x => { x with mode := 0, req := none, mask := 0 })
    let d := (d.loopRecord kind idx l.mode false cause l.override).loopFinish kind idx l.mask
    if cause = 1 then d.raise Reg.TST_INT_STATUS 2 else d

/-- A loop-back that has been asked for starts. -/
def Dev.loopStart (d : Dev) (kind idx mode : Nat) : Dev :=
  let mask := if kind = 2 then d.quadMask idx else 0
  let d := d.modLoop kind idx (fun x => { x with mode := mode, req := none, at' := d.tim.clk, mask := mask })
  (d.loopRecord kind idx mode true 0 (d.loop kind idx).override).loopBegin kind idx

/-- Objects with a loop-back: ports, lanes, quadrants, the endpoint, PPS. -/
def loopObjects : List (Nat × Nat) :=
  (List.range 8).map (fun p => (0, p)) ++ [(1, 0), (1, 1), (2, 0), (2, 1), (2, 2), (2, 3), (3, 0), (4, 0), (4, 1)]

/-- Action 5 of a boundary: what writes asked for at least 2 µs ago (R871). -/
def Dev.loopBoundary (d : Dev) : Dev :=
  loopObjects.foldl (fun (d : Dev) x =>
    match (d.loop x.1 x.2).req with
    | some (m, c) =>
      if c + ticksUs 2 ≤ d.tim.clk then
        if m = 0 then d.loopEnd x.1 x.2 0 else d.loopStart x.1 x.2 m
      else d
    | none => d) d

/-- LOOP_TIMEOUT: the first wingbeat boundary after TST_TIMEOUT seconds, at whose tick the command comes (R872). -/
def Dev.loopTimeout (d : Dev) (kind idx : Nat) : Dev :=
  let l := d.loop kind idx
  if l.mode != 0 && decide (l.at' + ticksSec (d.fld Reg.TST_TIMEOUT 11 0) ≤ d.tim.clk) then d.loopEnd kind idx 1 else d

/-- A repair ends the loop-backs of a wing's ports (R873). (DEDUCED: notes/assumptions/142) -/
def Dev.loopsOfWing (d : Dev) (w : Nat) : Dev := foldUp 8 (fun p (d : Dev) => if portOwner p = w then d.loopEnd 0 p 2 else d) d

/-- A module reset ends every loop-back (R873). -/
def Dev.loopsReset (d : Dev) : Dev := loopObjects.foldl (fun (d : Dev) x => d.loopEnd x.1 x.2 2) d

/-! Writes (R874 to R888). -/

/-- A write asks for an end, or a mode that has been found applicable: BUSY when another mode runs. (DEDUCED: notes/assumptions/141) -/
def Dev.loopAsk (d : Dev) (kind idx mode : Nat) (covered ovr : Bool) : Bool × Dev :=
  let l := d.loop kind idx
  if mode = 0 then
    (true, (d.modLoop kind idx (fun x => if x.mode = 0 then { x with req := none } else { x with req := some (0, d.tim.clk) })).lbLast 1)
  else if l.mode = mode && l.req.isNone then (true, d)
  else if l.mode != 0 then (false, d.lbRefuse 2)
  else if !covered then (false, d.lbRefuse 4)
  else (true, (d.modLoop kind idx (fun x => { x with req := some (mode, d.tim.clk), override := ovr })).lbLast 0)

/-- Does a port carry a stream, a GOOSE block, a command group or the claim beacon? -/
def Dev.carries (d : Dev) (p : Nat) : Bool :=
  (List.range 64).any (fun s => (d.fld (Reg.ALN_STR_CFG s) 23 16).testBit p && d.flag (Reg.ALN_STR_CFG s) 0)
  || (d.recs 0x0904).any (fun r => (byteAt r.body 1).testBit p && d.flag (Reg.ALN_GO_CFG r.key) 0)
  || (d.recs 0x0B04).any (fun r => (byteAt r.body 20).testBit p && (byteAt r.body 2).testBit 0)
  || (d.flag Reg.WNG_CTL 1 && (d.fld Reg.WNG_BEACON_CFG 7 0).testBit p)

/-- Does a loop-back on a port leave every claim-gated output a path (R877)? -/
def Dev.portCovered (d : Dev) (p : Nat) : Bool := !d.running || !d.carries p || (d.pairActive p && (d.port (if p % 2 = 0 then p + 1 else p - 1)).link)

/-- A write of TST_PORT[p]_CTL. -/
def Dev.portLoopWrite (d : Dev) (p : Nat) (v : Word) : Dev :=
  let m := bits v 2 0
  if m != 0 && !(m == 1 || (p < 4 && 2 ≤ m && m ≤ 4) || (4 ≤ p && m == 5)) then d.lbRefuse 3
  else
    let (ok, d) := d.loopAsk 0 p m (bit v 4 || d.portCovered p) (bit v 4)
    if !ok then d
    else
      let d := d.wrN (Reg.TST_PORT_CTL p) (bits v 2 0 + b2n (bit v 4) * 16)
      if bit v 3 && m != 0 && m != 4 then d.genStart p else d

/-- A write of TST_OZ[l]_CTL. -/
def Dev.ozLoopWrite (d : Dev) (l : Nat) (v : Word) : Dev :=
  let m := bits v 1 0
  if m = 3 then d.lbRefuse 3
  else
    let only := d.units.paired && (d.lane l).up && !(d.lane (1 - l)).up
    let (ok, d) := d.loopAsk 1 l m (bit v 2 || !only) (bit v 2)
    if ok then d.wrN (Reg.TST_OZ_CTL l) (bits v 2 0) else d

/-- A write of TST_Q[q]_CTL. -/
def Dev.quadLoopWrite (d : Dev) (q : Nat) (v : Word) : Dev :=
  let m := bits v 2 0
  if 6 ≤ m then d.lbRefuse 3
  else
    let (ok, d) := d.loopAsk 2 q m true false
    if ok then d.wrN (Reg.TST_Q_CTL q) m else d

/-- A write of TST_PCIE_LB, through the SPI port only (R886). -/
def Dev.pcieLoopWrite (d : Dev) (i : Iface) (v : Word) : Dev :=
  if i = .pcie then d.lbRefuse 5
  else
    let (ok, d) := d.loopAsk 3 0 (bits v 0 0) true false
    if ok then d.wrN Reg.TST_PCIE_LB (bits v 0 0) else d

/-- Pattern errors that the checker of the endpoint finds while it is in loop. (DEDUCED: notes/assumptions/142) -/
def Dev.pcieErrors (d : Dev) (n : Nat) : Dev := if (d.loop 3 0).mode = 0 then d else d.inc Reg.TST_PCIE_ERR_CNT n

/-- A write of TST_PPS_CTL (R887, R888). -/
def Dev.ppsLoopWrite (d : Dev) (v : Word) : Dev :=
  let n := bits v 1 1
  if bit v 0 && (List.range 2).any (fun k => d.domSrc k == 2 && d.domPort k == n) then d.lbRefuse 5
  else if bit v 0 && (d.loop 4 (1 - n)).mode != 0 then d.lbRefuse 2
  else
    let d := if bit v 0 then (d.loopAsk 4 n 1 true false).2 else ((d.loopAsk 4 0 0 true false).2.loopAsk 4 1 0 true false).2
    d.wrN Reg.TST_PPS_CTL (bits v 1 0)

/-- An edge of PPS_IN[n] in the PPS loop: its time less CABLE_DLY less the top of the nearest second (R887). (DEDUCED: notes/assumptions/142) -/
def Dev.ppsLoopEdge (d : Dev) (n : Nat) : Dev :=
  if (d.loop 4 n).mode = 0 then d
  else
    let x : Int := (d.ns : Int) - d.fld (Reg.TIM_PPS_CFG n) 31 16
    let ofs := (x + 500000000) % 1000000000 - 500000000
    let d := ((d.wrS Reg.TST_PPS_OFS ofs).wrMax Reg.TST_PPS_MAX ofs.natAbs).inc Reg.TST_PPS_CNT 1
    let e := d.tst.ppsEdges + 1
    let m := max d.tst.ppsMax ofs.natAbs
    let last := d.tst.ppsDone
    let d := { d with tst := { d.tst with ppsEdges := e, ppsMax := m, ppsDone := last || decide (10 ≤ e) } }
    if 10 ≤ e && !last then d.loopResult 4 n (decide (m ≤ 15)) e e (b2n (decide (15 < m))) else d

/-- A write of TST_CTL: PROD_MODE only under the strap DEBUG_EN (R875). -/
def Dev.prodWrite (d : Dev) (v : Word) : Dev :=
  if bit v 0 && !d.testRoot then (d.wr Reg.TST_CTL 0).lbRefuse 6 else d.wrN Reg.TST_CTL (bits v 0 0)

/-- Readback and command of the AO pins at a flutter boundary (R889). -/
def Dev.aoShow (d : Dev) (sense : Nat) : Dev := (d.wrN Reg.TST_AO_SENSE (sense % 65536)).wrN Reg.TST_AO_CMD (sumN ((List.range 16).map (fun a => b2n (d.aoLevel a) * 2 ^ a)))

/-! Registers (R893, R894). -/

/-- Registers of the TST block that show its state. -/
def Dev.tstReg (d : Dev) (a : Nat) : Option Word :=
  let on (k i : Nat) : Nat := b2n ((d.loop k i).mode != 0)
  let map := sumN ((List.range 8).map (fun p => on 0 p * 2 ^ p)) + 2 ^ 8 * on 1 0 + 2 ^ 9 * on 1 1 + sumN ((List.range 4).map (fun q => on 2 q * 2 ^ (10 + q)))
    + 2 ^ 14 * on 3 0 + 2 ^ 15 * (max (on 4 0) (on 4 1))
  if a = Reg.TST_STATUS then some (w32 (b2n (d.flag Reg.TST_CTL 0) + 2 * b2n (map != 0)))
  else if a = Reg.TST_LOOP_MAP then some (w32 map)
  else if a = Reg.TST_PCIE_STATUS then some (setBits (d.rd a) 0 0 (on 3 0))
  else
    ((List.range 8).find? (fun p => a == Reg.TST_PORT_STATUS p)).map (fun p =>
      let sending := match d.gen p with | some g => g.lastAt.isNone && decide (0 < g.sent) | none => false
      setBits (d.rd a) 4 0 (on 0 p + 2 * (d.loop 0 p).mode + 16 * b2n sending))

end Sys2Proof.Machine
end

