-- ==== Sys2Proof/Machine/Image.lean ====
section
/-! DEFINITION. Sys2Proof/Machine/Image.lean: the chrysalis image (R780 to R785), chains of elements (R789 to R791) and the configuration that an
image, a chain or a transaction makes (R793, R794). -/

namespace Sys2Proof.Machine

/-- A record as an image or a delta carries it: type, DELETE, body and the byte offset of its header. -/
structure ImgRec where
  typ : Nat
  del : Bool
  body : Bytes
  ofs : Nat
  deriving DecidableEq, Repr

/-- A section: its code, REPLACE and its records. -/
structure ImgSec where
  code : Nat
  replace : Bool
  recs : List ImgRec
  deriving DecidableEq, Repr

/-- An image whose container holds (R780, R781). -/
structure Img where
  instar : Nat
  base : Nat
  part : Nat
  partial' : Bool
  devId : Bytes
  secs : List ImgSec
  deriving DecidableEq, Repr

/-- Body lengths of the record types of fixed length (the record tables of chapters 5 to 20). -/
def recLens : List (Nat × Nat) :=
  [(0x0100, 16), (0x0101, 12), (0x0500, 12), (0x0501, 196), (0x0502, 20), (0x0503, 16), (0x0504, 20), (0x0505, 8), (0x0800, 36), (0x0801, 36),
   (0x0802, 12), (0x0803, 45), (0x0804, 8), (0x0805, 4), (0x0900, 40), (0x0901, 28), (0x0902, 36)] ++
  [(0x0904, 215), (0x0905, 4), (0x0906, 12), (0x0A00, 8), (0x0A01, 16), (0x0A02, 36), (0x0B00, 4), (0x0B01, 8), (0x0B02, 68), (0x0B04, 36),
   (0x0C00, 8), (0x0C01, 8), (0x0C02, 8), (0x0C03, 12), (0x0C05, 20), (0x0D00, 36), (0x0E00, 76), (0x0E01, 4), (0x0E02, 136), (0x0E03, 16),
   (0x1300, 12), (0x1301, 4)]

/-- Has a body the length of its record type? -/
def recLenOk (typ : Nat) (b : Bytes) : Bool :=
  if typ = 0x0903 then 4 ≤ b.length && b.length == 4 + beAt b 2 2
  else if typ = 0x0B03 || typ = 0x0B05 then 8 ≤ b.length && b.length == 8 + 4 * beAt b 4 2
  else if typ = 0x0C04 then 20 ≤ b.length && b.length == 84 + beAt b 16 4
  else recLens.contains (typ, b.length)

/-- The number of leading body bytes that hold a record's key (R785). -/
def recKeyLen (typ : Nat) : Nat :=
  if [0x0100, 0x0500, 0x0504, 0x0800, 0x0900, 0x0906, 0x0A00, 0x0B00, 0x0C00, 0x0C05, 0x0E00, 0x1300].contains typ then 0
  else if [0x0505, 0x0803, 0x0805, 0x0901, 0x0904, 0x0A02, 0x0B01, 0x0C01, 0x0E01, 0x0E02, 0x0E03].contains typ then 1
  else if [0x0501, 0x0502, 0x0802, 0x0903, 0x0905, 0x0A01, 0x0B02, 0x0B04, 0x0C02, 0x0C04, 0x0D00].contains typ then 2
  else if [0x0503, 0x0C03].contains typ then 3
  else 4

/-- The key of a record (R785): POINT by bytes 32 to 33, SAFETY_OBJECT by bytes 0 and 2 to 3, TRUST by its port or by its VLAN entry. -/
def recKey (typ : Nat) (b : Bytes) : Nat :=
  if typ = 0x0801 then beAt b 32 2
  else if typ = 0x1301 then byteAt b 0 * 65536 + beAt b 2 2
  else if typ = 0x0804 then (if byteAt b 0 = 0xFF then 0xFF00 + byteAt b 1 else byteAt b 0)
  else beAt b 0 (recKeyLen typ)

/-- Bytes up to the next multiple of 4. -/
def pad4 (n : Nat) : Nat := (4 - n % 4) % 4

/-- The records of a section or of a delta, from an offset (R784); none where a header, its length or the padding breaks the rule. -/
def parseRecs : Nat → Nat → Bytes → Option (List ImgRec)
  | _, _, [] => some []
  | 0, _, _ :: _ => none
  | f + 1, ofs, x :: r =>
    let b := x :: r
    let n := beAt b 4 4
    let typ := beAt b 0 2
    let body := (b.drop 8).take n
    let tot := 8 + n + pad4 n
    let del := byteAt b 2 = 1
    if tot ≤ b.length && byteAt b 2 ≤ 1 && byteAt b 3 == 0 && ((b.drop (8 + n)).take (pad4 n)).all (· == 0) &&
        (if del then decide (recKeyLen typ ≤ n) else recLenOk typ body) then
      (parseRecs f (ofs + tot) (b.drop tot)).map (⟨typ, del, body, ofs⟩ :: ·)
    else none

/-- Are no two records of one key (R785)? -/
def noDupRecs : List ImgRec → Bool
  | [] => true
  | x :: r => r.all (fun y => !(x.typ == y.typ && recKey x.typ x.body == recKey y.typ y.body)) && noDupRecs r

/-- Section codes (R783). -/
def secCodes : List Nat := [0x01, 0x05, 0x08, 0x09, 0x0A, 0x0B, 0x0C, 0x0D, 0x0E, 0x13]

/-- The sections that directory entries name, in ascending order without gaps (R781); n entries from index i, the last section code and the
offset at which the next section starts. -/
def parseSecs (b : Bytes) (full : Bool) : Nat → Nat → Nat → Nat → Option (List ImgSec)
  | 0, _, _, ofs => if ofs + 96 = b.length then some [] else none
  | n + 1, i, last, ofs =>
    let e := (b.drop (64 + 16 * i)).take 16
    let code := byteAt e 0
    let len := beAt e 8 4
    if e.length = 16 && byteAt e 1 == 0 && beAt e 2 2 ≤ 1 && secCodes.contains code && decide (last < code) && beAt e 4 4 == ofs &&
        len % 4 == 0 && ofs + len + 96 ≤ b.length then
      match parseRecs len ofs ((b.drop ofs).take len) with
      | some rs =>
        if rs.length == beAt e 12 4 && rs.all (fun r => r.typ / 256 == code && (recLens.any (fun x => x.1 == r.typ) ||
            [0x0903, 0x0B03, 0x0B05, 0x0C04].contains r.typ) && !(full && r.del)) && noDupRecs rs then
          (parseSecs b full n (i + 1) code (ofs + len)).map (⟨code, beAt e 2 2 == 1, rs⟩ :: ·)
        else none
      | none => none
    else none

/-- The image that staged bytes hold; none where the container breaks R780 to R785 (R815). -/
def parseImg (b : Bytes) : Option Img :=
  let cnt := beAt b 20 2
  let kind := beAt b 22 2
  if 160 ≤ b.length && beAt b 0 4 == 0x43485259 && beAt b 4 2 == 1 && beAt b 16 4 == b.length && 1 ≤ cnt && cnt ≤ 32 && kind ≤ 1 &&
      1 ≤ beAt b 8 4 && beAt b 8 4 ≤ 0xFFFFFFFE && (kind == 1 || beAt b 12 4 == 0) && ((b.drop 48).take 16).all (· == 0) then
    (parseSecs b (kind == 0) cnt 0 0 (64 + 16 * cnt)).map (fun secs => ⟨beAt b 8 4, beAt b 12 4, beAt b 6 2, kind == 1, (b.drop 32).take 16, secs⟩)
  else none

/-- Does an image carry its own hash and a signature of the configuration authority (R782)? -/
def imgSigned (pub b : Bytes) : Bool :=
  let n := b.length - 96
  let h := (b.drop n).take 32
  Config.sha256 (b.take n) == h && Config.ecdsaVerify pub h (b.drop (n + 32))

/-! Configurations: records in the order of type and key. -/

/-- A record put in place. -/
def cfgPut : List CfgRec → CfgRec → List CfgRec
  | [], x => [x]
  | y :: r, x =>
    if x.typ < y.typ ∨ (x.typ = y.typ ∧ x.key < y.key) then x :: y :: r
    else if x.typ = y.typ ∧ x.key = y.key then x :: r
    else y :: cfgPut r x

/-- A record removed. -/
def cfgDel (c : List CfgRec) (typ key : Nat) : List CfgRec := c.filter (fun x => !(x.typ == typ && x.key == key))

/-- Records of an image or of a delta taken into a configuration (R794). -/
def cfgRecs (c : List CfgRec) (rs : List ImgRec) : List CfgRec :=
  rs.foldl (fun c (r : ImgRec) =>
    let k := recKey r.typ r.body
    if r.del then cfgDel c r.typ k else cfgPut c ⟨r.typ, k, r.body⟩) c

/-- The configuration after an image (R793, R794). -/
def cfgImg (c : List CfgRec) (m : Img) : List CfgRec :=
  m.secs.foldl (fun c (s : ImgSec) => cfgRecs (if s.replace then c.filter (fun x => x.typ / 256 != s.code) else c) s.recs) (if m.partial' then c else [])

/-- The configuration of a chain of elements (R790, R791). -/
def cfgChain (elems : List (Nat × Bytes)) : List CfgRec :=
  elems.foldl (fun c (e : Nat × Bytes) =>
    if e.1 = 2 then cfgRecs c ((parseRecs e.2.length 0 e.2).getD [])
    else match parseImg e.2 with | some m => cfgImg c m | none => c) []

/-- A record as bytes (R784). -/
def recBytes (typ : Nat) (body : Bytes) : Bytes := be 2 typ ++ zeros 2 ++ be 4 body.length ++ body ++ zeros (pad4 body.length)

/-- Bytes of the elements of a chain, element headers with them (R790). -/
def elemsLen (elems : List (Nat × Bytes)) : Nat := sumN (elems.map (fun e => 8 + e.2.length))

/-- The bytes of a chain: what the hash of a slot covers (R789, R790). -/
def chainBytes (elems : List (Nat × Bytes)) : Bytes := elems.flatMap (fun e => be 1 e.1 ++ zeros 3 ++ be 4 e.2.length ++ e.2)

end Sys2Proof.Machine
end

