-- ==== Sys2Proof/Machine/Keys.lean ====
section
/-! DEFINITION. Sys2Proof/Machine/Keys.lean: keys and trust (chapter 17). -/

namespace Sys2Proof.Machine

/-- A slot of an area. -/
def slotOf (l : List (Nat × KeySlot)) (n : Nat) : Option KeySlot := (l.find? (fun x => x.1 == n)).map (·.2)

/-- The KCV of key material (R689). -/
def keyCheck (typ : Nat) (m : Bytes) : Nat := if typ = 4 then beAt (Config.sha256 m) 0 4 else if typ = 3 then beAt (Config.hmac m []) 0 4 else beAt (Config.cmac m (zeros 16)) 0 4

/-- The hash of entry e of authority a. -/
def Fuses.hash (f : Fuses) (a e : Nat) : Bytes := tget [] f.hashes (4 * a + e)

/-- The active entry of an authority: the lowest whose revoke bit is clear; none when all four are revoked. -/
def Fuses.active (f : Fuses) (a : Nat) : Option Nat := (List.range 4).find? (fun e => !f.revoke.testBit (4 * a + e))

/-- Is a public key the one whose hash an entry holds (R684, R691)? -/
def Fuses.matches (f : Fuses) (a e : Nat) (pub : Bytes) : Bool := f.owned && Config.sha256 pub == f.hash a e

/-- Label FJARARI-KT (R683). -/
def labelKt : Bytes := [0x46, 0x4A, 0x41, 0x52, 0x41, 0x52, 0x49, 0x2D, 0x4B, 0x54]

/-- The transport key (R683, R703). -/
def transportKey (f : Fuses) (test : Bool) : KeySlot :=
  let m := kdf 2 (if test then Config.testRoot else Config.deviceRoot) labelKt f.devId
  ⟨2, 3, 0, 0, keyCheck 2 m, m⟩

/-- Label FJARARI-KS, and the storage key, which no slot holds (R683, R703). -/
def labelKs : Bytes := [0x46, 0x4A, 0x41, 0x52, 0x41, 0x52, 0x49, 0x2D, 0x4B, 0x53]
def storageKey (f : Fuses) (test : Bool) : Bytes := kdf 2 (if test then Config.testRoot else Config.deviceRoot) labelKs f.devId

/-- The material of a key as the nonvolatile die holds it: a secret key wrapped, a public key in clear (R684). (DEDUCED: notes/assumptions/95) -/
def sealKey (k : Bytes) (typ : Nat) (m : Bytes) : Bytes := if typ = 4 then m else Config.wrap k m

/-- The slots of a nonvolatile area that the storage key reads (R684). (DEDUCED: notes/assumptions/95) -/
def openSlots (k : Bytes) (l : List (Nat × KeySlot)) : List (Nat × KeySlot) :=
  l.filterMap (fun x => if x.2.typ = 4 then some x else (Config.unwrap k x.2.material).map (fun m => (x.1, { x.2 with material := m })))

/-- The slots that an area puts in force: the transport key, the authorities that their fuses confirm, and the owner slots (R684, R685, R692). -/
def keyLoad (f : Fuses) (test : Bool) (a : KeyArea) : List (Nat × KeySlot) :=
  (0, transportKey f test) :: a.slots.filter (fun x =>
    if x.1 = 1 ∨ x.1 = 2 then (match f.active (x.1 - 1) with | some e => f.matches (x.1 - 1) e x.2.material | none => false) else decide (3 ≤ x.1))

/-- Types that a use allows (R686). -/
def useTypes (use : Nat) : List Nat := if use = 1 then [1, 2, 3] else if use = 2 then [1, 2, 3, 4] else if use = 3 ∨ use = 4 then [2] else []

/-- ROOT_SLOT of a configuration record ING_GLOBAL, used ones. -/
def rootSlots (b : Bytes) : List Nat := ((List.range 16).map (fun i => byteAt b (20 + i))).filter (· != 0xFF)

/-- Slots named by a ROOT_SLOT in force or in an open transaction. -/
def Dev.rootsInUse (d : Dev) : List Nat :=
  rootSlots ((d.recOf 0x0800 0).getD (List.replicate 36 0xFF)) ++
  (if d.txn.st = .idle then [] else
    match parseImg d.txn.staging with
    | some m => (m.secs.flatMap (·.recs)).flatMap (fun r => if r.typ = 0x0800 && !r.del then rootSlots r.body else [])
    | none => [])

/-- DATA_LEN that OP and KEY_TYPE ask for (R693). (DEDUCED: notes/assumptions/93) -/
def keyDataLen (op typ : Nat) : Option Nat :=
  if op = 1 then (if typ = 1 then some 24 else if typ = 2 ∨ typ = 3 then some 40 else if typ = 4 then some 64 else none)
  else if op = 2 then some 0
  else if op = 3 then some 64
  else if op = 5 then some 256
  else none

/-- Checks 2 and 3 of R694: length and format; 0 when both pass. (DEDUCED: notes/assumptions/93) -/
def keyForm (b : Bytes) (len : Nat) : Nat :=
  let op := byteAt b 1
  let typ := byteAt b 3
  let use := byteAt b 4
  let au := byteAt b 5
  let dl := beAt b 6 2
  if 512 < len ∨ (op = 1 ∧ len ≠ 104 + dl) ∨ (op = 2 ∧ len ≠ 104 + dl) ∨ (op = 3 ∧ len ≠ 104 + dl ∧ len ≠ 168 + dl) ∨ (op = 5 ∧ len ≠ 40 + dl) ∨
      (keyDataLen op typ).elim false (· != dl) = true then 3
  else if byteAt b 0 ≠ 1 ∨ (op ≠ 1 ∧ op ≠ 2 ∧ op ≠ 3 ∧ op ≠ 5) ∨ beAt b 37 3 ≠ 0 ∨ (if op = 3 then au % 16 / 2 ≠ 0 ∨ 64 ≤ au else au ≠ 0) ∨
      ((op = 3 ∨ op = 5) ∧ byteAt b 2 ≠ 0) ∨
      (if op = 1 then !(useTypes use).contains typ else if op = 3 then typ != 4 || use != 2 else typ != 0 || use != 0) = true then 4
  else 0

/-- Does an AUTHORITY message meet R691, its signatures apart: the active entry, or the next entry with a second signature? (DEDUCED: notes/assumptions/93) -/
def Dev.authOk (d : Dev) (b : Bytes) (len : Nat) : Bool :=
  let f := d.key.fuses
  let a := byteAt b 5 % 2
  let e := byteAt b 5 / 16
  let pub := (b.drop 40).take 64
  match f.active a with
  | some x => f.matches a e pub && (e == x || (e == x + 1 && len == 232 && (slotOf d.key.force (1 + a)).isSome))
  | none => false

/-- Is an AUTHORITY message a rotation? -/
def Dev.isRotation (d : Dev) (b : Bytes) : Bool := d.key.fuses.active (byteAt b 5 % 2) != some (byteAt b 5 / 16)

/-- Do the signatures of a message verify (R693)? (DEDUCED: notes/assumptions/94) -/
def Dev.keySigned (d : Dev) (b : Bytes) : Bool :=
  let n := 40 + beAt b 6 2
  let sig := (b.drop n).take 64
  let h := Config.sha256 (b.take n)
  if byteAt b 1 = 3 then
    Config.ecdsaVerify ((b.drop 40).take 64) h sig &&
    (!d.isRotation b || Config.ecdsaVerify (((slotOf d.key.force (1 + byteAt b 5 % 2)).map (·.material)).getD [])
      (Config.sha256 (b.take (n + 64))) ((b.drop (n + 64)).take 64))
  else Config.ecdsaVerify (((slotOf d.key.force 1).map (·.material)).getD []) h sig

/-- The key material that an INSTALL carries: unwrapped, or in clear for ECDSA; none when unwrapping fails. -/
def Dev.keyData (d : Dev) (b : Bytes) : Option Bytes :=
  let data := (b.drop 40).take (beAt b 6 2)
  if byteAt b 3 = 4 then some data
  else
    match slotOf d.key.force (byteAt b 36) with
    | some w => (Config.unwrap w.material data).filter (fun m => m.length + 8 == data.length)
    | none => none

/-- Checks 1 to 13 of R694, in their order: the RESULT of a refusal, 0 when all pass. (DEDUCED: notes/assumptions/92) -/
def Dev.keyCheckMsg (d : Dev) (b : Bytes) (len : Nat) : Nat :=
  let op := byteAt b 1
  let slot := byteAt b 2
  let wrap := byteAt b 36
  let ctr := beAt b 24 8
  let f := d.key.fuses
  let form := keyForm b len
  if d.key.stage ≠ 0 then 15
  else if form ≠ 0 then form
  else if (b.drop 8).take 16 ≠ f.devId then 5
  else if op = 5 then (if f.owned || !f.hashes.isEmpty || f.revoke != 0 || d.boot != 2 then 16 else 0)
  else if (if op = 3 then !d.authOk b len else (slotOf d.key.force 1).isNone) then 6
  else if !d.keySigned b then 7
  else if ctr ≤ d.key.store.ctr then 8
  else if (f.count + 1) * 65536 ≤ ctr then 9
  else if 16777216 ≤ ctr then 10
  else if op = 3 then 0
  else if slot < 3 ∨ (wrap ≠ 0 ∧ (wrap < 3 ∨ ¬ (slotOf d.key.force wrap).any (fun k => k.typ == 2 && k.use == 3))) then 13
  else if d.rootsInUse.contains slot then 14
  else if op = 1 ∧ (d.keyData b).isNone then 11
  else 0

/-- The area that an accepted message makes of one, its key's material held as a function says (R693, R696). (DEDUCED: notes/assumptions/16) -/
def Dev.keyPut (d : Dev) (a : KeyArea) (hold : Bytes → Bytes) (b : Bytes) : KeyArea :=
  let op := byteAt b 1
  let ctr := beAt b 24 8
  let slot (n : Nat) (m : Bytes) : KeyArea :=
    { a with slots := tput a.slots n ⟨byteAt b 3, byteAt b 4, beAt b 32 4, ctr, keyCheck (byteAt b 3) m, hold m⟩, ctr := ctr }
  if op = 1 then slot (byteAt b 2) ((d.keyData b).getD [])
  else if op = 2 then { a with slots := tdel a.slots (byteAt b 2), ctr := ctr }
  else if op = 3 then slot (1 + byteAt b 5 % 2) ((b.drop 40).take 64)
  else a

/-- The area that an accepted message makes of the store at work. (DEDUCED: notes/assumptions/16) -/
def Dev.keyArea (d : Dev) (b : Bytes) : KeyArea := d.keyPut d.key.store id b

/-- The area that an accepted message makes of a nonvolatile one, secret keys wrapped under the storage key (R684). -/
def Dev.keyBlob (d : Dev) (b : Bytes) (a : KeyArea) : KeyArea := d.keyPut a (sealKey (storageKey d.key.fuses false) (byteAt b 3)) b

/-- Fuses changed: on the test root no fuse of the module is written (R703). (DEDUCED: notes/assumptions/16, 94) -/
def Dev.setFuses (d : Dev) (f : Fuses) : Dev :=
  let d := { d with key := { d.key with fuses := f } }
  if d.key.test then d else { d with nv := { d.nv with fuses := f } }

/-- KEY_MSG_STATUS: a result and the pending bit. -/
def Dev.keyResult (d : Dev) (res : Nat) : Dev :=
  (d.putF Reg.KEY_MSG_STATUS 4 0 res).putB Reg.KEY_MSG_STATUS 8 (d.key.stage != 0)

/-- A message is refused (R694). -/
def Dev.keyRefuse (d : Dev) (b : Bytes) (res : Nat) : Dev :=
  (((d.keyResult res).inc Reg.KEY_REFUSE_CNT 1).record 0x1102 ((b.drop 1).take 2 ++ be 1 res ++ zeros 1 ++ (b.drop 24).take 8 ++ zeros 4)).raise
    Reg.KEY_INT_STATUS 1

/-- A message submitted (R694, R695). (DEDUCED: notes/assumptions/92) -/
def Dev.keySubmit (d : Dev) : Dev :=
  let b := (List.range 128).flatMap (fun j => be 4 (d.rdN (Reg.KEY_MSG_DATA j)))
  let len := d.fld Reg.KEY_MSG_LEN 9 0
  let res := d.keyCheckMsg b len
  let d := d.putF Reg.KEY_MSG_STATUS 23 16 (byteAt b 2)
  if res ≠ 0 then d.keyRefuse b res
  else
    let f := d.key.fuses
    let d := { d with key := { d.key with stage := 1, msg := b, next := d.keyArea b } }
    let d := if byteAt b 1 ≠ 5 ∧ f.count * 65536 ≤ beAt b 24 8 then d.setFuses { f with count := f.count + 1 } else d
    d.keyResult 0

/-- CLEAR of KEY_MSG_CTL zeroes KEY_MSG_DATA. -/
def Dev.keyClear (d : Dev) : Dev := foldUp 128 (fun j (d : Dev) => d.wrN (Reg.KEY_MSG_DATA j) 0) d

/-- A write of KEY_MSG_CTL. Key messages stop while PWRFAIL_N is low (R842). -/
def Dev.keyCtl (d : Dev) (data : Word) : Dev :=
  let d := if bit data 0 && !d.pfHeld then d.keySubmit else d
  if bit data 1 then d.keyClear else d

/-- A stored change takes effect (R697, R698, R706). (DEDUCED: notes/assumptions/93) -/
def Dev.keyApply (d : Dev) : Dev :=
  let b := d.key.msg
  let op := byteAt b 1
  let f := d.key.fuses
  let d := { d with key := { d.key with stage := 0, force := keyLoad f d.key.test d.key.store } }
  let d := ((d.keyResult 2).incW Reg.KEY_UPDATE_CNT 1).raise Reg.KEY_INT_STATUS 0
  if op = 1 ∨ op = 2 then
    d.record 0x1101 ((b.drop 1).take 4 ++ (b.drop 32).take 4 ++ (b.drop 24).take 8 ++ be 4 (((slotOf d.key.store.slots (byteAt b 2)).map (·.kcv)).getD 0) ++ zeros 12)
  else if op = 3 then
    let d := if d.key.rot then d.raise Reg.KEY_INT_STATUS 2 else d
    d.record 0x1103 (be 1 (byteAt b 5 % 2) ++ be 1 (byteAt b 5 / 16) ++ be 1 (b2n d.key.rot) ++ zeros 1 ++ (b.drop 24).take 8 ++
      be 4 (((slotOf d.key.store.slots (1 + byteAt b 5 % 2)).map (·.kcv)).getD 0))
  else d.record 0x1105 (fit 4 (f.hash 0 0) ++ fit 4 (f.hash 1 0) ++ zeros 8)

/-- The store of an accepted message ends: copy A was written, then copy B (R695 to R698). (DEDUCED: notes/assumptions/94) -/
def Dev.keyStoreDone (d : Dev) (okA okB : Bool) : Dev :=
  if d.key.stage ≠ 1 || d.pfHeld then d
  else
    let b := d.key.msg
    let op := byteAt b 1
    if !(okA && okB) then
      let d := { d with key := { d.key with stage := 0 } }
      ((d.keyRefuse b 17).record 0x1106 (be 1 (b2n okA) ++ be 1 op ++ zeros 2 ++ (b.drop 24).take 8 ++ zeros 4)).raise Reg.KEY_INT_STATUS 3
    else
      let f := d.key.fuses
      let rot := op == 3 && d.isRotation b
      let a := byteAt b 5 % 2
      let d := if op = 5 then
          d.setFuses { f with owned := true, hashes := (List.range 8).map (fun i => (i, (b.drop (40 + 32 * i)).take 32)) }
        else if rot then d.setFuses { f with revoke := f.revoke ||| 2 ^ (4 * a + (f.active a).getD 0) }
        else d
      let n := d.keyBlob b d.nv.keys
      let d := if d.key.test then d else { d with nv := { d.nv with keys := n, keysB := n } }
      let d := { d with key := { d.key with stage := 2, store := d.key.next, storedAt := d.tim.clk, rot := rot } }
      let d := d.keyResult 1
      if d.boot = 2 then d.keyApply else d

/-- Action 3 of a wingbeat boundary: a stored change at least 2 µs old takes effect (R698). -/
def Dev.keyBoundary (d : Dev) : Dev := if d.key.stage = 2 ∧ d.key.storedAt + ticksUs 2 ≤ d.tim.clk then d.keyApply else d

/-- The new active wing completes the store from copy A, where it was written by then, and applies the change (R699). (DESIGN CHOICE: notes/assumptions/189) -/
def Dev.keyTakeover (d : Dev) : Dev :=
  let d := if d.key.stage = 1 then (let (v, d) := d.free; if v % 2 = 1 then d.keyStoreDone true true else d) else d
  if d.key.stage = 2 then d.keyApply else d

/-- The copy of the key-store area that power-up uses (R696): valid, with the higher C. (DEDUCED: notes/assumptions/194) -/
def keyCopy (a b : KeyArea) : KeyArea :=
  if a.valid && (!b.valid || b.ctr ≤ a.ctr) then a else if b.valid then b else ⟨[], 0, true⟩

/-- The key store at the entry to SELFTEST; the DRAM test store is empty at power-up and outlives other resets (R683, R684, R695, R696, R702, R703). (DEDUCED: notes/assumptions/16, 136) -/
def Dev.keyStart (d : Dev) (test : Bool) : Dev :=
  let f := d.nv.fuses
  let k := keyCopy d.nv.keys d.nv.keysB
  let c := if f.count = 0 then k.ctr else max k.ctr ((f.count - 1) * 65536 - 1)
  let store : KeyArea :=
    if test then (if d.key.test then d.key.store else ⟨k.slots.filter (fun x => x.1 == 1 || x.1 == 2), 0, true⟩)
    else { k with slots := openSlots (storageKey f false) k.slots, ctr := c }
  let d := { d with key := ⟨store, keyLoad f test store, f, test, 0, [], store, 0, false⟩ }
  let d := if test then d else { d with nv := { d.nv with keys := k, keysB := k } }
  if test then d.record 0x1104 (be 4 d.nv.powerEpoch ++ zeros 12) else d

/-- A read of KEY_SLOT_INFO: the slot information, and the view that it captures (R708). -/
def Dev.keyCapture (d : Dev) (i : Iface) : Word × Dev :=
  let n := d.fld Reg.KEY_SLOT_SEL 7 0
  let k := slotOf d.key.force n
  let info := (match k with | some k => k.typ + k.use * 8 + 64 | none => 0) + b2n (d.rootsInUse.contains n) * 128 + b2n (decide (n < 3)) * 256
  let s := k.getD ⟨0, 0, 0, 0, 0, []⟩
  let d := ((((d.latch i Reg.KEY_SLOT_ID (w32 s.id)).latch i Reg.KEY_SLOT_KCV (w32 s.kcv)).latch i Reg.KEY_SLOT_CTR_LO (w32 s.ctr)).latch i
    Reg.KEY_SLOT_CTR_HI (w32 (s.ctr / 2 ^ 32))).view i (Reg.KEY_SLOT_PUB 0) 16 (fun j => if s.typ = 4 then wordOf s.material j else 0)
  (w32 info, d)

/-- Registers of the KEY block that a read computes (R707, R708). -/
def Dev.keyReg (d : Dev) (a : Nat) : Option Word :=
  let f := d.key.fuses
  if a = Reg.KEY_STATUS then
    some (w32 (b2n f.owned + b2n d.key.test * 2 + b2n (d.nv.keys.valid && d.nv.keysB.valid) * 4 + b2n (slotOf d.key.force 1).isSome * 8 +
      b2n (slotOf d.key.force 2).isSome * 16 + (f.active 0).getD 0 * 256 + (f.active 1).getD 0 * 1024))
  else if a = Reg.KEY_CTR_LO then some (w32 d.key.store.ctr)
  else if a = Reg.KEY_CTR_HI then some (w32 (d.key.store.ctr / 2 ^ 32))
  else if a = Reg.KEY_CTR_FUSES then some (w32 f.count)
  else if a = Reg.KEY_AUTH_REVOKE then some (w32 f.revoke)
  else if Reg.KEY_DEV_ID 0 ≤ a ∧ a ≤ Reg.KEY_DEV_ID 3 then some (wordOf f.devId ((a - Reg.KEY_DEV_ID 0) / 4))
  else if Reg.KEY_AUTH_HASH 0 0 0 ≤ a ∧ a ≤ Reg.KEY_AUTH_HASH 1 3 7 then
    let x := a - Reg.KEY_AUTH_HASH 0 0 0
    some (wordOf (f.hash (x / 0x80) (x / 0x20 % 4)) (x / 4 % 8))
  else none

end Sys2Proof.Machine
end

