-- ==== Sys2Proof/Machine/Load.lean ====
section
/-! DEFINITION. Sys2Proof/Machine/Load.lean: a configuration taken into force: the registers that its records set, REG_SET last (R787, R793, R804), and
what each block does with the change (R340, R393, R406, R415, R463, R492, R605). -/

namespace Sys2Proof.Machine

/-- The registers that a record sets, with their new RWS bits. (DEDUCED: notes/assumptions/96) -/
def cfgRegs (r : CfgRec) : List (Nat × Nat) :=
  let b := r.body
  let k := r.key
  if r.typ = 0x0100 then [(Reg.TXN_PROBATION, beAt b 12 2)]
  else if r.typ = 0x0500 then [(Reg.FLT_CTL, beAt b 0 2 % 2), (Reg.FLT_VC_DELAY, beAt b 4 4), (Reg.FLT_FREEZE_MAX, beAt b 8 4)]
  else if r.typ = 0x0502 then
    let f := beAt b 2 2
    [(Reg.FLT_CH_CFG k, f % 2 + byteAt b 4 % 32 * 2 + f / 2 % 2 * 64 + beAt b 6 2 % 1024 * 65536), (Reg.FLT_CH_PHASE_DLY k, beAt b 10 2),
     (Reg.FLT_CH_FREEZE_CFG k, beAt b 16 2 % 2 ^ 14 + beAt b 18 2 * 65536)]
  else if r.typ = 0x0503 then
    let n := beAt b 0 2
    let u := byteAt b 2
    [(Reg.FLT_THR_CFG n u, byteAt b 3 % 128 + beAt b 14 2 % 512 * 65536), (Reg.FLT_THR_LEVEL n u, beAt b 4 4), (Reg.FLT_THR_HYST n u, beAt b 8 4),
     (Reg.FLT_THR_MIN_DUR n u, beAt b 12 2)]
  else if r.typ = 0x0504 then
    [(Reg.FLT_TRK_CFG, byteAt b 0), (Reg.FLT_TRK_ROCOF_MAX, beAt b 2 2), (Reg.FLT_TRK_MIN_AMP, beAt b 4 4), (Reg.FLT_TRK_HOLD_LIM, beAt b 8 2)] ++
    (List.range 4).map (fun i => (Reg.FLT_TRK_REF i, beAt b (12 + 2 * i) 2))
  else if r.typ = 0x0505 then [(Reg.FLT_VC_CFG k, byteAt b 1 % 4 + beAt b 2 2 % 2 * 4), (Reg.FLT_VC_SCALE k, beAt b 4 4)]
  else if r.typ = 0x0800 then
    [(Reg.ING_CFG, beAt b 0 2), (Reg.ING_SR_UDP_PORT, beAt b 2 2), (Reg.ING_C37_UDP_PORT, beAt b 4 2), (Reg.ING_FUTURE_TOL, beAt b 8 4),
     (Reg.ING_C37_TOL, beAt b 12 4)]
  else if r.typ = 0x0803 then
    let v := beAt b 4 2
    [(Reg.ING_SV_CFG k, beAt b 2 2 + 2 ^ 16 + byteAt b 1 % 2 * 2 ^ 17 + v % 4096 * 2 ^ 18 + v / 2 ^ 15 * 2 ^ 30), (Reg.ING_SV_CONFREV k, beAt b 6 4)]
  else if r.typ = 0x0804 then
    (if byteAt b 0 = 0xFF then [(Reg.ING_TRUST_VLAN (byteAt b 1), beAt b 2 2 % 4096 + 4096 + byteAt b 4 * 65536)] else [(Reg.ING_PORT_TRUST k, byteAt b 1)])
  else if r.typ = 0x0805 then [(Reg.ING_VC_MAP k, byteAt b 1 % 16 + byteAt b 2 % 32 * 16 + 512)]
  else if r.typ = 0x0900 then
    [(Reg.ALN_WAIT, byteAt b 0), (Reg.ALN_SLOW_LEN, beAt b 2 2), (Reg.ALN_MISS_THR, beAt b 36 4)] ++
    (List.range 8).map (fun i => (Reg.ALN_LOC_EN i, leAt b (4 + 4 * i) 4))
  else if r.typ = 0x0901 then
    [(Reg.ALN_STR_CFG k, byteAt b 1 % 128 + byteAt b 2 * 256 + byteAt b 3 * 65536), (Reg.ALN_STR_DST_IPV4 k, beAt b 12 4),
     (Reg.ALN_STR_PORTS k, beAt b 22 2 + beAt b 24 2 * 65536)]
  else if r.typ = 0x0904 then [(Reg.ALN_GO_CFG k, 1 + byteAt b 16 * 256 + beAt b 18 2 * 65536)]
  else if r.typ = 0x0906 then [(Reg.ALN_EXP_CFG, byteAt b 0), (Reg.ALN_EXP_FIRST, beAt b 4 4), (Reg.ALN_EXP_COUNT, beAt b 8 4)]
  else if r.typ = 0x0A00 then [(Reg.OSC_CFG, byteAt b 0 % 16 + byteAt b 1 % 16 * 16 + beAt b 2 2 * 65536), (Reg.OSC_TRK_TAU, beAt b 4 4)]
  else if r.typ = 0x0A02 then
    [(Reg.OSC_TRK_CFG k, byteAt b 1 % 16 + byteAt b 2 * 256 + byteAt b 3 * 65536), (Reg.OSC_TRK_LIST k, beAt b 4 2 % 4096 + beAt b 6 2 * 65536),
     (Reg.OSC_TRK_REF k, beAt b 8 2 % 4096 + beAt b 32 2 * 65536), (Reg.OSC_TRK_DAMP_THR k, beAt b 10 2 + beAt b 12 2 * 65536),
     (Reg.OSC_TRK_AMP_THR k, beAt b 20 4), (Reg.OSC_TRK_AMP_HYST k, beAt b 24 4), (Reg.OSC_TRK_AMP_MIN k, beAt b 28 4),
     (Reg.OSC_TRK_PERSIST k, beAt b 14 2 + beAt b 16 2 * 65536), (Reg.OSC_TRK_AO_MASK k, beAt b 18 2)]
  else if r.typ = 0x0B00 then [(Reg.ISL_CMD_UDP_PORT, beAt b 0 2)]
  else if r.typ = 0x0B01 then [(Reg.ISL_REF_CFG k, beAt b 4 4 % 2 ^ 17 + byteAt b 1 % 4 * 2 ^ 17 + byteAt b 1 / 128 * 2 ^ 19)]
  else if r.typ = 0x0C00 then
    [(Reg.SCH_CTL, byteAt b 0 + byteAt b 1 * 256 + byteAt b 2 * 65536), (Reg.SCH_PATIENCE, beAt b 4 2), (Reg.SCH_FRAME, beAt b 6 2)]
  else if r.typ = 0x0C01 then [(Reg.SCH_RL_CFG k, byteAt b 1 % 4 + byteAt b 2 * 256 + byteAt b 1 / 128 * 65536)]
  else if r.typ = 0x0C05 then
    [(Reg.PWR_LIMIT, beAt b 0 2), (Reg.PWR_T_DERATE, beAt b 2 2), (Reg.PWR_NECTAR_CAP, beAt b 4 4), (Reg.PWR_NECTAR_LOW, beAt b 8 4),
     (Reg.PWR_NECTAR_DEFER, beAt b 12 4), (Reg.PWR_CTL, byteAt b 16 % 2)]
  else if r.typ = 0x0D00 then (queueRegs b).map (fun x => (x.1, x.2.toNat))
  else if r.typ = 0x0E00 then
    [(Reg.ACQ_CTL, byteAt b 0 % 4), (Reg.ACQ_RESUME_MB, beAt b 2 2), (Reg.ACQ_PRE, beAt b 4 4), (Reg.ACQ_POST, beAt b 8 4)] ++
    (List.range 16).map (fun i => (Reg.ACQ_REC_EN i, leAt b (12 + 4 * i) 4))
  else if r.typ = 0x0E01 then [(Reg.ACQ_DI_CFG k, beAt b 2 2 + byteAt b 1 % 2 * 65536)]
  else if r.typ = 0x0E02 then
    [(Reg.ACQ_PU_CFG k, byteAt b 1 % 8 + beAt b 2 2 % 512 * 256), (Reg.ACQ_PU_HOLDOFF k, beAt b 4 4)] ++
    (List.range 16).map (fun i => (Reg.ACQ_PU_MASK k i, leAt b (8 + 4 * i) 4)) ++ (List.range 16).map (fun i => (Reg.ACQ_PU_VALUE k i, leAt b (72 + 4 * i) 4))
  else if r.typ = 0x0E03 then
    [(Reg.ACQ_WG_CFG k, byteAt b 1 + byteAt b 2 % 16 * 256 + byteAt b 3 % 16 * 4096 + byteAt b 4 % 16 * 65536), (Reg.ACQ_WG_CH_LO k, leAt b 8 4),
     (Reg.ACQ_WG_CH_HI k, leAt b 12 4)]
  else if r.typ = 0x1300 then
    [(Reg.SAF_PARTNER_TOL_MAG, beAt b 0 2), (Reg.SAF_PARTNER_TOL_ANG, beAt b 2 2), (Reg.SAF_CTL, byteAt b 4 % 128), (Reg.SAF_AO_SAFETY, beAt b 6 2),
     (Reg.SAF_PROOF_INT, beAt b 8 2)]
  else []

/-- The RWS bits of a register: none for a register of another access code. -/
def rwsMask (a : Nat) : Nat := match regAt a with | some r => if r.acc = .rws then r.wmask else 0 | none => 0

/-- RWS bits of a register set, in both copies where each wing keeps its own. -/
def Dev.setRws (d : Dev) (a v mask : Nat) : Dev :=
  let m := w32 (rwsMask a &&& mask)
  let d := d.wr a ((d.rd a &&& ~~~ m) ||| (w32 v &&& m))
  if perWing a then d.wr (a + wingOfs) ((d.rd (a + wingOfs) &&& ~~~ m) ||| (w32 v &&& m)) else d

/-- The MAC addresses of the nonvolatile die in their registers (R330). (DESIGN CHOICE: notes/assumptions/28) -/
def Dev.macLoad (d : Dev) : Dev :=
  foldUp 8 (fun p (d : Dev) =>
    let m := fit 6 (tget [] d.nv.macs p)
    (d.wrN (Reg.NET_PORT_MAC_HI p) (beAt m 0 2)).wrN (Reg.NET_PORT_MAC_LO p) (beAt m 2 4)) d

/-- Every RWS bit at its reset value (R793). -/
def Dev.resetRws (d : Dev) : Dev :=
  (d.regs.foldl (fun (d : Dev) x => let a := x.1 % wingOfs; let m := w32 (rwsMask a); d.wr x.1 ((x.2 &&& ~~~ m) ||| (resetOf a &&& m))) d).macLoad

/-- The latencies of a port after a commit (R328): a REG_SET that is new sets the sum, and the difference from the internal latency in force is the external
part; with one that is gone the external part is 0, and otherwise it stays. (DESIGN CHOICE: notes/assumptions/57; DEDUCED: notes/assumptions/96) -/
def Dev.latCommit (d old : Dev) (p : Nat) : Dev :=
  let c := (d.port p).cond
  let ext (a : Nat) (int e : Int) : Int :=
    let n := d.recOf 0x0101 a
    if n = old.recOf 0x0101 a then e else if n.isSome then (d.rdN a : Int) - int else 0
  let d := d.modPort p (fun s => { s with extRx := ext (Reg.TIM_PORT_RX_LAT p) (latRow p c).1 s.extRx, extTx := ext (Reg.TIM_PORT_TX_LAT p) (latRow p c).2 s.extTx })
  (d.latShow p).latLoad p

/-- The bank of a channel position filled from a FIR_SET, 0xFFFF for the reference bank (R241). -/
def Dev.bankLoad (d : Dev) (n bank set : Nat) : Dev :=
  let base := 128 * n + 64 * bank
  let rest := d.loc.coef.filter (fun x => !(decide (base ≤ x.1) && decide (x.1 < base + 64)))
  let new := match d.recOf 0x0501 set with
    | some b => if set = 0xFFFF then [] else (List.range 64).map (fun t => (base + t, sx 24 (beAt b (4 + 3 * t) 3)))
    | none => []
  { d with loc := { d.loc with coef := rest.filter (fun x => decide (x.1 < base)) ++ new ++ rest.filter (fun x => decide (base ≤ x.1)) } }

/-- A channel position as its CHANNEL record has it: both banks, the LIVE one and XF_LEN; no fade runs. -/
def Dev.chanLoad (d : Dev) (n : Nat) : Dev :=
  match d.recOf 0x0502 n with
  | some b =>
    let d := (d.bankLoad n 0 (beAt b 12 2)).bankLoad n 1 (beAt b 14 2)
    (d.wrN (Reg.FLT_CH_XF_LEN n) (beAt b 8 2)).modChan n (fun c => { c with live := beAt b 2 2 / 4 % 2, fade := none, pend := none })
  | none =>
    let d := (d.bankLoad n 0 0xFFFF).bankLoad n 1 0xFFFF
    (d.wr (Reg.FLT_CH_XF_LEN n) (resetOf (Reg.FLT_CH_XF_LEN n))).modChan n (fun c => { c with live := 0, fade := none, pend := none })

/-- Has a channel position other banks, XF_LEN or LIVE than under the configuration before? (DEDUCED: notes/assumptions/96) -/
def Dev.chanChanged (d old : Dev) (n : Nat) : Bool :=
  let part (x : Dev) := (x.recOf 0x0502 n).map (fun b => (beAt b 2 2 / 4 % 2, beAt b 8 2, x.recOf 0x0501 (beAt b 12 2), x.recOf 0x0501 (beAt b 14 2), beAt b 12 4))
  part d != part old

/-- Channel positions whose DISABLED differs from what EN says. -/
def Dev.enChanged (d : Dev) : List Nat := (List.range 192).filter (fun n => d.chHas n 11 == d.flag (Reg.CNV_CH_CFG n) 0)

/-- Virtual channels whose DISABLED differs from what FORMAT says, or whose FORMAT has left 0. -/
def Dev.formatChanged (d old : Dev) : List Nat :=
  (List.range 64).filter (fun v =>
    let off := d.fld (Reg.FLT_VC_CFG v) 1 0 == 0
    d.flag (Reg.FLT_VC_STATUS v) 8 != off || (!off && old.fld (Reg.FLT_VC_CFG v) 1 0 == 0))

/-- DISABLED of every channel position follows EN and FORMAT, and a FORMAT that leaves 0 brings SETTLE (R143, R188, R240). -/
def Dev.enReview (d old : Dev) : Dev :=
  let d := d.enChanged.foldl (fun (d : Dev) n => d.chFlag n 11 (!d.flag (Reg.CNV_CH_CFG n) 0)) d
  (d.formatChanged old).foldl (fun (d : Dev) v =>
    let off := d.fld (Reg.FLT_VC_CFG v) 1 0 == 0
    let d := if d.flag (Reg.FLT_VC_STATUS v) 8 = off then d else d.vcFlag v 8 off
    if !off && old.fld (Reg.FLT_VC_CFG v) 1 0 = 0 then d.settleStart (192 + v) else d) d

/-- A window of another MA_LEN restarts empty (R222), and a virtual channel of another FORMAT starts anew (R236). -/
def Dev.chainReview (d old : Dev) : Dev :=
  let d := ((List.range 256).filter (fun n => d.maLen n != old.maLen n)).foldl (fun (d : Dev) n => d.modChan n (fun c => { c with maN := 0 })) d
  ((List.range 64).filter (fun v => d.fld (Reg.FLT_VC_CFG v) 1 0 != old.fld (Reg.FLT_VC_CFG v) 1 0)).foldl (fun (d : Dev) v => d.modVc v (fun _ => Vc.start)) d

/-- The PTP domain number that no record states is that of the profile: 254 for IEEE C37.238 (R87). (DEDUCED: notes/assumptions/170) -/
def Dev.ptpDefault (d : Dev) (k : Nat) : Dev :=
  let a := Reg.TIM_DOM_CFG k
  let stated := (d.recOf 0x0101 a).any (fun b => beAt b 8 4 / 256 % 256 != 0)
  if d.flag a 6 && !stated then d.putF a 15 8 254 else d

/-- TIM_LEAP_OFS as the device has updated it stays, unless a record that is new or gone sets it (R121, R125). (DEDUCED: notes/assumptions/169) -/
def Dev.leapKeep (d old : Dev) : Dev :=
  if d.recOf 0x0101 Reg.TIM_LEAP_OFS = old.recOf 0x0101 Reg.TIM_LEAP_OFS then d.wr Reg.TIM_LEAP_OFS (old.rd Reg.TIM_LEAP_OFS) else d

/-- A domain takes another source: what the old one gave is gone (R104, R120). -/
def Dev.newSource (d old : Dev) (k : Nat) : Dev :=
  let d := if old.domSrc k = 1 then d.dropGm (old.domPort k) else d
  let d := (d.domLost k).modDom k (fun m => { m with leap := none, utc := none, trace := false, missed := 0 })
  if d.domSrc k = 0 && (d.dom k).st != .free then d.enterDom k .free else d

/-- A configuration in force: its registers (R787, R793). (DEDUCED: notes/assumptions/96) -/
def Dev.takeCfg (d : Dev) (cfg : List CfgRec) : Dev :=
  let old := d
  let d := ({ d with txn := { d.txn with cfg := cfg } }).resetRws
  let d := cfg.foldl (fun (d : Dev) r => (cfgRegs r).foldl (fun (d : Dev) x => d.setRws x.1 x.2 0xFFFFFFFF) d) d
  let d := (d.recs 0x0101).foldl (fun (d : Dev) r => d.setRws (beAt r.body 0 4) (beAt r.body 4 4) (beAt r.body 8 4)) d
  let d := foldUp 8 (fun p d => d.latCommit old p) d
  let d := (foldUp 2 (fun k d => d.ptpDefault k) d).leapKeep old
  (((List.range 256).filter (fun n => d.chanChanged old n)).foldl (fun (d : Dev) n => d.chanLoad n) d).enReview old |>.chainReview old

/-- What the blocks do when a configuration takes force outside pupa, given the machine before: runtime state of points, positions whose PHASE_DLY
changes, domains whose source changes, links, streams, pattern units, acquisition, the watch, the island engine. (DEDUCED: notes/assumptions/97) -/
def Dev.followCfg (d old : Dev) : Dev :=
  let d := d.pointCommit old.txn.cfg
  let d := foldUp 192 (fun n (d : Dev) => if d.rd (Reg.FLT_CH_PHASE_DLY n) = old.rd (Reg.FLT_CH_PHASE_DLY n) then d else d.settleStart n) d
  let d := foldUp 2 (fun k (d : Dev) =>
    if d.rdN (Reg.TIM_DOM_CFG k) % 64 = old.rdN (Reg.TIM_DOM_CFG k) % 64 then d
    else d.newSource old k) d
  let d := d.deriveKeys.reviewSwitch
  let d := foldUp 8 (fun p (d : Dev) => d.relink p) d
  let d := d.strCommit
  let d := foldUp 16 (fun u (d : Dev) =>
    if d.recOf 0x0E02 u = old.recOf 0x0E02 u && (List.range 34).all (fun j =>
      let a := if j = 0 then Reg.ACQ_PU_CFG u else if j = 1 then Reg.ACQ_PU_HOLDOFF u else if j < 18 then Reg.ACQ_PU_MASK u (j - 2) else Reg.ACQ_PU_VALUE u (j - 18)
      d.rd a == old.rd a) then d else d.patReset u) d
  let d := d.acqEnable (old.flag Reg.ACQ_CTL 0)
  let d := if d.slowLen < old.slowLen then d.slowLeave else d
  ((d.oscCommit old).islCommit old).busReview

end Sys2Proof.Machine
end

