-- ==== Sys2Proof/Machine/Validate.lean ====
section
/-! DEFINITION. Sys2Proof/Machine/Validate.lean: the rules that make an image or a commit fail validation (R800), each over the configuration that would
be in force after the commit. -/

namespace Sys2Proof.Machine

/-- What a failing rule involves: a record, or a register whatever sets it. -/
inductive Ref where
  | entry (typ key : Nat)
  | reg (a : Nat)
  deriving DecidableEq, Repr

/-- A rule that fails: what it involves. -/
abbrev Failing := List Ref

/-- A rule over some objects. -/
def failIf (bad : Bool) (l : Failing) : List Failing := if bad then [l] else []

/-! Fields of records (the record tables; R861). -/

/-- A field of a record type: offset, length, bits that may be set, smallest and largest value. -/
structure RecField where
  typ : Nat
  off : Nat
  len : Nat
  mask : Nat
  lo : Nat
  hi : Nat
  deriving DecidableEq, Repr

/-- A field of reserved bytes, a field with reserved bits, and a field with a range. -/
def fRes (typ off len : Nat) : RecField := ⟨typ, off, len, 0, 0, 0⟩
def fBits (typ off len mask : Nat) : RecField := ⟨typ, off, len, mask, 0, mask⟩
def fRange (typ off len lo hi : Nat) : RecField := ⟨typ, off, len, 2 ^ (8 * len) - 1, lo, hi⟩

def recFieldsA : List RecField :=
  [fBits 0x0100 3 1 1, fRange 0x0100 8 4 1 86400, fRange 0x0100 14 2 1 3600,
   fBits 0x0500 0 2 1, fRes 0x0500 2 2, fRange 0x0501 0 2 0 1023, fRes 0x0501 2 2,
   fRange 0x0502 0 2 0 255, fBits 0x0502 2 2 7, fBits 0x0502 4 1 0x1F, fRes 0x0502 5 1, fBits 0x0502 6 2 0x3FF, fRange 0x0502 8 2 1 65535,
   fBits 0x0502 10 2 0x3FF, fBits 0x0502 16 2 0x3FFF, fRange 0x0502 18 2 1 65535,
   fRange 0x0503 0 2 0 255, fRange 0x0503 2 1 0 3, fBits 0x0503 3 1 0x7F, fRange 0x0503 12 2 1 65535, fRange 0x0503 14 2 0 383,
   fBits 0x0504 0 1 3, fRes 0x0504 1 1, fRange 0x0504 8 2 1 65535, fRes 0x0504 10 2, fBits 0x0504 12 2 0x1FF, fBits 0x0504 14 2 0x1FF,
   fBits 0x0504 16 2 0x1FF, fBits 0x0504 18 2 0x1FF, fRange 0x0505 0 1 0 63, fRange 0x0505 1 1 0 2, fBits 0x0505 2 2 1]

def recFieldsB : List RecField :=
  [fBits 0x0800 0 2 0x1FF, fRes 0x0800 6 2, fRange 0x0800 16 4 0 1000000, fBits 0x0801 12 2 0x3FFF, fRes 0x0801 30 2, fRes 0x0801 34 2,
   fRange 0x0802 0 2 0 4095, fRange 0x0802 10 1 1 255, fRes 0x0802 11 1,
   fRange 0x0803 0 1 0 15, fRange 0x0803 1 1 0 1, fBits 0x0803 4 2 0x8FFF, fRange 0x0803 10 1 1 34, fRes 0x0804 5 3,
   fRange 0x0805 0 1 0 63, fRange 0x0805 1 1 0 15, fRange 0x0805 2 1 0 23, fRes 0x0805 3 1,
   fRange 0x0900 0 1 1 15, fRes 0x0900 1 1, fRange 0x0901 0 1 0 63, fBits 0x0901 1 1 0x7F, fRange 0x0901 8 4 1 16777215, fRange 0x0901 26 2 1 255,
   fRange 0x0902 0 1 0 63, fRes 0x0902 1 1, fRange 0x0902 4 4 0 65791, fRange 0x0902 8 1 0 4, fRange 0x0902 9 1 0 2, fRange 0x0902 10 1 0 1,
   fRes 0x0902 11 1, fRange 0x0903 0 1 0 63, fRange 0x0904 0 1 0 15, fBits 0x0904 10 2 0x7FFF, fRange 0x0904 16 1 1 255, fRange 0x0904 17 1 1 64,
   fRange 0x0904 18 2 0 60000, fRange 0x0905 0 1 0 15, fRange 0x0905 1 1 0 63, fRange 0x0906 0 1 0 3, fRes 0x0906 1 3, fRange 0x0906 4 4 0 65791, fRange 0x0906 8 4 1 65792]

def recFieldsC : List RecField :=
  [fRange 0x0A00 0 1 1 8, fRange 0x0A00 1 1 0 15, fRange 0x0A00 2 2 16 4095, fRange 0x0A00 4 4 1000 600000,
   fRange 0x0A01 0 2 0 4095, fBits 0x0A01 3 1 0x0F, fRange 0x0A01 4 4 0 65791, fRange 0x0A01 8 4 0 65791,
   fRange 0x0A02 0 1 0 15, fBits 0x0A02 1 1 0x0F, fRange 0x0A02 4 2 0 4095, fRange 0x0A02 6 2 1 4096, fRange 0x0A02 8 2 0 4095, fRange 0x0A02 32 2 1 1000, fRes 0x0A02 34 2,
   fRes 0x0B00 2 2, fBits 0x0B01 1 1 0x83, fRes 0x0B01 2 2, fRange 0x0B01 4 4 0 65791,
   fRange 0x0B02 0 2 0 1023, fBits 0x0B02 2 1 0x5F, fBits 0x0B02 3 1 0xF7, fRange 0x0B02 6 1 1 255, fRange 0x0B02 7 1 1 255,
   fRange 0x0B02 12 4 1 131072, fRange 0x0B02 16 2 1 1000, fRange 0x0B02 18 2 1 65535, fRange 0x0B02 20 2 1 65535, fRes 0x0B02 42 2,
   fBits 0x0B02 44 2 0x83FF, fBits 0x0B02 46 2 0x83FF, fBits 0x0B02 48 2 0x83FF, fBits 0x0B02 50 2 0x83FF, fRes 0x0B03 6 2,
   fRange 0x0B04 0 2 0 1023, fBits 0x0B04 2 1 3, fRange 0x0B04 3 1 1 8, fRange 0x0B04 4 2 1 1000, fRange 0x0B04 6 2 100 60000,
   fRange 0x0B04 21 1 1 255, fRange 0x0B04 24 1 0 15, fRes 0x0B04 25 3, fRange 0x0B04 32 4 0 131072, fRes 0x0B05 6 2]

def recFieldsD : List RecField :=
  [fRange 0x0C00 0 1 1 16, fRange 0x0C00 1 1 1 255, fRange 0x0C00 2 1 1 255, fRes 0x0C00 3 1, fRange 0x0C00 4 2 0 1000, fRange 0x0C00 6 2 16 65535,
   fRange 0x0C01 0 1 0 63, fBits 0x0C01 1 1 0x83, fRange 0x0C01 2 1 1 255, fRes 0x0C01 3 1, fRange 0x0C01 4 4 16 65536,
   fRange 0x0C02 2 1 0 63, fBits 0x0C02 3 1 3, fRes 0x0C02 5 3, fRange 0x0C03 0 1 0 15, fRange 0x0C03 1 1 0 15, fRange 0x0C03 3 1 0 1,
   fRange 0x0C03 6 2 1 65535, fBits 0x0C03 8 2 7, fRes 0x0C03 10 2, fRange 0x0C04 0 2 1 0x0FFF, fBits 0x0C04 12 1 0xF, fRes 0x0C04 13 3,
   fBits 0x0C05 16 1 1, fRes 0x0C05 17 3, fRange 0x0D00 0 2 192 511, fBits 0x0D00 2 1 0x1F, fRange 0x0D00 3 1 1 16, fRange 0x0D00 4 4 2 65536,
   fRes 0x0D00 9 3, fBits 0x0E00 0 1 3, fRes 0x0E00 1 1, fRange 0x0E00 2 2 64 960, fRange 0x0E00 4 4 1 60000, fRange 0x0E00 8 4 1 60000,
   fRange 0x0E01 0 1 0 63, fBits 0x0E01 1 1 1, fRange 0x0E02 0 1 0 15, fBits 0x0E02 1 1 7, fRange 0x0E03 0 1 0 7, fRange 0x0E03 2 1 1 8,
   fRange 0x0E03 4 1 1 9, fRes 0x0E03 5 3, fRange 0x1300 4 1 2 64, fRes 0x1300 5 1, fRange 0x1300 8 2 1 3650, fRes 0x1300 10 2,
   fRange 0x1301 0 1 0 2, fRange 0x1301 1 1 0 1]

/-- Fields of the record tables with reserved bits or a stated range. -/
def recFields : List RecField := recFieldsA ++ recFieldsB ++ recFieldsC ++ recFieldsD

/-- Does a body break a field? -/
def RecField.broken (f : RecField) (b : Bytes) : Bool := let v := beAt b f.off f.len; (v &&& f.mask) != v || decide (v < f.lo) || decide (f.hi < v)

/-- A record that sets a register to what its bits cannot hold. -/
def CfgRec.spills (r : CfgRec) : Bool := (cfgRegs r).any (fun x => x.2 &&& rwsMask x.1 != x.2)

/-- Records with a field outside its codes or range, or wider than the register that takes it (R861). (DEDUCED: notes/assumptions/98) -/
def Dev.badFields (d : Dev) : List Failing :=
  (d.txn.cfg.filter (fun r => recFields.any (fun f => f.typ == r.typ && f.broken r.body) || r.spills)).map (fun r => [Ref.entry r.typ r.key])

/-- A value within a field's codes or range. -/
def FieldRange.holds (f : FieldRange) (v : Word) : Bool := f.allowed.any (fun x => decide (x.1 ≤ bits v f.hi f.lo) && decide (bits v f.hi f.lo ≤ x.2))

/-- RWS registers with a field outside its codes or range (R861). (DEDUCED: notes/assumptions/154) -/
def Dev.badRegs (d : Dev) : List Failing :=
  d.regs.filterMap (fun x => match regAt x.1 with
    | some r => if r.acc == .rws && !r.ranges.all (fun f => f.holds x.2) then some [Ref.reg x.1] else none
    | none => none)

/-! Chapters 1 to 4 and 20. -/

/-- DEVICE, REG_SET, time sources, PTP roles, partners (R37, R46, R64, R86, R88, R129, R135, R786, R787, R806); in pupa the rate may change. -/
def Dev.badBase (d old : Dev) (pupa : Bool) : List Failing :=
  let dev := [Ref.entry 0x0100 0]
  let limit := if 200 ≤ d.rate then 32768 else 65536
  let src (k : Nat) := d.domSrc k
  let doms := [Ref.reg (Reg.TIM_DOM_CFG 0), Ref.reg (Reg.TIM_DOM_CFG 1)]
  failIf d.device.isNone [] ++
  failIf (d.device.isSome && (!([10, 12, 15, 20, 25, 30, 50, 60, 100, 120, 200, 240].contains d.rate) || (d.f0 != 50 && d.f0 != 60) ||
    decide (limit < beAt (d.device.getD []) 4 4))) dev ++
  failIf (!pupa && d.rate != old.rate) dev ++
  (d.recs 0x0101).flatMap (fun r =>
    let m := beAt r.body 8 4
    failIf (m = 0 && (rwsMask r.key == 0) || (m &&& rwsMask r.key) != m) [Ref.entry 0x0101 r.key]) ++
  failIf (src 0 == src 1 && src 0 != 0 && (decide (3 ≤ src 0) || d.domPort 0 == d.domPort 1)) doms ++
  (List.range 2).flatMap (fun k => failIf ((src k == 1 && decide (4 ≤ d.domPort k)) || (src k == 2 && decide (2 ≤ d.domPort k))) [Ref.reg (Reg.TIM_DOM_CFG k)]) ++
  (List.range 8).flatMap (fun p =>
    failIf ((p < 2 && d.ptpRole p == 2) || (4 ≤ p && d.ptpRole p == 1)) [Ref.reg (Reg.TIM_PORT_PTP_CFG p)]) ++
  (List.range 192).flatMap (fun n =>
    let c := d.rd (Reg.CNV_CH_CFG n)
    failIf (bit c 9 && (bits c 8 1 / 48 == n / 48 || decide (192 ≤ bits c 8 1))) [Ref.reg (Reg.CNV_CH_CFG n)])

/-! Chapters 5 to 7. -/

/-- Threshold units with BUS_EN: register and flag. -/
def Dev.thrFlags (d : Dev) : List (Nat × Nat) :=
  d.regs.filterMap (fun x =>
    if Reg.FLT_THR_CFG 0 0 ≤ x.1 && x.1 < Reg.FLT_THR_CFG 256 0 && x.1 % 16 == 0 && bit x.2 6 then some (x.1, bits x.2 24 16) else none)

/-- Flags that two units drive (R228). -/
def sameFlags : List (Nat × Nat) → List Failing
  | [] => []
  | x :: r => (r.filter (fun y => y.2 == x.2)).map (fun y => [Ref.reg x.1, Ref.reg y.1]) ++ sameFlags r

/-- Wait time of the phasor of a position that delivers to the roost, in ns (R262). -/
def Dev.phasorWait (d : Dev) (delay n : Nat) : Nat :=
  delay + (64 * (if d.classOf n = 1 then d.fld Reg.PHS_CTL 5 0 else 1) + 32) * 183820

/-- The filter chain and the phasors (R208, R228, R235, R242, R263, R266, R268, R285). -/
def Dev.badLocal (d : Dev) : List Failing :=
  let held := (List.range 256).filter (fun n => d.flag (Reg.FLT_CH_CFG n) 6)
  let loc := (List.range 256).filter d.locEn
  let delay := maxN (loc.map d.groupDelay)
  let setOk (s : Nat) : Bool := s == 0xFFFF || (d.recOf 0x0501 s).isSome
  failIf (24 < held.length) (held.map (fun n => Ref.reg (Reg.FLT_CH_CFG n))) ++
  held.flatMap (fun n => failIf (!d.flag (Reg.FLT_CH_CFG n) 0) [Ref.reg (Reg.FLT_CH_CFG n)]) ++
  sameFlags d.thrFlags ++
  d.thrFlags.flatMap (fun x => failIf (383 < x.2) [Ref.reg x.1]) ++
  (List.range 64).flatMap (fun v => failIf (d.fld (Reg.FLT_CH_PHASE_DLY (192 + v)) 9 0 != 0) [Ref.reg (Reg.FLT_CH_PHASE_DLY (192 + v))]) ++
  (d.recs 0x0502).flatMap (fun r => failIf (!setOk (beAt r.body 12 2) || !setOk (beAt r.body 14 2)) [Ref.entry 0x0502 r.key]) ++
  loc.flatMap (fun n => failIf (decide (d.fld Reg.ALN_WAIT 3 0 * 1000000000 < d.phasorWait delay n * d.rate))
    [Ref.reg Reg.ALN_WAIT, Ref.reg (Reg.ALN_LOC_EN (n / 32)), Ref.reg (Reg.PHS_CH_CFG n), Ref.reg Reg.PHS_CTL]) ++
  (List.range 64).flatMap (fun v => failIf (d.fld (Reg.FLT_VC_CFG v) 1 0 == 3) [Ref.reg (Reg.FLT_VC_CFG v)]) ++
  (List.range 64).flatMap (fun k =>
    let c := d.rd (Reg.PHS_DET_CFG k)
    failIf (decide (5 ≤ bits c 2 0) || bits c 4 3 == 3 || (bits c 2 0 == 4 && (decide (191 < bits c 19 12) || decide (191 < bits c 27 20))))
      [Ref.reg (Reg.PHS_DET_CFG k)]) ++
  (List.range 64).flatMap (fun k =>
    let lo := d.fld (Reg.PHS_DET_AUX k) 7 0
    let hi := d.fld (Reg.PHS_DET_AUX k) 15 8
    failIf (decide (d.rdN (Reg.PHS_DET_LEVEL k) < d.rdN (Reg.PHS_DET_HYST k))) [Ref.reg (Reg.PHS_DET_HYST k)] ++
    failIf (d.fld (Reg.PHS_DET_CFG k) 2 0 == 4 && !(decide (2 ≤ lo) && decide (lo ≤ hi) && decide (hi ≤ 45))) [Ref.reg (Reg.PHS_DET_AUX k)])

/-- The ports (R289, R320, R327, R331). -/
def Dev.badPorts (d : Dev) : List Failing :=
  (List.range 8).flatMap (fun p =>
    let c := d.rd (Reg.NET_PORT_CFG p)
    let mode := bits c 2 1
    let fec := bits c 4 3
    let m := d.maxFrm p
    failIf (
      (if p < 2 then decide (2 ≤ mode) || fec == 3 || (fec == 2 && mode == 0) || bit c 5 || bit c 7 || bit c 8 || bits c 12 11 != 0
       else if p < 4 then decide (2 ≤ mode) || fec != 0 || bit c 8 || bits c 12 11 == 3
       else mode != 0 || fec != 0 || bit c 5 || bit c 6 || bit c 7 || bits c 12 11 != 0) ||
      (bit c 7 && d.ptpRole p != 0)) [Ref.reg (Reg.NET_PORT_CFG p), Ref.reg (Reg.TIM_PORT_PTP_CFG p)] ++
    failIf (decide (4 ≤ p) && (d.fld (Reg.NET_PORT_PLCA_CFG p) 15 8 == 0 || d.fld (Reg.NET_PORT_PLCA_CFG p) 23 16 == 0)) [Ref.reg (Reg.NET_PORT_PLCA_CFG p)] ++
    failIf (decide (m < 1518) || decide ((if p < 4 then 9216 else 1536) < m)) [Ref.reg (Reg.NET_PORT_MAX_FRM p)] ++
    (if 4 ≤ p && !bit c 8 then
      ((d.recs 0x0904).filter (fun r => (byteAt r.body 1).testBit p)).map (fun r => [Ref.entry 0x0904 r.key, Ref.reg (Reg.NET_PORT_CFG p)]) ++
      ((d.recs 0x0B04).filter (fun r => (byteAt r.body 20).testBit p)).map (fun r => [Ref.entry 0x0B04 r.key, Ref.reg (Reg.NET_PORT_CFG p)])
     else []))

/-! Chapters 8 and 9. -/

/-- A ROOT_SEL names a used ROOT_SLOT that holds a derive-only AES-256 key (R379). (DEDUCED: notes/assumptions/143) -/
def Dev.rootOk (d : Dev) (sel : Nat) : Bool :=
  match d.recOf 0x0800 0 with
  | some b => let s := byteAt b (20 + sel); s != 0xFF && d.key.force.any (fun x => x.1 == s && x.2.typ == 2 && x.2.use == 4)
  | none => false

/-- Pairs of points that share an identity (R336, R801). -/
def sameIds : List (Nat × Nat) → List Failing
  | [] => []
  | x :: r => (r.filter (fun y => y.2 == x.2)).map (fun y => [Ref.entry 0x0801 x.1, Ref.entry 0x0801 y.1]) ++ sameIds r

/-- Points and ingress (R333, R336, R363, R379, R686, and the TRUST record). (DEDUCED: notes/assumptions/143) -/
def Dev.badIngress (d : Dev) : List Failing :=
  let pts := (d.recs 0x0801).filter (fun r => beAt r.body 8 2 % 2 == 1)
  let c37 := pts.filter (fun r => (beAt r.body 8 2).testBit 2)
  let cam := pts.filter (fun r => inCam (beAt r.body 0 8) r.key)
  failIf (8192 < cam.length) (cam.map (fun r => Ref.entry 0x0801 r.key)) ++
  (pts.filter (fun r => beAt r.body 0 8 == 0 || beAt r.body 0 8 == 2 ^ 64 - 1)).map (fun r => [Ref.entry 0x0801 r.key]) ++
  sameIds (pts.map (fun r => (r.key, beAt r.body 0 8))) ++
  failIf (4096 < c37.length) (c37.map (fun r => Ref.entry 0x0801 r.key)) ++
  (pts.filter (fun r => !d.rootOk (beAt r.body 8 2 / 16 % 16))).map (fun r => [Ref.entry 0x0801 r.key, Ref.entry 0x0800 0]) ++
  (c37.filter (fun r => (d.recOf 0x0802 (beAt r.body 26 2)).isNone || decide (47 < byteAt r.body 29))).map (fun r => [Ref.entry 0x0801 r.key]) ++
  ((List.range 64).filter (fun v => d.flag (Reg.ING_VC_MAP v) 9 && (d.recOf 0x0803 (d.fld (Reg.ING_VC_MAP v) 3 0)).isNone)).map
    (fun v => [Ref.entry 0x0805 v, Ref.reg (Reg.ING_VC_MAP v)]) ++
  (List.range 64).flatMap (fun v => failIf (d.fld (Reg.FLT_VC_CFG v) 1 0 != 0 && !d.flag (Reg.ING_VC_MAP v) 9) [Ref.reg (Reg.FLT_VC_CFG v), Ref.entry 0x0805 v, Ref.reg (Reg.ING_VC_MAP v)]) ++
  failIf (d.flag Reg.WNG_CTL 1 && !d.rootOk (d.fld Reg.WNG_BEACON_CFG 11 8)) [Ref.reg Reg.WNG_BEACON_CFG, Ref.reg Reg.WNG_CTL, Ref.entry 0x0800 0] ++
  ((d.recs 0x0804).filter (fun r =>
    let b := r.body
    if byteAt b 0 = 0xFF then decide (15 < byteAt b 1) || decide (4095 < beAt b 2 2) else decide (7 < byteAt b 0) || decide (3 < byteAt b 1) || beAt b 2 3 != 0)).map
    (fun r => [Ref.entry 0x0804 r.key])

/-- FORMAT of a stream's blocks: polar phasors, and the float flags (R410, R419). -/
def Dev.strFormat (d : Dev) (s : Nat) : Nat :=
  let c := d.rd (Reg.ALN_STR_CFG s)
  1 + 2 * b2n (bit c 3) + 4 * b2n (bit c 4) + 8 * b2n (bit c 5)

/-- A stored frame fails the checks of R418, or a stored CFG-2 disagrees with the stream's records (R413, R419). (DEDUCED: notes/assumptions/144) -/
def Dev.badFrame (d : Dev) (s : Nat) (b f : Bytes) : Bool :=
  let strm := (d.recOf 0x0901 s).getD []
  let bl := d.blocks s
  let n := f.length
  decide (n < 16) || crcCcitt (f.take (n - 2)) != beAt f (n - 2) 2 || beAt f 4 2 != beAt strm 4 2 || !(byteAt b 1 == 1 || byteAt b 1 == 3) ||
  (byteAt b 1 == 3 &&
    (let (got, e) := cfgBlocks f (beAt f 18 2) 20
     decide (n < 24) || e + 4 != n || beAt f 18 2 != bl.length ||
     (got.zip bl).any (fun x => x.1.format != d.strFormat s || x.1.phnmr != byteAt x.2 8 || x.1.annmr != byteAt x.2 9 || x.1.dgnmr != byteAt x.2 10) ||
     beAt f e 2 != d.rate / max 1 (d.fld (Reg.ALN_STR_CFG s) 15 8)))

/-- Streams, datasets and the export (R402, R407, R413, R419, R420, R425). -/
def Dev.badStreams (d : Dev) : List Failing :=
  failIf (decide (2 * d.rate < d.slowLen) || decide (2 * d.rate < beAt ((d.recOf 0x0900 0).getD []) 2 2)) [Ref.entry 0x0900 0, Ref.reg Reg.ALN_SLOW_LEN] ++
  (List.range 64).flatMap (fun s =>
    let div := d.fld (Reg.ALN_STR_CFG s) 15 8
    failIf (div == 0 || d.rate % div != 0) [Ref.entry 0x0901 s, Ref.reg (Reg.ALN_STR_CFG s)]) ++
  (d.recs 0x0901).flatMap (fun r =>
    let s := r.key
    let len := 16 + sumN ((d.blocks s).map (fun blk => (d.blockBytes s 0 blk none).length))
    let blks := ((d.recs 0x0902).filter (fun x => byteAt x.body 0 == s)).map (fun x => Ref.entry 0x0902 x.key)
    let mask := d.fld (Reg.ALN_STR_CFG s) 23 16
    let frm := (List.range 8).filter (fun p => mask.testBit p)
    let tooLong (n : Nat) : Bool := frm.any (fun p =>
      decide (d.maxFrm p < n + 46 + (if (d.strTag s).isSome then 4 else 0) + (if d.pairActive p then 6 else 0)))
    failIf (decide (65535 < len) || (!d.flag (Reg.ALN_STR_CFG s) 1 && tooLong len))
      (Ref.entry 0x0901 s :: Ref.reg (Reg.ALN_STR_CFG s) :: Ref.reg Reg.NET_CTL :: frm.map (fun p => Ref.reg (Reg.NET_PORT_MAX_FRM p)) ++ blks)) ++
  (d.recs 0x0903).flatMap (fun r =>
    let s := byteAt r.body 0
    failIf (d.badFrame s r.body (r.body.drop 4)) [Ref.entry 0x0903 r.key, Ref.entry 0x0901 s]) ++
  failIf (65791 < d.rdN Reg.ALN_EXP_FIRST + d.rdN Reg.ALN_EXP_COUNT - 1) [Ref.reg Reg.ALN_EXP_FIRST, Ref.reg Reg.ALN_EXP_COUNT] ++
  (List.range 16).flatMap (fun g => failIf (let c := d.rd (Reg.ALN_GO_CFG g); decide (bits c 31 16 < bits c 15 8) || bits c 15 8 == 0 || decide (60000 < bits c 31 16)) [Ref.entry 0x0904 g, Ref.reg (Reg.ALN_GO_CFG g)]) ++
  ((d.recs 0x0905).filter (fun r =>
    let c := beAt r.body 2 2
    !(decide (c ≤ 0x1FF) || (decide (0x400 ≤ c) && decide (c ≤ 0x7FF)) || (decide (0x800 ≤ c) && decide (c ≤ 0x80F)) ||
      (decide (0xC00 ≤ c) && decide (c ≤ 0xC0F))))).map (fun r => [Ref.entry 0x0905 r.key])

/-! Chapters 10 and 11. -/

/-- A local or virtual entry that ALN_LOC_EN does not enable. -/
def Dev.offEntry (d : Dev) (e : Nat) : Bool := decide (65536 ≤ e) && !d.locEn (e - 65536)

/-- The oscillation watch (R436, R437, R448, R460, R468). -/
def Dev.badOsc (d : Dev) : List Failing :=
  (d.recs 0x0A01).flatMap (fun r =>
    let b := r.body
    let ty := byteAt b 2
    let a := beAt b 4 4
    let e := beAt b 8 4
    let sa := byteAt b 3 % 4
    let sb := byteAt b 3 / 4 % 4
    let phA := ty == 2 || ty == 3 || ty == 6
    let loc (x : Nat) : Bool := decide (65536 ≤ x)
    let two := ty == 3 || ty == 4
    failIf (decide (7 ≤ ty) || (ty == 5 && (loc a || decide (1 < sa))) || (phA && loc a && sa != 0) || (ty == 3 && loc e && sb != 0)
      || (ty == 6 && loc a && sb != 0) || (ty != 0 && d.offEntry a) || (two && d.offEntry e)) [Ref.entry 0x0A01 r.key]) ++
  (let on := (List.range 16).filter d.trkEn
   failIf (16384 < sumN (on.map d.trkCount)) (on.map (fun t => Ref.reg (Reg.OSC_TRK_LIST t)))) ++
  (List.range 16).flatMap (fun t =>
    let first := d.trkFirst t
    let n := d.trkCount t
    failIf (decide (d.trkHi t < d.trkLo t) || decide (63 < d.trkHi t)) [Ref.reg (Reg.OSC_TRK_CFG t)] ++
    failIf (4096 < first + n) [Ref.reg (Reg.OSC_TRK_LIST t)] ++
    failIf (decide (n ≤ d.fld (Reg.OSC_TRK_REF t) 11 0)) [Ref.reg (Reg.OSC_TRK_REF t), Ref.reg (Reg.OSC_TRK_LIST t)] ++
    failIf (d.fld (Reg.OSC_TRK_PERSIST t) 15 0 == 0 || d.fld (Reg.OSC_TRK_PERSIST t) 31 16 == 0) [Ref.reg (Reg.OSC_TRK_PERSIST t)]) ++
  ((List.range 16).filter (fun t => d.trkEn t || (d.recOf 0x0A02 t).isSome)).flatMap (fun t =>
    let first := d.trkFirst t
    let n := d.trkCount t
    ((List.range n).filter (fun j => d.sigType (first + j) == 0)).map (fun j =>
      [Ref.entry 0x0A01 (first + j), Ref.reg (Reg.OSC_TRK_LIST t)]) ++
    failIf (decide ((zetaLim.getD (d.oscCyc - 1) 0 : Int) < sx 16 (d.fld (Reg.OSC_TRK_DAMP_THR t) 15 0) + d.fld (Reg.OSC_TRK_DAMP_THR t) 31 16))
      [Ref.reg (Reg.OSC_TRK_DAMP_THR t), Ref.reg Reg.OSC_CFG])

/-- Positions of a member table that its records fill, with the record of each. -/
def Dev.filled (d : Dev) (typ pos : Nat) : Bool := (d.recs typ).any (fun r => decide (beAt r.body 0 4 ≤ pos) && decide (pos < beAt r.body 0 4 + beAt r.body 4 2))

/-- A member range that R516 refuses: it runs beyond its table, or not every position is filled. -/
def Dev.badRange (d : Dev) (typ first n : Nat) : Bool := decide (131072 < first + n) || !(List.range n).all (fun j => d.filled typ (first + j))

/-- Islanding and commands (R477, R504, R516). -/
def Dev.badIsl (d : Dev) : List Failing :=
  (d.recs 0x0B01).flatMap (fun r => failIf (byteAt r.body 0 != r.key) [Ref.entry 0x0B01 r.key]) ++
  (List.range 32).flatMap (fun r => failIf (decide (65791 < d.fld (Reg.ISL_REF_CFG r) 16 0) || (d.flag (Reg.ISL_REF_CFG r) 19 && d.offEntry (d.fld (Reg.ISL_REF_CFG r) 16 0)))
    [Ref.entry 0x0B01 r, Ref.reg (Reg.ISL_REF_CFG r), Ref.reg (Reg.ALN_LOC_EN ((d.fld (Reg.ISL_REF_CFG r) 16 0 - 65536) / 32))]) ++
  ([0x0B03, 0x0B05].flatMap (fun t => (d.recs t).flatMap (fun r =>
    failIf ((List.range (beAt r.body 4 2)).any (fun j => decide (65535 < beAt r.body (8 + 4 * j) 4))) [Ref.entry t r.key]))) ++
  (d.recs 0x0B02).flatMap (fun r =>
    let b := r.body
    let me := Ref.entry 0x0B02 r.key
    let on := (byteAt b 2).testBit 6
    let mode := byteAt b 2 % 4
    let refOn (x : Nat) : Bool := decide (x < 32) && d.flag (Reg.ISL_REF_CFG x) 19
    let crit := popCount 3 (byteAt b 3)
    let votes := byteAt b 3 / 16 % 4
    let brk := (List.range 4).any (fun j => (beAt b (44 + 2 * j) 2).testBit 15)
    failIf (d.badRange 0x0B03 (beAt b 8 4) (beAt b 12 4)) [me] ++
    failIf (!refOn (byteAt b 4) || (byteAt b 5 != 0xFF && !refOn (byteAt b 5))) [me, Ref.entry 0x0B01 (byteAt b 4), Ref.reg (Reg.ISL_REF_CFG (byteAt b 4)), Ref.entry 0x0B01 (byteAt b 5), Ref.reg (Reg.ISL_REF_CFG (byteAt b 5))] ++
    failIf (on && ((mode != 2 && !brk) || (mode != 3 && (crit == 0 || votes == 0 || decide (crit < votes))))) [me] ++
    (List.range 4).flatMap (fun j =>
      let c := beAt b (52 + 4 * j) 4
      let ty := c / 1024 % 8
      failIf (decide (3 < ty) || c / 8192 % 8 != 0 || (ty == 2 && decide (10000 < c / 65536)) || (ty != 0 && (d.cmdRec (c % 1024)).isNone))
        [me, Ref.entry 0x0B04 (c % 1024)]) ++
    failIf (decide (beAt b 24 2 < beAt b 26 2) || decide (beAt b 32 4 < beAt b 36 4) || decide (beAt b 30 2 < beAt b 40 2)) [me]) ++
  (d.recs 0x0B04).flatMap (fun r =>
    let b := r.body
    failIf (decide (beAt b 6 2 ≤ (byteAt b 3 - 1) * beAt b 4 2)) [Ref.entry 0x0B04 r.key] ++
    failIf (d.badRange 0x0B05 (beAt b 28 4) (beAt b 32 4)) [Ref.entry 0x0B04 r.key] ++
    failIf (!d.rootOk (byteAt b 24)) [Ref.entry 0x0B04 r.key, Ref.entry 0x0800 0])

/-! Chapter 12. -/

/-- A critical item of the schedule of R540: release, pipeline, stage, kernel order, index and trigger; cycles with the 2 µs; WAIT; a decision. -/
structure SItem where
  rel : Nat
  pipe : Nat
  stage : Nat
  ko : Nat
  idx : Nat
  cyc : Nat
  waits : Bool
  dec : Bool
  deriving DecidableEq, Repr

/-- The order of R536. -/
def SItem.before (a b : SItem) : Bool :=
  a.rel < b.rel || (a.rel == b.rel && (a.pipe < b.pipe || (a.pipe == b.pipe && (a.stage < b.stage || (a.stage == b.stage &&
    (a.ko < b.ko || (a.ko == b.ko && a.idx < b.idx)))))))

/-- The least of the items that are ready. -/
def SItem.least : List SItem → Option SItem
  | [] => none
  | x :: r => match SItem.least r with | some y => if y.before x then some y else some x | none => some x

/-- The schedule from a time on: every item completes before the boundary, and decisions within 0.80 of the wingbeat. (DEDUCED: notes/assumptions/145) -/
def schedMeets (wb cores : Nat) : Nat → Nat → List SItem → List (Nat × SItem) → Bool
  | 0, _, wait, _ => wait.isEmpty
  | f + 1, now, wait, run =>
    if wait.isEmpty then true
    else
      let open' := wait ++ run.map (·.2)
      let ready := wait.filter (fun x => decide (x.rel ≤ now) && (!x.waits || decide (wb / 5 ≤ now)) &&
        open'.all (fun y => !(y.rel == x.rel && y.pipe == x.pipe && decide (y.stage < x.stage))))
      match (if run.length < cores then SItem.least ready else none) with
      | some x =>
        let fin := now + x.cyc
        decide (fin < wb) && (!x.dec || decide (5 * fin ≤ 4 * wb)) && schedMeets wb cores f now (wait.erase x) (run ++ [(fin, x)])
      | none =>
        let next := (run.map (·.1) ++ wait.map (·.rel) ++ [wb / 5]).filter (fun t => decide (now < t))
        match next with
        | [] => false
        | t :: r =>
          let n := r.foldl min t
          schedMeets wb cores f n wait (run.filter (fun y => decide (n < y.1)))

/-- Flutter releases of one wingbeat (R540), and the unit of the schedule: so many to a cycle that every release and deadline is a whole number. -/
def Dev.flutters (d : Dev) : Nat := cdiv 552 d.rate
def Dev.schedUnit (d : Dev) : Nat := 5 * d.flutters * d.rate

/-- The critical items of one wingbeat (R540): slot close once, and ceil(552 / rate) flutters spread evenly. (DEDUCED: notes/assumptions/145) -/
def Dev.critItems (d : Dev) (wb : Nat) : List SItem :=
  let k := d.flutters
  (d.recs 0x0C03).flatMap (fun r =>
    let b := r.body
    let rels := if byteAt b 3 = 0 then [0] else (List.range k).map (fun j => j * wb / k)
    rels.flatMap (fun rel => (List.range (beAt b 6 2)).map (fun j =>
      let wc := (d.critWork (beAt b 4 2) 0 (d.islStage (byteAt b 0) (byteAt b 1)) j none).2
      ⟨rel, byteAt b 0, byteAt b 1, byteAt b 2, j, (wc + 3200) * d.schedUnit, beAt b 8 2 != 0, beAt b 4 2 == 0x11 || beAt b 4 2 == 0x12⟩)))

/-- Cores, kernels, lists, power (R525, R528, R540, R561). (DEDUCED: notes/assumptions/145) -/
def Dev.badSched (d : Dev) : List Failing :=
  let stages := (d.recs 0x0C03).map (fun r => Ref.entry 0x0C03 r.key)
  let wb := 1600000000 * 5 * d.flutters
  let items := d.critItems wb
  (d.recs 0x0C04).flatMap (fun r =>
    let n := r.body.length
    failIf (!Config.ecdsaVerify Config.catalogueKey (Config.sha256 (r.body.take (n - 64))) (r.body.drop (n - 64))) [Ref.entry 0x0C04 r.key]) ++
  (d.recs 0x0C02).flatMap (fun r =>
    let list := byteAt r.body 2
    let cls := d.listClass list
    failIf (cls == 0 || decide (2 < cls) || (match d.kernel r.key with | some k => !k.classes.testBit cls | none => true))
      [Ref.entry 0x0C02 r.key, Ref.entry 0x0C01 list, Ref.reg (Reg.SCH_RL_CFG list)]) ++
  [0x20, 0x21, 0x22, 0x23, 0x24, 0x30].flatMap (fun k => failIf (d.recOf 0x0C02 k).isNone [Ref.entry 0x0C02 k]) ++
  (d.recs 0x0C03).flatMap (fun r => failIf (match d.kernel (beAt r.body 4 2) with | some k => !k.classes.testBit 0 | none => true) [Ref.entry 0x0C03 r.key]) ++
  (List.range 64).flatMap (fun i =>
    let c := d.rd (Reg.SCH_RL_CFG i)
    failIf (bit c 16 && (bits c 1 0 == 0 || bits c 1 0 == 3)) [Ref.reg (Reg.SCH_RL_CFG i)]) ++
  failIf (decide (16 * wb < 3 * sumN (items.map (fun x => x.cyc - 3200 * d.schedUnit)))) stages ++
  failIf (!schedMeets wb (d.fld Reg.SCH_CTL 4 0) (8 * items.length + 16) 0 items []) stages ++
  failIf (decide (d.rdN Reg.PWR_NECTAR_DEFER < d.rdN Reg.PWR_NECTAR_LOW) || decide (d.rdN Reg.PWR_NECTAR_CAP < d.rdN Reg.PWR_NECTAR_DEFER))
    [Ref.reg Reg.PWR_NECTAR_LOW, Ref.reg Reg.PWR_NECTAR_DEFER, Ref.reg Reg.PWR_NECTAR_CAP]

/-! Chapters 13, 14 and 19. -/

/-- Queues (R568, R574 to R576, R590), given the configuration in force. -/
def Dev.badQueues (d old : Dev) : List Failing :=
  let qs := (List.range 320).map (192 + ·)
  failIf (1048576 < Config.queDevWords + sumN (qs.map d.qWords)) (qs.map (fun q => Ref.reg (Reg.QUE_Q_CAP q))) ++
  qs.flatMap (fun q =>
    let c := d.rd (Reg.QUE_Q_CFG q)
    let cap := d.fld (Reg.QUE_Q_CAP q) 16 0
    let iw := bits c 12 8
    let pools := sumN ((List.range 4).map (d.pool q))
    let all := [Ref.entry 0x0D00 q, Ref.reg (Reg.QUE_Q_CFG q), Ref.reg (Reg.QUE_Q_CAP q)]
    failIf (bit c 0 && (decide (cap < 2) || decide (65536 < cap) || iw == 0 || decide (16 < iw) || (!bit c 1 && decide (iw < 3))
      || (!bit c 1 && bit c 3 && decide (cap < d.fld (Reg.QUE_Q_VCAP q) 16 0 + 2048)) || (bit c 1 && decide (cap < pools)))) all ++
    failIf (decide (iw < bits c 20 16)) [Ref.entry 0x0D00 q, Ref.reg (Reg.QUE_Q_CFG q)] ++
    failIf (bit c 0 && old.qEn q && ((c ^^^ old.rd (Reg.QUE_Q_CFG q)) &&& 0x1F06 != 0 || d.rd (Reg.QUE_Q_CAP q) != old.rd (Reg.QUE_Q_CAP q)
      || d.rd (Reg.QUE_Q_VSERV q) != old.rd (Reg.QUE_Q_VSERV q) || d.rd (Reg.QUE_Q_VCAP q) != old.rd (Reg.QUE_Q_VCAP q)))
      (all ++ [Ref.reg (Reg.QUE_Q_VSERV q), Ref.reg (Reg.QUE_Q_VCAP q)]))

/-- Acquisition (R619). -/
def Dev.badAcq (d : Dev) : List Failing :=
  (List.range 8).flatMap (fun g =>
    let c := d.rd (Reg.ACQ_WG_CFG g)
    let chs := d.waveChs g
    failIf (decide (8 < bits c 11 8 * bits c 15 12) || !([1, 2, 4, 8, 16].contains (bits c 7 3)) || bits c 2 1 == 3) [Ref.reg (Reg.ACQ_WG_CFG g)] ++
    failIf (bit c 0 && chs.eraseDups.length != chs.length) [Ref.reg (Reg.ACQ_WG_CFG g), Ref.reg (Reg.ACQ_WG_CH_LO g), Ref.reg (Reg.ACQ_WG_CH_HI g)]) ++
  (List.range 16).flatMap (fun u =>
    let c := d.rd (Reg.ACQ_PU_CFG u)
    failIf (bits c 2 1 != 0 && decide (511 < bits c 16 8)) [Ref.reg (Reg.ACQ_PU_CFG u)]) ++
  ((d.recs 0x0E02).filter (fun r => byteAt r.body 1 / 2 % 4 != 0 && decide (511 < beAt r.body 2 2))).map (fun r => [Ref.entry 0x0E02 r.key]) ++
  (List.range 64).flatMap (fun n => failIf (d.fld (Reg.ACQ_DI_CFG n) 15 0 == 0) [Ref.reg (Reg.ACQ_DI_CFG n)])

/-- Pins that an object drives. -/
def Dev.objPins (d : Dev) (key : Nat) : Nat :=
  if key < 65536 then sumN ((List.range 16).map (fun a =>
    b2n (d.flag (if key < 32 then Reg.PHS_AO_SRC_LO a else Reg.PHS_AO_SRC_HI a) (key % 32)) * 2 ^ a))
  else if key < 2 * 65536 then beAt ((d.recOf 0x0B02 (key - 65536)).getD []) 22 2
  else d.fld (Reg.OSC_TRK_AO_MASK (key - 2 * 65536)) 15 0

/-- Functional safety (R755, R779). -/
def Dev.badSafety (d : Dev) : List Failing :=
  let ao := d.fld Reg.SAF_AO_SAFETY 15 0
  failIf (decide (d.fld Reg.SAF_CTL 6 0 < 2) || decide (64 < d.fld Reg.SAF_CTL 6 0)) [Ref.reg Reg.SAF_CTL] ++
  (d.recs 0x1301).flatMap (fun r =>
    let kind := byteAt r.body 0
    let i := beAt r.body 2 2
    let me := Ref.entry 0x1301 r.key
    let pins := d.objPins (kind * 65536 + i)
    failIf ((kind == 0 && decide (63 < i)) || (kind == 1 && decide (1023 < i)) || (kind == 2 && decide (15 < i)) || (kind != 1 && byteAt r.body 1 != 0)) [me] ++
    failIf ((pins &&& ao) != pins) [me, Ref.reg Reg.SAF_AO_SAFETY] ++
    (if kind = 0 then
      let c := d.rd (Reg.PHS_DET_CFG i)
      let ch (n : Nat) : Bool := decide (192 ≤ n) || !d.flag (Reg.CNV_CH_CFG n) 9
      failIf (bits c 10 9 != 2 || ch (bits c 19 12) || (bits c 2 0 == 3 && ch (bits c 27 20)))
        [me, Ref.reg (Reg.PHS_DET_CFG i), Ref.reg (Reg.CNV_CH_CFG (bits c 19 12)), Ref.reg (Reg.CNV_CH_CFG (bits c 27 20))]
     else if kind = 1 then failIf (byteAt ((d.recOf 0x0B02 i).getD []) 2 / 4 % 4 == 1) [me, Ref.entry 0x0B02 i]
     else failIf (d.fld (Reg.OSC_TRK_CFG i) 3 2 == 1) [me, Ref.reg (Reg.OSC_TRK_CFG i)]))

/-- The rules that a candidate configuration breaks, given the machine before the commit. (DEDUCED: notes/assumptions/98) -/
def Dev.failing (d old : Dev) (pupa : Bool) : List Failing :=
  d.badBase old pupa ++ d.badFields ++ d.badRegs ++ d.badLocal ++ d.badPorts ++ d.badIngress ++ d.badStreams ++ d.badOsc ++ d.badIsl ++ d.badSched
    ++ d.badQueues old ++ d.badAcq ++ d.badSafety

end Sys2Proof.Machine
end

