-- ==== Sys2Proof/Machine/Txn.lean ====
section
/-! DEFINITION. Sys2Proof/Machine/Txn.lean: transactions, the commit, the two-phase exchange of twins and probation (R786 to R815). -/

namespace Sys2Proof.Machine

/-! Slots (R789 to R792). -/

/-- A slot of the nonvolatile die. -/
def Dev.nvSlot (d : Dev) (s : Nat) : Slot := if s = 0 then d.nv.slot0 else d.nv.slot1

/-- A slot changed. -/
def Dev.modSlotNv (d : Dev) (s : Nat) (f : Slot → Slot) : Dev :=
  if s = 0 then { d with nv := { d.nv with slot0 := f d.nv.slot0 } } else { d with nv := { d.nv with slot1 := f d.nv.slot1 } }

/-- The public key of the configuration authority in key slot 2, none while it is empty (R692, R782). -/
def Dev.cfgAuthority (d : Dev) : Option Bytes := (d.key.force.find? (fun x => x.1 == 2 && x.2.typ == 4)).map (·.2.material)

/-- Does a slot qualify (R792)? -/
def Dev.qualifies (d : Dev) (s : Nat) : Bool :=
  let x := d.nvSlot s
  (x.st == 1 || x.st == 2) && x.elems != [] && Config.sha256 (chainBytes x.elems) == x.hash &&
  x.elems.all (fun e => e.1 == 2 || (match d.cfgAuthority with | some pub => imgSigned pub e.2 | none => false))

/-- The slot not in force. -/
def Dev.otherSlot (d : Dev) : Nat := match d.txn.inForce with | some s => 1 - s | none => 1 - d.nv.inForce

/-- The header of a slot takes a state; a header change raises GEN (R789). -/
def Dev.slotState (d : Dev) (s st : Nat) : Dev := d.modSlotNv s (fun x => { x with st := st, gen := (x.gen + 1) % 2 ^ 32 })

/-! Results (R799, R801, R812). -/

/-- TXN_RESULT. -/
def Dev.txnResult (d : Dev) (code : Nat) : Dev := d.wrN Reg.TXN_RESULT code

/-- A refusal of a command or a write with its code. (DEDUCED: notes/assumptions/99) -/
def Dev.txnRefuse (d : Dev) (code : Nat) : Dev := (d.txnResult code).raise Reg.TXN_INT_STATUS 1

/-- The staged image, none where there is none or its container is broken. -/
def Dev.staged (d : Dev) : Option Img := parseImg d.txn.staging

/-- A commit is refused: the failing record or zeros, the record, and the transaction is OPEN again. (DEDUCED: notes/assumptions/99) -/
def Dev.commitRefuse (d : Dev) (code sect rtype ofs : Nat) : Dev :=
  let d := (d.wrN Reg.TXN_ERR_SECT (sect + rtype * 65536)).wrN Reg.TXN_ERR_OFS ofs
  let ins := if d.txn.staging.length < 12 then 0 else beAt d.txn.staging 8 4
  let d := d.record 0x1402 (be 1 code ++ be 1 sect ++ be 2 rtype ++ be 4 ofs ++ be 4 ins ++ zeros 4)
  ({ d with txn := { d.txn with st := .opened, lastAt := d.tim.clk, loadReset := false } }).txnRefuse code

/-! Shadows, window records, staging (R791, R797, R798). -/

/-- The host delta of the open transaction: window records, then a REG_SET for each shadow (R791, R801). -/
def Dev.delta (d : Dev) : Bytes :=
  d.txn.windows.flatMap (fun w => recBytes w.1 w.2) ++
  d.txn.shadows.flatMap (fun x => recBytes 0x0101 (be 4 x.1 ++ be 4 x.2.toNat ++ be 4 (rwsMask x.1)))

/-- Bytes of shadows and window records. -/
def Dev.deltaLen (d : Dev) : Nat := 20 * d.txn.shadows.length + sumN (d.txn.windows.map (fun w => 8 + w.2.length + pad4 w.2.length))

/-- An RWS or window write through an interface is refused (R797): counted, and HOST_RWS_OFF where the DEVICE record says so. (DEDUCED: notes/assumptions/101) -/
def Dev.rwsRefused (d : Dev) (i : Iface) : Option Dev :=
  if d.device.isSome && !d.hostRws then some ((d.incS Reg.TXN_REFUSED_WR_CNT 1).txnRefuse 26)
  else if d.txn.st != .opened || d.txn.owner != some i then some (d.incS Reg.TXN_REFUSED_WR_CNT 1)
  else none

/-- The owner has made itself heard. -/
def Dev.txnTouch (d : Dev) : Dev := { d with txn := { d.txn with lastAt := d.tim.clk } }

/-- An RWS register shadowed by the owner of the open transaction (R798): the last value stands. (DEDUCED: notes/assumptions/96) -/
def Dev.shadowWrite (d : Dev) (a : Nat) (v : Word) : Dev :=
  let v := v &&& w32 (rwsMask a)
  if d.txn.shadows.any (fun (x : Nat × Word) => x.1 == a) then
    ({ d with txn := { d.txn with shadows := d.txn.shadows.map (fun (x : Nat × Word) => if x.1 = a then (a, v) else x) } }).txnTouch
  else if 1048576 < d.deltaLen + 20 then d.txnRefuse 25
  else ({ d with txn := { d.txn with shadows := d.txn.shadows ++ [(a, v)] } }).txnTouch

/-- A word of a window record written by the owner: the record as shadowed, or in force, or empty with its key (R791, R798). -/
def Dev.windowWrite (d : Dev) (typ key : Nat) (dflt : Bytes) (ofs : Nat) (b : Bytes) : Dev :=
  let mine (w : Nat × Bytes) : Bool := w.1 == typ && recKey typ w.2 == key
  match d.txn.windows.find? mine with
  | some _ =>
    ({ d with txn := { d.txn with windows := d.txn.windows.map (fun w => if mine w then (typ, patch w.2 ofs b) else w) } }).txnTouch
  | none =>
    let body := patch ((d.recOf typ key).getD dflt) ofs b
    if 1048576 < d.deltaLen + 8 + body.length + pad4 body.length then d.txnRefuse 25
    else ({ d with txn := { d.txn with windows := d.txn.windows ++ [(typ, body)] } }).txnTouch

/-- TXN_IMG_WDATA (R798, R813). (DEDUCED: notes/assumptions/100) -/
def Dev.imgWdata (d : Dev) (i : Iface) (v : Word) : Dev :=
  if d.txn.st != .opened then d.txnRefuse 16
  else if d.txn.owner != some i then d.txnRefuse 17
  else if 8388608 < d.txn.staging.length + 4 then d.txnRefuse 25
  else ({ d with txn := { d.txn with staging := d.txn.staging ++ be 4 v.toNat } }).txnTouch

/-! Commands (R799, R809, R814). -/

/-- The transaction ends: shadows and staging discarded. -/
def Dev.txnDiscard (d : Dev) : Dev :=
  { d with txn := { d.txn with st := .idle, owner := none, shadows := [], windows := [], staging := [], restored := false, loadReset := false } }

/-- BEGIN. (DEDUCED: notes/assumptions/102) -/
def Dev.txnBegin (d : Dev) (i : Iface) (resume : Bool) : Dev :=
  if d.txn.st = .idle then
    let d := d.txnDiscard
    ({ d with txn := { d.txn with st := .opened, owner := some i, lastAt := d.tim.clk, timeout := d.fld Reg.TXN_TIMEOUT 11 0 } }).txnResult 0
  else if d.txn.restored && d.txn.owner.isNone && resume then
    ({ d with txn := { d.txn with owner := some i, lastAt := d.tim.clk, timeout := d.fld Reg.TXN_TIMEOUT 11 0 } }).txnResult 0
  else d.txnRefuse 17

/-- COMMIT, and LOAD_RESET (R796), which stores under the same rules. -/
def Dev.txnCommit (d : Dev) (load : Bool) : Dev :=
  if d.txn.st != .opened then d.txnRefuse 16
  else if d.txn.probation.isSome then d.txnRefuse 27
  else if d.txn.staging = [] && d.txn.shadows = [] && d.txn.windows = [] then d.txnRefuse 34
  else ({ d with txn := { d.txn with st := .validating, loadReset := load } }).txnResult 0

/-- ROLLBACK. -/
def Dev.txnRollback (d : Dev) : Dev := if d.txn.st = .opened then d.txnDiscard.txnResult 0 else d.txnRefuse 16

/-- LOAD_IMAGE: TXN_IMG_LEN bytes of host memory become the staged image. (DEDUCED: notes/assumptions/100) -/
def Dev.txnLoadImage (d : Dev) : Dev :=
  let n := d.fld Reg.TXN_IMG_LEN 23 0
  if d.txn.st != .opened then d.txnRefuse 16
  else if 8388608 < n then d.txnRefuse 25
  else if d.dma then
    ({ d with txn := { d.txn with staging := d.dmaRead (d.rd64 Reg.TXN_IMG_BASE_LO Reg.TXN_IMG_BASE_HI) n } }).txnTouch.txnResult 0
  else d

/-- CLEAR_STAGING. -/
def Dev.txnClear (d : Dev) : Dev :=
  if d.txn.st = .opened then ({ d with txn := { d.txn with staging := [] } }).txnTouch.txnResult 0 else d.txnRefuse 16

/-- CONFIRM: at the next boundary, during probation or for a slot that has stayed in PROBATION (R809). (DEDUCED: notes/assumptions/103) -/
def Dev.txnConfirm (d : Dev) : Dev :=
  if d.txn.probation.isSome || d.txn.stayed then { d with txn := { d.txn with confirmReq := true } } else d

/-- REVERT (R809); its interface is the SOURCE of the record. -/
def Dev.txnRevert (d : Dev) (i : Iface) : Dev :=
  let o := d.otherSlot
  if d.txn.inForce.isNone then d.txnRefuse 36
  else if d.txn.probation.isSome then
    if d.qualifies o then { d with txn := { d.txn with rollback := some (d.txn.rollback.getD 8) } } else d.txnRefuse 36
  else if (d.nvSlot o).st = 2 then { d with txn := { d.txn with revertReq := true, source := if i = .spi then 1 else 0 } }
  else d.txnRefuse 36

/-- TXN_CMD (R797, R799, R814): OP and RESUME through an interface. (DEDUCED: notes/assumptions/99) -/
def Dev.txnCmd (d : Dev) (i : Iface) (v : Word) : Dev :=
  let op := bits v 3 0
  let mine := d.txn.owner == some i
  if op = 0 || 8 < op then d.txnRefuse 37
  else if op = 1 then d.txnBegin i (bit v 4)
  else if d.txn.st != .idle && !mine then d.txnRefuse 17
  else
    let d := if d.txn.st = .opened then d.txnTouch else d
    if op = 2 then d.txnCommit false
    else if op = 3 then d.txnRollback
    else if op = 4 then d.txnLoadImage
    else if op = 5 then d.txnClear
    else if op = 6 then d.txnConfirm
    else if op = 7 then d.txnRevert i
    else d.txnCommit true

/-- TXN_TIMEOUT_EXPIRY: nothing from the owner for TXN_TIMEOUT seconds. (DEDUCED: notes/assumptions/102) -/
def Dev.txnExpire (d : Dev) : Dev :=
  if d.txn.st = .opened && d.txn.owner.isSome && decide (d.txn.lastAt + ticksSec d.txn.timeout ≤ d.tim.clk) then
    (d.txnDiscard.txnResult 32).raise Reg.TXN_INT_STATUS 4
  else d

/-! Validation (R795, R800, R801, R815). -/

/-- The elements that the transaction adds to the chain: the staged image, then the host delta. -/
def Dev.newElems (d : Dev) : List (Nat × Bytes) :=
  (match d.staged with | some m => [(if m.partial' then 1 else 0, d.txn.staging)] | none => []) ++
  (if d.txn.shadows = [] && d.txn.windows = [] then [] else [(2, d.delta)])

/-- The chain of a commit: a full image begins a new one (R790). -/
def chainWith (old new : List (Nat × Bytes)) : List (Nat × Bytes) := if new.any (fun e => e.1 == 0) then new else old ++ new

/-- The chain in force. -/
def Dev.chainNow (d : Dev) : List (Nat × Bytes) := match d.txn.inForce with | some s => (d.nvSlot s).elems | none => []

/-- Instar of the commit (R795). -/
def Dev.newInstar (d : Dev) : Nat := match d.staged with | some m => m.instar | none => d.nv.instarHigh + 1

/-- A record in the order of application: what it sets, section, type, offset (R801, R804). -/
def appliedRec (typ ofs : Nat) (body : Bytes) : List Ref × Nat × Nat × Nat :=
  let k := recKey typ body
  ((if typ = 0x0101 then [Ref.reg k] else (cfgRegs ⟨typ, k, body⟩).map (fun x => Ref.reg x.1)) ++ [Ref.entry typ k], typ / 256, typ, ofs)

/-- The records of the transaction in the order of application. -/
def Dev.appliedRecs (d : Dev) : List (List Ref × Nat × Nat × Nat) :=
  (match d.staged with
   | some m => (m.secs.flatMap (·.recs)).map (fun r => appliedRec r.typ r.ofs r.body)
   | none => []) ++
  ((parseRecs d.delta.length 0 d.delta).getD []).map (fun r => appliedRec r.typ (r.ofs + 2 ^ 31) r.body)

/-- The failing record: of those involved, the last in the order of application. (DEDUCED: notes/assumptions/98) -/
def Dev.failingRec (d : Dev) (f : Failing) : Nat × Nat × Nat :=
  match (d.appliedRecs.filter (fun x => x.1.any (fun y => f.contains y))).getLast? with
  | some x => x.2
  | none => (0, 0, 0)

/-- The candidate machine with a configuration, and the rules it breaks. -/
def Dev.breaks (d : Dev) (cfg : List CfgRec) (pupa : Bool) : List Failing := (d.takeCfg cfg).failing d pupa

/-- The first check that a commit fails: its code and record. (DEDUCED: notes/assumptions/103) -/
def Dev.commitCheck (d : Dev) : Option (Nat × Nat × Nat × Nat) :=
  let none' (c : Nat) : Option (Nat × Nat × Nat × Nat) := some (c, 0, 0, 0)
  let img := d.staged
  let chain := chainWith d.chainNow d.newElems
  let full := match img with | some m => !m.partial' | none => false
  let pupa := d.boot == 2
  let s := d.txn.staging
  if s != [] && img.isNone then none' 18
  else if s != [] && (beAt s 6 2 != 0x6192 || ((s.drop 32).take 16 != zeros 16 && (s.drop 32).take 16 != d.nv.fuses.devId)) then none' 21
  else if s != [] && d.cfgAuthority.isNone then none' 20
  else if s != [] && !imgSigned (d.cfgAuthority.getD []) s then none' 19
  else if (match img with | some m => decide (m.instar ≤ d.nv.instarHigh) || (m.partial' && m.base != d.txn.instar) | none => false) then none' 22
  else
    let cfg := cfgChain chain
    let dev := ((cfg.find? (fun r => r.typ == 0x0100)).map (·.body)).getD []
    let differs := beAt dev 0 2 != d.rate || beAt dev 2 1 != d.f0
    if full && d.running && !d.txn.loadReset && differs && dev != [] then none' 24
    else if pupa && (!full || d.txn.shadows != [] || d.txn.windows != []) then none' 35
    else if 16 < chain.length || 8388608 < elemsLen chain then none' 25
    else
      match d.breaks cfg (pupa || (d.txn.loadReset && full)) with
      | f :: _ => let (a, b, c) := d.failingRec f; some (23, a, b, c)
      | [] => none

/-- TXN_VALIDATION_DONE: the commit is refused, or the slot not in force is written (R799, R802). -/
def Dev.txnValidated (d : Dev) : Dev :=
  if d.txn.st != .validating || d.pfHeld then d
  else
    match d.commitCheck with
    | some (c, a, b, o) => d.commitRefuse c a b o
    | none => ({ d with txn := { d.txn with st := .storing } }).modSlotNv d.otherSlot (fun x => { x with st := 0, instar := d.newInstar })

/-! The store and the boundary (R802, R803, R805). -/

/-- The first wingbeat boundary at or after an output time in ns, as WB_SEQ. -/
def firstBoundary (rate ns : Nat) : Nat := ns / 1000000000 * rate + cdiv (ns % 1000000000 * rate) 1000000000

/-- TXN_AT. -/
def Dev.txnAt (d : Dev) : Nat := d.rd64 Reg.TXN_AT_LO Reg.TXN_AT_HI

/-- A TXN frame to the twin (R744). (DEDUCED: notes/assumptions/104) -/
def Dev.txnFrame (d : Dev) (phase instar boundary : Nat) (hash : Bytes) : Dev :=
  (d.ozSend d.ozLane 5 (be 1 phase ++ zeros 3 ++ be 4 instar ++ be 8 boundary ++ fit 32 hash)).2

/-- The commit is acknowledged (R799): its instar counts as committed (R795). -/
def Dev.commitAccept (d : Dev) : Dev :=
  let x := d.nvSlot d.otherSlot
  (({ d with nv := { d.nv with instarHigh := max d.nv.instarHigh x.instar } }) |> fun (d : Dev) => { d with txn := { d.txn with st := .scheduled } }).txnResult 1

/-- KIND of a commit (R812). -/
def commitKind (elems : List (Nat × Bytes)) : Nat :=
  if elems.any (fun e => e.1 == 0) then 0 else if elems.all (fun e => e.1 == 2) then 2 else if elems.any (fun e => e.1 == 2) then 3 else 1

/-- The elements of a commit written to the slot not in force, in PROBATION. -/
def Dev.slotWrite (d : Dev) (chain : List (Nat × Bytes)) (instar : Nat) : Dev :=
  let g := (d.nvSlot (1 - d.otherSlot)).gen
  d.modSlotNv d.otherSlot (fun _ => ⟨1, instar, (g + 1) % 2 ^ 32, chain, Config.sha256 (chainBytes chain)⟩)

/-- TXN_STORE_DONE: what follows besides: 1 the image applies in pupa, 2 a reset into pupa. (DEDUCED: notes/assumptions/103) -/
def Dev.txnStored (d : Dev) (ok : Bool) : Nat × Dev :=
  if d.txn.st != .storing then (0, d)
  else if !ok then (0, d.commitRefuse 30 0 0 0)
  else
    let chain := chainWith d.chainNow d.newElems
    let kind := commitKind d.newElems
    let d := d.slotWrite chain d.newInstar
    let x := d.nvSlot d.otherSlot
    let d := { d with txn := { d.txn with kind := kind, source := if d.boot = 2 then 3 else if d.txn.owner = some Iface.spi then 1 else 0 } }
    if d.txn.loadReset then (2, d.commitAccept)
    else if d.boot = 2 then (1, d.commitAccept)
    else
      let pair := d.units.paired && d.units.twinCurrent
      let store := 10000000 + cdiv (elemsLen chain * 1000000000) 25165824
      let b0 := firstBoundary d.rate (d.ns + (if pair then 60000000 + store else 2000000))
      let at' := d.txnAt
      if at' ≠ 0 ∧ at' < b0 then (0, (d.slotState d.otherSlot 3).commitRefuse 33 0 0 0)
      else
        let d := { d with txn := { d.txn with boundary := max b0 at' } }
        if pair then
          let d := { d with txn := { d.txn with st := .preparing, prepAt := d.tim.clk } }
          (0, d.txnFrame 1 x.instar d.txn.boundary x.hash)
        else (0, d.commitAccept)

/-- PWRFAIL_N falls during the store: the slot is left invalid (R799). -/
def Dev.txnPowerFail (d : Dev) : Dev := if d.txn.st = .storing then d.commitRefuse 31 0 0 0 else d

/-! The exchange of twins (R737, R799). -/

/-- TXN_ACK. -/
def Dev.txnAck (d : Dev) (l : Nat) (b : Bytes) : Dev :=
  match d.ozReceive l b with
  | (some (5, _, _, p), d) =>
    if d.txn.st = .preparing && byteAt p 0 = 2 && beAt p 4 4 == (d.nvSlot d.otherSlot).instar then d.commitAccept else d
  | (_, d) => d

/-- A commit that the twin has not agreed to. -/
def Dev.twinNak (d : Dev) : Dev := (d.slotState d.otherSlot 3).commitRefuse 28 0 0 0

/-- TXN_NAK. -/
def Dev.txnNak (d : Dev) (l : Nat) (b : Bytes) : Dev :=
  match d.ozReceive l b with
  | (some (5, _, _, p), d) => if d.txn.st = .preparing && byteAt p 0 = 3 && beAt p 4 4 == (d.nvSlot d.otherSlot).instar then d.twinNak else d
  | (_, d) => d

/-- TWIN_PREPARE_TIMEOUT: no answer within 50 ms. (DEDUCED: notes/assumptions/104) -/
def Dev.prepareTimeout (d : Dev) : Dev :=
  if d.txn.st = .preparing && decide (d.txn.prepAt + ticksMs 50 ≤ d.tim.clk) then
    let x := d.nvSlot d.otherSlot
    let d := if d.ozUp then d.txnFrame 4 x.instar d.txn.boundary x.hash else d
    d.twinNak
  else d

/-- TXN_PREPARE: the standby twin, which has received the commit's elements, validates and answers; ABORT undoes what it has agreed to. Do the twins' roots
agree (R700)? (DEDUCED: notes/assumptions/104) -/
def Dev.txnPrepare (d : Dev) (l : Nat) (b : Bytes) (elems : List (Nat × Bytes)) (rootsOk : Bool) : Dev :=
  match d.ozReceive l b with
  | (some (5, _, _, p), d) =>
    let instar := beAt p 4 4
    let bound := beAt p 8 8
    let hash := (p.drop 16).take 32
    if d.activeTwin then d
    else if byteAt p 0 = 1 then
      let chain := chainWith d.chainNow elems
      let signed := elems.all (fun e => e.1 == 2 || (match d.cfgAuthority with | some pub => imgSigned pub e.2 | none => false))
      if d.txn.st = .idle && rootsOk && signed && Config.sha256 (chainBytes chain) == hash && decide (d.nv.instarHigh < instar) &&
          (d.breaks (cfgChain chain) false).isEmpty then
        let d := d.slotWrite chain instar
        let d := { d with txn := { d.txn with st := .scheduled, boundary := bound, kind := commitKind elems, source := 2 } }
        let d := { d with nv := { d.nv with instarHigh := max d.nv.instarHigh instar } }
        d.txnFrame 2 instar bound hash
      else d.txnFrame 3 instar bound hash
    else if byteAt p 0 = 4 && d.txn.st = .scheduled && d.txn.source = 2 && (d.nvSlot d.otherSlot).instar == instar then
      (d.slotState d.otherSlot 3).txnDiscard
    else d
  | (_, d) => d

/-- A takeover refuses a commit that has not been acknowledged (R724, R799). -/
def Dev.txnTakeover (d : Dev) : Dev :=
  if d.txn.st = .validating then d.commitRefuse 29 0 0 0
  else if d.txn.st = .storing then d.commitRefuse 29 0 0 0
  else if d.txn.st = .preparing then (d.slotState d.otherSlot 3).commitRefuse 29 0 0 0
  else d

/-! Application (R788, R804 to R809). -/

/-- The configuration of a slot in force; the caller says what follows it. -/
def Dev.slotForce (d : Dev) (s : Nat) : Dev :=
  let d := d.takeCfg (cfgChain (d.nvSlot s).elems)
  { d with txn := { d.txn with inForce := some s, instar := (d.nvSlot s).instar }, nv := { d.nv with inForce := s } }

/-- TXN_PROBATION and TXN_TIMEOUT from the DEVICE record (R788). -/
def Dev.devLoad (d : Dev) : Dev := match d.device with | some b => d.wrN Reg.TXN_TIMEOUT (beAt b 14 2) | none => d

/-- Do the records of elements carry one that satisfies a test? -/
def elemsCarry (elems : List (Nat × Bytes)) (f : ImgRec → Bool) : Bool :=
  elems.any (fun e => if e.1 = 2 then ((parseRecs e.2.length 0 e.2).getD []).any f
    else match parseImg e.2 with | some m => m.secs.any (fun s => s.recs.any f) | none => false)

/-- The elements by which a slot's chain differs from the chain in force. -/
def Dev.addedElems (d : Dev) (s : Nat) : List (Nat × Bytes) :=
  let l := (d.nvSlot s).elems
  if l.take d.chainNow.length == d.chainNow then l.drop d.chainNow.length else l

/-- TXN_APPLIED (R812). -/
def Dev.appliedRecord (d : Dev) (prev kind source : Nat) : Dev :=
  (d.record 0x1401 (be 4 d.txn.instar ++ be 4 prev ++ be 1 kind ++ be 1 source ++ zeros 6 ++ be 8 d.wbSeq)).raise Reg.TXN_INT_STATUS 0

/-- Probation ends: OUTCOME and CAUSE of R812. -/
def Dev.probationRecord (d : Dev) (outcome cause : Nat) : Dev :=
  let d := d.record 0x1403 (be 4 d.txn.instar ++ be 1 outcome ++ be 1 cause ++ zeros 2 ++ be 8 d.wbSeq)
  { d with txn := { d.txn with probation := none, probWait := false, confirmReq := false, rollback := none } }

/-- The slot in force is CONFIRMED (R809): OUTCOME 0 count ended, 1 CONFIRM. -/
def Dev.slotConfirm (d : Dev) (outcome : Nat) : Dev :=
  match d.txn.inForce with
  | some s =>
    let was := d.txn.probation.isSome
    let d := (d.slotState s 2).txnResult 3
    let d := { d with txn := { d.txn with confirmReq := false, stayed := false } }
    ((if was then d.probationRecord outcome 0 else d)).raise Reg.TXN_INT_STATUS 2
  | none => d

/-- Probation begins with a number of wingbeats (R807): 0 confirms at once. (DEDUCED: notes/assumptions/105) -/
def Dev.probationStart (d : Dev) (n : Nat) (wait : Bool) : Dev :=
  let d := { d with txn := { d.txn with probation := some n, probWait := wait, rollback := none, confirmReq := false, stayed := false } }
  if n = 0 && !wait then d.slotConfirm 0 else d

/-- The scheduled commit applies at its boundary (R804, R807). -/
def Dev.commitApply (d : Dev) : Dev :=
  let old := d
  let s := d.otherSlot
  let added := d.addedElems s
  let prob := d.fld Reg.TXN_PROBATION 15 0
  let carries := elemsCarry added (fun r => r.typ == 0x0100 && !r.del)
  let own := elemsCarry added (fun r => r.typ == 0x0101 && recKey 0x0101 r.body == Reg.TXN_PROBATION)
  let d := d.slotForce s
  let d := if carries then d.devLoad else d
  let d := if carries && !own then (match d.device with | some b => d.setRws Reg.TXN_PROBATION (beAt b 12 2) 0xFFFF | none => d) else d
  let d := ((d.followCfg old).appliedRecord old.txn.instar d.txn.kind d.txn.source).txnDiscard.txnResult 2
  d.probationStart prob false

/-- The other slot in force with its rate: false when RATE or F0 differs and the wings must pass through pupa (R808). -/
def Dev.slotBack (d : Dev) (s : Nat) : Bool × Dev :=
  let dev := (((cfgChain (d.nvSlot s).elems).find? (fun r => r.typ == 0x0100)).map (·.body)).getD []
  if beAt dev 0 2 = d.rate && beAt dev 2 1 = d.f0 then (false, (d.slotForce s).followCfg d) else (true, d)

/-- A roll-back (R808): does a reset into pupa follow? -/
def Dev.rollBack (d : Dev) (cause : Nat) : Bool × Dev :=
  match d.txn.inForce with
  | none => (false, d)
  | some s =>
    let o := 1 - s
    if d.qualifies o then
      let d := ((d.slotState s 3).probationRecord 2 cause).txnResult 4 |>.raise Reg.TXN_INT_STATUS 3
      d.slotBack o
    else
      let d := d.probationRecord 3 cause
      (false, { d with txn := { d.txn with stayed := true } })

/-- REVERT at its boundary (R809). (DEDUCED: notes/assumptions/105) -/
def Dev.revertApply (d : Dev) : Bool × Dev :=
  let prev := d.txn.instar
  let d := { d with txn := { d.txn with revertReq := false } }
  let (reset, d) := d.slotBack d.otherSlot
  if reset then (true, d)
  else (false, ({ d with txn := { d.txn with stayed := false } }.appliedRecord prev 4 d.txn.source).txnResult 2)

/-- What the transactions do in action 3 of a boundary: roll-back, CONFIRM, REVERT, the scheduled commit, and a wingbeat of probation. (DEDUCED: notes/assumptions/105) -/
def Dev.txnBoundary (d : Dev) : Bool × Dev :=
  let run := d.txn.probation.isSome
  match d.txn.rollback with
  | some c => if run then d.rollBack c else (false, { d with txn := { d.txn with rollback := none } })
  | none =>
    if d.txn.confirmReq then (false, d.slotConfirm 1)
    else
      let (reset, d) := if d.txn.revertReq then d.revertApply else (false, d)
      if reset then (true, d)
      else if d.txn.st = .scheduled && decide (d.txn.boundary ≤ d.wbSeq) then (false, d.commitApply)
      else
        match d.txn.probation with
        | some n =>
          if d.txn.probWait then (false, if d.running then { d with txn := { d.txn with probWait := false } } else d)
          else (false, { d with txn := { d.txn with probation := some (n - 1) } })
        | none => (false, d)

/-- PROBATION_END: the count has run out (R807, R809). (DEDUCED: notes/assumptions/105) -/
def Dev.probationEnd (d : Dev) : Dev :=
  if d.txn.probation = some 0 && !d.txn.probWait && d.txn.rollback.isNone then d.slotConfirm 0 else d

/-! Registers (R813, R814). -/

/-- STATE of TXN_STATUS. -/
def txnCode : TxnSt → Nat
  | .idle => 0
  | .opened => 1
  | .validating => 2
  | .storing => 3
  | .preparing => 4
  | .scheduled => 5

/-- Registers of the TXN block that show its state. (DEDUCED: notes/assumptions/160) -/
def Dev.txnReg (d : Dev) (a : Nat) : Option Word :=
  let x := d.txn
  if a = Reg.TXN_STATUS then
    some (w32 (txnCode x.st + (if x.owner = some Iface.spi then 8 else 0) + 16 * b2n x.probation.isSome + 32 * b2n x.restored
      + 64 * (x.inForce.getD d.nv.inForce) + 128 * b2n d.hostRws))
  else if a = Reg.TXN_INSTAR then some (w32 x.instar)
  else if a = Reg.TXN_INSTAR_HIGH then some (w32 d.nv.instarHigh)
  else if a = Reg.TXN_PROB_LEFT then some (w32 ((x.probation.getD 0) % 65536))
  else if a = Reg.TXN_BOUNDARY_LO then some (w32 x.boundary)
  else if a = Reg.TXN_BOUNDARY_HI then some (w32 (x.boundary / 2 ^ 32))
  else if a = Reg.TXN_STAGED then some (w32 x.staging.length)
  else if a = Reg.TXN_SHADOW_BYTES then some (w32 d.deltaLen)
  else
    ((List.range 2).flatMap (fun s =>
      let y := d.nvSlot s
      [(Reg.TXN_SLOT_STATUS s, y.st % 4 + (if y.st = 0 then 0 else 4 * (y.elems.length % 32))), (Reg.TXN_SLOT_INSTAR s, y.instar),
       (Reg.TXN_SLOT_LEN s, elemsLen y.elems), (Reg.TXN_SLOT_GEN s, y.gen)])).findSome? (fun y => if y.1 = a then some (w32 y.2) else none)

end Sys2Proof.Machine
end

