-- ==== Sys2Proof/Machine/Boundary.lean ====
section
/-! DEFINITION. Sys2Proof/Machine/Boundary.lean: a takeover at its instant, and the ordered actions of a wingbeat boundary, of a flutter
boundary and of a tracked-cycle boundary (R62, R43, R722 to R724, R730). -/

namespace Sys2Proof.Machine

/-! Takeover. -/

/-- The wing that claims at a takeover: the other wing, or in the standby twin the lower-numbered healthy wing (R712). -/
def Dev.takeoverWing (d : Dev) (u : Due) : Nat :=
  if u.twin then (if d.units.w0.role = .active || d.units.w0.role = .standby then 0 else 1) else 1 - u.old

/-- The recorder continues on the new active wing (R668): its own records that were never mirrored enter first, from the last SEQ of its mirror. (DEDUCED: notes/assumptions/137) -/
def Dev.recTakeover (d : Dev) : Dev :=
  if d.evr.ready then
    { d with evr := { d.evr with
        intake := d.evr.standbyHeld.map (fun x => .record x.2), standbyHeld := [], mirroring := [], nextSeq := d.evr.mirrorNext } }
  else d

/-- The bytes of a held stream frame from its parts (R744). -/
def heldBytes (l : List Held) (h : Held) : Bytes :=
  ((l.filter (fun x => x.out == h.out && x.seq == h.seq)).mergeSort (fun a b => decide (a.frag ≤ b.frag))).flatMap (·.bytes)

/-- Stream frames that the failed twin may not have sent, byte for byte in the order of their sequences (R730). -/
def Dev.sendHeld (d : Dev) : Dev :=
  let l := d.units.heldFrames
  ((l.filter (fun h => h.frag == 0)).mergeSort (fun a b => decide (a.seq ≤ b.seq))).foldl
    (fun (d : Dev) h => (d.udpStream (h.out - 16) 5 (heldBytes l h)).foldl (fun (d : Dev) a => d.act a) d)
    { d with units := { d.units with heldFrames := [] } }

/-- A healthy wing sees at the arbiter that the other wing holds a higher claim, and stands down into RESYNC (R712, R740). (DEDUCED: notes/assumptions/159) -/
def Dev.wingStandsDown (d : Dev) (own : Nat) : Dev :=
  let d := (d.record 0x1204 (be 4 own ++ be 4 d.units.claim ++ zeros 8)).raise Reg.WNG_INT_STATUS 3
  ({ d with units := { d.units with resyncAt := d.tim.clk } }).wrN Reg.WNG_RESYNC_PROG 0

/-- The takeover that is due happens now (R505, R668, R711, R722 to R724, R730, R837). (DEDUCED: notes/assumptions/137, 159) -/
def Dev.takeoverNow (d : Dev) : Dev :=
  match d.units.due with
  | none => d
  | some u =>
    let w := d.takeoverWing u
    let old := if u.twin then d.units.peerClaim else d.units.claim
    let d := { d with units := { d.units with due := none, switchReq := false, redundant := false, matching := 0 } }
    let d := d.claimBy w
    let down := !u.twin && (d.wing (1 - w)).role == .active
    let d := d.modWing (1 - w) (fun x => if x.role = .active then { x with role := if u.twin then .standby else .resync } else x)
    let d := if u.twin then d.sendHeld.gooseContinue else d.recTakeover
    let d := if down then d.wingStandsDown old else d
    let d := d.reassert.flushOuts
    let d := d.performReady (d.ws w).early.length
    let d := if u.twin then d else (d.cmpTakeover w).hostReplay
    let d := if u.twin then d else d.keyTakeover
    let d := ((d.record 0x1201 (be 4 old ++ be 4 d.units.claim ++ be 1 u.cause ++ be 1 (b2n u.twin) ++ zeros 6 ++ be 8 d.wbSeq)).inc
      Reg.WNG_TAKEOVER_CNT 1).raise Reg.WNG_INT_STATUS 0
    d.txnTakeover.beaconSend.reviewRun

/-- TAKEOVER: the heartbeat tick of R722 has come. -/
def Dev.takeoverDue (d : Dev) : Dev :=
  match d.units.due with
  | some u =>
    match u.at' with
    | some c => if c ≤ d.tim.clk then d.takeoverNow else d
    | none => d
  | none => d

/-! The wingbeat boundary. -/

/-- The instar stages K_DIGEST (R719): one of its PIPE_STAGE records names it. -/
def Dev.stagesDigest (d : Dev) : Bool := (d.recs 0x0C03).any (fun r => beAt r.body 4 2 == 0x13)

/-- Did a slot close at the opening boundary of wingbeat n? -/
def Dev.closedAt (d : Dev) (n : Nat) : Bool :=
  (d.roost.slow ++ d.roost.ring.map (·.2)).any (fun s => !s.opened && s.closeWb == n && s.closeAt != 0)

/-- Action 1: the overrun check of the closing wingbeat, and the comparison of its digests (R59, R60, R719, R720). -/
def Dev.boundaryCheck (d : Dev) (n : Nat) (dig : Option DigestIn) : Dev :=
  let (late, d) := d.overrunCheck n
  let d := if late then d.trouble 1 else d
  match dig with
  | some x => if d.hasStandby && d.stagesDigest then d.digestCompare x.n x.w0 x.w1 x.mask x.differ else d
  | none => if d.hasStandby && d.stagesDigest && d.closedAt n then d.digestMissing n else d

/-- Action 2: the claim change of a takeover that is due at the boundary (R60, R722, R740). -/
def Dev.boundaryClaim (d : Dev) : Dev :=
  match d.units.due with
  | some u => if u.at'.isNone then d.takeoverNow else d
  | none =>
    if d.units.switchReq && d.hasStandby && d.units.holder.isSome then
      ({ d with units := { d.units with due := some ⟨10, d.active, false, none⟩ } }).takeoverNow
    else { d with units := { d.units with switchReq := false } }

/-- Action 3: key changes, forcing, and transactions, given the machine before the boundary. Does a reset into pupa follow? -/
def Dev.boundaryCommit (d old : Dev) : Bool × Dev :=
  let d := { d with pins := { d.pins with pwrHold := false } }
  let d := (d.keyBoundary.forceWide d.boundaryN).probWatch old
  let (reset, d) := d.txnBoundary
  (reset, d.lpWingbeat.reviewPair)

/-- One slot closes, with all that reads it (R62 action 5, R399, R439, R479, R513, R534). (DEDUCED: notes/assumptions/76) -/
def Dev.closeOne (d : Dev) (n : Nat) : Dev :=
  (((((d.slotClose n).buildStreams n).oscUpdate n).islUpdate n).ackItems n).releaseCrit 0 n

/-- Action 5: loop-backs that were asked for, slot closes, and what waits for a boundary. -/
def Dev.boundarySlots (d : Dev) : Dev :=
  let d := d.loopBoundary
  let due := d.dueSlots
  let n := d.boundaryN
  let d := due.foldl (fun (d : Dev) n => d.closeOne n) d
  (((d.islBoundary n (due != [])).c37Boundary).slotOpen).dispatchAll

/-- WINGBEAT_BOUNDARY (R62): the actions in their order. `dig` holds the digests compared in the closing wingbeat: the slot, both digests, the mask of the
sub-digests that differ and the safety objects whose flags differ with the flag of wing 0. Does a reset into pupa follow (R808)? (DESIGN CHOICE: notes/assumptions/5) -/
def Dev.wingbeat (d : Dev) (dig : Option DigestIn) : Bool × Dev :=
  if d.rate = 0 || d.boot < 3 || !d.boundaryDue then (false, d)
  else
    let old := d
    let n := d.wbSeq
    let d := ((d.gridStep.boundaryCheck n dig).moveItems n).boundaryClaim
    let d := d.performReady 65536
    let (reset, d) := d.boundaryCommit old
    if reset then (true, d)
    else (false, (d.domainSwitch.gridNote.boundarySlots).statsAll n)

/-! Flutter and tracked cycle. -/

/-- TRACKED_CYCLE_BOUNDARY, once at every 128th sample tick of the grid (R43, R275, R276, R266). (DESIGN CHOICE: notes/assumptions/174) -/
def Dev.trackedCycle (d : Dev) : Dev :=
  if d.loc.ticks % 128 ≠ 0 || d.loc.ticks = d.loc.cycAt then d else
  let d := { d with loc := { d.loc with cycles := d.loc.cycles + 1, cycAt := d.loc.ticks } }
  let d := foldUp 192 (fun n (d : Dev) => d.sswCycle n) d
  d.detCycle.aoAll.busFlush

/-- FLUTTER_BOUNDARY, once at every 16th sample tick of the grid (R43): low-power entry, waiting writes, the tracker, phasors and what reads them, detectors with their forcing, checks, GOOSE, and the
comparisons of chapter 19. `cks` holds the integrals of the check converters whose frame has ended, `sense` the levels at AO_SENSE0 to 15, `mis` what
the wings' flutter digests differ in (DET_DIFF, flags of wing 0). (DESIGN CHOICE: notes/assumptions/174) -/
def Dev.flutter (d : Dev) (cks : List (Nat × (Int × Int))) (sense : Nat) (mis : Option (Nat × Nat)) : Dev :=
  if d.loc.ticks % 16 ≠ 0 || d.loc.ticks = d.loc.flutAt then d else
  let d := { d with loc := { d.loc with flutAt := d.loc.ticks } }
  let d := (d.lpFlutter.acqTailApply.aoUnlatchApply).trkFlutter
  let d := foldUp 256 (fun n (d : Dev) => d.phsFlutter n) d
  let d := foldUp 256 (fun n (d : Dev) => d.deliver n) d
  let d := d.detFlutter.forceDet.aoAll
  let d := ((d.ckFlutter cks).gooseAll.partnerCompare.aoReadback sense).flutterDigest mis
  let d := ((d.aoShow sense).releaseCrit 1 ((d.roost.closed).getD 0)).dispatchAll
  if d.loc.ticks % 128 = 0 then d else d.busFlush

end Sys2Proof.Machine
end

