-- ==== Sys2Proof/Machine/Boot.lean ====
section
/-! DEFINITION. Sys2Proof/Machine/Boot.lean: resets, bring-up, power failure and the endpoint (R39, R73, R792, R805, R811, R820, R839 to
R850, R899 to R904, R924). -/

namespace Sys2Proof.Machine

/-! The PCIe endpoint. -/

/-- The host ring registers at their reset values (R820). -/
def Dev.clearRings (d : Dev) : Dev :=
  { d with
    regs := d.regs.filter (fun x => !(decide (Reg.GLB_HR_CTL 0 ≤ x.1) && decide (x.1 ≤ Reg.GLB_HR_IDX_HI 7)))
    host := { d.host with rings := d.host.rings.map (fun (x : Nat × HostRing) => (x.1, { x.2.dropUnacked with phase := true })) } }

/-- An endpoint reset (R820): configuration space, MSI-X table and host ring registers are cleared; a function-level reset leaves the link up. -/
def Dev.endpointReset (d : Dev) (flr : Bool) : Dev :=
  let up := d.host.linkUp && flr
  let d := d.clearRings
  let d := { d with host := { d.host with msix := [], pba := 0, ringSent := 0, linkUp := up, d3hot := false } }
  let d := d.putB Reg.GLB_PCIE_STATUS 7 false
  if up then d else d.putF Reg.GLB_PCIE_STATUS 6 0 0

/-- PCIE_LINK_UP: link training completes at a speed code and a width. -/
def Dev.pcieUp (d : Dev) (speed width : Nat) : Dev :=
  if d.boot = 0 then d
  else
    let d := { d with host := { d.host with linkUp := true } }
    ((d.putB Reg.GLB_PCIE_STATUS 0 true).putF Reg.GLB_PCIE_STATUS 3 1 speed).putF Reg.GLB_PCIE_STATUS 6 4 width

/-- D3HOT_ENTRY and D3HOT_EXIT (R821). (DESIGN CHOICE: notes/assumptions/31) -/
def Dev.d3hot (d : Dev) (on : Bool) : Dev :=
  if d.host.linkUp then (({ d with host := { d.host with d3hot := on } }).putB Reg.GLB_PCIE_STATUS 7 on).msixPending else d

/-! Resets (R839). -/

/-- Outputs whose frames have not left every port: what the journal holds of them is those frames (R747). -/
def Dev.sending (d : Dev) : List Out :=
  let l := d.outFrames
  (l.filterMap (·.2.2.out)).eraseDups.map (fun o =>
    ⟨o.1, o.2, (l.filter (fun x => x.2.2.out == some o)).map (fun x => .frame x.1 x.2.1 x.2.2.bytes), []⟩)

/-- What the journal regions, the recorder ring and the DRAM test store of keys hold through a reset that keeps power (R669, R703, R746, R747): readable records, accepted reports of open
slots, outputs admitted and not sent, acknowledged host submissions, and the sequences of GOOSE blocks and command groups (R503). (DEDUCED: notes/assumptions/131, 132) -/
def Dev.keepJournal (new old : Dev) : Dev :=
  { new with
    key := if old.key.test then { new.key with store := old.key.store, test := true } else new.key
    evr := { new.evr with
      nextSeq := if old.evr.mirroring = [] then old.evr.nextSeq else old.evr.mirrorNext
      mirrorNext := old.evr.mirrorNext, dram := old.evr.dram, keepPending := old.evr.keepPending, floor := old.evr.floor
      cur0 := old.evr.floor, cur1 := old.evr.floor }
    units := { new.units with outs := old.sending ++ ((old.units.unacked.filter (fun x => !x.1.passed)).map (·.2)).eraseDups ++ old.units.outs }
    roost := { new.roost with
      slow := ((old.roost.ring.map (·.2)).filter (·.opened)).map (fun s => { s with opened := false, closeWb := s.n, closeAt := max s.closeAt 1 })
      goose := old.roost.goose }
    host := { new.host with rings := old.host.rings.map (fun (x : Nat × HostRing) =>
      (x.1, { HostRing.start with restored := (x.2.taken.filter (·.acked)).map (fun y => (y.desc, y.arg)) ++ x.2.restored })) } }

/-- The sequence of each command group is never reset: every reset keeps it, a power-on too (R503). A reset that keeps power keeps host demands and waiting
unlatches as submissions of the journal (R746, R747). (DEDUCED: notes/assumptions/131) -/
def Dev.keepCmds (new old : Dev) (power : Bool) : Dev :=
  { new with isl := { new.isl with
    cmds := (old.isl.cmds.map (fun x => (x.1, { CmdGrp.start with seq := x.2.seq, lastSeq := x.2.lastSeq, host := if power then x.2.host else (0, 0) }))).filter
      (fun x => x.2 != CmdGrp.start)
    host := { new.isl.host with unlatch := if power then old.isl.host.unlatch.map (fun u => (u.1, 0)) else [] } } }

/-- The device enters RESET for a reset with a CAUSE: 0 power-on, 1 board, 2 host, 3 load, 4 watchdog (R39, R839, R873, R924). (DEDUCED: notes/assumptions/126, 131) -/
def Dev.toReset (d : Dev) (cause : Nat) : Dev :=
  let d := d.loopsReset
  let pins : Pins := { d.pins with ppsOut := false, aoCmd := 0, aoReleased := 0, pwrHold := false }
  let new := Dev.fresh d.nv pins
  let new := { new with freeCtr := d.freeCtr, resetCtr := d.resetCtr + 1, host := { new.host with mem := d.host.mem, sent := d.host.sent } }
  let new := (if cause = 0 then new else new.keepJournal d).keepCmds d (cause != 0)
  ((new.putF Reg.GLB_BOOT_STATE 2 0 0).putB Reg.GLB_BOOT_STATE 6 (cause != 0)).putF Reg.GLB_RESET_CAUSE 3 0 cause

/-- The power-fail save is restored at a power-on that follows the power epoch in which it was made (R811, R845). (DEDUCED: notes/assumptions/134) -/
def Dev.restoreSave (d : Dev) : Dev :=
  let s := d.nv.save
  if s.valid && s.epoch + 1 = d.nv.powerEpoch then
    let d := if s.txnOpen then
        { d with txn := { d.txn with st := .opened, owner := none, restored := true, shadows := s.shadows, windows := s.windows, staging := s.staging } }
      else d
    let d := s.items.foldl (fun (d : Dev) x => d.modRing x.ring (fun g => { g with restored := g.restored ++ [(x.desc, x.arg)] })) d
    let d := s.demands.foldl (fun (d : Dev) x => d.modCmd x.1 (fun g => { g with host := x.2 })) d
    let d := { d with isl := { d.isl with host := { d.isl.host with unlatch := s.unlatches.map (fun g => (g, 0)) } } }
    (d.putB Reg.GLB_BOOT_STATE 5 true).raise Reg.GLB_INT_STATUS 4
  else d

/-- Entry to SELFTEST from RESET (R73, R74, R663, R846): a new power epoch, whose first record is POWER_EPOCH; the key store is loaded (R683, R702). (DEDUCED: notes/assumptions/132) -/
def Dev.enterSelftest (d : Dev) : Dev :=
  let cause := d.fld Reg.GLB_RESET_CAUSE 3 0
  let nv := { d.nv with
    powerEpoch := min (d.nv.powerEpoch + 1) 0xFFFFFFFF
    seqFloor := if cause = 0 then d.nv.seqFloor + 2 ^ 24 else d.nv.seqFloor }
  let d := { d with nv := nv, tim := { d.tim with clk := 0, out := 0, domA := Domain.fresh, domB := Domain.fresh, srv := [] } }
  let d := ((d.putF Reg.GLB_BOOT_STATE 2 0 1).putB Reg.GLB_BOOT_STATE 3 (d.pins.sampled.testBit 2)).wrN (Reg.GLB_STATE_TIME 1) 0
  let d := d.macLoad
  let ins := match d.txn.inForce with | some _ => d.txn.instar | none => (d.nvSlot d.nv.inForce).instar
  let d := d.record 0x0001 (be 4 d.nv.powerEpoch ++ be 1 cause ++ zeros 3 ++ be 8 d.evr.floor ++ be 4 ins ++ zeros 12)
  let d := d.keyStart d.pins.debugEn
  if cause = 0 then d.restoreSave else d

/-- A reset that enters SELFTEST at once: host, load, watchdog. (DEDUCED: notes/assumptions/131) -/
def Dev.moduleReset (d : Dev) (cause : Nat) : Dev := (d.toReset cause).enterSelftest

/-- The straps are sampled (R899): TWIN_ID, DEBUG_EN, PUPA_HOLD, REFCLK_SEL. -/
def Dev.sampleStraps (d : Dev) (twinId debugEn pupaHold refclkSel : Bool) : Dev :=
  { d with
    pins := { d.pins with twinId := twinId, debugEn := debugEn, pupaHold := pupaHold, refclkSel := refclkSel, resetLow := false
                          sampled := b2n twinId + 2 * b2n debugEn + 4 * b2n pupaHold + 8 * b2n refclkSel }
    units := { d.units with twinRole := if twinId then .standby else .active } }

/-- RESET_RELEASE: RESET_N rises, the straps are sampled and SELFTEST begins once the PLL has locked. -/
def Dev.resetRelease (d : Dev) (twinId debugEn pupaHold refclkSel : Bool) : Dev :=
  if d.boot = 0 then (d.sampleStraps twinId debugEn pupaHold refclkSel).enterSelftest
  else { d with pins := { d.pins with resetLow := false } }

/-- BOARD_RESET: RESET_N low for a number of ns, 1 µs or more (R839). -/
def Dev.boardReset (d : Dev) (low : Nat) : Dev :=
  if low < 1000 then d
  else if d.boot = 0 then { d with pins := { d.pins with resetLow := true } }
  else (d.toReset 1) |> fun (d : Dev) => { d with pins := { d.pins with resetLow := true } }

/-- POWER_ON and SUPPLY_FAULT (R839, R904): the wings are held in reset until RESET_N rises. (DEDUCED: notes/assumptions/131) -/
def Dev.powerOn (d : Dev) : Dev := (d.toReset 0) |> fun (d : Dev) => { d with pins := { d.pins with pwrfailLow := false, pwrHold := false } }

/-! Pupa (R792, R805, R848, R849). -/

/-- The slot that R792 takes: of those that qualify, the one with the higher INSTAR. (DEDUCED: notes/assumptions/106) -/
def Dev.takenSlot (d : Dev) : Option Nat :=
  if d.qualifies 0 && (!d.qualifies 1 || (d.nvSlot 1).instar ≤ (d.nvSlot 0).instar) then some 0
  else if d.qualifies 1 then some 1 else none

/-- The slot that is loaded: the one taken, unless its configuration fails validation (R37, R46, R792). (DEDUCED: notes/assumptions/106) -/
def Dev.bestSlot (d : Dev) : Option Nat :=
  match d.takenSlot with
  | some s => if d.breaks (cfgChain (d.nvSlot s).elems) true == [] then some s else none
  | none => none

/-- SELFTEST_DONE: the failed step, 0 for none (R846, R851). The recorder ring is ready, and the device goes to pupa. (DESIGN CHOICE: notes/assumptions/135; DEDUCED: notes/assumptions/136) -/
def Dev.selftestDone (d : Dev) (failed : Nat) : Dev :=
  if d.boot ≠ 1 then d
  else if failed ≠ 0 then (d.free.2.putF Reg.GLB_RESET_CAUSE 11 8 failed).enterSafe (d.free.1 % 16)
  else
    let (c, kc, f, l) := d.evr.preLost
    let d := { d with evr := { d.evr with
      ready := true, preLost := (0, 0, 0, 0), intake := if c = 0 then d.evr.intake else d.evr.intake ++ [Intake.gap c kc f l] } }
    let d := d.setBoot 2
    d.putB Reg.GLB_BOOT_STATE 4 d.bestSlot.isNone

/-- Is a block other than GLB served (R848)? (DEDUCED: notes/assumptions/12) -/
def Dev.served (d : Dev) : Bool := 3 ≤ d.boot || (d.boot == 2 && (d.txn.inForce.isSome || d.flag Reg.GLB_BOOT_STATE 4))

/-- The device leaves pupa: self-calibration starts, and the wingbeat grid on elapsed time (R39, R52, R170, R218). -/
def Dev.leavePupa (d : Dev) : Dev := ((d.putB Reg.GLB_BOOT_STATE 4 false).setBoot 3).calPowerUp.trkStart.gridStart

/-- TXN_PROBATION and TXN_TIMEOUT at a load (R788). -/
def Dev.loadTimes (d : Dev) : Dev :=
  let own := (d.recs 0x0101).any (fun r => beAt r.body 0 4 == Reg.TXN_PROBATION)
  match d.device with
  | some b => if own then d.devLoad else d.devLoad.setRws Reg.TXN_PROBATION (beAt b 12 2) 0xFFFF
  | none => d

/-- An instar loaded from a slot in pupa, with its CFG_LOAD record (R792, R793, R812). (DEDUCED: notes/assumptions/106) -/
def Dev.loadSlot (d : Dev) (s : Nat) : Dev :=
  let old := d
  let d := ((d.slotForce s).followCfg old).loadTimes
  let x := d.nvSlot s
  let o := d.nvSlot (1 - s)
  let fall := decide (x.instar < o.instar) && o.st != 3
  let d := d.record 0x1404 (be 1 s ++ be 1 (b2n fall) ++ be 1 (b2n (x.st == 1)) ++ zeros 1 ++ be 4 x.instar ++ zeros 8)
  if x.st = 1 then d.probationStart (d.fld Reg.TXN_PROBATION 15 0) true else d

/-- IMAGE_LOADED: the qualifying instar is loaded, and the device goes to CALIBRATE unless PUPA_HOLD holds it. (DEDUCED: notes/assumptions/136) -/
def Dev.imageLoaded (d : Dev) : Dev :=
  if d.boot = 2 && d.txn.inForce.isNone then
    match d.bestSlot with
    | none => d.putB Reg.GLB_BOOT_STATE 4 true
    | some s =>
      let d := (d.putB Reg.GLB_BOOT_STATE 4 false).loadSlot s
      if d.flag Reg.GLB_BOOT_STATE 3 then d else d.leavePupa
  else d

/-- PUPA_GO: a write of GLB_BOOT_CTL (R849). -/
def Dev.pupaGo (d : Dev) (data : Word) : Dev :=
  if d.boot = 2 && bit data 0 then
    if d.txn.inForce.isSome then d.leavePupa
    else match d.bestSlot with
      | some s => (d.loadSlot s).leavePupa
      | none => d
  else d

/-- A commit in pupa applies at once, and the device leaves pupa (R805). -/
def Dev.pupaCommit (d : Dev) : Dev :=
  let old := d
  let prev := d.txn.instar
  let d := ((d.slotForce d.otherSlot).followCfg old).loadTimes
  let d := (d.appliedRecord prev d.txn.kind d.txn.source).txnDiscard.txnResult 2
  (d.probationStart (d.fld Reg.TXN_PROBATION 15 0) true).leavePupa

/-- TXN_STORE_DONE with what follows it in pupa, or for a LOAD_RESET. -/
def Dev.txnStoreEnd (d : Dev) (ok : Bool) : Dev :=
  let (next, d) := d.txnStored ok
  if next = 1 then d.pupaCommit else if next = 2 then d.moduleReset 3 else d

/-- CALIBRATION_DONE: the calibration of quadrants ends; at power-up all four, and the device goes to SYNC (R43, R170 to R174). -/
def Dev.calibrationDone (d : Dev) (quads : List Nat) (facts : List CalFact) : Dev :=
  let up := d.boot == 3
  let d := quads.foldl (fun (d : Dev) (q : Nat) => d.calEndQ q facts up) d
  if up && (List.range 4).all (fun q => !(d.quad q).busy) then
    let d := foldUp 192 (fun n (d : Dev) => d.chFlag n 1 false) d
    let d := { d with loc := { d.loc with cks := d.loc.cks.map (fun (c : Ck) => { c with seq := 0 }) } }
    ((((d.phaseReset none).putB Reg.CNV_STATUS 12 true).raise Reg.CNV_INT_STATUS 0).setBoot 4).enterRun
  else if quads = [] then d else d.raise Reg.CNV_INT_STATUS 0

/-- SYNC_TIMEOUT: the time of the DEVICE record has passed in SYNC without a lock (R850). -/
def Dev.syncTimeout (d : Dev) : Dev :=
  let s := (d.device.map (fun b => beAt b 8 4)).getD 0
  if d.boot = 4 && !d.tim.lockedOnce && decide ((d.rdN (Reg.GLB_STATE_TIME 4) + s * 1000) * 400000 ≤ d.tim.clk) then d.setBoot 6 else d

/-! Power failure (R672, R811, R842 to R844). -/

/-- The open transaction in the save area, or lost (R811). (DEDUCED: notes/assumptions/134) -/
def Dev.saveTxn (d : Dev) : Dev :=
  if d.txn.st = .opened && d.deltaLen + d.txn.staging.length ≤ 1048576 then
    { d with nv := { d.nv with save := { d.nv.save with
      txnOpen := true, shadows := d.txn.shadows, windows := d.txn.windows, staging := d.txn.staging } } }
  else
    let d := { d with nv := { d.nv with save := { d.nv.save with txnOpen := false, shadows := [], windows := [], staging := [] } } }
    if d.txn.st = .opened then (d.commitRefuse 31 0 0 0).txnDiscard else d

/-- The power-fail save: transaction, acknowledged host submissions without a passed entry, host demands and pending unlatches (R842). Its duration, below
7.5 ms, is not stated. (DESIGN CHOICE: notes/assumptions/133) -/
def Dev.pfSave (d : Dev) : Dev :=
  let items := d.host.rings.flatMap (fun (x : Nat × HostRing) =>
    (x.2.taken.filter (·.acked)).map (fun y => (⟨x.1, y.idx, y.desc, y.arg⟩ : HostItem)))
  let demands := (d.isl.cmds.filter (fun x => x.2.host != (0, 0))).map (fun x => (x.1, x.2.host))
  let unl := d.isl.host.unlatch.map (fun (x : Nat × Nat) => x.1)
  let save : PfSave := { d.nv.save with valid := true, epoch := d.nv.powerEpoch, items := items, demands := demands, unlatches := unl }
  let d := ({ d with nv := { d.nv with save := save } }).saveTxn
  let (us, d) := d.free
  d.wrN Reg.GLB_PF_SAVE_US (us % 7501)

/-- Every record on its way is given its SEQ, becomes readable and enters the keep ring where it is a keep record (R672). -/
def Dev.recFlush (d : Dev) : Dev :=
  let d := foldUp d.evr.intake.length (fun _ (d : Dev) => d.intakeTake) d
  (foldUp d.evr.mirroring.length (fun _ (d : Dev) => d.readable) d).keepFlush

/-- PWRFAIL_FALL: the actions of R842 in their order. Quadrants follow at the next flutter boundary (R180). (DEDUCED: notes/assumptions/134) -/
def Dev.pwrfailFall (d : Dev) : Dev :=
  if d.boot = 0 then d
  else
    let d := { d with pins := { d.pins with pwrfailLow := true, pwrHold := false } }
    let pending := (d.evr.keepPending.map Stored.size).foldl (· + ·) 0
    let d := ((d.record 0x0003 (be 4 pending ++ zeros 12)).raise Reg.PWR_INT_STATUS 4).raise Reg.GLB_INT_STATUS 2
    let d := foldUp 4 (fun q (d : Dev) => d.putB Reg.CNV_LP_CTL (4 + q) true) d
    let d := d.txnPowerFail
    d.recFlush.ledgerWrite.pfSave

/-- PWRFAIL_END: 100 ms after the rise, the save is marked invalid; service resumes at the next wingbeat boundary, at once where none falls (R844), and the quadrants leave
low-power mode there (R181). (DEDUCED: notes/assumptions/134) -/
def Dev.pwrfailEnd (d : Dev) : Dev :=
  if d.pins.pwrfailLow then
    let d := { d with pins := { d.pins with pwrfailLow := false, pwrHold := decide (3 ≤ d.boot) && d.rate != 0 }, nv := { d.nv with save := { d.nv.save with valid := false } } }
    (d.raise Reg.GLB_INT_STATUS 3).dispatchAll
  else d

end Sys2Proof.Machine
end

