-- ==== Sys2Proof/Machine/Host.lean ====
section
/-! DEFINITION. Sys2Proof/Machine/Host.lean: the two host interfaces (chapters 21 and 22): a write and a read of a register with their
access errors, the MSI-X table, and the frames of the SPI port. -/

namespace Sys2Proof.Machine

/-! Copies of the wings (R867). -/

/-- The wing whose copy a read returns, and a W1C write or a clearing read reaches, where each wing keeps its own (R562, R591, R655). -/
def Dev.selWing (d : Dev) (a : Nat) : Nat :=
  if a < 0x280000 || a = Reg.ACQ_DI_MISMATCH_CNT then d.active else if a < 0x2C0000 then d.fld Reg.SCH_WING_SEL 0 0 else if a < 0x300000 then d.fld Reg.QUE_WING_SEL 0 0 else d.fld Reg.CMP_WING_SEL 0 0

/-- The place of a register in the store as the host addresses it. (DEDUCED: notes/assumptions/155) -/
def Dev.copy (d : Dev) (a : Nat) : Nat := if perWing a then wingAddr (d.selWing a) a else a

/-- A host write reaches the copies of both wings. -/
def Dev.setAll (d : Dev) (a : Nat) (v : Word) : Dev := if perWing a then (d.wr a v).wr (a + wingOfs) v else d.wr a v

/-! Writes that act. -/

/-- A REPAIR also ends the loop-backs of the wing's ports, and that of wing 0 is an endpoint reset (R820, R873). -/
def Dev.wngWrite (d : Dev) (v : Word) : Dev :=
  let old := d.units.repairing
  let d := d.wngCtl v
  if old.isSome then d
  else match d.units.repairing with
    | some w => let d := d.loopsOfWing w; if w = 0 then d.endpointReset false else d
    | none => d

/-- The end of the loop-back of the endpoint is an endpoint reset (R886), given the machine before. (DEDUCED: notes/assumptions/142) -/
def Dev.afterLoop (d old : Dev) : Dev := if (old.loop 3 0).mode != 0 && (d.loop 3 0).mode == 0 then d.endpointReset false else d

/-- The element of an array of `n` with a base and a stride whose block of registers holds an address; 0 where none does. -/
def elemOf (base stride n a : Nat) : Nat := if base ≤ a && (a - base) / stride < n then (a - base) / stride else 0

/-- Writes of the TIM, CNV and FLT blocks that act; none where the register only holds its value. -/
def Dev.actLocal (d : Dev) (a : Nat) (v : Word) : Option Dev :=
  let n := elemOf (Reg.TIM_PPS_TOD_ARM 0) 0x20 2 a
  let q := elemOf (Reg.CNV_Q_SNAP 0) 0x20 4 a
  let k := elemOf (Reg.CNV_CK_INJ 0) 0x40 16 a
  let c := elemOf (Reg.FLT_CH_SWAP 0) 0x40 256 a
  let f := elemOf (Reg.FLT_CH_FREEZE_CTL 0) 0x40 256 a
  if a = Reg.TIM_SNAP then some (if bit v 0 then d.timSnap else d)
  else if a = Reg.TIM_PPS_TOD_ARM n then some (if bit v 0 then d.ppsArm n else d)
  else if a = Reg.CNV_CAL_CTL then some (d.calWrite v)
  else if a = Reg.CNV_SNAP_ALL then some (if bit v 0 then foldUp 4 (fun q (d : Dev) => d.snapReq q) d else d)
  else if a = Reg.CNV_Q_SNAP q then some (if bit v 0 then d.snapReq q else d)
  else if a = Reg.CNV_CK_INJ k then some (d.ckInject k (bits v 7 0))
  else if a = Reg.FLT_COEF_DATA then some (d.coefWrite v)
  else if a = Reg.FLT_CH_SWAP c then some (d.firSwap c (bits v 0 0))
  else if a = Reg.FLT_CH_FREEZE_CTL f then some (d.freezeCtl f v)
  else if a = Reg.PHS_AO_UNLATCH then some (d.aoUnlatch (bits v 15 0))
  else none

/-- Writes of the network, wide-area, queue and compression blocks that act. -/
def Dev.actWide (d : Dev) (a : Nat) (v : Word) : Option Dev :=
  let p := elemOf (Reg.NET_PORT_MCAST_LO 0) 0x1000 8 a
  let p' := elemOf (Reg.NET_PORT_MCAST_HI 0) 0x1000 8 a
  if a = Reg.NET_PORT_MCAST_LO p then some (d.mcastWrite p false v)
  else if a = Reg.NET_PORT_MCAST_HI p' then some (d.mcastWrite p' true v)
  else if a = Reg.ING_LOOKUP_ID_HI then some (d.ingLookup v)
  else if a = Reg.ISL_HOST_CMD then some (d.hostCmd v)
  else if a = Reg.ISL_UNLATCH then some (d.islUnlatch v)
  else if a = Reg.QUE_CMD then some (d.queCmd v)
  else if a = Reg.ACQ_RING_TAIL then some (d.acqTailWrite v)
  else if a = Reg.CMP_SQ_SIZE || a = Reg.CMP_CQ_SIZE then some ((d.setAll a v).cmpSizeWrite v)
  else none

/-- Writes of the recorder, key, unit, safety, configuration and test blocks that act. -/
def Dev.actUnit (d : Dev) (i : Iface) (a : Nat) (v : Word) : Option Dev :=
  let p := elemOf (Reg.REC_RP_CTL 0) 0x1000 2 a
  let t := elemOf (Reg.TST_PORT_CTL 0) 0x40 8 a
  let q := elemOf (Reg.TST_Q_CTL 0) 0x20 4 a
  let l := elemOf (Reg.TST_OZ_CTL 0) 0x10 2 a
  if a = Reg.REC_RP_CTL p then some (d.rpCtlWrite p v)
  else if a = Reg.REC_RP_QUOTA p then some (d.quotaWrite p v)
  else if a = Reg.REC_RP_CUR_HI p then some ((d.wr a v).cursorWrite p v)
  else if a = Reg.REC_KEEP_CFG then some (d.keepCfgWrite v)
  else if a = Reg.KEY_MSG_CTL then some (d.keyCtl v)
  else if Reg.KEY_MSG_DATA 0 ≤ a && a < Reg.KEY_MSG_DATA 128 then some (if d.key.stage != 0 then d else d.wr a v)
  else if a = Reg.SAF_CLEAR then some (d.safClear v)
  else if a = Reg.SAF_PROOF_CTL then some (d.proofStart v)
  else if a = Reg.TXN_CMD then some (d.txnCmd i v)
  else if a = Reg.TXN_IMG_WDATA then some (d.imgWdata i v)
  else if a = Reg.TST_CTL then some (d.prodWrite v)
  else if a = Reg.TST_PPS_CTL then some (d.ppsLoopWrite v)
  else if a = Reg.TST_PCIE_LB then some ((d.pcieLoopWrite i v).afterLoop d)
  else if a = Reg.TST_PORT_CTL t then some (d.portLoopWrite t v)
  else if a = Reg.TST_Q_CTL q then some (d.quadLoopWrite q v)
  else if a = Reg.TST_OZ_CTL l then some (d.ozLoopWrite l v)
  else none

/-- Writes of the GLB block that act. -/
def Dev.actGlb (d : Dev) (a : Nat) (v : Word) : Option Dev :=
  let r := elemOf (Reg.GLB_HR_CTL 0) 0x40 8 a
  if a = Reg.GLB_HR_CTL r then some ((d.wr a v).hostEnable r (d.flag a 0))
  else if a = Reg.GLB_HR_CQ_TAIL r then
    let d := d.wr a v
    some (if d.host.ringSent.testBit r then { d with host := { d.host with ringSent := d.host.ringSent - 2 ^ r } } else d)
  else if a = Reg.GLB_BOOT_CTL then some (d.pupaGo v)
  else if a = Reg.GLB_ACC_ERR_CLR then some (if bit v 0 then (d.putB Reg.GLB_ACC_ERR_INFO 7 false).putB Reg.GLB_ACC_ERR_INFO 6 false else d)
  else if a = Reg.GLB_RESET_CTL then some (d.moduleReset 2)
  else none

/-- What a write to a register that holds or acts does. -/
def Dev.regAct (d : Dev) (i : Iface) (a : Nat) (v : Word) : Dev :=
  if a < 0x10000 then (d.actGlb a v).getD (d.setAll a v)
  else if a < 0x20000 then (d.actUnit i a v).getD (d.setAll a v)
  else if a < 0x100000 then (d.actLocal a v).getD (d.setAll a v)
  else if a < 0x380000 then (d.actWide a v).getD (d.setAll a v)
  else (d.actUnit i a v).getD (d.setAll a v)

/-- The bits of RWS registers that act when written (R21). -/
def Dev.actRws (d : Dev) (a : Nat) (v : Word) : Dev :=
  if a = Reg.TIM_CTL then (if bit v 2 then d.forceSwitch else d)
  else if a = Reg.FLT_CTL then (if bit v 1 then d.decsync 1 else d)
  else if a = Reg.WNG_CTL then d.wngWrite v
  else d

/-! Checks of a write. -/

/-- Does a field of a register take a code? -/
def FieldRange.ok (f : FieldRange) (v : Word) : Bool := f.allowed.any (fun x => x.1 ≤ bits v f.hi f.lo && bits v f.hi f.lo ≤ x.2)

/-- The bits of a write to an RW register: fields whose code is not defined keep their value, and whether there is one (R861). -/
def RegRow.merge (r : RegRow) (old v : Word) : Word × Bool :=
  let m := w32 (r.wmask ||| r.act)
  let bad := r.ranges.filter (fun f => !f.ok v)
  (bad.foldl (fun (x : Word) f => setBits x f.hi f.lo (bits old f.hi f.lo)) ((old &&& ~~~m) ||| (v &&& m)), bad != [])

/-- The block vector whose INT_STATUS or INT_EN lies at an address. -/
def intVector (a : Nat) : Option Nat := ((List.range 28).map (· + 8)).find? (fun v => a == intStatusOf v || a == intStatusOf v + 4)

/-- A write of INT_STATUS or INT_EN that leaves its summary at 1 sends one more message (R823), given the machine before. -/
def Dev.intAgain (d old : Dev) (a : Nat) : Dev :=
  match intVector a with
  | some v => if old.summary v && d.summary v then d.msix v else d
  | none => d

/-- Is the address a word of a window, and which record does it write: type, key, empty body, offset (R798)? (DEDUCED: notes/assumptions/13) -/
def Dev.windowOf (d : Dev) (a : Nat) : Option (Nat × Nat × Bytes × Nat) :=
  if Reg.ING_PT_DATA 0 ≤ a && a < Reg.ING_PT_DATA 8 then
    let i := d.fld Reg.ING_PT_SEL 15 0
    some (0x0801, i, zeros 32 ++ be 2 i, a - Reg.ING_PT_DATA 0)
  else if Reg.OSC_SIG_DATA 0 ≤ a && a < Reg.OSC_SIG_DATA 8 then
    let i := d.fld Reg.OSC_SIG_SEL 11 0
    some (0x0A01, i, be 2 i ++ zeros 14, a - Reg.OSC_SIG_DATA 0)
  else if Reg.ISL_GRP_DATA 0 ≤ a && a < Reg.ISL_GRP_DATA 17 then
    let g := d.fld Reg.ISL_GRP_SEL 9 0
    some (0x0B02, g, be 2 g ++ zeros 66, a - Reg.ISL_GRP_DATA 0)
  else none

/-- The selected view of the window at an address is read-only: any but its first (R383, R470, R518). (DEDUCED: notes/assumptions/13) -/
def Dev.viewRo (d : Dev) (a : Nat) : Bool :=
  if Reg.ING_PT_DATA 0 ≤ a && a < Reg.ING_PT_DATA 8 then d.flag Reg.ING_PT_SEL 16
  else if Reg.OSC_SIG_DATA 0 ≤ a && a < Reg.OSC_SIG_DATA 8 then d.fld Reg.OSC_SIG_SEL 17 16 != 0 || Reg.OSC_SIG_DATA 4 ≤ a
  else if Reg.ISL_GRP_DATA 0 ≤ a && a < Reg.ISL_GRP_DATA 17 then d.flag Reg.ISL_GRP_SEL 16
  else false

/-- A window word written by the owner; the key in bytes 0 and 1 of a signal or group record stays. -/
def Dev.windowPut (d : Dev) (w : Nat × Nat × Bytes × Nat) (v : Word) : Dev :=
  if w.1 != 0x0801 && w.2.2.2 = 0 then d.windowWrite w.1 w.2.1 w.2.2.1 2 (be 2 (bits v 15 0))
  else d.windowWrite w.1 w.2.1 w.2.2.1 w.2.2.2 (be 4 v.toNat)

/-- A write to an RWS register (R18, R21, R797): its acting bits at once, the rest to the shadow or refused. -/
def Dev.rwsWrite (d : Dev) (r : RegRow) (i : Iface) (a : Nat) (v : Word) : Nat × Dev :=
  let d := d.actRws a v
  match d.rwsRefused i with
  | some d' => if r.act = 0 || (d.rd a ^^^ v) &&& w32 r.wmask != 0 then (4, d') else (0, d)
  | none =>
    match d.windowOf a with
    | some w => (0, d.windowPut w v)
    | none => (0, d.shadowWrite a v)

/-- LEN of a port's generator outside 64 to MAX_FRM of the port (R861, R878). -/
def Dev.genLenBad (d : Dev) (a : Nat) (v : Word) : Bool :=
  (List.range 8).any (fun p => a == Reg.TST_PORT_GEN p && (decide (bits v 13 0 < 64) || decide (d.maxFrm p < bits v 13 0)))

/-- A write to the register of a row, which nothing refuses as a whole: the cause of an access error, 0 for none. (DESIGN CHOICE: notes/assumptions/3) -/
def Dev.rowWrite (d : Dev) (r : RegRow) (i : Iface) (a : Nat) (v : Word) : Nat × Dev :=
  match r.acc with
  | .ro => (2, d)
  | .rc => (3, d)
  | .rws => d.rwsWrite r i a v
  | .w1c => (0, (d.w1c (d.copy a) (v &&& w32 r.wmask)).intAgain d a)
  | .rw | .wo | .w1s =>
    let (v', bad) := r.merge (d.rd (d.copy a)) v
    let len := d.genLenBad a v'
    let v' := if len then setBits v' 13 0 (d.fld a 13 0) else v'
    if a = Reg.GLB_RESET_CTL && !(bits v 31 16 == 0xA5C3 && bit v 0) then (9, d)
    else
      let bad := bad || len || (List.range 2).any (fun p => a == Reg.REC_RP_QUOTA p && d.quotaBad p v')
      (if bad then 10 else 0, (d.regAct i a v').intAgain d a)

/-- The cause with which a write is refused as a whole, 0 when it is not (R864). (DESIGN CHOICE: notes/assumptions/8) -/
def Dev.writeRefused (d : Dev) (ctl : Word) (i : Iface) (en a : Nat) : Nat :=
  if a % 4 != 0 || en != 15 then 1
  else if a != Reg.GLB_CTL && bit ctl (if i = .spi then 0 else 1) then 8
  else if (regAt a).isNone then 5
  else if 0x10000 ≤ a && !d.served then 6
  else if d.viewRo a then 7
  else 0

/-- The MSI-X table and pending bits, in the PCIe window only (R817). (DESIGN CHOICE: notes/assumptions/11) -/
def isMsix (i : Iface) (a : Nat) : Bool := i == .pcie && 0xF00000 ≤ a && a < 0xF02000

/-- A word with the bytes that the byte enables name. -/
def mergeBytes (en : Nat) (old v : Word) : Word :=
  foldUp 4 (fun k (x : Word) => if en.testBit k then setBits x (8 * k + 7) (8 * k) (bits v (8 * k + 7) (8 * k)) else x) old

/-- A write of the MSI-X table; a vector whose mask clears sends what is pending (R823). (DESIGN CHOICE: notes/assumptions/11) -/
def Dev.msixWrite (d : Dev) (en a : Nat) (v : Word) : Dev :=
  let k := (a - 0xF00000) / 4
  if k < 256 then
    let dflt : Word := if k % 4 = 3 then 1 else 0
    let x := mergeBytes en (tget dflt d.host.msix k) v
    let x := if k % 4 = 0 then x &&& ~~~(3 : Word) else if k % 4 = 3 then x &&& 1 else x
    ({ d with host := { d.host with msix := tset dflt d.host.msix k x } }).msixPending
  else d

/-- A read of the MSI-X table or of the pending bits. -/
def Dev.msixRead (d : Dev) (a : Nat) : Word :=
  let k := (a - 0xF00000) / 4
  if k < 256 then w32 (d.msixWord (k / 4) (k % 4))
  else if k = 1024 then w32 d.host.pba
  else if k = 1025 then w32 (d.host.pba / 2 ^ 32)
  else 0

/-- A write of GLB_CTL: both locks together are refused (R870). (DESIGN CHOICE: notes/assumptions/150) -/
def State.ctlWrite (s : State) (i : Iface) (en a : Nat) (v : Word) : Nat × State :=
  if bits v 1 0 = 3 then (10, { s with dev := s.dev.accErr 10 true i en a v }) else (0, { s with ctl := w32 (bits v 1 0) })

/-- A write to the register of a row, with its access error; a reset of the module clears GLB_CTL. (DESIGN CHOICE: notes/assumptions/8) -/
def State.rowPut (s : State) (r : RegRow) (i : Iface) (en a : Nat) (v : Word) : Nat × State :=
  let x := s.dev.rowWrite r i a v
  let d := if x.1 = 0 then x.2 else x.2.accErr x.1 true i en a v
  (x.1, { s with dev := d, ctl := if d.resetCtr = s.dev.resetCtr then s.ctl else 0 })

/-- A register write through an interface (R16 to R21, R840, R861 to R870): the cause of its access error, 0 for none, and the machine after. In RESET nothing
is served. (DESIGN CHOICE: notes/assumptions/11) -/
def State.write (s : State) (i : Iface) (en a : Nat) (v : Word) : Nat × State :=
  let k := s.dev.writeRefused s.ctl i en a
  if s.dev.boot = 0 then (0, s)
  else if isMsix i a then (0, { s with dev := s.dev.msixWrite en a v })
  else if k ≠ 0 then (k, { s with dev := s.dev.accErr k true i en a v })
  else if a = Reg.GLB_CTL then s.ctlWrite i en a v
  else (regAt a).elim (0, s) (fun r => s.rowPut r i en a v)

/-! Reads. -/

/-- Does an address lie in the words `lo` to `lo + len` of an element of an array? -/
def inElem (base stride n lo len a : Nat) : Bool := base ≤ a && (a - base) / stride < n && lo ≤ (a - base) % stride && (a - base) % stride < lo + len

/-- Registers whose reads return what an earlier read captured for the same interface (R164, R283, R471, R518, R519, R675, R708). -/
def isView (a : Nat) : Bool :=
  inElem (Reg.CNV_CK_RES_IC 0) 0x40 16 0 20 a || inElem (Reg.PHS_CH_MAG 0) (Reg.PHS_CH_MAG 1 - Reg.PHS_CH_MAG 0) 256 0 36 a ||
  inElem (Reg.OSC_SIG_DATA 0) 32 1 0 32 a || inElem (Reg.OSC_TRK_LAMBDA_RT 0 0) 0x100 16 0 16 a ||
  (List.range 16).any (fun t => a == Reg.OSC_TRK_FREQ t || a == Reg.OSC_TRK_DAMP t || a == Reg.OSC_TRK_AMP t || a == Reg.OSC_TRK_AMP_MAX t) ||
  inElem (Reg.ISL_GRP_DATA 0) 68 1 0 68 a ||
  inElem (Reg.ISL_CG_LAST_SEQ 0) 0x10 1024 0 4 a || inElem (Reg.ISL_CG_UNACK 0) 0x10 1024 0 4 a || inElem (Reg.ISL_CG_SENT_CNT 0) 0x10 1024 0 4 a ||
  inElem (Reg.REC_RP_DATA 0 0) 0x1000 2 0 1048 a ||
  a == Reg.KEY_SLOT_ID || a == Reg.KEY_SLOT_KCV || a == Reg.KEY_SLOT_CTR_LO || a == Reg.KEY_SLOT_CTR_HI || inElem (Reg.KEY_SLOT_PUB 0) 64 1 0 64 a ||
  a == Reg.ALN_ENT_SEQ_LO || a == Reg.ALN_ENT_SEQ_HI || inElem (Reg.ALN_ENT_DATA 0) 32 1 0 32 a ||
  a == Reg.WNG_OUT_SEQ_LO || a == Reg.WNG_OUT_SEQ_HI

/-- The registers that a read of a register latches for its interface (R865): the _HI half, and for WNG_DIGEST_SEQ_LO the digests too. -/
def latchOf (a : Nat) : List Nat :=
  if a = Reg.WNG_DIGEST_SEQ_LO then [4, 8, 12, 16, 20].map (a + ·)
  else if inElem (Reg.NET_PORT_RX_OCT_LO 0) 0x1000 8 0 4 a || inElem (Reg.NET_PORT_TX_OCT_LO 0) 0x1000 8 0 4 a || a == Reg.ING_ACC_CNT_LO ||
    a == Reg.ALN_OPEN_SEQ_LO || a == Reg.ALN_CLOSED_SEQ_LO || inElem (Reg.ALN_STR_LAST_SEQ_LO 0) 0x40 64 0 4 a || a == Reg.OSC_UPD_SEQ_LO ||
    inElem (Reg.OSC_TRK_LAST_SEQ_LO 0) 0x100 16 0 4 a || a == Reg.ISL_UPD_SEQ_LO || a == Reg.PWR_ENERGY_LO || a == Reg.ACQ_SEQ_LO ||
    inElem (Reg.CMP_E_IN_LO 0) 0x40 2 0 4 a || inElem (Reg.CMP_E_OUT_LO 0) 0x40 2 0 4 a || a == Reg.REC_NEWEST_LO || a == Reg.REC_OLDEST_LO ||
    a == Reg.REC_SEQ_FLOOR_LO || a == Reg.REC_NV_OLDEST_LO || a == Reg.REC_NV_NEWEST_LO || a == Reg.KEY_CTR_LO || a == Reg.TXN_BOUNDARY_LO ||
    inElem (Reg.GLB_HR_IDX_LO 0) 0x40 8 0 4 a then [a + 4]
  else []

/-- Is a register one that a read of another latches? -/
def isLatched (a : Nat) : Bool :=
  (4 ≤ a && (latchOf (a - 4)).contains a) || (Reg.WNG_DIGEST_W0_LO ≤ a && a ≤ Reg.WNG_DIGEST_W1_HI)

/-- GLB registers that show the machine (R823, R868, R869). -/
def Dev.glbReg (d : Dev) (ctl : Word) (a : Nat) : Option Word :=
  if a = Reg.GLB_CTL then some ctl
  else if a = Reg.GLB_STATUS then
    some (w32 (d.boot + 8 * d.active + 16 * b2n d.pins.pwrfailLow + 32 * b2n (d.flag Reg.GLB_ACC_ERR_INFO 7)))
  else if a = Reg.GLB_INT_SUMMARY then some (w32 (sumN ((List.range 28).map (fun i => b2n (d.summary (i + 8)) * 2 ^ i))))
  else if a = Reg.GLB_STRAPS then some (w32 (d.pins.sampled % 16))
  else d.hrReg a

/-- A register as it reads now, with no view and no latch: what the blocks show of their state, else what is stored. (DEDUCED: notes/assumptions/10) -/
def Dev.show (d : Dev) (ctl : Word) (i : Iface) (a : Nat) : Word :=
  let w := d.selWing a
  let v : Option Word :=
    if a < 0x10000 then d.glbReg ctl a
    else if a < 0x20000 then d.txnReg a
    else if a < 0x40000 then d.timReg a
    else if a < 0x80000 then d.cnvReg a
    else if a < 0xC0000 then d.fltReg a
    else if a < 0x100000 then d.phsReg a
    else if a < 0x180000 then d.netReg a
    else if a < 0x1C0000 then d.ingReg a
    else if a < 0x200000 then d.alnReg a
    else if a < 0x240000 then d.oscReg i a
    else if a < 0x280000 then d.islReg a
    else if a < 0x2C0000 then d.schReg w a
    else if a < 0x300000 then d.queReg w a
    else if a < 0x340000 then d.acqReg a
    else if a < 0x380000 then d.cmpReg w a
    else if a < 0x3C0000 then d.recReg a
    else if a < 0x400000 then d.keyReg a
    else if a < 0x440000 then d.wngReg a
    else if a < 0x480000 then d.safReg a
    else if a < 0x4C0000 then d.tstReg a
    else d.pwrReg (d.fld Reg.SCH_WING_SEL 0 0) a
  v.getD (d.rd (d.copy a))

/-- Reads that capture a view or advance something, with the value they return. -/
def Dev.capture (d : Dev) (i : Iface) (a : Nat) : Option (Word × Dev) :=
  let k := elemOf (Reg.CNV_CK_RES_STATUS 0) 0x40 16 a
  let n := elemOf (Reg.PHS_CH_STATUS 0) (Reg.PHS_CH_MAG 1 - Reg.PHS_CH_MAG 0) 256 a
  let t := elemOf (Reg.OSC_TRK_STATUS 0) 0x100 16 a
  let s := elemOf (Reg.OSC_TRK_SHAPE_PART 0) 0x100 16 a
  let c := elemOf (Reg.ISL_CG_STATUS 0) 0x10 1024 a
  let p := elemOf (Reg.REC_RP_CTL 0) 0x1000 2 a
  if a = Reg.CNV_CK_RES_STATUS k then some (d.ckCapture i k)
  else if a = Reg.CNV_CK_RES_CONSUME k then some (d.ckConsume i k)
  else if a = Reg.FLT_COEF_DATA then some d.coefRead
  else if a = Reg.PHS_CH_STATUS n then some (d.phsCapture i n)
  else if a = Reg.ALN_ENT_STATUS then some (d.entCapture i)
  else if a = Reg.OSC_SIG_STATUS then some (d.sigCapture i)
  else if a = Reg.OSC_TRK_STATUS t then some (d.trkCapture i t)
  else if a = Reg.OSC_TRK_SHAPE_PART s then some (d.shapePart i s)
  else if a = Reg.ISL_GRP_STATUS then some (d.grpCapture i)
  else if a = Reg.ISL_CG_STATUS c then some (d.cgCapture i c)
  else if a = Reg.REC_RP_STATUS p then some (d.rpCapture i p false)
  else if a = Reg.REC_RP_CONSUME p then some (d.rpCapture i p true)
  else if a = Reg.KEY_SLOT_INFO then some (d.keyCapture i)
  else if a = Reg.WNG_OUT_STATUS then some (d.outCapture i)
  else none

/-- A read of the register of a row: its value and the machine after (R18, R164, R283, R865 to R867). -/
def Dev.rowRead (d : Dev) (ctl : Word) (r : RegRow) (i : Iface) (a : Nat) : Word × Dev :=
  match d.capture i a with
  | some x => x
  | none =>
    if r.acc = .wo then (0, d)
    else if isView a || isLatched a then (d.latched i a, d)
    else
      let v := d.show ctl i a
      let d := (latchOf a).foldl (fun (d : Dev) x => d.latch i x (d.show ctl i x)) d
      if r.acc = .rc then d.rcTake (d.copy a) v (w32 r.reset) else (v, d)

/-- The cause with which a read is an access error, 0 for none (R17, R859, R864). (DESIGN CHOICE: notes/assumptions/8) -/
def readRefused (en a : Nat) : Nat := if a % 4 != 0 || en != 15 then 1 else if (regAt a).isNone then 5 else 0

/-- Data returned on an interface. -/
def Dev.answer (d : Dev) (i : Iface) (v : Word) : Dev :=
  if i = .spi then { d with host := { d.host with rdataS := v } } else { d with host := { d.host with rdataP := v } }

/-- A read of the register of a row, with the data on the interface. -/
def State.rowGet (s : State) (r : RegRow) (i : Iface) (a : Nat) : Nat × Word × State :=
  if 0x10000 ≤ a && !s.dev.served then (0, 0, { s with dev := s.dev.answer i 0 })
  else
    let x := s.dev.rowRead s.ctl r i a
    (0, x.1, { s with dev := x.2.answer i x.1 })

/-- A register read through an interface: the cause of its access error, 0 for none, the data, and the machine after (R848, R860). (DESIGN CHOICE: notes/assumptions/11; DEDUCED: notes/assumptions/12) -/
def State.read (s : State) (i : Iface) (en a : Nat) : Nat × Word × State :=
  let k := readRefused en a
  if s.dev.boot = 0 then (0, 0, s)
  else if isMsix i a then (0, s.dev.msixRead a, { s with dev := s.dev.answer i (s.dev.msixRead a) })
  else if k ≠ 0 then (k, 0, { s with dev := (s.dev.accErr k false i en a 0).answer i 0 })
  else (regAt a).elim (0, 0, s) (fun r => s.rowGet r i a)

/-! The SPI port (R826 to R831, R917). -/

/-- A frame error of the SPI port (R830). -/
def Dev.spiError (d : Dev) : Dev := (d.incS Reg.GLB_SPI_ERR_CNT 1).raise Reg.GLB_INT_STATUS 5

/-- Bytes that the device drives in a frame. -/
def Dev.spiSend (d : Dev) (b : Bytes) : Dev := { d with host := { d.host with spiOut := b } }

/-- STATUS of a frame (R829): ACK, CRC_ERR, ACCESS_ERR, RETRY. (DEDUCED: notes/assumptions/9) -/
def spiStatus (ack crc acc retry : Bool) : Bytes := be 1 (0xA0 + b2n ack + 2 * b2n crc + 4 * b2n acc + 8 * b2n retry)

/-- A write frame of 11 bytes. (DEDUCED: notes/assumptions/9) -/
def State.spiWrite (s : State) (b : Bytes) : State :=
  if byteAt b 8 != crc8 (b.take 8) then { s with dev := s.dev.spiError.spiSend (spiStatus false true false false) }
  else
    let (c, s') := s.write .spi 15 (beAt b 1 3) (w32 (beAt b 4 4))
    { s' with dev := s'.dev.spiSend (spiStatus (c == 0 || c == 10) false (c != 0) false) }

/-- Would a read be served by wing 0: a register of which each wing keeps its own, with wing 0 selected (R917)? (DEDUCED: notes/assumptions/9; DESIGN CHOICE: notes/assumptions/156) -/
def Dev.fromWing0 (d : Dev) (a : Nat) : Bool := perWing a && d.selWing a == 0

/-- A read frame of 13 bytes; `late` says that data from wing 0 was not ready by the end of the turnaround. (DEDUCED: notes/assumptions/9) -/
def State.spiRead (s : State) (b : Bytes) (late : Bool) : State :=
  let a := beAt b 1 3
  if byteAt b 4 != crc8 (b.take 4) then { s with dev := s.dev.spiError.spiSend (zeros 5 ++ spiStatus false true false false) }
  else if late && s.dev.fromWing0 a && readRefused 15 a == 0 then { s with dev := s.dev.spiSend (zeros 5 ++ spiStatus false false false true) }
  else
    let (c, v, s') := s.read .spi 15 a
    let x := be 4 v.toNat
    { s' with dev := s'.dev.spiSend (x ++ be 1 (crc8 x) ++ spiStatus (c == 0) false (c != 0) false) }

/-- A frame on the SPI port, whatever its length and OP (R827, R830). -/
def State.spiFrame (s : State) (b : Bytes) (late : Bool) : State :=
  if s.dev.boot = 0 then s
  else if byteAt b 0 = 2 && b.length = 11 then s.spiWrite b
  else if byteAt b 0 = 3 && b.length = 13 then s.spiRead b late
  else if byteAt b 0 = 2 || byteAt b 0 = 3 || (b.length != 11 && b.length != 13) then { s with dev := s.dev.spiError.spiSend [] }
  else { s with dev := s.dev.spiSend [] }

/-! How a row ends. -/

/-- The machine of a state taken to the tick of a command. (DESIGN CHOICE: notes/assumptions/4) -/
def State.at (s : State) (t : Nat) : State := { s with dev := s.dev.tick t }

/-- A row that works on the whole state ends; `s` is the state before it. -/
def doneS (s s' : State) : Host.Outcome State Fault Refusal := .next { s' with dev := (s'.dev.probWatch s.dev).settle }

/-- A row that may reset the module ends: a reset clears GLB_CTL (R39, R868). (DESIGN CHOICE: notes/assumptions/150) -/
def doneReset (s : State) (d : Dev) : Host.Outcome State Fault Refusal :=
  .next { s with dev := (d.probWatch s.dev).settle, ctl := if d.resetCtr = s.dev.resetCtr then s.ctl else 0 }

/-- A row whose effect is on the device. `ok` is false for operands that name nothing (WellFormed.lean), which have no effect. (DESIGN CHOICE: notes/assumptions/5, 8, 162) -/
def devRow (s : State) (t : Nat) (ok : Bool) (f : Dev → Dev) : Host.Outcome State Fault Refusal :=
  done s (if ok then f (s.dev.tick t) else s.dev.tick t)

/-- A row of the paths that run once an instar is in force: CALIBRATE and after (R39). (DESIGN CHOICE: notes/assumptions/5) -/
def runRow (s : State) (t : Nat) (ok : Bool) (f : Dev → Dev) : Host.Outcome State Fault Refusal :=
  done s (if ok && decide (3 ≤ s.dev.boot) then f (s.dev.tick t) else s.dev.tick t)

/-- A row of the conversion, which is served from STATE 2 on (R136, R848). -/
def convRow (s : State) (t : Nat) (ok : Bool) (f : Dev → Dev) : Host.Outcome State Fault Refusal :=
  devRow s t (ok && decide (2 ≤ s.dev.boot)) f

/-- A row of the digital inputs, which are sampled at every tick of the output time from the entry to SELFTEST on (R596, R607). -/
def upRow (s : State) (t : Nat) (ok : Bool) (f : Dev → Dev) : Host.Outcome State Fault Refusal :=
  devRow s t (ok && decide (1 ≤ s.dev.boot)) f

/-- A row that may reset the module. -/
def resetRow (s : State) (t : Nat) (ok : Bool) (f : Dev → Dev) : Host.Outcome State Fault Refusal :=
  doneReset s (if ok then f (s.dev.tick t) else s.dev.tick t)

/-- A write of a register that a command stands for. (DEDUCED: notes/assumptions/139) -/
def hostRow (s : State) (t : Nat) (ok : Bool) (i : Iface) (a : Nat) (v : Word) : Host.Outcome State Fault Refusal :=
  doneS s (if ok then ((s.at t).write i 15 a v).2 else s.at t)

/-- A read of a register that a command stands for. -/
def readRow (s : State) (t : Nat) (ok : Bool) (i : Iface) (a : Nat) : Host.Outcome State Fault Refusal :=
  doneS s (if ok then ((s.at t).read i 15 a).2.2 else s.at t)

end Sys2Proof.Machine
end

