-- ==== Sys2Proof/WellFormed.lean ====
section
/-! DEFINITION. Sys2Proof/WellFormed.lean: which operands name something: the array indices of the spec, the 24-bit addresses and
four byte enables of an access (R16, R17), the undefined OP codes of TXN_CMD (R814). -/

namespace Sys2Proof

/-- Is every operand of a command one that the spec gives it? (DESIGN CHOICE: notes/assumptions/8) -/
def Instr.wf : Instr → Bool
  | .registerWrite _ _ en addr _ => decide (en < 16) && decide (addr < 16777216)
  | .rcRead _ _ en addr => decide (en < 16) && decide (addr < 16777216)
  | .latchedRead _ _ en addr => decide (en < 16) && decide (addr < 16777216)
  | .accErrClr _ _ _ => true
  | .glbCtlWrite _ _ _ => true
  | .spiWriteFrame _ _ => true
  | .spiReadFrame _ _ _ => true
  | .powerOn _ => true
  | .supplyFault _ => true
  | .boardReset _ _ => true
  | .resetRelease _ _ _ _ _ => true
  | .hostReset _ _ => true
  | .watchdogReset _ => true
  | .selftestDone _ _ => true
  | .imageLoaded _ => true
  | .pupaGo _ _ _ => true
  | .calibrationDone _ quads facts => quads.all (fun q => decide (q < 4)) && facts.all (fun f => decide (f.ch < 192))
  | .syncTimeout _ => true
  | .pwrfailFall _ => true
  | .pwrfailEnd _ => true
  | .endpointReset _ _ => true
  | .d3hotEntry _ => true
  | .baseRateSample _ q a b c _ => decide (q < 5) && (a ++ b ++ c).all (fun b => decide (b.1 < 192) && decide (b.2 < 2 ^ 400))
  | .sampleTick _ => true
  | .flutterBoundary _ _ _ _ => true
  | .trackedCycleBoundary _ => true
  | .checkFrameBoundary _ => true
  | .wingbeatBoundary _ _ => true
  | .slowWindowLeave _ => true
  | .exportWrite _ => true
  | .ptpMasterSend _ p => decide (p < 8)
  | .ppsEdge _ n => decide (n < 2)
  | .ppsTodArm _ _ n _ => decide (n < 2)
  | .irigFrame _ _ => true
  | .twinTimeExchange _ x => decide (x.lane < 2)
  | .sourceLost _ k => decide (k < 2)
  | .holdoverLimit _ k => decide (k < 2)
  | .forceSwitch _ _ _ => true
  | .slewDone _ => true
  | .domainRevert _ => true
  | .timSnap _ _ _ => true
  | .leap _ => true
  | .leapPendStart _ => true
  | .leapOccEnd _ => true
  | .ppsOutPulse _ => true
  | .cnvSnap _ _ q _ => decide (q < 4)
  | .cnvSnapAll _ _ _ => true
  | .snapshotLatch _ => true
  | .ckInj _ _ k _ => decide (k < 16)
  | .resStatusRead _ _ k => decide (k < 16)
  | .resConsume _ _ k => decide (k < 16)
  | .calStart _ _ _ => true
  | .lpRequest _ _ _ => true
  | .settleEnd _ => true
  | .firSwap _ _ n _ => decide (n < 256)
  | .fadeDone _ n => decide (n < 256)
  | .coefWrite _ _ _ => true
  | .coefRead _ _ => true
  | .hostFreeze _ _ n _ => decide (n < 256)
  | .freezeRelease _ _ n _ => decide (n < 256)
  | .freezeTailEnd _ n => decide (n < 256)
  | .freezeMaxEnd _ n => decide (n < 256)
  | .trkHoldLimit _ => true
  | .trkRefReturn _ => true
  | .decsyncPin _ _ => true
  | .decsyncCommand _ _ _ => true
  | .aoMinHoldEnd _ a => decide (a < 16)
  | .aoUnlatch _ _ _ => true
  | .phsChStatusRead _ _ n => decide (n < 256)
  | .frameReceived _ p _ _ _ => decide (p < 8)
  | .frameRelease r => r.lag.all (fun x => decide (x.1 < 2) && decide (x.2.1 < 3))
  | .prpAgeOut _ => true
  | .linkChange _ p _ _ _ => decide (p < 8)
  | .frameTransmitEnd _ p => decide (p < 8)
  | .pauseHoldEnd _ p => decide (p < 8)
  | .pauseWatchdog _ p => decide (p < 8)
  | .pauseIgnoreEnd _ p => decide (p < 8)
  | .lpiEntry _ p => decide (p < 8)
  | .lpiWake _ p => decide (p < 8)
  | .plcaLost _ p => decide (4 ≤ p) && decide (p < 8)
  | .collision _ p _ => decide (4 ≤ p) && decide (p < 8)
  | .backoffEnd _ p => decide (4 ≤ p) && decide (p < 8)
  | .gapMarkerDequeue _ q => decide (q < 4)
  | .ingLookup _ _ _ => true
  | .keysDerived _ => true
  | .c37CmdDataOff _ n => decide (n < 64)
  | .c37CmdDataOn _ n => decide (n < 64)
  | .c37CmdHeader _ n => decide (n < 64)
  | .c37CmdCfg1 _ n => decide (n < 64)
  | .c37CmdCfg2 _ n => decide (n < 64)
  | .gooseRetransmit _ g => decide (g < 16)
  | .alnEntStatusRead _ _ => true
  | .oscSigStatusRead _ _ => true
  | .oscTrkStatusRead _ _ tr => decide (tr < 16)
  | .shapePartRead _ _ tr => decide (tr < 16)
  | .islUnlatch _ _ _ => true
  | .hostCmdTrip _ _ _ => true
  | .hostCmdCurtail _ _ _ => true
  | .hostCmdHold _ _ _ => true
  | .hostCmdClear _ _ _ => true
  | .hostCmdRelease _ _ _ => true
  | .commandRepeat _ c => decide (c < 1024)
  | .cmdAckEnd _ c => decide (c < 1024)
  | .islGrpStatusRead _ _ => true
  | .islCgStatusRead _ _ c => decide (c < 1024)
  | .itemComplete _ w core _ status => decide (w < 2) && decide (core < 16) && decide (status < 7)
  | .affinityPatienceEnd _ w _ => decide (w < 2)
  | .tcpTimer _ c => decide (c < 64)
  | .nectarTick _ _ _ => true
  | .wearSecond _ _ => true
  | .wearHour _ => true
  | .tjMax _ sensor _ => decide (sensor < 9)
  | .queuePush _ w q _ _ => decide (w < 2) && decide (q < 512)
  | .queuePop _ w q _ _ _ => decide (w < 2) && decide (q < 512)
  | .queueFlush _ _ _ => true
  | .queueDropRem _ _ _ => true
  | .scrubPass _ w ces ues => decide (w < 2) && ces.all (fun q => decide (q < 512)) && ues.all (fun u => decide (u.1 < 512))
  | .virtualServiceTick _ q => decide (q < 512)
  | .diChange _ mask _ => decide (mask < 2 ^ 64)
  | .holdoffEnd _ u => decide (u < 16)
  | .diMismatch _ n => decide (n < 64)
  | .acqEntryCopy _ => true
  | .captureResume _ => true
  | .waveBlock _ g => decide (g < 8)
  | .acqRingTailWrite _ _ _ => true
  | .cmpJobTake _ => true
  | .cmpJobDone _ w e _ _ => decide (w < 2) && decide (e < 2)
  | .cmpCompletionWrite _ => true
  | .recIntakeTake _ => true
  | .recReadable _ => true
  | .keepRingWrite _ _ _ => true
  | .keepBudgetRefill _ => true
  | .recMirrorTimeout _ => true
  | .recRpStatusRead _ _ p => decide (p < 2)
  | .recRpConsume _ _ p => decide (p < 2)
  | .recCursorWrite _ _ p _ => decide (p < 2)
  | .recQuotaWrite _ _ p _ => decide (p < 2)
  | .keyInstall _ _ _ => true
  | .keyDelete _ _ _ => true
  | .keyAuthority _ _ _ => true
  | .keyOwn _ _ _ => true
  | .keyMsgClear _ _ _ => true
  | .keyStoreDone _ _ _ => true
  | .keySlotInfoRead _ _ => true
  | .wingHeartbeat _ w _ _ => decide (w < 2)
  | .heartbeatMiss _ w _ _ => decide (w < 2)
  | .takeover _ => true
  | .digestAttribution _ _ _ => true
  | .oznisHeartbeat _ l _ _ => decide (l < 2)
  | .oznisHeartbeatMiss _ l => decide (l < 2)
  | .oznisRetransmit _ _ => true
  | .outputFrame _ l _ => decide (l < 2)
  | .outputAck _ l _ => decide (l < 2)
  | .outputAckTimeout _ _ => true
  | .reportFrame _ l _ => decide (l < 2)
  | .resyncFrame _ _ => true
  | .healthFrame _ l _ => decide (l < 2)
  | .txnPrepare _ l _ _ _ => decide (l < 2)
  | .txnAck _ l _ => decide (l < 2)
  | .txnNak _ l _ => decide (l < 2)
  | .twinPrepareTimeout _ => true
  | .beaconSend _ => true
  | .beaconReceived _ _ => true
  | .twinBClaimWait _ => true
  | .wingRepair _ _ _ => true
  | .wingSwitch _ _ _ => true
  | .resyncConverge _ w _ => decide (w < 2)
  | .selftestSlice _ _ => true
  | .wngOutStatusRead _ _ => true
  | .clockLoss _ _ _ => true
  | .safClear _ _ _ => true
  | .proofStart _ _ _ => true
  | .proofSample _ _ => true
  | .txnBegin _ _ _ => true
  | .txnCommit _ _ _ => true
  | .txnRollback _ _ _ => true
  | .txnLoadImage _ _ _ => true
  | .txnClearStaging _ _ _ => true
  | .txnConfirm _ _ _ => true
  | .txnRevert _ _ _ => true
  | .txnLoadReset _ _ _ => true
  | .txnBadOp _ _ data => decide (data.toNat % 16 = 0) || decide (8 < data.toNat % 16)
  | .txnImgWdata _ _ _ => true
  | .txnTimeoutExpiry _ => true
  | .txnValidationDone _ => true
  | .txnStoreDone _ _ => true
  | .probationEnd _ => true
  | .hostRingTake _ r => decide (r < 8)
  | .hostRingAck _ r => decide (r < 8)
  | .hostRingCompletion _ r => decide (r < 8)
  | .hostRingEnable _ _ r _ => decide (r < 8)
  | .portLoopOff _ _ p _ => decide (p < 8)
  | .portLoopMac _ _ p _ => decide (p < 8)
  | .portLoopPcs _ _ p _ => decide (p < 8)
  | .portLoopPma _ _ p _ => decide (p < 8)
  | .portLoopRemote _ _ p _ => decide (p < 8)
  | .portLoopT1sAnalog _ _ p _ => decide (p < 8)
  | .portLoopGenerate _ _ p _ => decide (p < 8)
  | .loopDone _ p => decide (p < 8)
  | .loopTimeout _ kind idx => decide (kind < 5) && decide (idx < [8, 2, 4, 1, 2].getD kind 0)
  | .quadLoopOff _ _ q _ => decide (q < 4)
  | .quadTone _ _ q _ => decide (q < 4)
  | .quadRefPos _ _ q _ => decide (q < 4)
  | .quadRefNeg _ _ q _ => decide (q < 4)
  | .quadBitstream _ _ q _ => decide (q < 4)
  | .quadSynth _ _ q _ => decide (q < 4)
  | .ozLoopOff _ _ l _ => decide (l < 2)
  | .ozLoopSerial _ _ l _ => decide (l < 2)
  | .ozLoopFraming _ _ l _ => decide (l < 2)
  | .pcieLoop _ _ _ _ => true
  | .ppsLoop _ _ _ => true
  | .prodModeWrite _ _ _ => true
  | .pdelayReqSend _ p => decide (p < 8)
  | .plcaStatusUp _ p => decide (4 ≤ p) && decide (p < 8)
  | .d3hotExit _ => true
  | .pcieLinkUp _ _ _ => true
  | .pcieLoopbackSlave _ => true
  | .lockstepMismatch _ w => decide (w < 2)
  | .journalDramUe _ w => decide (w < 2)
  | .wingSelftestDone _ w _ => decide (w < 2)
  | .proofDue _ => true

end Sys2Proof
end

