-- ==== Sys2Proof/Machine/HostRows.lean ====
section
/-! DEFINITION. Sys2Proof/Machine/HostRows.lean: the meanings of the commands of register access, bring-up, reset, the endpoint and the host rings (chapters 21 and 22). -/

namespace Sys2Proof.Machine

/-- REGISTER_WRITE (R18): A host write to a register that has no row of its own acts according to the access code of each of its fields. -/
def execRegisterWrite (t : Nat) (i : Iface) (en addr : Nat) (data : Word) (s : State) : Host.Outcome State Fault Refusal :=
  if (Instr.registerWrite t i en addr data).wf then doneS s ((s.at t).write i en addr data).2 else doneS s (s.at t)

/-- RC_READ (R18): A read of an RC register returns its value and clears it to its reset value atomically. -/
def execRcRead (t : Nat) (i : Iface) (en addr : Nat) (s : State) : Host.Outcome State Fault Refusal :=
  if (Instr.rcRead t i en addr).wf then doneS s ((s.at t).read i en addr).2.2 else doneS s (s.at t)

/-- LATCHED_READ (R865): A read of a _LO register latches its _HI register for the interface that made the read. -/
def execLatchedRead (t : Nat) (i : Iface) (en addr : Nat) (s : State) : Host.Outcome State Fault Refusal :=
  if (Instr.latchedRead t i en addr).wf then doneS s ((s.at t).read i en addr).2.2 else doneS s (s.at t)

/-- ACC_ERR_CLR (R862): A write of 1 to GLB_ACC_ERR_CLR clears VALID and OVERFLOW so that the next access error is captured. -/
def execAccErrClr (t : Nat) (i : Iface) (data : Word) (s : State) : Host.Outcome State Fault Refusal :=
  hostRow s t true i Reg.GLB_ACC_ERR_CLR data

/-- GLB_CTL_WRITE (R870): A write to GLB_CTL sets the write locks, and a write that would set both locks is refused. -/
def execGlbCtlWrite (t : Nat) (i : Iface) (data : Word) (s : State) : Host.Outcome State Fault Refusal :=
  hostRow s t true i Reg.GLB_CTL data

/-- SPI_WRITE_FRAME (R827): An 11-byte SPI write frame is CRC-checked, performed, and answered with STATUS. -/
def execSpiWriteFrame (t : Nat) (bytes : List Byte) (s : State) : Host.Outcome State Fault Refusal :=
  doneS s ((s.at t).spiFrame bytes false)

/-- SPI_READ_FRAME (R827): A 13-byte SPI read frame returns the data, its CRC and STATUS, or RETRY when the data is not ready. -/
def execSpiReadFrame (t : Nat) (bytes : List Byte) (late : Bool) (s : State) : Host.Outcome State Fault Refusal :=
  doneS s ((s.at t).spiFrame bytes late)

/-- POWER_ON (R839): The supplies rise from outside their limits and the device performs a power-on reset. -/
def execPowerOn (t : Nat) (s : State) : Host.Outcome State Fault Refusal :=
  resetRow s t true (fun (d : Dev) => d.powerOn)

/-- SUPPLY_FAULT (R904): A rail that leaves its tolerance after RESET holds the wings in reset and causes a power-on reset. -/
def execSupplyFault (t : Nat) (s : State) : Host.Outcome State Fault Refusal :=
  resetRow s t true (fun (d : Dev) => d.powerOn)

/-- BOARD_RESET (R839): RESET_N held low resets the module and keeps the journal regions in self-refresh. -/
def execBoardReset (t : Nat) (low : Nat) (s : State) : Host.Outcome State Fault Refusal :=
  resetRow s t true (fun (d : Dev) => d.boardReset low)

/-- RESET_RELEASE (R846): The rise of RESET_N samples the straps and, once the PLL locks, enters SELFTEST with a new power epoch. -/
def execResetRelease (t : Nat) (twinId debugEn pupaHold refclkSel : Bool) (s : State) : Host.Outcome State Fault Refusal :=
  resetRow s t true (fun (d : Dev) => d.resetRelease twinId debugEn pupaHold refclkSel)

/-- HOST_RESET (R840): A write of the key 0xA5C3 with RESET 1 to GLB_RESET_CTL resets the module. -/
def execHostReset (t : Nat) (i : Iface) (s : State) : Host.Outcome State Fault Refusal :=
  hostRow s t true i Reg.GLB_RESET_CTL (0xA5C30001 : Word)

/-- WATCHDOG_RESET (R839): When the module watchdog has gone unserviced for 50 ms, the module resets. -/
def execWatchdogReset (t : Nat) (s : State) : Host.Outcome State Fault Refusal :=
  resetRow s t true (fun (d : Dev) => if d.boot = 0 then d else d.moduleReset 4)

/-- SELFTEST_DONE (R846): At the end of SELFTEST the device goes to pupa when the tests pass and to SAFE when a test fails. -/
def execSelftestDone (t : Nat) (failed : Nat) (s : State) : Host.Outcome State Fault Refusal :=
  devRow s t true (fun (d : Dev) => d.selftestDone failed)

/-- IMAGE_LOADED (R792): The qualifying instar is loaded on both wings and the device enters CALIBRATE, or waits in pupa. -/
def execImageLoaded (t : Nat) (s : State) : Host.Outcome State Fault Refusal :=
  devRow s t true (fun (d : Dev) => d.imageLoaded)

/-- PUPA_GO (R849): A write of 1 to GLB_BOOT_CTL.PUPA_GO releases a held pupa when a slot qualifies. -/
def execPupaGo (t : Nat) (i : Iface) (data : Word) (s : State) : Host.Outcome State Fault Refusal :=
  hostRow s t true i Reg.GLB_BOOT_CTL data

/-- SYNC_TIMEOUT (R850): When SYNC_TIMEOUT expires without a lock, the device moves to DEGRADED. -/
def execSyncTimeout (t : Nat) (s : State) : Host.Outcome State Fault Refusal :=
  devRow s t true (fun (d : Dev) => d.syncTimeout)

/-- PWRFAIL_FALL (R842): The fall of PWRFAIL_N starts the ordered power-fail actions: record, holds, low-power mode, keep flush, ledger write and save. -/
def execPwrfailFall (t : Nat) (s : State) : Host.Outcome State Fault Refusal :=
  devRow s t true (fun (d : Dev) => d.pwrfailFall)

/-- PWRFAIL_END (R844): When PWRFAIL_N has been high for 100 ms, the save is invalidated and service resumes. -/
def execPwrfailEnd (t : Nat) (s : State) : Host.Outcome State Fault Refusal :=
  devRow s t true (fun (d : Dev) => d.pwrfailEnd)

/-- ENDPOINT_RESET (R820): A PCIe fundamental, hot or function-level reset clears only the endpoint and the host ring registers. -/
def execEndpointReset (t : Nat) (flr : Bool) (s : State) : Host.Outcome State Fault Refusal :=
  devRow s t true (fun (d : Dev) => d.endpointReset flr)

/-- D3HOT_ENTRY (R821): In D3hot the endpoint stops messages and DMA, and every host ring stalls. -/
def execD3hotEntry (t : Nat) (s : State) : Host.Outcome State Fault Refusal :=
  devRow s t true (fun (d : Dev) => d.d3hot true)

/-- D3HOT_EXIT (R821): The host returns the endpoint from D3hot to D0, after which messages, DMA and the host rings resume. -/
def execD3hotExit (t : Nat) (s : State) : Host.Outcome State Fault Refusal :=
  devRow s t true (fun (d : Dev) => d.d3hot false)

/-- PCIE_LINK_UP (R820): PCIe link training completes, GLB_PCIE_STATUS shows the link up, and host access and ring DMA become possible again. -/
def execPcieLinkUp (t : Nat) (speed width : Nat) (s : State) : Host.Outcome State Fault Refusal :=
  devRow s t true (fun (d : Dev) => d.pcieUp speed width)

/-- PCIE_LOOPBACK_SLAVE (R886): The host root port directs the endpoint into the Loopback state, where it acts as loopback slave and TST_PCIE_STATUS shows this. -/
def execPcieLoopbackSlave (t : Nat) (s : State) : Host.Outcome State Fault Refusal :=
  devRow s t true (fun (d : Dev) => let d := d.putB Reg.TST_PCIE_STATUS 1 true; { d with host := { d.host with linkUp := false } })

/-- HOST_RING_TAKE (R833): The active wing takes a host ring descriptor when credit, room and limit allow. -/
def execHostRingTake (t : Nat) (r : Nat) (s : State) : Host.Outcome State Fault Refusal :=
  devRow s t (Instr.hostRingTake t r).wf (fun (d : Dev) => d.hostTake r)

/-- HOST_RING_ACK (R834): After the argument is copied to both wings, SQ_ACK advances and the submission is accepted. -/
def execHostRingAck (t : Nat) (r : Nat) (s : State) : Host.Outcome State Fault Refusal :=
  devRow s t (Instr.hostRingAck t r).wf (fun (d : Dev) => (d.hostAck r).dispatchAll)

/-- HOST_RING_COMPLETION (R836): A completion entry is written in SQ_INDEX order through the claim gate. -/
def execHostRingCompletion (t : Nat) (r : Nat) (s : State) : Host.Outcome State Fault Refusal :=
  devRow s t (Instr.hostRingCompletion t r).wf (fun (d : Dev) => d.hostEntry r)

/-- HOST_RING_ENABLE (R838): A write to GLB_HR[r]_CTL.EN starts or stops the taking of descriptors. -/
def execHostRingEnable (t : Nat) (i : Iface) (r : Nat) (data : Word) (s : State) : Host.Outcome State Fault Refusal :=
  hostRow s t (Instr.hostRingEnable t i r data).wf i (Reg.GLB_HR_CTL r) data

end Sys2Proof.Machine
end

