-- ==== Sys2Proof/Machine/LocalRows.lean ====
section
/-! DEFINITION. Sys2Proof/Machine/LocalRows.lean: the meanings of the commands of conversion, filters, phasors, acquisition and compression (chapters 4 to 6, 14, 15). -/

namespace Sys2Proof.Machine

/-- CALIBRATION_DONE (R172): The calibration of the selected quadrants ends, writing the gain and offset factors or setting CAL_FAIL, and power-up calibration leads to SYNC. -/
def execCalibrationDone (t : Nat) (quads : List Nat) (facts : List CalFact) (s : State) : Host.Outcome State Fault Refusal :=
  devRow s t (Instr.calibrationDone t quads facts).wf (fun (d : Dev) => d.calibrationDone quads facts)

/-- BASE_RATE_SAMPLE (R137): The decimator produces a corrected base-rate word for each channel and the chain up to the resampler advances. -/
def execBaseRateSample (t : Nat) (q : Nat) (a b c : List (Nat × Nat)) (refs : List Int) (s : State) : Host.Outcome State Fault Refusal :=
  convRow s t (Instr.baseRateSample t q a b c refs).wf (fun (d : Dev) => d.baseRate q (a ++ b ++ c) refs)

/-- SAMPLE_TICK (R41): The resampler produces one output sample, which feeds the moving average and the threshold units. -/
def execSampleTick (t : Nat) (s : State) : Host.Outcome State Fault Refusal :=
  runRow s t true (fun (d : Dev) => d.sampleTick)

/-- FLUTTER_BOUNDARY (R43): Every 16th sample tick runs the tracker, the phasors, the detectors and the flutter checks. -/
def execFlutterBoundary (t : Nat) (cks : List (Nat × (Int × Int))) (sense : Nat) (mis : Option (Nat × Nat)) (s : State) : Host.Outcome State Fault Refusal :=
  runRow s t true (fun (d : Dev) => d.flutter cks sense mis)

/-- TRACKED_CYCLE_BOUNDARY (R275): Every 128th sample tick the sub-synchronous watch bins are computed and type 4 detectors are evaluated. -/
def execTrackedCycleBoundary (t : Nat) (s : State) : Host.Outcome State Fault Refusal :=
  runRow s t true (fun (d : Dev) => d.trackedCycle)

/-- CHECK_FRAME_BOUNDARY (R153): At every third tracked-cycle boundary each check converter starts an injected or rotational check, or stays idle. -/
def execCheckFrameBoundary (t : Nat) (s : State) : Host.Outcome State Fault Refusal :=
  runRow s t true (fun (d : Dev) => d.frameBoundary)

/-- CNV_SNAP (R139): A write to CNV_Q[q]_SNAP requests a snapshot of the corrected words of a quadrant. -/
def execCnvSnap (t : Nat) (i : Iface) (q : Nat) (data : Word) (s : State) : Host.Outcome State Fault Refusal :=
  hostRow s t (Instr.cnvSnap t i q data).wf i (Reg.CNV_Q_SNAP q) data

/-- CNV_SNAP_ALL (R141): A write to CNV_SNAP_ALL requests a snapshot of all quadrants on one sample. -/
def execCnvSnapAll (t : Nat) (i : Iface) (data : Word) (s : State) : Host.Outcome State Fault Refusal :=
  hostRow s t true i Reg.CNV_SNAP_ALL data

/-- SNAPSHOT_LATCH (R139): At the next base-rate sample the requested words are latched and SNAP_SEQ is incremented. -/
def execSnapshotLatch (t : Nat) (s : State) : Host.Outcome State Fault Refusal :=
  convRow s t true (fun (d : Dev) => d.snapLatch)

/-- CK_INJ (R158): A write to CNV_CK[k]_INJ queues an injected check, merges it, or refuses it. -/
def execCkInj (t : Nat) (i : Iface) (k : Nat) (data : Word) (s : State) : Host.Outcome State Fault Refusal :=
  hostRow s t (Instr.ckInj t i k data).wf i (Reg.CNV_CK_INJ k) data

/-- RES_STATUS_READ (R164): A read of RES_STATUS captures the front result buffer into the read view. -/
def execResStatusRead (t : Nat) (i : Iface) (k : Nat) (s : State) : Host.Outcome State Fault Refusal :=
  readRow s t (Instr.resStatusRead t i k).wf i (Reg.CNV_CK_RES_STATUS k)

/-- RES_CONSUME (R166): A read of RES_CONSUME captures the view, clears VALID, and promotes the back buffer. -/
def execResConsume (t : Nat) (i : Iface) (k : Nat) (s : State) : Host.Outcome State Fault Refusal :=
  readRow s t (Instr.resConsume t i k).wf i (Reg.CNV_CK_RES_CONSUME k)

/-- CAL_START (R173): A write of START with QMASK requests a runtime calibration, or is refused as BUSY or TOO_SOON. -/
def execCalStart (t : Nat) (i : Iface) (data : Word) (s : State) : Host.Outcome State Fault Refusal :=
  hostRow s t true i Reg.CNV_CAL_CTL (setBits data 0 0 1)

/-- LP_REQUEST (R180): A write to CNV_LP_CTL.HOST_LP requests low-power entry or exit for quadrants. -/
def execLpRequest (t : Nat) (i : Iface) (data : Word) (s : State) : Host.Outcome State Fault Refusal :=
  hostRow s t true i Reg.CNV_LP_CTL data

/-- SETTLE_END (R232): SETTLE clears once 96 base-rate samples have followed the marked edge. -/
def execSettleEnd (t : Nat) (s : State) : Host.Outcome State Fault Refusal :=
  convRow s t true (fun (d : Dev) => d.settleEnd)

/-- FIR_SWAP (R200): A write to FLT_CH[n]_SWAP starts, pends, replaces, or ignores a bank swap. -/
def execFirSwap (t : Nat) (i : Iface) (n : Nat) (data : Word) (s : State) : Host.Outcome State Fault Refusal :=
  hostRow s t (Instr.firSwap t i n data).wf i (Reg.FLT_CH_SWAP n) data

/-- FADE_DONE (R202): A cross-fade completes, the incoming bank becomes LIVE, and any pending request is acted on. -/
def execFadeDone (t : Nat) (n : Nat) (s : State) : Host.Outcome State Fault Refusal :=
  runRow s t (Instr.fadeDone t n).wf (fun (d : Dev) => d.fadeDone n)

/-- COEF_WRITE (R204): A coefficient write to FLT_COEF_DATA is accepted and advances the tap, or is refused as BANK_LOCKED. -/
def execCoefWrite (t : Nat) (i : Iface) (data : Word) (s : State) : Host.Outcome State Fault Refusal :=
  hostRow s t true i Reg.FLT_COEF_DATA data

/-- COEF_READ (R243): A read of FLT_COEF_DATA returns the coefficient and advances the tap. -/
def execCoefRead (t : Nat) (i : Iface) (s : State) : Host.Outcome State Fault Refusal :=
  readRow s t true i Reg.FLT_COEF_DATA

/-- HOST_FREEZE (R210): A write of FREEZE to FLT_CH[n]_FREEZE_CTL makes a host freeze of a held channel. -/
def execHostFreeze (t : Nat) (i : Iface) (n : Nat) (data : Word) (s : State) : Host.Outcome State Fault Refusal :=
  hostRow s t (Instr.hostFreeze t i n data).wf i (Reg.FLT_CH_FREEZE_CTL n) (setBits data 0 0 1)

/-- FREEZE_RELEASE (R211): A write of RELEASE to FREEZE_CTL releases any freeze. -/
def execFreezeRelease (t : Nat) (i : Iface) (n : Nat) (data : Word) (s : State) : Host.Outcome State Fault Refusal :=
  hostRow s t (Instr.freezeRelease t i n data).wf i (Reg.FLT_CH_FREEZE_CTL n) (setBits data 1 1 1)

/-- FREEZE_TAIL_END (R211): A triggered freeze is released after TAIL inactive sample ticks. -/
def execFreezeTailEnd (t : Nat) (n : Nat) (s : State) : Host.Outcome State Fault Refusal :=
  runRow s t (Instr.freezeTailEnd t n).wf (fun (d : Dev) => d.freezeTail n)

/-- FREEZE_MAX_END (R211): A freeze is released once it has lasted FLT_FREEZE_MAX ticks. -/
def execFreezeMaxEnd (t : Nat) (n : Nat) (s : State) : Host.Outcome State Fault Refusal :=
  runRow s t (Instr.freezeMaxEnd t n).wf (fun (d : Dev) => d.freezeMax n)

/-- TRK_HOLD_LIMIT (R218): After HOLD_LIM flutters with no valid candidate, the tracker enters RETURN. -/
def execTrkHoldLimit (t : Nat) (s : State) : Host.Outcome State Fault Refusal :=
  runRow s t true (fun (d : Dev) => d.trkHoldLimit)

/-- TRK_REF_RETURN (R216): After 64 valid flutters the tracker returns to a higher-priority reference. -/
def execTrkRefReturn (t : Nat) (s : State) : Host.Outcome State Fault Refusal :=
  runRow s t true (fun (d : Dev) => d.trkReturn)

/-- DECSYNC_PIN (R229): A DECSYNC pin edge requests a phase reset, which is accepted or ignored. -/
def execDecsyncPin (t : Nat) (width : Nat) (s : State) : Host.Outcome State Fault Refusal :=
  runRow s t true (fun (d : Dev) => if 200 ≤ width then d.decsync 0 else d)

/-- DECSYNC_COMMAND (R229): A write of 1 to FLT_CTL.DECSYNC requests a phase reset. -/
def execDecsyncCommand (t : Nat) (i : Iface) (data : Word) (s : State) : Host.Outcome State Fault Refusal :=
  hostRow s t true i Reg.FLT_CTL (setBits data 1 1 1)

/-- AO_MIN_HOLD_END (R280): When MIN_HOLD expires, an AO pin with no active source returns. -/
def execAoMinHoldEnd (t : Nat) (a : Nat) (s : State) : Host.Outcome State Fault Refusal :=
  runRow s t (Instr.aoMinHoldEnd t a).wf (fun (d : Dev) => d.aoHoldEnd a)

/-- AO_UNLATCH (R280): A write to PHS_AO_UNLATCH unlatches AO pins whose sources are inactive. -/
def execAoUnlatch (t : Nat) (i : Iface) (data : Word) (s : State) : Host.Outcome State Fault Refusal :=
  hostRow s t true i Reg.PHS_AO_UNLATCH data

/-- PHS_CH_STATUS_READ (R283): A read of PHS_CH[n]_STATUS captures the latest interpolated phasor into the read view. -/
def execPhsChStatusRead (t : Nat) (i : Iface) (n : Nat) (s : State) : Host.Outcome State Fault Refusal :=
  readRow s t (Instr.phsChStatusRead t i n).wf i (Reg.PHS_CH_STATUS n)

/-- DI_CHANGE (R596): the DI inputs that hold a new level for DEBOUNCE ticks at one 1 µs tick change on the event bus. -/
def execDiChange (t : Nat) (mask levels : Nat) (s : State) : Host.Outcome State Fault Refusal :=
  upRow s t (Instr.diChange t mask levels).wf (fun (d : Dev) => d.diChange mask levels)

/-- HOLDOFF_END (R603): A pattern unit's holdoff expires. -/
def execHoldoffEnd (t : Nat) (u : Nat) (s : State) : Host.Outcome State Fault Refusal :=
  upRow s t (Instr.holdoffEnd t u).wf (fun (d : Dev) => d.holdoffEnd u)

/-- DI_MISMATCH (R597): When the standby's and the shared DI value differ for over 1 ms, a mismatch is counted. -/
def execDiMismatch (t : Nat) (n : Nat) (s : State) : Host.Outcome State Fault Refusal :=
  upRow s t (Instr.diMismatch t n).wf (fun (d : Dev) => d.diMismatch)

/-- ACQ_ENTRY_COPY (R610): A chosen entry is copied to the host ring when it has room and passes the gate. -/
def execAcqEntryCopy (t : Nat) (s : State) : Host.Outcome State Fault Refusal :=
  devRow s t true (fun (d : Dev) => d.acqCopy)

/-- CAPTURE_RESUME (R614): Capture resumes below ACQ_RESUME_MB with a gap record. -/
def execCaptureResume (t : Nat) (s : State) : Host.Outcome State Fault Refusal :=
  devRow s t true (fun (d : Dev) => d.acqResume)

/-- WAVE_BLOCK (R615): A wave group gathers a full block and hands it to compression. -/
def execWaveBlock (t : Nat) (g : Nat) (s : State) : Host.Outcome State Fault Refusal :=
  devRow s t (Instr.waveBlock t g).wf (fun (d : Dev) => d.waveBlock g)

/-- ACQ_RING_TAIL_WRITE (R611): A write of ACQ_RING_TAIL is applied on both wings at the next flutter boundary. -/
def execAcqRingTailWrite (t : Nat) (i : Iface) (data : Word) (s : State) : Host.Outcome State Fault Refusal :=
  hostRow s t true i Reg.ACQ_RING_TAIL data

/-- CMP_JOB_TAKE (R650): A host compression descriptor is taken when the completion ring has room. -/
def execCmpJobTake (t : Nat) (s : State) : Host.Outcome State Fault Refusal :=
  devRow s t true (fun (d : Dev) => d.cmpTake)

/-- CMP_JOB_DONE (R639): A compression or decompression job ends with its STATUS, and the engine takes the next job. -/
def execCmpJobDone (t : Nat) (w e : Nat) (verifyOk dmaOk : Bool) (s : State) : Host.Outcome State Fault Refusal :=
  devRow s t (Instr.cmpJobDone t w e verifyOk dmaOk).wf (fun (d : Dev) => let (d, f) := d.cmpDone w e verifyOk dmaOk; if f then d.wingFault w 7 else d)

/-- CMP_COMPLETION_WRITE (R652): A completion entry is written in SQ_INDEX order through the claim gate. -/
def execCmpCompletionWrite (t : Nat) (s : State) : Host.Outcome State Fault Refusal :=
  devRow s t true (fun (d : Dev) => d.cmpEntry)

end Sys2Proof.Machine
end

