-- ==== Sys2Proof/Machine/NetRows.lean ====
section
/-! DEFINITION. Sys2Proof/Machine/NetRows.lean: the meanings of the commands of the network ports (chapter 7). -/

namespace Sys2Proof.Machine

/-- FRAME_RECEIVED (R290): A frame ends at a port and is sorted by length and FCS, timestamped, filtered and buffered. -/
def execFrameReceived (t : Nat) (p : Nat) (bytes : List Byte) (fcsOk : Bool) (sfd : Nat) (s : State) : Host.Outcome State Fault Refusal :=
  devRow s t (Instr.frameReceived t p bytes fcsOk sfd).wf (fun (d : Dev) => if d.portLoop p != 0 then d.loopReceived p bytes fcsOk else d.frameReceived p bytes fcsOk sfd)

/-- FRAME_RELEASE (R297): 500 ns after its end a frame is released in merged order to PRP discard and the classifier. -/
def execFrameRelease (r : Release) (s : State) : Host.Outcome State Fault Refusal :=
  devRow s r.t (Instr.frameRelease r).wf (fun (d : Dev) => match d.release with | (some f, d) => ((d.ingress f).ingressLag r.lag).lockCheck.dispatchAll | (none, d) => d)

/-- PRP_AGE_OUT (R303): A discard-table entry unseen for NET_PRP_AGE ms is removed. -/
def execPrpAgeOut (t : Nat) (s : State) : Host.Outcome State Fault Refusal :=
  devRow s t true (fun (d : Dev) => d.prpAge)

/-- LINK_CHANGE (R288): A port link goes up or down, writing a LINK record. -/
def execLinkChange (t : Nat) (p : Nat) (up : Bool) (speed : Nat) (peer : LinkPeer) (s : State) : Host.Outcome State Fault Refusal :=
  devRow s t (Instr.linkChange t p up speed peer).wf (fun (d : Dev) => d.linkChange p up speed peer)

/-- FRAME_TRANSMIT_END (R309): At a frame boundary the port starts the head frame of the highest non-empty queue. -/
def execFrameTransmitEnd (t : Nat) (p : Nat) (s : State) : Host.Outcome State Fault Refusal :=
  devRow s t (Instr.frameTransmitEnd t p).wf (fun (d : Dev) => if d.portLoop p != 0 then d.genStep p else d.txEnd p)

/-- PAUSE_HOLD_END (R316): The pause time of a received PAUSE frame expires and transmission resumes. -/
def execPauseHoldEnd (t : Nat) (p : Nat) (s : State) : Host.Outcome State Fault Refusal :=
  devRow s t (Instr.pauseHoldEnd t p).wf (fun (d : Dev) => d.pauseHoldEnd p)

/-- PAUSE_WATCHDOG (R317): A pause held for WD µs is released, and pause is ignored for IGN ms. -/
def execPauseWatchdog (t : Nat) (p : Nat) (s : State) : Host.Outcome State Fault Refusal :=
  devRow s t (Instr.pauseWatchdog t p).wf (fun (d : Dev) => d.pauseWatchdog p)

/-- PAUSE_IGNORE_END (R318): The pause-ignore period ends and the watchdog count restarts. -/
def execPauseIgnoreEnd (t : Nat) (p : Nat) (s : State) : Host.Outcome State Fault Refusal :=
  devRow s t (Instr.pauseIgnoreEnd t p).wf (fun (d : Dev) => d.pauseIgnoreEnd p)

/-- LPI_ENTRY (R319): After queues have been empty for IDLE µs, an EEE port asks its PHY for low-power idle. -/
def execLpiEntry (t : Nat) (p : Nat) (s : State) : Host.Outcome State Fault Refusal :=
  devRow s t (Instr.lpiEntry t p).wf (fun (d : Dev) => d.lpiEntry p)

/-- LPI_WAKE (R321): After the wake time T_w, the frame that ended low-power idle starts. -/
def execLpiWake (t : Nat) (p : Nat) (s : State) : Host.Outcome State Fault Refusal :=
  devRow s t (Instr.lpiWake t p).wf (fun (d : Dev) => d.lpiWake p)

/-- PLCA_LOST (R324): When PLCA status falls, the T port falls back to CSMA/CD. -/
def execPlcaLost (t : Nat) (p : Nat) (s : State) : Host.Outcome State Fault Refusal :=
  devRow s t (Instr.plcaLost t p).wf (fun (d : Dev) => d.plcaLost p)

/-- PLCA_STATUS_UP (R324): A T port whose PLCA status was false regains it, for example when a follower receives the BEACON again, and it leaves CSMA/CD. -/
def execPlcaStatusUp (t : Nat) (p : Nat) (s : State) : Host.Outcome State Fault Refusal :=
  devRow s t (Instr.plcaStatusUp t p).wf (fun (d : Dev) => d.plcaUp p)

/-- BACKOFF_END (R325): The random back-off wait ends and transmission is retried. -/
def execBackoffEnd (t : Nat) (p : Nat) (s : State) : Host.Outcome State Fault Refusal :=
  devRow s t (Instr.backoffEnd t p).wf (fun (d : Dev) => d.backoffEnd p)

/-- COLLISION (R325): A collision on a T port jams and backs off, or discards the frame. -/
def execCollision (t : Nat) (p : Nat) (late : Bool) (s : State) : Host.Outcome State Fault Refusal :=
  devRow s t (Instr.collision t p late).wf (fun (d : Dev) => d.collision p late)

end Sys2Proof.Machine
end

