-- ==== Sys2Proof/Machine/SchedRows.lean ====
section
/-! DEFINITION. Sys2Proof/Machine/SchedRows.lean: the meanings of the commands of cores, power and queues (chapters 12 and 13). -/

namespace Sys2Proof.Machine

/-- ITEM_COMPLETE (R530): A work item completes on a core, yielding its outputs and completion, and the core takes the next item. -/
def execItemComplete (t : Nat) (w core cycles status : Nat) (s : State) : Host.Outcome State Fault Refusal :=
  devRow s t (Instr.itemComplete t w core cycles status).wf (fun (d : Dev) => d.itemComplete w core cycles status)

/-- AFFINITY_PATIENCE_END (R544): An affinity item waiting SCH_PATIENCE µs goes to the lowest idle core. -/
def execAffinityPatienceEnd (t : Nat) (w id : Nat) (s : State) : Host.Outcome State Fault Refusal :=
  devRow s t (Instr.affinityPatienceEnd t w id).wf (fun (d : Dev) => d.patienceEnd w id)

/-- TCP_TIMER (R527): A stream connection timer event runs K_TCP. -/
def execTcpTimer (t : Nat) (c : Nat) (s : State) : Host.Outcome State Fault Refusal :=
  devRow s t (Instr.tcpTimer t c).wf (fun (d : Dev) => (d.mkItem 0x24 0 0 (.tcp c 0 [])).2.dispatchAll)

/-- NECTAR_TICK (R546): Every 100 µs the nectar bucket updates and the level may change. -/
def execNectarTick (t : Nat) (power : Nat) (temps : List Int) (s : State) : Host.Outcome State Fault Refusal :=
  devRow s t true (fun (d : Dev) => (d.nectarTick power temps).dispatchAll)

/-- WEAR_SECOND (R554): Each powered second adds to HOURS and EQ of each wing die. -/
def execWearSecond (t : Nat) (temps : List Int) (s : State) : Host.Outcome State Fault Refusal :=
  devRow s t true (fun (d : Dev) => d.wearSecond temps)

/-- WEAR_HOUR (R556): The hourly ledger write adjusts the wear cap by AHEAD. -/
def execWearHour (t : Nat) (s : State) : Host.Outcome State Fault Refusal :=
  devRow s t true (fun (d : Dev) => d.wearHour)

/-- TJ_MAX (R550): A die reaching 105 °C sets TJ_MAX and slows or holds work. -/
def execTjMax (t : Nat) (sensor : Nat) (temp : Int) (s : State) : Host.Outcome State Fault Refusal :=
  devRow s t (Instr.tjMax t sensor temp).wf (fun (d : Dev) => (d.tjMax sensor temp).dispatchAll)

/-- QUEUE_PUSH (R570): An item's first word is admitted or dropped whole at a queue. -/
def execQueuePush (t : Nat) (w q : Nat) (head : Option (Nat × Nat × Option Nat)) (words : List (BitVec 64)) (s : State) : Host.Outcome State Fault Refusal :=
  devRow s t (Instr.queuePush t w q head words).wf (fun (d : Dev) => match head with | some (len, pool, stamp) => (let (f, d) := d.qPush w q len pool stamp words; if f then d.wingFault w 5 else d) | none => d.qMore w q words)

/-- QUEUE_POP (R571): A consumer pops an item, returning a credit in credit mode. -/
def execQueuePop (t : Nat) (w q n ce : Nat) (ue : Bool) (s : State) : Host.Outcome State Fault Refusal :=
  devRow s t (Instr.queuePop t w q n ce ue).wf (fun (d : Dev) => let (f, d) := d.qPop w q n ce ue; if f then d.wingFault w 5 else d)

/-- QUEUE_FLUSH (R579): QUE_CMD FLUSH discards every item of a queue, or is refused. -/
def execQueueFlush (t : Nat) (i : Iface) (data : Word) (s : State) : Host.Outcome State Fault Refusal :=
  hostRow s t true i Reg.QUE_CMD (setBits data 13 12 1)

/-- QUEUE_DROP_REM (R578): QUE_CMD DROP_REM discards the unread remainder of the head item. -/
def execQueueDropRem (t : Nat) (i : Iface) (data : Word) (s : State) : Host.Outcome State Fault Refusal :=
  hostRow s t true i Reg.QUE_CMD (setBits data 13 12 2)

/-- SCRUB_PASS (R585): The scrubber reads and corrects all queue memory every 100 ms. -/
def execScrubPass (t : Nat) (w : Nat) (ces : List Nat) (ues : List (Nat × Nat)) (s : State) : Host.Outcome State Fault Refusal :=
  devRow s t (Instr.scrubPass t w ces ues).wf (fun (d : Dev) => let (f, d) := d.qScrub w ces ues; if f then d.wingFault w 5 else d)

/-- VIRTUAL_SERVICE_TICK (R575): Every VSERV ns the virtual depth falls by one. -/
def execVirtualServiceTick (t : Nat) (q : Nat) (s : State) : Host.Outcome State Fault Refusal :=
  devRow s t (Instr.virtualServiceTick t q).wf (fun (d : Dev) => d.qService q)

/-- LOCKSTEP_MISMATCH (R523): The lockstep comparison of a supervisor pair finds a mismatch, which is a wing fault. -/
def execLockstepMismatch (t : Nat) (w : Nat) (s : State) : Host.Outcome State Fault Refusal :=
  devRow s t (Instr.lockstepMismatch t w).wf (fun (d : Dev) => d.wingFault w 2)

/-- JOURNAL_DRAM_UE (R718): An uncorrectable DRAM error in a journal region faults its wing. -/
def execJournalDramUe (t : Nat) (w : Nat) (s : State) : Host.Outcome State Fault Refusal :=
  devRow s t (Instr.journalDramUe t w).wf (fun (d : Dev) => d.wingFault w 9)

end Sys2Proof.Machine
end

