-- ==== Sys2Proof/Machine/TestRows.lean ====
section
/-! DEFINITION. Sys2Proof/Machine/TestRows.lean: the meanings of the commands of loop-backs and tests (chapter 23). -/

namespace Sys2Proof.Machine

/-- PORT_LOOP_OFF (R876): TST_PORT[p]_CTL MODE 0 ends a port loop-back. -/
def execPortLoopOff (t : Nat) (i : Iface) (p : Nat) (data : Word) (s : State) : Host.Outcome State Fault Refusal :=
  hostRow s t (Instr.portLoopOff t i p data).wf i (Reg.TST_PORT_CTL p) (setBits data 2 0 0)

/-- PORT_LOOP_MAC (R876): MODE 1 requests a MAC loop-back on a port. -/
def execPortLoopMac (t : Nat) (i : Iface) (p : Nat) (data : Word) (s : State) : Host.Outcome State Fault Refusal :=
  hostRow s t (Instr.portLoopMac t i p data).wf i (Reg.TST_PORT_CTL p) (setBits data 2 0 1)

/-- PORT_LOOP_PCS (R876): MODE 2 requests a PCS loop-back on an F or M port. -/
def execPortLoopPcs (t : Nat) (i : Iface) (p : Nat) (data : Word) (s : State) : Host.Outcome State Fault Refusal :=
  hostRow s t (Instr.portLoopPcs t i p data).wf i (Reg.TST_PORT_CTL p) (setBits data 2 0 2)

/-- PORT_LOOP_PMA (R876): MODE 3 requests a near-end PMA loop-back. -/
def execPortLoopPma (t : Nat) (i : Iface) (p : Nat) (data : Word) (s : State) : Host.Outcome State Fault Refusal :=
  hostRow s t (Instr.portLoopPma t i p data).wf i (Reg.TST_PORT_CTL p) (setBits data 2 0 3)

/-- PORT_LOOP_REMOTE (R876): MODE 4 requests a remote loop-back toward the partner. -/
def execPortLoopRemote (t : Nat) (i : Iface) (p : Nat) (data : Word) (s : State) : Host.Outcome State Fault Refusal :=
  hostRow s t (Instr.portLoopRemote t i p data).wf i (Reg.TST_PORT_CTL p) (setBits data 2 0 4)

/-- PORT_LOOP_T1S_ANALOG (R876): MODE 5 requests an analogue loop-back inside a T port PHY. -/
def execPortLoopT1sAnalog (t : Nat) (i : Iface) (p : Nat) (data : Word) (s : State) : Host.Outcome State Fault Refusal :=
  hostRow s t (Instr.portLoopT1sAnalog t i p data).wf i (Reg.TST_PORT_CTL p) (setBits data 2 0 5)

/-- PORT_LOOP_GENERATE (R878): START sends COUNT pattern frames of LEN bytes. -/
def execPortLoopGenerate (t : Nat) (i : Iface) (p : Nat) (data : Word) (s : State) : Host.Outcome State Fault Refusal :=
  hostRow s t (Instr.portLoopGenerate t i p data).wf i (Reg.TST_PORT_CTL p) (setBits data 3 3 1)

/-- LOOP_DONE (R879): 1 ms after the last frame DONE and PASS are set and TST_RESULT is written. -/
def execLoopDone (t : Nat) (p : Nat) (s : State) : Host.Outcome State Fault Refusal :=
  devRow s t (Instr.loopDone t p).wf (fun (d : Dev) => d.loopDone p)

/-- LOOP_TIMEOUT (R872): A loop-back ends itself after TST_TIMEOUT seconds. -/
def execLoopTimeout (t : Nat) (kind idx : Nat) (s : State) : Host.Outcome State Fault Refusal :=
  devRow s t (Instr.loopTimeout t kind idx).wf (fun (d : Dev) => (d.loopTimeout kind idx).afterLoop d)

/-- QUAD_LOOP_OFF (R880): TST_Q[q]_CTL MODE 0 ends a quadrant test. -/
def execQuadLoopOff (t : Nat) (i : Iface) (q : Nat) (data : Word) (s : State) : Host.Outcome State Fault Refusal :=
  hostRow s t (Instr.quadLoopOff t i q data).wf i (Reg.TST_Q_CTL q) (setBits data 2 0 0)

/-- QUAD_TONE (R880): MODE 1 injects the test tone at the input node. -/
def execQuadTone (t : Nat) (i : Iface) (q : Nat) (data : Word) (s : State) : Host.Outcome State Fault Refusal :=
  hostRow s t (Instr.quadTone t i q data).wf i (Reg.TST_Q_CTL q) (setBits data 2 0 1)

/-- QUAD_REF_POS (R880): MODE 2 drives +1.6 V from the reference. -/
def execQuadRefPos (t : Nat) (i : Iface) (q : Nat) (data : Word) (s : State) : Host.Outcome State Fault Refusal :=
  hostRow s t (Instr.quadRefPos t i q data).wf i (Reg.TST_Q_CTL q) (setBits data 2 0 2)

/-- QUAD_REF_NEG (R880): MODE 3 drives −1.6 V from the reference. -/
def execQuadRefNeg (t : Nat) (i : Iface) (q : Nat) (data : Word) (s : State) : Host.Outcome State Fault Refusal :=
  hostRow s t (Instr.quadRefNeg t i q data).wf i (Reg.TST_Q_CTL q) (setBits data 2 0 3)

/-- QUAD_BITSTREAM (R880): MODE 4 replaces the modulator output with a coded tone. -/
def execQuadBitstream (t : Nat) (i : Iface) (q : Nat) (data : Word) (s : State) : Host.Outcome State Fault Refusal :=
  hostRow s t (Instr.quadBitstream t i q data).wf i (Reg.TST_Q_CTL q) (setBits data 2 0 4)

/-- QUAD_SYNTH (R880): MODE 5 replaces resampled samples with the computed tone. -/
def execQuadSynth (t : Nat) (i : Iface) (q : Nat) (data : Word) (s : State) : Host.Outcome State Fault Refusal :=
  hostRow s t (Instr.quadSynth t i q data).wf i (Reg.TST_Q_CTL q) (setBits data 2 0 5)

/-- OZ_LOOP_OFF (R884): TST_OZ[l]_CTL MODE 0 ends a lane loop-back. -/
def execOzLoopOff (t : Nat) (i : Iface) (l : Nat) (data : Word) (s : State) : Host.Outcome State Fault Refusal :=
  hostRow s t (Instr.ozLoopOff t i l data).wf i (Reg.TST_OZ_CTL l) (setBits data 1 0 0)

/-- OZ_LOOP_SERIAL (R884): MODE 1 loops an Oznis lane from serialiser to deserialiser. -/
def execOzLoopSerial (t : Nat) (i : Iface) (l : Nat) (data : Word) (s : State) : Host.Outcome State Fault Refusal :=
  hostRow s t (Instr.ozLoopSerial t i l data).wf i (Reg.TST_OZ_CTL l) (setBits data 1 0 1)

/-- OZ_LOOP_FRAMING (R884): MODE 2 loops an Oznis lane at the framing layer. -/
def execOzLoopFraming (t : Nat) (i : Iface) (l : Nat) (data : Word) (s : State) : Host.Outcome State Fault Refusal :=
  hostRow s t (Instr.ozLoopFraming t i l data).wf i (Reg.TST_OZ_CTL l) (setBits data 1 0 2)

/-- PCIE_LOOP (R886): TST_PCIE_LB.EN, written through SPI, loops the PCIe PCS and checks a pattern. -/
def execPcieLoop (t : Nat) (i : Iface) (data : Word) (errs : Nat) (s : State) : Host.Outcome State Fault Refusal :=
  let s' := ((s.at t).write i 15 Reg.TST_PCIE_LB data).2; doneS s { s' with dev := s'.dev.pcieErrors errs }

/-- PPS_LOOP (R887): TST_PPS_CTL.EN starts a PPS_OUT to PPS_IN loop, or is refused as IN_USE. -/
def execPpsLoop (t : Nat) (i : Iface) (data : Word) (s : State) : Host.Outcome State Fault Refusal :=
  hostRow s t true i Reg.TST_PPS_CTL data

/-- PROD_MODE_WRITE (R875): A write to TST_CTL.PROD_MODE sets it only under DEBUG_EN. -/
def execProdModeWrite (t : Nat) (i : Iface) (data : Word) (s : State) : Host.Outcome State Fault Refusal :=
  hostRow s t true i Reg.TST_CTL data

end Sys2Proof.Machine
end

