-- ==== Sys2Proof/Machine/TimeRows.lean ====
section
/-! DEFINITION. Sys2Proof/Machine/TimeRows.lean: the meanings of the commands of boundaries and the time base (chapters 2, 3 and 9). -/

namespace Sys2Proof.Machine

/-- WINGBEAT_BOUNDARY (R62): The ordered boundary actions run: overrun check, claim change, commit, domain switch, slot close and statistics. -/
def execWingbeatBoundary (t : Nat) (dig : Option DigestIn) (s : State) : Host.Outcome State Fault Refusal :=
  resetRow s t true (fun (d : Dev) => let (rst, d') := d.wingbeat dig; if rst then d'.moduleReset 3 else d'.afterLoop d)

/-- SLOW_WINDOW_LEAVE (R405): A slot leaves the slow window ALN_SLOW_LEN wingbeats after its close, going to the slow export and K_ARCHIVE. -/
def execSlowWindowLeave (t : Nat) (s : State) : Host.Outcome State Fault Refusal :=
  devRow s t true (fun (d : Dev) => d.slowLeave.dispatchAll)

/-- EXPORT_WRITE (R422): An export entry passes the claim gate and is written to the host ring, or is skipped when the ring lacks room. -/
def execExportWrite (t : Nat) (s : State) : Host.Outcome State Fault Refusal :=
  devRow s t true (fun (d : Dev) => d.exportWrite)

/-- PTP_MASTER_SEND (R90): At its message interval a master port sends Sync and Announce with the clockClass of the output time. -/
def execPtpMasterSend (t : Nat) (p : Nat) (s : State) : Host.Outcome State Fault Refusal :=
  devRow s t (Instr.ptpMasterSend t p).wf (fun (d : Dev) => d.ptpMasterSend p)

/-- PPS_EDGE (R91): A PPS edge is stamped and marks a TAI second, updating its domain. -/
def execPpsEdge (t : Nat) (n : Nat) (s : State) : Host.Outcome State Fault Refusal :=
  devRow s t (Instr.ppsEdge t n).wf (fun (d : Dev) => ((d.ppsEdge n).ppsLoopEdge n).lockCheck)

/-- PPS_TOD_ARM (R92): A write of ARM to TIM_PPS_TOD_ARM arms the TAI second that the next edge marks. -/
def execPpsTodArm (t : Nat) (i : Iface) (n : Nat) (data : Word) (s : State) : Host.Outcome State Fault Refusal :=
  hostRow s t (Instr.ppsTodArm t i n data).wf i (Reg.TIM_PPS_TOD_ARM n) data

/-- IRIG_FRAME (R97): An IRIG-B frame is decoded and converted to TAI, or rejected and counted. -/
def execIrigFrame (t : Nat) (f : IrigFrame) (s : State) : Host.Outcome State Fault Refusal :=
  devRow s t true (fun (d : Dev) => (d.irigFrame f).lockCheck)

/-- TWIN_TIME_EXCHANGE (R98): Every 250 µs a two-way TIME exchange over the Oznis link disciplines a twin domain. -/
def execTwinTimeExchange (t : Nat) (x : TimeExchange) (s : State) : Host.Outcome State Fault Refusal :=
  devRow s t (Instr.twinTimeExchange t x).wf (fun (d : Dev) => (d.twinExchange x).lockCheck)

/-- SOURCE_LOST (R104): When a source timeout expires, the domain goes to HOLDOVER or FREE. -/
def execSourceLost (t : Nat) (k : Nat) (s : State) : Host.Outcome State Fault Refusal :=
  devRow s t (Instr.sourceLost t k).wf (fun (d : Dev) => d.domLost k)

/-- HOLDOVER_LIMIT (R104): When HOLD_LIM seconds have passed in HOLDOVER, the domain becomes LOST. -/
def execHoldoverLimit (t : Nat) (k : Nat) (s : State) : Host.Outcome State Fault Refusal :=
  devRow s t (Instr.holdoverLimit t k).wf (fun (d : Dev) => d.holdoverLimit k)

/-- FORCE_SWITCH (R109): A write of 1 to TIM_CTL.FORCE_SWITCH starts an outstanding refused switch at the next boundary. -/
def execForceSwitch (t : Nat) (i : Iface) (data : Word) (s : State) : Host.Outcome State Fault Refusal :=
  hostRow s t true i Reg.TIM_CTL (setBits data 2 2 1)

/-- SLEW_DONE (R110): When the residual slew falls below 2.5 ns, the output time follows the new domain and SLEW_DONE is written. -/
def execSlewDone (t : Nat) (s : State) : Host.Outcome State Fault Refusal :=
  devRow s t true (fun (d : Dev) => d.slewDone)

/-- DOMAIN_REVERT (R113): When the preferred domain has been locked for 60 s with REVERT set, the device switches back to it. -/
def execDomainRevert (t : Nat) (s : State) : Host.Outcome State Fault Refusal :=
  devRow s t true (fun (d : Dev) => d.domainRevert)

/-- TIM_SNAP (R125): A write to TIM_SNAP copies the output and elapsed times into the snapshot registers. -/
def execTimSnap (t : Nat) (i : Iface) (data : Word) (s : State) : Host.Outcome State Fault Refusal :=
  hostRow s t true i Reg.TIM_SNAP data

/-- LEAP (R121): At the end of the UTC day a pending leap second changes TIM_LEAP_OFS and a LEAP record is written. -/
def execLeap (t : Nat) (s : State) : Host.Outcome State Fault Refusal :=
  devRow s t true (fun (d : Dev) => match d.tim.leapAt with | some (a, _) => (let d2 := d.leap; if d2.leapOfs ≠ d.leapOfs then { d2 with ing := { d2.ing with leapAt := some (a, d.leapOfs) } } else d2) | none => d)

/-- LEAP_PEND_START (R122): Sixty seconds before a leap second LEAP_PEND is set. -/
def execLeapPendStart (t : Nat) (s : State) : Host.Outcome State Fault Refusal :=
  devRow s t true (fun (d : Dev) => d.leapPendStart)

/-- LEAP_OCC_END (R122): LEAP_OCC clears 86,400 s after the leap. -/
def execLeapOccEnd (t : Nat) (s : State) : Host.Outcome State Fault Refusal :=
  devRow s t true (fun (d : Dev) => d.leapOccEnd)

/-- PPS_OUT_PULSE (R131): PPS_OUT rises at the top of each second and falls after WIDTH ms. -/
def execPpsOutPulse (t : Nat) (s : State) : Host.Outcome State Fault Refusal :=
  devRow s t true (fun (d : Dev) => d.ppsOut)

/-- PDELAY_REQ_SEND (R87): At its peer-delay request interval each port with a PTP role sends Pdelay_Req to measure the path delay. -/
def execPdelayReqSend (t : Nat) (p : Nat) (s : State) : Host.Outcome State Fault Refusal :=
  devRow s t (Instr.pdelayReqSend t p).wf (fun (d : Dev) => d.pdelaySend p)

end Sys2Proof.Machine
end

