-- ==== Sys2Proof/Machine/TxnRows.lean ====
section
/-! DEFINITION. Sys2Proof/Machine/TxnRows.lean: the meanings of the commands of transactions (chapter 20). -/

namespace Sys2Proof.Machine

/-- TXN_BEGIN (R799): TXN_CMD BEGIN opens a transaction, or resumes a restored one. -/
def execTxnBegin (t : Nat) (i : Iface) (data : Word) (s : State) : Host.Outcome State Fault Refusal :=
  hostRow s t true i Reg.TXN_CMD (setBits data 3 0 1)

/-- TXN_COMMIT (R799): TXN_CMD COMMIT starts validation, or is refused. -/
def execTxnCommit (t : Nat) (i : Iface) (data : Word) (s : State) : Host.Outcome State Fault Refusal :=
  hostRow s t true i Reg.TXN_CMD (setBits data 3 0 2)

/-- TXN_ROLLBACK (R799): TXN_CMD ROLLBACK discards the shadows and the staging. -/
def execTxnRollback (t : Nat) (i : Iface) (data : Word) (s : State) : Host.Outcome State Fault Refusal :=
  hostRow s t true i Reg.TXN_CMD (setBits data 3 0 3)

/-- TXN_LOAD_IMAGE (R813): TXN_CMD LOAD_IMAGE stages an image from host memory. -/
def execTxnLoadImage (t : Nat) (i : Iface) (data : Word) (s : State) : Host.Outcome State Fault Refusal :=
  hostRow s t true i Reg.TXN_CMD (setBits data 3 0 4)

/-- TXN_CLEAR_STAGING (R814): TXN_CMD CLEAR_STAGING empties the staging area. -/
def execTxnClearStaging (t : Nat) (i : Iface) (data : Word) (s : State) : Host.Outcome State Fault Refusal :=
  hostRow s t true i Reg.TXN_CMD (setBits data 3 0 5)

/-- TXN_CONFIRM (R809): TXN_CMD CONFIRM ends probation and confirms the slot. -/
def execTxnConfirm (t : Nat) (i : Iface) (data : Word) (s : State) : Host.Outcome State Fault Refusal :=
  hostRow s t true i Reg.TXN_CMD (setBits data 3 0 6)

/-- TXN_REVERT (R809): TXN_CMD REVERT returns to the other slot, or is refused as NO_PREVIOUS. -/
def execTxnRevert (t : Nat) (i : Iface) (data : Word) (s : State) : Host.Outcome State Fault Refusal :=
  hostRow s t true i Reg.TXN_CMD (setBits data 3 0 7)

/-- TXN_LOAD_RESET (R796): TXN_CMD LOAD_RESET stores a full image and resets the wings into pupa. -/
def execTxnLoadReset (t : Nat) (i : Iface) (data : Word) (s : State) : Host.Outcome State Fault Refusal :=
  hostRow s t true i Reg.TXN_CMD (setBits data 3 0 8)

/-- TXN_BAD_OP (R814): An undefined TXN_CMD OP is refused as BAD_OP. -/
def execTxnBadOp (t : Nat) (i : Iface) (data : Word) (s : State) : Host.Outcome State Fault Refusal :=
  hostRow s t (Instr.txnBadOp t i data).wf i Reg.TXN_CMD data

/-- TXN_IMG_WDATA (R798): A write to TXN_IMG_WDATA appends four bytes to staging, or is refused as TOO_LARGE. -/
def execTxnImgWdata (t : Nat) (i : Iface) (data : Word) (s : State) : Host.Outcome State Fault Refusal :=
  hostRow s t true i Reg.TXN_IMG_WDATA data

/-- TXN_TIMEOUT_EXPIRY (R799): An open transaction idle for TXN_TIMEOUT s is discarded. -/
def execTxnTimeoutExpiry (t : Nat) (s : State) : Host.Outcome State Fault Refusal :=
  devRow s t true (fun (d : Dev) => d.txnExpire)

/-- TXN_VALIDATION_DONE (R800): Validation ends, refusing with a code or starting the store. -/
def execTxnValidationDone (t : Nat) (s : State) : Host.Outcome State Fault Refusal :=
  devRow s t true (fun (d : Dev) => d.txnValidated)

/-- TXN_STORE_DONE (R802): The store of the new slot ends and the commit is scheduled, prepared or refused. -/
def execTxnStoreDone (t : Nat) (ok : Bool) (s : State) : Host.Outcome State Fault Refusal :=
  resetRow s t true (fun (d : Dev) => d.txnStoreEnd ok)

/-- TXN_PREPARE (R737): The standby twin validates a PREPARE and answers ACK or NAK. -/
def execTxnPrepare (t : Nat) (l : Nat) (bytes : List Byte) (elems : List (Nat × List Byte)) (rootsOk : Bool) (s : State) : Host.Outcome State Fault Refusal :=
  devRow s t (Instr.txnPrepare t l bytes elems rootsOk).wf (fun (d : Dev) => d.txnPrepare l bytes elems rootsOk)

/-- TXN_ACK (R799): An ACK from the twin schedules the commit. -/
def execTxnAck (t : Nat) (l : Nat) (bytes : List Byte) (s : State) : Host.Outcome State Fault Refusal :=
  devRow s t (Instr.txnAck t l bytes).wf (fun (d : Dev) => d.txnAck l bytes)

/-- TXN_NAK (R799): A NAK from the twin refuses the commit as TWIN_NAK. -/
def execTxnNak (t : Nat) (l : Nat) (bytes : List Byte) (s : State) : Host.Outcome State Fault Refusal :=
  devRow s t (Instr.txnNak t l bytes).wf (fun (d : Dev) => d.txnNak l bytes)

/-- TWIN_PREPARE_TIMEOUT (R799): No answer to PREPARE within 50 ms refuses the commit. -/
def execTwinPrepareTimeout (t : Nat) (s : State) : Host.Outcome State Fault Refusal :=
  devRow s t true (fun (d : Dev) => d.prepareTimeout)

/-- PROBATION_END (R809): When probation has run TXN_PROBATION wingbeats, the slot is CONFIRMED. -/
def execProbationEnd (t : Nat) (s : State) : Host.Outcome State Fault Refusal :=
  devRow s t true (fun (d : Dev) => d.probationEnd)

end Sys2Proof.Machine
end

