-- ==== Sys2Proof/Machine/UnitRows.lean ====
section
/-! DEFINITION. Sys2Proof/Machine/UnitRows.lean: the meanings of the commands of recorder, keys, wings, twins and safety (chapters 16 to 19). -/

namespace Sys2Proof.Machine

/-- REC_INTAKE_TAKE (R662): The active wing takes a record from intake and assigns its SEQ. -/
def execRecIntakeTake (t : Nat) (s : State) : Host.Outcome State Fault Refusal :=
  devRow s t true (fun (d : Dev) => d.intakeTake)

/-- REC_READABLE (R665): Once both mirrored copies are written, a record passes the gate and becomes readable. -/
def execRecReadable (t : Nat) (s : State) : Host.Outcome State Fault Refusal :=
  devRow s t true (fun (d : Dev) => d.readable)

/-- KEEP_RING_WRITE (R670): A KEEP record is written to both keep-ring copies. -/
def execKeepRingWrite (t : Nat) (okA okB : Bool) (s : State) : Host.Outcome State Fault Refusal :=
  devRow s t true (fun (d : Dev) => d.keepWrite okA okB)

/-- KEEP_BUDGET_REFILL (R671): The keep budget refills at KEEP_RATE records per second. -/
def execKeepBudgetRefill (t : Nat) (s : State) : Host.Outcome State Fault Refusal :=
  devRow s t true (fun (d : Dev) => d.budgetRefill)

/-- REC_MIRROR_TIMEOUT (R667): A standby record unmatched by a mirror for 10 ms is discarded. -/
def execRecMirrorTimeout (t : Nat) (s : State) : Host.Outcome State Fault Refusal :=
  devRow s t true (fun (d : Dev) => d.mirrorTimeout)

/-- REC_RP_STATUS_READ (R675): A read of REC_RP[i]_STATUS captures the record at the cursor, with OK, NOT_YET or STALE. -/
def execRecRpStatusRead (t : Nat) (i : Iface) (p : Nat) (s : State) : Host.Outcome State Fault Refusal :=
  readRow s t (Instr.recRpStatusRead t i p).wf i (Reg.REC_RP_STATUS p)

/-- REC_RP_CONSUME (R675): A read of REC_RP[i]_CONSUME captures the record and advances the cursor on OK. -/
def execRecRpConsume (t : Nat) (i : Iface) (p : Nat) (s : State) : Host.Outcome State Fault Refusal :=
  readRow s t (Instr.recRpConsume t i p).wf i (Reg.REC_RP_CONSUME p)

/-- REC_CURSOR_WRITE (R680): A write to REC_RP[i]_CUR_HI applies both halves of the cursor. -/
def execRecCursorWrite (t : Nat) (i : Iface) (p : Nat) (data : Word) (s : State) : Host.Outcome State Fault Refusal :=
  hostRow s t (Instr.recCursorWrite t i p data).wf i (Reg.REC_RP_CUR_HI p) data

/-- REC_QUOTA_WRITE (R679): A quota write is applied, or refused when the quotas would exceed 128 MiB. -/
def execRecQuotaWrite (t : Nat) (i : Iface) (p : Nat) (data : Word) (s : State) : Host.Outcome State Fault Refusal :=
  hostRow s t (Instr.recQuotaWrite t i p data).wf i (Reg.REC_RP_QUOTA p) data

/-- KEY_INSTALL (R694): A submitted INSTALL message is checked and its key stored in a slot. -/
def execKeyInstall (t : Nat) (i : Iface) (data : Word) (s : State) : Host.Outcome State Fault Refusal :=
  hostRow s t true i Reg.KEY_MSG_CTL (setBits data 0 0 1)

/-- KEY_DELETE (R694): A submitted DELETE message is checked and its slot emptied. -/
def execKeyDelete (t : Nat) (i : Iface) (data : Word) (s : State) : Host.Outcome State Fault Refusal :=
  hostRow s t true i Reg.KEY_MSG_CTL (setBits data 0 0 1)

/-- KEY_AUTHORITY (R691): A submitted AUTHORITY message loads or rotates an owner authority. -/
def execKeyAuthority (t : Nat) (i : Iface) (data : Word) (s : State) : Host.Outcome State Fault Refusal :=
  hostRow s t true i Reg.KEY_MSG_CTL (setBits data 0 0 1)

/-- KEY_OWN (R690): A submitted OWN message writes the owner hashes to a blank module in pupa. -/
def execKeyOwn (t : Nat) (i : Iface) (data : Word) (s : State) : Host.Outcome State Fault Refusal :=
  hostRow s t true i Reg.KEY_MSG_CTL (setBits data 0 0 1)

/-- KEY_MSG_CLEAR (R707): A write of CLEAR to KEY_MSG_CTL zeroes KEY_MSG_DATA. -/
def execKeyMsgClear (t : Nat) (i : Iface) (data : Word) (s : State) : Host.Outcome State Fault Refusal :=
  hostRow s t true i Reg.KEY_MSG_CTL (setBits data 1 1 1)

/-- KEY_STORE_DONE (R696): An accepted key message has both copies stored and RESULT reads ACCEPTED. -/
def execKeyStoreDone (t : Nat) (okA okB : Bool) (s : State) : Host.Outcome State Fault Refusal :=
  devRow s t true (fun (d : Dev) => d.keyStoreDone okA okB)

/-- KEY_SLOT_INFO_READ (R708): A read of KEY_SLOT_INFO captures the selected slot view. -/
def execKeySlotInfoRead (t : Nat) (i : Iface) (s : State) : Host.Outcome State Fault Refusal :=
  readRow s t true i Reg.KEY_SLOT_INFO

/-- WING_HEARTBEAT (R717): Every 100 µs each wing sends a heartbeat over the link and through the arbiter. -/
def execWingHeartbeat (t : Nat) (w : Nat) (link arb : Bool) (s : State) : Host.Outcome State Fault Refusal :=
  devRow s t (Instr.wingHeartbeat t w link arb).wf (fun (d : Dev) => d.wingHeartbeat w link arb)

/-- HEARTBEAT_MISS (R717): A heartbeat not received 20 µs after its tick is missed, and three misses declare a failure or a fault. -/
def execHeartbeatMiss (t : Nat) (w : Nat) (link arb : Bool) (s : State) : Host.Outcome State Fault Refusal :=
  devRow s t (Instr.heartbeatMiss t w link arb).wf (fun (d : Dev) => d.heartbeatMiss w link arb)

/-- TAKEOVER (R723): At the takeover instant the new active unit claims and continues outputs, time and rings. -/
def execTakeover (t : Nat) (s : State) : Host.Outcome State Fault Refusal :=
  devRow s t true (fun (d : Dev) => d.takeoverDue)

/-- DIGEST_ATTRIBUTION (R721): The mismatch tests end and fault the failing wing, or the standby. -/
def execDigestAttribution (t : Nat) (fail0 fail1 : Bool) (s : State) : Host.Outcome State Fault Refusal :=
  devRow s t true (fun (d : Dev) => d.attribute fail0 fail1)

/-- OZNIS_HEARTBEAT (R742): An Oznis heartbeat frame is sent or received on a lane every 250 µs. -/
def execOznisHeartbeat (t : Nat) (l : Nat) (rx : Option (List Byte)) (peerOk : Bool) (s : State) : Host.Outcome State Fault Refusal :=
  devRow s t (Instr.oznisHeartbeat t l rx peerOk).wf (fun (d : Dev) => if (d.loop 1 l).mode != 0 then (match rx with | some b => d.ozPatternReceived l b | none => d.ozPatternSend l) else d.oznisHeartbeat l rx peerOk)

/-- OZNIS_HEARTBEAT_MISS (R742): Late Oznis heartbeats take a lane or the link down. -/
def execOznisHeartbeatMiss (t : Nat) (l : Nat) (s : State) : Host.Outcome State Fault Refusal :=
  devRow s t (Instr.oznisHeartbeatMiss t l).wf (fun (d : Dev) => if (d.loop 1 l).mode != 0 then d else d.oznisMiss l)

/-- OZNIS_RETRANSMIT (R742): An unacknowledged Oznis data frame is resent on the other lane after 20 µs. -/
def execOznisRetransmit (t : Nat) (linkSeq : Nat) (s : State) : Host.Outcome State Fault Refusal :=
  devRow s t true (fun (d : Dev) => d.oznisRetransmit linkSeq)

/-- OUTPUT_FRAME (R729): The standby twin receives a mirrored output and acknowledges it. -/
def execOutputFrame (t : Nat) (l : Nat) (bytes : List Byte) (s : State) : Host.Outcome State Fault Refusal :=
  devRow s t (Instr.outputFrame t l bytes).wf (fun (d : Dev) => d.outputFrame l bytes)

/-- OUTPUT_ACK (R729): The active twin receives OUTPUT_ACK and passes the output. -/
def execOutputAck (t : Nat) (l : Nat) (bytes : List Byte) (s : State) : Host.Outcome State Fault Refusal :=
  devRow s t (Instr.outputAck t l bytes).wf (fun (d : Dev) => d.outputAck l bytes)

/-- OUTPUT_ACK_TIMEOUT (R729): No acknowledgement within 20 µs: the output passes and TWIN_CURRENT clears. -/
def execOutputAckTimeout (t : Nat) (linkSeq : Nat) (s : State) : Host.Outcome State Fault Refusal :=
  devRow s t true (fun (d : Dev) => d.ackTimeout linkSeq)

/-- REPORT_FRAME (R728): A forwarded accepted record is placed in the standby twin's roost. -/
def execReportFrame (t : Nat) (l : Nat) (bytes : List Byte) (s : State) : Host.Outcome State Fault Refusal :=
  devRow s t (Instr.reportFrame t l bytes).wf (fun (d : Dev) => d.reportFrame l bytes)

/-- RESYNC_FRAME (R739): A state-stream frame is taken in during resynchronisation. -/
def execResyncFrame (t : Nat) (prog : Nat) (s : State) : Host.Outcome State Fault Refusal :=
  devRow s t true (fun (d : Dev) => d.resyncFrame prog)

/-- HEALTH_FRAME (R744): An Oznis HEALTH frame carries the twin's health report. -/
def execHealthFrame (t : Nat) (l : Nat) (bytes : List Byte) (s : State) : Host.Outcome State Fault Refusal :=
  devRow s t (Instr.healthFrame t l bytes).wf (fun (d : Dev) => d.healthFrame l bytes)

/-- BEACON_SEND (R733): The active twin sends a signed claim beacon every 1 ms and at each claim change. -/
def execBeaconSend (t : Nat) (s : State) : Host.Outcome State Fault Refusal :=
  devRow s t true (fun (d : Dev) => d.beaconSend)

/-- BEACON_RECEIVED (R734): A received beacon is verified, and a higher claim makes an active unit stand down. -/
def execBeaconReceived (t : Nat) (payload : List Byte) (s : State) : Host.Outcome State Fault Refusal :=
  devRow s t true (fun (d : Dev) => d.beaconReceived payload)

/-- TWIN_B_CLAIM_WAIT (R736): Twin B claims when 20 ms after its RUN pass with no sign of twin A. -/
def execTwinBClaimWait (t : Nat) (s : State) : Host.Outcome State Fault Refusal :=
  devRow s t true (fun (d : Dev) => d.twinBClaim)

/-- WING_REPAIR (R738): A write of REPAIR to WNG_CTL resets the faulted wing die and runs its SELFTEST. -/
def execWingRepair (t : Nat) (i : Iface) (data : Word) (s : State) : Host.Outcome State Fault Refusal :=
  hostRow s t true i Reg.WNG_CTL (setBits data 2 2 1)

/-- WING_SWITCH (R740): A write of SWITCH to WNG_CTL orders a takeover at the next boundary when the standby is redundant. -/
def execWingSwitch (t : Nat) (i : Iface) (data : Word) (s : State) : Host.Outcome State Fault Refusal :=
  hostRow s t true i Reg.WNG_CTL (setBits data 3 3 1)

/-- WING_SELFTEST_DONE (R738): The SELFTEST of a repaired wing die ends, and the wing enters RESYNC or stays FAULTED with a UNIT_FAULT record. -/
def execWingSelftestDone (t : Nat) (w : Nat) (pass : Bool) (s : State) : Host.Outcome State Fault Refusal :=
  devRow s t (Instr.wingSelftestDone t w pass).wf (fun (d : Dev) => d.wingTested w pass)

/-- RESYNC_CONVERGE (R739): A resynchronising unit converges and becomes STANDBY. -/
def execResyncConverge (t : Nat) (w : Nat) (twin : Bool) (s : State) : Host.Outcome State Fault Refusal :=
  devRow s t (Instr.resyncConverge t w twin).wf (fun (d : Dev) => d.converge w twin)

/-- SELFTEST_SLICE (R741): Each second the standby runs one self-test slice and publishes HEALTH. -/
def execSelftestSlice (t : Nat) (failed : Bool) (s : State) : Host.Outcome State Fault Refusal :=
  devRow s t true (fun (d : Dev) => d.selftestSlice failed)

/-- WNG_OUT_STATUS_READ (R750): A read of WNG_OUT_STATUS captures the selected output sequence. -/
def execWngOutStatusRead (t : Nat) (i : Iface) (s : State) : Host.Outcome State Fault Refusal :=
  readRow s t true i Reg.WNG_OUT_STATUS

/-- CLOCK_LOSS (R761): The clock monitor detects a failed clock, which faults a wing or enters SAFE. -/
def execClockLoss (t : Nat) (w0 w1 : Bool) (s : State) : Host.Outcome State Fault Refusal :=
  devRow s t true (fun (d : Dev) => d.clockLoss w0 w1)

/-- SAF_CLEAR (R757): A write of 1 to SAF_CLEAR ends forcing of objects whose cause is gone. -/
def execSafClear (t : Nat) (i : Iface) (data : Word) (s : State) : Host.Outcome State Fault Refusal :=
  hostRow s t true i Reg.SAF_CLEAR data

/-- PROOF_START (R774): A write of START to SAF_PROOF_CTL releases a safety pin for PULSE µs, or is refused. -/
def execProofStart (t : Nat) (i : Iface) (data : Word) (s : State) : Host.Outcome State Fault Refusal :=
  hostRow s t true i Reg.SAF_PROOF_CTL (setBits data 8 8 1)

/-- PROOF_SAMPLE (R774): The proof readback is sampled after release and after restore, and the result is stored. -/
def execProofSample (t : Nat) (level : Bool) (s : State) : Host.Outcome State Fault Refusal :=
  devRow s t true (fun (d : Dev) => d.proofSample level)

/-- PROOF_DUE (R775): A safety pin's stored proof becomes older than SAF_PROOF_INT days, which sets SAF_STATUS.PROOF_DUE and raises its interrupt. -/
def execProofDue (t : Nat) (s : State) : Host.Outcome State Fault Refusal :=
  devRow s t true (fun (d : Dev) => d.proofDueEvent)

end Sys2Proof.Machine
end

