-- ==== Sys2Proof/Machine/WideRows.lean ====
section
/-! DEFINITION. Sys2Proof/Machine/WideRows.lean: the meanings of the commands of point ingress, streams, the wide-area engines (chapters 8 to 11). -/

namespace Sys2Proof.Machine

/-- GAP_MARKER_DEQUEUE (R373): A dequeued ingress gap marker writes INGRESS_GAP and counts QUEUE_DROP. -/
def execGapMarkerDequeue (t : Nat) (q : Nat) (s : State) : Host.Outcome State Fault Refusal :=
  devRow s t (Instr.gapMarkerDequeue t q).wf (fun (d : Dev) => d.gapDequeue q)

/-- ING_LOOKUP (R337): A write to ING_LOOKUP_ID_HI starts a point-table lookup. -/
def execIngLookup (t : Nat) (i : Iface) (data : Word) (s : State) : Host.Outcome State Fault Refusal :=
  hostRow s t true i Reg.ING_LOOKUP_ID_HI data

/-- KEYS_DERIVED (R355): Point and command key derivation completes and KEYS_READY is set. -/
def execKeysDerived (t : Nat) (s : State) : Host.Outcome State Fault Refusal :=
  devRow s t true (fun (d : Dev) => d.deriveKeys.putB Reg.ING_STATUS 2 true)

/-- C37_CMD_DATA_OFF (R418): Command 0x0001 clears DATA_ON of a stream. -/
def execC37CmdDataOff (t : Nat) (n : Nat) (s : State) : Host.Outcome State Fault Refusal :=
  devRow s t (Instr.c37CmdDataOff t n).wf (fun (d : Dev) => d.c37Command n 1)

/-- C37_CMD_DATA_ON (R418): Command 0x0002 sets DATA_ON of a stream. -/
def execC37CmdDataOn (t : Nat) (n : Nat) (s : State) : Host.Outcome State Fault Refusal :=
  devRow s t (Instr.c37CmdDataOn t n).wf (fun (d : Dev) => d.c37Command n 2)

/-- C37_CMD_HEADER (R418): Command 0x0003 sends the header frame. -/
def execC37CmdHeader (t : Nat) (n : Nat) (s : State) : Host.Outcome State Fault Refusal :=
  devRow s t (Instr.c37CmdHeader t n).wf (fun (d : Dev) => d.c37Command n 3)

/-- C37_CMD_CFG1 (R418): Command 0x0004 sends a CFG-1 frame. -/
def execC37CmdCfg1 (t : Nat) (n : Nat) (s : State) : Host.Outcome State Fault Refusal :=
  devRow s t (Instr.c37CmdCfg1 t n).wf (fun (d : Dev) => d.c37Command n 4)

/-- C37_CMD_CFG2 (R418): Command 0x0005 sends the CFG-2 frame. -/
def execC37CmdCfg2 (t : Nat) (n : Nat) (s : State) : Host.Outcome State Fault Refusal :=
  devRow s t (Instr.c37CmdCfg2 t n).wf (fun (d : Dev) => d.c37Command n 5)

/-- GOOSE_RETRANSMIT (R427): A GOOSE block retransmits at intervals that double up to MAX_T. -/
def execGooseRetransmit (t : Nat) (g : Nat) (s : State) : Host.Outcome State Fault Refusal :=
  devRow s t (Instr.gooseRetransmit t g).wf (fun (d : Dev) => d.gooseRepeat g)

/-- ALN_ENT_STATUS_READ (R434): A read of ALN_ENT_STATUS captures the selected roost entry. -/
def execAlnEntStatusRead (t : Nat) (i : Iface) (s : State) : Host.Outcome State Fault Refusal :=
  readRow s t true i Reg.ALN_ENT_STATUS

/-- OSC_SIG_STATUS_READ (R470): A read of OSC_SIG_STATUS captures the selected signal view. -/
def execOscSigStatusRead (t : Nat) (i : Iface) (s : State) : Host.Outcome State Fault Refusal :=
  readRow s t true i Reg.OSC_SIG_STATUS

/-- ISL_GRP_STATUS_READ (R518): A read of ISL_GRP_STATUS captures the selected group view. -/
def execIslGrpStatusRead (t : Nat) (i : Iface) (s : State) : Host.Outcome State Fault Refusal :=
  readRow s t true i Reg.ISL_GRP_STATUS

/-- OSC_TRK_STATUS_READ (R471): A read of OSC_TRK[t]_STATUS captures the estimates and pins the mode shape. -/
def execOscTrkStatusRead (t : Nat) (i : Iface) (tr : Nat) (s : State) : Host.Outcome State Fault Refusal :=
  readRow s t (Instr.oscTrkStatusRead t i tr).wf i (Reg.OSC_TRK_STATUS tr)

/-- SHAPE_PART_READ (R469): A read of SHAPE_PART returns the participation and advances SHAPE_SEL. -/
def execShapePartRead (t : Nat) (i : Iface) (tr : Nat) (s : State) : Host.Outcome State Fault Refusal :=
  readRow s t (Instr.shapePartRead t i tr).wf i (Reg.OSC_TRK_SHAPE_PART tr)

/-- ISL_CG_STATUS_READ (R519): A read of ISL_CG[c]_STATUS captures LAST_SEQ, UNACK and SENT_CNT. -/
def execIslCgStatusRead (t : Nat) (i : Iface) (c : Nat) (s : State) : Host.Outcome State Fault Refusal :=
  readRow s t (Instr.islCgStatusRead t i c).wf i (Reg.ISL_CG_STATUS c)

/-- ISL_UNLATCH (R489): A write to ISL_UNLATCH unlatches a latched group at the next boundary, or is counted as ignored. -/
def execIslUnlatch (t : Nat) (i : Iface) (data : Word) (s : State) : Host.Outcome State Fault Refusal :=
  hostRow s t true i Reg.ISL_UNLATCH data

/-- HOST_CMD_TRIP (R497): ISL_HOST_CMD OP TRIP sets a host TRIP demand for a command group. -/
def execHostCmdTrip (t : Nat) (i : Iface) (data : Word) (s : State) : Host.Outcome State Fault Refusal :=
  hostRow s t true i Reg.ISL_HOST_CMD (setBits data 14 12 1)

/-- HOST_CMD_CURTAIL (R497): ISL_HOST_CMD OP CURTAIL sets a host CURTAIL demand with a setpoint. -/
def execHostCmdCurtail (t : Nat) (i : Iface) (data : Word) (s : State) : Host.Outcome State Fault Refusal :=
  hostRow s t true i Reg.ISL_HOST_CMD (setBits data 14 12 2)

/-- HOST_CMD_HOLD (R497): ISL_HOST_CMD OP HOLD sets a host HOLD demand. -/
def execHostCmdHold (t : Nat) (i : Iface) (data : Word) (s : State) : Host.Outcome State Fault Refusal :=
  hostRow s t true i Reg.ISL_HOST_CMD (setBits data 14 12 3)

/-- HOST_CMD_CLEAR (R497): ISL_HOST_CMD OP CLEAR removes the host demand. -/
def execHostCmdClear (t : Nat) (i : Iface) (data : Word) (s : State) : Host.Outcome State Fault Refusal :=
  hostRow s t true i Reg.ISL_HOST_CMD (setBits data 14 12 4)

/-- HOST_CMD_RELEASE (R498): ISL_HOST_CMD OP RELEASE emits RELEASE when the demand set is empty. -/
def execHostCmdRelease (t : Nat) (i : Iface) (data : Word) (s : State) : Host.Outcome State Fault Refusal :=
  hostRow s t true i Reg.ISL_HOST_CMD (setBits data 14 12 5)

/-- COMMAND_REPEAT (R504): A scale command is resent identically after REP_INT ms, up to REPEAT sends. -/
def execCommandRepeat (t : Nat) (c : Nat) (s : State) : Host.Outcome State Fault Refusal :=
  devRow s t (Instr.commandRepeat t c).wf (fun (d : Dev) => d.cmdRepeat c)

/-- CMD_ACK_END (R514): After ACK_WB wingbeats, CMD_ACK is written with the acknowledgement counts. -/
def execCmdAckEnd (t : Nat) (c : Nat) (s : State) : Host.Outcome State Fault Refusal :=
  devRow s t (Instr.cmdAckEnd t c).wf (fun (d : Dev) => d.ackTimer c)

end Sys2Proof.Machine
end

