-- ==== Sys2Proof/Machine/Dispatch.lean ====
section
/-! DEFINITION. Sys2Proof/Machine/Dispatch.lean: one arm per command. -/

namespace Sys2Proof.Machine

/-- The effect of a command on everything but the queue (R18 and the rule of each row). -/
def exec (i : Instr) (s : State) : Host.Outcome State Fault Refusal :=
  match i with
  | .registerWrite t ifc en addr data => Sys2Proof.Machine.execRegisterWrite t ifc en addr data s
  | .rcRead t ifc en addr => Sys2Proof.Machine.execRcRead t ifc en addr s
  | .latchedRead t ifc en addr => Sys2Proof.Machine.execLatchedRead t ifc en addr s
  | .accErrClr t ifc data => Sys2Proof.Machine.execAccErrClr t ifc data s
  | .glbCtlWrite t ifc data => Sys2Proof.Machine.execGlbCtlWrite t ifc data s
  | .spiWriteFrame t bytes => Sys2Proof.Machine.execSpiWriteFrame t bytes s
  | .spiReadFrame t bytes late => Sys2Proof.Machine.execSpiReadFrame t bytes late s
  | .powerOn t => Sys2Proof.Machine.execPowerOn t s
  | .supplyFault t => Sys2Proof.Machine.execSupplyFault t s
  | .boardReset t low => Sys2Proof.Machine.execBoardReset t low s
  | .resetRelease t twinId debugEn pupaHold refclkSel => Sys2Proof.Machine.execResetRelease t twinId debugEn pupaHold refclkSel s
  | .hostReset t ifc => Sys2Proof.Machine.execHostReset t ifc s
  | .watchdogReset t => Sys2Proof.Machine.execWatchdogReset t s
  | .selftestDone t failed => Sys2Proof.Machine.execSelftestDone t failed s
  | .imageLoaded t => Sys2Proof.Machine.execImageLoaded t s
  | .pupaGo t ifc data => Sys2Proof.Machine.execPupaGo t ifc data s
  | .calibrationDone t quads facts => Sys2Proof.Machine.execCalibrationDone t quads facts s
  | .syncTimeout t => Sys2Proof.Machine.execSyncTimeout t s
  | .pwrfailFall t => Sys2Proof.Machine.execPwrfailFall t s
  | .pwrfailEnd t => Sys2Proof.Machine.execPwrfailEnd t s
  | .endpointReset t flr => Sys2Proof.Machine.execEndpointReset t flr s
  | .d3hotEntry t => Sys2Proof.Machine.execD3hotEntry t s
  | .baseRateSample t q a b c refs => Sys2Proof.Machine.execBaseRateSample t q a b c refs s
  | .sampleTick t => Sys2Proof.Machine.execSampleTick t s
  | .flutterBoundary t cks sense mis => Sys2Proof.Machine.execFlutterBoundary t cks sense mis s
  | .trackedCycleBoundary t => Sys2Proof.Machine.execTrackedCycleBoundary t s
  | .checkFrameBoundary t => Sys2Proof.Machine.execCheckFrameBoundary t s
  | .wingbeatBoundary t dig => Sys2Proof.Machine.execWingbeatBoundary t dig s
  | .slowWindowLeave t => Sys2Proof.Machine.execSlowWindowLeave t s
  | .exportWrite t => Sys2Proof.Machine.execExportWrite t s
  | .ptpMasterSend t p => Sys2Proof.Machine.execPtpMasterSend t p s
  | .ppsEdge t n => Sys2Proof.Machine.execPpsEdge t n s
  | .ppsTodArm t ifc n data => Sys2Proof.Machine.execPpsTodArm t ifc n data s
  | .irigFrame t f => Sys2Proof.Machine.execIrigFrame t f s
  | .twinTimeExchange t x => Sys2Proof.Machine.execTwinTimeExchange t x s
  | .sourceLost t k => Sys2Proof.Machine.execSourceLost t k s
  | .holdoverLimit t k => Sys2Proof.Machine.execHoldoverLimit t k s
  | .forceSwitch t ifc data => Sys2Proof.Machine.execForceSwitch t ifc data s
  | .slewDone t => Sys2Proof.Machine.execSlewDone t s
  | .domainRevert t => Sys2Proof.Machine.execDomainRevert t s
  | .timSnap t ifc data => Sys2Proof.Machine.execTimSnap t ifc data s
  | .leap t => Sys2Proof.Machine.execLeap t s
  | .leapPendStart t => Sys2Proof.Machine.execLeapPendStart t s
  | .leapOccEnd t => Sys2Proof.Machine.execLeapOccEnd t s
  | .ppsOutPulse t => Sys2Proof.Machine.execPpsOutPulse t s
  | .cnvSnap t ifc q data => Sys2Proof.Machine.execCnvSnap t ifc q data s
  | .cnvSnapAll t ifc data => Sys2Proof.Machine.execCnvSnapAll t ifc data s
  | .snapshotLatch t => Sys2Proof.Machine.execSnapshotLatch t s
  | .ckInj t ifc k data => Sys2Proof.Machine.execCkInj t ifc k data s
  | .resStatusRead t ifc k => Sys2Proof.Machine.execResStatusRead t ifc k s
  | .resConsume t ifc k => Sys2Proof.Machine.execResConsume t ifc k s
  | .calStart t ifc data => Sys2Proof.Machine.execCalStart t ifc data s
  | .lpRequest t ifc data => Sys2Proof.Machine.execLpRequest t ifc data s
  | .settleEnd t => Sys2Proof.Machine.execSettleEnd t s
  | .firSwap t ifc n data => Sys2Proof.Machine.execFirSwap t ifc n data s
  | .fadeDone t n => Sys2Proof.Machine.execFadeDone t n s
  | .coefWrite t ifc data => Sys2Proof.Machine.execCoefWrite t ifc data s
  | .coefRead t ifc => Sys2Proof.Machine.execCoefRead t ifc s
  | .hostFreeze t ifc n data => Sys2Proof.Machine.execHostFreeze t ifc n data s
  | .freezeRelease t ifc n data => Sys2Proof.Machine.execFreezeRelease t ifc n data s
  | .freezeTailEnd t n => Sys2Proof.Machine.execFreezeTailEnd t n s
  | .freezeMaxEnd t n => Sys2Proof.Machine.execFreezeMaxEnd t n s
  | .trkHoldLimit t => Sys2Proof.Machine.execTrkHoldLimit t s
  | .trkRefReturn t => Sys2Proof.Machine.execTrkRefReturn t s
  | .decsyncPin t width => Sys2Proof.Machine.execDecsyncPin t width s
  | .decsyncCommand t ifc data => Sys2Proof.Machine.execDecsyncCommand t ifc data s
  | .aoMinHoldEnd t a => Sys2Proof.Machine.execAoMinHoldEnd t a s
  | .aoUnlatch t ifc data => Sys2Proof.Machine.execAoUnlatch t ifc data s
  | .phsChStatusRead t ifc n => Sys2Proof.Machine.execPhsChStatusRead t ifc n s
  | .frameReceived t p bytes fcsOk sfd => Sys2Proof.Machine.execFrameReceived t p bytes fcsOk sfd s
  | .frameRelease r => Sys2Proof.Machine.execFrameRelease r s
  | .prpAgeOut t => Sys2Proof.Machine.execPrpAgeOut t s
  | .linkChange t p up speed peer => Sys2Proof.Machine.execLinkChange t p up speed peer s
  | .frameTransmitEnd t p => Sys2Proof.Machine.execFrameTransmitEnd t p s
  | .pauseHoldEnd t p => Sys2Proof.Machine.execPauseHoldEnd t p s
  | .pauseWatchdog t p => Sys2Proof.Machine.execPauseWatchdog t p s
  | .pauseIgnoreEnd t p => Sys2Proof.Machine.execPauseIgnoreEnd t p s
  | .lpiEntry t p => Sys2Proof.Machine.execLpiEntry t p s
  | .lpiWake t p => Sys2Proof.Machine.execLpiWake t p s
  | .plcaLost t p => Sys2Proof.Machine.execPlcaLost t p s
  | .collision t p late => Sys2Proof.Machine.execCollision t p late s
  | .backoffEnd t p => Sys2Proof.Machine.execBackoffEnd t p s
  | .gapMarkerDequeue t q => Sys2Proof.Machine.execGapMarkerDequeue t q s
  | .ingLookup t ifc data => Sys2Proof.Machine.execIngLookup t ifc data s
  | .keysDerived t => Sys2Proof.Machine.execKeysDerived t s
  | .c37CmdDataOff t n => Sys2Proof.Machine.execC37CmdDataOff t n s
  | .c37CmdDataOn t n => Sys2Proof.Machine.execC37CmdDataOn t n s
  | .c37CmdHeader t n => Sys2Proof.Machine.execC37CmdHeader t n s
  | .c37CmdCfg1 t n => Sys2Proof.Machine.execC37CmdCfg1 t n s
  | .c37CmdCfg2 t n => Sys2Proof.Machine.execC37CmdCfg2 t n s
  | .gooseRetransmit t g => Sys2Proof.Machine.execGooseRetransmit t g s
  | .alnEntStatusRead t ifc => Sys2Proof.Machine.execAlnEntStatusRead t ifc s
  | .oscSigStatusRead t ifc => Sys2Proof.Machine.execOscSigStatusRead t ifc s
  | .oscTrkStatusRead t ifc tr => Sys2Proof.Machine.execOscTrkStatusRead t ifc tr s
  | .shapePartRead t ifc tr => Sys2Proof.Machine.execShapePartRead t ifc tr s
  | .islUnlatch t ifc data => Sys2Proof.Machine.execIslUnlatch t ifc data s
  | .hostCmdTrip t ifc data => Sys2Proof.Machine.execHostCmdTrip t ifc data s
  | .hostCmdCurtail t ifc data => Sys2Proof.Machine.execHostCmdCurtail t ifc data s
  | .hostCmdHold t ifc data => Sys2Proof.Machine.execHostCmdHold t ifc data s
  | .hostCmdClear t ifc data => Sys2Proof.Machine.execHostCmdClear t ifc data s
  | .hostCmdRelease t ifc data => Sys2Proof.Machine.execHostCmdRelease t ifc data s
  | .commandRepeat t c => Sys2Proof.Machine.execCommandRepeat t c s
  | .cmdAckEnd t c => Sys2Proof.Machine.execCmdAckEnd t c s
  | .islGrpStatusRead t ifc => Sys2Proof.Machine.execIslGrpStatusRead t ifc s
  | .islCgStatusRead t ifc c => Sys2Proof.Machine.execIslCgStatusRead t ifc c s
  | .itemComplete t w core cycles status => Sys2Proof.Machine.execItemComplete t w core cycles status s
  | .affinityPatienceEnd t w id => Sys2Proof.Machine.execAffinityPatienceEnd t w id s
  | .tcpTimer t c => Sys2Proof.Machine.execTcpTimer t c s
  | .nectarTick t power temps => Sys2Proof.Machine.execNectarTick t power temps s
  | .wearSecond t temps => Sys2Proof.Machine.execWearSecond t temps s
  | .wearHour t => Sys2Proof.Machine.execWearHour t s
  | .tjMax t sensor temp => Sys2Proof.Machine.execTjMax t sensor temp s
  | .queuePush t w q head words => Sys2Proof.Machine.execQueuePush t w q head words s
  | .queuePop t w q n ce ue => Sys2Proof.Machine.execQueuePop t w q n ce ue s
  | .queueFlush t ifc data => Sys2Proof.Machine.execQueueFlush t ifc data s
  | .queueDropRem t ifc data => Sys2Proof.Machine.execQueueDropRem t ifc data s
  | .scrubPass t w ces ues => Sys2Proof.Machine.execScrubPass t w ces ues s
  | .virtualServiceTick t q => Sys2Proof.Machine.execVirtualServiceTick t q s
  | .diChange t mask levels => Sys2Proof.Machine.execDiChange t mask levels s
  | .holdoffEnd t u => Sys2Proof.Machine.execHoldoffEnd t u s
  | .diMismatch t n => Sys2Proof.Machine.execDiMismatch t n s
  | .acqEntryCopy t => Sys2Proof.Machine.execAcqEntryCopy t s
  | .captureResume t => Sys2Proof.Machine.execCaptureResume t s
  | .waveBlock t g => Sys2Proof.Machine.execWaveBlock t g s
  | .acqRingTailWrite t ifc data => Sys2Proof.Machine.execAcqRingTailWrite t ifc data s
  | .cmpJobTake t => Sys2Proof.Machine.execCmpJobTake t s
  | .cmpJobDone t w e verifyOk dmaOk => Sys2Proof.Machine.execCmpJobDone t w e verifyOk dmaOk s
  | .cmpCompletionWrite t => Sys2Proof.Machine.execCmpCompletionWrite t s
  | .recIntakeTake t => Sys2Proof.Machine.execRecIntakeTake t s
  | .recReadable t => Sys2Proof.Machine.execRecReadable t s
  | .keepRingWrite t okA okB => Sys2Proof.Machine.execKeepRingWrite t okA okB s
  | .keepBudgetRefill t => Sys2Proof.Machine.execKeepBudgetRefill t s
  | .recMirrorTimeout t => Sys2Proof.Machine.execRecMirrorTimeout t s
  | .recRpStatusRead t ifc p => Sys2Proof.Machine.execRecRpStatusRead t ifc p s
  | .recRpConsume t ifc p => Sys2Proof.Machine.execRecRpConsume t ifc p s
  | .recCursorWrite t ifc p data => Sys2Proof.Machine.execRecCursorWrite t ifc p data s
  | .recQuotaWrite t ifc p data => Sys2Proof.Machine.execRecQuotaWrite t ifc p data s
  | .keyInstall t ifc data => Sys2Proof.Machine.execKeyInstall t ifc data s
  | .keyDelete t ifc data => Sys2Proof.Machine.execKeyDelete t ifc data s
  | .keyAuthority t ifc data => Sys2Proof.Machine.execKeyAuthority t ifc data s
  | .keyOwn t ifc data => Sys2Proof.Machine.execKeyOwn t ifc data s
  | .keyMsgClear t ifc data => Sys2Proof.Machine.execKeyMsgClear t ifc data s
  | .keyStoreDone t okA okB => Sys2Proof.Machine.execKeyStoreDone t okA okB s
  | .keySlotInfoRead t ifc => Sys2Proof.Machine.execKeySlotInfoRead t ifc s
  | .wingHeartbeat t w link arb => Sys2Proof.Machine.execWingHeartbeat t w link arb s
  | .heartbeatMiss t w link arb => Sys2Proof.Machine.execHeartbeatMiss t w link arb s
  | .takeover t => Sys2Proof.Machine.execTakeover t s
  | .digestAttribution t fail0 fail1 => Sys2Proof.Machine.execDigestAttribution t fail0 fail1 s
  | .oznisHeartbeat t l rx peerOk => Sys2Proof.Machine.execOznisHeartbeat t l rx peerOk s
  | .oznisHeartbeatMiss t l => Sys2Proof.Machine.execOznisHeartbeatMiss t l s
  | .oznisRetransmit t linkSeq => Sys2Proof.Machine.execOznisRetransmit t linkSeq s
  | .outputFrame t l bytes => Sys2Proof.Machine.execOutputFrame t l bytes s
  | .outputAck t l bytes => Sys2Proof.Machine.execOutputAck t l bytes s
  | .outputAckTimeout t linkSeq => Sys2Proof.Machine.execOutputAckTimeout t linkSeq s
  | .reportFrame t l bytes => Sys2Proof.Machine.execReportFrame t l bytes s
  | .resyncFrame t prog => Sys2Proof.Machine.execResyncFrame t prog s
  | .healthFrame t l bytes => Sys2Proof.Machine.execHealthFrame t l bytes s
  | .txnPrepare t l bytes elems rootsOk => Sys2Proof.Machine.execTxnPrepare t l bytes elems rootsOk s
  | .txnAck t l bytes => Sys2Proof.Machine.execTxnAck t l bytes s
  | .txnNak t l bytes => Sys2Proof.Machine.execTxnNak t l bytes s
  | .twinPrepareTimeout t => Sys2Proof.Machine.execTwinPrepareTimeout t s
  | .beaconSend t => Sys2Proof.Machine.execBeaconSend t s
  | .beaconReceived t payload => Sys2Proof.Machine.execBeaconReceived t payload s
  | .twinBClaimWait t => Sys2Proof.Machine.execTwinBClaimWait t s
  | .wingRepair t ifc data => Sys2Proof.Machine.execWingRepair t ifc data s
  | .wingSwitch t ifc data => Sys2Proof.Machine.execWingSwitch t ifc data s
  | .resyncConverge t w twin => Sys2Proof.Machine.execResyncConverge t w twin s
  | .selftestSlice t failed => Sys2Proof.Machine.execSelftestSlice t failed s
  | .wngOutStatusRead t ifc => Sys2Proof.Machine.execWngOutStatusRead t ifc s
  | .clockLoss t w0 w1 => Sys2Proof.Machine.execClockLoss t w0 w1 s
  | .safClear t ifc data => Sys2Proof.Machine.execSafClear t ifc data s
  | .proofStart t ifc data => Sys2Proof.Machine.execProofStart t ifc data s
  | .proofSample t level => Sys2Proof.Machine.execProofSample t level s
  | .txnBegin t ifc data => Sys2Proof.Machine.execTxnBegin t ifc data s
  | .txnCommit t ifc data => Sys2Proof.Machine.execTxnCommit t ifc data s
  | .txnRollback t ifc data => Sys2Proof.Machine.execTxnRollback t ifc data s
  | .txnLoadImage t ifc data => Sys2Proof.Machine.execTxnLoadImage t ifc data s
  | .txnClearStaging t ifc data => Sys2Proof.Machine.execTxnClearStaging t ifc data s
  | .txnConfirm t ifc data => Sys2Proof.Machine.execTxnConfirm t ifc data s
  | .txnRevert t ifc data => Sys2Proof.Machine.execTxnRevert t ifc data s
  | .txnLoadReset t ifc data => Sys2Proof.Machine.execTxnLoadReset t ifc data s
  | .txnBadOp t ifc data => Sys2Proof.Machine.execTxnBadOp t ifc data s
  | .txnImgWdata t ifc data => Sys2Proof.Machine.execTxnImgWdata t ifc data s
  | .txnTimeoutExpiry t => Sys2Proof.Machine.execTxnTimeoutExpiry t s
  | .txnValidationDone t => Sys2Proof.Machine.execTxnValidationDone t s
  | .txnStoreDone t ok => Sys2Proof.Machine.execTxnStoreDone t ok s
  | .probationEnd t => Sys2Proof.Machine.execProbationEnd t s
  | .hostRingTake t r => Sys2Proof.Machine.execHostRingTake t r s
  | .hostRingAck t r => Sys2Proof.Machine.execHostRingAck t r s
  | .hostRingCompletion t r => Sys2Proof.Machine.execHostRingCompletion t r s
  | .hostRingEnable t ifc r data => Sys2Proof.Machine.execHostRingEnable t ifc r data s
  | .portLoopOff t ifc p data => Sys2Proof.Machine.execPortLoopOff t ifc p data s
  | .portLoopMac t ifc p data => Sys2Proof.Machine.execPortLoopMac t ifc p data s
  | .portLoopPcs t ifc p data => Sys2Proof.Machine.execPortLoopPcs t ifc p data s
  | .portLoopPma t ifc p data => Sys2Proof.Machine.execPortLoopPma t ifc p data s
  | .portLoopRemote t ifc p data => Sys2Proof.Machine.execPortLoopRemote t ifc p data s
  | .portLoopT1sAnalog t ifc p data => Sys2Proof.Machine.execPortLoopT1sAnalog t ifc p data s
  | .portLoopGenerate t ifc p data => Sys2Proof.Machine.execPortLoopGenerate t ifc p data s
  | .loopDone t p => Sys2Proof.Machine.execLoopDone t p s
  | .loopTimeout t kind idx => Sys2Proof.Machine.execLoopTimeout t kind idx s
  | .quadLoopOff t ifc q data => Sys2Proof.Machine.execQuadLoopOff t ifc q data s
  | .quadTone t ifc q data => Sys2Proof.Machine.execQuadTone t ifc q data s
  | .quadRefPos t ifc q data => Sys2Proof.Machine.execQuadRefPos t ifc q data s
  | .quadRefNeg t ifc q data => Sys2Proof.Machine.execQuadRefNeg t ifc q data s
  | .quadBitstream t ifc q data => Sys2Proof.Machine.execQuadBitstream t ifc q data s
  | .quadSynth t ifc q data => Sys2Proof.Machine.execQuadSynth t ifc q data s
  | .ozLoopOff t ifc l data => Sys2Proof.Machine.execOzLoopOff t ifc l data s
  | .ozLoopSerial t ifc l data => Sys2Proof.Machine.execOzLoopSerial t ifc l data s
  | .ozLoopFraming t ifc l data => Sys2Proof.Machine.execOzLoopFraming t ifc l data s
  | .pcieLoop t ifc data errs => Sys2Proof.Machine.execPcieLoop t ifc data errs s
  | .ppsLoop t ifc data => Sys2Proof.Machine.execPpsLoop t ifc data s
  | .prodModeWrite t ifc data => Sys2Proof.Machine.execProdModeWrite t ifc data s
  | .pdelayReqSend t p => Sys2Proof.Machine.execPdelayReqSend t p s
  | .plcaStatusUp t p => Sys2Proof.Machine.execPlcaStatusUp t p s
  | .d3hotExit t => Sys2Proof.Machine.execD3hotExit t s
  | .pcieLinkUp t speed width => Sys2Proof.Machine.execPcieLinkUp t speed width s
  | .pcieLoopbackSlave t => Sys2Proof.Machine.execPcieLoopbackSlave t s
  | .lockstepMismatch t w => Sys2Proof.Machine.execLockstepMismatch t w s
  | .journalDramUe t w => Sys2Proof.Machine.execJournalDramUe t w s
  | .wingSelftestDone t w pass => Sys2Proof.Machine.execWingSelftestDone t w pass s
  | .proofDue t => Sys2Proof.Machine.execProofDue t s

end Sys2Proof.Machine
end

