-- ==== Sys2Proof/Machine/Step.lean ====
section
/-! DEFINITION. Sys2Proof/Machine/Step.lean: one step: the command at the front of the queue, or nothing when none waits. -/

namespace Sys2Proof.Machine

/-- One step takes the command at the front of the queue and performs it on the state with the rest of the queue. With no command waiting the block idles: what
it does by itself is commands of the operation table too (notes/assumptions/2.md). (DESIGN CHOICE: notes/assumptions/2, 3, 6) -/
def step (s : State) : Host.Outcome State Fault Refusal :=
  match s.pending with
  | [] => .next s
  | c :: rest => exec c { s with pending := rest }

/-- The state with the command that a word spells put at the front of its queue; unchanged where the word spells none. (DESIGN CHOICE: notes/assumptions/1, 6) -/
def State.withFetchWord (s : State) (nbits w : Nat) : State :=
  match decodeTableWord nbits w with
  | some c => { s with pending := c :: s.pending }
  | none => s

end Sys2Proof.Machine
end

