-- ==== Sys2Proof/Safety.lean ====
section
/-! DEFINITION. Sys2Proof/Safety.lean: the terms in which statements are made: a run that never stops, the lock invariant, when an interface may write or
read a register, and what besides its effect the end of a command can change. -/

namespace Sys2Proof.Machine

/-- A run of any number of steps stops with neither a fault nor a refusal. -/
def State.runsSafely (s : State) : Prop := ∀ k, ∃ t, Sys2Proof.core.run k s = .next t

/-- GLB_CTL never holds both write locks, and its reserved bits read 0 (R858, R870). -/
abbrev State.locksOk (s : State) : Prop := s.ctl.toNat < 3

/-- A write of a whole word to a register through an interface is served and not refused as a whole (R848, R864). -/
abbrev State.canWrite (s : State) (i : Iface) (a : Nat) : Prop := s.dev.boot ≠ 0 ∧ s.dev.writeRefused s.ctl i 15 a = 0

/-- A read of a whole word of a register is served and is no access error (R848, R864). -/
abbrev State.canRead (s : State) (a : Nat) : Prop := s.dev.boot ≠ 0 ∧ readRefused 15 a = 0 ∧ (0x10000 ≤ a → s.dev.served = true)

/-- The registers that an access error writes (R862). -/
abbrev errRegs : List Nat :=
  [Reg.GLB_INT_STATUS, Reg.GLB_ACC_ERR_CNT, Reg.GLB_ACC_ERR_INFO, Reg.GLB_ACC_ERR_ADDR, Reg.GLB_ACC_ERR_DATA]

/-- The device `d` with what the end of a command may change: a cause of roll-back noted while probation runs (R807), and the messages of the summaries with
their pending bits and host memory (R823). -/
def Dev.ended (d : Dev) (r : Option Nat) (u p : Nat) (m : List (Nat × Byte)) (x : List Sent) : Dev :=
  { d with txn := { d.txn with rollback := r }, host := { d.host with summary := u, pba := p, mem := m, sent := x } }

/-- An outcome is the next state `t`, but for what the end of a command may change. -/
def Ends (o : Host.Outcome State Fault Refusal) (t : State) : Prop :=
  ∃ r u p m x, o = .next { t with dev := t.dev.ended r u p m x }

/-- An outcome is a next state that has a property. -/
def EndsWith (o : Host.Outcome State Fault Refusal) (P : State → Prop) : Prop := ∃ t, o = .next t ∧ P t

/-- A frame of the Oznis link is whole and correct, and of a type (R743). -/
abbrev ozValid (b : Bytes) (typ : Nat) : Prop :=
  b.length = 20 + beAt b 4 2 ∧ beAt b 4 2 ≤ 8192 ∧ crc32c (b.take (b.length - 4)) = beAt b (b.length - 4) 4 ∧ beAt b 0 2 = 0xA7E1 ∧ byteAt b 2 = 1 ∧
  byteAt b 3 = typ

/-- The payload of a frame of the Oznis link. -/
def ozLoad (b : Bytes) : Bytes := (b.drop 16).take (beAt b 4 2)

end Sys2Proof.Machine
end

