-- ==== Sys2Proof/Certificates/Slice0/Obligations.lean ====
section
/-! DEFINITION. Sys2Proof/Certificates/Slice0/Obligations.lean: the statements about the block. `n` is the tick of a command, `t` the state that it answers. -/

open Sys2Proof Sys2Proof.Machine

/-- O1. A step performs the command at the front of the queue.
With a command at the front of the queue, a step is exec of that command on the state with the rest of the queue. With an empty queue the block idles: that is the model's own choice (notes/assumptions/2.md), since everything the block does by itself is a command of the table.
Rests on spec/opcode_table.json. -/
def Obligations.StepTakesTheFront : Prop :=
  (∀ (c : Instr) (rest : List Instr) (s : State), s.pending = c :: rest → step s = exec c { s with pending := rest }) ∧
  (∀ s : State, s.pending = [] → step s = .next s)

/-- O2. No command stops the block, and none touches the queue.
Every command, whatever its operands, answers a next state with the queue as it was: ordinary data never ends a run. So every run goes on for ever.
Rests on spec/opcode_table.json; R860. -/
def Obligations.EveryCommandAnswersANextState : Prop :=
  (∀ (c : Instr) (s : State), EndsWith (exec c s) (fun t => t.pending = s.pending)) ∧ (∀ s : State, s.runsSafely)

/-- O3. Every step keeps the write locks of GLB_CTL exclusive.
In every state in which GLB_CTL holds at most one write lock and its reserved bits read 0, every step, whatever the command at the front of the queue, answers a state in which that still holds.
Rests on R858; R870. -/
def Obligations.LocksAreNeverBothSet : Prop :=
  ∀ s t : State, s.locksOk → step s = .next t → t.locksOk

/-- O4. GLB_CTL holds no lock at reset.
The state after reset has GLB_CTL at 0, the queue empty, STATE at SELFTEST, and meets the lock invariant.
Rests on R868; R869; R870. -/
def Obligations.LocksAtReset : Prop :=
  State.reset.locksOk ∧ State.reset.ctl = 0 ∧ State.reset.pending = [] ∧ State.reset.dev.boot = 1

/-- O5. Only a register write or a reset changes GLB_CTL.
Of all commands, only a register write through PCIe or SPI (REGISTER_WRITE, GLB_CTL_WRITE, a write frame or a read frame of the SPI port) can set a lock. After any other command GLB_CTL is as before, or the device has entered RESET and GLB_CTL is 0.
Rests on R839; R868; R870. -/
def Obligations.OnlyWritesChangeTheLocks : Prop :=
  ∀ (c : Instr) (s t : State), exec c s = .next t →
    (∀ n i en a v, c ≠ .registerWrite n i en a v) → (∀ n i v, c ≠ .glbCtlWrite n i v) → (∀ n b, c ≠ .spiWriteFrame n b) → (∀ n b l, c ≠ .spiReadFrame n b l) →
    t.ctl = s.ctl ∨ (t.ctl = 0 ∧ t.dev.resetCtr ≠ s.dev.resetCtr)

/-- O6. A write of GLB_CTL: both locks together are refused, any other is taken.
GLB_CTL is writable through both interfaces at all times, whatever it holds. A write that would set both locks leaves it unchanged and is recorded with cause 10; any other write sets the two locks, and nothing else changes. A read is refused, or not, whatever GLB_CTL holds.
Rests on R870. -/
def Obligations.GlbCtlWrite : Prop :=
  (∀ (s : State) (n : Nat) (i : Iface) (data : Word), s.dev.boot ≠ 0 →
    (bits data 1 0 ≠ 3 → Ends (exec (.glbCtlWrite n i data) s) { s with dev := s.dev.tick n, ctl := w32 (bits data 1 0) }) ∧
    (bits data 1 0 = 3 → Ends (exec (.glbCtlWrite n i data) s) { s with dev := (s.dev.tick n).accErr 10 true i 15 Reg.GLB_CTL data })) ∧
  (∀ (s : State) (w : Word) (i : Iface) (en a : Nat), (({ s with ctl := w } : State).read i en a).1 = (s.read i en a).1)

/-- O7. What an access error records, and what GLB_ACC_ERR_CLR clears.
An access error raises ACC_ERR and counts, held at the largest count. With VALID clear its details are captured and VALID is set; with VALID set, OVERFLOW is set and nothing is captured. No other register changes. A write of 1 to GLB_ACC_ERR_CLR clears VALID and OVERFLOW and changes nothing else.
Rests on R862. -/
def Obligations.AccessErrorCapture : Prop :=
  (∀ (d : Dev) (cause : Nat) (w : Bool) (i : Iface) (en a : Nat) (v : Word), cause < 16 →
    let e := d.accErr cause w i en a v
    e.flag Reg.GLB_INT_STATUS 1 = true ∧ e.rdN Reg.GLB_ACC_ERR_CNT = min (d.rdN Reg.GLB_ACC_ERR_CNT + 1) 0xFFFFFFFF ∧
    (d.flag Reg.GLB_ACC_ERR_INFO 7 = false →
      e.rdN Reg.GLB_ACC_ERR_INFO = cause + b2n w * 16 + (if i = .spi then 32 else 0) + 128 + en % 16 * 256 ∧
      e.rdN Reg.GLB_ACC_ERR_ADDR = a % 2 ^ 24 ∧ e.rd Reg.GLB_ACC_ERR_DATA = (if w then v else 0)) ∧
    (d.flag Reg.GLB_ACC_ERR_INFO 7 = true →
      e.rd Reg.GLB_ACC_ERR_INFO = setBits (d.rd Reg.GLB_ACC_ERR_INFO) 6 6 1 ∧
      e.rd Reg.GLB_ACC_ERR_ADDR = d.rd Reg.GLB_ACC_ERR_ADDR ∧ e.rd Reg.GLB_ACC_ERR_DATA = d.rd Reg.GLB_ACC_ERR_DATA) ∧
    (∀ b, b ∉ errRegs → e.rd b = d.rd b)) ∧
  (∀ (s : State) (n : Nat) (i : Iface) (data : Word), s.canWrite i Reg.GLB_ACC_ERR_CLR → bit data 0 = true →
    EndsWith (exec (.accErrClr n i data) s) (fun t =>
      t.dev.flag Reg.GLB_ACC_ERR_INFO 7 = false ∧ t.dev.flag Reg.GLB_ACC_ERR_INFO 6 = false ∧
      (∀ k, k ≠ 6 → k ≠ 7 → t.dev.flag Reg.GLB_ACC_ERR_INFO k = s.dev.flag Reg.GLB_ACC_ERR_INFO k) ∧
      (∀ b, b ≠ Reg.GLB_ACC_ERR_INFO → t.dev.rd b = s.dev.rd b) ∧ t.ctl = s.ctl ∧ t.dev.nv = s.dev.nv ∧ t.dev.units = s.dev.units))

/-- O8. Accesses that are refused as a whole, and their causes.
Outside RESET and the MSI-X table: a register write that is not an aligned whole word (cause 1), comes through a locked interface (8), names an undefined address (5), a block not yet served (6) or a read-only view of a window (7), in this order, has no effect but the access error. A read (RC_READ or LATCHED_READ) that is not an aligned whole word or names an undefined address returns zero and is an access error; a read of a block not yet served returns zero without one. The order of the causes is the model's choice (notes/assumptions/8.md).
Rests on R17; R848; R859; R860; R864; R868. -/
def Obligations.RefusedAccesses : Prop :=
  ∀ (s : State) (n : Nat) (i : Iface) (en a : Nat) (v : Word), s.dev.boot ≠ 0 → en < 16 → a < 2 ^ 24 → isMsix i a = false →
    (a % 4 ≠ 0 ∨ en ≠ 15 → Ends (exec (.registerWrite n i en a v) s) { s with dev := (s.dev.tick n).accErr 1 true i en a v }) ∧
    (a % 4 = 0 → a ≠ Reg.GLB_CTL → bit s.ctl (if i = .spi then 0 else 1) = true →
      Ends (exec (.registerWrite n i 15 a v) s) { s with dev := (s.dev.tick n).accErr 8 true i 15 a v }) ∧
    (a % 4 = 0 → bit s.ctl (if i = .spi then 0 else 1) = false → regAt a = none →
      Ends (exec (.registerWrite n i 15 a v) s) { s with dev := (s.dev.tick n).accErr 5 true i 15 a v }) ∧
    (a % 4 = 0 → bit s.ctl (if i = .spi then 0 else 1) = false → regAt a ≠ none → 0x10000 ≤ a → s.dev.served = false →
      Ends (exec (.registerWrite n i 15 a v) s) { s with dev := (s.dev.tick n).accErr 6 true i 15 a v }) ∧
    (a % 4 = 0 → bit s.ctl (if i = .spi then 0 else 1) = false → regAt a ≠ none → s.dev.served = true → s.dev.viewRo a = true →
      Ends (exec (.registerWrite n i 15 a v) s) { s with dev := (s.dev.tick n).accErr 7 true i 15 a v }) ∧
    (∀ c, c = Instr.rcRead n i en a ∨ c = Instr.latchedRead n i en a →
      (a % 4 ≠ 0 ∨ en ≠ 15 → Ends (exec c s) { s with dev := ((s.dev.tick n).accErr 1 false i en a 0).answer i 0 }) ∧
      (a % 4 = 0 → en = 15 → regAt a = none → Ends (exec c s) { s with dev := ((s.dev.tick n).accErr 5 false i 15 a 0).answer i 0 }) ∧
      (a % 4 = 0 → en = 15 → regAt a ≠ none → 0x10000 ≤ a → s.dev.served = false →
        Ends (exec c s) { s with dev := (s.dev.tick n).answer i 0 }))

/-- O9. Writes and reads by access code: RO, RC, W1C, INT_EN, and clearing and latching reads.
A granted REGISTER_WRITE to an RO register is refused with cause 2, to an RC register with cause 3; to a W1C register each 1 clears its bit, but for those that the device sets in the same tick; to an INT_EN register it replaces the writable bits in every copy. RC_READ of an RC register that captures nothing returns what it shows and leaves it at its reset value; where the device contributed to it in the same tick, it returns the value before and keeps the contribution. LATCHED_READ of ISL_UPD_SEQ_LO returns what it shows and latches the _HI half for the interface that reads; one of the _HI half returns what was latched.
Rests on R18; R19; R20; R823; R860; R865; R867. -/
def Obligations.AccessCodes : Prop :=
  (∀ (s : State) (n : Nat) (i : Iface) (a : Nat) (v : Word) (r : RegRow), s.canWrite i a → a ≠ Reg.GLB_CTL → a < 2 ^ 24 → regAt a = some r →
    (r.acc = .ro → Ends (exec (.registerWrite n i 15 a v) s) { s with dev := (s.dev.tick n).accErr 2 true i 15 a v }) ∧
    (r.acc = .rc → Ends (exec (.registerWrite n i 15 a v) s) { s with dev := (s.dev.tick n).accErr 3 true i 15 a v }) ∧
    (r.acc = .w1c → Ends (exec (.registerWrite n i 15 a v) s)
      { s with dev := (s.dev.tick n).wr (s.dev.copy a)
                        ((s.dev.rd (s.dev.copy a) &&& ~~~(v &&& w32 r.wmask)) ||| (((s.dev.tick n).mark (s.dev.copy a)).elim 0 (·.new) &&& s.dev.rd (s.dev.copy a))) }) ∧
    (∀ k < 36, 8 ≤ k → a = intStatusOf k + 4 → Ends (exec (.registerWrite n i 15 a v) s)
      { s with dev := (s.dev.tick n).setAll a ((s.dev.rd (s.dev.copy a) &&& ~~~(w32 r.wmask)) ||| (v &&& w32 r.wmask)) })) ∧
  (∀ (s : State) (n : Nat) (i : Iface) (a : Nat) (r : RegRow), s.canRead a → a < 2 ^ 24 → regAt a = some r → r.acc = .rc → isView a = false → isLatched a = false →
    latchOf a = [] → (s.dev.tick n).capture i a = none →
    ((s.dev.tick n).mark (s.dev.copy a) = none → Ends (exec (.rcRead n i 15 a) s)
      { s with dev := ((s.dev.tick n).wr (s.dev.copy a) (w32 r.reset)).answer i ((s.dev.tick n).show s.ctl i a) }) ∧
    (∀ m, (s.dev.tick n).mark (s.dev.copy a) = some m → EndsWith (exec (.rcRead n i 15 a) s) (fun t =>
      t.dev.rd (s.dev.copy a) = m.new ∧ (∀ b, b ≠ s.dev.copy a → t.dev.rd b = s.dev.rd b) ∧
      (if i = .spi then t.dev.host.rdataS = m.pre else t.dev.host.rdataP = m.pre)))) ∧
  (∀ (s : State) (n : Nat) (i : Iface), s.canRead Reg.ISL_UPD_SEQ_LO →
    Ends (exec (.latchedRead n i 15 Reg.ISL_UPD_SEQ_LO) s)
      { s with
        dev := ((s.dev.tick n).latch i Reg.ISL_UPD_SEQ_HI ((s.dev.tick n).show s.ctl i Reg.ISL_UPD_SEQ_HI)).answer i
          ((s.dev.tick n).show s.ctl i Reg.ISL_UPD_SEQ_LO) } ∧
    Ends (exec (.latchedRead n i 15 Reg.ISL_UPD_SEQ_HI) s)
      { s with dev := (s.dev.tick n).answer i (s.dev.latched i Reg.ISL_UPD_SEQ_HI) })

/-- O10. A number outside its stated range keeps its field, and the rest of the write is performed.
A write to TIM_PPS_OUT_CTL whose WIDTH is not from 1 to 100 leaves WIDTH as it was, sets EN from the data and is recorded with cause 10; with a WIDTH in range both are taken and nothing is recorded.
Rests on R861; R125; R126. -/
def Obligations.BadCodeKeepsTheField : Prop :=
  ∀ (s : State) (n : Nat) (i : Iface) (v : Word), s.canWrite i Reg.TIM_PPS_OUT_CTL →
    (1 ≤ bits v 7 1 → bits v 7 1 ≤ 100 → EndsWith (exec (.registerWrite n i 15 Reg.TIM_PPS_OUT_CTL v) s) (fun t =>
      t.dev.fld Reg.TIM_PPS_OUT_CTL 7 1 = bits v 7 1 ∧ t.dev.flag Reg.TIM_PPS_OUT_CTL 0 = bit v 0 ∧
      (∀ b, b ≠ Reg.TIM_PPS_OUT_CTL → t.dev.rd b = s.dev.rd b))) ∧
    (bits v 7 1 = 0 ∨ 100 < bits v 7 1 → EndsWith (exec (.registerWrite n i 15 Reg.TIM_PPS_OUT_CTL v) s) (fun t =>
      t.dev.fld Reg.TIM_PPS_OUT_CTL 7 1 = s.dev.fld Reg.TIM_PPS_OUT_CTL 7 1 ∧ t.dev.flag Reg.TIM_PPS_OUT_CTL 0 = bit v 0 ∧
      t.dev.rdN Reg.GLB_ACC_ERR_CNT = min (s.dev.rdN Reg.GLB_ACC_ERR_CNT + 1) 0xFFFFFFFF ∧
      (s.dev.flag Reg.GLB_ACC_ERR_INFO 7 = false → t.dev.fld Reg.GLB_ACC_ERR_INFO 3 0 = 10) ∧
      (∀ b, b ≠ Reg.TIM_PPS_OUT_CTL → b ∉ errRegs → t.dev.rd b = s.dev.rd b)))

/-- O11. Frames of the SPI port.
Outside RESET: a write frame with a good CRC does what a whole-word write through SPI does and answers STATUS with ACK where the write was performed, in part too, and ACCESS_ERR where it is an access error; with a bad CRC it changes no register but the error count and its interrupt and answers 0xA2. A read frame with a good address CRC does what a read through SPI does and returns the data with its CRC and ACK, or ACCESS_ERR; one whose data come from wing 0 and are late returns zeros and RETRY; with a bad CRC it returns zeros and 0xA2. A frame of another length is counted and answers nothing. (STATUS of a refused access: notes/assumptions/9.md; what comes from wing 0: notes/assumptions/156.md.)
Rests on R827; R828; R829; R830; R826; R917. -/
def Obligations.SpiFrames : Prop :=
  ∀ (s : State) (n : Nat) (b : List Byte) (late : Bool), s.dev.boot ≠ 0 →
    (b.length = 11 → byteAt b 0 = 2 → byteAt b 8 = crc8 (b.take 8) →
      let w := (s.at n).write .spi 15 (beAt b 1 3) (w32 (beAt b 4 4))
      Ends (exec (.spiWriteFrame n b) s) { w.snd with dev := w.snd.dev.spiSend (spiStatus (w.fst == 0 || w.fst == 10) false (w.fst != 0) false) }) ∧
    (b.length = 11 → byteAt b 0 = 2 → byteAt b 8 ≠ crc8 (b.take 8) →
      Ends (exec (.spiWriteFrame n b) s) { s with dev := (((s.dev.tick n).incS Reg.GLB_SPI_ERR_CNT 1).raise Reg.GLB_INT_STATUS 5).spiSend [0xA2] }) ∧
    (b.length = 13 → byteAt b 0 = 3 → byteAt b 4 = crc8 (b.take 4) → late = false ∨ s.dev.fromWing0 (beAt b 1 3) = false ∨ readRefused 15 (beAt b 1 3) ≠ 0 →
      let r := (s.at n).read .spi 15 (beAt b 1 3)
      Ends (exec (.spiReadFrame n b late) s) { r.snd.snd with
        dev := r.snd.snd.dev.spiSend (be 4 r.snd.fst.toNat ++ be 1 (crc8 (be 4 r.snd.fst.toNat)) ++ spiStatus (r.fst == 0) false (r.fst != 0) false) }) ∧
    (b.length = 13 → byteAt b 0 = 3 → byteAt b 4 = crc8 (b.take 4) → late = true → s.dev.fromWing0 (beAt b 1 3) = true → readRefused 15 (beAt b 1 3) = 0 →
      Ends (exec (.spiReadFrame n b late) s) { s with dev := (s.dev.tick n).spiSend [0, 0, 0, 0, 0, 0xA8] }) ∧
    (b.length = 13 → byteAt b 0 = 3 → byteAt b 4 ≠ crc8 (b.take 4) →
      Ends (exec (.spiReadFrame n b late) s)
        { s with dev := (((s.dev.tick n).incS Reg.GLB_SPI_ERR_CNT 1).raise Reg.GLB_INT_STATUS 5).spiSend [0, 0, 0, 0, 0, 0xA2] }) ∧
    (b.length ≠ 11 → b.length ≠ 13 →
      Ends (exec (.spiWriteFrame n b) s) { s with dev := (((s.dev.tick n).incS Reg.GLB_SPI_ERR_CNT 1).raise Reg.GLB_INT_STATUS 5).spiSend [] })

/-- O12. What each reset of the module leaves.
POWER_ON and SUPPLY_FAULT enter RESET with CAUSE 0, the DRAM and every register but GLB_BOOT_STATE and GLB_RESET_CAUSE at reset, the nonvolatile die unchanged. BOARD_RESET with RESET_N low for 1 us or more enters RESET with CAUSE 1 and keeps the DRAM of the recorder and the die; in RESET it holds the pin low; a shorter pulse does nothing. HOST_RESET (CAUSE 2) and WATCHDOG_RESET (CAUSE 4) enter SELFTEST. RESET_RELEASE leads from RESET to SELFTEST with the straps sampled. Each of these resets clears GLB_CTL and leaves no configuration or instar in force and no holder of the claim; the slots stay, through the release too; each way that enters SELFTEST starts elapsed time at 0 and numbers a new power epoch, held at 0xFFFF_FFFF. In RESET a watchdog reset does nothing; outside RESET a release only takes the pin high.
Rests on R39; R73; R74; R839; R840; R847; R869; R899; R904. -/
def Obligations.ResetsOfTheModule : Prop :=
  (∀ (s : State) (n : Nat) (c : Instr), c = .powerOn n ∨ c = .supplyFault n → EndsWith (exec c s) (fun t =>
    t.dev.boot = 0 ∧ t.ctl = 0 ∧ t.dev.fld Reg.GLB_RESET_CAUSE 3 0 = 0 ∧ t.dev.txn.cfg = [] ∧ t.dev.txn.inForce = none ∧ t.dev.units.holder = none ∧
    t.dev.nv = s.dev.nv ∧ t.dev.evr.dram = ⟨[], []⟩ ∧ t.dev.resetCtr = s.dev.resetCtr + 1 ∧
    (∀ a, a ≠ Reg.GLB_BOOT_STATE → a ≠ Reg.GLB_RESET_CAUSE → t.dev.rd a = resetOf (a % wingOfs)))) ∧
  (∀ (s : State) (n low : Nat),
    (1000 ≤ low → s.dev.boot ≠ 0 → EndsWith (exec (.boardReset n low) s) (fun t =>
      t.dev.boot = 0 ∧ t.ctl = 0 ∧ t.dev.fld Reg.GLB_RESET_CAUSE 3 0 = 1 ∧ t.dev.pins.resetLow = true ∧ t.dev.txn.cfg = [] ∧ t.dev.txn.inForce = none ∧
      t.dev.units.holder = none ∧ t.dev.nv = s.dev.nv ∧ t.dev.evr.dram = s.dev.evr.dram ∧ t.dev.resetCtr = s.dev.resetCtr + 1 ∧
      (∀ a, a ≠ Reg.GLB_BOOT_STATE → a ≠ Reg.GLB_RESET_CAUSE → t.dev.rd a = resetOf (a % wingOfs)))) ∧
    (1000 ≤ low → s.dev.boot = 0 → Ends (exec (.boardReset n low) s)
      { s with dev := { s.dev.tick n with pins := { s.dev.pins with resetLow := true } } }) ∧
    (low < 1000 → Ends (exec (.boardReset n low) s) { s with dev := s.dev.tick n })) ∧
  (∀ (s : State) (n : Nat) (a b c e : Bool),
    (s.dev.boot = 0 → EndsWith (exec (.resetRelease n a b c e) s) (fun t =>
      t.dev.boot = 1 ∧ t.dev.pins.resetLow = false ∧ t.dev.pins.sampled = b2n a + 2 * b2n b + 4 * b2n c + 8 * b2n e ∧ t.dev.flag Reg.GLB_BOOT_STATE 3 = c ∧
      t.ctl = s.ctl ∧ t.dev.txn.cfg = s.dev.txn.cfg ∧ t.dev.nv.slot0 = s.dev.nv.slot0 ∧ t.dev.nv.slot1 = s.dev.nv.slot1 ∧
      t.dev.nv.powerEpoch = min (s.dev.nv.powerEpoch + 1) 0xFFFFFFFF ∧ t.dev.tim.clk = 0)) ∧
    (s.dev.boot ≠ 0 → Ends (exec (.resetRelease n a b c e) s)
      { s with dev := { s.dev.tick n with pins := { s.dev.pins with resetLow := false } } })) ∧
  (∀ (s : State) (n : Nat) (c : Instr) (cause : Nat),
    ((∃ i, c = .hostReset n i ∧ s.canWrite i Reg.GLB_RESET_CTL) ∧ cause = 2) ∨ (c = .watchdogReset n ∧ s.dev.boot ≠ 0 ∧ cause = 4) →
    EndsWith (exec c s) (fun t =>
      t.dev.boot = 1 ∧ t.ctl = 0 ∧ t.dev.fld Reg.GLB_RESET_CAUSE 3 0 = cause ∧ t.dev.txn.cfg = [] ∧ t.dev.txn.inForce = none ∧ t.dev.units.holder = none ∧
      t.dev.nv.slot0 = s.dev.nv.slot0 ∧ t.dev.nv.slot1 = s.dev.nv.slot1 ∧ t.dev.evr.dram = s.dev.evr.dram ∧
      t.dev.nv.powerEpoch = min (s.dev.nv.powerEpoch + 1) 0xFFFFFFFF ∧ t.dev.tim.clk = 0 ∧ t.dev.resetCtr = s.dev.resetCtr + 1)) ∧
  (∀ (s : State) (n : Nat), s.dev.boot = 0 → Ends (exec (.watchdogReset n) s) { s with dev := s.dev.tick n })

/-- O13. A write to GLB_RESET_CTL without its key resets nothing.
A granted write to GLB_RESET_CTL with KEY 0xA5C3 and RESET 1 resets the module; any other write has no effect but the access error with cause 9.
Rests on R840. -/
def Obligations.BadResetKey : Prop :=
  ∀ (s : State) (n : Nat) (i : Iface) (v : Word), s.canWrite i Reg.GLB_RESET_CTL →
    (bits v 31 16 = 0xA5C3 → bit v 0 = true → EndsWith (exec (.registerWrite n i 15 Reg.GLB_RESET_CTL v) s) (fun t =>
      t.dev.boot = 1 ∧ t.ctl = 0 ∧ t.dev.resetCtr = s.dev.resetCtr + 1 ∧ t.dev.txn.cfg = [])) ∧
    (¬ (bits v 31 16 = 0xA5C3 ∧ bit v 0 = true) →
      Ends (exec (.registerWrite n i 15 Reg.GLB_RESET_CTL v) s) { s with dev := (s.dev.tick n).accErr 9 true i 15 Reg.GLB_RESET_CTL v })

/-- O14. The steps of bring-up and the states they lead to.
SELFTEST_DONE without a failed step takes SELFTEST to pupa with the recorder ring ready; with one it enters SAFE and GLB_RESET_CAUSE shows the step. IMAGE_LOADED in pupa with nothing in force takes the slot that qualifies into force and goes to CALIBRATE, unless PUPA_HOLD holds it in pupa; with none it shows NO_IMAGE. PUPA_GO leaves pupa for CALIBRATE with the instar in force, or else with the slot that qualifies; it does nothing where none does. SYNC_TIMEOUT takes SYNC without a lock to DEGRADED once SYNC_TIMEOUT has passed, and does nothing before.
Rests on R39; R792; R846; R849; R850; R852. -/
def Obligations.BringUp : Prop :=
  (∀ (s : State) (n k : Nat), s.dev.boot = 1 →
    EndsWith (exec (.selftestDone n 0) s) (fun t => t.dev.boot = 2 ∧ t.dev.evr.ready = true ∧ t.ctl = s.ctl ∧ t.dev.txn.cfg = s.dev.txn.cfg) ∧
    (k ≠ 0 → EndsWith (exec (.selftestDone n k) s) (fun t => t.dev.boot = 7 ∧ t.dev.fld Reg.GLB_RESET_CAUSE 11 8 = k % 16 ∧ t.ctl = s.ctl))) ∧
  (∀ (s : State) (n : Nat), s.dev.boot = 2 → s.dev.txn.inForce = none →
    ((s.dev.tick n).bestSlot = none → Ends (exec (.imageLoaded n) s) { s with dev := (s.dev.tick n).putB Reg.GLB_BOOT_STATE 4 true }) ∧
    (∀ k, (s.dev.tick n).bestSlot = some k → EndsWith (exec (.imageLoaded n) s) (fun t =>
      t.dev.txn.inForce = some k ∧ t.dev.txn.instar = (s.dev.nvSlot k).instar ∧ t.dev.nv.inForce = k ∧
      t.dev.boot = (if s.dev.flag Reg.GLB_BOOT_STATE 3 then 2 else 3) ∧ t.ctl = s.ctl))) ∧
  (∀ (s : State) (n : Nat) (i : Iface) (v : Word), s.canWrite i Reg.GLB_BOOT_CTL → s.dev.boot = 2 → bit v 0 = true →
    (s.dev.txn.inForce.isSome = true → EndsWith (exec (.pupaGo n i v) s) (fun t => t.dev.boot = 3 ∧ t.dev.txn.inForce = s.dev.txn.inForce ∧ t.ctl = s.ctl)) ∧
    (s.dev.txn.inForce = none → (s.dev.tick n).bestSlot = none → Ends (exec (.pupaGo n i v) s) { s with dev := s.dev.tick n }) ∧
    (∀ k, s.dev.txn.inForce = none → (s.dev.tick n).bestSlot = some k →
      EndsWith (exec (.pupaGo n i v) s) (fun t => t.dev.boot = 3 ∧ t.dev.txn.inForce = some k ∧ t.ctl = s.ctl))) ∧
  (∀ (s : State) (n : Nat), s.dev.boot = 4 → s.dev.tim.lockedOnce = false →
    let due := (s.dev.rdN (Reg.GLB_STATE_TIME 4) + (s.dev.device.map (fun b => beAt b 8 4)).getD 0 * 1000) * 400000
    (due ≤ max s.dev.tim.clk n → EndsWith (exec (.syncTimeout n) s) (fun t => t.dev.boot = 6 ∧ t.dev.units = s.dev.units ∧ t.ctl = s.ctl)) ∧
    (max s.dev.tim.clk n < due → Ends (exec (.syncTimeout n) s) { s with dev := s.dev.tick n }))

/-- O15. Power failure, the endpoint and its resets.
Outside RESET, PWRFAIL_FALL makes the power-fail save of this power epoch and acknowledgements stop; PWRFAIL_END marks the save invalid, and what stopped resumes at the next wingbeat boundary, at once where none falls. An endpoint reset clears the MSI-X table and every host ring register, takes the link down unless it is a function-level reset, and leaves measurement, engines, outputs and acknowledged work. D3HOT_ENTRY and D3HOT_EXIT are shown in GLB_PCIE_STATUS while the link is up, and do nothing while it is down; PCIE_LINK_UP shows speed and width; a loop-back slave takes the link down.
Rests on R820; R821; R842; R844; R852; R890. -/
def Obligations.PowerFailAndEndpoint : Prop :=
  (∀ (s : State) (n : Nat), s.dev.boot ≠ 0 → EndsWith (exec (.pwrfailFall n) s) (fun t =>
    t.dev.nv.save.valid = true ∧ t.dev.nv.save.epoch = t.dev.nv.powerEpoch ∧ t.dev.nv.powerEpoch = s.dev.nv.powerEpoch ∧ t.dev.pfHeld = true ∧
    t.ctl = s.ctl)) ∧
  (∀ (s : State) (n : Nat), s.dev.pins.pwrfailLow = true → EndsWith (exec (.pwrfailEnd n) s) (fun t =>
    t.dev.nv.save.valid = false ∧ t.dev.pins.pwrfailLow = false ∧ t.dev.pfHeld = (decide (3 ≤ s.dev.boot) && s.dev.rate != 0) ∧ t.ctl = s.ctl)) ∧
  (∀ (s : State) (n : Nat) (flr : Bool), EndsWith (exec (.endpointReset n flr) s) (fun t =>
    t.dev.host.msix = [] ∧ t.dev.host.ringSent = 0 ∧ t.dev.host.d3hot = false ∧ t.dev.host.linkUp = (s.dev.host.linkUp && flr) ∧
    (∀ a, Reg.GLB_HR_CTL 0 ≤ a → a ≤ Reg.GLB_HR_IDX_HI 7 → t.dev.rd a = resetOf a) ∧
    (∀ a, (a < Reg.GLB_HR_CTL 0 ∨ Reg.GLB_HR_IDX_HI 7 < a) → a ≠ Reg.GLB_PCIE_STATUS → t.dev.rd a = s.dev.rd a) ∧
    (∀ r, ((t.dev.ring r).taken = (s.dev.ring r).taken.filter (·.acked))) ∧
    t.dev.units = s.dev.units ∧ t.dev.loc = s.dev.loc ∧ t.dev.sch = s.dev.sch ∧ t.dev.cmp = s.dev.cmp ∧ t.dev.acq = s.dev.acq ∧ t.dev.nv = s.dev.nv ∧
    t.dev.osc = s.dev.osc ∧ t.dev.isl = s.dev.isl ∧ t.dev.roost = s.dev.roost ∧ t.dev.ing = s.dev.ing ∧ t.dev.net = s.dev.net ∧ t.dev.evr = s.dev.evr ∧
    t.ctl = s.ctl)) ∧
  (∀ (s : State) (n : Nat), s.dev.host.linkUp = true →
    EndsWith (exec (.d3hotEntry n) s) (fun t => t.dev.host.d3hot = true ∧ t.dev.flag Reg.GLB_PCIE_STATUS 7 = true ∧ t.dev.units = s.dev.units) ∧
    EndsWith (exec (.d3hotExit n) s) (fun t => t.dev.host.d3hot = false ∧ t.dev.flag Reg.GLB_PCIE_STATUS 7 = false ∧ t.dev.units = s.dev.units)) ∧
  (∀ (s : State) (n : Nat) (c : Instr), s.dev.host.linkUp = false → c = .d3hotEntry n ∨ c = .d3hotExit n → Ends (exec c s) { s with dev := s.dev.tick n }) ∧
  (∀ (s : State) (n speed width : Nat), s.dev.boot ≠ 0 → EndsWith (exec (.pcieLinkUp n speed width) s) (fun t =>
    t.dev.host.linkUp = true ∧ t.dev.flag Reg.GLB_PCIE_STATUS 0 = true ∧ t.dev.fld Reg.GLB_PCIE_STATUS 3 1 = speed % 8 ∧
    t.dev.fld Reg.GLB_PCIE_STATUS 6 4 = width % 8 ∧ (∀ a, a ≠ Reg.GLB_PCIE_STATUS → t.dev.rd a = s.dev.rd a))) ∧
  (∀ (s : State) (n : Nat), EndsWith (exec (.pcieLoopbackSlave n) s) (fun t =>
    t.dev.host.linkUp = false ∧ t.dev.flag Reg.TST_PCIE_STATUS 1 = true ∧ (∀ a, a ≠ Reg.TST_PCIE_STATUS → t.dev.rd a = s.dev.rd a)))

/-- O16. Host rings: taking, acknowledging, completing, enabling.
A ring takes its next descriptor, which gets the next SQ_INDEX and moves SQ_TAIL on by one; one restored from the journal or the save comes first, acknowledged already, and moves no SQ_TAIL. Where it must wait for credit, for room or for the limit, or PWRFAIL_N is low, or none comes, nothing changes. HOST_RING_ACK marks the oldest descriptor that is not acknowledged and moves SQ_ACK on by one; with none, or from PWRFAIL_N low until service resumes, no ring and no SQ_ACK changes. HOST_RING_COMPLETION takes the oldest descriptor, whose entry passes the gate, off the ring and moves CQ_HEAD on by one; where it has no entry or the entry cannot be written or pass, nothing changes. Setting EN starts the completion ring at position 0 with PHASE 1.
Rests on R746; R832; R833; R834; R835; R836; R838; R842; R844; R845. -/
def Obligations.HostRings : Prop :=
  (∀ (s : State) (n r : Nat), r < 8 → s.dev.hrNext r = none → Ends (exec (.hostRingTake n r) s) { s with dev := s.dev.tick n }) ∧
  (∀ (s : State) (n r : Nat) (b a : Bytes), r < 8 → s.dev.hrNext r = some (b, a) →
    ((s.dev.ring r).restored = [] → s.dev.waitCredit r = false → s.dev.cqRoom r = true → s.dev.waitLimit r = false → s.dev.pins.pwrfailLow = false →
      Ends (exec (.hostRingTake n r) s) { s with
        dev := ((s.dev.tick n).modRing r (fun g => { g with next := g.next + 1, taken := g.taken ++ [⟨g.next, b, a, false, none⟩] })).wrN
          (Reg.GLB_HR_SQ_TAIL r) ((s.dev.fld (Reg.GLB_HR_SQ_TAIL r) 11 0 + 1) % s.dev.sqSize r) }) ∧
    (∀ x l, (s.dev.ring r).restored = x :: l → s.dev.waitCredit r = false → s.dev.cqRoom r = true → s.dev.waitLimit r = false → s.dev.pins.pwrfailLow = false →
      EndsWith (exec (.hostRingTake n r) s) (fun t =>
        (t.dev.ring r).next = (s.dev.ring r).next + 1 ∧ (t.dev.ring r).restored = l ∧ t.dev.rd (Reg.GLB_HR_SQ_TAIL r) = s.dev.rd (Reg.GLB_HR_SQ_TAIL r))) ∧
    (s.dev.waitCredit r = true ∨ s.dev.cqRoom r = false ∨ s.dev.waitLimit r = true ∨ s.dev.pins.pwrfailLow = true →
      Ends (exec (.hostRingTake n r) s) { s with dev := s.dev.tick n })) ∧
  (∀ (s : State) (n r : Nat) (x : HostTaken), r < 8 → (s.dev.ring r).taken.find? (fun x => !x.acked) = some x → s.dev.pfHeld = false →
    EndsWith (exec (.hostRingAck n r) s) (fun t =>
      t.dev.rdN (Reg.GLB_HR_SQ_ACK r) = (if s.dev.sqSize r = 0 then 0 else (s.dev.fld (Reg.GLB_HR_SQ_ACK r) 11 0 + 1) % s.dev.sqSize r) ∧
      (∀ y ∈ (t.dev.ring r).taken, y.idx = x.idx → y.acked = true) ∧ (t.dev.ring r).next = (s.dev.ring r).next)) ∧
  (∀ (s : State) (n r : Nat), r < 8 → s.dev.pfHeld = true ∨ (s.dev.ring r).taken.find? (fun x => !x.acked) = none →
    EndsWith (exec (.hostRingAck n r) s) (fun t => t.dev.host.rings = s.dev.host.rings ∧ t.dev.rd (Reg.GLB_HR_SQ_ACK r) = s.dev.rd (Reg.GLB_HR_SQ_ACK r))) ∧
  (∀ (s : State) (n r : Nat), r < 8 → (s.dev.ring r).taken = [] → Ends (exec (.hostRingCompletion n r) s) { s with dev := s.dev.tick n }) ∧
  (∀ (s : State) (n r : Nat) (x : HostTaken) (l : List HostTaken), r < 8 → (s.dev.ring r).taken = x :: l →
    (x.entry = none ∨ x.acked = false ∨ s.dev.hrRuns r = false ∨ s.dev.dma = false ∨ s.dev.gateOpen s.dev.active (2168 + r) x.idx = false ∨
      ringRoom (s.dev.cqSize r) (s.dev.fld (Reg.GLB_HR_CQ_HEAD r) 11 0) (s.dev.fld (Reg.GLB_HR_CQ_TAIL r) 11 0) = 0 → Ends (exec (.hostRingCompletion n r) s) { s with dev := s.dev.tick n }) ∧
    (∀ e, x.entry = some e → x.acked = true → s.dev.hrRuns r = true → s.dev.dma = true →
      0 < ringRoom (s.dev.cqSize r) (s.dev.fld (Reg.GLB_HR_CQ_HEAD r) 11 0) (s.dev.fld (Reg.GLB_HR_CQ_TAIL r) 11 0) →
      s.dev.gateOpen s.dev.active (2168 + r) x.idx = true →
      EndsWith (exec (.hostRingCompletion n r) s) (fun t =>
        t.dev.rdN (Reg.GLB_HR_CQ_HEAD r) = (s.dev.fld (Reg.GLB_HR_CQ_HEAD r) 11 0 + 1) % s.dev.cqSize r ∧ (t.dev.ring r).taken = l ∧
        (t.dev.ring r).phase = (if s.dev.fld (Reg.GLB_HR_CQ_HEAD r) 11 0 + 1 = s.dev.cqSize r then !(s.dev.ring r).phase else (s.dev.ring r).phase) ∧
        tget 0 t.dev.units.outSeq (2168 + r) = x.idx + 1))) ∧
  (∀ (s : State) (n r : Nat) (i : Iface) (v : Word), r < 8 → s.canWrite i (Reg.GLB_HR_CTL r) → s.dev.flag (Reg.GLB_HR_CTL r) 0 = false → bit v 0 = true →
    EndsWith (exec (.hostRingEnable n i r v) s) (fun t =>
      t.dev.flag (Reg.GLB_HR_CTL r) 0 = true ∧ t.dev.rdN (Reg.GLB_HR_CQ_HEAD r) = 0 ∧ (t.dev.ring r).phase = true ∧
      (t.dev.ring r).next = (s.dev.ring r).next ∧ (t.dev.ring r).taken = (s.dev.ring r).taken))

/-- O17. Snapshot requests and the latch.
CNV_SNAP with SNAP 1 asks for a snapshot of its quadrant and CNV_SNAP_ALL of all four, and change nothing else; with 0 they change nothing. From pupa on, SNAPSHOT_LATCH copies the corrected word of every channel of a quadrant that asked into CNV_CH_SNAP, counts it in SNAP_SEQ and clears the request; the other quadrants keep theirs.
Rests on R139; R140; R141. -/
def Obligations.Snapshots : Prop :=
  (∀ (s : State) (n : Nat) (i : Iface) (v : Word) (q : Nat), q < 4 → bit v 0 = true →
    (s.canWrite i (Reg.CNV_Q_SNAP q) →
      Ends (exec (.cnvSnap n i q v) s) { s with dev := (s.dev.tick n).modQuad q (fun u => { u with snap := true }) }) ∧
    (s.canWrite i Reg.CNV_SNAP_ALL →
      EndsWith (exec (.cnvSnapAll n i v) s) (fun t => t.dev.loc.quads = (List.range 4).foldl (fun l q => lmod l q (fun u => { u with snap := true })) s.dev.loc.quads ∧
        t.dev.regs = s.dev.regs ∧ t.ctl = s.ctl))) ∧
  (∀ (s : State) (n : Nat) (i : Iface) (v : Word) (q : Nat), q < 4 → bit v 0 = false →
    (s.canWrite i (Reg.CNV_Q_SNAP q) → Ends (exec (.cnvSnap n i q v) s) { s with dev := s.dev.tick n }) ∧
    (s.canWrite i Reg.CNV_SNAP_ALL → Ends (exec (.cnvSnapAll n i v) s) { s with dev := s.dev.tick n })) ∧
  (∀ (s : State) (n : Nat), 2 ≤ s.dev.boot → EndsWith (exec (.snapshotLatch n) s) (fun t =>
    (∀ q < 4, (s.dev.quad q).snap = true →
      (∀ j < 48, t.dev.rd (Reg.CNV_CH_SNAP (48 * q + j)) = w32i (s.dev.chan (48 * q + j)).word) ∧
      t.dev.rdN (Reg.CNV_Q_SNAP_SEQ q) = (s.dev.rdN (Reg.CNV_Q_SNAP_SEQ q) + 1) % 2 ^ 32 ∧ (t.dev.quad q).snap = false) ∧
    (∀ q < 4, (s.dev.quad q).snap = false → (∀ j < 48, t.dev.rd (Reg.CNV_CH_SNAP (48 * q + j)) = s.dev.rd (Reg.CNV_CH_SNAP (48 * q + j))) ∧
      t.dev.quad q = s.dev.quad q) ∧
    t.dev.units = s.dev.units ∧ t.dev.acq = s.dev.acq ∧ t.ctl = s.ctl))

/-- O18. Injection requests, and reading and consuming results.
CK_INJ stores its outcome: NOT_SERVED for a channel of another converter, DISABLED, MERGED with a queued one, FULL behind four, else ACCEPTED, and only then is the channel queued; outcomes from FULL on raise the interrupt. Which stands where several hold is the model's choice (notes/assumptions/173.md). RES_STATUS_READ returns the status of the front buffer, captures its values for the interface that reads, and consumes nothing. RES_CONSUME returns the same status, then promotes the back buffer, or clears VALID.
Rests on R158; R159; R163; R164; R166; R187; R866. -/
def Obligations.InjectedChecksAndResults : Prop :=
  (∀ (s : State) (n k : Nat) (i : Iface) (v : Word), k < 16 → s.canWrite i (Reg.CNV_CK_INJ k) →
    let ch := bits v 7 0
    let put (o : Nat) (d : Dev) : Dev := d.modCk k (fun c => { c with last := o })
    (ch / 12 ≠ k → Ends (exec (.ckInj n i k v) s) { s with dev := (put 3 (s.dev.tick n)).raise Reg.CNV_INT_STATUS 3 }) ∧
    (ch / 12 = k → s.dev.chHas ch 11 = true → Ends (exec (.ckInj n i k v) s) { s with dev := (put 4 (s.dev.tick n)).raise Reg.CNV_INT_STATUS 3 }) ∧
    (ch / 12 = k → s.dev.chHas ch 11 = false → ch ∈ (s.dev.ck k).queue → Ends (exec (.ckInj n i k v) s) { s with dev := put 1 (s.dev.tick n) }) ∧
    (ch / 12 = k → s.dev.chHas ch 11 = false → ch ∉ (s.dev.ck k).queue → 4 ≤ (s.dev.ck k).queue.length →
      Ends (exec (.ckInj n i k v) s) { s with dev := (put 2 (s.dev.tick n)).raise Reg.CNV_INT_STATUS 3 }) ∧
    (ch / 12 = k → s.dev.chHas ch 11 = false → ch ∉ (s.dev.ck k).queue → (s.dev.ck k).queue.length < 4 →
      Ends (exec (.ckInj n i k v) s) { s with dev := (s.dev.tick n).modCk k (fun c => { c with last := 0, queue := c.queue ++ [ch] }) })) ∧
  (∀ (s : State) (n k : Nat) (i : Iface), k < 16 →
    (s.canRead (Reg.CNV_CK_RES_STATUS k) → EndsWith (exec (.resStatusRead n i k) s) (fun t =>
      (if i = .spi then t.dev.host.rdataS else t.dev.host.rdataP) = ckStatus (s.dev.ck k) ∧ t.dev.loc = s.dev.loc ∧ t.dev.regs = s.dev.regs ∧
      (∀ r, (s.dev.ck k).front = some r → t.dev.latched i (Reg.CNV_CK_RES_IC k) = w32i r.ic ∧ t.dev.latched i (Reg.CNV_CK_RES_QC k) = w32i r.qc ∧
        t.dev.latched i (Reg.CNV_CK_RES_ID k) = w32i r.id' ∧ t.dev.latched i (Reg.CNV_CK_RES_QD k) = w32i r.qd ∧
        t.dev.latched i (Reg.CNV_CK_RES_ERR k) = w32 r.err))) ∧
    (s.canRead (Reg.CNV_CK_RES_CONSUME k) → EndsWith (exec (.resConsume n i k) s) (fun t =>
      (if i = .spi then t.dev.host.rdataS else t.dev.host.rdataP) = ckStatus (s.dev.ck k) ∧ t.dev.regs = s.dev.regs ∧
      (∀ r, (s.dev.ck k).back = some r → t.dev.loc = ((s.dev.tick n).modCk k (fun c => { c with front := some r, valid := true, back := none })).loc) ∧
      ((s.dev.ck k).back = none → t.dev.loc = ((s.dev.tick n).modCk k (fun c => { c with valid := false })).loc))))

/-- O19. Switching the FIR bank of a channel, and writing and reading coefficients.
FIR_SWAP starts a fade to the other bank with the length of that moment, only notes its outcome for the live one, and pends while a fade runs. FADE_DONE of a fade that has run its length makes the incoming bank LIVE, and a request that pends starts its fade at the next tick, or is dropped where it names that bank; else nothing changes. COEF_WRITE stores the 24-bit coefficient and advances the tap, or, for a bank that is live, fading or pending, changes only FLT_ERR and the interrupt. COEF_READ returns the coefficient and advances the tap.
Rests on R199; R200; R201; R202; R203; R204; R243. -/
def Obligations.FirBanks : Prop :=
  (∀ (s : State) (n c : Nat) (i : Iface) (v : Word), c < 256 → s.canWrite i (Reg.FLT_CH_SWAP c) →
    let len := max 1 (s.dev.fld (Reg.FLT_CH_XF_LEN c) 15 0)
    ((s.dev.chan c).fade = none → bits v 0 0 = (s.dev.chan c).live →
      Ends (exec (.firSwap n i c v) s) { s with dev := (s.dev.tick n).modChan c (fun x => { x with swapLast := 2 }) }) ∧
    ((s.dev.chan c).fade = none → bits v 0 0 ≠ (s.dev.chan c).live →
      Ends (exec (.firSwap n i c v) s)
        { s with dev := (s.dev.tick n).modChan c (fun x => { x with swapLast := 1, fade := some ⟨bits v 0 0, len, 0, some (max s.dev.tim.clk n)⟩ }) }) ∧
    ((s.dev.chan c).fade ≠ none →
      Ends (exec (.firSwap n i c v) s)
        { s with dev := (s.dev.tick n).modChan c (fun x => { x with swapLast := (if x.pend.isSome then 4 else 3), pend := some (bits v 0 0, len) }) })) ∧
  (∀ (s : State) (n c : Nat) (f : Fade), c < 256 → 3 ≤ s.dev.boot → (s.dev.chan c).fade = some f →
    (f.waiting = none → f.len ≤ f.k → (s.dev.chan c).pend = none →
      Ends (exec (.fadeDone n c) s) { s with dev := ((s.dev.tick n).modChan c (fun x => { x with live := f.bank, fade := none })).raise Reg.FLT_INT_STATUS 1 }) ∧
    (f.waiting = none → f.len ≤ f.k → ∀ b l, (s.dev.chan c).pend = some (b, l) → b ≠ f.bank →
      Ends (exec (.fadeDone n c) s)
        { s with dev := ((s.dev.tick n).modChan c (fun x => { x with live := f.bank, pend := none, fade := some ⟨b, l, 0, some 0⟩ })).raise Reg.FLT_INT_STATUS 1 }) ∧
    (f.waiting = none → f.len ≤ f.k → ∀ l, (s.dev.chan c).pend = some (f.bank, l) →
      Ends (exec (.fadeDone n c) s)
        { s with dev := ((s.dev.tick n).modChan c (fun x => { x with live := f.bank, pend := none, fade := none })).raise Reg.FLT_INT_STATUS 1 }) ∧
    (f.waiting ≠ none ∨ f.k < f.len → Ends (exec (.fadeDone n c) s) { s with dev := s.dev.tick n })) ∧
  (∀ (s : State) (n c : Nat), (s.dev.chan c).fade = none → Ends (exec (.fadeDone n c) s) { s with dev := s.dev.tick n }) ∧
  (∀ (s : State) (n : Nat) (i : Iface) (v : Word),
    let c := s.dev.fld Reg.FLT_COEF_SEL 7 0
    let b := s.dev.fld Reg.FLT_COEF_SEL 8 8
    let tap := s.dev.fld Reg.FLT_COEF_SEL 21 16
    (s.canWrite i Reg.FLT_COEF_DATA → bankLocked (s.dev.chan c) b = true → Ends (exec (.coefWrite n i v) s)
      { s with dev := ((s.dev.tick n).wrN Reg.FLT_ERR (1 + c * 2 ^ 8 + tap * 2 ^ 16 + b * 2 ^ 22)).raise Reg.FLT_INT_STATUS 2 }) ∧
    (s.canWrite i Reg.FLT_COEF_DATA → bankLocked (s.dev.chan c) b = false → EndsWith (exec (.coefWrite n i v) s) (fun t =>
      t.dev.coefOf c b tap = sx 24 v.toNat ∧ t.dev.fld Reg.FLT_COEF_SEL 21 16 = (tap + 1) % 64 ∧ t.dev.fld Reg.FLT_COEF_SEL 8 0 = s.dev.fld Reg.FLT_COEF_SEL 8 0 ∧
      t.dev.loc.chans = s.dev.loc.chans ∧ (∀ a, a ≠ Reg.FLT_COEF_SEL → t.dev.rd a = s.dev.rd a))) ∧
    (s.canRead Reg.FLT_COEF_DATA → EndsWith (exec (.coefRead n i) s) (fun t =>
      (if i = .spi then t.dev.host.rdataS else t.dev.host.rdataP) = w32 (cx 24 (s.dev.coefOf c b tap)) ∧
      t.dev.fld Reg.FLT_COEF_SEL 21 16 = (tap + 1) % 64 ∧ t.dev.loc = s.dev.loc ∧ (∀ a, a ≠ Reg.FLT_COEF_SEL → t.dev.rd a = s.dev.rd a))))

/-- O20. Host freezes and releases, and the ends of a freeze.
HOST_FREEZE asks for a freeze at the next tick and FREEZE_RELEASE for a release, on a channel with HELD, and either for both where the write sets both bits; on one without, only FLT_ERR and the interrupt change. FREEZE_TAIL_END releases a triggered freeze after TAIL inactive ticks, and FREEZE_MAX_END any freeze after FLT_FREEZE_MAX ticks, each with its RELEASE record; before that time, while a trigger waits for its tick, or without a freeze, nothing changes.
Rests on R210; R211; R212; R213; R243. -/
def Obligations.Freezes : Prop :=
  (∀ (s : State) (n c : Nat) (i : Iface) (v : Word), c < 256 → s.canWrite i (Reg.FLT_CH_FREEZE_CTL c) →
    let err := ((s.dev.tick n).wrN Reg.FLT_ERR (2 + c * 2 ^ 8)).raise Reg.FLT_INT_STATUS 2
    (bit v 1 = false → s.dev.flag (Reg.FLT_CH_CFG c) 6 = true →
      Ends (exec (.hostFreeze n i c v) s) { s with dev := (s.dev.tick n).modChan c (fun x => { x with trig := some 2 }) }) ∧
    (bit v 0 = false → s.dev.flag (Reg.FLT_CH_CFG c) 6 = true →
      Ends (exec (.freezeRelease n i c v) s) { s with dev := (s.dev.tick n).modChan c (fun x => { x with rel := true }) }) ∧
    (bit v 1 = true → s.dev.flag (Reg.FLT_CH_CFG c) 6 = true →
      Ends (exec (.hostFreeze n i c v) s) { s with dev := ((s.dev.tick n).hostFreeze c).hostRelease c }) ∧
    (bit v 0 = true → s.dev.flag (Reg.FLT_CH_CFG c) 6 = true →
      Ends (exec (.freezeRelease n i c v) s) { s with dev := ((s.dev.tick n).hostFreeze c).hostRelease c }) ∧
    (s.dev.flag (Reg.FLT_CH_CFG c) 6 = false →
      Ends (exec (.hostFreeze n i c v) s) { s with dev := err } ∧ Ends (exec (.freezeRelease n i c v) s) { s with dev := err })) ∧
  (∀ (s : State) (n c : Nat), (s.dev.chan c).freeze = none ∨ (s.dev.chan c).trig ≠ none →
    Ends (exec (.freezeTailEnd n c) s) { s with dev := s.dev.tick n } ∧ Ends (exec (.freezeMaxEnd n c) s) { s with dev := s.dev.tick n }) ∧
  (∀ (s : State) (n c : Nat) (f : Freeze), c < 256 → 3 ≤ s.dev.boot → (s.dev.chan c).freeze = some f → (s.dev.chan c).trig = none →
    let ended (cause : Nat) : Dev := (((s.dev.tick n).modChan c (fun x => { x with freeze := none, rel := false })).record 0x0506
      (freezeBody c cause (s.dev.chan c).m)).raise Reg.FLT_INT_STATUS 4
    (f.host = false → s.dev.fld (Reg.FLT_CH_FREEZE_CFG c) 31 16 ≤ f.tail → Ends (exec (.freezeTailEnd n c) s) { s with dev := ended 3 }) ∧
    (f.host = true ∨ f.tail < s.dev.fld (Reg.FLT_CH_FREEZE_CFG c) 31 16 → Ends (exec (.freezeTailEnd n c) s) { s with dev := s.dev.tick n }) ∧
    (s.dev.rdN Reg.FLT_FREEZE_MAX ≤ f.dur → Ends (exec (.freezeMaxEnd n c) s) { s with dev := ended 4 }) ∧
    (f.dur < s.dev.rdN Reg.FLT_FREEZE_MAX → Ends (exec (.freezeMaxEnd n c) s) { s with dev := s.dev.tick n }))

/-- O21. The tracker's time limits, and phase resets by pin and by command.
TRK_HOLD_LIMIT takes HOLD to RETURN once the limit has passed, and TRK_REF_RETURN selects, while tracking, a candidate of higher priority that has been valid for 64 flutters; else they change nothing. DECSYNC_PIN, with a pulse of 200 ns or more, and DECSYNC_COMMAND restart the tick counts, the base-rate counts and the resampler positions, put SETTLE on all 256 positions and count, while DECSYNC_EN is 1 and no phase reset was accepted within 1 ms; else only the ignored count changes. A shorter pulse changes nothing.
Rests on R215; R216; R218; R229; R230; R231; R232; R21. -/
def Obligations.TrackerAndPhaseReset : Prop :=
  (∀ (s : State) (n : Nat), 3 ≤ s.dev.boot →
    (s.dev.trkState = 2 → s.dev.fld Reg.FLT_TRK_HOLD_LIM 15 0 ≤ s.dev.loc.holdCnt →
      Ends (exec (.trkHoldLimit n) s) { s with dev := ((s.dev.tick n).putF Reg.FLT_TRK_STATUS 1 0 3).raise Reg.FLT_INT_STATUS 5 }) ∧
    (s.dev.trkState ≠ 2 ∨ s.dev.loc.holdCnt < s.dev.fld Reg.FLT_TRK_HOLD_LIM 15 0 → Ends (exec (.trkHoldLimit n) s) { s with dev := s.dev.tick n }) ∧
    (∀ k, s.dev.trkState = 1 → (List.range s.dev.trkSel).find? (fun j => decide (64 ≤ tget 0 s.dev.loc.validCnt j)) = some k →
      EndsWith (exec (.trkRefReturn n) s) (fun t => t.dev.trkSel = k ∧ t.dev.trkState = 1 ∧ t.dev.flag Reg.FLT_INT_STATUS 6 = true ∧ t.dev.loc = s.dev.loc)) ∧
    (s.dev.trkState ≠ 1 ∨ (List.range s.dev.trkSel).find? (fun j => decide (64 ≤ tget 0 s.dev.loc.validCnt j)) = none →
      Ends (exec (.trkRefReturn n) s) { s with dev := s.dev.tick n })) ∧
  (∀ (s : State) (n w : Nat) (i : Iface) (v : Word), 3 ≤ s.dev.boot →
    let soon := (match s.dev.loc.resetAt with | some c => decide (max s.dev.tim.clk n < c + ticksMs 1) | none => false)
    let reset (t : State) : Prop := t.dev.loc.ticks = 0 ∧ t.dev.loc.cycles = 0 ∧ t.dev.loc.pos = 0 ∧ t.dev.loc.posLp = 0 ∧
      t.dev.loc.base = [0, 0, 0, 0, 0] ∧ t.dev.loc.edge = true ∧ t.dev.loc.resetAt = some (max s.dev.tim.clk n) ∧ (∀ c < 256, tget 0 t.dev.loc.settle c = 97) ∧
      t.dev.rdN Reg.FLT_DECSYNC_CNT = (s.dev.rdN Reg.FLT_DECSYNC_CNT + 1) % 2 ^ 32 ∧ t.dev.flag Reg.FLT_INT_STATUS 0 = true
    (200 ≤ w → s.dev.flag Reg.FLT_CTL 0 = true → soon = false → EndsWith (exec (.decsyncPin n w) s) reset) ∧
    (200 ≤ w → s.dev.flag Reg.FLT_CTL 0 = false ∨ soon = true →
      Ends (exec (.decsyncPin n w) s) { s with dev := (s.dev.tick n).inc Reg.FLT_DECSYNC_IGN_CNT 1 }) ∧
    (w < 200 → Ends (exec (.decsyncPin n w) s) { s with dev := s.dev.tick n }) ∧
    (s.canWrite i Reg.FLT_CTL → s.dev.txn.st ≠ .opened → bit v 0 = s.dev.flag Reg.FLT_CTL 0 → s.dev.flag Reg.FLT_CTL 0 = true → soon = false →
      EndsWith (exec (.decsyncCommand n i v) s) reset) ∧
    (s.canWrite i Reg.FLT_CTL → s.dev.txn.st ≠ .opened → bit v 0 = s.dev.flag Reg.FLT_CTL 0 → s.dev.flag Reg.FLT_CTL 0 = false ∨ soon = true →
      Ends (exec (.decsyncCommand n i v) s) { s with dev := (s.dev.tick n).inc Reg.FLT_DECSYNC_IGN_CNT 1 }))

/-- O22. Base-rate samples, sample ticks and the boundaries of the local path.
From pupa on a BASE_RATE_SAMPLE counts for its quadrant and for the SETTLE of its positions; the 400 bits of an enabled channel join its history, whose decimator word, delayed by PHASE_DLY, is corrected. A SAMPLE_TICK advances the tick count, both resampler positions and the timestamps, but not before the first base-rate sample after a phase reset. At the 16th, 128th or 384th tick of the grid, once each, a flutter boundary performs its actions in their order, a tracked-cycle boundary counts the cycle, and at a check-frame boundary every running check becomes due and a calibration that waits begins; at any other tick they change nothing (notes/assumptions/174.md). The decimator word is the model's (notes/assumptions/172.md).
Rests on R43; R137; R138; R150; R153; R174; R193; R219; R230; R232. -/
def Obligations.LocalBoundaries : Prop :=
  (∀ (s : State) (n q : Nat) (l l' l'' : List (Nat × Nat)) (refs : List Int), 2 ≤ s.dev.boot → q < 5 → (∀ b ∈ l ++ l' ++ l'', b.1 < 192 ∧ b.2 < 2 ^ 400) →
    EndsWith (exec (.baseRateSample n q l l' l'' refs) s) (fun t =>
      t.dev.loc.settle = s.dev.loc.settle.map (fun p => if min (p.1 / 48) 4 = q then (p.1, max 1 (p.2 - 1)) else p) ∧
      t.dev.loc.base = lmod s.dev.loc.base q (· + 1) ∧ t.dev.loc.edge = false ∧
      (∀ c b, l ++ l' ++ l'' = [(c, b)] → c / 48 = q → q < 4 → refs = [] → s.dev.flag (Reg.CNV_CH_CFG c) 0 = true → s.dev.testMode c ≠ 4 →
        (t.dev.chan c).bits = pushBits (s.dev.chan c).bits b ∧
        (t.dev.chan c).raw = decWord (pushBits (s.dev.chan c).bits b) (s.dev.fld (Reg.FLT_CH_PHASE_DLY c) 9 0) ∧
        (t.dev.chan c).word = s.dev.correct c (t.dev.chan c).raw))) ∧
  (∀ (s : State) (n : Nat), 3 ≤ s.dev.boot →
    (s.dev.loc.edge = false → EndsWith (exec (.sampleTick n) s) (fun t => t.dev.loc.ticks = s.dev.loc.ticks + 1 ∧
      t.dev.loc.pos = (if s.dev.loc.ticks = 0 then 0 else s.dev.loc.pos + s.dev.posStep 200) ∧
      t.dev.loc.posLp = (if s.dev.loc.ticks = 0 then 0 else s.dev.loc.posLp + s.dev.posStep 100) ∧
      t.dev.loc.stamps = ((s.dev.tick n).tim.out :: s.dev.loc.stamps).take 4608)) ∧
    (s.dev.loc.edge = true → Ends (exec (.sampleTick n) s) { s with dev := s.dev.tick n }) ∧
    (s.dev.loc.ticks % 128 = 0 → s.dev.loc.ticks ≠ s.dev.loc.cycAt →
      EndsWith (exec (.trackedCycleBoundary n) s) (fun t => t.dev.loc.cycles = s.dev.loc.cycles + 1 ∧ t.dev.loc.ticks = s.dev.loc.ticks ∧
        t.dev.loc.cycAt = s.dev.loc.ticks)) ∧
    (s.dev.loc.ticks % 128 ≠ 0 ∨ s.dev.loc.ticks = s.dev.loc.cycAt → Ends (exec (.trackedCycleBoundary n) s) { s with dev := s.dev.tick n }) ∧
    (s.dev.loc.ticks % 384 = 0 → s.dev.loc.ticks ≠ s.dev.loc.frameAt → EndsWith (exec (.checkFrameBoundary n) s) (fun t =>
      (∀ k < 16, ∀ c, (s.dev.ck k).run = some c → s.dev.rd (Reg.CNV_CH_STATUS c.ch) &&& 0x1F0 = 0 → (t.dev.ck k).due = some c) ∧
      (∀ k < 16, (s.dev.ck k).run = none → (t.dev.ck k).due = none) ∧
      (∀ q < 4, (s.dev.quad q).waiting = true → (t.dev.quad q).waiting = false ∧ (t.dev.quad q).calAt = max s.dev.tim.clk n) ∧
      t.dev.loc.frameAt = s.dev.loc.ticks)) ∧
    (s.dev.loc.ticks % 384 ≠ 0 ∨ s.dev.loc.ticks = s.dev.loc.frameAt → Ends (exec (.checkFrameBoundary n) s) { s with dev := s.dev.tick n })) ∧
  (∀ (s : State) (n : Nat) (cks : List (Nat × (Int × Int))) (sense : Nat) (mis : Option (Nat × Nat)), 3 ≤ s.dev.boot →
    let a := ({ s.dev.tick n with loc := { s.dev.loc with flutAt := s.dev.loc.ticks } } : Dev).lpFlutter.acqTailApply.aoUnlatchApply.trkFlutter
    let b := (foldUp 256 (fun c (d : Dev) => d.deliver c) (foldUp 256 (fun c (d : Dev) => d.phsFlutter c) a)).detFlutter.forceDet.aoAll
    let e := ((b.ckFlutter cks).gooseAll.partnerCompare.aoReadback sense).flutterDigest mis
    let z := ((e.aoShow sense).releaseCrit 1 (e.roost.closed.getD 0)).dispatchAll
    (s.dev.loc.ticks % 16 = 0 → s.dev.loc.ticks ≠ s.dev.loc.flutAt →
      Ends (exec (.flutterBoundary n cks sense mis) s) { s with dev := if z.loc.ticks % 128 = 0 then z else z.busFlush }) ∧
    (s.dev.loc.ticks % 16 ≠ 0 ∨ s.dev.loc.ticks = s.dev.loc.flutAt → Ends (exec (.flutterBoundary n cks sense mis) s) { s with dev := s.dev.tick n }))

/-- O23. Calibration requests and ends, low-power requests, the end of SETTLE.
CAL_START holds QMASK and QRESULT_SEL; each quadrant it selects is answered BUSY while a calibration of it is accepted or runs, TOO_SOON within 2 s of its last calibration, and else in RUN or DEGRADED it is accepted and waits; a quadrant it does not select is unchanged. CALIBRATION_DONE of a quadrant that calibrates in RUN or DEGRADED ends it with its outcome, its time and its age; that of all four at power-up leads to SYNC, which stays while nothing has locked. LP_REQUEST sets the four request bits. SETTLE_END clears SETTLE on local channels whose count has run out, and on no other. That BUSY covers one that waits is the model's choice (notes/assumptions/173.md).
Rests on R39; R170; R173; R174; R176; R180; R186; R232. -/
def Obligations.CalibrationAndLowPower : Prop :=
  (∀ (s : State) (n : Nat) (i : Iface) (v : Word), s.canWrite i Reg.CNV_CAL_CTL → EndsWith (exec (.calStart n i v) s) (fun t =>
    t.dev.fld Reg.CNV_CAL_CTL 7 4 = bits v 7 4 ∧ t.dev.fld Reg.CNV_CAL_CTL 13 12 = bits v 13 12 ∧ t.ctl = s.ctl ∧
    (∀ q < 4,
      let u := s.dev.quad q
      let soon := (match u.calEnd with | some e => decide (max s.dev.tim.clk n < e + ticksSec 2) | none => false)
      (bit v (4 + q) = false → t.dev.quad q = u) ∧
      (bit v (4 + q) = true → u.busy = true → t.dev.quad q = { u with outcome := 2 }) ∧
      (bit v (4 + q) = true → u.busy = false → soon = true → t.dev.quad q = { u with outcome := 3 }) ∧
      (bit v (4 + q) = true → u.busy = false → soon = false → s.dev.running = true → q < s.dev.loc.quads.length →
        t.dev.quad q = { u with outcome := 5, busy := true, waiting := true }) ∧
      (u.busy = false → soon = false → s.dev.running = false → t.dev.quad q = u)))) ∧
  (∀ (s : State) (n q : Nat) (facts : List CalFact), q < 4 → s.dev.running = true → s.dev.calibrating q = true → (∀ f ∈ facts, f.ch < 192) →
    EndsWith (exec (.calibrationDone n [q] facts) s) (fun t =>
      (t.dev.quad q).busy = false ∧ (t.dev.quad q).calEnd = some (max s.dev.tim.clk n) ∧
      (t.dev.quad q).outcome = (if (quadChs q).any (fun c => t.dev.chHas c 12) then 4 else 1) ∧
      t.dev.rdN Reg.CNV_CAL_TIME = min ((max s.dev.tim.clk n - (s.dev.quad q).calAt) / 400) 0xFFFFFFFF ∧ t.dev.flag Reg.CNV_INT_STATUS 0 = true)) ∧
  (∀ (s : State) (n : Nat) (facts : List CalFact), s.dev.boot = 3 → (∀ q < 4, s.dev.calibrating q = true) → (∀ f ∈ facts, f.ch < 192) →
    s.dev.tim.lockedOnce = false → EndsWith (exec (.calibrationDone n [0, 1, 2, 3] facts) s) (fun t =>
      t.dev.boot = 4 ∧ t.dev.flag Reg.CNV_STATUS 12 = true ∧ t.dev.loc.ticks = 0 ∧ (∀ q < 4, (t.dev.quad q).busy = false) ∧
      (∀ c < 192, t.dev.chHas c 1 = false ∧ t.dev.chHas c 2 = false))) ∧
  (∀ (s : State) (n : Nat) (i : Iface) (v : Word), s.canWrite i Reg.CNV_LP_CTL →
    Ends (exec (.lpRequest n i v) s) { s with dev := (s.dev.tick n).wr Reg.CNV_LP_CTL ((s.dev.rd Reg.CNV_LP_CTL &&& ~~~(0xF : Word)) ||| (v &&& 0xF)) }) ∧
  (∀ (s : State) (n : Nat), 2 ≤ s.dev.boot → EndsWith (exec (.settleEnd n) s) (fun t =>
    (∀ c < 192, (c, 1) ∈ s.dev.loc.settle → s.dev.testSettles c = false → t.dev.chHas c 8 = false ∧ tget 0 t.dev.loc.settle c = 0) ∧
    (∀ c < 192, (∀ p ∈ s.dev.loc.settle, p.1 = c → p.2 ≠ 1) → t.dev.chHas c 8 = s.dev.chHas c 8 ∧ tget 0 t.dev.loc.settle c = tget 0 s.dev.loc.settle c)))

/-- O24. AO pins: the end of a hold, unlatching; and the view of a phasor.
AO_MIN_HOLD_END ends a hold that is over and evaluates the pin anew; before that, or without a hold, nothing changes. AO_UNLATCH waits for its flutter boundary with the pins it names that have no active source; where every one has, nothing changes. PHS_CH_STATUS_READ returns the status of the latest delivered phasor and captures its magnitude, angle, frequency, time and time quality for the interface that reads.
Rests on R280; R281; R283; R284; R866. -/
def Obligations.AlarmOutputsAndPhasorView : Prop :=
  (∀ (s : State) (n a : Nat), a < 16 → 3 ≤ s.dev.boot →
    (∀ x, (s.dev.ao a).holdTo = some x →
      (x ≤ max s.dev.tim.clk n → Ends (exec (.aoMinHoldEnd n a) s) { s with dev := ((s.dev.tick n).modAo a (fun p => { p with holdTo := none })).aoStep a }) ∧
      (max s.dev.tim.clk n < x → Ends (exec (.aoMinHoldEnd n a) s) { s with dev := s.dev.tick n })) ∧
    ((s.dev.ao a).holdTo = none → Ends (exec (.aoMinHoldEnd n a) s) { s with dev := s.dev.tick n })) ∧
  (∀ (s : State) (n : Nat) (i : Iface) (v : Word), s.canWrite i Reg.PHS_AO_UNLATCH →
    let m := sumN ((List.range 16).map (fun a => if bit v a && !(s.dev.tick n).aoSource a then 2 ^ a else 0))
    (m = 0 → Ends (exec (.aoUnlatch n i v) s) { s with dev := s.dev.tick n }) ∧
    (m ≠ 0 → Ends (exec (.aoUnlatch n i v) s)
      { s with dev := { s.dev.tick n with loc := { s.dev.loc with unlatch := s.dev.loc.unlatch ++ [(m, max s.dev.tim.clk n)] } } })) ∧
  (∀ (s : State) (n c : Nat) (i : Iface), c < 256 → s.canRead (Reg.PHS_CH_STATUS c) → EndsWith (exec (.phsChStatusRead n i c) s) (fun t =>
    (if i = .spi then t.dev.host.rdataS else t.dev.host.rdataP) = s.dev.phsStatus c ∧ t.dev.loc = s.dev.loc ∧ t.dev.regs = s.dev.regs ∧
    (∀ r, (s.dev.chan c).rpt = some r → t.dev.latched i (Reg.PHS_CH_MAG c) = w32 r.mag ∧ t.dev.latched i (Reg.PHS_CH_ANG c) = w32 r.ang ∧
      t.dev.latched i (Reg.PHS_CH_MAG c + 8) = w32i r.f ∧ t.dev.latched i (Reg.PHS_CH_MAG c + 16) = w32 (r.time / 1000000000) ∧
      t.dev.latched i (Reg.PHS_CH_MAG c + 20) = w32 (r.time % 1000000000) ∧ t.dev.latched i (Reg.PHS_CH_MAG c + 24) = w32 r.tq)))

/-- O25. The event bus, pattern units and the acquisition stream.
DI_CHANGE puts the level of each input of its mask, inverted where INVERT is set, on its bus signal, and where no change was held changes no other signal. HOLDOFF_END ends a holdoff that is over and keeps its count for the next mark. DI_MISMATCH counts on the standby wing. ACQ_ENTRY_COPY writes the next chosen entry, numbers it and moves HEAD on where there is room, and changes no SEQ where nothing is unsent. CAPTURE_RESUME ends a pause once the unsent bytes have fallen and raises RESUME, and changes nothing before or without a pause; the first entry produced after a pause that lost any brings a gap record whose FROM is the time of the first loss and whose TO is its own. WAVE_BLOCK hands a full block to both wings' engines. A write of ACQ_RING_TAIL waits for its flutter boundary.
Rests on R595; R596; R597; R603; R604; R607; R610; R611; R612; R614; R615; R616. -/
def Obligations.Acquisition : Prop :=
  (∀ (s : State) (n m l : Nat), 1 ≤ s.dev.boot → m < 2 ^ 64 →
    EndsWith (exec (.diChange n m l) s) (fun t => (∀ k, m.testBit k = true → t.dev.acq.bus.testBit k = (l.testBit k != s.dev.flag (Reg.ACQ_DI_CFG k) 16)) ∧
      (s.dev.acq.todo = [] → ∀ k, m.testBit k = false → t.dev.acq.bus.testBit k = s.dev.acq.bus.testBit k))) ∧
  (∀ (s : State) (n k : Nat), 1 ≤ s.dev.boot → k < 64 →
    Ends (exec (.diMismatch n k) s) { s with dev := ((s.dev.tick n).inc (wingAddr (1 - s.dev.active) Reg.ACQ_DI_MISMATCH_CNT) 1).raise Reg.ACQ_INT_STATUS 4 }) ∧
  (∀ (s : State) (n u : Nat), (s.dev.pat u).markAt = none → Ends (exec (.holdoffEnd n u) s) { s with dev := s.dev.tick n }) ∧
  (∀ (s : State) (n u c : Nat), 1 ≤ s.dev.boot → u < 16 → (s.dev.pat u).markAt = some c →
    let due := c + ticksUs (s.dev.rdN (Reg.ACQ_PU_HOLDOFF u))
    (due ≤ max s.dev.tim.clk n → Ends (exec (.holdoffEnd n u) s)
      { s with dev := (s.dev.tick n).modPat u (fun p => { p with markAt := none, prevSupp := p.supp, supp := 0 }) }) ∧
    (max s.dev.tim.clk n < due → Ends (exec (.holdoffEnd n u) s) { s with dev := s.dev.tick n })) ∧
  (∀ (s : State) (n : Nat),
    ((acqSkip (s.dev.tick n) s.dev.acq.ring).find? (fun e => !e.finished) = none →
      EndsWith (exec (.acqEntryCopy n) s) (fun t => t.dev.acq.seq = s.dev.acq.seq ∧ t.dev.regs = s.dev.regs)) ∧
    (∀ e, (acqSkip (s.dev.tick n) s.dev.acq.ring).find? (fun e => !e.finished) = some e → (s.dev.tick n).acqChosen e = true → e.job = none → s.dev.dma = true →
      0 < s.dev.rdN Reg.ACQ_RING_SIZE → e.bytes.length ≤ ringRoom (s.dev.rdN Reg.ACQ_RING_SIZE) (s.dev.rdN Reg.ACQ_RING_HEAD) s.dev.acq.tail →
      s.dev.gateOpen s.dev.active 2162 s.dev.acq.seq = true →
      EndsWith (exec (.acqEntryCopy n) s) (fun t => t.dev.acq.seq = s.dev.acq.seq + 1 ∧ tget 0 t.dev.units.outSeq 2162 = s.dev.acq.seq + 1 ∧
        t.dev.rdN Reg.ACQ_RING_HEAD = (s.dev.rdN Reg.ACQ_RING_HEAD + e.bytes.length) % s.dev.rdN Reg.ACQ_RING_SIZE))) ∧
  (∀ (s : State) (n : Nat), s.dev.acq.paused = true → s.dev.acqUnsent ≤ s.dev.rdN Reg.ACQ_RESUME_MB * 1048576 →
    Ends (exec (.captureResume n) s) { s with dev := { s.dev.tick n with acq := { s.dev.acq with paused := false } }.raise Reg.ACQ_INT_STATUS 3 }) ∧
  (∀ (d : Dev) (k : Nat) (e : AcqEntry) (c m w f : Nat), d.acqOn = true → d.acq.paused = false → d.acq.lost = (c, m, w, f) → 0 < c + m + w →
    d.acqUnsent + 32 + e.bytes.length ≤ lookback - 16 * 1048576 →
    (d.acqAdd k e).2 = true ∧ (d.acqAdd k e).1.acq.lost = (0, 0, 0, 0) ∧ (d.acqAdd k e).1.acq.gapClk = some e.clk ∧
    ∃ g ∈ (d.acqAdd k e).1.acq.ring, g.always = true ∧ g.time = e.time ∧ byteAt g.bytes 0 = 4 ∧ leAt g.bytes 8 8 = f % 2 ^ 64 ∧ leAt g.bytes 16 8 = e.time % 2 ^ 64) ∧
  (∀ (s : State) (n : Nat), s.dev.acq.paused = false ∨ s.dev.rdN Reg.ACQ_RESUME_MB * 1048576 < s.dev.acqUnsent →
    Ends (exec (.captureResume n) s) { s with dev := s.dev.tick n }) ∧
  (∀ (s : State) (n g : Nat), g < 8 →
    let w := tget WaveGrp.start s.dev.acq.groups g
    let k := 256 * s.dev.fld (Reg.ACQ_WG_CFG g) 15 12
    (k = 0 ∨ w.got.length < k → Ends (exec (.waveBlock n g) s) { s with dev := s.dev.tick n }) ∧
    (0 < k → k ≤ w.got.length → s.dev.acqOn = true → s.dev.acq.paused = false →
      s.dev.acqUnsent + 64 + 4 * (s.dev.fld (Reg.ACQ_WG_CFG g) 11 8) * k ≤ lookback - 16 * 1048576 →
      EndsWith (exec (.waveBlock n g) s) (fun t => t.dev.cmp.nextJob = s.dev.cmp.nextJob + 1 ∧ (tget WaveGrp.start t.dev.acq.groups g).blocks = w.blocks + 1 ∧
        (tget WaveGrp.start t.dev.acq.groups g).got.length = w.got.length - k ∧
        t.dev.cmp.w0.waitAcq.length = s.dev.cmp.w0.waitAcq.length + 1 ∧ t.dev.cmp.w1.waitAcq.length = s.dev.cmp.w1.waitAcq.length + 1))) ∧
  (∀ (s : State) (n : Nat) (i : Iface) (v : Word), s.canWrite i Reg.ACQ_RING_TAIL → Ends (exec (.acqRingTailWrite n i v) s)
    { s with dev := { (s.dev.tick n).wr Reg.ACQ_RING_TAIL v with acq := { s.dev.acq with tailReqs := s.dev.acq.tailReqs ++ [(v.toNat, max s.dev.tim.clk n)] } } })

/-- O26. Compression jobs: taking, ending, completing.
CMP_JOB_TAKE gives the next descriptor the next SQ_INDEX and moves SQ_TAIL on, where the host path runs and the completion ring has room, and changes nothing otherwise. CMP_JOB_DONE of an idle engine changes nothing; the end of a host job counts the job and holds its entry, and that of a device job that does not fail its verification counts the job and holds none. CMP_COMPLETION_WRITE writes the entry of the next SQ_INDEX where it is held and moves CQ_HEAD on, and changes nothing where it is not.
Rests on R639; R643; R648; R650; R651; R652; R656; R657. -/
def Obligations.CompressionJobs : Prop :=
  (∀ (s : State) (n : Nat),
    let tail := s.dev.fld Reg.CMP_SQ_TAIL 11 0
    let room := ringRoom (s.dev.fld Reg.CMP_CQ_SIZE 12 0) (s.dev.fld Reg.CMP_CQ_HEAD 11 0) (s.dev.fld Reg.CMP_CQ_TAIL 11 0)
    (s.dev.cmpHostRuns = true → s.dev.dma = true → s.dev.fld Reg.CMP_SQ_HEAD 11 0 ≠ tail → s.dev.cmp.sqIndex - s.dev.cmp.nextOut < room →
      EndsWith (exec (.cmpJobTake n) s) (fun t => t.dev.cmp.sqIndex = s.dev.cmp.sqIndex + 1 ∧ t.dev.cmp.nextOut = s.dev.cmp.nextOut ∧
        t.dev.rdN Reg.CMP_SQ_TAIL = (tail + 1) % s.dev.fld Reg.CMP_SQ_SIZE 12 0)) ∧
    (s.dev.cmpHostRuns = false ∨ s.dev.dma = false ∨ s.dev.fld Reg.CMP_SQ_HEAD 11 0 = tail ∨ room ≤ s.dev.cmp.sqIndex - s.dev.cmp.nextOut →
      Ends (exec (.cmpJobTake n) s) { s with dev := s.dev.tick n })) ∧
  (∀ (s : State) (n w e : Nat) (v d : Bool), w < 2 → e < 2 →
    (((s.dev.cmpW w).eng e).job = none → Ends (exec (.cmpJobDone n w e v d) s) { s with dev := s.dev.tick n }) ∧
    (∀ j at', ((s.dev.cmpW w).eng e).job = some (j, at') → j.src = 2 →
      let r := jobResult j v d
      EndsWith (exec (.cmpJobDone n w e v d) s) (fun t =>
        t.dev.cmp.entries = s.dev.cmp.entries ++ [(j.no, (r.2.2.1, r.2.2.2, r.1, e + 2 * w))] ∧ t.dev.cmp.nextOut = s.dev.cmp.nextOut ∧
        t.dev.rdN (wingAddr w (Reg.CMP_E_JOBS e)) = (s.dev.rdN (wingAddr w (Reg.CMP_E_JOBS e)) + 1) % 2 ^ 32)) ∧
    (∀ j at', ((s.dev.cmpW w).eng e).job = some (j, at') → j.src ≠ 2 → (jobResult j v d).1 ≠ 3 →
      EndsWith (exec (.cmpJobDone n w e v d) s) (fun t => t.dev.cmp.entries = s.dev.cmp.entries ∧ t.dev.cmp.nextOut = s.dev.cmp.nextOut ∧
        t.dev.rdN (wingAddr w (Reg.CMP_E_JOBS e)) = (s.dev.rdN (wingAddr w (Reg.CMP_E_JOBS e)) + 1) % 2 ^ 32))) ∧
  (∀ (s : State) (n : Nat),
    (s.dev.cmp.entries.find? (fun x => x.1 == s.dev.cmp.nextOut) = none → Ends (exec (.cmpCompletionWrite n) s) { s with dev := s.dev.tick n }) ∧
    (∀ x, s.dev.cmp.entries.find? (fun x => x.1 == s.dev.cmp.nextOut) = some x → ringSizeOk (s.dev.fld Reg.CMP_CQ_SIZE 12 0) = true → s.dev.dma = true →
      0 < ringRoom (s.dev.fld Reg.CMP_CQ_SIZE 12 0) (s.dev.fld Reg.CMP_CQ_HEAD 11 0) (s.dev.fld Reg.CMP_CQ_TAIL 11 0) →
      s.dev.gateOpen s.dev.active 2164 s.dev.cmp.nextOut = true →
      EndsWith (exec (.cmpCompletionWrite n) s) (fun t => t.dev.cmp.nextOut = s.dev.cmp.nextOut + 1 ∧ tget 0 t.dev.units.outSeq 2164 = s.dev.cmp.nextOut + 1 ∧
        t.dev.rdN Reg.CMP_CQ_HEAD = (s.dev.fld Reg.CMP_CQ_HEAD 11 0 + 1) % s.dev.fld Reg.CMP_CQ_SIZE 12 0 ∧
        (∀ y ∈ t.dev.cmp.entries, y.1 ≠ s.dev.cmp.nextOut))))

/-- O27. The states of a time domain, and what completes, loses or ends its source.
A time value for a domain: FREE steps to it and enters ACQUIRE with the count 0; HOLDOVER and LOST enter ACQUIRE; in ACQUIRE an offset beyond 1 ms steps, one within LOCK_THR counts and the 16th enters LOCKED with the interrupt, one between clears the count; the 4th offset in a row beyond 4 × LOCK_THR leaves LOCKED for ACQUIRE. What it does to the counter waits for its tick (notes/assumptions/167.md). SOURCE_LOST takes ACQUIRE to FREE and LOCKED to HOLDOVER, with the increment set to the mean of the last 16 updates, and HOLDOVER_LIMIT takes HOLDOVER to LOST after HOLD_LIM seconds. The other domain and the output time are left alone. TWIN_TIME_EXCHANGE sends a request where a domain follows the twin and the lane is up, answers a request, and after the first lock gives such a domain the time of a response to its own request (stamps: notes/assumptions/171.md).
Rests on R84; R98; R104; R731; R744. -/
def Obligations.DomainStates : Prop :=
  (∀ (d : Dev) (k v ago : Nat), k < 2 →
    let m := d.dom k
    let now : Nat := v + ago * m.incr
    let ofs : Nat := ((now : Int) - d.domAhead k).natAbs
    let r := d.domUpdate k v ago
    let m' := r.dom k
    (m.st = .free → m'.st = .acquire ∧ r.domAhead k = now ∧ m'.lockCnt = 0) ∧
    (m.st = .holdover ∨ m.st = .lost → m'.st = .acquire ∧ r.domAhead k = d.domAhead k) ∧
    (m.st = .acquire → 1000000 * unitNs < ofs → m'.st = .acquire ∧ r.domAhead k = now ∧ m'.lockCnt = 0) ∧
    (m.st = .acquire → ofs ≤ 1000000 * unitNs → ofs ≤ d.lockThr k → m.lockCnt < 15 → m'.st = .acquire ∧ r.domAhead k = d.domAhead k ∧ m'.lockCnt = m.lockCnt + 1) ∧
    (m.st = .acquire → ofs ≤ 1000000 * unitNs → ofs ≤ d.lockThr k → 15 ≤ m.lockCnt → m'.st = .locked ∧ r.domAhead k = d.domAhead k ∧ r.flag Reg.TIM_INT_STATUS 0 = true) ∧
    (m.st = .acquire → ofs ≤ 1000000 * unitNs → d.lockThr k < ofs → m'.st = .acquire ∧ r.domAhead k = d.domAhead k ∧ m'.lockCnt = 0) ∧
    (m.st = .locked → 4 * d.lockThr k < ofs → 3 ≤ m.badCnt → m'.st = .acquire ∧ r.domAhead k = d.domAhead k) ∧
    (m.st = .locked → 4 * d.lockThr k < ofs → m.badCnt < 3 → m'.st = .locked ∧ m'.badCnt = m.badCnt + 1) ∧
    (m.st = .locked → ofs ≤ 4 * d.lockThr k → m'.st = .locked ∧ m'.badCnt = 0) ∧
    r.dom (1 - k) = d.dom (1 - k) ∧ r.tim.out = d.tim.out ∧ r.tim.sel = d.tim.sel ∧ r.loc = d.loc) ∧
  (∀ (s : State) (n k : Nat), k < 2 →
    let e := s.dev.tick n
    let m := e.dom k
    EndsWith (exec (.sourceLost n k) s) (fun t =>
      (m.st = .acquire → (t.dev.dom k).st = .free ∧ t.dev.tim.srv = e.tim.srv) ∧
      (m.st = .locked → (t.dev.dom k).st = .holdover ∧ t.dev.flag Reg.TIM_INT_STATUS 4 = true ∧
        (m.incrs ≠ [] → t.dev.incrAhead k = rdivN (m.incrs.foldl (· + ·) 0) m.incrs.length)) ∧
      (m.st ≠ .acquire → m.st ≠ .locked → t.dev.dom k = m ∧ t.dev.regs = s.dev.regs ∧ t.dev.tim.srv = e.tim.srv) ∧
      t.dev.domAhead k = e.domAhead k ∧ t.dev.dom (1 - k) = e.dom (1 - k) ∧ t.dev.tim.out = e.tim.out ∧ t.dev.loc = s.dev.loc ∧ t.ctl = s.ctl) ∧
    EndsWith (exec (.holdoverLimit n k) s) (fun t =>
      (m.st = .holdover → ticksSec (s.dev.rdN (Reg.TIM_DOM_HOLD_LIM k)) ≤ e.tim.clk - m.since →
        (t.dev.dom k).st = .lost ∧ (t.dev.dom k).incr = m.incr ∧ t.dev.flag Reg.TIM_INT_STATUS 5 = true) ∧
      (m.st ≠ .holdover ∨ e.tim.clk - m.since < ticksSec (s.dev.rdN (Reg.TIM_DOM_HOLD_LIM k)) → t.dev.tim = e.tim ∧ t.dev.regs = s.dev.regs) ∧
      (t.dev.dom k).val = m.val ∧ t.dev.dom (1 - k) = e.dom (1 - k) ∧ t.dev.tim.out = e.tim.out ∧ t.dev.loc = s.dev.loc ∧ t.ctl = s.ctl)) ∧
  (∀ (s : State) (n : Nat) (x : TimeExchange), x.lane < 2 → s.dev.tim.lockedOnce = true → ¬ (s.dev.units.paired = true ∧ s.dev.activeTwin = true) →
    let e := s.dev.tick n
    let follows := s.dev.domSrc 0 = 4 ∨ s.dev.domSrc 1 = 4
    (x.rx = none → follows → (s.dev.lane x.lane).up = true → Ends (exec (.twinTimeExchange n x) s)
      { s with dev := (({ e with tim := { e.tim with twinReq := some e.ns } } : Dev).ozSend x.lane 2 (timeBody 0 e.ns 0 0)).2 }) ∧
    (x.rx = none → ¬ follows ∨ (s.dev.lane x.lane).up = false → Ends (exec (.twinTimeExchange n x) s) { s with dev := e }) ∧
    (∀ b f q p, x.rx = some b → (e.ozReceive x.lane b).1 = some (2, f, q, p) →
      let r := (e.ozReceive x.lane b).2
      (byteAt p 0 = 0 → Ends (exec (.twinTimeExchange n x) s) { s with dev := (r.ozSend x.lane 2 (timeBody 1 (beAt p 8 8) e.ns e.ns)).2 }) ∧
      (byteAt p 0 ≠ 0 → s.dev.tim.twinReq = some (beAt p 8 8) → Ends (exec (.twinTimeExchange n x) s)
        { s with dev := ({ r with tim := { r.tim with twinReq := none } } : Dev).twinUpdate (beAt p 8 8) (beAt p 16 8) (beAt p 24 8) e.ns x.estNs x.trace }) ∧
      (byteAt p 0 ≠ 0 → s.dev.tim.twinReq ≠ some (beAt p 8 8) → Ends (exec (.twinTimeExchange n x) s) { s with dev := r })))

/-- O28. Edges of a PPS input and the arming of its time of day.
TIM_PPS_TOD_ARM written with bit 0 arms the value. After the first lock, on an input without a loop-back, an edge of an enabled input marks the armed second, as TOD_LO and TOD_HI then hold it (notes/assumptions/168.md), when the write is at least 10 µs old and disarms, else the second after the last marked one, else none; it stores its time of arrival less the cable delay in TIM_PPS_LAST_NS, leaves the output time, and changes no domain when none uses it. A FREE domain that uses it steps to the marked second plus the delay, at its tick (notes/assumptions/167.md), and enters ACQUIRE. The edge of a disabled input changes nothing.
Rests on R84; R91; R92; R93; R104. -/
def Obligations.PpsInputs : Prop :=
  (∀ (s : State) (n k : Nat) (i : Iface) (v : Word), k < 2 → s.canWrite i (Reg.TIM_PPS_TOD_ARM k) →
    (bit v 0 = true → Ends (exec (.ppsTodArm n i k v) s)
      { s with dev := ((s.dev.tick n).wrN (Reg.TIM_PPS_TOD_ARM k) 1).modPps k (fun p => { p with armedAt := some (max s.dev.tim.clk n) }) }) ∧
    (bit v 0 = false → Ends (exec (.ppsTodArm n i k v) s) { s with dev := s.dev.tick n })) ∧
  (∀ (s : State) (n k : Nat), k < 2 → s.dev.tim.lockedOnce = true → (s.dev.loop 4 k).mode = 0 →
    let e := s.dev.tick n
    let armed := (match (s.dev.pps k).armedAt with | some a => decide (ticksUs 10 ≤ max s.dev.tim.clk n - a) | none => false)
    let tod := s.dev.rdN (Reg.TIM_PPS_TOD_LO k) + 2 ^ 32 * s.dev.fld (Reg.TIM_PPS_TOD_HI k) 15 0
    let mark := if armed then some tod else (s.dev.pps k).last.map (· + 1)
    (s.dev.flag (Reg.TIM_PPS_CFG k) 0 = false → Ends (exec (.ppsEdge n k) s) { s with dev := e }) ∧
    (s.dev.flag (Reg.TIM_PPS_CFG k) 0 = true → EndsWith (exec (.ppsEdge n k) s) (fun t =>
      (t.dev.pps k).last = mark ∧ (t.dev.pps k).edge = some (max s.dev.tim.clk n) ∧ t.dev.pps (1 - k) = s.dev.pps (1 - k) ∧
      (armed = true → (t.dev.pps k).armedAt = none ∧ t.dev.rdN (Reg.TIM_PPS_TOD_ARM k) = 0) ∧
      (armed = false → (t.dev.pps k).armedAt = (s.dev.pps k).armedAt) ∧
      t.dev.rdN (Reg.TIM_PPS_LAST_NS k) = (e.ns + 1000000000 - s.dev.fld (Reg.TIM_PPS_CFG k) 31 16 % 1000000000) % 1000000000 ∧
      t.dev.tim.out = e.tim.out ∧ t.dev.loc = s.dev.loc ∧ t.ctl = s.ctl ∧
      ((∀ j < 2, s.dev.domSrc j ≠ 2 ∨ s.dev.domPort j ≠ k) → t.dev.tim.domA = e.tim.domA ∧ t.dev.tim.domB = e.tim.domB) ∧
      (∀ j < 2, ∀ m, mark = some m → s.dev.domSrc j = 2 → s.dev.domPort j = k → (s.dev.dom j).st = .free →
        (t.dev.dom j).st = .acquire ∧ t.dev.domAhead j = (m * unitSec + s.dev.fld (Reg.TIM_PPS_CFG k) 31 16 * unitNs : Nat)))))

/-- O29. Frames of the IRIG-B input.
After the first lock: a frame with a parity error in the extended code is counted in TIM_IRIG_ERR_CNT; a domain with SRC 3 counts it as missed, which below three in a row is all. A frame that is used gives TAI from its day, time and year, local offset removed and TIM_LEAP_OFS added: a FREE domain with SRC 3 steps to that second plus cable delay and the age of the frame, at its tick, and enters ACQUIRE. One whose second does not follow that of the frame before is counted, and where no domain has SRC 3 that is all. In B002 with TIM_IRIG_YEAR 0 a frame has no effect. What a frame near a leap second gives, and that one with bad parity leaves the frame before it in its place, is the model's (notes/assumptions/34.md).
Rests on R84; R94; R95; R96; R97; R104. -/
def Obligations.IrigFrames : Prop :=
  ∀ (s : State) (n : Nat) (f : IrigFrame), s.dev.tim.lockedOnce = true →
    let e := s.dev.tick n
    let code := s.dev.fld Reg.TIM_IRIG_CFG 1 0
    (code = 1 → f.parityOk = false → (∀ k < 2, s.dev.domSrc k ≠ 3 ∨ (s.dev.dom k).missed < 2) → EndsWith (exec (.irigFrame n f) s) (fun t =>
      t.dev.rd Reg.TIM_IRIG_ERR_CNT = (s.dev.inc Reg.TIM_IRIG_ERR_CNT 1).rd Reg.TIM_IRIG_ERR_CNT ∧
      (∀ a, a ≠ Reg.TIM_IRIG_ERR_CNT → t.dev.rd a = s.dev.rd a) ∧ t.dev.tim.irig = s.dev.tim.irig ∧ t.dev.tim.out = e.tim.out ∧ t.dev.loc = s.dev.loc ∧ t.ctl = s.ctl ∧
      (∀ k < 2, t.dev.dom k = (if s.dev.domSrc k = 3 then { e.dom k with missed := (e.dom k).missed + 1 } else e.dom k)))) ∧
    (code = 0 → s.dev.fld Reg.TIM_IRIG_YEAR 15 0 = 0 → Ends (exec (.irigFrame n f) s) { s with dev := e }) ∧
    (∀ y, (code = 1 → f.parityOk = true) → (y = if code = 0 then s.dev.fld Reg.TIM_IRIG_YEAR 15 0 else 2000 + f.year) → y ≠ 0 →
      let utc : Int := (((daysTo y + f.day - 1) * 86400 + f.hour * 3600 + f.minute * 60 + f.second : Nat) : Int) - (if code = 1 then f.localOfs else 0)
      let tai := e.irigTai f y
      (s.dev.ing.leapAt = none → tai = (utc + sx 16 (s.dev.rdN Reg.TIM_LEAP_OFS)).toNat) ∧
      EndsWith (exec (.irigFrame n f) s) (fun t => t.dev.tim.irig = some tai ∧ t.dev.tim.out = e.tim.out ∧ t.dev.loc = s.dev.loc ∧ t.ctl = s.ctl ∧
        (∀ p, s.dev.tim.irig = some p → p ≠ tai - 1 → (∀ k < 2, s.dev.domSrc k ≠ 3) → t.dev.rd Reg.TIM_IRIG_ERR_CNT = (s.dev.inc Reg.TIM_IRIG_ERR_CNT 1).rd Reg.TIM_IRIG_ERR_CNT ∧
          t.dev.tim.domA = e.tim.domA ∧ t.dev.tim.domB = e.tim.domB) ∧
        ((s.dev.tim.irig = none ∨ s.dev.tim.irig = some (tai - 1)) → t.dev.rd Reg.TIM_IRIG_ERR_CNT = s.dev.rd Reg.TIM_IRIG_ERR_CNT ∧
          (∀ k < 2, s.dev.domSrc k = 3 → (s.dev.dom k).st = .free → (t.dev.dom k).st = .acquire ∧
            t.dev.domAhead k = (tai * unitSec + s.dev.fld Reg.TIM_IRIG_CFG 31 16 * unitNs + f.ago * (e.dom k).incr : Nat)))))

/-- O30. Switching between the domains and the slew that follows.
TIM_CTL with FORCE_SWITCH turns a refused switch into one that starts at the next boundary; the register in force keeps its fields. DOMAIN_REVERT raises a switch back to the preferred domain once that has been LOCKED for 60 s with REVERT set, while no switch waits or stands refused. At a boundary a switch that waits starts: the new domain is selected, a slew begins and its interrupt rises; unless it is forced, one whose offset exceeds TIM_SWITCH_MAX_OFS is refused with its interrupt and the selection stays; a return that is no longer due is dropped. SLEW_DONE ends a slew only when the residual is below 2.5 ns, with its record and interrupt. How long a refused or raised switch stands is read from the rules (notes/assumptions/37.md).
Rests on R108; R109; R110; R111; R112; R113; R126; R918. -/
def Obligations.DomainSwitching : Prop :=
  (∀ (s : State) (n : Nat) (i : Iface) (v : Word), s.canWrite i Reg.TIM_CTL → EndsWith (exec (.forceSwitch n i v) s) (fun t =>
    (∀ m why, s.dev.tim.refused = some (m, why) → t.dev.tim = { (s.dev.tick n).tim with refused := none, pending := some (m, 1) }) ∧
    (s.dev.tim.refused = none → t.dev.tim = (s.dev.tick n).tim) ∧
    t.dev.rd Reg.TIM_CTL = s.dev.rd Reg.TIM_CTL ∧ t.dev.loc = s.dev.loc ∧ t.dev.units = s.dev.units ∧ t.ctl = s.ctl)) ∧
  (∀ (s : State) (n : Nat),
    let e := s.dev.tick n
    let p := s.dev.fld Reg.TIM_CTL 0 0
    let due := s.dev.flag Reg.TIM_CTL 1 = true ∧ s.dev.tim.lockedOnce = true ∧ s.dev.tim.sel ≠ p ∧ (s.dev.dom p).st = .locked ∧
      ticksSec 60 ≤ max s.dev.tim.clk n - (s.dev.dom p).since ∧ s.dev.tim.pending = none ∧ s.dev.tim.refused = none
    (due → Ends (exec (.domainRevert n) s) { s with dev := { e with tim := { e.tim with pending := some (p, 2) } } }) ∧
    (¬ due → Ends (exec (.domainRevert n) s) { s with dev := e }) ∧
    (∀ c, e.tim.slew = some c → e.resid.natAbs < nomIncr → EndsWith (exec (.slewDone n) s) (fun t =>
      t.dev.tim = { e.tim with slew := none } ∧ t.dev.flag Reg.TIM_INT_STATUS 2 = true ∧ t.dev.loc = s.dev.loc ∧ t.ctl = s.ctl ∧
      t.dev.evr.intake = (({ e with tim := { e.tim with slew := none } } : Dev).record 0x0304 (be 1 e.tim.sel ++ zeros 7 ++ be 8 ((e.tim.clk - c) * 5 / 2))).evr.intake)) ∧
    (e.tim.slew = none ∨ nomIncr ≤ e.resid.natAbs → Ends (exec (.slewDone n) s) { s with dev := e })) ∧
  (∀ (d : Dev) (m why : Nat), d.tim.pending = some (m, why) →
    let ofs : Nat := (((d.dom m).val : Int) - (d.tim.out : Int)).natAbs
    (why = 2 → d.returnDue m = false → d.domainSwitch = { d with tim := { d.tim with pending := none } }) ∧
    ((why = 2 → d.returnDue m = true) → why ≠ 1 → d.rdN Reg.TIM_SWITCH_MAX_OFS * unitNs < ofs →
      d.domainSwitch.tim = { d.tim with pending := none, refused := some (m, why) } ∧ d.domainSwitch.flag Reg.TIM_INT_STATUS 3 = true) ∧
    ((why = 2 → d.returnDue m = true) → why = 1 ∨ ofs ≤ d.rdN Reg.TIM_SWITCH_MAX_OFS * unitNs →
      d.domainSwitch.tim = { d.tim with pending := none, refused := none, sel := m, slew := some (d.tim.slew.getD d.tim.clk) } ∧
      d.domainSwitch.flag Reg.TIM_INT_STATUS 1 = true))

/-- O31. Leap seconds, the time snapshot and the PPS output.
After the first lock LEAP_PEND_START sets LEAP_PEND from 60 s before a leap second that the selected source or the host announces. LEAP, at the instant and not before, changes TIM_LEAP_OFS by one, up for an insertion and down for a deletion, clears LEAP_PEND and the host's flag, sets LEAP_OCC for a day, and raises the interrupt; the output time does not move; one that pends no longer is dropped. LEAP_OCC_END clears LEAP_OCC when that day has passed. TIM_SNAP written with bit 0 copies output and elapsed time of that tick into TIM_OUT and TIM_ELAPSED and changes no other register; without it nothing changes. PPS_OUT is high within WIDTH ms of the top of a second, before the first lock only with the flag that allows it.
Rests on R83; R119; R120; R121; R122; R125; R131. -/
def Obligations.LeapSecondsAndTimeShown : Prop :=
  (∀ (s : State) (n : Nat),
    let e := s.dev.tick n
    (∀ del, e.leapPending = some del → s.dev.tim.lockedOnce = true →
      let at' := e.leapInstant del
      ((if del then at' else at' - 1) ≤ e.sec + 60 → Ends (exec (.leapPendStart n) s)
        { s with dev := { e with tim := { e.tim with leapAt := some (at', del), leapPend := true, leapDir := del } } }) ∧
      (e.sec + 60 < (if del then at' else at' - 1) → Ends (exec (.leapPendStart n) s) { s with dev := e })) ∧
    (e.leapPending = none ∨ s.dev.tim.lockedOnce = false → Ends (exec (.leapPendStart n) s) { s with dev := e }) ∧
    (∀ at' del, s.dev.tim.leapAt = some (at', del) →
      (e.leapPending ≠ some del → Ends (exec (.leap n) s) { s with dev := { e with tim := { e.tim with leapAt := none, leapPend := false } } }) ∧
      (e.leapPending = some del → s.dev.tim.leapPend = true → at' ≤ e.sec → EndsWith (exec (.leap n) s) (fun t =>
        t.dev.tim = { e.tim with leapAt := none, leapPend := false, leapOcc := some ((if del then at' else at' - 1) + 86400) } ∧
        t.dev.fld Reg.TIM_LEAP_OFS 15 0 = cx 16 (s.dev.leapOfs + (if del then -1 else 1)) ∧ t.dev.flag Reg.TIM_LEAP_CTL 0 = false ∧
        t.dev.flag Reg.TIM_INT_STATUS 6 = true ∧ t.dev.ing.leapAt = some (at', s.dev.leapOfs) ∧
        t.dev.loc = s.dev.loc ∧ t.ctl = s.ctl)) ∧
      (e.leapPending = some del → s.dev.tim.leapPend = false ∨ e.sec < at' → Ends (exec (.leap n) s) { s with dev := e })) ∧
    (s.dev.tim.leapAt = none → Ends (exec (.leap n) s) { s with dev := e }) ∧
    (∀ u, s.dev.tim.leapOcc = some u → u ≤ e.sec → Ends (exec (.leapOccEnd n) s) { s with dev := { e with tim := { e.tim with leapOcc := none } } }) ∧
    ((∀ u, s.dev.tim.leapOcc = some u → e.sec < u) → Ends (exec (.leapOccEnd n) s) { s with dev := e })) ∧
  (∀ (s : State) (n : Nat) (i : Iface) (v : Word), s.canWrite i Reg.TIM_SNAP →
    let e := s.dev.tick n
    (bit v 0 = true → EndsWith (exec (.timSnap n i v) s) (fun t =>
      t.dev.rdN Reg.TIM_OUT_SEC_LO = e.sec % 2 ^ 32 ∧ t.dev.rdN Reg.TIM_OUT_SEC_HI = e.sec / 2 ^ 32 % 2 ^ 16 ∧ t.dev.rdN Reg.TIM_OUT_NS = e.nsIn ∧
      t.dev.rdN Reg.TIM_OUT_FRAC = e.tim.out % unitNs ∧ t.dev.rdN Reg.TIM_ELAPSED_SEC = e.elapsed / unitSec % 2 ^ 32 ∧
      t.dev.rdN Reg.TIM_ELAPSED_NS = e.elapsed / unitNs % 1000000000 ∧ t.dev.tim = e.tim ∧
      (∀ a, a ∉ [Reg.TIM_OUT_SEC_LO, Reg.TIM_OUT_SEC_HI, Reg.TIM_OUT_NS, Reg.TIM_OUT_FRAC, Reg.TIM_ELAPSED_SEC, Reg.TIM_ELAPSED_NS] →
        t.dev.rd a = s.dev.rd a) ∧ t.dev.loc = s.dev.loc ∧ t.ctl = s.ctl)) ∧
    (bit v 0 = false → Ends (exec (.timSnap n i v) s) { s with dev := e })) ∧
  (∀ (s : State) (n : Nat),
    let e := s.dev.tick n
    let high := decide ((s.dev.tim.lockedOnce = true ∨ s.dev.flag Reg.TIM_PPS_OUT_CTL 0 = true) ∧ e.nsIn < s.dev.fld Reg.TIM_PPS_OUT_CTL 7 1 * 1000000)
    Ends (exec (.ppsOutPulse n) s) { s with dev := { e with pins := { e.pins with ppsOut := high } } })

/-- O32. PTP messages sent at their intervals.
On a port whose frame is still on the wire, whose queue 6 is empty and whose wing has not faulted, PTP_MASTER_SEND of a master after the first lock counts both sequence numbers on and puts an Announce and then a Sync behind the frames that wait; PDELAY_REQ_SEND on a port with a role puts a Pdelay_Req there with the next sequence number. Beside that only the largest depth of queue 6 can change. Without the role, or before the first lock for a master, they change nothing. The messages' bytes are those of the standard, not of the spec (notes/assumptions/23.md).
Rests on R87; R90; R306; R308; R309; R592. -/
def Obligations.PtpMessages : Prop :=
  ∀ (s : State) (n p : Nat), p < 8 → (s.dev.port p).cur ≠ none → (s.dev.port p).link = true → (s.dev.port p).lpiAt = none →
    (s.dev.port p).txq.filter (fun x => x.1 == 6) = [] → (s.dev.wing (portOwner p)).role ≠ .faulted →
    let e := s.dev.tick n
    let m := e.modPtp p (fun x => { x with seqSync := (x.seqSync + 1) % 65536, seqAnnounce := (x.seqAnnounce + 1) % 65536 })
    let r := e.modPtp p (fun x => { x with seqPdelay := (x.seqPdelay + 1) % 65536, reqAt := none })
    let ann := padTo 60 (m.ptpFrame p false false (m.announceMsg p))
    let syn := padTo 60 (m.ptpFrame p true false (m.syncMsg p))
    let req := padTo 60 (r.ptpFrame p true true (r.ptpHdr p 2 54 0 (r.ptp p).seqPdelay 5 ++ zeros 20))
    let deep (a : Nat) : Prop := a = wingAddr 0 (Reg.QUE_Q_MAX_DEPTH (8 * p + 6)) ∨ a = wingAddr 1 (Reg.QUE_Q_MAX_DEPTH (8 * p + 6))
    (s.dev.ptpRole p = 2 → s.dev.tim.lockedOnce = true → ann.length + 4 ≤ s.dev.maxFrm p → syn.length + 4 ≤ s.dev.maxFrm p →
      EndsWith (exec (.ptpMasterSend n p) s) (fun t =>
        t.dev.net = (m.modPort p (fun x => { x with txq := (s.dev.port p).txq ++ [(6, ⟨ann, 0, 0, false, none⟩), (6, ⟨syn, 1, 0, false, none⟩)] })).net ∧
        t.dev.tim = m.tim ∧ (∀ a, ¬ deep a → t.dev.rd a = s.dev.rd a) ∧ t.dev.loc = s.dev.loc ∧ t.dev.units = s.dev.units ∧ t.ctl = s.ctl)) ∧
    (s.dev.ptpRole p ≠ 2 ∨ s.dev.tim.lockedOnce = false → Ends (exec (.ptpMasterSend n p) s) { s with dev := e }) ∧
    (s.dev.ptpRole p = 1 ∨ s.dev.ptpRole p = 2 → req.length + 4 ≤ s.dev.maxFrm p →
      EndsWith (exec (.pdelayReqSend n p) s) (fun t =>
        t.dev.net = (r.modPort p (fun x => { x with txq := (s.dev.port p).txq ++ [(6, ⟨req, 2, 0, false, none⟩)] })).net ∧
        t.dev.tim = r.tim ∧ (∀ a, ¬ deep a → t.dev.rd a = s.dev.rd a) ∧ t.dev.loc = s.dev.loc ∧ t.dev.units = s.dev.units ∧ t.ctl = s.ctl)) ∧
    (s.dev.ptpRole p ≠ 1 → s.dev.ptpRole p ≠ 2 → Ends (exec (.pdelayReqSend n p) s) { s with dev := e })

/-- O33. The ordered actions of a wingbeat boundary.
Without a rate, before CALIBRATE, or before the output time has come to the next boundary, a wingbeat boundary changes nothing but the clock. Else the grid advances to its next boundary, or to the absolute boundary that ends the transitional wingbeat; then come in order the overrun check with the comparison of digests, the claim change with the outputs that wait for it, the commits of keys, forcing and transactions, and, unless the module resets for one of those, the domain switch, the slots that close, and the statistics of the closed wingbeat. A commit that resets enters SELFTEST anew, and GLB_CTL is cleared.
Rests on R47; R50; R53; R62; R722; R808. -/
def Obligations.WingbeatBoundaries : Prop :=
  ∀ (s : State) (n : Nat) (dig : Option DigestIn), (s.dev.loop 3 0).mode = 0 →
    let e := s.dev.tick n
    let next := (match s.dev.grid.trans with
      | some b => b
      | none => if s.dev.grid.k + 1 < s.dev.rate then (s.dev.grid.sec, s.dev.grid.k + 1) else (s.dev.grid.sec + 1, 0))
    let g : Dev := { e with grid := ⟨next.1, next.2, s.dev.grid.absolute || s.dev.grid.trans.isSome, none, s.dev.grid.tqs⟩ }
    let c := ((((g.boundaryCheck s.dev.wbSeq dig).moveItems s.dev.wbSeq).boundaryClaim).performReady 65536).boundaryCommit e
    let z := (c.2.domainSwitch.gridNote.boundarySlots).statsAll s.dev.wbSeq
    (s.dev.rate = 0 ∨ s.dev.boot < 3 ∨ e.tim.out < boundaryAt s.dev.rate next.1 next.2 → Ends (exec (.wingbeatBoundary n dig) s) { s with dev := e }) ∧
    (s.dev.rate ≠ 0 → 3 ≤ s.dev.boot → boundaryAt s.dev.rate next.1 next.2 ≤ e.tim.out →
      (c.1 = false → Ends (exec (.wingbeatBoundary n dig) s) { s with dev := z, ctl := if z.resetCtr = s.dev.resetCtr then s.ctl else 0 }) ∧
      (c.1 = true → EndsWith (exec (.wingbeatBoundary n dig) s) (fun t => t.dev.boot = 1 ∧ t.dev.txn.cfg = [] ∧
        t.dev.nv.powerEpoch = min (c.2.nv.powerEpoch + 1) 0xFFFFFFFF ∧ (c.2.resetCtr = s.dev.resetCtr → t.ctl = 0))))

/-- O34. Leaving the slow window, and writing exports to the host.
SLOW_WINDOW_LEAVE takes the slots whose time has passed out of the slow window: the one that leaves becomes the last that left, makes its slow export where that mode and the ring are set, and waits for K_ARCHIVE only where that kernel has a route. With no slot due it is a dispatch decision and nothing else. EXPORT_WRITE takes the oldest export through its gate and writes it to the host ring with HEAD advanced, or, where the ring has no room or the endpoint no memory access, drops it, counts and raises the interrupt; an export whose gate is closed waits, and without exports nothing changes.
Rests on R400; R402; R403; R405; R406. -/
def Obligations.SlowWindow : Prop :=
  (∀ (s : State) (n : Nat), (∀ x ∈ s.dev.roost.slow, (s.dev.tick n).slowDue x = false) →
    Ends (exec (.slowWindowLeave n) s) { s with dev := (s.dev.tick n).dispatchAll }) ∧
  (∀ (s : State) (n : Nat) (x : Slot9), s.dev.roost.slow.filter (s.dev.tick n).slowDue = [x] → EndsWith (exec (.slowWindowLeave n) s) (fun t =>
    t.dev.roost.slow = s.dev.roost.slow.filter (fun y => !(s.dev.tick n).slowDue y) ∧ t.dev.roost.left = some x.n ∧
    t.dev.roost.exports = (if s.dev.flag Reg.ALN_EXP_CFG 1 = true ∧ s.dev.rdN Reg.ALN_EXP_SIZE ≠ 0 then
      s.dev.roost.exports ++ [(true, x.n, s.dev.exportEntry x true)] else s.dev.roost.exports) ∧
    (s.dev.recOf 0x0C02 0x30 = none → t.dev.roost.leaving = s.dev.roost.leaving) ∧
    (t.dev.roost.leaving = s.dev.roost.leaving ∨ t.dev.roost.leaving = s.dev.roost.leaving ++ [x]) ∧ t.dev.roost.ring = s.dev.roost.ring ∧
    t.dev.loc = s.dev.loc ∧ t.ctl = s.ctl)) ∧
  (∀ (s : State) (n : Nat), s.dev.roost.exports = [] → Ends (exec (.exportWrite n) s) { s with dev := s.dev.tick n }) ∧
  (∀ (s : State) (n m : Nat) (slow : Bool) (b : Bytes) (rest : List (Bool × Nat × Bytes)), s.dev.roost.exports = (slow, m, b) :: rest →
    let e := s.dev.tick n
    let o := if slow then 2161 else 2160
    let size := s.dev.rdN Reg.ALN_EXP_SIZE
    let head := s.dev.rdN Reg.ALN_EXP_HEAD
    let room := ringRoom size head (s.dev.rdN Reg.ALN_EXP_TAIL)
    (s.dev.gateOpen s.dev.active o m = false → Ends (exec (.exportWrite n) s) { s with dev := e }) ∧
    (s.dev.gateOpen s.dev.active o m = true → EndsWith (exec (.exportWrite n) s) (fun t =>
      t.dev.roost = { s.dev.roost with exports := rest } ∧ tget 0 t.dev.units.outSeq o = m + 1 ∧ t.dev.loc = s.dev.loc ∧ t.ctl = s.ctl ∧
      (size ≠ 0 → b.length ≤ room → s.dev.dma = true → t.dev.rdN Reg.ALN_EXP_HEAD = (head + b.length) % size ∧
        (∀ a, a ≠ Reg.ALN_EXP_HEAD → t.dev.rd a = s.dev.rd a)) ∧
      (size ≠ 0 → room < b.length ∨ s.dev.dma = false → t.dev.rd Reg.ALN_EXP_HEAD = s.dev.rd Reg.ALN_EXP_HEAD ∧ t.dev.flag Reg.ALN_INT_STATUS 2 = true ∧
        t.dev.rd Reg.ALN_EXP_DROP_CNT = (s.dev.inc Reg.ALN_EXP_DROP_CNT 1).rd Reg.ALN_EXP_DROP_CNT))))

/-- O35. What a port does with a received frame.
On a port without loop-back: with the link down a frame has no effect; shorter than 64 bytes with its FCS it counts as a runt, longer than MAX_FRM as oversize, with a bad FCS as an FCS error, in this order; each of these changes that count alone. A frame that the filter rejects counts in RX_FRM and RX_FILTER_DROP only, and one that finds the 64 KiB buffer full is dropped with its interrupt. Any other frame that is no MAC control frame is counted and waits for its release with the stamp of its start less RX_LAT; the filter is that of its start. A PAUSE frame to the group address or the port's own is counted and holds transmission for its quanta, where no hold runs and pause is not ignored; PFC is counted and ignored.
Rests on R289; R290; R291; R294; R296; R316; R318; R328; R330; R99. -/
def Obligations.FramesReceived : Prop :=
  ∀ (s : State) (n p : Nat) (b : List Byte) (ok : Bool) (sfd : Nat), p < 8 → s.dev.portLoop p = 0 →
    let e := s.dev.tick n
    let len := b.length + 4
    let good := (s.dev.port p).link = true ∧ 64 ≤ len ∧ len ≤ s.dev.maxFrm p ∧ ok = true
    let held := sumN ((s.dev.net.rxq.filter (fun f => f.port == p)).map (fun f => f.bytes.length + 4))
    let c := e.incW (Reg.NET_PORT_RX_FRM p) 1
    ((s.dev.port p).link = false → Ends (exec (.frameReceived n p b ok sfd) s) { s with dev := e }) ∧
    ((s.dev.port p).link = true → len < 64 → Ends (exec (.frameReceived n p b ok sfd) s) { s with dev := e.inc (Reg.NET_PORT_RX_RUNT p) 1 }) ∧
    ((s.dev.port p).link = true → 64 ≤ len → s.dev.maxFrm p < len →
      Ends (exec (.frameReceived n p b ok sfd) s) { s with dev := e.inc (Reg.NET_PORT_RX_OVERSIZE p) 1 }) ∧
    ((s.dev.port p).link = true → 64 ≤ len → len ≤ s.dev.maxFrm p → ok = false →
      Ends (exec (.frameReceived n p b ok sfd) s) { s with dev := e.inc (Reg.NET_PORT_RX_FCS_ERR p) 1 }) ∧
    (good → beAt b 12 2 ≠ 0x8808 → e.accepts p (beAt b 0 6) (e.tim.clk - sfd) = false →
      Ends (exec (.frameReceived n p b ok sfd) s) { s with dev := c.incW (Reg.NET_PORT_RX_FILTER_DROP p) 1 }) ∧
    (good → beAt b 12 2 ≠ 0x8808 → e.accepts p (beAt b 0 6) (e.tim.clk - sfd) = true → 65536 < held + len →
      Ends (exec (.frameReceived n p b ok sfd) s) { s with dev := (c.inc (Reg.NET_PORT_RX_OVF_DROP p) 1).raise (Reg.NET_PORT_INT_STATUS p) 2 }) ∧
    (good → beAt b 12 2 ≠ 0x8808 → e.accepts p (beAt b 0 6) (e.tim.clk - sfd) = true → held + len ≤ 65536 →
      EndsWith (exec (.frameReceived n p b ok sfd) s) (fun t =>
        t.dev.net = { s.dev.net with rxq := s.dev.net.rxq ++ [⟨e.tim.out, p, b, (e.tim.out : Int) - sfd * e.tim.outIncr - s.dev.rdN (Reg.TIM_PORT_RX_LAT p) * unitNs⟩] } ∧
        t.dev.rdN (Reg.NET_PORT_RX_FRM p) = (s.dev.rdN (Reg.NET_PORT_RX_FRM p) + 1) % 2 ^ 32 ∧
        (s.dev.rdN (Reg.NET_PORT_RX_OCT_LO p) + len < 2 ^ 32 → t.dev.rdN (Reg.NET_PORT_RX_OCT_LO p) = s.dev.rdN (Reg.NET_PORT_RX_OCT_LO p) + len) ∧
        t.dev.tim = e.tim ∧ t.dev.loc = s.dev.loc ∧ t.ctl = s.ctl)) ∧
    (good → beAt b 12 2 = 0x8808 → beAt b 14 2 = 0x0101 →
      Ends (exec (.frameReceived n p b ok sfd) s) { s with dev := c.inc (Reg.NET_PORT_RX_PFC_DROP p) 1 }) ∧
    (good → beAt b 12 2 = 0x8808 → beAt b 14 2 = 1 → beAt b 0 6 = 0x0180C2000001 ∨ beAt b 0 6 = s.dev.mac p → s.dev.flag (Reg.NET_PORT_CFG p) 6 = true → p < 4 →
      (s.dev.port p).ignoreTo = none → (s.dev.port p).pauseTo = none → 0 < beAt b 16 2 →
      Ends (exec (.frameReceived n p b ok sfd) s)
        { s with dev := (c.incW (Reg.NET_PORT_RX_PAUSE p) 1).modPort p (fun x => { x with
            pauseTo := some (e.tim.clk + cdiv (beAt b 16 2 * 204800) (s.dev.mbps p)), holdAt := e.tim.clk }) })

/-- O36. The merged release, duplicate discard and its ageing.
The frame that ended first, ties to the lower port, is released 500 ns after its end and not before. On a port of an active pair a frame with a trailer passes duplicate discard: a first copy goes on to ingress without the trailer, and a second copy within the window of 64 is dropped and counted, changing the discard table and that count alone, and the count of wrong LANs where its trailer names the other one. A frame without a trailer, or on another port, goes on as it is. PRP_AGE_OUT takes out the sources not seen for NET_PRP_AGE ms.
Rests on R297; R300; R301; R302; R303. -/
def Obligations.MergedRelease : Prop :=
  (∀ (s : State) (r : Release), (∀ x ∈ r.lag, x.1 < 2 ∧ x.2.1 < 3) →
    let e := s.dev.tick r.t
    ((∀ f, nextRelease s.dev.net.rxq = some f → e.tim.out < f.fin + 500 * unitNs) → Ends (exec (.frameRelease r) s) { s with dev := e }) ∧
    (∀ f, nextRelease s.dev.net.rxq = some f → f.fin + 500 * unitNs ≤ e.tim.out →
      let d : Dev := { e with net := { e.net with rxq := s.dev.net.rxq.erase f } }
      let on (g : RxFrame) (d : Dev) : State := { s with dev := ((d.ingress g).ingressLag r.lag).lockCheck.dispatchAll }
      ((s.dev.pairActive f.port = false ∨ rctOf f.bytes = none) → Ends (exec (.frameRelease r) s) (on f d)) ∧
      (∀ q lan, s.dev.pairActive f.port = true → rctOf f.bytes = some (q, lan) →
        let d := if lan = 0xA + f.port % 2 then d else d.inc Reg.NET_PRP_WRONG_LAN_CNT 1
        let src := beAt f.bytes 6 6
        let g : RxFrame := { f with bytes := f.bytes.take (f.bytes.length - 6) }
        (s.dev.net.prp.find? (fun x => x.mac == src) = none → s.dev.net.prp.length < 131072 →
          Ends (exec (.frameRelease r) s) (on g { d with net := { d.net with prp := s.dev.net.prp.filter (fun x => x.mac != src) ++ [⟨src, q, 1, e.tim.clk⟩] } })) ∧
        (s.dev.net.prp.find? (fun x => x.mac == src) = none → 131072 ≤ s.dev.net.prp.length →
          let v := d.inc Reg.NET_PRP_EVICT_CNT 1
          Ends (exec (.frameRelease r) s)
            (on g { v with net := { v.net with prp := (s.dev.net.prp.drop 1).filter (fun x => x.mac != src) ++ [⟨src, q, 1, e.tim.clk⟩] } })) ∧
        (∀ x, s.dev.net.prp.find? (fun x => x.mac == src) = some x →
          let put (y : PrpEntry) : Dev := { d with net := { d.net with prp := s.dev.net.prp.filter (fun z => z.mac != y.mac) ++ [y] } }
          (0 < prpDist q x.high →
            Ends (exec (.frameRelease r) s) (on g (put ⟨src, q, (x.window <<< (prpDist q x.high).toNat) % 2 ^ 64 + 1, e.tim.clk⟩))) ∧
          (prpDist q x.high ≤ 0 → -64 < prpDist q x.high → x.window.testBit (prpDist q x.high).natAbs = true →
            Ends (exec (.frameRelease r) s) { s with dev := (put { x with seen := e.tim.clk }).incW Reg.NET_PRP_DUP_CNT 1 }) ∧
          (prpDist q x.high ≤ 0 → -64 < prpDist q x.high → x.window.testBit (prpDist q x.high).natAbs = false →
            Ends (exec (.frameRelease r) s) (on g (put { x with window := x.window + 2 ^ (prpDist q x.high).natAbs, seen := e.tim.clk }))) ∧
          (prpDist q x.high ≤ -64 →
            Ends (exec (.frameRelease r) s) (on g ((put { x with seen := e.tim.clk }).inc Reg.NET_PRP_OLD_CNT 1))))))) ∧
  (∀ (s : State) (n : Nat),
    let e := s.dev.tick n
    Ends (exec (.prpAgeOut n) s)
      { s with dev := { e with net := { e.net with
          prp := s.dev.net.prp.filter (fun x => decide (e.tim.clk - x.seen < ticksMs (s.dev.rdN Reg.NET_PRP_AGE))) } } })

/-- O37. What a change of a port's link does.
On a port without loop-back: a medium that comes up on an enabled port, not in half duplex on SGMII, whose wing is not in repair, brings the link up, with its interrupt. One that goes takes the link down: the frames that wait and the one on the wire are discarded, a pause hold and low-power idle end, LINK_DOWN_CNT counts, and the interrupt is raised. Half duplex on an enabled SGMII port whose link is down leaves it down with DUPLEX_ERR, and counts. A medium that comes up on a port that is not enabled leaves the link down. Other ports and the time base are left alone.
Rests on R286; R287; R288; R921. -/
def Obligations.LinkChanges : Prop :=
  (∀ (s : State) (n p speed : Nat) (peer : LinkPeer), p < 8 → s.dev.portLoop p = 0 → s.dev.isSgmii p = false ∨ peer.half = false →
    let works := s.dev.units.repairing ≠ some (portOwner p)
    (s.dev.flag (Reg.NET_PORT_CFG p) 0 = true → works → (s.dev.port p).link = false → EndsWith (exec (.linkChange n p true speed peer) s) (fun t =>
      (t.dev.port p).link = true ∧ (t.dev.port p).medium = true ∧ (t.dev.port p).lpiRx = peer.lpi ∧ (t.dev.port p).txq = (s.dev.port p).txq ∧
      t.dev.flag (Reg.NET_PORT_INT_STATUS p) 0 = true ∧
      (∀ q, q ≠ p → t.dev.port q = s.dev.port q) ∧ t.dev.tim = (s.dev.tick n).tim ∧ t.dev.loc = s.dev.loc ∧ t.ctl = s.ctl)) ∧
    ((s.dev.port p).link = true → EndsWith (exec (.linkChange n p false speed peer) s) (fun t =>
      (t.dev.port p).link = false ∧ (t.dev.port p).medium = false ∧ (t.dev.port p).txq = [] ∧ (t.dev.port p).cur = none ∧ (t.dev.port p).pauseTo = none ∧
      (t.dev.port p).lpiAt = none ∧ t.dev.flag (Reg.NET_PORT_INT_STATUS p) 1 = true ∧
      t.dev.rd (Reg.NET_PORT_LINK_DOWN_CNT p) = (s.dev.inc (Reg.NET_PORT_LINK_DOWN_CNT p) 1).rd (Reg.NET_PORT_LINK_DOWN_CNT p) ∧
      (∀ q, q ≠ p → t.dev.port q = s.dev.port q) ∧ t.dev.tim = (s.dev.tick n).tim ∧ t.dev.loc = s.dev.loc ∧ t.ctl = s.ctl)) ∧
    ((s.dev.port p).link = false → (s.dev.port p).plca = false → s.dev.flag (Reg.NET_PORT_CFG p) 0 = false →
      Ends (exec (.linkChange n p true speed peer) s)
        { s with dev := (s.dev.tick n).modPort p (fun x => { x with medium := true, speed := speed % 3, half := peer.half, dupErr := false, lpiRx := peer.lpi }) })) ∧
  (∀ (s : State) (n p speed : Nat) (lpi : Bool), p < 8 → s.dev.portLoop p = 0 → s.dev.isSgmii p = true → s.dev.flag (Reg.NET_PORT_CFG p) 0 = true →
    (s.dev.port p).link = false → EndsWith (exec (.linkChange n p true speed ⟨true, lpi⟩) s) (fun t =>
      (t.dev.port p).link = false ∧ (t.dev.port p).medium = true ∧ (t.dev.port p).dupErr = true ∧
      t.dev.rd (Reg.NET_PORT_LINK_DOWN_CNT p) = (s.dev.inc (Reg.NET_PORT_LINK_DOWN_CNT p) 1).rd (Reg.NET_PORT_LINK_DOWN_CNT p) ∧
      (∀ q, q ≠ p → t.dev.port q = s.dev.port q) ∧ t.dev.tim = (s.dev.tick n).tim ∧ t.dev.loc = s.dev.loc ∧ t.ctl = s.ctl))

/-- O38. The end of a transmitted frame, collisions and back-off.
When the frame on the wire ends it is counted with its octets, and the first frame of the highest queue that holds one starts, if any, where no pause, wake or PLCA holds it; else the wire is idle. A collision on a T port without PLCA counts: a late one, and the 16th of a frame, discard the frame with its count and interrupt; any other keeps the frame and starts a back-off of some multiple, below 2^min(attempts, 10), of 512 bit times. BACKOFF_END sends the frame again once that time has come, and changes nothing before.
Rests on R309; R314; R325; R330. -/
def Obligations.FramesSent : Prop :=
  (∀ (s : State) (n p q : Nat) (f : TxFrame), p < 8 → s.dev.portLoop p = 0 → (s.dev.port p).cur = some (q, f) → (s.dev.port p).backTo = none →
    (s.dev.port p).follow = none → EndsWith (exec (.frameTransmitEnd n p) s) (fun t =>
      t.dev.rdN (Reg.NET_PORT_TX_FRM p) = (s.dev.rdN (Reg.NET_PORT_TX_FRM p) + 1) % 2 ^ 32 ∧
      ((s.dev.port p).txq = [] → (t.dev.port p).cur = none ∧ (t.dev.port p).emptyAt = max s.dev.tim.clk n) ∧
      (∀ g rest, (s.dev.port p).link = true → (s.dev.port p).pauseTo = none → (s.dev.port p).wakeTo = none → (s.dev.port p).plca = false → g.ptp = 0 →
        (s.dev.port p).txq ≠ [] → takeFrame (s.dev.port p).txq (topQueue (s.dev.port p).txq) = some (g, rest) →
        (t.dev.port p).cur = some (topQueue (s.dev.port p).txq, g) ∧ (t.dev.port p).txq = rest) ∧
      (∀ k, k ≠ p → t.dev.port k = s.dev.port k) ∧ t.dev.loc = s.dev.loc ∧ t.ctl = s.ctl)) ∧
  (∀ (s : State) (n p : Nat), p < 8 → s.dev.portLoop p = 0 → (s.dev.port p).cur = none → (s.dev.port p).txq = [] →
    Ends (exec (.frameTransmitEnd n p) s) { s with dev := s.dev.tick n }) ∧
  (∀ (s : State) (n p q : Nat) (f : TxFrame) (late : Bool), 4 ≤ p → p < 8 → (s.dev.port p).link = true → (s.dev.port p).plca = false →
    (s.dev.port p).cur = some (q, f) → (s.dev.port p).backTo = none →
    (late = false → (s.dev.port p).coll < 15 → ∃ x, Ends (exec (.collision n p late) s)
      { s with dev := { (((s.dev.tick n).incW (Reg.NET_PORT_COLL p) 1).modPort p (fun y => { y with
          coll := y.coll + 1, backTo := some (max s.dev.tim.clk n + x % 2 ^ min ((s.dev.port p).coll + 1) 10 * 20480) })) with freeCtr := s.dev.freeCtr + 1 } }) ∧
    ((late = true ∨ 15 ≤ (s.dev.port p).coll) → (s.dev.port p).txq = [] → EndsWith (exec (.collision n p late) s) (fun t =>
      (t.dev.port p).cur = none ∧ (t.dev.port p).coll = 0 ∧ t.dev.flag (Reg.NET_PORT_INT_STATUS p) (if late then 7 else 6) = true ∧
      t.dev.rdN (Reg.NET_PORT_COLL p) = (s.dev.rdN (Reg.NET_PORT_COLL p) + 1) % 2 ^ 32 ∧ (∀ k, k ≠ p → t.dev.port k = s.dev.port k) ∧ t.ctl = s.ctl))) ∧
  (∀ (s : State) (n p u q : Nat) (f : TxFrame), 4 ≤ p → p < 8 → (s.dev.port p).backTo = some u → (s.dev.port p).cur = some (q, f) →
    (u ≤ max s.dev.tim.clk n → EndsWith (exec (.backoffEnd n p) s) (fun t =>
      (t.dev.port p).backTo = none ∧ (t.dev.port p).cur = some (q, f) ∧ (t.dev.port p).txq = (s.dev.port p).txq ∧
      (∀ k, k ≠ p → t.dev.port k = s.dev.port k) ∧ t.dev.regs = s.dev.regs ∧ (f.ptp = 0 → t.dev.tim = (s.dev.tick n).tim) ∧ t.ctl = s.ctl)) ∧
    (max s.dev.tim.clk n < u → Ends (exec (.backoffEnd n p) s) { s with dev := s.dev.tick n }))

/-- O39. Pause holds, low-power idle and PLCA.
On a port with no frame waiting, PAUSE_HOLD_END ends a hold once its time has come and counts the µs held. PAUSE_WATCHDOG ends one that has lasted WD µs, ignores pause for IGN ms, counts, writes its record and raises the interrupt; before that it changes nothing. PAUSE_IGNORE_END ends that time. LPI_ENTRY enters low-power idle on an SGMII port that has been empty for its time and counts; LPI_WAKE ends the wake. Before their time each changes nothing. PLCA_LOST and PLCA_STATUS_UP clear and set PLCA of a T port, the former with record and interrupt, and change nothing where it is so already. From when an opportunity may open is the model's (notes/assumptions/177.md).
Rests on R315; R316; R317; R318; R319; R321; R323; R324. -/
def Obligations.PauseIdleAndPlca : Prop :=
  (∀ (s : State) (n p u : Nat), p < 8 → (s.dev.port p).pauseTo = some u → (s.dev.port p).txq = [] →
    let e := s.dev.tick n
    let c := s.dev.rd (Reg.NET_PORT_PAUSE_CFG p)
    let held := (e.tim.clk - (s.dev.port p).holdAt) / ticksUs 1
    (u ≤ e.tim.clk → Ends (exec (.pauseHoldEnd n p) s)
      { s with dev := (e.incW (Reg.NET_PORT_TX_PAUSED_US p) held).modPort p (fun x => { x with pauseTo := none }) }) ∧
    (e.tim.clk < u → Ends (exec (.pauseHoldEnd n p) s) { s with dev := e }) ∧
    (ticksUs (bits c 15 0) ≤ e.tim.clk - (s.dev.port p).holdAt → EndsWith (exec (.pauseWatchdog n p) s) (fun t =>
      t.dev.port p = { s.dev.port p with pauseTo := none, ignoreTo := some (e.tim.clk + ticksMs (bits c 31 16)) } ∧
      t.dev.rd (Reg.NET_PORT_PAUSE_WD_CNT p) = (s.dev.inc (Reg.NET_PORT_PAUSE_WD_CNT p) 1).rd (Reg.NET_PORT_PAUSE_WD_CNT p) ∧
      t.dev.rdN (Reg.NET_PORT_TX_PAUSED_US p) = (s.dev.rdN (Reg.NET_PORT_TX_PAUSED_US p) + held) % 2 ^ 32 ∧
      t.dev.flag (Reg.NET_PORT_INT_STATUS p) 3 = true ∧ (∀ k, k ≠ p → t.dev.port k = s.dev.port k) ∧ t.ctl = s.ctl)) ∧
    (e.tim.clk - (s.dev.port p).holdAt < ticksUs (bits c 15 0) → Ends (exec (.pauseWatchdog n p) s) { s with dev := e })) ∧
  (∀ (s : State) (n p u : Nat), p < 8 → (s.dev.port p).ignoreTo = some u →
    (u ≤ max s.dev.tim.clk n → Ends (exec (.pauseIgnoreEnd n p) s) { s with dev := (s.dev.tick n).modPort p (fun x => { x with ignoreTo := none }) }) ∧
    (max s.dev.tim.clk n < u → Ends (exec (.pauseIgnoreEnd n p) s) { s with dev := s.dev.tick n })) ∧
  (∀ (s : State) (n p : Nat), p < 8 →
    let e := s.dev.tick n
    let x := s.dev.port p
    let may := s.dev.isSgmii p = true ∧ x.link = true ∧ s.dev.speedCode p ≠ 0 ∧ s.dev.flag (Reg.NET_PORT_CFG p) 7 = true ∧ x.txq = [] ∧ x.cur = none ∧
      x.lpiAt = none ∧ x.wakeTo = none ∧ ticksUs (s.dev.fld (Reg.NET_PORT_EEE_CFG p) 15 0) ≤ e.tim.clk - x.emptyAt
    (may → Ends (exec (.lpiEntry n p) s)
      { s with dev := (e.modPort p (fun y => { y with lpiAt := some e.tim.clk })).incW (Reg.NET_PORT_LPI_ENTRY p) 1 }) ∧
    (¬ may → Ends (exec (.lpiEntry n p) s) { s with dev := e }) ∧
    (∀ u, x.wakeTo = some u → x.txq = [] →
      (u ≤ e.tim.clk → Ends (exec (.lpiWake n p) s) { s with dev := e.modPort p (fun y => { y with wakeTo := none }) }) ∧
      (e.tim.clk < u → Ends (exec (.lpiWake n p) s) { s with dev := e })) ∧
    (4 ≤ p → x.plca = true → Ends (exec (.plcaLost n p) s)
      { s with dev := ((e.modPort p (fun y => { y with plca := false, burst := 0 })).record 0x0704 (be 1 p ++ zeros 15)).raise (Reg.NET_PORT_INT_STATUS p) 5 }) ∧
    (x.plca = false → Ends (exec (.plcaLost n p) s) { s with dev := e }) ∧
    (4 ≤ p → x.link = true → s.dev.flag (Reg.NET_PORT_CFG p) 8 = true → x.plca = false → Ends (exec (.plcaStatusUp n p) s)
      { s with dev := e.modPort p (fun y => { y with plca := true, burst := 0, oppAt := e.tim.clk }) }) ∧
    (p < 4 ∨ x.link = false ∨ x.plca = true ∨ s.dev.flag (Reg.NET_PORT_CFG p) 8 = false → Ends (exec (.plcaStatusUp n p) s) { s with dev := e }))

/-- O40. Admission at a queue.
The first word of an item at a disabled queue has no effect. At an enabled one in drop mode the item is admitted when, with it, one slot stays free for a gap marker and the virtual depth, less the services due by now, is below its cap; else it is dropped whole: counted, and joined to the marker at the tail (COUNT one more, LAST its stamp), or given a new marker with the interrupt, and the words that follow it are discarded. Where only the slot is wanting in a queue with a virtual depth, the wing is faulted. In credit mode it is admitted against a credit of its pool, and without one has no effect. Later words join the item that is being written.
Rests on R570; R572; R573; R574; R575; R576; R718. -/
def Obligations.QueuePushes : Prop :=
  (∀ (s : State) (n w q len pool : Nat) (stamp : Option Nat) (ws : List (BitVec 64)), w < 2 → q < 512 →
    let e := s.dev.tick n
    let x := s.dev.queue w q
    let st := stamp.getD e.ns
    let item : QItem := ⟨false, len, ws.take len, 0, st, pool % 4, false⟩
    let o := exec (.queuePush n w q (some (len, pool, stamp)) ws) s
    let fits := x.occ + 1 ≤ s.dev.fld (Reg.QUE_Q_CAP q) 16 0 - 1
    let vd := x.vdepth.serve (s.dev.qServPs q) e.tim.out
    let room := vd.n < s.dev.fld (Reg.QUE_Q_VCAP q) 16 0
    let dropped (t : State) : Prop :=
      (∀ m, x.items.getLast? = some m → m.gap = true →
        (t.dev.queue w q).items = x.items.dropLast ++ [{ m with words := gapWords (m.gapOf.1 + 1) m.gapOf.2.1 st }]) ∧
      ((∀ m, x.items.getLast? = some m → m.gap = false) → (t.dev.queue w q).items = x.items ++ [gapItem 1 st st] ∧ t.dev.flag (wingAddr w Reg.QUE_INT_STATUS) 0 = true) ∧
      (t.dev.queue w q).skip = len - ws.length
    let frame (t : State) : Prop := (∀ w' q', w' < 2 → q' < 512 → (w', q') ≠ (w, q) → t.dev.queue w' q' = s.dev.queue w' q') ∧ t.dev.units = s.dev.units ∧
      t.dev.loc = s.dev.loc ∧ t.dev.ing = s.dev.ing ∧ t.ctl = s.ctl
    (s.dev.qEn q = false → Ends o { s with dev := e }) ∧
    (s.dev.qEn q = true → s.dev.qCredit q = true → tget 0 x.used (pool % 4) < s.dev.pool q pool → EndsWith o (fun t =>
      t.dev.queue w q = { x with items := x.items ++ [item], skip := 0, used := tset 0 x.used (pool % 4) (tget 0 x.used (pool % 4) + 1) } ∧ frame t)) ∧
    (s.dev.qEn q = true → s.dev.qCredit q = true → s.dev.pool q pool ≤ tget 0 x.used (pool % 4) →
      Ends o { s with dev := e.modQueue w q (fun y => { y with skip := len - ws.length }) }) ∧
    (s.dev.qEn q = true → s.dev.qCredit q = false → s.dev.qVserv q = false → fits → EndsWith o (fun t =>
      t.dev.queue w q = { x with items := x.items ++ [item], skip := 0 } ∧ frame t)) ∧
    (s.dev.qEn q = true → s.dev.qCredit q = false → s.dev.qVserv q = true → fits → room → EndsWith o (fun t =>
      t.dev.queue w q = { x with items := x.items ++ [item], skip := 0, vdepth := vd.push e.tim.out } ∧ frame t)) ∧
    (s.dev.qEn q = true → s.dev.qCredit q = false → (s.dev.qVserv q = false ∧ ¬ fits) ∨ (s.dev.qVserv q = true ∧ ¬ room) → EndsWith o (fun t =>
      dropped t ∧ t.dev.rd (wingAddr w (Reg.QUE_Q_DROP_CNT q)) = (s.dev.inc (wingAddr w (Reg.QUE_Q_DROP_CNT q)) 1).rd (wingAddr w (Reg.QUE_Q_DROP_CNT q)) ∧
      frame t)) ∧
    (s.dev.qEn q = true → s.dev.qCredit q = false → s.dev.qVserv q = true → ¬ fits → room → EndsWith o (fun t =>
      dropped t ∧ (t.dev.wing w).role = .faulted ∧ ((s.dev.wing w).role ≠ .faulted → (t.dev.wing w).cause = 5) ∧ t.ctl = s.ctl))) ∧
  (∀ (s : State) (n w q : Nat) (ws : List (BitVec 64)) (m : QItem), w < 2 → q < 512 →
    (ws.length < (s.dev.queue w q).skip → Ends (exec (.queuePush n w q none ws) s)
      { s with dev := (s.dev.tick n).modQueue w q (fun y => { y with skip := y.skip - ws.length }) }) ∧
    (0 < (s.dev.queue w q).skip → (s.dev.queue w q).skip ≤ ws.length → (s.dev.queue w q).held = none ∨ s.dev.qCredit q = false → Ends (exec (.queuePush n w q none ws) s)
      { s with dev := (s.dev.tick n).modQueue w q (fun y => { y with skip := 0, held := none }) }) ∧
    (∀ k, 0 < (s.dev.queue w q).skip → (s.dev.queue w q).skip ≤ ws.length → (s.dev.queue w q).held = some k → s.dev.qCredit q = true → Ends (exec (.queuePush n w q none ws) s)
      { s with dev := (s.dev.tick n).modQueue w q (fun y => { y with skip := 0, held := none, used := tset 0 y.used k (tget 0 y.used k - 1) }) }) ∧
    ((s.dev.queue w q).skip = 0 → (s.dev.queue w q).items.getLast? = some m → m.words.length < m.len → EndsWith (exec (.queuePush n w q none ws) s) (fun t =>
      (t.dev.queue w q).items = (s.dev.queue w q).items.dropLast ++ [{ m with words := (m.words ++ ws).take m.len }] ∧ t.dev.units = s.dev.units ∧ t.ctl = s.ctl)))

/-- O41. Pops, QUE_CMD, the scrubber and the virtual service tick.
A pop of a queue that shows no item answers that it is empty; one of IQ_HOST answers a frame of its wing and takes it out. A pop that reads the last word of the visible head item returns its words and takes it out, in credit mode with its credit; one that stops before keeps the rest. QUE_CMD FLUSH empties a queue without accepted work on both wings and returns the credits of its whole items (that of a partial one returns with its end word: the model's choice, log entry 197); it is refused for accepted work (1), and either command for a disabled queue (2). DROP_REM discards the head item on each wing that shows it, where the queue allows it, else is refused (3), or (4) where the active wing shows none. A scrub pass without errors only counts. The virtual service tick takes the services due by now off the virtual depth on both wings (the model's timing: log entry 182).
Rests on R571; R575; R576; R578; R579; R580; R583; R585; R591; R593. -/
def Obligations.QueuePopsAndCommands : Prop :=
  (∀ (s : State) (n w q m : Nat), w < 2 → q < 512 → q ≠ 67 →
    let e := s.dev.tick n
    let x := s.dev.queue w q
    let ct := s.dev.qCt q
    (x.abort = false → (∀ i, x.items.head? = some i → i.visible ct = false) →
      Ends (exec (.queuePop n w q m 0 false) s) { s with dev := e.setPop w none }) ∧
    (x.abort = true → Ends (exec (.queuePop n w q m 0 false) s)
      { s with dev := (e.modQueue w q (fun y => { y with abort := false })).setPop w (some ⟨false, [], false, true⟩) }) ∧
    (∀ i r, x.abort = false → x.items = i :: r → i.visible ct = true →
      let got := (i.words.drop i.read).take m
      (i.len ≤ i.read + got.length → s.dev.qCredit q = false → Ends (exec (.queuePop n w q m 0 false) s)
        { s with dev := (e.setPop w (some ⟨i.gap, got, i.err, false⟩)).modQueue w q (fun y => { y with items := r }) }) ∧
      let gone (y : Queue) : Queue := { y with items := r, used := tset 0 y.used i.pool (tget 0 y.used i.pool - 1) }
      (i.len ≤ i.read + got.length → s.dev.qCredit q = true → Ends (exec (.queuePop n w q m 0 false) s)
        { s with dev := (e.setPop w (some ⟨i.gap, got, i.err, false⟩)).modQueue w q gone }) ∧
      (i.read + got.length < i.len → Ends (exec (.queuePop n w q m 0 false) s)
        { s with dev := (e.setPop w (some ⟨i.gap, got, i.err, false⟩)).modQueue w q (fun y => { y with items := { i with read := i.read + got.length } :: r }) }))) ∧
  (∀ (s : State) (n w m : Nat), w < 2 →
    let e := s.dev.tick n
    (s.dev.hostFrames w = [] → Ends (exec (.queuePop n w 67 m 0 false) s) { s with dev := e.setPop w none }) ∧
    (∀ f r, s.dev.hostFrames w = f :: r →
      let ws := (List.range (cdiv f.length 8)).map (fun j => BitVec.ofNat 64 (leAt f (8 * j) 8))
      let p : PopOut := ⟨false, ws, false, false⟩
      Ends (exec (.queuePop n w 67 m 0 false) s)
        { s with dev := ({ e with ing := { e.ing with hostq := e.ing.hostq.erase (w, f) } }).setPop w (some p) })) ∧
  (∀ (s : State) (n : Nat) (i : Iface) (v : Word), s.canWrite i Reg.QUE_CMD →
    let q := bits v 8 0
    let seen (w : Nat) : Bool := match (s.dev.queue w q).items with | x :: _ => x.visible (s.dev.qCt q) | [] => false
    (192 ≤ q → s.dev.qEn q = true → s.dev.qAcc q = false → EndsWith (exec (.queueFlush n i v) s) (fun t =>
      (∀ w < 2, (t.dev.queue w q).items = [] ∧ ((s.dev.queue w q).items.all QItem.whole = true → (t.dev.queue w q).held = (s.dev.queue w q).held ∧ (t.dev.queue w q).skip = (s.dev.queue w q).skip) ∧
        (s.dev.qCredit q = true → ∀ k, tget 0 (t.dev.queue w q).used k = tget 0 (s.dev.queue w q).used k - ((s.dev.queue w q).items.filter (fun x => x.whole && x.pool == k)).length) ∧
        t.dev.rdN (wingAddr w Reg.QUE_CMD_STATUS) = 0 ∧ (t.dev.queue w q).vdepth = (s.dev.queue w q).vdepth) ∧
      t.dev.units = s.dev.units ∧ t.dev.loc = s.dev.loc ∧ t.ctl = s.ctl)) ∧
    (q = 67 → EndsWith (exec (.queueFlush n i v) s) (fun t => t.dev.ing.hostq = [] ∧ ∀ w < 2, t.dev.rdN (wingAddr w Reg.QUE_CMD_STATUS) = 0)) ∧
    (q = 68 → EndsWith (exec (.queueFlush n i v) s) (fun t => t.dev.roost.early = [] ∧ ∀ w < 2, t.dev.rdN (wingAddr w Reg.QUE_CMD_STATUS) = 0)) ∧
    (s.dev.qOn q = true → s.dev.qAcc q = true → EndsWith (exec (.queueFlush n i v) s) (fun t => t.dev.que = s.dev.que ∧
      ∀ w < 2, t.dev.rdN (wingAddr w Reg.QUE_CMD_STATUS) = 1 ∧ t.dev.flag (wingAddr w Reg.QUE_INT_STATUS) 3 = true)) ∧
    (s.dev.qOn q = false → ∀ o, o = exec (.queueFlush n i v) s ∨ o = exec (.queueDropRem n i v) s → EndsWith o (fun t => t.dev.que = s.dev.que ∧
      ∀ w < 2, t.dev.rdN (wingAddr w Reg.QUE_CMD_STATUS) = 2 ∧ t.dev.flag (wingAddr w Reg.QUE_INT_STATUS) 3 = true)) ∧
    (s.dev.qOn q = true → s.dev.flag (Reg.QUE_Q_CFG q) 4 = false → EndsWith (exec (.queueDropRem n i v) s) (fun t => t.dev.que = s.dev.que ∧
      ∀ w < 2, t.dev.rdN (wingAddr w Reg.QUE_CMD_STATUS) = 3)) ∧
    (s.dev.qOn q = true → s.dev.flag (Reg.QUE_Q_CFG q) 4 = true → seen s.dev.active = false → EndsWith (exec (.queueDropRem n i v) s) (fun t =>
      t.dev.que = s.dev.que ∧ ∀ w < 2, t.dev.rdN (wingAddr w Reg.QUE_CMD_STATUS) = 4)) ∧
    (s.dev.qOn q = true → s.dev.flag (Reg.QUE_Q_CFG q) 4 = true → seen s.dev.active = true → EndsWith (exec (.queueDropRem n i v) s) (fun t =>
      ∀ w < 2, (t.dev.queue w q).items = (if seen w then (s.dev.queue w q).items.drop 1 else (s.dev.queue w q).items) ∧
        t.dev.rdN (wingAddr w Reg.QUE_CMD_STATUS) = 0))) ∧
  (∀ (s : State) (n w q : Nat), w < 2 →
    Ends (exec (.scrubPass n w [] []) s) { s with dev := (s.dev.tick n).incW (wingAddr w Reg.QUE_SCRUB_PASS) 1 } ∧
    (192 ≤ q → q < 512 → EndsWith (exec (.virtualServiceTick n q) s) (fun t =>
      (∀ k < 2, t.dev.queue k q = { s.dev.queue k q with vdepth := (s.dev.queue k q).vdepth.serve (s.dev.qServPs q) (s.dev.tick n).tim.out }) ∧ t.dev.regs = s.dev.regs ∧ t.dev.units = s.dev.units ∧ t.ctl = s.ctl)) ∧
    (64 ≤ q → q < 67 → Ends (exec (.virtualServiceTick n q) s) { s with dev := (s.dev.tick n).iqService (q - 64) }) ∧
    (q < 64 ∨ (67 ≤ q ∧ q < 192) → Ends (exec (.virtualServiceTick n q) s) { s with dev := s.dev.tick n }))

/-- O42. The completion of a work item, patience, and the work of a TCP timer.
ITEM_COMPLETE on a wing with nothing that waits frees the core, adds its busy time, and counts the class; on the standby an item with STATUS 0 is kept for its outputs unless they were produced already, and on the active wing a regular or deferrable one whose work has no output leaves nothing behind. A critical item with another STATUS, or that ends at its closing boundary or after, is listed for the overrun check. An idle core has nothing to complete. AFFINITY_PATIENCE_END of an item that has waited SCH_PATIENCE µs for its core lets it take another at the next decision, and before has no effect (the wait counts from the decision that finds it at the head with its core not free: log entry 196). TCP_TIMER makes a K_TCP item for its stream where the kernel has a route and its list credit.
Rests on R58; R527; R530; R533; R538; R544; R558; R723. -/
def Obligations.WorkItems : Prop :=
  (∀ (s : State) (n w core cycles status : Nat) (r : Running), w < 2 → core < 16 → status < 7 →
    (s.dev.ws w).cores.find? (fun c => c.1 == core) = some (core, r) → r.item.comp = false → r.item.host = none →
    (s.dev.ws w).crit = [] → (s.dev.ws w).wait = [] → (s.dev.ws w).early = [] → s.dev.roost.busy = [] → s.dev.roost.ready = [] → r.item.work = .digest 0 →
    let e := s.dev.tick n
    let late := r.item.boundary = s.dev.wbSeq ∧ e.boundaryDue = true
    EndsWith (exec (.itemComplete n w core cycles status) s) (fun t =>
      (t.dev.ws w).cores = tdel (s.dev.ws w).cores core ∧
      (t.dev.ws w).busy = tset 0 (s.dev.ws w).busy core (tget 0 (s.dev.ws w).busy core + (e.tim.clk - max r.start s.dev.sch.openClk)) ∧
      (t.dev.ws w).doneC = (s.dev.ws w).doneC + b2n (r.item.cls == 0) ∧ (t.dev.ws w).doneR = (s.dev.ws w).doneR + b2n (r.item.cls == 1) ∧
      (t.dev.ws w).doneD = (s.dev.ws w).doneD + b2n (r.item.cls == 2) ∧
      (r.item.cls = 0 → (t.dev.ws w).critEnd = e.tim.clk) ∧
      (status = 0 → w ≠ s.dev.active → r.item.id ∉ (s.dev.ws w).applied → (t.dev.ws w).early = [r.item]) ∧
      (status = 0 → w ≠ s.dev.active → r.item.id ∈ (s.dev.ws w).applied → (t.dev.ws w).early = [] ∧ r.item.id ∉ (t.dev.ws w).applied) ∧
      (status = 0 → w = s.dev.active → r.item.cls ≠ 0 → r.item.id ∉ (s.dev.ws w).applied → (∀ x ∈ (s.dev.ws w).failed, x.id ≠ r.item.id) → (t.dev.ws w).early = []) ∧
      (status ≠ 0 → (t.dev.ws w).early = []) ∧
      (t.dev.ws w).failed = (s.dev.ws w).failed ++ (if r.item.cls = 0 ∧ (status ≠ 0 ∨ late) then [r.item] else []) ∧
      t.dev.loc = s.dev.loc ∧ t.dev.isl = s.dev.isl ∧ t.ctl = s.ctl)) ∧
  (∀ (s : State) (n w core cycles status : Nat), w < 2 → core < 16 → status < 7 → (s.dev.ws w).cores.find? (fun c => c.1 == core) = none →
    Ends (exec (.itemComplete n w core cycles status) s) { s with dev := s.dev.tick n }) ∧
  (∀ (s : State) (n w : Nat) (x : Item), w < 2 → (s.dev.ws w).wait.find? (fun y => y.id == x.id) = some x →
    let e := s.dev.tick n
    (∀ c, (s.dev.ws w).sinceOf x.id = some c → ticksUs (s.dev.fld Reg.SCH_PATIENCE 15 0) ≤ e.tim.clk - c → x.id ∉ (s.dev.ws w).impatient →
      Ends (exec (.affinityPatienceEnd n w x.id) s)
        { s with dev := (e.modWs w (fun y => { y with impatient := (s.dev.ws w).impatient ++ [x.id] })).dispatch w }) ∧
    ((∀ c, (s.dev.ws w).sinceOf x.id = some c → e.tim.clk - c < ticksUs (s.dev.fld Reg.SCH_PATIENCE 15 0)) →
      Ends (exec (.affinityPatienceEnd n w x.id) s) { s with dev := e })) ∧
  (∀ (s : State) (n c : Nat), c < 64 →
    (s.dev.recOf 0x0C02 0x24 = none → Ends (exec (.tcpTimer n c) s) { s with dev := (s.dev.tick n).dispatchAll }) ∧
    (∀ b, s.dev.recOf 0x0C02 0x24 = some b → (∀ w < 2, (s.dev.ws w).crit = [] ∧ (s.dev.ws w).idle 0 = [] ∧ s.dev.runsWork w = true ∧
        ((s.dev.ws w).wait.filter (fun y => y.list == byteAt b 2)).length < s.dev.listCap (byteAt b 2)) →
      EndsWith (exec (.tcpTimer n c) s) (fun t => ∀ w < 2, ∃ x, (t.dev.ws w).wait = (s.dev.ws w).wait ++ [x] ∧
        x.kernel = 0x24 ∧ x.work = .tcp c 0 [] ∧ x.list = byteAt b 2 ∧ x.cls = s.dev.listClass (byteAt b 2) ∧ x.wc = s.dev.worst 0x24 0)))

/-- O43. A lockstep mismatch and an uncorrectable journal error fault their wing.
LOCKSTEP_MISMATCH faults a wing that is not faulted with CAUSE 2 and JOURNAL_DRAM_UE with CAUSE 9; the other wing keeps its role. When the faulted wing held the claim and the other is STANDBY, a takeover is due no sooner than 10 µs later, and the claim does not change before it. When the other wing cannot take over and no twin speaks or is ready to, the device enters SAFE; so it does when the wing that was to take over is faulted before it has. For a wing that is already faulted nothing changes.
Rests on R523; R712; R717; R718; R722; R758. -/
def Obligations.WingFaults : Prop :=
  ∀ (s : State) (n w cause : Nat) (o : Host.Outcome State Fault Refusal), w < 2 →
    (o = exec (.lockstepMismatch n w) s ∧ cause = 2) ∨ (o = exec (.journalDramUe n w) s ∧ cause = 9) →
    let e := s.dev.tick n
    ((s.dev.wing w).role = .faulted → Ends o { s with dev := e }) ∧
    ((s.dev.wing w).role ≠ .faulted → EndsWith o (fun t =>
      (t.dev.wing w).role = .faulted ∧ (t.dev.wing w).cause = cause ∧ t.dev.flag Reg.WNG_INT_STATUS 1 = true ∧
      t.dev.units.holder = s.dev.units.holder ∧ t.dev.units.claim = s.dev.units.claim ∧ t.dev.units.redundant = false ∧
      (s.dev.units.holder.isSome = true → t.dev.wing (1 - w) = s.dev.wing (1 - w)) ∧
      (s.dev.units.holder = some w → (s.dev.wing (1 - w)).role = .standby →
        t.dev.units.due = some ⟨cause, w, false, some (e.tim.clk + ticksUs 10)⟩) ∧
      (s.dev.units.holder = some w → (s.dev.wing (1 - w)).role ≠ .standby → s.dev.twinSpeaks = false → t.dev.boot = 7) ∧
      (s.dev.units.holder = some (1 - w) → s.dev.units.due.isSome = true → s.dev.twinSpeaks = false → t.dev.boot = 7) ∧ t.ctl = s.ctl))

/-- O44. The nectar tick, the temperature limit and the wear ledger.
NECTAR_TICK adds the allowance of the tick less its energy to the bucket, held within ±PWR_NECTAR_CAP, adds the energy to both counts, and the level is 0 from PWR_NECTAR_LOW on, 1 from 0 on and 2 below. TJ_MAX at 105 °C or above sets its flag, with record and interrupt, once. WEAR_SECOND stores the temperatures and adds a second to the hours of both wings and its weight to EQ. WEAR_HOUR after 3,600 s stores the ledger and lowers the cap of a wing more than 500 h ahead by 100 MHz, not below 800, or raises that of one not ahead, not above 1,600.
Rests on R546; R547; R550; R554; R555; R556. -/
def Obligations.PowerAndWear : Prop :=
  (∀ (s : State) (n power : Nat) (temps : List Int),
    let a := allowNj (s.dev.rdN Reg.PWR_LIMIT) (s.dev.rdN Reg.PWR_T_DERATE) (max (temps.getD 0 0) (temps.getD 1 0))
    let cap : Int := (s.dev.rdN Reg.PWR_NECTAR_CAP * 1000000 : Nat)
    let low : Int := (s.dev.rdN Reg.PWR_NECTAR_LOW * 1000000 : Nat)
    EndsWith (exec (.nectarTick n power temps) s) (fun t =>
      t.dev.sch.nectar = clampI (- cap) cap (s.dev.sch.nectar + a - power * 100) ∧
      t.dev.sch.energy = s.dev.sch.energy + power * 100 ∧ t.dev.sch.wbEnergy = s.dev.sch.wbEnergy + power * 100 ∧
      t.dev.sch.level = (if low ≤ t.dev.sch.nectar then 0 else if 0 ≤ t.dev.sch.nectar then 1 else 2) ∧
      t.dev.loc = s.dev.loc ∧ t.dev.units = s.dev.units ∧ t.ctl = s.ctl)) ∧
  (∀ (s : State) (n k : Nat) (temp : Int), k < 9 → (∀ w < 2, (s.dev.ws w).crit = [] ∧ (s.dev.ws w).wait = []) →
    (s.dev.flag Reg.PWR_STATUS 4 = false → 1050 ≤ temp → EndsWith (exec (.tjMax n k temp) s) (fun t =>
      t.dev.flag Reg.PWR_STATUS 4 = true ∧ t.dev.flag Reg.PWR_INT_STATUS 2 = true ∧ t.dev.sch = s.dev.sch ∧ t.ctl = s.ctl ∧
      t.dev.evr = ((s.dev.tick n).record 0x0C12 (be 1 k ++ zeros 1 ++ beI 2 (clampS 16 temp) ++ zeros 12)).evr)) ∧
    (s.dev.flag Reg.PWR_STATUS 4 = true ∨ temp < 1050 → Ends (exec (.tjMax n k temp) s) { s with dev := s.dev.tick n })) ∧
  (∀ (s : State) (n : Nat) (temps : List Int), EndsWith (exec (.wearSecond n temps) s) (fun t =>
    (∀ k < 9, t.dev.rd (Reg.PWR_TEMP k) = w32i (temps.getD k 0)) ∧ t.dev.sch.hours = s.dev.sch.hours.map (· + 1) ∧
    t.dev.sch.hourSec = s.dev.sch.hourSec + 1 ∧ t.dev.sch.eq = s.dev.sch.eq.zipIdx.map (fun x => x.1 + wearAF (temps.getD x.2 0)) ∧
    t.dev.nv = s.dev.nv ∧ t.dev.loc = s.dev.loc ∧ t.ctl = s.ctl)) ∧
  (∀ (s : State) (n : Nat),
    (s.dev.sch.hourSec < 3600 → Ends (exec (.wearHour n) s) { s with dev := s.dev.tick n }) ∧
    (3600 ≤ s.dev.sch.hourSec → EndsWith (exec (.wearHour n) s) (fun t =>
      t.dev.nv.wearHours = s.dev.sch.hours ∧ t.dev.nv.wearEq = s.dev.sch.eq ∧ t.dev.sch.hourSec = s.dev.sch.hourSec - 3600 ∧
      (∀ w < 2, let ahead : Int := (s.dev.sch.eq.getD w 0 : Int) - (s.dev.sch.hours.getD w 0 * 1000000 : Nat)
        let cap := s.dev.rdN (Reg.PWR_WEAR_CAP w)
        (500 * 3600 * 1000000 < ahead → t.dev.rdN (Reg.PWR_WEAR_CAP w) = max 800 (cap - 100)) ∧
        (ahead ≤ 0 → t.dev.rdN (Reg.PWR_WEAR_CAP w) = min 1600 (cap + 100)) ∧
        (0 < ahead → ahead ≤ 500 * 3600 * 1000000 → t.dev.rdN (Reg.PWR_WEAR_CAP w) = cap)) ∧
      t.dev.loc = s.dev.loc ∧ t.dev.units = s.dev.units ∧ t.ctl = s.ctl)))

/-- O45. Status reads that capture a view for the interface that reads.
A read of a status register of the entry window, of the selected signal or island group, of a tracker, of a command group, of the selected key slot or of the selected output answers that status and captures the view that belongs to it for the reading interface; it changes no register and no state but that. A tracker's read pins its mode shape for the interface. SHAPE_PART answers the participation at the selected position and advances it, wrapping at COUNT.
Rests on R434; R454; R469; R470; R471; R472; R518; R519; R708; R750; R866. -/
def Obligations.ReadViews : Prop :=
  ∀ (s : State) (n : Nat) (i : Iface),
    let e := s.dev.tick n
    let got (t : State) : Word := if i = .spi then t.dev.host.rdataS else t.dev.host.rdataP
    let same (t : State) : Prop := t.dev.regs = s.dev.regs ∧ t.dev.roost = s.dev.roost ∧ t.dev.isl = s.dev.isl ∧ t.dev.key = s.dev.key ∧ t.dev.units = s.dev.units ∧
      t.dev.loc = s.dev.loc ∧ t.dev.evr = s.dev.evr ∧ t.ctl = s.ctl
    (s.canRead Reg.ALN_ENT_STATUS → EndsWith (exec (.alnEntStatusRead n i) s) (fun t =>
      let k := s.dev.fld Reg.ALN_ENT_SEL 16 0
      let m := (s.dev.roost.opened.getD 0) - s.dev.fld Reg.ALN_ENT_SEL 27 24
      (s.dev.slot m = none → got t = 0) ∧
      (∀ x, s.dev.slot m = some x → got t = w32 (b2n (x.get k).isSome + 2 * b2n x.opened + 4 * b2n (x.early.contains k) +
        8 * b2n (s.dev.roost.slow.any (fun y => y.n == m && y.late.contains k)))) ∧
      t.dev.latched i Reg.ALN_ENT_SEQ_LO = w32 m ∧ t.dev.latched i Reg.ALN_ENT_SEQ_HI = w32 (m / 2 ^ 32) ∧
      (∀ j < 8, t.dev.latched i (Reg.ALN_ENT_DATA j) = w32 (beAt ((((s.dev.slot m).bind (fun x => x.get k))).getD missing) (4 * j) 4)) ∧ same t)) ∧
    (s.canRead Reg.OSC_SIG_STATUS → EndsWith (exec (.oscSigStatusRead n i) s) (fun t =>
      got t = (e.sigCapture i).1 ∧ (∀ j < 8, t.dev.latched i (Reg.OSC_SIG_DATA j) = s.dev.sigView j) ∧ t.dev.osc = s.dev.osc ∧ same t)) ∧
    (s.canRead Reg.ISL_GRP_STATUS → EndsWith (exec (.islGrpStatusRead n i) s) (fun t =>
      got t = s.dev.grpStatus (s.dev.fld Reg.ISL_GRP_SEL 9 0) ∧ (∀ j < 17, t.dev.latched i (Reg.ISL_GRP_DATA j) = s.dev.grpView j) ∧
      t.dev.osc = s.dev.osc ∧ same t)) ∧
    (∀ k < 16, s.canRead (Reg.OSC_TRK_STATUS k) → EndsWith (exec (.oscTrkStatusRead n i k) s) (fun t =>
      let x := s.dev.oscTrk k
      got t = s.dev.trkStatus k ∧ t.dev.latched i (Reg.OSC_TRK_FREQ k) = w32i x.freq ∧ t.dev.latched i (Reg.OSC_TRK_AMP k) = w32 (min x.aMode 0xFFFFFFFF) ∧
      t.dev.latched i (Reg.OSC_TRK_AMP_MAX k) = w32 (min x.aMax 0xFFFFFFFF) ∧
      bits (t.dev.latched i (Reg.OSC_TRK_DAMP k)) 15 0 = cx 16 (clampS 16 x.zeta) ∧ bit (t.dev.latched i (Reg.OSC_TRK_DAMP k)) 16 = x.dampOk s.dev.oscWin ∧
      (∀ j < 4, t.dev.latched i (Reg.OSC_TRK_LAMBDA_RT k j) = w32 (min (x.lam.getD j 0) 0xFFFFFFFF)) ∧ (∀ j < 16, j ≠ k → t.dev.oscTrk j = s.dev.oscTrk j) ∧
      (if i = .pcie then (t.dev.oscTrk k).pinP else (t.dev.oscTrk k).pinS) = x.shapeView ∧ same t)) ∧
    (∀ k < 16, s.canRead (Reg.OSC_TRK_SHAPE_PART k) → EndsWith (exec (.shapePartRead n i k) s) (fun t =>
      let p := s.dev.fld (Reg.OSC_TRK_SHAPE_SEL k) 11 0
      got t = w32 (s.dev.shapeAt i k).2.2 ∧ t.dev.fld (Reg.OSC_TRK_SHAPE_SEL k) 11 0 = (if p + 1 < s.dev.trkCount k then p + 1 else 0) % 4096 ∧
      (∀ a, a ≠ Reg.OSC_TRK_SHAPE_SEL k → t.dev.rd a = s.dev.rd a) ∧ t.dev.osc = s.dev.osc ∧ t.ctl = s.ctl)) ∧
    (∀ c < 1024, s.canRead (Reg.ISL_CG_STATUS c) → EndsWith (exec (.islCgStatusRead n i c) s) (fun t =>
      got t = s.dev.cgStatus c ∧ t.dev.latched i (Reg.ISL_CG_LAST_SEQ c) = w32 (s.dev.cmdGrp c).lastSeq ∧
      t.dev.latched i (Reg.ISL_CG_UNACK c) = w32 (s.dev.cmdGrp c).unack ∧ t.dev.latched i (Reg.ISL_CG_SENT_CNT c) = w32 (s.dev.cmdGrp c).sent ∧ same t)) ∧
    (s.canRead Reg.KEY_SLOT_INFO → EndsWith (exec (.keySlotInfoRead n i) s) (fun t =>
      let k := slotOf s.dev.key.force (s.dev.fld Reg.KEY_SLOT_SEL 7 0)
      (k = none → bit (got t) 6 = false) ∧
      (∀ x, k = some x → x.typ < 8 → x.use < 8 → bit (got t) 6 = true ∧ bits (got t) 2 0 = x.typ ∧ bits (got t) 5 3 = x.use) ∧ t.dev.latched i Reg.KEY_SLOT_ID = w32 ((k.map (·.id)).getD 0) ∧
      t.dev.latched i Reg.KEY_SLOT_KCV = w32 ((k.map (·.kcv)).getD 0) ∧ t.dev.latched i Reg.KEY_SLOT_CTR_LO = w32 ((k.map (·.ctr)).getD 0) ∧
      t.dev.latched i Reg.KEY_SLOT_CTR_HI = w32 ((k.map (·.ctr)).getD 0 / 2 ^ 32) ∧
      (∀ x j, k = some x → j < 16 → t.dev.latched i (Reg.KEY_SLOT_PUB j) = if x.typ = 4 then wordOf x.material j else 0) ∧ same t)) ∧
    (s.canRead Reg.WNG_OUT_STATUS → EndsWith (exec (.wngOutStatusRead n i) s) (fun t =>
      let o := s.dev.fld Reg.WNG_OUT_SEL 11 0
      let q := tget 0 s.dev.units.outSeq o
      bit (got t) 0 = decide (16 ≤ o ∧ o < 2176 ∧ o ≠ 2167) ∧ bit (got t) 1 = decide (q ≠ 0) ∧
      t.dev.latched i Reg.WNG_OUT_SEQ_LO = w32 (q - 1) ∧ t.dev.latched i Reg.WNG_OUT_SEQ_HI = w32 ((q - 1) / 2 ^ 32) ∧ same t))

/-- O46. Ingress gap markers, identity lookup, derived keys, and the closing of a slot.
The oldest gap marker that leaves an ingress queue writes its record, adds its count to the dropped items and raises the interrupt; with no marker nothing changes. ING_LOOKUP answers the index of the valid point with the identity written, with its CAM flag, or that there is none. KEYS_DERIVED derives the key of each valid point and each command group and sets its flag. A slot that closes is frozen with the time of its closing boundary, becomes the last closed slot, enters the slow window, and its entries are counted; the other slots stay as they are.
Rests on R336; R337; R355; R372; R382; R399. -/
def Obligations.IngressAndSlots : Prop :=
  (∀ (s : State) (n q : Nat), q < 4 →
    let e := s.dev.tick n
    let k := if q = 3 then 3 + s.dev.active else q
    (tget [] s.dev.ing.gaps k = [] → Ends (exec (.gapMarkerDequeue n q) s) { s with dev := e }) ∧
    (∀ m r, tget [] s.dev.ing.gaps k = m :: r → EndsWith (exec (.gapMarkerDequeue n q) s) (fun t =>
      tget [] t.dev.ing.gaps k = r ∧ (∀ j, j ≠ k → tget [] t.dev.ing.gaps j = tget [] s.dev.ing.gaps j) ∧
      t.dev.rd (Reg.ING_DROP_CNT 0) = (s.dev.inc (Reg.ING_DROP_CNT 0) m.count).rd (Reg.ING_DROP_CNT 0) ∧ t.dev.flag Reg.ING_INT_STATUS 1 = true ∧
      t.dev.evr = (e.recordAt 0x0802 m.first e.tq (be 1 q ++ zeros 3 ++ be 4 (min m.count 0xFFFFFFFF) ++ be 8 m.first ++ be 8 m.last ++ zeros 8)).evr ∧
      t.dev.roost = s.dev.roost ∧ t.dev.loc = s.dev.loc ∧ t.ctl = s.ctl))) ∧
  (∀ (s : State) (n : Nat) (i : Iface) (v : Word), s.canWrite i Reg.ING_LOOKUP_ID_HI → EndsWith (exec (.ingLookup n i v) s) (fun t =>
    let id := s.dev.rdN Reg.ING_LOOKUP_ID_LO + 2 ^ 32 * v.toNat
    (∀ k, s.dev.lookup id = some k → t.dev.rd Reg.ING_LOOKUP_RES = w32 (k + 2 ^ 16 + b2n (inCam id k) * 2 ^ 17 + 2 ^ 18)) ∧
    (s.dev.lookup id = none → t.dev.rd Reg.ING_LOOKUP_RES = w32 (2 ^ 18)) ∧ t.dev.rd Reg.ING_LOOKUP_ID_HI = v ∧
    (∀ a, a ≠ Reg.ING_LOOKUP_ID_HI → a ≠ Reg.ING_LOOKUP_RES → t.dev.rd a = s.dev.rd a) ∧ t.dev.ing = s.dev.ing ∧ t.ctl = s.ctl)) ∧
  (∀ (s : State) (n : Nat), Ends (exec (.keysDerived n) s) { s with dev := ((s.dev.tick n).deriveKeys).putB Reg.ING_STATUS 2 true }) ∧
  (∀ (d : Dev) (k : Nat) (b : Bytes), d.recs 0x0801 = [⟨0x0801, k, b⟩] → beAt b 8 2 % 2 = 1 → tget [] d.deriveKeys.ing.keys k = d.derivePoint b) ∧
  (∀ (d : Dev) (n : Nat) (x : Slot9), d.slot n = some x →
    let y : Slot9 := { x with opened := false, closeAt := slotNs d.rate d.wbSeq, closeWb := d.wbSeq }
    let c := d.slotClose n
    c.roost.closed = some n ∧ c.roost.slow = (d.modSlot n (fun _ => y)).roost.slow ++ [y] ∧ c.roost.ring = (d.modSlot n (fun _ => y)).roost.ring ∧
    c.rdN Reg.ALN_LAST_PRESENT = x.recs.length % 2 ^ 32 ∧ c.rdN Reg.ALN_LAST_MISSING = ((d.enabledEntries).filter (fun k => (x.get k).isNone)).length % 2 ^ 32 ∧
    (c.roost.exports = d.roost.exports ∨ ∃ b, c.roost.exports = d.roost.exports ++ [(false, x.n, b)]) ∧ c.loc = d.loc ∧ c.isl = d.isl)

/-- O47. C37.118 commands to a stream, and the retransmission of GOOSE.
A command to an enabled stream is counted. Data off and data on clear and set its data transmission. Header, CFG-1 and CFG-2 send the stored frame of their type, where the configuration has one and the unit speaks, with SYNC, time and check sum of the moment; to a UDP stream on its queue, and to a TCP stream without a connection not at all. A command to a stream that is not enabled has no effect. GOOSE_RETRANSMIT of a live block that is due counts sqNum on, waits its first interval after the first repeat and then double the last, up to its maximum (the model's reading of the offsets: log entry 186), and presents the message at its gate; one that is not due stays.
Rests on R416; R418; R426; R427. -/
def Obligations.StreamCommands : Prop :=
  (∀ (s : State) (n c : Nat), c < 64 →
    let e := s.dev.tick n
    let counted (d : Dev) : State := { s with dev := d.incW (Reg.ALN_STR_CMD_CNT c) 1 }
    let en := s.dev.flag (Reg.ALN_STR_CFG c) 0
    let stored (typ nibble : Nat) (o : Host.Outcome State Fault Refusal) : Prop :=
      (s.dev.recOf 0x0903 (c * 256 + typ) = none ∨ s.dev.speaks = false → Ends o (counted e)) ∧
      (∀ r, s.dev.recOf 0x0903 (c * 256 + typ) = some r → s.dev.speaks = true → s.dev.flag (Reg.ALN_STR_CFG c) 1 = false →
        let sync := be 1 0xAA ++ be 1 (nibble * 16 + (if s.dev.flag (Reg.ALN_STR_CFG c) 2 then 2 else 1))
        let f := patch (patch ((r.drop 4).take (beAt r 2 2)) 0 sync) 6 (e.socFrac e.ns e.tq (beAt ((s.dev.recOf 0x0901 c).getD []) 8 4))
        Ends o (counted ((e.udpStream c 4 (withChk (f.take (f.length - 2)))).foldl (fun (d : Dev) a => d.act a) e))) ∧
      (s.dev.speaks = true → s.dev.flag (Reg.ALN_STR_CFG c) 1 = true → (s.dev.str c).conn = none → Ends o (counted e))
    (en = false → ∀ o, o ∈ [exec (.c37CmdDataOff n c) s, exec (.c37CmdDataOn n c) s, exec (.c37CmdHeader n c) s, exec (.c37CmdCfg1 n c) s,
      exec (.c37CmdCfg2 n c) s] → Ends o { s with dev := e }) ∧
    (en = true → Ends (exec (.c37CmdDataOff n c) s) (counted (e.modStr c (fun x => { x with dataOn := false }))) ∧
      Ends (exec (.c37CmdDataOn n c) s) (counted (e.modStr c (fun x => { x with dataOn := true }))) ∧
      stored 1 1 (exec (.c37CmdHeader n c) s) ∧ stored 3 2 (exec (.c37CmdCfg1 n c) s) ∧ stored 3 3 (exec (.c37CmdCfg2 n c) s))) ∧
  (∀ (s : State) (n g : Nat), g < 16 →
    let e := s.dev.tick n
    let x := s.dev.gooseOf g
    let due := x.live = true ∧ s.dev.flag (Reg.ALN_GO_CFG g) 0 = true ∧ x.due ≤ e.tim.clk ∧ s.dev.speaks = true
    (¬ due → Ends (exec (.gooseRetransmit n g) s) { s with dev := e }) ∧
    (due → EndsWith (exec (.gooseRetransmit n g) s) (fun t =>
      let gap := min (if x.sq = 0 then x.gap else 2 * x.gap) (s.dev.fld (Reg.ALN_GO_CFG g) 31 16)
      let y := t.dev.gooseOf g
      y.sq = (x.sq + 1) % 2 ^ 32 ∧ y.st = x.st ∧ y.vals = x.vals ∧ y.live = true ∧ y.gap = gap ∧ y.due = e.tim.clk + ticksMs gap ∧
      (∀ k, k < 16 → k ≠ g → t.dev.gooseOf k = s.dev.gooseOf k) ∧ t.dev.loc = s.dev.loc ∧ t.dev.isl = s.dev.isl ∧ t.ctl = s.ctl)))

/-- O48. Host operations on command groups, unlatching, repeats and the end of acknowledgement.
Each host operation that finds none pending, on a command group in force and, for a curtailment, with a setpoint up to 10,000, waits for its boundary with its data and time; else it is refused: BUSY (3) or REFUSED_GROUP (2), with the interrupt, and what waits stays. ISL_UNLATCH waits likewise. COMMAND_REPEAT sends a repeat that is due again under the same claim and takes it off or puts it on by its interval; under another claim it is dropped. CMD_ACK_END writes the counts of the acknowledgement, and raises the interrupt for any that did not follow.
Rests on R489; R497; R503; R504; R513; R514; R517. -/
def Obligations.ScaleCommands : Prop :=
  (∀ (s : State) (n : Nat) (i : Iface) (v : Word), s.canWrite i Reg.ISL_HOST_CMD → ∀ p ∈ [
        (1, exec (.hostCmdTrip n i v) s), (2, exec (.hostCmdCurtail n i v) s), (3, exec (.hostCmdHold n i v) s), (4, exec (.hostCmdClear n i v) s),
        (5, exec (.hostCmdRelease n i v) s)],
    let h := s.dev.isl.host
    let c := bits v 9 0
    let bad := s.dev.cmdRec c = none ∨ (p.1 = 2 ∧ 10000 < bits v 31 16)
    EndsWith p.2 (fun t =>
      (h.pend = none → ¬ bad → t.dev.isl = { s.dev.isl with host := { h with pend := some (c, p.1, bits v 31 16, max s.dev.tim.clk n) } }) ∧
      (h.pend = none → bad → t.dev.isl = { s.dev.isl with host := { h with last := 2 } } ∧ t.dev.flag Reg.ISL_INT_STATUS 5 = true) ∧
      (h.pend ≠ none → t.dev.isl = { s.dev.isl with host := { h with last := 3 } } ∧ t.dev.flag Reg.ISL_INT_STATUS 5 = true) ∧
      t.dev.roost = s.dev.roost ∧ t.dev.units = s.dev.units ∧ t.dev.loc = s.dev.loc ∧ t.ctl = s.ctl)) ∧
  (∀ (s : State) (n : Nat) (i : Iface) (v : Word), s.canWrite i Reg.ISL_UNLATCH → EndsWith (exec (.islUnlatch n i v) s) (fun t =>
    t.dev.isl = { s.dev.isl with host := { s.dev.isl.host with unlatch := s.dev.isl.host.unlatch ++ [(bits v 9 0, max s.dev.tim.clk n)] } } ∧
    t.dev.loc = s.dev.loc ∧ t.dev.units = s.dev.units ∧ t.ctl = s.ctl)) ∧
  (∀ (s : State) (n c : Nat), c < 1024 →
    let e := s.dev.tick n
    let x := s.dev.cmdGrp c
    let due := x.reps.find? (fun r => decide (r.next ≤ e.tim.clk))
    (due = none → Ends (exec (.commandRepeat n c) s) { s with dev := e }) ∧
    (∀ r, due = some r →
      let rest := x.reps.erase r
      (s.dev.speaks = false ∨ r.claim ≠ s.dev.units.claim →
        Ends (exec (.commandRepeat n c) s) { s with dev := e.modCmd c (fun y => { y with reps := rest }) }) ∧
      (s.dev.speaks = true → r.claim = s.dev.units.claim →
        let iv := ticksMs (beAt ((s.dev.recOf 0x0B04 c).getD []) 4 2)
        let left := if r.left ≤ 1 then rest else rest ++ [{ r with left := r.left - 1, next := r.next + iv }]
        Ends (exec (.commandRepeat n c) s) { s with dev := (r.acts.foldl (fun (d : Dev) a => d.act a) e).modCmd c (fun y => { y with reps := left }) })) ∧
    (x.ack = none → Ends (exec (.cmdAckEnd n c) s) { s with dev := e }) ∧
    (∀ a, x.ack = some a →
      (e.tim.clk < a.until' → Ends (exec (.cmdAckEnd n c) s) { s with dev := e }) ∧
      (a.until' ≤ e.tim.clk → EndsWith (exec (.cmdAckEnd n c) s) (fun t =>
        (t.dev.cmdGrp c).ack = none ∧ (t.dev.cmdGrp c).seq = x.seq ∧ (t.dev.cmdGrp c).reps = x.reps ∧
        (∀ k o m, a.counts = some (k, o, m) → (t.dev.cmdGrp c).unack = o + m ∧ (0 < o + m → t.dev.flag Reg.ISL_INT_STATUS 4 = true) ∧
          t.dev.evr = (e.record 0x0B02 (be 2 c ++ be 1 a.typ ++ zeros 1 ++ be 4 a.seq ++ be 4 k ++ be 4 o ++ be 4 m ++ zeros 4)).evr) ∧
        (∀ k, k ≠ c → t.dev.cmdGrp k = s.dev.cmdGrp k) ∧ t.dev.loc = s.dev.loc ∧ t.dev.units = s.dev.units ∧ t.ctl = s.ctl))))

/-- O49. The intake, the mirrored ring and the keep ring of the event recorder.
The active wing takes the head of the intake and gives it the next SEQ with its flags; a gap marker becomes a LOST record with the interrupt. The oldest sequenced record becomes readable when its gate is open: it joins the DRAM ring, its SEQ is that of the mirror, the standby's copy goes, and a keep record waits for the keep ring. There each copy that takes it holds it at its end, its oldest records making room, with the error count of the copies that fail; a failure of both loses it. The budget gains a record up to KEEP_BURST, and records that the standby has held for 10 ms are discarded.
Rests on R661; R662; R665; R667; R670; R671. -/
def Obligations.RecorderRings : Prop :=
  (∀ (s : State) (n : Nat),
    let e := s.dev.tick n
    (s.dev.evr.ready = false ∨ s.dev.evr.intake = [] → Ends (exec (.recIntakeTake n) s) { s with dev := e }) ∧
    (∀ r q, s.dev.evr.ready = true → s.dev.evr.intake = .record r :: q → EndsWith (exec (.recIntakeTake n) s) (fun t =>
      let keep := s.dev.keepOf r.typ
      let skip := keep && !keepFixed.contains r.typ && min s.dev.evr.budget (s.dev.fld Reg.REC_CTL 15 8) == 0
      let fl := b2n keep + 2 * b2n skip + (match r.wing with | some w => 4 + 8 * (w % 2) | none => 0)
      t.dev.evr.intake = q ∧ t.dev.evr.nextSeq = s.dev.evr.nextSeq + 1 ∧
      t.dev.evr.mirroring = s.dev.evr.mirroring ++ [⟨s.dev.evr.nextSeq, fl, r⟩] ∧ t.dev.evr.dram = s.dev.evr.dram ∧
      t.dev.nv.keep = s.dev.nv.keep ∧ t.dev.nv.keepB = s.dev.nv.keepB ∧ t.dev.loc = s.dev.loc ∧ t.ctl = s.ctl)) ∧
    (∀ c kc f l q, s.dev.evr.ready = true → s.dev.evr.intake = .gap c kc f l :: q → EndsWith (exec (.recIntakeTake n) s) (fun t =>
      t.dev.evr.intake = q ∧ t.dev.evr.nextSeq = s.dev.evr.nextSeq + 1 ∧ t.dev.flag Reg.REC_INT_STATUS 0 = true ∧
      (t.dev.evr.mirroring.map (·.r)) = s.dev.evr.mirroring.map (·.r) ++ [⟨0x0002, be 4 (min c 0xFFFFFFFF) ++ be 4 (min kc 0xFFFFFFFF) ++ be 8 f, l, e.tq, none⟩] ∧ t.ctl = s.ctl)) ∧
    (s.dev.evr.mirroring = [] → Ends (exec (.recReadable n) s) { s with dev := e }) ∧
    (∀ x q, s.dev.evr.mirroring = x :: q →
      (s.dev.gateOpen s.dev.active 2163 x.seq = false → Ends (exec (.recReadable n) s) { s with dev := e }) ∧
      (s.dev.gateOpen s.dev.active 2163 x.seq = true → EndsWith (exec (.recReadable n) s) (fun t =>
        t.dev.evr.mirroring = q ∧ t.dev.evr.mirrorNext = x.seq + 1 ∧ t.dev.evr.dram.held.getLast? = some x ∧
        (s.dev.evr.dram.fill + x.size ≤ dramBytes → t.dev.evr.dram.held = s.dev.evr.dram.held ++ [x] ∧ t.dev.evr.dram.lost = s.dev.evr.dram.lost) ∧
        t.dev.evr.keepPending = (if x.flags % 4 = 1 then s.dev.evr.keepPending ++ [x] else s.dev.evr.keepPending) ∧
        tget 0 t.dev.units.outSeq 2163 = x.seq + 1 ∧ t.dev.nv = s.dev.nv ∧ t.dev.loc = s.dev.loc ∧ t.ctl = s.ctl))) ∧
    Ends (exec (.recMirrorTimeout n) s)
      { s with dev := { e with evr := { e.evr with
          standbyHeld := s.dev.evr.standbyHeld.filter (fun x => decide (e.tim.clk < x.1 + ticksMs 10)) } } } ∧
    Ends (exec (.keepBudgetRefill n) s)
      { s with dev := { e with evr := { e.evr with budget := min (s.dev.fld Reg.REC_CTL 15 8) (s.dev.evr.budget + 1) } } }) ∧
  (∀ (s : State) (n : Nat) (okA okB : Bool),
    (s.dev.evr.keepPending = [] → Ends (exec (.keepRingWrite n okA okB) s) { s with dev := s.dev.tick n }) ∧
    (∀ x q, s.dev.evr.keepPending = x :: q → EndsWith (exec (.keepRingWrite n okA okB) s) (fun t =>
      t.dev.evr.keepPending = q ∧ t.dev.evr.nvOk = (okA && okB) ∧ t.dev.evr.dram = s.dev.evr.dram ∧
      t.dev.nv = { s.dev.nv with keep := if okA then s.dev.nv.keep.put x else s.dev.nv.keep, keepB := if okB then s.dev.nv.keepB.put x else s.dev.nv.keepB } ∧
      (∀ g : RecRing, (g.put x).held.getLast? = some x ∧ (g.fill + x.size ≤ keepBytes → g.put x = ⟨g.held ++ [x], g.lost⟩)) ∧
      ((okA && okB) = false → t.dev.flag Reg.REC_INT_STATUS 4 = true) ∧
      t.dev.rd Reg.REC_NV_ERR_CNT = (if okA && okB then s.dev.rd Reg.REC_NV_ERR_CNT else
        (s.dev.inc Reg.REC_NV_ERR_CNT (b2n (!okA) + b2n (!okB))).rd Reg.REC_NV_ERR_CNT) ∧ t.ctl = s.ctl)))

/-- O50. The read ports of the event recorder.
A status read of a port answers OK with the record at its cursor in the view of the interface, NOT_YET, or STALE, and consumes nothing when it is OK or NOT_YET; STALE moves the cursor to the oldest record after the loss, counts the skipped ones and raises the interrupt. CONSUME answers the same and moves the cursor past the record on OK. A write of CUR_HI sets the cursor from both halves. A quota from 1 to 64 MiB that leaves the two at most at 128 MiB is stored; any other keeps the old one and raises the interrupt.
Rests on R674; R675; R679; R680. -/
def Obligations.RecorderPorts : Prop :=
  ∀ (s : State) (n p : Nat) (i : Iface), p < 2 →
    let got (t : State) : Word := if i = .spi then t.dev.host.rdataS else t.dev.host.rdataP
    let c := s.dev.cur p
    (∀ consume : Bool, ∀ o, o = (if consume then exec (.recRpConsume n i p) s else exec (.recRpStatusRead n i p) s) →
      s.canRead (if consume then Reg.REC_RP_CONSUME p else Reg.REC_RP_STATUS p) →
      (∀ x, capture (s.dev.portRing p) c = .ok x → EndsWith o (fun t =>
        bits (got t) 1 0 = 0 ∧ (∀ j < 262, t.dev.latched i (Reg.REC_RP_DATA p j) = wordOf x.bytes j) ∧
        t.dev.cur p = (if consume then x.seq + 1 else c) ∧ t.dev.cur (1 - p) = s.dev.cur (1 - p) ∧ t.dev.evr.dram = s.dev.evr.dram ∧ t.dev.nv = s.dev.nv ∧
        t.dev.regs = s.dev.regs ∧ t.ctl = s.ctl)) ∧
      (capture (s.dev.portRing p) c = .notYet → EndsWith o (fun t => got t = 1 ∧ t.dev.evr = s.dev.evr ∧ t.dev.host.latch = s.dev.host.latch ∧
        t.dev.regs = s.dev.regs ∧ t.ctl = s.ctl)) ∧
      (∀ m, capture (s.dev.portRing p) c = .stale m → EndsWith o (fun t => got t = 2 ∧ t.dev.cur p = m ∧ t.dev.flag Reg.REC_INT_STATUS 1 = true ∧
        t.dev.rd (Reg.REC_RP_SKIP p) = w32 (min (m - c) 0xFFFFFFFF) ∧ t.dev.evr.dram = s.dev.evr.dram ∧ t.ctl = s.ctl))) ∧
    (∀ v : Word, s.canWrite i (Reg.REC_RP_CUR_HI p) → EndsWith (exec (.recCursorWrite n i p v) s) (fun t =>
      t.dev.cur p = s.dev.rdN (Reg.REC_RP_CUR_LO p) + 2 ^ 32 * v.toNat ∧ t.dev.cur (1 - p) = s.dev.cur (1 - p) ∧ t.dev.evr.dram = s.dev.evr.dram ∧
      (∀ a, a ≠ Reg.REC_RP_CUR_HI p → t.dev.rd a = s.dev.rd a) ∧ t.ctl = s.ctl)) ∧
    (∀ v : Word, s.canWrite i (Reg.REC_RP_QUOTA p) →
      let q := v.toNat % 128
      let good := 1 ≤ q ∧ q ≤ 64 ∧ q + s.dev.fld (Reg.REC_RP_QUOTA (1 - p)) 6 0 ≤ 128
      (good → EndsWith (exec (.recQuotaWrite n i p v) s) (fun t => t.dev.rdN (Reg.REC_RP_QUOTA p) = q ∧
        (∀ a, a ≠ Reg.REC_RP_QUOTA p → t.dev.rd a = s.dev.rd a) ∧ t.dev.evr = s.dev.evr ∧ t.ctl = s.ctl)) ∧
      (¬ good → EndsWith (exec (.recQuotaWrite n i p v) s) (fun t => t.dev.rd (Reg.REC_RP_QUOTA p) = s.dev.rd (Reg.REC_RP_QUOTA p) ∧
        t.dev.flag Reg.REC_INT_STATUS 5 = true ∧ t.dev.evr = s.dev.evr ∧ t.ctl = s.ctl)))

/-- O51. Key messages: their acceptance or refusal, their store, and their effect.
A message started while power holds, whatever its OP, has the RESULT of the first check that it fails: it is counted, raises the interrupt and changes neither the keys in force nor the store; BUSY comes first while another is in progress. While power fails none starts or ends. One that passes is being stored, with the slot or area that it makes; nothing is in force yet. The end of a good store keeps it in both copies, secret keys wrapped, but for the test root, and it takes effect at once in pupa, else from its boundary; a failed store is refused with RESULT 17 and changes no key. CLEAR zeroes the message.
Rests on R693; R694; R695; R696; R698; R703; R707. -/
def Obligations.KeyMessages : Prop :=
  (∀ (s : State) (n : Nat) (i : Iface) (v : Word) (o : Host.Outcome State Fault Refusal), s.canWrite i Reg.KEY_MSG_CTL → s.dev.pfHeld = false →
    o ∈ [exec (.keyInstall n i v) s, exec (.keyDelete n i v) s, exec (.keyAuthority n i v) s, exec (.keyOwn n i v) s] →
    let b := (List.range 128).flatMap (fun j => be 4 (s.dev.rdN (Reg.KEY_MSG_DATA j)))
    let res := s.dev.keyCheckMsg b (s.dev.fld Reg.KEY_MSG_LEN 9 0)
    (s.dev.key.stage ≠ 0 → res = 15) ∧ EndsWith o (fun t =>
      (res ≠ 0 → t.dev.key = s.dev.key ∧ t.dev.nv.keys = s.dev.nv.keys ∧ t.dev.nv.keysB = s.dev.nv.keysB ∧ t.dev.nv.fuses = s.dev.nv.fuses ∧ t.dev.fld Reg.KEY_MSG_STATUS 4 0 = res % 32 ∧
        t.dev.rd Reg.KEY_REFUSE_CNT = (s.dev.inc Reg.KEY_REFUSE_CNT 1).rd Reg.KEY_REFUSE_CNT ∧ t.dev.flag Reg.KEY_INT_STATUS 1 = true) ∧
      (res = 0 → t.dev.key.stage = 1 ∧ t.dev.key.msg = b ∧ t.dev.key.next = s.dev.keyArea b ∧ t.dev.key.force = s.dev.key.force ∧
        t.dev.key.store = s.dev.key.store ∧ t.dev.nv.keys = s.dev.nv.keys ∧ t.dev.fld Reg.KEY_MSG_STATUS 4 0 = 0 ∧ t.dev.flag Reg.KEY_MSG_STATUS 8 = true) ∧
      t.dev.loc = s.dev.loc ∧ t.dev.units = s.dev.units ∧ t.ctl = s.ctl)) ∧
  (∀ (s : State) (n : Nat) (i : Iface) (v : Word), s.canWrite i Reg.KEY_MSG_CTL → bit v 0 = false → EndsWith (exec (.keyMsgClear n i v) s) (fun t =>
    (∀ j < 128, t.dev.rd (Reg.KEY_MSG_DATA j) = 0) ∧ t.dev.key = s.dev.key ∧ (∀ a, (∀ j < 128, a ≠ Reg.KEY_MSG_DATA j) → t.dev.rd a = s.dev.rd a) ∧ t.ctl = s.ctl)) ∧
  (∀ (s : State) (n : Nat) (i : Iface) (v : Word), s.canWrite i Reg.KEY_MSG_CTL → s.dev.pfHeld = true → bit v 1 = false →
    Ends (exec (.keyInstall n i v) s) { s with dev := s.dev.tick n }) ∧
  (∀ (s : State) (n : Nat) (okA okB : Bool),
    let e := s.dev.tick n
    (s.dev.key.stage ≠ 1 ∨ s.dev.pfHeld = true → Ends (exec (.keyStoreDone n okA okB) s) { s with dev := e }) ∧
    (s.dev.key.stage = 1 → s.dev.pfHeld = false → (okA && okB) = false → EndsWith (exec (.keyStoreDone n okA okB) s) (fun t =>
      t.dev.key = { s.dev.key with stage := 0 } ∧ t.dev.nv.keys = s.dev.nv.keys ∧ t.dev.nv.fuses = s.dev.nv.fuses ∧
      t.dev.fld Reg.KEY_MSG_STATUS 4 0 = 17 ∧ t.dev.flag Reg.KEY_INT_STATUS 3 = true ∧ t.ctl = s.ctl)) ∧
    (s.dev.key.stage = 1 → s.dev.pfHeld = false → okA = true → okB = true → EndsWith (exec (.keyStoreDone n okA okB) s) (fun t =>
      t.dev.key.store = s.dev.key.next ∧ (s.dev.key.test = false → t.dev.nv.keys = s.dev.keyBlob s.dev.key.msg s.dev.nv.keys ∧ t.dev.nv.keysB = t.dev.nv.keys) ∧
      (s.dev.key.test = true → t.dev.nv.keys = s.dev.nv.keys ∧ t.dev.nv.keysB = s.dev.nv.keysB) ∧
      (s.dev.boot ≠ 2 → t.dev.key.stage = 2 ∧ t.dev.key.storedAt = e.tim.clk ∧ t.dev.key.force = s.dev.key.force ∧ t.dev.fld Reg.KEY_MSG_STATUS 4 0 = 1) ∧
      (s.dev.boot = 2 → t.dev.key.stage = 0 ∧ t.dev.key.force = keyLoad t.dev.key.fuses s.dev.key.test s.dev.key.next ∧
        t.dev.fld Reg.KEY_MSG_STATUS 4 0 = 2 ∧ t.dev.flag Reg.KEY_INT_STATUS 0 = true) ∧ t.ctl = s.ctl)))

/-- O52. Heartbeats of the wings, the takeover, and clock and digest faults.
A heartbeat that arrives clears the missed count of its paths. A missed one counts; the third in a row to the arbiter faults the wing when the other still reaches it, and enters SAFE when it does not; the third over the link alone faults the standby. A takeover that is due happens at its time and not before: the other wing holds the claim, whose epoch is one more than the highest seen and is stored first. A lost clock of one wing faults that wing and of both enters SAFE with cause 3. The attribution of the oldest digest mismatch ends with a fault of the wing whose test fails, and of the standby when neither does.
Rests on R711; R712; R716; R717; R721; R722; R758. -/
def Obligations.HeartbeatsAndTakeover : Prop :=
  (∀ (s : State) (n w : Nat) (link arb : Bool), w < 2 →
    let e := s.dev.tick n
    let x := s.dev.wing w
    Ends (exec (.wingHeartbeat n w link arb) s)
      { s with dev := e.modWing w (fun y => { y with missLink := if link then 0 else y.missLink, missArb := if arb then 0 else y.missArb }) } ∧
    (x.role = .faulted ∨ (link = false ∧ arb = false) → Ends (exec (.heartbeatMiss n w link arb) s) { s with dev := e }) ∧
    (x.role ≠ .faulted → arb = true → x.missArb < 2 → EndsWith (exec (.heartbeatMiss n w link arb) s) (fun t =>
      t.dev.wing w = { x with missArb := x.missArb + 1, missLink := if link then x.missLink + 1 else x.missLink } ∧ t.dev.wing (1 - w) = s.dev.wing (1 - w) ∧
      t.dev.units.due = s.dev.units.due ∧ t.dev.units.holder = s.dev.units.holder ∧ t.dev.boot = s.dev.boot ∧ t.ctl = s.ctl)) ∧
    (x.role ≠ .faulted → arb = true → 2 ≤ x.missArb → (s.dev.wing (1 - w)).arbPath = true → EndsWith (exec (.heartbeatMiss n w link arb) s) (fun t =>
      (t.dev.wing w).role = .faulted ∧ (t.dev.wing w).cause = 1 ∧ (t.dev.wing w).arbPath = false ∧ t.dev.units.holder = s.dev.units.holder ∧ t.ctl = s.ctl)) ∧
    (x.role ≠ .faulted → arb = true → 2 ≤ x.missArb → (s.dev.wing (1 - w)).arbPath = false → EndsWith (exec (.heartbeatMiss n w link arb) s) (fun t =>
      (t.dev.wing w).role = .faulted ∧ (t.dev.wing w).cause = 1 ∧ t.dev.boot = 7 ∧ t.dev.units.holder = s.dev.units.holder ∧ t.ctl = s.ctl)) ∧
    (x.role ≠ .faulted → (s.dev.wing (1 - w)).role ≠ .faulted → link = true → arb = false → 2 ≤ x.missLink → x.missArb = 0 → (s.dev.wing (1 - w)).missArb = 0 →
      (s.dev.wing (1 - w)).arbPath = true → EndsWith (exec (.heartbeatMiss n w link arb) s) (fun t =>
        (t.dev.wing (1 - s.dev.active)).role = .faulted ∧ (t.dev.wing (1 - s.dev.active)).cause = 1 ∧ t.dev.units.holder = s.dev.units.holder ∧ t.ctl = s.ctl))) ∧
  (∀ (s : State) (n : Nat),
    let e := s.dev.tick n
    (s.dev.units.due = none → Ends (exec (.takeover n) s) { s with dev := e }) ∧
    (∀ u c, s.dev.units.due = some u → u.at' = some c → e.tim.clk < c → Ends (exec (.takeover n) s) { s with dev := e }) ∧
    (∀ u c, s.dev.units.due = some u → u.at' = some c → c ≤ e.tim.clk → u.twin = false → u.old < 2 → s.dev.units.outs = [] → s.dev.isl.cmds = [] →
      s.dev.sch.w0.early = [] → s.dev.sch.w1.early = [] → s.dev.txn.st = .idle → s.dev.key.stage = 0 → EndsWith (exec (.takeover n) s) (fun t =>
        let epoch := (max s.dev.units.highest s.dev.nv.claimEpoch + 1) % 2 ^ 28
        t.dev.units.holder = some (1 - u.old) ∧ t.dev.units.claim = epoch * 16 + s.dev.twinId * 2 + (1 - u.old) ∧ t.dev.nv.claimEpoch = epoch ∧
        (t.dev.wing (1 - u.old)).role = .active ∧ (t.dev.wing u.old).role ≠ .active ∧ t.dev.units.due = none ∧
        t.dev.flag Reg.WNG_INT_STATUS 0 = true ∧ t.ctl = s.ctl))) ∧
  (∀ (s : State) (n w : Nat), w < 2 →
    Ends (exec (.clockLoss n false false) s) { s with dev := s.dev.tick n } ∧
    ((s.dev.wing w).role ≠ .faulted → EndsWith (exec (.clockLoss n (w == 0) (w == 1)) s) (fun t => (t.dev.wing w).role = .faulted ∧ t.ctl = s.ctl)) ∧
    (s.dev.boot ≠ 7 → EndsWith (exec (.clockLoss n true true) s) (fun t => t.dev.boot = 7 ∧ t.dev.rdN Reg.SAF_SAFE_CAUSE = 3 ∧ t.dev.flag Reg.SAF_INT_STATUS 0 = true ∧ t.ctl = s.ctl))) ∧
  (∀ (s : State) (n : Nat) (f0 f1 : Bool),
    (s.dev.units.attrib = [] → Ends (exec (.digestAttribution n f0 f1) s) { s with dev := s.dev.tick n }) ∧
    (∀ a r, s.dev.units.attrib = a :: r → s.dev.units.w0.role = .active → s.dev.units.w1.role = .standby → s.dev.units.holder = some 0 →
      EndsWith (exec (.digestAttribution n f0 f1) s) (fun t =>
        t.dev.units.attrib = r ∧ (t.dev.units.w0.role = .faulted ↔ f0 = true) ∧ (t.dev.units.w1.role = .faulted ↔ (f1 = true ∨ f0 = false)) ∧
        (f0 = true → t.dev.units.w0.cause = 4) ∧ (f1 = true ∨ f0 = false → t.dev.units.w1.cause = 4) ∧ t.ctl = s.ctl)))

/-- O53. SWITCH and REPAIR, and the way back to standby.
SWITCH with a healthy standby that is redundant waits for its boundary; else it is ignored. REPAIR starts the self-test of the faulted die, wing 0 first, and without one has no effect. A repaired die that passes is in RESYNC with no cause; one that fails keeps FAULTED with cause 8. A resynchronisation frame shows its progress while a unit is in RESYNC. A unit that converges leaves RESYNC for STANDBY, with record and interrupt. Each self-test slice of the standby publishes its number and failures, and a failed one faults it.
Rests on R738; R739; R740; R741; R751. -/
def Obligations.RepairAndResynchronisation : Prop :=
  (∀ (s : State) (n : Nat) (i : Iface) (v : Word), s.canWrite i Reg.WNG_CTL →
    (bit v 2 = false → EndsWith (exec (.wingSwitch n i v) s) (fun t =>
      t.dev.units = { s.dev.units with switchReq := s.dev.units.switchReq || (s.dev.hasStandby && s.dev.units.redundant) } ∧ t.dev.loc = s.dev.loc ∧ t.ctl = s.ctl)) ∧
    (bit v 3 = false → s.dev.units.repairing = none → EndsWith (exec (.wingRepair n i v) s) (fun t =>
      (s.dev.units.w0.role = .faulted → t.dev.units.repairing = some 0) ∧
      (s.dev.units.w0.role ≠ .faulted → s.dev.units.w1.role = .faulted → t.dev.units.repairing = some 1) ∧
      (s.dev.units.w0.role ≠ .faulted → s.dev.units.w1.role ≠ .faulted → t.dev.units = s.dev.units) ∧
      t.dev.units.holder = s.dev.units.holder ∧ t.dev.units.claim = s.dev.units.claim ∧ t.ctl = s.ctl))) ∧
  (∀ (s : State) (n w : Nat) (pass : Bool), w < 2 →
    (s.dev.units.repairing ≠ some w → Ends (exec (.wingSelftestDone n w pass) s) { s with dev := s.dev.tick n }) ∧
    (s.dev.units.repairing = some w → EndsWith (exec (.wingSelftestDone n w pass) s) (fun t =>
      t.dev.units.repairing = none ∧ t.dev.wing (1 - w) = s.dev.wing (1 - w) ∧ t.dev.units.holder = s.dev.units.holder ∧
      (pass = true → (t.dev.wing w).role = .resync ∧ (t.dev.wing w).cause = 0 ∧ (t.dev.wing w).arbPath = true ∧ t.dev.units.resyncAt = max s.dev.tim.clk n ∧
        t.dev.rdN Reg.WNG_RESYNC_PROG = 0) ∧
      (pass = false → (t.dev.wing w).role = (s.dev.wing w).role ∧ (t.dev.wing w).cause = 8 ∧ t.dev.flag Reg.WNG_INT_STATUS 1 = true) ∧ t.ctl = s.ctl))) ∧
  (∀ (s : State) (n k : Nat),
    let some' := s.dev.units.w0.role = .resync ∨ s.dev.units.w1.role = .resync ∨ s.dev.units.twinRole = .resync
    (some' → Ends (exec (.resyncFrame n k) s) { s with dev := (s.dev.tick n).wrN Reg.WNG_RESYNC_PROG (min 1000 k) }) ∧
    (¬ some' → Ends (exec (.resyncFrame n k) s) { s with dev := s.dev.tick n })) ∧
  (∀ (s : State) (n w : Nat), w < 2 →
    ((s.dev.wing w).role ≠ .resync → Ends (exec (.resyncConverge n w false) s) { s with dev := s.dev.tick n }) ∧
    ((s.dev.wing w).role = .resync → EndsWith (exec (.resyncConverge n w false) s) (fun t =>
      (t.dev.wing w).role = .standby ∧ t.dev.wing (1 - w) = s.dev.wing (1 - w) ∧ t.dev.units.matching = 0 ∧ t.dev.units.redundant = false ∧
      t.dev.units.holder = s.dev.units.holder ∧ t.ctl = s.ctl)) ∧
    (s.dev.units.twinRole = .resync → EndsWith (exec (.resyncConverge n w true) s) (fun t =>
      t.dev.units = { s.dev.units with twinRole := .standby, stoodDown := false } ∧ t.dev.flag Reg.WNG_INT_STATUS 4 = true ∧ t.ctl = s.ctl)) ∧
    (s.dev.units.twinRole ≠ .resync → Ends (exec (.resyncConverge n w true) s) { s with dev := s.dev.tick n })) ∧
  (∀ (s : State) (n : Nat) (failed : Bool),
    (s.dev.hasStandby = false → Ends (exec (.selftestSlice n failed) s) { s with dev := s.dev.tick n }) ∧
    (s.dev.hasStandby = true → s.dev.units.slice < 900 → EndsWith (exec (.selftestSlice n failed) s) (fun t =>
      let f := (if s.dev.units.slice = 0 then 0 else s.dev.units.sliceFail) + b2n failed
      t.dev.units.slice = (s.dev.units.slice + 1) % 900 ∧ t.dev.units.sliceFail = f ∧ t.dev.rd Reg.WNG_HEALTH = w32 (s.dev.units.slice + 65536 * f) ∧
      (s.dev.units.slice = 899 → t.dev.units.passAt = some (max s.dev.tim.clk n)) ∧
      (failed = true → (t.dev.wing (1 - s.dev.active)).role = .faulted ∧ (t.dev.wing (1 - s.dev.active)).cause = 8) ∧
      (failed = false → t.dev.wing (1 - s.dev.active) = s.dev.wing (1 - s.dev.active)) ∧ t.ctl = s.ctl)))

/-- O54. The Oznis link of twins, mirrored outputs and claim beacons.
A heartbeat is sent with the next LINK_SEQ of its lane. A correct one brings its lane up, clears its misses and shows the twin's role, state and instar; a frame with a bad CRC only counts. The third missed heartbeat takes the lane down. An unacknowledged frame goes once more on the other lane after 20 µs; the output of a single frame meets its gate again with the acknowledgement, or after that time with TWIN_CURRENT cleared. The standby twin takes a mirrored output and raises its sequence. Accepted reports are placed and health is kept on the standby. Beacons go out with the next sequence from the active twin; one with a bad tag only counts. Twin B claims 20 ms after its entry to RUN without a sign of twin A.
Rests on R726; R728; R729; R733; R734; R736; R742; R743; R744; R745. -/
def Obligations.TwinLink : Prop :=
  (∀ (s : State) (n l : Nat) (peer : Bool), l < 2 → (s.dev.loop 1 l).mode = 0 →
    let e := s.dev.tick n
    EndsWith (exec (.oznisHeartbeat n l none peer) s) (fun t => (t.dev.lane l).seq = ((s.dev.lane l).seq + 1) % 2 ^ 32 ∧ (t.dev.lane l).up = (s.dev.lane l).up ∧
      t.dev.lane (1 - l) = s.dev.lane (1 - l) ∧ t.dev.regs = s.dev.regs ∧ t.dev.units.outSeq = s.dev.units.outSeq ∧ t.ctl = s.ctl) ∧
    EndsWith (exec (.oznisHeartbeatMiss n l) s) (fun t =>
      (t.dev.lane l).up = ((s.dev.lane l).up && decide ((s.dev.lane l).missed < 2)) ∧ (t.dev.lane l).missed = (s.dev.lane l).missed + 1 ∧
      t.dev.lane (1 - l) = s.dev.lane (1 - l) ∧ t.ctl = s.ctl) ∧
    (∀ b : List Byte, ozValid b 1 → EndsWith (exec (.oznisHeartbeat n l (some b) peer) s) (fun t =>
      let p := ozLoad b
      (t.dev.lane l).up = true ∧ (t.dev.lane l).missed = 0 ∧ t.dev.units.peerState = byteAt p 17 ∧ t.dev.units.peerInstar = beAt p 8 4 ∧
      t.dev.units.peerClaim = beAt b 12 4 ∧ t.dev.units.peerLost = false ∧ (byteAt p 16 = 0 → t.dev.units.peerRole = .active) ∧
      (byteAt p 16 = 1 → t.dev.units.peerRole = .standby) ∧ (byteAt p 16 = 2 → t.dev.units.peerRole = .resync) ∧ t.ctl = s.ctl)) ∧
    (∀ b : List Byte, 20 ≤ b.length → crc32c (b.take (b.length - 4)) ≠ beAt b (b.length - 4) 4 →
      ∀ o, o ∈ [exec (.oznisHeartbeat n l (some b) peer) s, exec (.outputFrame n l b) s, exec (.outputAck n l b) s, exec (.reportFrame n l b) s, exec (.healthFrame n l b) s] →
        Ends o { s with dev := (e.incW (Reg.WNG_LANE_RX_CNT l) 1).inc (Reg.WNG_LANE_CRC_ERR l) 1 }) ∧
    (∀ b : List Byte, let r := (e.ozReceive l b).2; let p := ozLoad b
      (ozValid b 6 → Ends (exec (.healthFrame n l b) s) { s with dev := { r with units := { r.units with peerHealth := p } } }) ∧
      (ozValid b 9 → r.tim.lockedOnce = true → r.activeTwin = false →
        let k := fit 32 (p.drop 16)
        let d := r.place (beAt p 0 2) (beAt p 8 8) (slotNs r.rate (beAt p 8 8) + beAt k 30 2 * 32000) k none
        Ends (exec (.reportFrame n l b) s) { s with dev := d.2.pointPlaced (beAt p 0 2) d.1 }) ∧
      (ozValid b 3 → s.dev.activeTwin = false → EndsWith (exec (.outputFrame n l b) s) (fun t =>
        let o := beAt p 0 2
        let q := beAt p 8 8
        tget 0 t.dev.units.outSeq o = max (tget 0 s.dev.units.outSeq o) (q + 1) ∧ (∀ k, k ≠ o → tget 0 t.dev.units.outSeq k = tget 0 s.dev.units.outSeq k) ∧
        t.dev.units.outs = s.dev.units.outs.filter (fun x => !(x.o == o && decide (x.seq ≤ q))) ∧ (t.dev.lane l).seq = ((s.dev.lane l).seq + 1) % 2 ^ 32 ∧ t.ctl = s.ctl)) ∧
      (ozValid b 4 → (∀ y ∈ r.units.unacked, y.1.linkSeq ≠ beAt p 0 4) → Ends (exec (.outputAck n l b) s) { s with dev := r }) ∧
      (ozValid b 4 → ∀ o x, r.units.unacked = [(o, x)] → o.linkSeq = beAt p 0 4 →
        let d : Dev := { r with units := { r.units with unacked := [] } }
        Ends (exec (.outputAck n l b) s) { s with dev := if o.passed then d else d.passMirrored o x }))) ∧
  (∀ (s : State) (n k : Nat),
    let e := s.dev.tick n
    let late (y : OzOut × Out) : Bool := y.1.linkSeq == k && decide (y.1.at' + ticksUs 20 ≤ e.tim.clk)
    (s.dev.units.unacked.find? (fun y => late y) = none → Ends (exec (.oznisRetransmit n k) s) { s with dev := e } ∧
      Ends (exec (.outputAckTimeout n k) s) { s with dev := e }) ∧
    (∀ o x, s.dev.units.unacked = [(o, x)] → late (o, x) = true → o.lane < 2 →
      (o.passed = false → o.ready = 0 → Ends (exec (.outputAckTimeout n k) s)
        { s with dev := (({ e with units := { e.units with unacked := if o.again then [] else [({ o with ready := 1, passed := true }, x)], twinCurrent := false } }).raise
            Reg.WNG_INT_STATUS 7).passMirrored o x }) ∧
      (o.ready ≠ 0 → Ends (exec (.outputAckTimeout n k) s) { s with dev := e }) ∧
      (o.again = true → Ends (exec (.oznisRetransmit n k) s) { s with dev := e }) ∧
      (o.again = false → o.passed = false → (s.dev.lane (1 - o.lane)).up = true → EndsWith (exec (.oznisRetransmit n k) s) (fun t =>
        t.dev.units.unacked = [({ o with linkSeq := ((s.dev.lane (1 - o.lane)).seq + 1) % 2 ^ 32, lane := 1 - o.lane, again := true }, x)] ∧
        (t.dev.lane (1 - o.lane)).seq = ((s.dev.lane (1 - o.lane)).seq + 1) % 2 ^ 32 ∧ t.ctl = s.ctl))) ∧
    (s.dev.activeTwin = true → s.dev.flag Reg.WNG_CTL 1 = true → EndsWith (exec (.beaconSend n) s) (fun t =>
      t.dev.units.beaconSeq = (s.dev.units.beaconSeq + 1) % 2 ^ 32 ∧ t.dev.units.claim = s.dev.units.claim ∧ t.dev.loc = s.dev.loc ∧ t.ctl = s.ctl)) ∧
    (s.dev.activeTwin = false ∨ s.dev.flag Reg.WNG_CTL 1 = false → Ends (exec (.beaconSend n) s) { s with dev := e }) ∧
    (∀ b : List Byte, s.dev.flag Reg.WNG_CTL 1 = true → b.length = 40 → byteAt b 0 = 1 →
      (s.dev.beaconBytes (b.take 24) ≠ b → Ends (exec (.beaconReceived n b) s) { s with dev := e.inc Reg.WNG_BEACON_BAD_CNT 1 }) ∧
      (s.dev.beaconBytes (b.take 24) = b → beAt b 4 4 / 2 % 2 ≠ s.dev.twinId → EndsWith (exec (.beaconReceived n b) s) (fun t =>
        t.dev.units.lastBeacon = some e.tim.clk ∧ t.dev.units.highest = max s.dev.units.highest (beAt b 4 4 / 16) ∧
        (s.dev.activeTwin = true → s.dev.units.claim < beAt b 4 4 → t.dev.units.twinRole = .resync ∧ t.dev.units.stoodDown = true) ∧ t.ctl = s.ctl))) ∧
    (s.dev.units.outs = [] → s.dev.twinId = 1 → s.dev.tim.lockedOnce = true → s.dev.running = true → s.dev.units.holder = none →
      s.dev.units.runAt + ticksMs 20 ≤ e.tim.clk → s.dev.units.peerClaim = 0 → s.dev.units.lastBeacon = none → EndsWith (exec (.twinBClaimWait n) s) (fun t =>
        let epoch := (max s.dev.units.highest s.dev.nv.claimEpoch + 1) % 2 ^ 28
        t.dev.units.holder = some s.dev.active ∧ t.dev.units.claim = epoch * 16 + 2 + s.dev.active ∧ t.dev.nv.claimEpoch = epoch ∧ t.ctl = s.ctl)) ∧
    (e.tim.clk < s.dev.units.runAt + ticksMs 20 → Ends (exec (.twinBClaimWait n) s) { s with dev := e }))

/-- O55. SAF_CLEAR, and the proof of an alarm output.
SAF_CLEAR with bit 0 outside SAFE asks for the forcing to clear at the next boundaries; in SAFE it is ignored. A proof starts on a pin without alarm while the device runs: it is refused with 5 when the device does not run, with 3 while another proof runs, and with 4 on a pin in alarm. Its samples before their times have no effect; an alarm at the first, or one since the pulse at the second, ends it with 6; the second sample ends it with PASS, stored with its second, when both read back right, else with FAIL and the pin's fault. PROOF_DUE raises its interrupt when a safety pin has no pass within SAF_PROOF_INT days.
Rests on R757; R766; R774; R775; R779. -/
def Obligations.SafetyProofs : Prop :=
  (∀ (s : State) (n : Nat) (i : Iface) (v : Word), s.canWrite i Reg.SAF_CLEAR →
    (bit v 0 = true → s.dev.boot ≠ 7 → Ends (exec (.safClear n i v) s)
      { s with dev := { s.dev.tick n with saf := { s.dev.saf with clearDet := true, clearWide := true } } }) ∧
    (bit v 0 = false ∨ s.dev.boot = 7 → Ends (exec (.safClear n i v) s) { s with dev := s.dev.tick n })) ∧
  (∀ (s : State) (n : Nat) (i : Iface) (v : Word), s.canWrite i Reg.SAF_PROOF_CTL →
    let pin := bits v 3 0
    EndsWith (exec (.proofStart n i v) s) (fun t =>
      (s.dev.running = false → t.dev.fld Reg.SAF_PROOF_STATUS 2 0 = 5 ∧ t.dev.saf = s.dev.saf ∧ t.dev.flag Reg.SAF_INT_STATUS 4 = true) ∧
      (s.dev.running = true → s.dev.saf.proof ≠ none → t.dev.fld Reg.SAF_PROOF_STATUS 2 0 = 3 ∧ t.dev.saf = s.dev.saf ∧ t.dev.flag Reg.SAF_INT_STATUS 4 = true) ∧
      (s.dev.running = true → s.dev.saf.proof = none → ((s.dev.ao pin).alarm = true ∨ s.dev.pins.aoReleased.testBit pin = true) →
        t.dev.fld Reg.SAF_PROOF_STATUS 2 0 = 4 ∧ t.dev.saf = s.dev.saf) ∧
      (s.dev.running = true → s.dev.saf.proof = none → (s.dev.ao pin).alarm = false → s.dev.pins.aoReleased.testBit pin = false →
        t.dev.saf = { s.dev.saf with proof := some (pin, max s.dev.tim.clk n, none) } ∧ t.dev.fld Reg.SAF_PROOF_STATUS 7 4 = pin) ∧
      t.dev.loc = s.dev.loc ∧ t.dev.units = s.dev.units ∧ t.ctl = s.ctl)) ∧
  (∀ (s : State) (n pin c : Nat) (level : Bool) (first : Option Bool), s.dev.saf.proof = some (pin, c, first) →
    let e := s.dev.tick n
    let pulse := ticksUs (s.dev.fld Reg.SAF_PROOF_CFG 9 0)
    (first = none → e.tim.clk < c + pulse / 2 → Ends (exec (.proofSample n level) s) { s with dev := e }) ∧
    (first = none → c + pulse / 2 ≤ e.tim.clk → (s.dev.ao pin).alarm = false → Ends (exec (.proofSample n level) s)
      { s with dev := { e with saf := { e.saf with proof := some (pin, c, some (!level)) } } }) ∧
    (first = none → c + pulse / 2 ≤ e.tim.clk → (s.dev.ao pin).alarm = true → EndsWith (exec (.proofSample n level) s) (fun t =>
      t.dev.saf.proof = none ∧ t.dev.fld Reg.SAF_PROOF_STATUS 2 0 = 6 ∧ t.ctl = s.ctl)) ∧
    (∀ ok, first = some ok → e.tim.clk < c + pulse + pulse / 2 → Ends (exec (.proofSample n level) s) { s with dev := e }) ∧
    (∀ ok, first = some ok → c + pulse + pulse / 2 ≤ e.tim.clk → (s.dev.ao pin).alarm = true → (s.dev.ao pin).since ≤ c + pulse → EndsWith (exec (.proofSample n level) s) (fun t =>
      t.dev.saf.proof = none ∧ t.dev.fld Reg.SAF_PROOF_STATUS 2 0 = 6 ∧ t.ctl = s.ctl)) ∧
    (∀ ok, first = some ok → c + pulse + pulse / 2 ≤ e.tim.clk → (s.dev.ao pin).alarm = false → EndsWith (exec (.proofSample n level) s) (fun t =>
      t.dev.saf.proof = none ∧ t.dev.flag Reg.SAF_INT_STATUS 4 = true ∧
      (ok = true → level = s.dev.aoLevel pin → t.dev.fld Reg.SAF_PROOF_STATUS 2 0 = 1 ∧ t.dev.nv.proofSec = tput s.dev.nv.proofSec pin e.sec ∧
        t.dev.saf.aoFault = s.dev.saf.aoFault) ∧
      (ok = false ∨ level ≠ s.dev.aoLevel pin → t.dev.fld Reg.SAF_PROOF_STATUS 2 0 = 2 ∧ t.dev.saf.aoFault.testBit pin = true ∧ t.dev.nv = s.dev.nv) ∧ t.ctl = s.ctl))) ∧
  (∀ (s : State) (n : Nat), s.dev.saf.proof = none → ∀ level, Ends (exec (.proofSample n level) s) { s with dev := s.dev.tick n }) ∧
  (∀ (s : State) (n : Nat),
    ((s.dev.tick n).proofDue = true → Ends (exec (.proofDue n) s) { s with dev := (s.dev.tick n).raise Reg.SAF_INT_STATUS 5 }) ∧
    ((s.dev.tick n).proofDue = false → Ends (exec (.proofDue n) s) { s with dev := s.dev.tick n }))

/-- O56. TXN_CMD: what each OP does, and the codes of its refusals.
BEGIN opens a transaction for its interface, empty, with the time-out in force; with RESUME it takes a restored one that nobody owns; else BUSY. An undefined OP is BAD_OP. Any other OP while the other interface holds the transaction is BUSY; COMMIT, LOAD_RESET, ROLLBACK, LOAD_IMAGE and CLEAR_STAGING outside OPEN are NOT_OPEN. The owner's COMMIT is refused in probation and when nothing is staged, else validation starts; ROLLBACK discards everything; CLEAR_STAGING empties the staging; LOAD_IMAGE stages host memory up to 8 MiB. CONFIRM and REVERT ask for the next boundary, REVERT in probation for a slot that qualifies, else for a CONFIRMED one. A refusal sets RESULT and the interrupt and changes nothing of the transaction.
Rests on R788; R797; R799; R809; R813; R814. -/
def Obligations.TransactionCommands : Prop :=
  ∀ (s : State) (n : Nat) (i : Iface) (v : Word), s.canWrite i Reg.TXN_CMD →
    let x := s.dev.txn
    let keeps (t : State) : Prop := t.dev.txn.cfg = x.cfg ∧ t.dev.txn.inForce = x.inForce ∧ t.dev.txn.probation = x.probation ∧ t.dev.nv = s.dev.nv ∧
      t.dev.loc = s.dev.loc ∧ t.ctl = s.ctl
    let held (t : State) : Prop := t.dev.txn.staging = x.staging ∧ t.dev.txn.shadows = x.shadows ∧ t.dev.txn.windows = x.windows
    let no (code : Nat) (t : State) : Prop := t.dev.rdN Reg.TXN_RESULT = code ∧ t.dev.flag Reg.TXN_INT_STATUS 1 = true ∧ t.dev.txn.st = x.st ∧
      t.dev.txn.owner = x.owner ∧ t.dev.txn.confirmReq = x.confirmReq ∧ t.dev.txn.revertReq = x.revertReq ∧ held t ∧ keeps t
    let ok (t : State) : Prop := t.dev.rdN Reg.TXN_RESULT = 0 ∧ keeps t
    let c := exec (.txnCommit n i v) s
    let l := exec (.txnLoadReset n i v) s
    let r := exec (.txnRollback n i v) s
    let m := exec (.txnLoadImage n i v) s
    let k := exec (.txnClearStaging n i v) s
    (x.st = .idle → EndsWith (exec (.txnBegin n i v) s) (fun t => t.dev.txn.st = .opened ∧ t.dev.txn.owner = some i ∧ t.dev.txn.shadows = [] ∧
      t.dev.txn.windows = [] ∧ t.dev.txn.staging = [] ∧ t.dev.txn.lastAt = max s.dev.tim.clk n ∧ t.dev.txn.timeout = s.dev.fld Reg.TXN_TIMEOUT 11 0 ∧ ok t)) ∧
    (x.st ≠ .idle → x.restored = true → x.owner = none → bit v 4 = true → EndsWith (exec (.txnBegin n i v) s) (fun t =>
      t.dev.txn.st = x.st ∧ t.dev.txn.owner = some i ∧ held t ∧ ok t)) ∧
    (x.st ≠ .idle → (x.restored = false ∨ x.owner ≠ none ∨ bit v 4 = false) → EndsWith (exec (.txnBegin n i v) s) (no 17)) ∧
    (bits v 3 0 = 0 ∨ 8 < bits v 3 0 → EndsWith (exec (.txnBadOp n i v) s) (no 37)) ∧
    (x.st ≠ .idle → x.owner ≠ some i → ∀ o ∈ [c, l, r, m, k, exec (.txnConfirm n i v) s, exec (.txnRevert n i v) s], EndsWith o (no 17)) ∧
    (x.st ≠ .opened → (x.st = .idle ∨ x.owner = some i) → ∀ o ∈ [c, l, r, m, k], EndsWith o (no 16)) ∧
    (x.st = .opened → x.owner = some i →
      (x.probation.isSome = true → ∀ o ∈ [c, l], EndsWith o (no 27)) ∧
      (x.probation = none → x.staging = [] → x.shadows = [] → x.windows = [] → ∀ o ∈ [c, l], EndsWith o (no 34)) ∧
      (x.probation = none → (x.staging ≠ [] ∨ x.shadows ≠ [] ∨ x.windows ≠ []) →
        EndsWith c (fun t => t.dev.txn.st = .validating ∧ t.dev.txn.loadReset = false ∧ t.dev.txn.owner = some i ∧ held t ∧ ok t) ∧
        EndsWith l (fun t => t.dev.txn.st = .validating ∧ t.dev.txn.loadReset = true ∧ t.dev.txn.owner = some i ∧ held t ∧ ok t)) ∧
      EndsWith r (fun t => t.dev.txn.st = .idle ∧ t.dev.txn.owner = none ∧ t.dev.txn.staging = [] ∧ t.dev.txn.shadows = [] ∧ t.dev.txn.windows = [] ∧ ok t) ∧
      EndsWith k (fun t => t.dev.txn.st = .opened ∧ t.dev.txn.owner = some i ∧ t.dev.txn.staging = [] ∧ t.dev.txn.shadows = x.shadows ∧
        t.dev.txn.windows = x.windows ∧ ok t) ∧
      (8388608 < s.dev.fld Reg.TXN_IMG_LEN 23 0 → EndsWith m (no 25)) ∧
      (s.dev.fld Reg.TXN_IMG_LEN 23 0 ≤ 8388608 → s.dev.dma = true → EndsWith m (fun t => t.dev.txn.st = .opened ∧ t.dev.txn.owner = some i ∧
        t.dev.txn.staging = s.dev.dmaRead (s.dev.rd64 Reg.TXN_IMG_BASE_LO Reg.TXN_IMG_BASE_HI) (s.dev.fld Reg.TXN_IMG_LEN 23 0) ∧
        t.dev.txn.shadows = x.shadows ∧ ok t))) ∧
    (x.st = .idle ∨ x.owner = some i →
      EndsWith (exec (.txnConfirm n i v) s) (fun t => t.dev.txn.st = x.st ∧ t.dev.txn.confirmReq = (x.confirmReq || x.probation.isSome || x.stayed) ∧ held t ∧ keeps t) ∧
      (x.inForce = none → EndsWith (exec (.txnRevert n i v) s) (no 36)) ∧
      (∀ f, x.inForce = some f →
        let good := s.dev.qualifies (1 - f)
        (x.probation.isSome = true → good = true → EndsWith (exec (.txnRevert n i v) s) (fun t => t.dev.txn.rollback.isSome = true ∧ t.dev.txn.st = x.st ∧ held t ∧ keeps t)) ∧
        (x.probation = none → (s.dev.nvSlot (1 - f)).st = 2 → EndsWith (exec (.txnRevert n i v) s) (fun t =>
          t.dev.txn.revertReq = true ∧ t.dev.txn.st = x.st ∧ held t ∧ keeps t)) ∧
        ((x.probation.isSome = true ∧ good = false) ∨ (x.probation = none ∧ (s.dev.nvSlot (1 - f)).st ≠ 2) → EndsWith (exec (.txnRevert n i v) s) (no 36))))

/-- O57. Shadow writes, the staging port, the time-out, validation and the store of a commit.
The owner's write of an RWS register of an open transaction goes to the shadow, not to the register. A word of TXN_IMG_WDATA is appended to the staging, or refused as NOT_OPEN, BUSY or, beyond 8 MiB, TOO_LARGE. An open transaction from whose owner nothing has come for TXN_TIMEOUT seconds is discarded with TIMEOUT. The end of validation refuses with the code of the check that fails, and opens the transaction again, or starts the store in the other slot. The end of the store refuses with STORE_FAIL, or writes the slot in PROBATION and, running alone, schedules the commit at the first boundary of R803 or the asked one, if that is not too soon. Outside their states both ends do nothing, nor does the end of validation while power fails.
Rests on R797; R798; R799; R801; R802; R803; R813. -/
def Obligations.TransactionStaging : Prop :=
  (∀ (s : State) (n : Nat) (i : Iface) (v : Word), s.canWrite i Reg.TXN_IMG_WDATA →
    let x := s.dev.txn
    let no (code : Nat) (t : State) : Prop := t.dev.rdN Reg.TXN_RESULT = code ∧ t.dev.flag Reg.TXN_INT_STATUS 1 = true ∧ t.dev.txn.st = x.st ∧
      t.dev.txn.staging = x.staging ∧ t.dev.txn.shadows = x.shadows ∧ t.dev.nv = s.dev.nv ∧ t.ctl = s.ctl
    (x.st ≠ .opened → EndsWith (exec (.txnImgWdata n i v) s) (no 16)) ∧
    (x.st = .opened → x.owner ≠ some i → EndsWith (exec (.txnImgWdata n i v) s) (no 17)) ∧
    (x.st = .opened → x.owner = some i → 8388608 < x.staging.length + 4 → EndsWith (exec (.txnImgWdata n i v) s) (no 25)) ∧
    (x.st = .opened → x.owner = some i → x.staging.length + 4 ≤ 8388608 → EndsWith (exec (.txnImgWdata n i v) s) (fun t =>
      t.dev.txn.staging = x.staging ++ be 4 v.toNat ∧ t.dev.txn.st = .opened ∧ t.dev.txn.owner = some i ∧ t.dev.txn.shadows = x.shadows ∧
      t.dev.txn.lastAt = max s.dev.tim.clk n ∧ (∀ a, a ≠ Reg.TXN_IMG_WDATA → t.dev.rd a = s.dev.rd a) ∧ t.dev.nv = s.dev.nv ∧ t.ctl = s.ctl))) ∧
  (∀ (s : State) (n : Nat) (i : Iface) (v : Word), s.canWrite i Reg.TXN_PROBATION → s.dev.txn.st = .opened → s.dev.txn.owner = some i →
    (s.dev.device = none ∨ s.dev.hostRws = true) → s.dev.txn.shadows = [] → s.dev.txn.windows = [] →
    EndsWith (exec (.registerWrite n i 15 Reg.TXN_PROBATION v) s) (fun t => t.dev.txn.shadows = [(Reg.TXN_PROBATION, w32 (bits v 15 0))] ∧
      t.dev.rd Reg.TXN_PROBATION = s.dev.rd Reg.TXN_PROBATION ∧ t.dev.txn.cfg = s.dev.txn.cfg ∧ t.dev.nv = s.dev.nv ∧ t.ctl = s.ctl)) ∧
  (∀ (s : State) (n : Nat),
    let e := s.dev.tick n
    let x := s.dev.txn
    let late := x.st = .opened ∧ x.owner ≠ none ∧ x.lastAt + ticksSec x.timeout ≤ e.tim.clk
    (late → EndsWith (exec (.txnTimeoutExpiry n) s) (fun t => t.dev.txn.st = .idle ∧ t.dev.txn.owner = none ∧ t.dev.txn.shadows = [] ∧ t.dev.txn.windows = [] ∧
      t.dev.txn.staging = [] ∧ t.dev.rdN Reg.TXN_RESULT = 32 ∧ t.dev.flag Reg.TXN_INT_STATUS 4 = true ∧ t.dev.nv = s.dev.nv ∧ t.dev.loc = s.dev.loc ∧ t.ctl = s.ctl)) ∧
    (¬ late → Ends (exec (.txnTimeoutExpiry n) s) { s with dev := e }) ∧
    (x.st ≠ .validating ∨ s.dev.pfHeld = true → Ends (exec (.txnValidationDone n) s) { s with dev := e }) ∧
    (x.st = .validating → s.dev.pfHeld = false →
      (∀ code a b o, e.commitCheck = some (code, a, b, o) → code < 38 → EndsWith (exec (.txnValidationDone n) s) (fun t =>
        t.dev.txn.st = .opened ∧ t.dev.txn.owner = x.owner ∧ t.dev.txn.staging = x.staging ∧ t.dev.txn.shadows = x.shadows ∧ t.dev.txn.windows = x.windows ∧
        t.dev.rdN Reg.TXN_RESULT = code ∧ t.dev.flag Reg.TXN_INT_STATUS 1 = true ∧ t.dev.nv = s.dev.nv ∧ t.dev.txn.cfg = x.cfg ∧ t.ctl = s.ctl)) ∧
      (e.commitCheck = none → EndsWith (exec (.txnValidationDone n) s) (fun t => t.dev.txn.st = .storing ∧ t.dev.txn.owner = x.owner ∧
        (t.dev.nvSlot s.dev.otherSlot).st = 0 ∧ t.dev.nvSlot (1 - s.dev.otherSlot) = s.dev.nvSlot (1 - s.dev.otherSlot) ∧ t.dev.txn.cfg = x.cfg ∧ t.ctl = s.ctl))) ∧
    (∀ good : Bool, x.st ≠ .storing → Ends (exec (.txnStoreDone n good) s) { s with dev := e }) ∧
    (x.st = .storing → EndsWith (exec (.txnStoreDone n false) s) (fun t => t.dev.txn.st = .opened ∧ t.dev.txn.staging = x.staging ∧
      t.dev.txn.shadows = x.shadows ∧ t.dev.rdN Reg.TXN_RESULT = 30 ∧ t.dev.flag Reg.TXN_INT_STATUS 1 = true ∧ t.dev.nv = s.dev.nv ∧ t.ctl = s.ctl)) ∧
    (x.st = .storing → x.loadReset = false → s.dev.boot ≠ 2 → (s.dev.units.paired = false ∨ s.dev.units.twinCurrent = false) →
      let b := firstBoundary s.dev.rate (e.ns + 2000000)
      (s.dev.txnAt = 0 ∨ b ≤ s.dev.txnAt → EndsWith (exec (.txnStoreDone n true) s) (fun t =>
        t.dev.txn.st = .scheduled ∧ t.dev.txn.boundary = max b s.dev.txnAt ∧ t.dev.rdN Reg.TXN_RESULT = 1 ∧ (t.dev.nvSlot s.dev.otherSlot).st = 1 ∧
        (t.dev.nvSlot s.dev.otherSlot).instar = s.dev.newInstar ∧ t.dev.nv.instarHigh = max s.dev.nv.instarHigh s.dev.newInstar ∧
        t.dev.nvSlot (1 - s.dev.otherSlot) = s.dev.nvSlot (1 - s.dev.otherSlot) ∧ t.dev.txn.cfg = x.cfg ∧ t.ctl = s.ctl)) ∧
      (s.dev.txnAt ≠ 0 → s.dev.txnAt < b → EndsWith (exec (.txnStoreDone n true) s) (fun t =>
        t.dev.txn.st = .opened ∧ t.dev.rdN Reg.TXN_RESULT = 33 ∧ t.dev.flag Reg.TXN_INT_STATUS 1 = true ∧ (t.dev.nvSlot s.dev.otherSlot).st = 3 ∧
        t.dev.nv.instarHigh = s.dev.nv.instarHigh ∧ t.dev.txn.cfg = x.cfg ∧ t.ctl = s.ctl))))

/-- O58. The exchange of a commit between twins, and the end of probation.
A whole ACK of the instar being prepared schedules the commit and counts its instar; a NAK, or 50 ms without an answer, rolls the slot back and refuses with TWIN_NAK; before 50 ms and outside PREPARING the answers change only what every frame changes. The standby twin that receives PREPARE in IDLE, with agreeing roots, signatures, hash, a higher instar and rules that hold, writes its slot and schedules; else it writes nothing; an ABORT of what it has agreed to rolls its slot back and closes its transaction. An active twin does none of these. The end of the probation count confirms the slot in force; before that, or with a roll-back waiting, the command does nothing.
Rests on R737; R744; R799; R807; R809. -/
def Obligations.TwinCommitsAndProbation : Prop :=
  (∀ (s : State) (n l : Nat) (b : List Byte), l < 2 → ozValid b 5 →
    let e := s.dev.tick n
    let r := (e.ozReceive l b).2
    let p := ozLoad b
    let o := r.otherSlot
    let mine (phase : Nat) : Prop := r.txn.st = .preparing ∧ byteAt p 0 = phase ∧ beAt p 4 4 = (r.nvSlot o).instar
    (mine 2 → EndsWith (exec (.txnAck n l b) s) (fun t => t.dev.txn.st = .scheduled ∧ t.dev.txn.boundary = r.txn.boundary ∧
      t.dev.rdN Reg.TXN_RESULT = 1 ∧ t.dev.nv.instarHigh = max r.nv.instarHigh (r.nvSlot o).instar ∧ t.dev.txn.cfg = r.txn.cfg ∧ t.ctl = s.ctl)) ∧
    (¬ mine 2 → Ends (exec (.txnAck n l b) s) { s with dev := r }) ∧
    (mine 3 → EndsWith (exec (.txnNak n l b) s) (fun t => t.dev.txn.st = .opened ∧ t.dev.rdN Reg.TXN_RESULT = 28 ∧ t.dev.flag Reg.TXN_INT_STATUS 1 = true ∧
      (t.dev.nvSlot o).st = 3 ∧ t.dev.nv.instarHigh = r.nv.instarHigh ∧ t.dev.txn.cfg = r.txn.cfg ∧ t.ctl = s.ctl)) ∧
    (¬ mine 3 → Ends (exec (.txnNak n l b) s) { s with dev := r }) ∧
    (∀ (elems : List (Nat × List Byte)) (roots : Bool),
      (r.activeTwin = true → Ends (exec (.txnPrepare n l b elems roots) s) { s with dev := r }) ∧
      (r.activeTwin = false → byteAt p 0 = 1 →
        let chain := chainWith r.chainNow elems
        let agreed := r.txn.st = .idle ∧ roots = true ∧
          (∀ x ∈ elems, x.1 = 2 ∨ ∃ pub, r.cfgAuthority = some pub ∧ imgSigned pub x.2 = true) ∧
          Config.sha256 (chainBytes chain) = (p.drop 16).take 32 ∧ r.nv.instarHigh < beAt p 4 4 ∧ r.breaks (cfgChain chain) false = []
        (agreed → EndsWith (exec (.txnPrepare n l b elems roots) s) (fun t => t.dev.txn.st = .scheduled ∧ t.dev.txn.boundary = beAt p 8 8 ∧
          t.dev.txn.source = 2 ∧ (t.dev.nvSlot o).st = 1 ∧ (t.dev.nvSlot o).instar = beAt p 4 4 ∧ (t.dev.nvSlot o).elems = chain ∧
          t.dev.nv.instarHigh = beAt p 4 4 ∧ t.dev.txn.cfg = r.txn.cfg ∧ t.ctl = s.ctl)) ∧
        (¬ agreed → EndsWith (exec (.txnPrepare n l b elems roots) s) (fun t => t.dev.txn.st = r.txn.st ∧ t.dev.nv = r.nv ∧ t.dev.txn.cfg = r.txn.cfg ∧
          t.ctl = s.ctl))) ∧
      (r.activeTwin = false → byteAt p 0 = 4 →
        let undo := r.txn.st = .scheduled ∧ r.txn.source = 2 ∧ (r.nvSlot o).instar = beAt p 4 4
        (undo → EndsWith (exec (.txnPrepare n l b elems roots) s) (fun t => t.dev.txn.st = .idle ∧ (t.dev.nvSlot o).st = 3 ∧
          t.dev.nvSlot (1 - o) = r.nvSlot (1 - o) ∧ t.dev.txn.cfg = r.txn.cfg ∧ t.ctl = s.ctl)) ∧
        (¬ undo → Ends (exec (.txnPrepare n l b elems roots) s) { s with dev := r })))) ∧
  (∀ (s : State) (n : Nat),
    let e := s.dev.tick n
    let due := s.dev.txn.st = .preparing ∧ s.dev.txn.prepAt + ticksMs 50 ≤ e.tim.clk
    (¬ due → Ends (exec (.twinPrepareTimeout n) s) { s with dev := e }) ∧
    (due → EndsWith (exec (.twinPrepareTimeout n) s) (fun t => t.dev.txn.st = .opened ∧ t.dev.rdN Reg.TXN_RESULT = 28 ∧
      t.dev.flag Reg.TXN_INT_STATUS 1 = true ∧ (t.dev.nvSlot s.dev.otherSlot).st = 3 ∧ t.dev.txn.staging = s.dev.txn.staging ∧
      t.dev.txn.shadows = s.dev.txn.shadows ∧ t.dev.txn.cfg = s.dev.txn.cfg ∧ t.ctl = s.ctl)) ∧
    (s.dev.txn.probation ≠ some 0 ∨ s.dev.txn.probWait = true ∨ s.dev.txn.rollback ≠ none → Ends (exec (.probationEnd n) s) { s with dev := e }) ∧
    (∀ f, s.dev.txn.inForce = some f → s.dev.txn.probation = some 0 → s.dev.txn.probWait = false → s.dev.txn.rollback = none →
      EndsWith (exec (.probationEnd n) s) (fun t => t.dev.txn.probation = none ∧ (t.dev.nvSlot f).st = 2 ∧ t.dev.rdN Reg.TXN_RESULT = 3 ∧
        t.dev.flag Reg.TXN_INT_STATUS 2 = true ∧ t.dev.txn.cfg = s.dev.txn.cfg ∧ t.dev.txn.inForce = some f ∧ t.ctl = s.ctl)))

/-- O59. Writes that start and end test loop-backs, and the outcome that they show.
A write with MODE 0 asks for the end of the loop-back that runs, or withdraws one asked for; the mode that runs already changes nothing; another mode while one runs is BUSY; a mode that leaves a path uncovered is NOT_COVERED without OVERRIDE; else the mode is asked for at the next boundaries. A mode that the port lacks is BAD_MODE. The endpoint's loop is asked for through SPI only, a PPS loop on an input that no domain uses and while the other loop is off, else IN_USE or BUSY. PROD_MODE is taken only under the strap DEBUG_EN, else NOT_PROD. A refusal raises the interrupt.
Rests on R871; R872; R874; R875; R876; R877; R880; R884; R886; R887; R888. -/
def Obligations.TestRequests : Prop :=
  ∀ (s : State) (n : Nat) (i : Iface) (v : Word),
    let clk := max s.dev.tim.clk n
    let last (t : State) : Nat := t.dev.fld Reg.TST_LB_RESULT 2 0
    let no (code : Nat) (t : State) : Prop := last t = code ∧ t.dev.flag Reg.TST_INT_STATUS 3 = true ∧ t.dev.tst.loops = s.dev.tst.loops ∧ t.dev.nv = s.dev.nv ∧
      t.dev.txn.cfg = s.dev.txn.cfg ∧ t.ctl = s.ctl
    let asks (o : Host.Outcome State Fault Refusal) (kind idx m : Nat) (ovr covered : Bool) : Prop :=
      let x := s.dev.loop kind idx
      (m = 0 → EndsWith o (fun t => (t.dev.loop kind idx).req = (if x.mode = 0 then none else some (0, clk)) ∧ (t.dev.loop kind idx).mode = x.mode ∧
        last t = 1 ∧ t.dev.nv = s.dev.nv ∧ t.ctl = s.ctl)) ∧
      (m ≠ 0 → x.mode = m → x.req = none → EndsWith o (fun t => t.dev.tst.loops = s.dev.tst.loops ∧
        t.dev.rd Reg.TST_LB_RESULT = s.dev.rd Reg.TST_LB_RESULT ∧ t.ctl = s.ctl)) ∧
      (m ≠ 0 → x.mode ≠ 0 → (x.mode ≠ m ∨ x.req ≠ none) → EndsWith o (no 2)) ∧
      (m ≠ 0 → x.mode = 0 → covered = false → ovr = false → EndsWith o (no 4)) ∧
      (m ≠ 0 → x.mode = 0 → (covered = true ∨ ovr = true) → EndsWith o (fun t => (t.dev.loop kind idx).req = some (m, clk) ∧
        (t.dev.loop kind idx).mode = 0 ∧ (t.dev.loop kind idx).override = ovr ∧ last t = 0 ∧ t.dev.nv = s.dev.nv ∧ t.ctl = s.ctl))
    (∀ p < 8, s.canWrite i (Reg.TST_PORT_CTL p) → ∀ x ∈ [(0, exec (.portLoopOff n i p v) s), (1, exec (.portLoopMac n i p v) s), (2, exec (.portLoopPcs n i p v) s),
        (3, exec (.portLoopPma n i p v) s), (4, exec (.portLoopRemote n i p v) s), (5, exec (.portLoopT1sAnalog n i p v) s)],
      let fits := x.1 ≤ 1 ∨ (p < 4 ∧ x.1 ≤ 4) ∨ (4 ≤ p ∧ x.1 = 5)
      (¬ fits → EndsWith x.2 (no 3)) ∧ (fits → asks x.2 0 p x.1 (bit v 4) (s.dev.portCovered p))) ∧
    (∀ l < 2, s.canWrite i (Reg.TST_OZ_CTL l) → ∀ x ∈ [(0, exec (.ozLoopOff n i l v) s), (1, exec (.ozLoopSerial n i l v) s), (2, exec (.ozLoopFraming n i l v) s)],
      asks x.2 1 l x.1 (bit v 2) (!(s.dev.units.paired && (s.dev.lane l).up && !(s.dev.lane (1 - l)).up))) ∧
    (∀ q < 4, s.canWrite i (Reg.TST_Q_CTL q) → ∀ x ∈ [(0, exec (.quadLoopOff n i q v) s), (1, exec (.quadTone n i q v) s), (2, exec (.quadRefPos n i q v) s),
        (3, exec (.quadRefNeg n i q v) s), (4, exec (.quadBitstream n i q v) s), (5, exec (.quadSynth n i q v) s)],
      asks x.2 2 q x.1 false true) ∧
    (s.canWrite i Reg.TST_PCIE_LB → ∀ k : Nat,
      (i = .pcie → EndsWith (exec (.pcieLoop n i v k) s) (no 5)) ∧ (i = .spi → asks (exec (.pcieLoop n i v k) s) 3 0 (bits v 0 0) false true)) ∧
    (s.canWrite i Reg.TST_PPS_CTL →
      let k := bits v 1 1
      let used := ∃ j < 2, s.dev.domSrc j = 2 ∧ s.dev.domPort j = k
      (bit v 0 = true → used → EndsWith (exec (.ppsLoop n i v) s) (no 5)) ∧
      (bit v 0 = true → ¬ used → (s.dev.loop 4 (1 - k)).mode ≠ 0 → EndsWith (exec (.ppsLoop n i v) s) (no 2)) ∧
      (bit v 0 = true → ¬ used → (s.dev.loop 4 (1 - k)).mode = 0 → asks (exec (.ppsLoop n i v) s) 4 k 1 false true) ∧
      (bit v 0 = false → asks (exec (.ppsLoop n i v) s) 4 0 0 false true ∧ asks (exec (.ppsLoop n i v) s) 4 1 0 false true)) ∧
    (s.canWrite i Reg.TST_CTL →
      (bit v 0 = true → s.dev.testRoot = false → EndsWith (exec (.prodModeWrite n i v) s) (fun t => t.dev.rd Reg.TST_CTL = 0 ∧ no 6 t)) ∧
      (bit v 0 = false ∨ s.dev.testRoot = true → EndsWith (exec (.prodModeWrite n i v) s) (fun t => t.dev.rdN Reg.TST_CTL = bits v 0 0 ∧
        (∀ a, a ≠ Reg.TST_CTL → t.dev.rd a = s.dev.rd a) ∧ t.dev.tst = s.dev.tst ∧ t.dev.nv = s.dev.nv ∧ t.ctl = s.ctl)))

/-- O60. START of a port's generator, the end of its test, and the time-out of a loop-back.
START in a port loop-back that runs, other than the remote one, takes COUNT and LEN, clears the counters and sends the first frame; in one that is only asked for, it waits for the loop-back. 1 ms after the last frame DONE is set, PASS with it when all COUNT frames came back without error, the generator is gone, and the interrupt DONE is raised, FAIL besides where it does not pass; before that the command does nothing. A loop-back that has run for TST_TIMEOUT seconds ends, alone, with its interrupt; before that the command does nothing.
Rests on R872; R878; R879; R892. -/
def Obligations.TestGeneratorsAndEnds : Prop :=
  (∀ (s : State) (n p : Nat) (i : Iface) (v : Word), p < 8 → s.canWrite i (Reg.TST_PORT_CTL p) →
    let m := bits v 2 0
    let x := s.dev.loop 0 p
    let fresh (k : Nat) : LoopGen := ⟨s.dev.fld (Reg.TST_PORT_GEN p) 31 16, s.dev.fld (Reg.TST_PORT_GEN p) 13 0, k, 0, none⟩
    let fits := m = 1 ∨ (p < 4 ∧ 2 ≤ m ∧ m ≤ 3) ∨ (4 ≤ p ∧ m = 5)
    let cleared (t : State) : Prop := t.dev.rdN (Reg.TST_PORT_RX_CNT p) = 0 ∧ t.dev.rdN (Reg.TST_PORT_ERR_CNT p) = 0 ∧
      t.dev.flag (Reg.TST_PORT_STATUS p) 5 = false ∧ t.dev.flag (Reg.TST_PORT_STATUS p) 6 = false ∧ t.dev.nv = s.dev.nv ∧ t.ctl = s.ctl
    (fits → x.mode = m → x.req = none → 0 < s.dev.fld (Reg.TST_PORT_GEN p) 31 16 →
      EndsWith (exec (.portLoopGenerate n i p v) s) (fun t => t.dev.gen p = some (fresh 1) ∧ t.dev.tst.loops = s.dev.tst.loops ∧ cleared t)) ∧
    (fits → x.mode = 0 → (s.dev.portCovered p = true ∨ bit v 4 = true) →
      EndsWith (exec (.portLoopGenerate n i p v) s) (fun t => t.dev.gen p = some (fresh 0) ∧ (t.dev.loop 0 p).req = some (m, max s.dev.tim.clk n) ∧ cleared t))) ∧
  (∀ (s : State) (n p : Nat), p < 8 →
    let e := s.dev.tick n
    ((∀ g c, s.dev.gen p = some g → g.lastAt = some c → e.tim.clk < c + ticksMs 1) → Ends (exec (.loopDone n p) s) { s with dev := e }) ∧
    (∀ g c, s.dev.gen p = some g → g.lastAt = some c → c + ticksMs 1 ≤ e.tim.clk → EndsWith (exec (.loopDone n p) s) (fun t =>
      let pass := s.dev.rdN (Reg.TST_PORT_RX_CNT p) = g.count ∧ s.dev.rdN (Reg.TST_PORT_ERR_CNT p) = 0
      t.dev.gen p = none ∧ t.dev.flag (Reg.TST_PORT_STATUS p) 5 = true ∧ (t.dev.flag (Reg.TST_PORT_STATUS p) 6 = true ↔ pass) ∧
      t.dev.flag Reg.TST_INT_STATUS 0 = true ∧ (¬ pass → t.dev.flag Reg.TST_INT_STATUS 1 = true) ∧
      t.dev.tst.loops = s.dev.tst.loops ∧ t.dev.nv = s.dev.nv ∧ t.ctl = s.ctl))) ∧
  (∀ (s : State) (n kind idx : Nat), (kind, idx) ∈ loopObjects →
    let e := s.dev.tick n
    let x := s.dev.loop kind idx
    let due := x.mode ≠ 0 ∧ x.at' + ticksSec (s.dev.fld Reg.TST_TIMEOUT 11 0) ≤ e.tim.clk
    (¬ due → Ends (exec (.loopTimeout n kind idx) s) { s with dev := e }) ∧
    (due → EndsWith (exec (.loopTimeout n kind idx) s) (fun t => (t.dev.loop kind idx).mode = 0 ∧ (t.dev.loop kind idx).req = none ∧
      t.dev.flag Reg.TST_INT_STATUS 2 = true ∧ (∀ o ∈ loopObjects, o ≠ (kind, idx) → t.dev.loop o.1 o.2 = s.dev.loop o.1 o.2) ∧ t.ctl = s.ctl)))
end

