-- ==== Sys2Proof/Laws/Bytes.lean ====
section
/-! SUPPORT. Sys2Proof/Laws/Bytes.lean: lengths and values of byte strings. -/

namespace Sys2Proof.Machine

@[simp] theorem length_be (n v : Nat) : (be n v).length = n := by
  induction n generalizing v with
  | zero => rfl
  | succ n ih => simp [be, ih]

@[simp] theorem length_le (n v : Nat) : (le n v).length = n := by
  induction n generalizing v with
  | zero => rfl
  | succ n ih => simp [le, ih]

@[simp] theorem length_zeros (n : Nat) : (zeros n).length = n := by simp [zeros]

@[simp] theorem length_fit (n : Nat) (b : Bytes) : (fit n b).length = n := by simp [fit]

theorem fit_eq {n : Nat} {b : Bytes} (h : b.length = n) : fit n b = b := by subst h; simp [fit]

@[simp] theorem length_sha256 (b : Bytes) : (Config.sha256 b).length = 32 := by simp [Config.sha256]

theorem length_ptpTlvs (p : Bool) : (Config.ptpTlvs p).length ≤ 128 := by simp [Config.ptpTlvs]

theorem length_ethHdr (dst src : Nat) (tag : Option (Nat × Nat)) (e : Nat) : (ethHdr dst src tag e).length ≤ 18 := by
  cases tag <;> simp [ethHdr]

theorem length_padTo (n : Nat) (b : Bytes) : (padTo n b).length = max n b.length := by simp [padTo]; omega

theorem ofBe_append_one (b : Bytes) (x : Byte) : ofBe (b ++ [x]) = ofBe b * 256 + x.toNat := by simp [ofBe]

theorem ofBe_be (n v : Nat) : ofBe (be n v) = v % 256 ^ n := by
  induction n generalizing v with
  | zero => simp [be, ofBe]; omega
  | succ n ih =>
    rw [be, ofBe_append_one, ih, pow_succ']
    have h := Nat.mod_mul (x := v) (a := 256) (b := 256 ^ n)
    simp only [BitVec.toNat_ofNat]
    omega

theorem beAt_append_be (a r : Bytes) (n v : Nat) : beAt (a ++ be n v ++ r) a.length n = v % 256 ^ n := by
  rw [beAt, List.append_assoc, List.drop_left, List.take_append_of_le_length (by simp), List.take_of_length_le (by simp), ofBe_be]

theorem crc32cBit_lt {c : Nat} (h : c < 2 ^ 32) : crc32cBit c < 2 ^ 32 := by
  unfold crc32cBit
  split
  · exact Nat.xor_lt_two_pow (by omega) (by decide)
  · omega

theorem crc32cByte_lt {c : Nat} (h : c < 2 ^ 32) (x : Byte) : crc32cByte c x.toNat < 2 ^ 32 := by
  have hx : c ^^^ x.toNat < 2 ^ 32 := Nat.xor_lt_two_pow h (by have := x.isLt; omega)
  unfold crc32cByte
  iterate 8 apply crc32cBit_lt
  exact hx

theorem crc32c_lt (b : Bytes) : crc32c b < 2 ^ 32 := by
  have h : ∀ (l : Bytes) (c : Nat), c < 2 ^ 32 → l.foldl (fun c x => crc32cByte c x.toNat) c < 2 ^ 32 := by
    intro l
    induction l with
    | nil => intro c hc; exact hc
    | cons x l ih => intro c hc; exact ih _ (crc32cByte_lt hc x)
  exact Nat.xor_lt_two_pow (h _ _ (by decide)) (by decide)

end Sys2Proof.Machine
end

