-- ==== Sys2Proof/Laws/Acq.lean ====
section
/-! SUPPORT. Sys2Proof/Laws/Acq.lean: sums of a list, and what the gap record of the acquisition stream adds to its unsent bytes (R613, R614). -/

namespace Sys2Proof.Machine

theorem sumN_foldl (l : List Nat) (a : Nat) : l.foldl (· + ·) a = a + sumN l := by
  unfold sumN; induction l generalizing a with
  | nil => simp
  | cons x r ih => simp only [List.foldl_cons]; rw [ih, ih (0+x)]; omega
theorem sumN_append (l m : List Nat) : sumN (l ++ m) = sumN l + sumN m := by
  unfold sumN; rw [List.foldl_append, sumN_foldl]; rfl
theorem sumN_cons (x : Nat) (l : List Nat) : sumN (x :: l) = x + sumN l := sumN_append [x] l |>.trans (by simp [sumN])
/-- An entry that is inserted adds its bytes to the unsent ones, wherever its place is. -/
theorem acqInsert_unsent (e : AcqEntry) (l : List AcqEntry) (h : e.finished = false) :
    sumN (((acqInsert e l).filter (fun e => !e.finished)).map (·.bytes.length)) =
      e.bytes.length + sumN ((l.filter (fun e => !e.finished)).map (·.bytes.length)) := by
  have at' (k : Nat) : sumN (((l.take k ++ e :: l.drop k).filter (fun e => !e.finished)).map (·.bytes.length)) =
      e.bytes.length + sumN ((l.filter (fun e => !e.finished)).map (·.bytes.length)) := by
    conv_rhs => rw [← List.take_append_drop k l]
    simp only [List.filter_append, List.map_append, List.filter_cons, h, Bool.not_false, if_true, List.map_cons, sumN_append, sumN_cons]
    omega
  exact at' _

/-- The gap record takes at most 32 bytes. -/
theorem acqGap_unsent (d : Dev) (t c : Nat) : (d.acqGap t c).acqUnsent ≤ d.acqUnsent + 32 := by
  unfold Dev.acqGap
  split
  split
  · omega
  · unfold Dev.acqUnsent
    rw [acqInsert_unsent _ _ rfl]
    simp
    omega
end Sys2Proof.Machine
end

