-- ==== Sys2Proof/Laws/Tables.lean ====
section
/-! SUPPORT. Sys2Proof/Laws/Tables.lean: the laws of the sparse tables, of folds and of bit fields that every later proof cites. -/

namespace Sys2Proof.Machine

/-! Tables. -/

@[simp] theorem tget_nil {α : Type} (d : α) (q : Nat) : tget d [] q = d := rfl

theorem tget_tdel {α : Type} (d : α) (t : List (Nat × α)) (q k : Nat) : tget d (tdel t q) k = if k = q then d else tget d t k := by
  induction t with
  | nil => simp [tdel]
  | cons x r ih =>
    obtain ⟨a, v⟩ := x
    by_cases h : q = a <;> by_cases h' : k = a <;> simp_all [tdel, tget] <;> omega

theorem tget_tput {α : Type} (d : α) (t : List (Nat × α)) (q k : Nat) (v : α) : tget d (tput t q v) k = if k = q then v else tget d t k := by
  induction t with
  | nil => simp [tput, tget]
  | cons x r ih =>
    obtain ⟨a, w⟩ := x
    unfold tput
    split
    · simp [tget]
    · split
      · rename_i h; subst h; by_cases hk : k = q <;> simp [tget, hk]
      · by_cases hk : k = a
        · subst hk; simp [tget]; intro h; omega
        · simp [tget, hk, ih]

/-- A table read after an entry is set: the entry at its key, and the old table elsewhere. -/
theorem tget_tset {α : Type} [DecidableEq α] (d : α) (t : List (Nat × α)) (q k : Nat) (v : α) :
    tget d (tset d t q v) k = if k = q then v else tget d t k := by
  unfold tset
  split
  · rename_i h; subst h; exact tget_tdel _ t q k
  · exact tget_tput d t q k v

@[simp] theorem tget_tset_same {α : Type} [DecidableEq α] (d : α) (t : List (Nat × α)) (q : Nat) (v : α) : tget d (tset d t q v) q = v := by
  simp [tget_tset]

/-- Setting an entry leaves every other key as it was, whatever default the reader uses. -/
theorem tget_tset_ne {α : Type} [DecidableEq α] (d e : α) (t : List (Nat × α)) {q k : Nat} (h : k ≠ q) (v : α) :
    tget e (tset d t q v) k = tget e t k := by
  unfold tset
  split
  · simp [tget_tdel, h]
  · simp [tget_tput, h]

/-! The canonical form. -/

theorem tabove_weaken {α : Type} (t : List (Nat × α)) (b c : Option Nat) (h : tabove b t = true)
    (hbc : ∀ x, c = some x → ∀ k v r, t = (k, v) :: r → x < k) : tabove c t = true := by
  cases t with
  | nil => rfl
  | cons x r =>
    obtain ⟨k, v⟩ := x
    simp only [tabove, Bool.and_eq_true] at h ⊢
    refine ⟨?_, h.2⟩
    cases c with
    | none => rfl
    | some y => simpa using hbc y rfl k v r rfl

theorem tabove_tdel {α : Type} (t : List (Nat × α)) (q : Nat) (b : Option Nat) (h : tabove b t = true) : tabove b (tdel t q) = true := by
  induction t generalizing b with
  | nil => rfl
  | cons x r ih =>
    obtain ⟨k, v⟩ := x
    simp only [tabove, Bool.and_eq_true] at h
    unfold tdel
    split
    · have h2 := ih _ h.2
      cases hr : tdel r q with
      | nil => rfl
      | cons y r' =>
        obtain ⟨k', v'⟩ := y
        rw [hr] at h2
        simp only [tabove, Bool.and_eq_true] at h2 ⊢
        refine ⟨?_, h2.2⟩
        cases b with
        | none => rfl
        | some x => simp at h h2 ⊢; omega
    · simp [tabove, h.1, ih _ h.2]

theorem tabove_tput {α : Type} (t : List (Nat × α)) (q : Nat) (v : α) (b : Option Nat) (h : tabove b t = true)
    (hb : ∀ x, b = some x → x < q) : tabove b (tput t q v) = true := by
  induction t generalizing b with
  | nil =>
    cases b with
    | none => rfl
    | some x => simpa [tput, tabove] using hb x rfl
  | cons x r ih =>
    obtain ⟨k, w⟩ := x
    simp only [tabove, Bool.and_eq_true] at h
    have hb' : b.all (fun x => decide (x < q)) = true := by
      cases b with
      | none => rfl
      | some x => simpa using hb x rfl
    unfold tput
    split
    · rename_i hq; simp [tabove, h.2, hb', hq]
    · split
      · rename_i hq; subst hq; simp [tabove, h.2, hb']
      · simp only [tabove, h.1, Bool.true_and]
        exact ih _ h.2 (by intro x hx; simp at hx; omega)

theorem mem_tdel {α : Type} (t : List (Nat × α)) (q : Nat) (x : Nat × α) (h : x ∈ tdel t q) : x ∈ t := by
  induction t with
  | nil => exact h
  | cons y r ih =>
    obtain ⟨k, v⟩ := y
    unfold tdel at h
    split at h
    · exact List.mem_cons_of_mem _ (ih h)
    · rcases List.mem_cons.mp h with h | h
      · exact h ▸ List.mem_cons_self
      · exact List.mem_cons_of_mem _ (ih h)

theorem mem_tput {α : Type} (t : List (Nat × α)) (q : Nat) (v : α) (x : Nat × α) (h : x ∈ tput t q v) : x = (q, v) ∨ x ∈ t := by
  induction t with
  | nil => simpa [tput] using h
  | cons y r ih =>
    obtain ⟨k, w⟩ := y
    unfold tput at h
    split at h
    · simpa using h
    · split at h
      · simp at h; rcases h with h | h <;> simp [h]
      · simp at h
        rcases h with h | h
        · simp [h]
        · rcases ih h with h | h <;> simp [h]

/-- Setting an entry keeps the canonical form. -/
theorem tcanon_tset {α : Type} [DecidableEq α] (d : Nat → α) (t : List (Nat × α)) (q : Nat) (v : α) (h : tcanon d t = true) :
    tcanon d (tset (d q) t q v) = true := by
  simp only [tcanon, Bool.and_eq_true, List.all_eq_true, decide_eq_true_eq] at h ⊢
  unfold tset
  split
  · exact ⟨tabove_tdel t q none h.1, fun x hx => h.2 x (mem_tdel t q x hx)⟩
  · rename_i hv
    refine ⟨tabove_tput t q v none h.1 (by simp), fun x hx => ?_⟩
    rcases mem_tput t q v x hx with rfl | hx
    · exact hv
    · exact h.2 x hx

/-! Folds. -/

/-- What every step of a fold keeps, the fold keeps. -/
theorem foldUp_keeps {α β : Type} (g : α → β) (n : Nat) (f : Nat → α → α) (h : ∀ i a, g (f i a) = g a) (a : α) : g (foldUp n f a) = g a := by
  induction n with
  | zero => rfl
  | succ n ih => simp [foldUp, h, ih]

/-- What every step of a fold over a list keeps, the fold keeps. -/
theorem foldl_keeps {α β γ : Type} (g : α → β) (l : List γ) (f : α → γ → α) (h : ∀ a x, g (f a x) = g a) (a : α) : g (l.foldl f a) = g a := by
  induction l generalizing a with
  | nil => rfl
  | cons x r ih => simp [ih, h]

/-! Bit fields. -/

theorem bit_setBits (w : Word) (hi lo v k : Nat) (hhi : hi < 32) :
    bit (setBits w hi lo v) k = if lo ≤ k ∧ k ≤ hi then (v.testBit (k - lo)) else bit w k := by
  unfold bit setBits maskOf w32
  simp only [BitVec.getLsbD_or, BitVec.getLsbD_and, BitVec.getLsbD_not, BitVec.getLsbD_ofNat, Nat.testBit_shiftLeft, Nat.testBit_two_pow_sub_one,
    Nat.testBit_mod_two_pow]
  by_cases h4 : k < 32
  · by_cases h1 : lo ≤ k
    · by_cases h2 : k ≤ hi
      · have h3 : k - lo < hi + 1 - lo := by omega
        simp [h1, h2, h4, h3]
      · have h3 : ¬ (k - lo < hi + 1 - lo) := by omega
        simp [h1, h2, h4, h3]
    · simp [h1, h4]
  · have h1 : ¬ (lo ≤ k ∧ k ≤ hi) := by omega
    have h2 : BitVec.getLsbD w k = false := BitVec.getLsbD_of_ge _ _ (by omega)
    simp [h1, h2, h4]

theorem bits_eq_of_bit (w w' : Word) (hi lo : Nat) (h : ∀ k, lo ≤ k → k ≤ hi → bit w k = bit w' k) : bits w hi lo = bits w' hi lo := by
  unfold bits
  apply Nat.eq_of_testBit_eq
  intro j
  simp only [Nat.testBit_mod_two_pow, Nat.testBit_shiftRight]
  by_cases hj : j < hi + 1 - lo
  · have := h (lo + j) (by omega) (by omega)
    unfold bit at this
    simpa [hj, BitVec.getLsbD] using this
  · simp [hj]

/-- A field read after another field is replaced. -/
theorem bits_setBits_ne (w : Word) (hi lo hi' lo' v : Nat) (hhi : hi < 32) (h : hi' < lo ∨ hi < lo') :
    bits (setBits w hi lo v) hi' lo' = bits w hi' lo' := by
  apply bits_eq_of_bit
  intro k h1 h2
  rw [bit_setBits w hi lo v k hhi]
  have : ¬ (lo ≤ k ∧ k ≤ hi) := by omega
  simp [this]

/-- A field read after it is replaced. -/
theorem bits_setBits (w : Word) (hi lo v : Nat) (hhi : hi < 32) : bits (setBits w hi lo v) hi lo = v % 2 ^ (hi + 1 - lo) := by
  unfold bits
  apply Nat.eq_of_testBit_eq
  intro j
  simp only [Nat.testBit_mod_two_pow, Nat.testBit_shiftRight]
  by_cases hj : j < hi + 1 - lo
  · have := bit_setBits w hi lo v (lo + j) hhi
    have h2 : lo ≤ lo + j ∧ lo + j ≤ hi := by omega
    unfold bit at this
    simpa [hj, BitVec.getLsbD, h2] using this
  · simp [hj]

/-- A word cut to 32 bits, as a number. -/
theorem w32_toNat (n : Nat) : (w32 n).toNat = n % 2 ^ 32 := by simp [w32]

theorem b2n_true : b2n true = 1 := rfl
theorem b2n_false : b2n false = 0 := rfl

end Sys2Proof.Machine
end

