-- ==== Sys2Proof/Laws/Done.lean ====
section
/-! SUPPORT. Sys2Proof/Laws/Done.lean: what the end of a command can change: the MSI-X messages of the summaries, and a cause of roll-back. -/

namespace Sys2Proof.Machine

/-- A message changes the pending bits, host memory and what was sent, and nothing else. -/
theorem msix_eq (d : Dev) (v : Nat) : ∃ p m x, d.msix v = { d with host := { d.host with pba := p, mem := m, sent := x } } := by
  unfold Dev.msix Dev.dmaWrite Dev.emit
  split
  · split
    · exact ⟨_, _, _, rfl⟩
    · exact ⟨_, d.host.mem, _, rfl⟩
  · split
    · exact ⟨_, d.host.mem, d.host.sent, rfl⟩
    · exact ⟨d.host.pba, d.host.mem, d.host.sent, rfl⟩

theorem settleMsg_eq (d : Dev) (v : Nat) : ∃ p m x, d.settleMsg v = { d with host := { d.host with pba := p, mem := m, sent := x } } := by
  unfold Dev.settleMsg
  split
  · exact msix_eq d v
  · exact ⟨d.host.pba, d.host.mem, d.host.sent, rfl⟩

theorem settleOne_eq (d : Dev) (v : Nat) : ∃ u p m x, d.settleOne v = { d with host := { d.host with summary := u, pba := p, mem := m, sent := x } } := by
  obtain ⟨p, m, x, h⟩ := settleMsg_eq d v
  simp only [Dev.settleOne, h]
  split
  · exact ⟨d.host.summary, p, m, x, rfl⟩
  · exact ⟨_, p, m, x, rfl⟩

/-- Settling changes the summaries, the pending bits, host memory and what was sent, and nothing else. -/
theorem settle_eq (d : Dev) : ∃ u p m x, d.settle = { d with host := { d.host with summary := u, pba := p, mem := m, sent := x } } := by
  unfold Dev.settle
  generalize 28 = n
  induction n with
  | zero => exact ⟨d.host.summary, d.host.pba, d.host.mem, d.host.sent, rfl⟩
  | succ n ih =>
    obtain ⟨u, p, m, x, h⟩ := ih
    obtain ⟨u', p', m', x', h'⟩ := settleOne_eq (foldUp n (fun i (d : Dev) => d.settleOne (i + 8)) d) (n + 8)
    exact ⟨u', p', m', x', by rw [foldUp, h', h]⟩

theorem trouble_eq (d : Dev) (c : Nat) : ∃ r, d.trouble c = { d with txn := { d.txn with rollback := r } } := by
  unfold Dev.trouble
  split
  · exact ⟨_, rfl⟩
  · exact ⟨d.txn.rollback, rfl⟩

theorem troubleIf_eq (d : Dev) (b : Bool) (c : Nat) : ∃ r, d.troubleIf b c = { d with txn := { d.txn with rollback := r } } := by
  unfold Dev.troubleIf
  split
  · exact ⟨d.txn.rollback, rfl⟩
  · exact trouble_eq d c

/-- The watch of probation can note a cause of roll-back, and changes nothing else. -/
theorem probWatch_eq (d old : Dev) : ∃ r, d.probWatch old = { d with txn := { d.txn with rollback := r } } := by
  have step : ∀ (e : Dev) (b : Bool) (c : Nat), (∃ r, e = { d with txn := { d.txn with rollback := r } }) →
      ∃ r, e.troubleIf b c = { d with txn := { d.txn with rollback := r } } := by
    intro e b c ⟨r, he⟩
    obtain ⟨r', h⟩ := troubleIf_eq e b c
    exact ⟨r', by rw [h, he]⟩
  exact step _ _ _ (step _ _ _ (step _ _ _ (step _ _ _ (step _ _ _ (step _ _ _ ⟨d.txn.rollback, rfl⟩)))))

/-- How every command ends. -/
theorem ends_eq (d old : Dev) : ∃ r u p m x, (d.probWatch old).settle = d.ended r u p m x := by
  obtain ⟨r, h⟩ := probWatch_eq d old
  obtain ⟨u, p, m, x, h'⟩ := settle_eq ({ d with txn := { d.txn with rollback := r } } : Dev)
  exact ⟨r, u, p, m, x, by rw [h, h']; rfl⟩

theorem done_eq (s : State) (d : Dev) : ∃ r u p m x, done s d = .next { s with dev := d.ended r u p m x } := by
  obtain ⟨r, u, p, m, x, h⟩ := ends_eq d s.dev
  exact ⟨r, u, p, m, x, by rw [done, h]⟩

theorem doneS_eq (s s' : State) : ∃ r u p m x, doneS s s' = .next { s' with dev := s'.dev.ended r u p m x } := by
  obtain ⟨r, u, p, m, x, h⟩ := ends_eq s'.dev s.dev
  exact ⟨r, u, p, m, x, by rw [doneS, h]⟩

theorem doneReset_eq (s : State) (d : Dev) : ∃ r u p m x, doneReset s d = .next { s with
    dev := d.ended r u p m x, ctl := if d.resetCtr = s.dev.resetCtr then s.ctl else 0 } := by
  obtain ⟨r, u, p, m, x, h⟩ := ends_eq d s.dev
  exact ⟨r, u, p, m, x, by rw [doneReset, h]⟩

end Sys2Proof.Machine
end

