-- ==== Sys2Proof/Laws/Exec.lean ====
section
/-! SUPPORT. Sys2Proof/Laws/Exec.lean: what `exec` is for each command, so that no proof unfolds `exec`. -/

namespace Sys2Proof.Machine

theorem exec_registerWrite (t : Nat) (i : Iface) (en addr : Nat) (data : Word) (s : State) :
    exec (.registerWrite t i en addr data) s = if (decide (en < 16) && decide (addr < 16777216)) then doneS s ((s.at t).write i en addr data).2 else doneS s (s.at t) := rfl
theorem exec_rcRead (t : Nat) (i : Iface) (en addr : Nat) (s : State) :
    exec (.rcRead t i en addr) s = if (decide (en < 16) && decide (addr < 16777216)) then doneS s ((s.at t).read i en addr).2.2 else doneS s (s.at t) := rfl
theorem exec_latchedRead (t : Nat) (i : Iface) (en addr : Nat) (s : State) :
    exec (.latchedRead t i en addr) s = if (decide (en < 16) && decide (addr < 16777216)) then doneS s ((s.at t).read i en addr).2.2 else doneS s (s.at t) := rfl
theorem exec_accErrClr (t : Nat) (i : Iface) (data : Word) (s : State) :
    exec (.accErrClr t i data) s = hostRow s t true i Reg.GLB_ACC_ERR_CLR data := rfl
theorem exec_glbCtlWrite (t : Nat) (i : Iface) (data : Word) (s : State) :
    exec (.glbCtlWrite t i data) s = hostRow s t true i Reg.GLB_CTL data := rfl
theorem exec_spiWriteFrame (t : Nat) (bytes : List Byte) (s : State) :
    exec (.spiWriteFrame t bytes) s = doneS s ((s.at t).spiFrame bytes false) := rfl
theorem exec_spiReadFrame (t : Nat) (bytes : List Byte) (late : Bool) (s : State) :
    exec (.spiReadFrame t bytes late) s = doneS s ((s.at t).spiFrame bytes late) := rfl
theorem exec_powerOn (t : Nat) (s : State) :
    exec (.powerOn t) s = resetRow s t true (fun (d : Dev) => d.powerOn) := rfl
theorem exec_supplyFault (t : Nat) (s : State) :
    exec (.supplyFault t) s = resetRow s t true (fun (d : Dev) => d.powerOn) := rfl
theorem exec_boardReset (t : Nat) (low : Nat) (s : State) :
    exec (.boardReset t low) s = resetRow s t true (fun (d : Dev) => d.boardReset low) := rfl
theorem exec_resetRelease (t : Nat) (twinId debugEn pupaHold refclkSel : Bool) (s : State) :
    exec (.resetRelease t twinId debugEn pupaHold refclkSel) s = resetRow s t true (fun (d : Dev) => d.resetRelease twinId debugEn pupaHold refclkSel) := rfl
theorem exec_hostReset (t : Nat) (i : Iface) (s : State) :
    exec (.hostReset t i) s = hostRow s t true i Reg.GLB_RESET_CTL (0xA5C30001 : Word) := rfl
theorem exec_watchdogReset (t : Nat) (s : State) :
    exec (.watchdogReset t) s = resetRow s t true (fun (d : Dev) => if d.boot = 0 then d else d.moduleReset 4) := rfl
theorem exec_selftestDone (t : Nat) (failed : Nat) (s : State) :
    exec (.selftestDone t failed) s = devRow s t true (fun (d : Dev) => d.selftestDone failed) := rfl
theorem exec_imageLoaded (t : Nat) (s : State) :
    exec (.imageLoaded t) s = devRow s t true (fun (d : Dev) => d.imageLoaded) := rfl
theorem exec_pupaGo (t : Nat) (i : Iface) (data : Word) (s : State) :
    exec (.pupaGo t i data) s = hostRow s t true i Reg.GLB_BOOT_CTL data := rfl
theorem exec_syncTimeout (t : Nat) (s : State) :
    exec (.syncTimeout t) s = devRow s t true (fun (d : Dev) => d.syncTimeout) := rfl
theorem exec_pwrfailFall (t : Nat) (s : State) :
    exec (.pwrfailFall t) s = devRow s t true (fun (d : Dev) => d.pwrfailFall) := rfl
theorem exec_pwrfailEnd (t : Nat) (s : State) :
    exec (.pwrfailEnd t) s = devRow s t true (fun (d : Dev) => d.pwrfailEnd) := rfl
theorem exec_endpointReset (t : Nat) (flr : Bool) (s : State) :
    exec (.endpointReset t flr) s = devRow s t true (fun (d : Dev) => d.endpointReset flr) := rfl
theorem exec_d3hotEntry (t : Nat) (s : State) :
    exec (.d3hotEntry t) s = devRow s t true (fun (d : Dev) => d.d3hot true) := rfl
theorem exec_d3hotExit (t : Nat) (s : State) :
    exec (.d3hotExit t) s = devRow s t true (fun (d : Dev) => d.d3hot false) := rfl
theorem exec_pcieLinkUp (t : Nat) (speed width : Nat) (s : State) :
    exec (.pcieLinkUp t speed width) s = devRow s t true (fun (d : Dev) => d.pcieUp speed width) := rfl
theorem exec_pcieLoopbackSlave (t : Nat) (s : State) :
    exec (.pcieLoopbackSlave t) s = devRow s t true (fun (d : Dev) => let d := d.putB Reg.TST_PCIE_STATUS 1 true; { d with host := { d.host with linkUp := false } }) := rfl
theorem exec_hostRingTake (t : Nat) (r : Nat) (s : State) :
    exec (.hostRingTake t r) s = devRow s t (decide (r < 8)) (fun (d : Dev) => d.hostTake r) := rfl
theorem exec_hostRingAck (t : Nat) (r : Nat) (s : State) :
    exec (.hostRingAck t r) s = devRow s t (decide (r < 8)) (fun (d : Dev) => (d.hostAck r).dispatchAll) := rfl
theorem exec_hostRingCompletion (t : Nat) (r : Nat) (s : State) :
    exec (.hostRingCompletion t r) s = devRow s t (decide (r < 8)) (fun (d : Dev) => d.hostEntry r) := rfl
theorem exec_hostRingEnable (t : Nat) (i : Iface) (r : Nat) (data : Word) (s : State) :
    exec (.hostRingEnable t i r data) s = hostRow s t (decide (r < 8)) i (Reg.GLB_HR_CTL r) data := rfl
theorem exec_calibrationDone (t : Nat) (quads : List Nat) (facts : List CalFact) (s : State) :
    exec (.calibrationDone t quads facts) s = devRow s t (quads.all (fun q => decide (q < 4)) && facts.all (fun f => decide (f.ch < 192))) (fun (d : Dev) => d.calibrationDone quads facts) := rfl
theorem exec_baseRateSample (t : Nat) (q : Nat) (a b c : List (Nat × Nat)) (refs : List Int) (s : State) :
    exec (.baseRateSample t q a b c refs) s = convRow s t (decide (q < 5) && (a ++ b ++ c).all (fun b => decide (b.1 < 192) && decide (b.2 < 2 ^ 400))) (fun (d : Dev) => d.baseRate q (a ++ b ++ c) refs) := rfl
theorem exec_sampleTick (t : Nat) (s : State) :
    exec (.sampleTick t) s = runRow s t true (fun (d : Dev) => d.sampleTick) := rfl
theorem exec_flutterBoundary (t : Nat) (cks : List (Nat × (Int × Int))) (sense : Nat) (mis : Option (Nat × Nat)) (s : State) :
    exec (.flutterBoundary t cks sense mis) s = runRow s t true (fun (d : Dev) => d.flutter cks sense mis) := rfl
theorem exec_trackedCycleBoundary (t : Nat) (s : State) :
    exec (.trackedCycleBoundary t) s = runRow s t true (fun (d : Dev) => d.trackedCycle) := rfl
theorem exec_checkFrameBoundary (t : Nat) (s : State) :
    exec (.checkFrameBoundary t) s = runRow s t true (fun (d : Dev) => d.frameBoundary) := rfl
theorem exec_cnvSnap (t : Nat) (i : Iface) (q : Nat) (data : Word) (s : State) :
    exec (.cnvSnap t i q data) s = hostRow s t (decide (q < 4)) i (Reg.CNV_Q_SNAP q) data := rfl
theorem exec_cnvSnapAll (t : Nat) (i : Iface) (data : Word) (s : State) :
    exec (.cnvSnapAll t i data) s = hostRow s t true i Reg.CNV_SNAP_ALL data := rfl
theorem exec_snapshotLatch (t : Nat) (s : State) :
    exec (.snapshotLatch t) s = convRow s t true (fun (d : Dev) => d.snapLatch) := rfl
theorem exec_ckInj (t : Nat) (i : Iface) (k : Nat) (data : Word) (s : State) :
    exec (.ckInj t i k data) s = hostRow s t (decide (k < 16)) i (Reg.CNV_CK_INJ k) data := rfl
theorem exec_resStatusRead (t : Nat) (i : Iface) (k : Nat) (s : State) :
    exec (.resStatusRead t i k) s = readRow s t (decide (k < 16)) i (Reg.CNV_CK_RES_STATUS k) := rfl
theorem exec_resConsume (t : Nat) (i : Iface) (k : Nat) (s : State) :
    exec (.resConsume t i k) s = readRow s t (decide (k < 16)) i (Reg.CNV_CK_RES_CONSUME k) := rfl
theorem exec_calStart (t : Nat) (i : Iface) (data : Word) (s : State) :
    exec (.calStart t i data) s = hostRow s t true i Reg.CNV_CAL_CTL (setBits data 0 0 1) := rfl
theorem exec_lpRequest (t : Nat) (i : Iface) (data : Word) (s : State) :
    exec (.lpRequest t i data) s = hostRow s t true i Reg.CNV_LP_CTL data := rfl
theorem exec_settleEnd (t : Nat) (s : State) :
    exec (.settleEnd t) s = convRow s t true (fun (d : Dev) => d.settleEnd) := rfl
theorem exec_firSwap (t : Nat) (i : Iface) (n : Nat) (data : Word) (s : State) :
    exec (.firSwap t i n data) s = hostRow s t (decide (n < 256)) i (Reg.FLT_CH_SWAP n) data := rfl
theorem exec_fadeDone (t : Nat) (n : Nat) (s : State) :
    exec (.fadeDone t n) s = runRow s t (decide (n < 256)) (fun (d : Dev) => d.fadeDone n) := rfl
theorem exec_coefWrite (t : Nat) (i : Iface) (data : Word) (s : State) :
    exec (.coefWrite t i data) s = hostRow s t true i Reg.FLT_COEF_DATA data := rfl
theorem exec_coefRead (t : Nat) (i : Iface) (s : State) :
    exec (.coefRead t i) s = readRow s t true i Reg.FLT_COEF_DATA := rfl
theorem exec_hostFreeze (t : Nat) (i : Iface) (n : Nat) (data : Word) (s : State) :
    exec (.hostFreeze t i n data) s = hostRow s t (decide (n < 256)) i (Reg.FLT_CH_FREEZE_CTL n) (setBits data 0 0 1) := rfl
theorem exec_freezeRelease (t : Nat) (i : Iface) (n : Nat) (data : Word) (s : State) :
    exec (.freezeRelease t i n data) s = hostRow s t (decide (n < 256)) i (Reg.FLT_CH_FREEZE_CTL n) (setBits data 1 1 1) := rfl
theorem exec_freezeTailEnd (t : Nat) (n : Nat) (s : State) :
    exec (.freezeTailEnd t n) s = runRow s t (decide (n < 256)) (fun (d : Dev) => d.freezeTail n) := rfl
theorem exec_freezeMaxEnd (t : Nat) (n : Nat) (s : State) :
    exec (.freezeMaxEnd t n) s = runRow s t (decide (n < 256)) (fun (d : Dev) => d.freezeMax n) := rfl
theorem exec_trkHoldLimit (t : Nat) (s : State) :
    exec (.trkHoldLimit t) s = runRow s t true (fun (d : Dev) => d.trkHoldLimit) := rfl
theorem exec_trkRefReturn (t : Nat) (s : State) :
    exec (.trkRefReturn t) s = runRow s t true (fun (d : Dev) => d.trkReturn) := rfl
theorem exec_decsyncPin (t : Nat) (width : Nat) (s : State) :
    exec (.decsyncPin t width) s = runRow s t true (fun (d : Dev) => if 200 ≤ width then d.decsync 0 else d) := rfl
theorem exec_decsyncCommand (t : Nat) (i : Iface) (data : Word) (s : State) :
    exec (.decsyncCommand t i data) s = hostRow s t true i Reg.FLT_CTL (setBits data 1 1 1) := rfl
theorem exec_aoMinHoldEnd (t : Nat) (a : Nat) (s : State) :
    exec (.aoMinHoldEnd t a) s = runRow s t (decide (a < 16)) (fun (d : Dev) => d.aoHoldEnd a) := rfl
theorem exec_aoUnlatch (t : Nat) (i : Iface) (data : Word) (s : State) :
    exec (.aoUnlatch t i data) s = hostRow s t true i Reg.PHS_AO_UNLATCH data := rfl
theorem exec_phsChStatusRead (t : Nat) (i : Iface) (n : Nat) (s : State) :
    exec (.phsChStatusRead t i n) s = readRow s t (decide (n < 256)) i (Reg.PHS_CH_STATUS n) := rfl
theorem exec_diChange (t : Nat) (mask levels : Nat) (s : State) :
    exec (.diChange t mask levels) s = upRow s t (decide (mask < 2 ^ 64)) (fun (d : Dev) => d.diChange mask levels) := rfl
theorem exec_holdoffEnd (t : Nat) (u : Nat) (s : State) :
    exec (.holdoffEnd t u) s = upRow s t (decide (u < 16)) (fun (d : Dev) => d.holdoffEnd u) := rfl
theorem exec_diMismatch (t : Nat) (n : Nat) (s : State) :
    exec (.diMismatch t n) s = upRow s t (decide (n < 64)) (fun (d : Dev) => d.diMismatch) := rfl
theorem exec_acqEntryCopy (t : Nat) (s : State) :
    exec (.acqEntryCopy t) s = devRow s t true (fun (d : Dev) => d.acqCopy) := rfl
theorem exec_captureResume (t : Nat) (s : State) :
    exec (.captureResume t) s = devRow s t true (fun (d : Dev) => d.acqResume) := rfl
theorem exec_waveBlock (t : Nat) (g : Nat) (s : State) :
    exec (.waveBlock t g) s = devRow s t (decide (g < 8)) (fun (d : Dev) => d.waveBlock g) := rfl
theorem exec_acqRingTailWrite (t : Nat) (i : Iface) (data : Word) (s : State) :
    exec (.acqRingTailWrite t i data) s = hostRow s t true i Reg.ACQ_RING_TAIL data := rfl
theorem exec_cmpJobTake (t : Nat) (s : State) :
    exec (.cmpJobTake t) s = devRow s t true (fun (d : Dev) => d.cmpTake) := rfl
theorem exec_cmpJobDone (t : Nat) (w e : Nat) (verifyOk dmaOk : Bool) (s : State) :
    exec (.cmpJobDone t w e verifyOk dmaOk) s = devRow s t (decide (w < 2) && decide (e < 2)) (fun (d : Dev) => let (d, f) := d.cmpDone w e verifyOk dmaOk; if f then d.wingFault w 7 else d) := rfl
theorem exec_cmpCompletionWrite (t : Nat) (s : State) :
    exec (.cmpCompletionWrite t) s = devRow s t true (fun (d : Dev) => d.cmpEntry) := rfl
theorem exec_wingbeatBoundary (t : Nat) (dig : Option DigestIn) (s : State) :
    exec (.wingbeatBoundary t dig) s = resetRow s t true (fun (d : Dev) => let (rst, d') := d.wingbeat dig; if rst then d'.moduleReset 3 else d'.afterLoop d) := rfl
theorem exec_slowWindowLeave (t : Nat) (s : State) :
    exec (.slowWindowLeave t) s = devRow s t true (fun (d : Dev) => d.slowLeave.dispatchAll) := rfl
theorem exec_exportWrite (t : Nat) (s : State) :
    exec (.exportWrite t) s = devRow s t true (fun (d : Dev) => d.exportWrite) := rfl
theorem exec_ptpMasterSend (t : Nat) (p : Nat) (s : State) :
    exec (.ptpMasterSend t p) s = devRow s t (decide (p < 8)) (fun (d : Dev) => d.ptpMasterSend p) := rfl
theorem exec_ppsEdge (t : Nat) (n : Nat) (s : State) :
    exec (.ppsEdge t n) s = devRow s t (decide (n < 2)) (fun (d : Dev) => ((d.ppsEdge n).ppsLoopEdge n).lockCheck) := rfl
theorem exec_ppsTodArm (t : Nat) (i : Iface) (n : Nat) (data : Word) (s : State) :
    exec (.ppsTodArm t i n data) s = hostRow s t (decide (n < 2)) i (Reg.TIM_PPS_TOD_ARM n) data := rfl
theorem exec_irigFrame (t : Nat) (f : IrigFrame) (s : State) :
    exec (.irigFrame t f) s = devRow s t true (fun (d : Dev) => (d.irigFrame f).lockCheck) := rfl
theorem exec_twinTimeExchange (t : Nat) (x : TimeExchange) (s : State) :
    exec (.twinTimeExchange t x) s = devRow s t (decide (x.lane < 2)) (fun (d : Dev) => (d.twinExchange x).lockCheck) := rfl
theorem exec_sourceLost (t : Nat) (k : Nat) (s : State) :
    exec (.sourceLost t k) s = devRow s t (decide (k < 2)) (fun (d : Dev) => d.domLost k) := rfl
theorem exec_holdoverLimit (t : Nat) (k : Nat) (s : State) :
    exec (.holdoverLimit t k) s = devRow s t (decide (k < 2)) (fun (d : Dev) => d.holdoverLimit k) := rfl
theorem exec_forceSwitch (t : Nat) (i : Iface) (data : Word) (s : State) :
    exec (.forceSwitch t i data) s = hostRow s t true i Reg.TIM_CTL (setBits data 2 2 1) := rfl
theorem exec_slewDone (t : Nat) (s : State) :
    exec (.slewDone t) s = devRow s t true (fun (d : Dev) => d.slewDone) := rfl
theorem exec_domainRevert (t : Nat) (s : State) :
    exec (.domainRevert t) s = devRow s t true (fun (d : Dev) => d.domainRevert) := rfl
theorem exec_timSnap (t : Nat) (i : Iface) (data : Word) (s : State) :
    exec (.timSnap t i data) s = hostRow s t true i Reg.TIM_SNAP data := rfl
theorem exec_leap (t : Nat) (s : State) :
    exec (.leap t) s = devRow s t true (fun (d : Dev) => match d.tim.leapAt with | some (a, _) => (let d2 := d.leap; if d2.leapOfs ≠ d.leapOfs then { d2 with ing := { d2.ing with leapAt := some (a, d.leapOfs) } } else d2) | none => d) := rfl
theorem exec_leapPendStart (t : Nat) (s : State) :
    exec (.leapPendStart t) s = devRow s t true (fun (d : Dev) => d.leapPendStart) := rfl
theorem exec_leapOccEnd (t : Nat) (s : State) :
    exec (.leapOccEnd t) s = devRow s t true (fun (d : Dev) => d.leapOccEnd) := rfl
theorem exec_ppsOutPulse (t : Nat) (s : State) :
    exec (.ppsOutPulse t) s = devRow s t true (fun (d : Dev) => d.ppsOut) := rfl
theorem exec_pdelayReqSend (t : Nat) (p : Nat) (s : State) :
    exec (.pdelayReqSend t p) s = devRow s t (decide (p < 8)) (fun (d : Dev) => d.pdelaySend p) := rfl
theorem exec_frameReceived (t : Nat) (p : Nat) (bytes : List Byte) (fcsOk : Bool) (sfd : Nat) (s : State) :
    exec (.frameReceived t p bytes fcsOk sfd) s = devRow s t (decide (p < 8)) (fun (d : Dev) => if d.portLoop p != 0 then d.loopReceived p bytes fcsOk else d.frameReceived p bytes fcsOk sfd) := rfl
theorem exec_frameRelease (r : Release) (s : State) :
    exec (.frameRelease r) s = devRow s r.t (r.lag.all (fun x => decide (x.1 < 2) && decide (x.2.1 < 3))) (fun (d : Dev) => match d.release with | (some f, d) => ((d.ingress f).ingressLag r.lag).lockCheck.dispatchAll | (none, d) => d) := rfl
theorem exec_prpAgeOut (t : Nat) (s : State) :
    exec (.prpAgeOut t) s = devRow s t true (fun (d : Dev) => d.prpAge) := rfl
theorem exec_linkChange (t : Nat) (p : Nat) (up : Bool) (speed : Nat) (peer : LinkPeer) (s : State) :
    exec (.linkChange t p up speed peer) s = devRow s t (decide (p < 8)) (fun (d : Dev) => d.linkChange p up speed peer) := rfl
theorem exec_frameTransmitEnd (t : Nat) (p : Nat) (s : State) :
    exec (.frameTransmitEnd t p) s = devRow s t (decide (p < 8)) (fun (d : Dev) => if d.portLoop p != 0 then d.genStep p else d.txEnd p) := rfl
theorem exec_pauseHoldEnd (t : Nat) (p : Nat) (s : State) :
    exec (.pauseHoldEnd t p) s = devRow s t (decide (p < 8)) (fun (d : Dev) => d.pauseHoldEnd p) := rfl
theorem exec_pauseWatchdog (t : Nat) (p : Nat) (s : State) :
    exec (.pauseWatchdog t p) s = devRow s t (decide (p < 8)) (fun (d : Dev) => d.pauseWatchdog p) := rfl
theorem exec_pauseIgnoreEnd (t : Nat) (p : Nat) (s : State) :
    exec (.pauseIgnoreEnd t p) s = devRow s t (decide (p < 8)) (fun (d : Dev) => d.pauseIgnoreEnd p) := rfl
theorem exec_lpiEntry (t : Nat) (p : Nat) (s : State) :
    exec (.lpiEntry t p) s = devRow s t (decide (p < 8)) (fun (d : Dev) => d.lpiEntry p) := rfl
theorem exec_lpiWake (t : Nat) (p : Nat) (s : State) :
    exec (.lpiWake t p) s = devRow s t (decide (p < 8)) (fun (d : Dev) => d.lpiWake p) := rfl
theorem exec_plcaLost (t : Nat) (p : Nat) (s : State) :
    exec (.plcaLost t p) s = devRow s t (decide (4 ≤ p) && decide (p < 8)) (fun (d : Dev) => d.plcaLost p) := rfl
theorem exec_plcaStatusUp (t : Nat) (p : Nat) (s : State) :
    exec (.plcaStatusUp t p) s = devRow s t (decide (4 ≤ p) && decide (p < 8)) (fun (d : Dev) => d.plcaUp p) := rfl
theorem exec_backoffEnd (t : Nat) (p : Nat) (s : State) :
    exec (.backoffEnd t p) s = devRow s t (decide (4 ≤ p) && decide (p < 8)) (fun (d : Dev) => d.backoffEnd p) := rfl
theorem exec_collision (t : Nat) (p : Nat) (late : Bool) (s : State) :
    exec (.collision t p late) s = devRow s t (decide (4 ≤ p) && decide (p < 8)) (fun (d : Dev) => d.collision p late) := rfl
theorem exec_gapMarkerDequeue (t : Nat) (q : Nat) (s : State) :
    exec (.gapMarkerDequeue t q) s = devRow s t (decide (q < 4)) (fun (d : Dev) => d.gapDequeue q) := rfl
theorem exec_ingLookup (t : Nat) (i : Iface) (data : Word) (s : State) :
    exec (.ingLookup t i data) s = hostRow s t true i Reg.ING_LOOKUP_ID_HI data := rfl
theorem exec_keysDerived (t : Nat) (s : State) :
    exec (.keysDerived t) s = devRow s t true (fun (d : Dev) => d.deriveKeys.putB Reg.ING_STATUS 2 true) := rfl
theorem exec_c37CmdDataOff (t : Nat) (n : Nat) (s : State) :
    exec (.c37CmdDataOff t n) s = devRow s t (decide (n < 64)) (fun (d : Dev) => d.c37Command n 1) := rfl
theorem exec_c37CmdDataOn (t : Nat) (n : Nat) (s : State) :
    exec (.c37CmdDataOn t n) s = devRow s t (decide (n < 64)) (fun (d : Dev) => d.c37Command n 2) := rfl
theorem exec_c37CmdHeader (t : Nat) (n : Nat) (s : State) :
    exec (.c37CmdHeader t n) s = devRow s t (decide (n < 64)) (fun (d : Dev) => d.c37Command n 3) := rfl
theorem exec_c37CmdCfg1 (t : Nat) (n : Nat) (s : State) :
    exec (.c37CmdCfg1 t n) s = devRow s t (decide (n < 64)) (fun (d : Dev) => d.c37Command n 4) := rfl
theorem exec_c37CmdCfg2 (t : Nat) (n : Nat) (s : State) :
    exec (.c37CmdCfg2 t n) s = devRow s t (decide (n < 64)) (fun (d : Dev) => d.c37Command n 5) := rfl
theorem exec_gooseRetransmit (t : Nat) (g : Nat) (s : State) :
    exec (.gooseRetransmit t g) s = devRow s t (decide (g < 16)) (fun (d : Dev) => d.gooseRepeat g) := rfl
theorem exec_alnEntStatusRead (t : Nat) (i : Iface) (s : State) :
    exec (.alnEntStatusRead t i) s = readRow s t true i Reg.ALN_ENT_STATUS := rfl
theorem exec_oscSigStatusRead (t : Nat) (i : Iface) (s : State) :
    exec (.oscSigStatusRead t i) s = readRow s t true i Reg.OSC_SIG_STATUS := rfl
theorem exec_islGrpStatusRead (t : Nat) (i : Iface) (s : State) :
    exec (.islGrpStatusRead t i) s = readRow s t true i Reg.ISL_GRP_STATUS := rfl
theorem exec_oscTrkStatusRead (t : Nat) (i : Iface) (tr : Nat) (s : State) :
    exec (.oscTrkStatusRead t i tr) s = readRow s t (decide (tr < 16)) i (Reg.OSC_TRK_STATUS tr) := rfl
theorem exec_shapePartRead (t : Nat) (i : Iface) (tr : Nat) (s : State) :
    exec (.shapePartRead t i tr) s = readRow s t (decide (tr < 16)) i (Reg.OSC_TRK_SHAPE_PART tr) := rfl
theorem exec_islCgStatusRead (t : Nat) (i : Iface) (c : Nat) (s : State) :
    exec (.islCgStatusRead t i c) s = readRow s t (decide (c < 1024)) i (Reg.ISL_CG_STATUS c) := rfl
theorem exec_islUnlatch (t : Nat) (i : Iface) (data : Word) (s : State) :
    exec (.islUnlatch t i data) s = hostRow s t true i Reg.ISL_UNLATCH data := rfl
theorem exec_hostCmdTrip (t : Nat) (i : Iface) (data : Word) (s : State) :
    exec (.hostCmdTrip t i data) s = hostRow s t true i Reg.ISL_HOST_CMD (setBits data 14 12 1) := rfl
theorem exec_hostCmdCurtail (t : Nat) (i : Iface) (data : Word) (s : State) :
    exec (.hostCmdCurtail t i data) s = hostRow s t true i Reg.ISL_HOST_CMD (setBits data 14 12 2) := rfl
theorem exec_hostCmdHold (t : Nat) (i : Iface) (data : Word) (s : State) :
    exec (.hostCmdHold t i data) s = hostRow s t true i Reg.ISL_HOST_CMD (setBits data 14 12 3) := rfl
theorem exec_hostCmdClear (t : Nat) (i : Iface) (data : Word) (s : State) :
    exec (.hostCmdClear t i data) s = hostRow s t true i Reg.ISL_HOST_CMD (setBits data 14 12 4) := rfl
theorem exec_hostCmdRelease (t : Nat) (i : Iface) (data : Word) (s : State) :
    exec (.hostCmdRelease t i data) s = hostRow s t true i Reg.ISL_HOST_CMD (setBits data 14 12 5) := rfl
theorem exec_commandRepeat (t : Nat) (c : Nat) (s : State) :
    exec (.commandRepeat t c) s = devRow s t (decide (c < 1024)) (fun (d : Dev) => d.cmdRepeat c) := rfl
theorem exec_cmdAckEnd (t : Nat) (c : Nat) (s : State) :
    exec (.cmdAckEnd t c) s = devRow s t (decide (c < 1024)) (fun (d : Dev) => d.ackTimer c) := rfl
theorem exec_itemComplete (t : Nat) (w core cycles status : Nat) (s : State) :
    exec (.itemComplete t w core cycles status) s = devRow s t (decide (w < 2) && decide (core < 16) && decide (status < 7)) (fun (d : Dev) => d.itemComplete w core cycles status) := rfl
theorem exec_affinityPatienceEnd (t : Nat) (w id : Nat) (s : State) :
    exec (.affinityPatienceEnd t w id) s = devRow s t (decide (w < 2)) (fun (d : Dev) => d.patienceEnd w id) := rfl
theorem exec_tcpTimer (t : Nat) (c : Nat) (s : State) :
    exec (.tcpTimer t c) s = devRow s t (decide (c < 64)) (fun (d : Dev) => (d.mkItem 0x24 0 0 (.tcp c 0 [])).2.dispatchAll) := rfl
theorem exec_nectarTick (t : Nat) (power : Nat) (temps : List Int) (s : State) :
    exec (.nectarTick t power temps) s = devRow s t true (fun (d : Dev) => (d.nectarTick power temps).dispatchAll) := rfl
theorem exec_wearSecond (t : Nat) (temps : List Int) (s : State) :
    exec (.wearSecond t temps) s = devRow s t true (fun (d : Dev) => d.wearSecond temps) := rfl
theorem exec_wearHour (t : Nat) (s : State) :
    exec (.wearHour t) s = devRow s t true (fun (d : Dev) => d.wearHour) := rfl
theorem exec_tjMax (t : Nat) (sensor : Nat) (temp : Int) (s : State) :
    exec (.tjMax t sensor temp) s = devRow s t (decide (sensor < 9)) (fun (d : Dev) => (d.tjMax sensor temp).dispatchAll) := rfl
theorem exec_queuePush (t : Nat) (w q : Nat) (head : Option (Nat × Nat × Option Nat)) (words : List (BitVec 64)) (s : State) :
    exec (.queuePush t w q head words) s = devRow s t (decide (w < 2) && decide (q < 512)) (fun (d : Dev) => match head with | some (len, pool, stamp) => (let (f, d) := d.qPush w q len pool stamp words; if f then d.wingFault w 5 else d) | none => d.qMore w q words) := rfl
theorem exec_queuePop (t : Nat) (w q n ce : Nat) (ue : Bool) (s : State) :
    exec (.queuePop t w q n ce ue) s = devRow s t (decide (w < 2) && decide (q < 512)) (fun (d : Dev) => let (f, d) := d.qPop w q n ce ue; if f then d.wingFault w 5 else d) := rfl
theorem exec_queueFlush (t : Nat) (i : Iface) (data : Word) (s : State) :
    exec (.queueFlush t i data) s = hostRow s t true i Reg.QUE_CMD (setBits data 13 12 1) := rfl
theorem exec_queueDropRem (t : Nat) (i : Iface) (data : Word) (s : State) :
    exec (.queueDropRem t i data) s = hostRow s t true i Reg.QUE_CMD (setBits data 13 12 2) := rfl
theorem exec_scrubPass (t : Nat) (w : Nat) (ces : List Nat) (ues : List (Nat × Nat)) (s : State) :
    exec (.scrubPass t w ces ues) s = devRow s t (decide (w < 2) && ces.all (fun q => decide (q < 512)) && ues.all (fun u => decide (u.1 < 512))) (fun (d : Dev) => let (f, d) := d.qScrub w ces ues; if f then d.wingFault w 5 else d) := rfl
theorem exec_virtualServiceTick (t : Nat) (q : Nat) (s : State) :
    exec (.virtualServiceTick t q) s = devRow s t (decide (q < 512)) (fun (d : Dev) => d.qService q) := rfl
theorem exec_lockstepMismatch (t : Nat) (w : Nat) (s : State) :
    exec (.lockstepMismatch t w) s = devRow s t (decide (w < 2)) (fun (d : Dev) => d.wingFault w 2) := rfl
theorem exec_journalDramUe (t : Nat) (w : Nat) (s : State) :
    exec (.journalDramUe t w) s = devRow s t (decide (w < 2)) (fun (d : Dev) => d.wingFault w 9) := rfl
theorem exec_recIntakeTake (t : Nat) (s : State) :
    exec (.recIntakeTake t) s = devRow s t true (fun (d : Dev) => d.intakeTake) := rfl
theorem exec_recReadable (t : Nat) (s : State) :
    exec (.recReadable t) s = devRow s t true (fun (d : Dev) => d.readable) := rfl
theorem exec_keepRingWrite (t : Nat) (okA okB : Bool) (s : State) :
    exec (.keepRingWrite t okA okB) s = devRow s t true (fun (d : Dev) => d.keepWrite okA okB) := rfl
theorem exec_keepBudgetRefill (t : Nat) (s : State) :
    exec (.keepBudgetRefill t) s = devRow s t true (fun (d : Dev) => d.budgetRefill) := rfl
theorem exec_recMirrorTimeout (t : Nat) (s : State) :
    exec (.recMirrorTimeout t) s = devRow s t true (fun (d : Dev) => d.mirrorTimeout) := rfl
theorem exec_recRpStatusRead (t : Nat) (i : Iface) (p : Nat) (s : State) :
    exec (.recRpStatusRead t i p) s = readRow s t (decide (p < 2)) i (Reg.REC_RP_STATUS p) := rfl
theorem exec_recRpConsume (t : Nat) (i : Iface) (p : Nat) (s : State) :
    exec (.recRpConsume t i p) s = readRow s t (decide (p < 2)) i (Reg.REC_RP_CONSUME p) := rfl
theorem exec_recCursorWrite (t : Nat) (i : Iface) (p : Nat) (data : Word) (s : State) :
    exec (.recCursorWrite t i p data) s = hostRow s t (decide (p < 2)) i (Reg.REC_RP_CUR_HI p) data := rfl
theorem exec_recQuotaWrite (t : Nat) (i : Iface) (p : Nat) (data : Word) (s : State) :
    exec (.recQuotaWrite t i p data) s = hostRow s t (decide (p < 2)) i (Reg.REC_RP_QUOTA p) data := rfl
theorem exec_keyInstall (t : Nat) (i : Iface) (data : Word) (s : State) :
    exec (.keyInstall t i data) s = hostRow s t true i Reg.KEY_MSG_CTL (setBits data 0 0 1) := rfl
theorem exec_keyDelete (t : Nat) (i : Iface) (data : Word) (s : State) :
    exec (.keyDelete t i data) s = hostRow s t true i Reg.KEY_MSG_CTL (setBits data 0 0 1) := rfl
theorem exec_keyAuthority (t : Nat) (i : Iface) (data : Word) (s : State) :
    exec (.keyAuthority t i data) s = hostRow s t true i Reg.KEY_MSG_CTL (setBits data 0 0 1) := rfl
theorem exec_keyOwn (t : Nat) (i : Iface) (data : Word) (s : State) :
    exec (.keyOwn t i data) s = hostRow s t true i Reg.KEY_MSG_CTL (setBits data 0 0 1) := rfl
theorem exec_keyMsgClear (t : Nat) (i : Iface) (data : Word) (s : State) :
    exec (.keyMsgClear t i data) s = hostRow s t true i Reg.KEY_MSG_CTL (setBits data 1 1 1) := rfl
theorem exec_keyStoreDone (t : Nat) (okA okB : Bool) (s : State) :
    exec (.keyStoreDone t okA okB) s = devRow s t true (fun (d : Dev) => d.keyStoreDone okA okB) := rfl
theorem exec_keySlotInfoRead (t : Nat) (i : Iface) (s : State) :
    exec (.keySlotInfoRead t i) s = readRow s t true i Reg.KEY_SLOT_INFO := rfl
theorem exec_wingHeartbeat (t : Nat) (w : Nat) (link arb : Bool) (s : State) :
    exec (.wingHeartbeat t w link arb) s = devRow s t (decide (w < 2)) (fun (d : Dev) => d.wingHeartbeat w link arb) := rfl
theorem exec_heartbeatMiss (t : Nat) (w : Nat) (link arb : Bool) (s : State) :
    exec (.heartbeatMiss t w link arb) s = devRow s t (decide (w < 2)) (fun (d : Dev) => d.heartbeatMiss w link arb) := rfl
theorem exec_takeover (t : Nat) (s : State) :
    exec (.takeover t) s = devRow s t true (fun (d : Dev) => d.takeoverDue) := rfl
theorem exec_digestAttribution (t : Nat) (fail0 fail1 : Bool) (s : State) :
    exec (.digestAttribution t fail0 fail1) s = devRow s t true (fun (d : Dev) => d.attribute fail0 fail1) := rfl
theorem exec_oznisHeartbeat (t : Nat) (l : Nat) (rx : Option (List Byte)) (peerOk : Bool) (s : State) :
    exec (.oznisHeartbeat t l rx peerOk) s = devRow s t (decide (l < 2)) (fun (d : Dev) => if (d.loop 1 l).mode != 0 then (match rx with | some b => d.ozPatternReceived l b | none => d.ozPatternSend l) else d.oznisHeartbeat l rx peerOk) := rfl
theorem exec_oznisHeartbeatMiss (t : Nat) (l : Nat) (s : State) :
    exec (.oznisHeartbeatMiss t l) s = devRow s t (decide (l < 2)) (fun (d : Dev) => if (d.loop 1 l).mode != 0 then d else d.oznisMiss l) := rfl
theorem exec_oznisRetransmit (t : Nat) (linkSeq : Nat) (s : State) :
    exec (.oznisRetransmit t linkSeq) s = devRow s t true (fun (d : Dev) => d.oznisRetransmit linkSeq) := rfl
theorem exec_outputFrame (t : Nat) (l : Nat) (bytes : List Byte) (s : State) :
    exec (.outputFrame t l bytes) s = devRow s t (decide (l < 2)) (fun (d : Dev) => d.outputFrame l bytes) := rfl
theorem exec_outputAck (t : Nat) (l : Nat) (bytes : List Byte) (s : State) :
    exec (.outputAck t l bytes) s = devRow s t (decide (l < 2)) (fun (d : Dev) => d.outputAck l bytes) := rfl
theorem exec_outputAckTimeout (t : Nat) (linkSeq : Nat) (s : State) :
    exec (.outputAckTimeout t linkSeq) s = devRow s t true (fun (d : Dev) => d.ackTimeout linkSeq) := rfl
theorem exec_reportFrame (t : Nat) (l : Nat) (bytes : List Byte) (s : State) :
    exec (.reportFrame t l bytes) s = devRow s t (decide (l < 2)) (fun (d : Dev) => d.reportFrame l bytes) := rfl
theorem exec_resyncFrame (t : Nat) (prog : Nat) (s : State) :
    exec (.resyncFrame t prog) s = devRow s t true (fun (d : Dev) => d.resyncFrame prog) := rfl
theorem exec_healthFrame (t : Nat) (l : Nat) (bytes : List Byte) (s : State) :
    exec (.healthFrame t l bytes) s = devRow s t (decide (l < 2)) (fun (d : Dev) => d.healthFrame l bytes) := rfl
theorem exec_beaconSend (t : Nat) (s : State) :
    exec (.beaconSend t) s = devRow s t true (fun (d : Dev) => d.beaconSend) := rfl
theorem exec_beaconReceived (t : Nat) (payload : List Byte) (s : State) :
    exec (.beaconReceived t payload) s = devRow s t true (fun (d : Dev) => d.beaconReceived payload) := rfl
theorem exec_twinBClaimWait (t : Nat) (s : State) :
    exec (.twinBClaimWait t) s = devRow s t true (fun (d : Dev) => d.twinBClaim) := rfl
theorem exec_wingRepair (t : Nat) (i : Iface) (data : Word) (s : State) :
    exec (.wingRepair t i data) s = hostRow s t true i Reg.WNG_CTL (setBits data 2 2 1) := rfl
theorem exec_wingSwitch (t : Nat) (i : Iface) (data : Word) (s : State) :
    exec (.wingSwitch t i data) s = hostRow s t true i Reg.WNG_CTL (setBits data 3 3 1) := rfl
theorem exec_wingSelftestDone (t : Nat) (w : Nat) (pass : Bool) (s : State) :
    exec (.wingSelftestDone t w pass) s = devRow s t (decide (w < 2)) (fun (d : Dev) => d.wingTested w pass) := rfl
theorem exec_resyncConverge (t : Nat) (w : Nat) (twin : Bool) (s : State) :
    exec (.resyncConverge t w twin) s = devRow s t (decide (w < 2)) (fun (d : Dev) => d.converge w twin) := rfl
theorem exec_selftestSlice (t : Nat) (failed : Bool) (s : State) :
    exec (.selftestSlice t failed) s = devRow s t true (fun (d : Dev) => d.selftestSlice failed) := rfl
theorem exec_wngOutStatusRead (t : Nat) (i : Iface) (s : State) :
    exec (.wngOutStatusRead t i) s = readRow s t true i Reg.WNG_OUT_STATUS := rfl
theorem exec_clockLoss (t : Nat) (w0 w1 : Bool) (s : State) :
    exec (.clockLoss t w0 w1) s = devRow s t true (fun (d : Dev) => d.clockLoss w0 w1) := rfl
theorem exec_safClear (t : Nat) (i : Iface) (data : Word) (s : State) :
    exec (.safClear t i data) s = hostRow s t true i Reg.SAF_CLEAR data := rfl
theorem exec_proofStart (t : Nat) (i : Iface) (data : Word) (s : State) :
    exec (.proofStart t i data) s = hostRow s t true i Reg.SAF_PROOF_CTL (setBits data 8 8 1) := rfl
theorem exec_proofSample (t : Nat) (level : Bool) (s : State) :
    exec (.proofSample t level) s = devRow s t true (fun (d : Dev) => d.proofSample level) := rfl
theorem exec_proofDue (t : Nat) (s : State) :
    exec (.proofDue t) s = devRow s t true (fun (d : Dev) => d.proofDueEvent) := rfl
theorem exec_txnBegin (t : Nat) (i : Iface) (data : Word) (s : State) :
    exec (.txnBegin t i data) s = hostRow s t true i Reg.TXN_CMD (setBits data 3 0 1) := rfl
theorem exec_txnCommit (t : Nat) (i : Iface) (data : Word) (s : State) :
    exec (.txnCommit t i data) s = hostRow s t true i Reg.TXN_CMD (setBits data 3 0 2) := rfl
theorem exec_txnRollback (t : Nat) (i : Iface) (data : Word) (s : State) :
    exec (.txnRollback t i data) s = hostRow s t true i Reg.TXN_CMD (setBits data 3 0 3) := rfl
theorem exec_txnLoadImage (t : Nat) (i : Iface) (data : Word) (s : State) :
    exec (.txnLoadImage t i data) s = hostRow s t true i Reg.TXN_CMD (setBits data 3 0 4) := rfl
theorem exec_txnClearStaging (t : Nat) (i : Iface) (data : Word) (s : State) :
    exec (.txnClearStaging t i data) s = hostRow s t true i Reg.TXN_CMD (setBits data 3 0 5) := rfl
theorem exec_txnConfirm (t : Nat) (i : Iface) (data : Word) (s : State) :
    exec (.txnConfirm t i data) s = hostRow s t true i Reg.TXN_CMD (setBits data 3 0 6) := rfl
theorem exec_txnRevert (t : Nat) (i : Iface) (data : Word) (s : State) :
    exec (.txnRevert t i data) s = hostRow s t true i Reg.TXN_CMD (setBits data 3 0 7) := rfl
theorem exec_txnLoadReset (t : Nat) (i : Iface) (data : Word) (s : State) :
    exec (.txnLoadReset t i data) s = hostRow s t true i Reg.TXN_CMD (setBits data 3 0 8) := rfl
theorem exec_txnBadOp (t : Nat) (i : Iface) (data : Word) (s : State) :
    exec (.txnBadOp t i data) s = hostRow s t (decide (data.toNat % 16 = 0) || decide (8 < data.toNat % 16)) i Reg.TXN_CMD data := rfl
theorem exec_txnImgWdata (t : Nat) (i : Iface) (data : Word) (s : State) :
    exec (.txnImgWdata t i data) s = hostRow s t true i Reg.TXN_IMG_WDATA data := rfl
theorem exec_txnTimeoutExpiry (t : Nat) (s : State) :
    exec (.txnTimeoutExpiry t) s = devRow s t true (fun (d : Dev) => d.txnExpire) := rfl
theorem exec_txnValidationDone (t : Nat) (s : State) :
    exec (.txnValidationDone t) s = devRow s t true (fun (d : Dev) => d.txnValidated) := rfl
theorem exec_txnStoreDone (t : Nat) (ok : Bool) (s : State) :
    exec (.txnStoreDone t ok) s = resetRow s t true (fun (d : Dev) => d.txnStoreEnd ok) := rfl
theorem exec_txnPrepare (t : Nat) (l : Nat) (bytes : List Byte) (elems : List (Nat × List Byte)) (rootsOk : Bool) (s : State) :
    exec (.txnPrepare t l bytes elems rootsOk) s = devRow s t (decide (l < 2)) (fun (d : Dev) => d.txnPrepare l bytes elems rootsOk) := rfl
theorem exec_txnAck (t : Nat) (l : Nat) (bytes : List Byte) (s : State) :
    exec (.txnAck t l bytes) s = devRow s t (decide (l < 2)) (fun (d : Dev) => d.txnAck l bytes) := rfl
theorem exec_txnNak (t : Nat) (l : Nat) (bytes : List Byte) (s : State) :
    exec (.txnNak t l bytes) s = devRow s t (decide (l < 2)) (fun (d : Dev) => d.txnNak l bytes) := rfl
theorem exec_twinPrepareTimeout (t : Nat) (s : State) :
    exec (.twinPrepareTimeout t) s = devRow s t true (fun (d : Dev) => d.prepareTimeout) := rfl
theorem exec_probationEnd (t : Nat) (s : State) :
    exec (.probationEnd t) s = devRow s t true (fun (d : Dev) => d.probationEnd) := rfl
theorem exec_portLoopOff (t : Nat) (i : Iface) (p : Nat) (data : Word) (s : State) :
    exec (.portLoopOff t i p data) s = hostRow s t (decide (p < 8)) i (Reg.TST_PORT_CTL p) (setBits data 2 0 0) := rfl
theorem exec_portLoopMac (t : Nat) (i : Iface) (p : Nat) (data : Word) (s : State) :
    exec (.portLoopMac t i p data) s = hostRow s t (decide (p < 8)) i (Reg.TST_PORT_CTL p) (setBits data 2 0 1) := rfl
theorem exec_portLoopPcs (t : Nat) (i : Iface) (p : Nat) (data : Word) (s : State) :
    exec (.portLoopPcs t i p data) s = hostRow s t (decide (p < 8)) i (Reg.TST_PORT_CTL p) (setBits data 2 0 2) := rfl
theorem exec_portLoopPma (t : Nat) (i : Iface) (p : Nat) (data : Word) (s : State) :
    exec (.portLoopPma t i p data) s = hostRow s t (decide (p < 8)) i (Reg.TST_PORT_CTL p) (setBits data 2 0 3) := rfl
theorem exec_portLoopRemote (t : Nat) (i : Iface) (p : Nat) (data : Word) (s : State) :
    exec (.portLoopRemote t i p data) s = hostRow s t (decide (p < 8)) i (Reg.TST_PORT_CTL p) (setBits data 2 0 4) := rfl
theorem exec_portLoopT1sAnalog (t : Nat) (i : Iface) (p : Nat) (data : Word) (s : State) :
    exec (.portLoopT1sAnalog t i p data) s = hostRow s t (decide (p < 8)) i (Reg.TST_PORT_CTL p) (setBits data 2 0 5) := rfl
theorem exec_portLoopGenerate (t : Nat) (i : Iface) (p : Nat) (data : Word) (s : State) :
    exec (.portLoopGenerate t i p data) s = hostRow s t (decide (p < 8)) i (Reg.TST_PORT_CTL p) (setBits data 3 3 1) := rfl
theorem exec_loopDone (t : Nat) (p : Nat) (s : State) :
    exec (.loopDone t p) s = devRow s t (decide (p < 8)) (fun (d : Dev) => d.loopDone p) := rfl
theorem exec_loopTimeout (t : Nat) (kind idx : Nat) (s : State) :
    exec (.loopTimeout t kind idx) s = devRow s t (decide (kind < 5) && decide (idx < [8, 2, 4, 1, 2].getD kind 0)) (fun (d : Dev) => (d.loopTimeout kind idx).afterLoop d) := rfl
theorem exec_quadLoopOff (t : Nat) (i : Iface) (q : Nat) (data : Word) (s : State) :
    exec (.quadLoopOff t i q data) s = hostRow s t (decide (q < 4)) i (Reg.TST_Q_CTL q) (setBits data 2 0 0) := rfl
theorem exec_quadTone (t : Nat) (i : Iface) (q : Nat) (data : Word) (s : State) :
    exec (.quadTone t i q data) s = hostRow s t (decide (q < 4)) i (Reg.TST_Q_CTL q) (setBits data 2 0 1) := rfl
theorem exec_quadRefPos (t : Nat) (i : Iface) (q : Nat) (data : Word) (s : State) :
    exec (.quadRefPos t i q data) s = hostRow s t (decide (q < 4)) i (Reg.TST_Q_CTL q) (setBits data 2 0 2) := rfl
theorem exec_quadRefNeg (t : Nat) (i : Iface) (q : Nat) (data : Word) (s : State) :
    exec (.quadRefNeg t i q data) s = hostRow s t (decide (q < 4)) i (Reg.TST_Q_CTL q) (setBits data 2 0 3) := rfl
theorem exec_quadBitstream (t : Nat) (i : Iface) (q : Nat) (data : Word) (s : State) :
    exec (.quadBitstream t i q data) s = hostRow s t (decide (q < 4)) i (Reg.TST_Q_CTL q) (setBits data 2 0 4) := rfl
theorem exec_quadSynth (t : Nat) (i : Iface) (q : Nat) (data : Word) (s : State) :
    exec (.quadSynth t i q data) s = hostRow s t (decide (q < 4)) i (Reg.TST_Q_CTL q) (setBits data 2 0 5) := rfl
theorem exec_ozLoopOff (t : Nat) (i : Iface) (l : Nat) (data : Word) (s : State) :
    exec (.ozLoopOff t i l data) s = hostRow s t (decide (l < 2)) i (Reg.TST_OZ_CTL l) (setBits data 1 0 0) := rfl
theorem exec_ozLoopSerial (t : Nat) (i : Iface) (l : Nat) (data : Word) (s : State) :
    exec (.ozLoopSerial t i l data) s = hostRow s t (decide (l < 2)) i (Reg.TST_OZ_CTL l) (setBits data 1 0 1) := rfl
theorem exec_ozLoopFraming (t : Nat) (i : Iface) (l : Nat) (data : Word) (s : State) :
    exec (.ozLoopFraming t i l data) s = hostRow s t (decide (l < 2)) i (Reg.TST_OZ_CTL l) (setBits data 1 0 2) := rfl
theorem exec_pcieLoop (t : Nat) (i : Iface) (data : Word) (errs : Nat) (s : State) :
    exec (.pcieLoop t i data errs) s = let s' := ((s.at t).write i 15 Reg.TST_PCIE_LB data).2; doneS s { s' with dev := s'.dev.pcieErrors errs } := rfl
theorem exec_ppsLoop (t : Nat) (i : Iface) (data : Word) (s : State) :
    exec (.ppsLoop t i data) s = hostRow s t true i Reg.TST_PPS_CTL data := rfl
theorem exec_prodModeWrite (t : Nat) (i : Iface) (data : Word) (s : State) :
    exec (.prodModeWrite t i data) s = hostRow s t true i Reg.TST_CTL data := rfl

/-- The commands whose row is neither an effect on the device nor one access to a register other than GLB_CTL. -/
def isRaw : Instr → Bool
  | .registerWrite _ _ _ _ _ => true
  | .rcRead _ _ _ _ => true
  | .latchedRead _ _ _ _ => true
  | .accErrClr _ _ _ => false
  | .glbCtlWrite _ _ _ => true
  | .spiWriteFrame _ _ => true
  | .spiReadFrame _ _ _ => true
  | .powerOn _ => false
  | .supplyFault _ => false
  | .boardReset _ _ => false
  | .resetRelease _ _ _ _ _ => false
  | .hostReset _ _ => false
  | .watchdogReset _ => false
  | .selftestDone _ _ => false
  | .imageLoaded _ => false
  | .pupaGo _ _ _ => false
  | .calibrationDone _ _ _ => false
  | .syncTimeout _ => false
  | .pwrfailFall _ => false
  | .pwrfailEnd _ => false
  | .endpointReset _ _ => false
  | .d3hotEntry _ => false
  | .baseRateSample _ _ _ _ _ _ => false
  | .sampleTick _ => false
  | .flutterBoundary _ _ _ _ => false
  | .trackedCycleBoundary _ => false
  | .checkFrameBoundary _ => false
  | .wingbeatBoundary _ _ => false
  | .slowWindowLeave _ => false
  | .exportWrite _ => false
  | .ptpMasterSend _ _ => false
  | .ppsEdge _ _ => false
  | .ppsTodArm _ _ _ _ => false
  | .irigFrame _ _ => false
  | .twinTimeExchange _ _ => false
  | .sourceLost _ _ => false
  | .holdoverLimit _ _ => false
  | .forceSwitch _ _ _ => false
  | .slewDone _ => false
  | .domainRevert _ => false
  | .timSnap _ _ _ => false
  | .leap _ => false
  | .leapPendStart _ => false
  | .leapOccEnd _ => false
  | .ppsOutPulse _ => false
  | .cnvSnap _ _ _ _ => false
  | .cnvSnapAll _ _ _ => false
  | .snapshotLatch _ => false
  | .ckInj _ _ _ _ => false
  | .resStatusRead _ _ _ => false
  | .resConsume _ _ _ => false
  | .calStart _ _ _ => false
  | .lpRequest _ _ _ => false
  | .settleEnd _ => false
  | .firSwap _ _ _ _ => false
  | .fadeDone _ _ => false
  | .coefWrite _ _ _ => false
  | .coefRead _ _ => false
  | .hostFreeze _ _ _ _ => false
  | .freezeRelease _ _ _ _ => false
  | .freezeTailEnd _ _ => false
  | .freezeMaxEnd _ _ => false
  | .trkHoldLimit _ => false
  | .trkRefReturn _ => false
  | .decsyncPin _ _ => false
  | .decsyncCommand _ _ _ => false
  | .aoMinHoldEnd _ _ => false
  | .aoUnlatch _ _ _ => false
  | .phsChStatusRead _ _ _ => false
  | .frameReceived _ _ _ _ _ => false
  | .frameRelease _ => false
  | .prpAgeOut _ => false
  | .linkChange _ _ _ _ _ => false
  | .frameTransmitEnd _ _ => false
  | .pauseHoldEnd _ _ => false
  | .pauseWatchdog _ _ => false
  | .pauseIgnoreEnd _ _ => false
  | .lpiEntry _ _ => false
  | .lpiWake _ _ => false
  | .plcaLost _ _ => false
  | .collision _ _ _ => false
  | .backoffEnd _ _ => false
  | .gapMarkerDequeue _ _ => false
  | .ingLookup _ _ _ => false
  | .keysDerived _ => false
  | .c37CmdDataOff _ _ => false
  | .c37CmdDataOn _ _ => false
  | .c37CmdHeader _ _ => false
  | .c37CmdCfg1 _ _ => false
  | .c37CmdCfg2 _ _ => false
  | .gooseRetransmit _ _ => false
  | .alnEntStatusRead _ _ => false
  | .oscSigStatusRead _ _ => false
  | .oscTrkStatusRead _ _ _ => false
  | .shapePartRead _ _ _ => false
  | .islUnlatch _ _ _ => false
  | .hostCmdTrip _ _ _ => false
  | .hostCmdCurtail _ _ _ => false
  | .hostCmdHold _ _ _ => false
  | .hostCmdClear _ _ _ => false
  | .hostCmdRelease _ _ _ => false
  | .commandRepeat _ _ => false
  | .cmdAckEnd _ _ => false
  | .islGrpStatusRead _ _ => false
  | .islCgStatusRead _ _ _ => false
  | .itemComplete _ _ _ _ _ => false
  | .affinityPatienceEnd _ _ _ => false
  | .tcpTimer _ _ => false
  | .nectarTick _ _ _ => false
  | .wearSecond _ _ => false
  | .wearHour _ => false
  | .tjMax _ _ _ => false
  | .queuePush _ _ _ _ _ => false
  | .queuePop _ _ _ _ _ _ => false
  | .queueFlush _ _ _ => false
  | .queueDropRem _ _ _ => false
  | .scrubPass _ _ _ _ => false
  | .virtualServiceTick _ _ => false
  | .diChange _ _ _ => false
  | .holdoffEnd _ _ => false
  | .diMismatch _ _ => false
  | .acqEntryCopy _ => false
  | .captureResume _ => false
  | .waveBlock _ _ => false
  | .acqRingTailWrite _ _ _ => false
  | .cmpJobTake _ => false
  | .cmpJobDone _ _ _ _ _ => false
  | .cmpCompletionWrite _ => false
  | .recIntakeTake _ => false
  | .recReadable _ => false
  | .keepRingWrite _ _ _ => false
  | .keepBudgetRefill _ => false
  | .recMirrorTimeout _ => false
  | .recRpStatusRead _ _ _ => false
  | .recRpConsume _ _ _ => false
  | .recCursorWrite _ _ _ _ => false
  | .recQuotaWrite _ _ _ _ => false
  | .keyInstall _ _ _ => false
  | .keyDelete _ _ _ => false
  | .keyAuthority _ _ _ => false
  | .keyOwn _ _ _ => false
  | .keyMsgClear _ _ _ => false
  | .keyStoreDone _ _ _ => false
  | .keySlotInfoRead _ _ => false
  | .wingHeartbeat _ _ _ _ => false
  | .heartbeatMiss _ _ _ _ => false
  | .takeover _ => false
  | .digestAttribution _ _ _ => false
  | .oznisHeartbeat _ _ _ _ => false
  | .oznisHeartbeatMiss _ _ => false
  | .oznisRetransmit _ _ => false
  | .outputFrame _ _ _ => false
  | .outputAck _ _ _ => false
  | .outputAckTimeout _ _ => false
  | .reportFrame _ _ _ => false
  | .resyncFrame _ _ => false
  | .healthFrame _ _ _ => false
  | .txnPrepare _ _ _ _ _ => false
  | .txnAck _ _ _ => false
  | .txnNak _ _ _ => false
  | .twinPrepareTimeout _ => false
  | .beaconSend _ => false
  | .beaconReceived _ _ => false
  | .twinBClaimWait _ => false
  | .wingRepair _ _ _ => false
  | .wingSwitch _ _ _ => false
  | .resyncConverge _ _ _ => false
  | .selftestSlice _ _ => false
  | .wngOutStatusRead _ _ => false
  | .clockLoss _ _ _ => false
  | .safClear _ _ _ => false
  | .proofStart _ _ _ => false
  | .proofSample _ _ => false
  | .txnBegin _ _ _ => false
  | .txnCommit _ _ _ => false
  | .txnRollback _ _ _ => false
  | .txnLoadImage _ _ _ => false
  | .txnClearStaging _ _ _ => false
  | .txnConfirm _ _ _ => false
  | .txnRevert _ _ _ => false
  | .txnLoadReset _ _ _ => false
  | .txnBadOp _ _ _ => false
  | .txnImgWdata _ _ _ => false
  | .txnTimeoutExpiry _ => false
  | .txnValidationDone _ => false
  | .txnStoreDone _ _ => false
  | .probationEnd _ => false
  | .hostRingTake _ _ => false
  | .hostRingAck _ _ => false
  | .hostRingCompletion _ _ => false
  | .hostRingEnable _ _ _ _ => false
  | .portLoopOff _ _ _ _ => false
  | .portLoopMac _ _ _ _ => false
  | .portLoopPcs _ _ _ _ => false
  | .portLoopPma _ _ _ _ => false
  | .portLoopRemote _ _ _ _ => false
  | .portLoopT1sAnalog _ _ _ _ => false
  | .portLoopGenerate _ _ _ _ => false
  | .loopDone _ _ => false
  | .loopTimeout _ _ _ => false
  | .quadLoopOff _ _ _ _ => false
  | .quadTone _ _ _ _ => false
  | .quadRefPos _ _ _ _ => false
  | .quadRefNeg _ _ _ _ => false
  | .quadBitstream _ _ _ _ => false
  | .quadSynth _ _ _ _ => false
  | .ozLoopOff _ _ _ _ => false
  | .ozLoopSerial _ _ _ _ => false
  | .ozLoopFraming _ _ _ _ => false
  | .pcieLoop _ _ _ _ => true
  | .ppsLoop _ _ _ => false
  | .prodModeWrite _ _ _ => false
  | .pdelayReqSend _ _ => false
  | .plcaStatusUp _ _ => false
  | .d3hotExit _ => false
  | .pcieLinkUp _ _ _ => false
  | .pcieLoopbackSlave _ => false
  | .lockstepMismatch _ _ => false
  | .journalDramUe _ _ => false
  | .wingSelftestDone _ _ _ => false
  | .proofDue _ => false

/-- Every command is an effect on the device, one register access, or one of the seven kept apart. -/
theorem exec_kind (c : Instr) (s : State) :
    (∃ t ok f, exec c s = devRow s t ok f) ∨
    (∃ t ok f, exec c s = runRow s t ok f) ∨
    (∃ t ok f, exec c s = resetRow s t ok f) ∨
    (∃ t ok i a v, a ≠ Reg.GLB_CTL ∧ exec c s = hostRow s t ok i a v) ∨
    (∃ t ok i a, exec c s = readRow s t ok i a) ∨
    isRaw c = true := by
  cases c
  case registerWrite t i en addr data => exact Or.inr (Or.inr (Or.inr (Or.inr (Or.inr (rfl)))))
  case rcRead t i en addr => exact Or.inr (Or.inr (Or.inr (Or.inr (Or.inr (rfl)))))
  case latchedRead t i en addr => exact Or.inr (Or.inr (Or.inr (Or.inr (Or.inr (rfl)))))
  case accErrClr t i data => exact Or.inr (Or.inr (Or.inr (Or.inl (⟨_, _, _, _, _, by unfold Reg.GLB_ACC_ERR_CLR Reg.GLB_CTL; omega, exec_accErrClr t i data s⟩))))
  case glbCtlWrite t i data => exact Or.inr (Or.inr (Or.inr (Or.inr (Or.inr (rfl)))))
  case spiWriteFrame t bytes => exact Or.inr (Or.inr (Or.inr (Or.inr (Or.inr (rfl)))))
  case spiReadFrame t bytes late => exact Or.inr (Or.inr (Or.inr (Or.inr (Or.inr (rfl)))))
  case powerOn t => exact Or.inr (Or.inr (Or.inl (⟨_, _, _, exec_powerOn t s⟩)))
  case supplyFault t => exact Or.inr (Or.inr (Or.inl (⟨_, _, _, exec_supplyFault t s⟩)))
  case boardReset t low => exact Or.inr (Or.inr (Or.inl (⟨_, _, _, exec_boardReset t low s⟩)))
  case resetRelease t twinId debugEn pupaHold refclkSel => exact Or.inr (Or.inr (Or.inl (⟨_, _, _, exec_resetRelease t twinId debugEn pupaHold refclkSel s⟩)))
  case hostReset t i => exact Or.inr (Or.inr (Or.inr (Or.inl (⟨_, _, _, _, _, by unfold Reg.GLB_RESET_CTL Reg.GLB_CTL; omega, exec_hostReset t i s⟩))))
  case watchdogReset t => exact Or.inr (Or.inr (Or.inl (⟨_, _, _, exec_watchdogReset t s⟩)))
  case selftestDone t failed => exact Or.inl (⟨_, _, _, exec_selftestDone t failed s⟩)
  case imageLoaded t => exact Or.inl (⟨_, _, _, exec_imageLoaded t s⟩)
  case pupaGo t i data => exact Or.inr (Or.inr (Or.inr (Or.inl (⟨_, _, _, _, _, by unfold Reg.GLB_BOOT_CTL Reg.GLB_CTL; omega, exec_pupaGo t i data s⟩))))
  case calibrationDone t quads facts => exact Or.inl (⟨_, _, _, exec_calibrationDone t quads facts s⟩)
  case syncTimeout t => exact Or.inl (⟨_, _, _, exec_syncTimeout t s⟩)
  case pwrfailFall t => exact Or.inl (⟨_, _, _, exec_pwrfailFall t s⟩)
  case pwrfailEnd t => exact Or.inl (⟨_, _, _, exec_pwrfailEnd t s⟩)
  case endpointReset t flr => exact Or.inl (⟨_, _, _, exec_endpointReset t flr s⟩)
  case d3hotEntry t => exact Or.inl (⟨_, _, _, exec_d3hotEntry t s⟩)
  case baseRateSample t q a b c refs => exact Or.inl (⟨_, _, _, exec_baseRateSample t q a b c refs s⟩)
  case sampleTick t => exact Or.inr (Or.inl (⟨_, _, _, exec_sampleTick t s⟩))
  case flutterBoundary t cks sense mis => exact Or.inr (Or.inl (⟨_, _, _, exec_flutterBoundary t cks sense mis s⟩))
  case trackedCycleBoundary t => exact Or.inr (Or.inl (⟨_, _, _, exec_trackedCycleBoundary t s⟩))
  case checkFrameBoundary t => exact Or.inr (Or.inl (⟨_, _, _, exec_checkFrameBoundary t s⟩))
  case wingbeatBoundary t dig => exact Or.inr (Or.inr (Or.inl (⟨_, _, _, exec_wingbeatBoundary t dig s⟩)))
  case slowWindowLeave t => exact Or.inl (⟨_, _, _, exec_slowWindowLeave t s⟩)
  case exportWrite t => exact Or.inl (⟨_, _, _, exec_exportWrite t s⟩)
  case ptpMasterSend t p => exact Or.inl (⟨_, _, _, exec_ptpMasterSend t p s⟩)
  case ppsEdge t n => exact Or.inl (⟨_, _, _, exec_ppsEdge t n s⟩)
  case ppsTodArm t i n data => exact Or.inr (Or.inr (Or.inr (Or.inl (⟨_, _, _, _, _, by unfold Reg.TIM_PPS_TOD_ARM Reg.GLB_CTL; omega, exec_ppsTodArm t i n data s⟩))))
  case irigFrame t f => exact Or.inl (⟨_, _, _, exec_irigFrame t f s⟩)
  case twinTimeExchange t x => exact Or.inl (⟨_, _, _, exec_twinTimeExchange t x s⟩)
  case sourceLost t k => exact Or.inl (⟨_, _, _, exec_sourceLost t k s⟩)
  case holdoverLimit t k => exact Or.inl (⟨_, _, _, exec_holdoverLimit t k s⟩)
  case forceSwitch t i data => exact Or.inr (Or.inr (Or.inr (Or.inl (⟨_, _, _, _, _, by unfold Reg.TIM_CTL Reg.GLB_CTL; omega, exec_forceSwitch t i data s⟩))))
  case slewDone t => exact Or.inl (⟨_, _, _, exec_slewDone t s⟩)
  case domainRevert t => exact Or.inl (⟨_, _, _, exec_domainRevert t s⟩)
  case timSnap t i data => exact Or.inr (Or.inr (Or.inr (Or.inl (⟨_, _, _, _, _, by unfold Reg.TIM_SNAP Reg.GLB_CTL; omega, exec_timSnap t i data s⟩))))
  case leap t => exact Or.inl (⟨_, _, _, exec_leap t s⟩)
  case leapPendStart t => exact Or.inl (⟨_, _, _, exec_leapPendStart t s⟩)
  case leapOccEnd t => exact Or.inl (⟨_, _, _, exec_leapOccEnd t s⟩)
  case ppsOutPulse t => exact Or.inl (⟨_, _, _, exec_ppsOutPulse t s⟩)
  case cnvSnap t i q data => exact Or.inr (Or.inr (Or.inr (Or.inl (⟨_, _, _, _, _, by unfold Reg.CNV_Q_SNAP Reg.GLB_CTL; omega, exec_cnvSnap t i q data s⟩))))
  case cnvSnapAll t i data => exact Or.inr (Or.inr (Or.inr (Or.inl (⟨_, _, _, _, _, by unfold Reg.CNV_SNAP_ALL Reg.GLB_CTL; omega, exec_cnvSnapAll t i data s⟩))))
  case snapshotLatch t => exact Or.inl (⟨_, _, _, exec_snapshotLatch t s⟩)
  case ckInj t i k data => exact Or.inr (Or.inr (Or.inr (Or.inl (⟨_, _, _, _, _, by unfold Reg.CNV_CK_INJ Reg.GLB_CTL; omega, exec_ckInj t i k data s⟩))))
  case resStatusRead t i k => exact Or.inr (Or.inr (Or.inr (Or.inr (Or.inl (⟨_, _, _, _, exec_resStatusRead t i k s⟩)))))
  case resConsume t i k => exact Or.inr (Or.inr (Or.inr (Or.inr (Or.inl (⟨_, _, _, _, exec_resConsume t i k s⟩)))))
  case calStart t i data => exact Or.inr (Or.inr (Or.inr (Or.inl (⟨_, _, _, _, _, by unfold Reg.CNV_CAL_CTL Reg.GLB_CTL; omega, exec_calStart t i data s⟩))))
  case lpRequest t i data => exact Or.inr (Or.inr (Or.inr (Or.inl (⟨_, _, _, _, _, by unfold Reg.CNV_LP_CTL Reg.GLB_CTL; omega, exec_lpRequest t i data s⟩))))
  case settleEnd t => exact Or.inl (⟨_, _, _, exec_settleEnd t s⟩)
  case firSwap t i n data => exact Or.inr (Or.inr (Or.inr (Or.inl (⟨_, _, _, _, _, by unfold Reg.FLT_CH_SWAP Reg.GLB_CTL; omega, exec_firSwap t i n data s⟩))))
  case fadeDone t n => exact Or.inr (Or.inl (⟨_, _, _, exec_fadeDone t n s⟩))
  case coefWrite t i data => exact Or.inr (Or.inr (Or.inr (Or.inl (⟨_, _, _, _, _, by unfold Reg.FLT_COEF_DATA Reg.GLB_CTL; omega, exec_coefWrite t i data s⟩))))
  case coefRead t i => exact Or.inr (Or.inr (Or.inr (Or.inr (Or.inl (⟨_, _, _, _, exec_coefRead t i s⟩)))))
  case hostFreeze t i n data => exact Or.inr (Or.inr (Or.inr (Or.inl (⟨_, _, _, _, _, by unfold Reg.FLT_CH_FREEZE_CTL Reg.GLB_CTL; omega, exec_hostFreeze t i n data s⟩))))
  case freezeRelease t i n data => exact Or.inr (Or.inr (Or.inr (Or.inl (⟨_, _, _, _, _, by unfold Reg.FLT_CH_FREEZE_CTL Reg.GLB_CTL; omega, exec_freezeRelease t i n data s⟩))))
  case freezeTailEnd t n => exact Or.inr (Or.inl (⟨_, _, _, exec_freezeTailEnd t n s⟩))
  case freezeMaxEnd t n => exact Or.inr (Or.inl (⟨_, _, _, exec_freezeMaxEnd t n s⟩))
  case trkHoldLimit t => exact Or.inr (Or.inl (⟨_, _, _, exec_trkHoldLimit t s⟩))
  case trkRefReturn t => exact Or.inr (Or.inl (⟨_, _, _, exec_trkRefReturn t s⟩))
  case decsyncPin t width => exact Or.inr (Or.inl (⟨_, _, _, exec_decsyncPin t width s⟩))
  case decsyncCommand t i data => exact Or.inr (Or.inr (Or.inr (Or.inl (⟨_, _, _, _, _, by unfold Reg.FLT_CTL Reg.GLB_CTL; omega, exec_decsyncCommand t i data s⟩))))
  case aoMinHoldEnd t a => exact Or.inr (Or.inl (⟨_, _, _, exec_aoMinHoldEnd t a s⟩))
  case aoUnlatch t i data => exact Or.inr (Or.inr (Or.inr (Or.inl (⟨_, _, _, _, _, by unfold Reg.PHS_AO_UNLATCH Reg.GLB_CTL; omega, exec_aoUnlatch t i data s⟩))))
  case phsChStatusRead t i n => exact Or.inr (Or.inr (Or.inr (Or.inr (Or.inl (⟨_, _, _, _, exec_phsChStatusRead t i n s⟩)))))
  case frameReceived t p bytes fcsOk sfd => exact Or.inl (⟨_, _, _, exec_frameReceived t p bytes fcsOk sfd s⟩)
  case frameRelease r => exact Or.inl (⟨_, _, _, exec_frameRelease r s⟩)
  case prpAgeOut t => exact Or.inl (⟨_, _, _, exec_prpAgeOut t s⟩)
  case linkChange t p up speed peer => exact Or.inl (⟨_, _, _, exec_linkChange t p up speed peer s⟩)
  case frameTransmitEnd t p => exact Or.inl (⟨_, _, _, exec_frameTransmitEnd t p s⟩)
  case pauseHoldEnd t p => exact Or.inl (⟨_, _, _, exec_pauseHoldEnd t p s⟩)
  case pauseWatchdog t p => exact Or.inl (⟨_, _, _, exec_pauseWatchdog t p s⟩)
  case pauseIgnoreEnd t p => exact Or.inl (⟨_, _, _, exec_pauseIgnoreEnd t p s⟩)
  case lpiEntry t p => exact Or.inl (⟨_, _, _, exec_lpiEntry t p s⟩)
  case lpiWake t p => exact Or.inl (⟨_, _, _, exec_lpiWake t p s⟩)
  case plcaLost t p => exact Or.inl (⟨_, _, _, exec_plcaLost t p s⟩)
  case collision t p late => exact Or.inl (⟨_, _, _, exec_collision t p late s⟩)
  case backoffEnd t p => exact Or.inl (⟨_, _, _, exec_backoffEnd t p s⟩)
  case gapMarkerDequeue t q => exact Or.inl (⟨_, _, _, exec_gapMarkerDequeue t q s⟩)
  case ingLookup t i data => exact Or.inr (Or.inr (Or.inr (Or.inl (⟨_, _, _, _, _, by unfold Reg.ING_LOOKUP_ID_HI Reg.GLB_CTL; omega, exec_ingLookup t i data s⟩))))
  case keysDerived t => exact Or.inl (⟨_, _, _, exec_keysDerived t s⟩)
  case c37CmdDataOff t n => exact Or.inl (⟨_, _, _, exec_c37CmdDataOff t n s⟩)
  case c37CmdDataOn t n => exact Or.inl (⟨_, _, _, exec_c37CmdDataOn t n s⟩)
  case c37CmdHeader t n => exact Or.inl (⟨_, _, _, exec_c37CmdHeader t n s⟩)
  case c37CmdCfg1 t n => exact Or.inl (⟨_, _, _, exec_c37CmdCfg1 t n s⟩)
  case c37CmdCfg2 t n => exact Or.inl (⟨_, _, _, exec_c37CmdCfg2 t n s⟩)
  case gooseRetransmit t g => exact Or.inl (⟨_, _, _, exec_gooseRetransmit t g s⟩)
  case alnEntStatusRead t i => exact Or.inr (Or.inr (Or.inr (Or.inr (Or.inl (⟨_, _, _, _, exec_alnEntStatusRead t i s⟩)))))
  case oscSigStatusRead t i => exact Or.inr (Or.inr (Or.inr (Or.inr (Or.inl (⟨_, _, _, _, exec_oscSigStatusRead t i s⟩)))))
  case oscTrkStatusRead t i tr => exact Or.inr (Or.inr (Or.inr (Or.inr (Or.inl (⟨_, _, _, _, exec_oscTrkStatusRead t i tr s⟩)))))
  case shapePartRead t i tr => exact Or.inr (Or.inr (Or.inr (Or.inr (Or.inl (⟨_, _, _, _, exec_shapePartRead t i tr s⟩)))))
  case islUnlatch t i data => exact Or.inr (Or.inr (Or.inr (Or.inl (⟨_, _, _, _, _, by unfold Reg.ISL_UNLATCH Reg.GLB_CTL; omega, exec_islUnlatch t i data s⟩))))
  case hostCmdTrip t i data => exact Or.inr (Or.inr (Or.inr (Or.inl (⟨_, _, _, _, _, by unfold Reg.ISL_HOST_CMD Reg.GLB_CTL; omega, exec_hostCmdTrip t i data s⟩))))
  case hostCmdCurtail t i data => exact Or.inr (Or.inr (Or.inr (Or.inl (⟨_, _, _, _, _, by unfold Reg.ISL_HOST_CMD Reg.GLB_CTL; omega, exec_hostCmdCurtail t i data s⟩))))
  case hostCmdHold t i data => exact Or.inr (Or.inr (Or.inr (Or.inl (⟨_, _, _, _, _, by unfold Reg.ISL_HOST_CMD Reg.GLB_CTL; omega, exec_hostCmdHold t i data s⟩))))
  case hostCmdClear t i data => exact Or.inr (Or.inr (Or.inr (Or.inl (⟨_, _, _, _, _, by unfold Reg.ISL_HOST_CMD Reg.GLB_CTL; omega, exec_hostCmdClear t i data s⟩))))
  case hostCmdRelease t i data => exact Or.inr (Or.inr (Or.inr (Or.inl (⟨_, _, _, _, _, by unfold Reg.ISL_HOST_CMD Reg.GLB_CTL; omega, exec_hostCmdRelease t i data s⟩))))
  case commandRepeat t c => exact Or.inl (⟨_, _, _, exec_commandRepeat t c s⟩)
  case cmdAckEnd t c => exact Or.inl (⟨_, _, _, exec_cmdAckEnd t c s⟩)
  case islGrpStatusRead t i => exact Or.inr (Or.inr (Or.inr (Or.inr (Or.inl (⟨_, _, _, _, exec_islGrpStatusRead t i s⟩)))))
  case islCgStatusRead t i c => exact Or.inr (Or.inr (Or.inr (Or.inr (Or.inl (⟨_, _, _, _, exec_islCgStatusRead t i c s⟩)))))
  case itemComplete t w core cycles status => exact Or.inl (⟨_, _, _, exec_itemComplete t w core cycles status s⟩)
  case affinityPatienceEnd t w id => exact Or.inl (⟨_, _, _, exec_affinityPatienceEnd t w id s⟩)
  case tcpTimer t c => exact Or.inl (⟨_, _, _, exec_tcpTimer t c s⟩)
  case nectarTick t power temps => exact Or.inl (⟨_, _, _, exec_nectarTick t power temps s⟩)
  case wearSecond t temps => exact Or.inl (⟨_, _, _, exec_wearSecond t temps s⟩)
  case wearHour t => exact Or.inl (⟨_, _, _, exec_wearHour t s⟩)
  case tjMax t sensor temp => exact Or.inl (⟨_, _, _, exec_tjMax t sensor temp s⟩)
  case queuePush t w q head words => exact Or.inl (⟨_, _, _, exec_queuePush t w q head words s⟩)
  case queuePop t w q n ce ue => exact Or.inl (⟨_, _, _, exec_queuePop t w q n ce ue s⟩)
  case queueFlush t i data => exact Or.inr (Or.inr (Or.inr (Or.inl (⟨_, _, _, _, _, by unfold Reg.QUE_CMD Reg.GLB_CTL; omega, exec_queueFlush t i data s⟩))))
  case queueDropRem t i data => exact Or.inr (Or.inr (Or.inr (Or.inl (⟨_, _, _, _, _, by unfold Reg.QUE_CMD Reg.GLB_CTL; omega, exec_queueDropRem t i data s⟩))))
  case scrubPass t w ces ues => exact Or.inl (⟨_, _, _, exec_scrubPass t w ces ues s⟩)
  case virtualServiceTick t q => exact Or.inl (⟨_, _, _, exec_virtualServiceTick t q s⟩)
  case diChange t mask levels => exact Or.inl (⟨_, _, _, exec_diChange t mask levels s⟩)
  case holdoffEnd t u => exact Or.inl (⟨_, _, _, exec_holdoffEnd t u s⟩)
  case diMismatch t n => exact Or.inl (⟨_, _, _, exec_diMismatch t n s⟩)
  case acqEntryCopy t => exact Or.inl (⟨_, _, _, exec_acqEntryCopy t s⟩)
  case captureResume t => exact Or.inl (⟨_, _, _, exec_captureResume t s⟩)
  case waveBlock t g => exact Or.inl (⟨_, _, _, exec_waveBlock t g s⟩)
  case acqRingTailWrite t i data => exact Or.inr (Or.inr (Or.inr (Or.inl (⟨_, _, _, _, _, by unfold Reg.ACQ_RING_TAIL Reg.GLB_CTL; omega, exec_acqRingTailWrite t i data s⟩))))
  case cmpJobTake t => exact Or.inl (⟨_, _, _, exec_cmpJobTake t s⟩)
  case cmpJobDone t w e verifyOk dmaOk => exact Or.inl (⟨_, _, _, exec_cmpJobDone t w e verifyOk dmaOk s⟩)
  case cmpCompletionWrite t => exact Or.inl (⟨_, _, _, exec_cmpCompletionWrite t s⟩)
  case recIntakeTake t => exact Or.inl (⟨_, _, _, exec_recIntakeTake t s⟩)
  case recReadable t => exact Or.inl (⟨_, _, _, exec_recReadable t s⟩)
  case keepRingWrite t okA okB => exact Or.inl (⟨_, _, _, exec_keepRingWrite t okA okB s⟩)
  case keepBudgetRefill t => exact Or.inl (⟨_, _, _, exec_keepBudgetRefill t s⟩)
  case recMirrorTimeout t => exact Or.inl (⟨_, _, _, exec_recMirrorTimeout t s⟩)
  case recRpStatusRead t i p => exact Or.inr (Or.inr (Or.inr (Or.inr (Or.inl (⟨_, _, _, _, exec_recRpStatusRead t i p s⟩)))))
  case recRpConsume t i p => exact Or.inr (Or.inr (Or.inr (Or.inr (Or.inl (⟨_, _, _, _, exec_recRpConsume t i p s⟩)))))
  case recCursorWrite t i p data => exact Or.inr (Or.inr (Or.inr (Or.inl (⟨_, _, _, _, _, by unfold Reg.REC_RP_CUR_HI Reg.GLB_CTL; omega, exec_recCursorWrite t i p data s⟩))))
  case recQuotaWrite t i p data => exact Or.inr (Or.inr (Or.inr (Or.inl (⟨_, _, _, _, _, by unfold Reg.REC_RP_QUOTA Reg.GLB_CTL; omega, exec_recQuotaWrite t i p data s⟩))))
  case keyInstall t i data => exact Or.inr (Or.inr (Or.inr (Or.inl (⟨_, _, _, _, _, by unfold Reg.KEY_MSG_CTL Reg.GLB_CTL; omega, exec_keyInstall t i data s⟩))))
  case keyDelete t i data => exact Or.inr (Or.inr (Or.inr (Or.inl (⟨_, _, _, _, _, by unfold Reg.KEY_MSG_CTL Reg.GLB_CTL; omega, exec_keyDelete t i data s⟩))))
  case keyAuthority t i data => exact Or.inr (Or.inr (Or.inr (Or.inl (⟨_, _, _, _, _, by unfold Reg.KEY_MSG_CTL Reg.GLB_CTL; omega, exec_keyAuthority t i data s⟩))))
  case keyOwn t i data => exact Or.inr (Or.inr (Or.inr (Or.inl (⟨_, _, _, _, _, by unfold Reg.KEY_MSG_CTL Reg.GLB_CTL; omega, exec_keyOwn t i data s⟩))))
  case keyMsgClear t i data => exact Or.inr (Or.inr (Or.inr (Or.inl (⟨_, _, _, _, _, by unfold Reg.KEY_MSG_CTL Reg.GLB_CTL; omega, exec_keyMsgClear t i data s⟩))))
  case keyStoreDone t okA okB => exact Or.inl (⟨_, _, _, exec_keyStoreDone t okA okB s⟩)
  case keySlotInfoRead t i => exact Or.inr (Or.inr (Or.inr (Or.inr (Or.inl (⟨_, _, _, _, exec_keySlotInfoRead t i s⟩)))))
  case wingHeartbeat t w link arb => exact Or.inl (⟨_, _, _, exec_wingHeartbeat t w link arb s⟩)
  case heartbeatMiss t w link arb => exact Or.inl (⟨_, _, _, exec_heartbeatMiss t w link arb s⟩)
  case takeover t => exact Or.inl (⟨_, _, _, exec_takeover t s⟩)
  case digestAttribution t fail0 fail1 => exact Or.inl (⟨_, _, _, exec_digestAttribution t fail0 fail1 s⟩)
  case oznisHeartbeat t l rx peerOk => exact Or.inl (⟨_, _, _, exec_oznisHeartbeat t l rx peerOk s⟩)
  case oznisHeartbeatMiss t l => exact Or.inl (⟨_, _, _, exec_oznisHeartbeatMiss t l s⟩)
  case oznisRetransmit t linkSeq => exact Or.inl (⟨_, _, _, exec_oznisRetransmit t linkSeq s⟩)
  case outputFrame t l bytes => exact Or.inl (⟨_, _, _, exec_outputFrame t l bytes s⟩)
  case outputAck t l bytes => exact Or.inl (⟨_, _, _, exec_outputAck t l bytes s⟩)
  case outputAckTimeout t linkSeq => exact Or.inl (⟨_, _, _, exec_outputAckTimeout t linkSeq s⟩)
  case reportFrame t l bytes => exact Or.inl (⟨_, _, _, exec_reportFrame t l bytes s⟩)
  case resyncFrame t prog => exact Or.inl (⟨_, _, _, exec_resyncFrame t prog s⟩)
  case healthFrame t l bytes => exact Or.inl (⟨_, _, _, exec_healthFrame t l bytes s⟩)
  case txnPrepare t l bytes elems rootsOk => exact Or.inl (⟨_, _, _, exec_txnPrepare t l bytes elems rootsOk s⟩)
  case txnAck t l bytes => exact Or.inl (⟨_, _, _, exec_txnAck t l bytes s⟩)
  case txnNak t l bytes => exact Or.inl (⟨_, _, _, exec_txnNak t l bytes s⟩)
  case twinPrepareTimeout t => exact Or.inl (⟨_, _, _, exec_twinPrepareTimeout t s⟩)
  case beaconSend t => exact Or.inl (⟨_, _, _, exec_beaconSend t s⟩)
  case beaconReceived t payload => exact Or.inl (⟨_, _, _, exec_beaconReceived t payload s⟩)
  case twinBClaimWait t => exact Or.inl (⟨_, _, _, exec_twinBClaimWait t s⟩)
  case wingRepair t i data => exact Or.inr (Or.inr (Or.inr (Or.inl (⟨_, _, _, _, _, by unfold Reg.WNG_CTL Reg.GLB_CTL; omega, exec_wingRepair t i data s⟩))))
  case wingSwitch t i data => exact Or.inr (Or.inr (Or.inr (Or.inl (⟨_, _, _, _, _, by unfold Reg.WNG_CTL Reg.GLB_CTL; omega, exec_wingSwitch t i data s⟩))))
  case resyncConverge t w twin => exact Or.inl (⟨_, _, _, exec_resyncConverge t w twin s⟩)
  case selftestSlice t failed => exact Or.inl (⟨_, _, _, exec_selftestSlice t failed s⟩)
  case wngOutStatusRead t i => exact Or.inr (Or.inr (Or.inr (Or.inr (Or.inl (⟨_, _, _, _, exec_wngOutStatusRead t i s⟩)))))
  case clockLoss t w0 w1 => exact Or.inl (⟨_, _, _, exec_clockLoss t w0 w1 s⟩)
  case safClear t i data => exact Or.inr (Or.inr (Or.inr (Or.inl (⟨_, _, _, _, _, by unfold Reg.SAF_CLEAR Reg.GLB_CTL; omega, exec_safClear t i data s⟩))))
  case proofStart t i data => exact Or.inr (Or.inr (Or.inr (Or.inl (⟨_, _, _, _, _, by unfold Reg.SAF_PROOF_CTL Reg.GLB_CTL; omega, exec_proofStart t i data s⟩))))
  case proofSample t level => exact Or.inl (⟨_, _, _, exec_proofSample t level s⟩)
  case txnBegin t i data => exact Or.inr (Or.inr (Or.inr (Or.inl (⟨_, _, _, _, _, by unfold Reg.TXN_CMD Reg.GLB_CTL; omega, exec_txnBegin t i data s⟩))))
  case txnCommit t i data => exact Or.inr (Or.inr (Or.inr (Or.inl (⟨_, _, _, _, _, by unfold Reg.TXN_CMD Reg.GLB_CTL; omega, exec_txnCommit t i data s⟩))))
  case txnRollback t i data => exact Or.inr (Or.inr (Or.inr (Or.inl (⟨_, _, _, _, _, by unfold Reg.TXN_CMD Reg.GLB_CTL; omega, exec_txnRollback t i data s⟩))))
  case txnLoadImage t i data => exact Or.inr (Or.inr (Or.inr (Or.inl (⟨_, _, _, _, _, by unfold Reg.TXN_CMD Reg.GLB_CTL; omega, exec_txnLoadImage t i data s⟩))))
  case txnClearStaging t i data => exact Or.inr (Or.inr (Or.inr (Or.inl (⟨_, _, _, _, _, by unfold Reg.TXN_CMD Reg.GLB_CTL; omega, exec_txnClearStaging t i data s⟩))))
  case txnConfirm t i data => exact Or.inr (Or.inr (Or.inr (Or.inl (⟨_, _, _, _, _, by unfold Reg.TXN_CMD Reg.GLB_CTL; omega, exec_txnConfirm t i data s⟩))))
  case txnRevert t i data => exact Or.inr (Or.inr (Or.inr (Or.inl (⟨_, _, _, _, _, by unfold Reg.TXN_CMD Reg.GLB_CTL; omega, exec_txnRevert t i data s⟩))))
  case txnLoadReset t i data => exact Or.inr (Or.inr (Or.inr (Or.inl (⟨_, _, _, _, _, by unfold Reg.TXN_CMD Reg.GLB_CTL; omega, exec_txnLoadReset t i data s⟩))))
  case txnBadOp t i data => exact Or.inr (Or.inr (Or.inr (Or.inl (⟨_, _, _, _, _, by unfold Reg.TXN_CMD Reg.GLB_CTL; omega, exec_txnBadOp t i data s⟩))))
  case txnImgWdata t i data => exact Or.inr (Or.inr (Or.inr (Or.inl (⟨_, _, _, _, _, by unfold Reg.TXN_IMG_WDATA Reg.GLB_CTL; omega, exec_txnImgWdata t i data s⟩))))
  case txnTimeoutExpiry t => exact Or.inl (⟨_, _, _, exec_txnTimeoutExpiry t s⟩)
  case txnValidationDone t => exact Or.inl (⟨_, _, _, exec_txnValidationDone t s⟩)
  case txnStoreDone t ok => exact Or.inr (Or.inr (Or.inl (⟨_, _, _, exec_txnStoreDone t ok s⟩)))
  case probationEnd t => exact Or.inl (⟨_, _, _, exec_probationEnd t s⟩)
  case hostRingTake t r => exact Or.inl (⟨_, _, _, exec_hostRingTake t r s⟩)
  case hostRingAck t r => exact Or.inl (⟨_, _, _, exec_hostRingAck t r s⟩)
  case hostRingCompletion t r => exact Or.inl (⟨_, _, _, exec_hostRingCompletion t r s⟩)
  case hostRingEnable t i r data => exact Or.inr (Or.inr (Or.inr (Or.inl (⟨_, _, _, _, _, by unfold Reg.GLB_HR_CTL Reg.GLB_CTL; omega, exec_hostRingEnable t i r data s⟩))))
  case portLoopOff t i p data => exact Or.inr (Or.inr (Or.inr (Or.inl (⟨_, _, _, _, _, by unfold Reg.TST_PORT_CTL Reg.GLB_CTL; omega, exec_portLoopOff t i p data s⟩))))
  case portLoopMac t i p data => exact Or.inr (Or.inr (Or.inr (Or.inl (⟨_, _, _, _, _, by unfold Reg.TST_PORT_CTL Reg.GLB_CTL; omega, exec_portLoopMac t i p data s⟩))))
  case portLoopPcs t i p data => exact Or.inr (Or.inr (Or.inr (Or.inl (⟨_, _, _, _, _, by unfold Reg.TST_PORT_CTL Reg.GLB_CTL; omega, exec_portLoopPcs t i p data s⟩))))
  case portLoopPma t i p data => exact Or.inr (Or.inr (Or.inr (Or.inl (⟨_, _, _, _, _, by unfold Reg.TST_PORT_CTL Reg.GLB_CTL; omega, exec_portLoopPma t i p data s⟩))))
  case portLoopRemote t i p data => exact Or.inr (Or.inr (Or.inr (Or.inl (⟨_, _, _, _, _, by unfold Reg.TST_PORT_CTL Reg.GLB_CTL; omega, exec_portLoopRemote t i p data s⟩))))
  case portLoopT1sAnalog t i p data => exact Or.inr (Or.inr (Or.inr (Or.inl (⟨_, _, _, _, _, by unfold Reg.TST_PORT_CTL Reg.GLB_CTL; omega, exec_portLoopT1sAnalog t i p data s⟩))))
  case portLoopGenerate t i p data => exact Or.inr (Or.inr (Or.inr (Or.inl (⟨_, _, _, _, _, by unfold Reg.TST_PORT_CTL Reg.GLB_CTL; omega, exec_portLoopGenerate t i p data s⟩))))
  case loopDone t p => exact Or.inl (⟨_, _, _, exec_loopDone t p s⟩)
  case loopTimeout t kind idx => exact Or.inl (⟨_, _, _, exec_loopTimeout t kind idx s⟩)
  case quadLoopOff t i q data => exact Or.inr (Or.inr (Or.inr (Or.inl (⟨_, _, _, _, _, by unfold Reg.TST_Q_CTL Reg.GLB_CTL; omega, exec_quadLoopOff t i q data s⟩))))
  case quadTone t i q data => exact Or.inr (Or.inr (Or.inr (Or.inl (⟨_, _, _, _, _, by unfold Reg.TST_Q_CTL Reg.GLB_CTL; omega, exec_quadTone t i q data s⟩))))
  case quadRefPos t i q data => exact Or.inr (Or.inr (Or.inr (Or.inl (⟨_, _, _, _, _, by unfold Reg.TST_Q_CTL Reg.GLB_CTL; omega, exec_quadRefPos t i q data s⟩))))
  case quadRefNeg t i q data => exact Or.inr (Or.inr (Or.inr (Or.inl (⟨_, _, _, _, _, by unfold Reg.TST_Q_CTL Reg.GLB_CTL; omega, exec_quadRefNeg t i q data s⟩))))
  case quadBitstream t i q data => exact Or.inr (Or.inr (Or.inr (Or.inl (⟨_, _, _, _, _, by unfold Reg.TST_Q_CTL Reg.GLB_CTL; omega, exec_quadBitstream t i q data s⟩))))
  case quadSynth t i q data => exact Or.inr (Or.inr (Or.inr (Or.inl (⟨_, _, _, _, _, by unfold Reg.TST_Q_CTL Reg.GLB_CTL; omega, exec_quadSynth t i q data s⟩))))
  case ozLoopOff t i l data => exact Or.inr (Or.inr (Or.inr (Or.inl (⟨_, _, _, _, _, by unfold Reg.TST_OZ_CTL Reg.GLB_CTL; omega, exec_ozLoopOff t i l data s⟩))))
  case ozLoopSerial t i l data => exact Or.inr (Or.inr (Or.inr (Or.inl (⟨_, _, _, _, _, by unfold Reg.TST_OZ_CTL Reg.GLB_CTL; omega, exec_ozLoopSerial t i l data s⟩))))
  case ozLoopFraming t i l data => exact Or.inr (Or.inr (Or.inr (Or.inl (⟨_, _, _, _, _, by unfold Reg.TST_OZ_CTL Reg.GLB_CTL; omega, exec_ozLoopFraming t i l data s⟩))))
  case pcieLoop t i data errs => exact Or.inr (Or.inr (Or.inr (Or.inr (Or.inr (rfl)))))
  case ppsLoop t i data => exact Or.inr (Or.inr (Or.inr (Or.inl (⟨_, _, _, _, _, by unfold Reg.TST_PPS_CTL Reg.GLB_CTL; omega, exec_ppsLoop t i data s⟩))))
  case prodModeWrite t i data => exact Or.inr (Or.inr (Or.inr (Or.inl (⟨_, _, _, _, _, by unfold Reg.TST_CTL Reg.GLB_CTL; omega, exec_prodModeWrite t i data s⟩))))
  case pdelayReqSend t p => exact Or.inl (⟨_, _, _, exec_pdelayReqSend t p s⟩)
  case plcaStatusUp t p => exact Or.inl (⟨_, _, _, exec_plcaStatusUp t p s⟩)
  case d3hotExit t => exact Or.inl (⟨_, _, _, exec_d3hotExit t s⟩)
  case pcieLinkUp t speed width => exact Or.inl (⟨_, _, _, exec_pcieLinkUp t speed width s⟩)
  case pcieLoopbackSlave t => exact Or.inl (⟨_, _, _, exec_pcieLoopbackSlave t s⟩)
  case lockstepMismatch t w => exact Or.inl (⟨_, _, _, exec_lockstepMismatch t w s⟩)
  case journalDramUe t w => exact Or.inl (⟨_, _, _, exec_journalDramUe t w s⟩)
  case wingSelftestDone t w pass => exact Or.inl (⟨_, _, _, exec_wingSelftestDone t w pass s⟩)
  case proofDue t => exact Or.inl (⟨_, _, _, exec_proofDue t s⟩)

end Sys2Proof.Machine
end

