-- ==== Sys2Proof/Laws/State.lean ====
section
/-! SUPPORT. Sys2Proof/Laws/State.lean: one lemma for each field under each of the updates that every command goes through: a register set, the clock's
advance, the end of a command. -/

namespace Sys2Proof.Machine

/-! A register set. -/

@[simp] theorem Dev.wr_hw (d : Dev) (a : Nat) (v : Word) : (d.wr a v).hw = d.hw := rfl
@[simp] theorem Dev.wr_freeCtr (d : Dev) (a : Nat) (v : Word) : (d.wr a v).freeCtr = d.freeCtr := rfl
@[simp] theorem Dev.wr_resetCtr (d : Dev) (a : Nat) (v : Word) : (d.wr a v).resetCtr = d.resetCtr := rfl
@[simp] theorem Dev.wr_pins (d : Dev) (a : Nat) (v : Word) : (d.wr a v).pins = d.pins := rfl
@[simp] theorem Dev.wr_nv (d : Dev) (a : Nat) (v : Word) : (d.wr a v).nv = d.nv := rfl
@[simp] theorem Dev.wr_host (d : Dev) (a : Nat) (v : Word) : (d.wr a v).host = d.host := rfl
@[simp] theorem Dev.wr_tim (d : Dev) (a : Nat) (v : Word) : (d.wr a v).tim = d.tim := rfl
@[simp] theorem Dev.wr_grid (d : Dev) (a : Nat) (v : Word) : (d.wr a v).grid = d.grid := rfl
@[simp] theorem Dev.wr_evr (d : Dev) (a : Nat) (v : Word) : (d.wr a v).evr = d.evr := rfl
@[simp] theorem Dev.wr_units (d : Dev) (a : Nat) (v : Word) : (d.wr a v).units = d.units := rfl
@[simp] theorem Dev.wr_txn (d : Dev) (a : Nat) (v : Word) : (d.wr a v).txn = d.txn := rfl
@[simp] theorem Dev.wr_saf (d : Dev) (a : Nat) (v : Word) : (d.wr a v).saf = d.saf := rfl
@[simp] theorem Dev.wr_loc (d : Dev) (a : Nat) (v : Word) : (d.wr a v).loc = d.loc := rfl
@[simp] theorem Dev.wr_acq (d : Dev) (a : Nat) (v : Word) : (d.wr a v).acq = d.acq := rfl
@[simp] theorem Dev.wr_cmp (d : Dev) (a : Nat) (v : Word) : (d.wr a v).cmp = d.cmp := rfl
@[simp] theorem Dev.wr_tst (d : Dev) (a : Nat) (v : Word) : (d.wr a v).tst = d.tst := rfl
@[simp] theorem Dev.wr_net (d : Dev) (a : Nat) (v : Word) : (d.wr a v).net = d.net := rfl
@[simp] theorem Dev.wr_sch (d : Dev) (a : Nat) (v : Word) : (d.wr a v).sch = d.sch := rfl
@[simp] theorem Dev.wr_que (d : Dev) (a : Nat) (v : Word) : (d.wr a v).que = d.que := rfl
@[simp] theorem Dev.wr_ing (d : Dev) (a : Nat) (v : Word) : (d.wr a v).ing = d.ing := rfl
@[simp] theorem Dev.wr_roost (d : Dev) (a : Nat) (v : Word) : (d.wr a v).roost = d.roost := rfl
@[simp] theorem Dev.wr_osc (d : Dev) (a : Nat) (v : Word) : (d.wr a v).osc = d.osc := rfl
@[simp] theorem Dev.wr_isl (d : Dev) (a : Nat) (v : Word) : (d.wr a v).isl = d.isl := rfl
@[simp] theorem Dev.wr_key (d : Dev) (a : Nat) (v : Word) : (d.wr a v).key = d.key := rfl

@[simp] theorem Dev.rd_wr_same (d : Dev) (a : Nat) (v : Word) : (d.wr a v).rd a = v := by simp [Dev.rd, Dev.wr]
theorem Dev.rd_wr (d : Dev) (a b : Nat) (v : Word) : (d.wr a v).rd b = if b = a then v else d.rd b := by
  by_cases h : b = a
  · simp [h]
  · simp [Dev.rd, Dev.wr, tget_tset_ne, h]
theorem Dev.rd_wr_ne (d : Dev) {a b : Nat} (h : b ≠ a) (v : Word) : (d.wr a v).rd b = d.rd b := by simp [Dev.rd_wr, h]

/-- What a register reads depends on the register store alone. -/
theorem Dev.rd_congr {d e : Dev} (h : d.regs = e.regs) (a : Nat) : d.rd a = e.rd a := by simp [Dev.rd, h]

/-! The clock's advance. -/

@[simp] theorem Dev.tick_regs (d : Dev) (t : Nat) : (d.tick t).regs = d.regs := rfl
@[simp] theorem Dev.tick_hw (d : Dev) (t : Nat) : (d.tick t).hw = d.hw := rfl
@[simp] theorem Dev.tick_freeCtr (d : Dev) (t : Nat) : (d.tick t).freeCtr = d.freeCtr := rfl
@[simp] theorem Dev.tick_resetCtr (d : Dev) (t : Nat) : (d.tick t).resetCtr = d.resetCtr := rfl
@[simp] theorem Dev.tick_pins (d : Dev) (t : Nat) : (d.tick t).pins = d.pins := rfl
@[simp] theorem Dev.tick_nv (d : Dev) (t : Nat) : (d.tick t).nv = d.nv := rfl
@[simp] theorem Dev.tick_host (d : Dev) (t : Nat) : (d.tick t).host = d.host := rfl
@[simp] theorem Dev.tick_grid (d : Dev) (t : Nat) : (d.tick t).grid = d.grid := rfl
@[simp] theorem Dev.tick_evr (d : Dev) (t : Nat) : (d.tick t).evr = d.evr := rfl
@[simp] theorem Dev.tick_units (d : Dev) (t : Nat) : (d.tick t).units = d.units := rfl
@[simp] theorem Dev.tick_txn (d : Dev) (t : Nat) : (d.tick t).txn = d.txn := rfl
@[simp] theorem Dev.tick_saf (d : Dev) (t : Nat) : (d.tick t).saf = d.saf := rfl
@[simp] theorem Dev.tick_loc (d : Dev) (t : Nat) : (d.tick t).loc = d.loc := rfl
@[simp] theorem Dev.tick_acq (d : Dev) (t : Nat) : (d.tick t).acq = d.acq := rfl
@[simp] theorem Dev.tick_cmp (d : Dev) (t : Nat) : (d.tick t).cmp = d.cmp := rfl
@[simp] theorem Dev.tick_tst (d : Dev) (t : Nat) : (d.tick t).tst = d.tst := rfl
@[simp] theorem Dev.tick_net (d : Dev) (t : Nat) : (d.tick t).net = d.net := rfl
@[simp] theorem Dev.tick_sch (d : Dev) (t : Nat) : (d.tick t).sch = d.sch := rfl
@[simp] theorem Dev.tick_que (d : Dev) (t : Nat) : (d.tick t).que = d.que := rfl
@[simp] theorem Dev.tick_ing (d : Dev) (t : Nat) : (d.tick t).ing = d.ing := rfl
@[simp] theorem Dev.tick_roost (d : Dev) (t : Nat) : (d.tick t).roost = d.roost := rfl
@[simp] theorem Dev.tick_osc (d : Dev) (t : Nat) : (d.tick t).osc = d.osc := rfl
@[simp] theorem Dev.tick_isl (d : Dev) (t : Nat) : (d.tick t).isl = d.isl := rfl
@[simp] theorem Dev.tick_key (d : Dev) (t : Nat) : (d.tick t).key = d.key := rfl
/-- The clock's advance changes the counters, the domains' values and increments, the servo updates that wait, and starts a slew (R80, R84, R918). -/
theorem Tim.goto_eq (max t : Nat) (l : List SrvUpd) (m : Tim) : ∃ c o a b s r, Tim.goto max t l m =
    { m with clk := c, out := o, domA := a, domB := b, slew := s, srv := r } := by
  induction l generalizing m with
  | nil => exact ⟨_, _, _, _, m.slew, m.srv, rfl⟩
  | cons u l ih =>
    unfold Tim.goto
    split
    · obtain ⟨c, o, a, b, s, r, h⟩ := ih ({ m.adv max (u.at' - m.clk) with srv := l }.apply u)
      refine ⟨c, o, a, b, s, r, h.trans ?_⟩
      unfold Tim.apply; dsimp only; split <;> split <;> rfl
    · exact ⟨_, _, _, _, m.slew, m.srv, rfl⟩

@[simp] theorem Dev.tick_tim_lockedOnce (d : Dev) (t : Nat) : (d.tick t).tim.lockedOnce = d.tim.lockedOnce := by
  obtain ⟨_, _, _, _, _, _, h⟩ := Tim.goto_eq (d.rdN Reg.TIM_SLEW_MAX) t d.tim.srv d.tim; simp only [Dev.tick, h]
@[simp] theorem Dev.tick_tim_sel (d : Dev) (t : Nat) : (d.tick t).tim.sel = d.tim.sel := by
  obtain ⟨_, _, _, _, _, _, h⟩ := Tim.goto_eq (d.rdN Reg.TIM_SLEW_MAX) t d.tim.srv d.tim; simp only [Dev.tick, h]
@[simp] theorem Dev.tick_tim_pending (d : Dev) (t : Nat) : (d.tick t).tim.pending = d.tim.pending := by
  obtain ⟨_, _, _, _, _, _, h⟩ := Tim.goto_eq (d.rdN Reg.TIM_SLEW_MAX) t d.tim.srv d.tim; simp only [Dev.tick, h]
@[simp] theorem Dev.tick_tim_refused (d : Dev) (t : Nat) : (d.tick t).tim.refused = d.tim.refused := by
  obtain ⟨_, _, _, _, _, _, h⟩ := Tim.goto_eq (d.rdN Reg.TIM_SLEW_MAX) t d.tim.srv d.tim; simp only [Dev.tick, h]
@[simp] theorem Dev.tick_tim_slew (d : Dev) (t : Nat) (h : d.tim.srv = []) : (d.tick t).tim.slew = d.tim.slew := by simp only [Dev.tick, h]; rfl
@[simp] theorem Dev.tick_tim_pps0 (d : Dev) (t : Nat) : (d.tick t).tim.pps0 = d.tim.pps0 := by
  obtain ⟨_, _, _, _, _, _, h⟩ := Tim.goto_eq (d.rdN Reg.TIM_SLEW_MAX) t d.tim.srv d.tim; simp only [Dev.tick, h]
@[simp] theorem Dev.tick_tim_pps1 (d : Dev) (t : Nat) : (d.tick t).tim.pps1 = d.tim.pps1 := by
  obtain ⟨_, _, _, _, _, _, h⟩ := Tim.goto_eq (d.rdN Reg.TIM_SLEW_MAX) t d.tim.srv d.tim; simp only [Dev.tick, h]
@[simp] theorem Dev.tick_tim_irig (d : Dev) (t : Nat) : (d.tick t).tim.irig = d.tim.irig := by
  obtain ⟨_, _, _, _, _, _, h⟩ := Tim.goto_eq (d.rdN Reg.TIM_SLEW_MAX) t d.tim.srv d.tim; simp only [Dev.tick, h]
@[simp] theorem Dev.tick_tim_ports (d : Dev) (t : Nat) : (d.tick t).tim.ports = d.tim.ports := by
  obtain ⟨_, _, _, _, _, _, h⟩ := Tim.goto_eq (d.rdN Reg.TIM_SLEW_MAX) t d.tim.srv d.tim; simp only [Dev.tick, h]
@[simp] theorem Dev.tick_tim_leapAt (d : Dev) (t : Nat) : (d.tick t).tim.leapAt = d.tim.leapAt := by
  obtain ⟨_, _, _, _, _, _, h⟩ := Tim.goto_eq (d.rdN Reg.TIM_SLEW_MAX) t d.tim.srv d.tim; simp only [Dev.tick, h]
@[simp] theorem Dev.tick_tim_leapPend (d : Dev) (t : Nat) : (d.tick t).tim.leapPend = d.tim.leapPend := by
  obtain ⟨_, _, _, _, _, _, h⟩ := Tim.goto_eq (d.rdN Reg.TIM_SLEW_MAX) t d.tim.srv d.tim; simp only [Dev.tick, h]
@[simp] theorem Dev.tick_tim_leapOcc (d : Dev) (t : Nat) : (d.tick t).tim.leapOcc = d.tim.leapOcc := by
  obtain ⟨_, _, _, _, _, _, h⟩ := Tim.goto_eq (d.rdN Reg.TIM_SLEW_MAX) t d.tim.srv d.tim; simp only [Dev.tick, h]
@[simp] theorem Dev.tick_tim_leapDir (d : Dev) (t : Nat) : (d.tick t).tim.leapDir = d.tim.leapDir := by
  obtain ⟨_, _, _, _, _, _, h⟩ := Tim.goto_eq (d.rdN Reg.TIM_SLEW_MAX) t d.tim.srv d.tim; simp only [Dev.tick, h]
@[simp] theorem Dev.tick_rd (d : Dev) (t a : Nat) : (d.tick t).rd a = d.rd a := rfl
@[simp] theorem Dev.tick_boot (d : Dev) (t : Nat) : (d.tick t).boot = d.boot := rfl
theorem Tim.goto_clk (max t : Nat) (l : List SrvUpd) (m : Tim) : (Tim.goto max t l m).clk = Nat.max m.clk t := by
  induction l generalizing m with
  | nil => show m.clk + (t - m.clk) = _; simp only [Nat.max_def]; split <;> omega
  | cons u l ih =>
    unfold Tim.goto
    split
    · rw [ih]
      have : ({ m.adv max (u.at' - m.clk) with srv := l }.apply u).clk = m.clk + (u.at' - m.clk) := by
        unfold Tim.apply; dsimp only; split <;> split <;> rfl
      rw [this]; simp only [Nat.max_def]; split <;> split <;> omega
    · show m.clk + (t - m.clk) = _; simp only [Nat.max_def]; split <;> omega
theorem Dev.tick_clk (d : Dev) (t : Nat) : (d.tick t).tim.clk = max d.tim.clk t := Tim.goto_clk _ _ _ _
@[simp] theorem State.at_ctl (s : State) (t : Nat) : (s.at t).ctl = s.ctl := rfl
@[simp] theorem State.at_pending (s : State) (t : Nat) : (s.at t).pending = s.pending := rfl
@[simp] theorem State.at_dev (s : State) (t : Nat) : (s.at t).dev = s.dev.tick t := rfl

/-! The end of a command. -/

section
variable (d : Dev) (r : Option Nat) (u p : Nat) (m : List (Nat × Byte)) (x : List Sent)

@[simp] theorem Dev.ended_regs : (d.ended r u p m x).regs = d.regs := rfl
@[simp] theorem Dev.ended_hw : (d.ended r u p m x).hw = d.hw := rfl
@[simp] theorem Dev.ended_freeCtr : (d.ended r u p m x).freeCtr = d.freeCtr := rfl
@[simp] theorem Dev.ended_resetCtr : (d.ended r u p m x).resetCtr = d.resetCtr := rfl
@[simp] theorem Dev.ended_pins : (d.ended r u p m x).pins = d.pins := rfl
@[simp] theorem Dev.ended_nv : (d.ended r u p m x).nv = d.nv := rfl
@[simp] theorem Dev.ended_tim : (d.ended r u p m x).tim = d.tim := rfl
@[simp] theorem Dev.ended_grid : (d.ended r u p m x).grid = d.grid := rfl
@[simp] theorem Dev.ended_evr : (d.ended r u p m x).evr = d.evr := rfl
@[simp] theorem Dev.ended_units : (d.ended r u p m x).units = d.units := rfl
@[simp] theorem Dev.ended_saf : (d.ended r u p m x).saf = d.saf := rfl
@[simp] theorem Dev.ended_loc : (d.ended r u p m x).loc = d.loc := rfl
@[simp] theorem Dev.ended_acq : (d.ended r u p m x).acq = d.acq := rfl
@[simp] theorem Dev.ended_cmp : (d.ended r u p m x).cmp = d.cmp := rfl
@[simp] theorem Dev.ended_tst : (d.ended r u p m x).tst = d.tst := rfl
@[simp] theorem Dev.ended_net : (d.ended r u p m x).net = d.net := rfl
@[simp] theorem Dev.ended_sch : (d.ended r u p m x).sch = d.sch := rfl
@[simp] theorem Dev.ended_que : (d.ended r u p m x).que = d.que := rfl
@[simp] theorem Dev.ended_ing : (d.ended r u p m x).ing = d.ing := rfl
@[simp] theorem Dev.ended_roost : (d.ended r u p m x).roost = d.roost := rfl
@[simp] theorem Dev.ended_osc : (d.ended r u p m x).osc = d.osc := rfl
@[simp] theorem Dev.ended_isl : (d.ended r u p m x).isl = d.isl := rfl
@[simp] theorem Dev.ended_key : (d.ended r u p m x).key = d.key := rfl
@[simp] theorem Dev.ended_host_rings : (d.ended r u p m x).host.rings = d.host.rings := rfl
@[simp] theorem Dev.ended_host_latch : (d.ended r u p m x).host.latch = d.host.latch := rfl
@[simp] theorem Dev.ended_host_msix : (d.ended r u p m x).host.msix = d.host.msix := rfl
@[simp] theorem Dev.ended_host_ringSent : (d.ended r u p m x).host.ringSent = d.host.ringSent := rfl
@[simp] theorem Dev.ended_host_linkUp : (d.ended r u p m x).host.linkUp = d.host.linkUp := rfl
@[simp] theorem Dev.ended_host_d3hot : (d.ended r u p m x).host.d3hot = d.host.d3hot := rfl
@[simp] theorem Dev.ended_host_rdataP : (d.ended r u p m x).host.rdataP = d.host.rdataP := rfl
@[simp] theorem Dev.ended_host_rdataS : (d.ended r u p m x).host.rdataS = d.host.rdataS := rfl
@[simp] theorem Dev.ended_host_spiOut : (d.ended r u p m x).host.spiOut = d.host.spiOut := rfl
@[simp] theorem Dev.ended_txn_st : (d.ended r u p m x).txn.st = d.txn.st := rfl
@[simp] theorem Dev.ended_txn_owner : (d.ended r u p m x).txn.owner = d.txn.owner := rfl
@[simp] theorem Dev.ended_txn_shadows : (d.ended r u p m x).txn.shadows = d.txn.shadows := rfl
@[simp] theorem Dev.ended_txn_windows : (d.ended r u p m x).txn.windows = d.txn.windows := rfl
@[simp] theorem Dev.ended_txn_staging : (d.ended r u p m x).txn.staging = d.txn.staging := rfl
@[simp] theorem Dev.ended_txn_restored : (d.ended r u p m x).txn.restored = d.txn.restored := rfl
@[simp] theorem Dev.ended_txn_lastAt : (d.ended r u p m x).txn.lastAt = d.txn.lastAt := rfl
@[simp] theorem Dev.ended_txn_inForce : (d.ended r u p m x).txn.inForce = d.txn.inForce := rfl
@[simp] theorem Dev.ended_txn_instar : (d.ended r u p m x).txn.instar = d.txn.instar := rfl
@[simp] theorem Dev.ended_txn_cfg : (d.ended r u p m x).txn.cfg = d.txn.cfg := rfl
@[simp] theorem Dev.ended_txn_boundary : (d.ended r u p m x).txn.boundary = d.txn.boundary := rfl
@[simp] theorem Dev.ended_txn_probation : (d.ended r u p m x).txn.probation = d.txn.probation := rfl
@[simp] theorem Dev.ended_txn_probWait : (d.ended r u p m x).txn.probWait = d.txn.probWait := rfl
@[simp] theorem Dev.ended_txn_stayed : (d.ended r u p m x).txn.stayed = d.txn.stayed := rfl
@[simp] theorem Dev.ended_txn_confirmReq : (d.ended r u p m x).txn.confirmReq = d.txn.confirmReq := rfl
@[simp] theorem Dev.ended_txn_revertReq : (d.ended r u p m x).txn.revertReq = d.txn.revertReq := rfl
@[simp] theorem Dev.ended_txn_kind : (d.ended r u p m x).txn.kind = d.txn.kind := rfl
@[simp] theorem Dev.ended_txn_source : (d.ended r u p m x).txn.source = d.txn.source := rfl
@[simp] theorem Dev.ended_txn_loadReset : (d.ended r u p m x).txn.loadReset = d.txn.loadReset := rfl
@[simp] theorem Dev.ended_txn_prepAt : (d.ended r u p m x).txn.prepAt = d.txn.prepAt := rfl
@[simp] theorem Dev.ended_txn_timeout : (d.ended r u p m x).txn.timeout = d.txn.timeout := rfl
@[simp] theorem Dev.ended_rd (a : Nat) : (d.ended r u p m x).rd a = d.rd a := rfl
@[simp] theorem Dev.ended_boot : (d.ended r u p m x).boot = d.boot := rfl

end

/-! Fields of registers. -/

theorem Dev.rd_putF_same (d : Dev) (a hi lo v : Nat) : (d.putF a hi lo v).rd a = setBits (d.rd a) hi lo v := by simp [Dev.putF]
theorem Dev.rd_putF_ne (d : Dev) {a b : Nat} (h : b ≠ a) (hi lo v : Nat) : (d.putF a hi lo v).rd b = d.rd b := by simp [Dev.putF, Dev.rd_wr_ne, h]

/-- A field read after it is set. -/
theorem Dev.fld_putF (d : Dev) (a hi lo v : Nat) (h : hi < 32) : (d.putF a hi lo v).fld a hi lo = v % 2 ^ (hi + 1 - lo) := by
  simp [Dev.fld, Dev.rd_putF_same, bits_setBits, h]

/-- A field read after another field of its register, or a field of another register, is set. -/
theorem Dev.fld_putF_ne (d : Dev) (a b hi lo hi' lo' v : Nat) (h : hi < 32) (hd : b ≠ a ∨ hi' < lo ∨ hi < lo') :
    (d.putF a hi lo v).fld b hi' lo' = d.fld b hi' lo' := by
  by_cases hb : b = a
  · subst hb
    rw [Dev.fld, Dev.rd_putF_same, bits_setBits_ne _ _ _ _ _ _ h (by tauto), Dev.fld]
  · simp [Dev.fld, Dev.rd_putF_ne, hb]

theorem Dev.flag_putB_same (d : Dev) (a k : Nat) (b : Bool) (h : k < 32) : (d.putB a k b).flag a k = b := by
  simp only [Dev.flag, Dev.putB, Dev.rd_putF_same, bit_setBits _ _ _ _ _ h]
  cases b <;> simp [b2n]

theorem Dev.flag_putB_ne (d : Dev) (a b k j : Nat) (v : Bool) (h : k < 32) (hd : b ≠ a ∨ j ≠ k) : (d.putB a k v).flag b j = d.flag b j := by
  by_cases hb : b = a
  · subst hb
    have : ¬ (k ≤ j ∧ j ≤ k) := by omega
    simp [Dev.flag, Dev.putB, Dev.rd_putF_same, bit_setBits _ _ _ _ _ h, this]
  · simp [Dev.flag, Dev.putB, Dev.rd_putF_ne, hb]

end Sys2Proof.Machine
end

