-- ==== Sys2Proof/Laws/Host.lean ====
section
/-! SUPPORT. Sys2Proof/Laws/Host.lean: what the rows of commands answer, once for each way a row ends; what a register write and a register read do. -/

namespace Sys2Proof.Machine

theorem Dev.ended_ended (d : Dev) (r r' : Option Nat) (u u' p p' : Nat) (m m' : List (Nat × Byte)) (x x' : List Sent) :
    (d.ended r u p m x).ended r' u' p' m' x' = d.ended r' u' p' m' x' := rfl

/-- A change that the end of a command may make is no change to what the command answers. -/
theorem Ends.absorb {o : Host.Outcome State Fault Refusal} {t : State} {d : Dev} (h : Ends o { t with dev := d })
    (hd : ∃ r u p m x, d = t.dev.ended r u p m x) : Ends o t := by
  obtain ⟨r, u, p, m, x, hd⟩ := hd
  obtain ⟨r', u', p', m', x', h⟩ := h
  refine ⟨r', u', p', m', x', ?_⟩
  rw [h, hd]
  rfl

theorem Ends.with {o : Host.Outcome State Fault Refusal} {t : State} {P : State → Prop} (h : Ends o t)
    (hp : ∀ r u p m x, P { t with dev := t.dev.ended r u p m x }) : EndsWith o P := by
  obtain ⟨r, u, p, m, x, h⟩ := h
  exact ⟨_, h, hp r u p m x⟩

theorem Ends.of_done (s : State) (d : Dev) : Ends (done s d) { s with dev := d } := done_eq s d
theorem Ends.of_doneS (s s' : State) : Ends (doneS s s') s' := doneS_eq s s'
theorem Ends.of_doneReset (s : State) (d : Dev) :
    Ends (doneReset s d) { s with dev := d, ctl := if d.resetCtr = s.dev.resetCtr then s.ctl else 0 } := doneReset_eq s d

/-- A row whose effect is on the device. -/
theorem devRow_ends (s : State) (t : Nat) (f : Dev → Dev) : Ends (devRow s t true f) { s with dev := f (s.dev.tick t) } := Ends.of_done s _

/-- A row of the paths that run once an instar is in force. -/
theorem runRow_ends (s : State) (t : Nat) (f : Dev → Dev) (h : 3 ≤ s.dev.boot) : Ends (runRow s t true f) { s with dev := f (s.dev.tick t) } := by
  have : runRow s t true f = done s (f (s.dev.tick t)) := by simp [runRow, h]
  rw [this]
  exact Ends.of_done s _

/-- A row that may reset the module. -/
theorem resetRow_ends (s : State) (t : Nat) (f : Dev → Dev) : Ends (resetRow s t true f) { s with
    dev := f (s.dev.tick t), ctl := if (f (s.dev.tick t)).resetCtr = s.dev.resetCtr then s.ctl else 0 } := Ends.of_doneReset s _

/-! A register write. -/

theorem intAgain_eq (d old : Dev) (a : Nat) : ∃ p m x, d.intAgain old a = { d with host := { d.host with pba := p, mem := m, sent := x } } := by
  unfold Dev.intAgain
  split
  · split
    · exact msix_eq d _
    · exact ⟨d.host.pba, d.host.mem, d.host.sent, rfl⟩
  · exact ⟨d.host.pba, d.host.mem, d.host.sent, rfl⟩

/-- No register lies in the MSI-X region. -/
theorem regAt_msix {i : Iface} {a : Nat} (hm : isMsix i a = true) : regAt a = none := by
  have h1 : 0xF00000 ≤ a ∧ a < 0xF02000 := by simp [isMsix] at hm; omega
  have : blocks.find? (fun b => b.1 ≤ a && a ≤ b.2.1) = none := by
    rw [List.find?_eq_none]
    simp only [blocks, List.mem_cons, List.not_mem_nil, or_false]
    rintro x hx
    rcases hx with rfl | rfl | rfl | rfl | rfl | rfl | rfl | rfl | rfl | rfl | rfl | rfl | rfl | rfl | rfl | rfl | rfl | rfl | rfl | rfl | rfl <;>
      simp <;> omega
  simp [regAt, this]

theorem isMsix_of_reg {i : Iface} {a : Nat} {r : RegRow} (hr : regAt a = some r) : isMsix i a = false := by
  by_contra hm
  simp [regAt_msix (i := i) (a := a) (by simpa using hm)] at hr

/-- A write that is granted is to a register. -/
theorem canWrite_reg {s : State} {i : Iface} {a : Nat} (h : s.canWrite i a) : ∃ r, regAt a = some r := by
  obtain ⟨_, h⟩ := h
  cases hr : regAt a with
  | some r => exact ⟨r, rfl⟩
  | none =>
    exfalso
    unfold Dev.writeRefused at h
    rw [hr] at h
    by_cases h1 : (a % 4 != 0 || (15 : Nat) != 15) = true
    · simp only [h1, if_true] at h; omega
    · simp only [h1] at h
      by_cases h2 : (a != Reg.GLB_CTL && bit s.ctl (if i = .spi then 0 else 1)) = true
      · simp only [h2, if_true] at h; simp at h
      · simp only [h2] at h; simp at h

/-- A write refused as a whole: its access error and nothing else. -/
theorem write_refused {s : State} {i : Iface} {en a k : Nat} (v : Word) (hb : s.dev.boot ≠ 0) (hm : isMsix i a = false)
    (h : s.dev.writeRefused s.ctl i en a = k) (hk : k ≠ 0) : s.write i en a v = (k, { s with dev := s.dev.accErr k true i en a v }) := by
  simp [State.write, hb, hm, h, hk]

/-- A read refused as a whole: zero and its access error. -/
theorem read_refused {s : State} {i : Iface} {en a k : Nat} (hb : s.dev.boot ≠ 0) (hm : isMsix i a = false) (h : readRefused en a = k) (hk : k ≠ 0) :
    s.read i en a = (k, 0, { s with dev := (s.dev.accErr k false i en a 0).answer i 0 }) := by
  simp [State.read, hb, hm, h, hk]

/-- A read of a block that is not served: zero and no access error (R848). -/
theorem read_unserved {s : State} {i : Iface} {en a : Nat} {r : RegRow} (hb : s.dev.boot ≠ 0) (h : readRefused en a = 0) (hr : regAt a = some r)
    (ha : 0x10000 ≤ a) (hs : s.dev.served = false) : s.read i en a = (0, 0, { s with dev := s.dev.answer i 0 }) := by
  simp [State.read, State.rowGet, hb, isMsix_of_reg (i := i) hr, h, hr, ha, hs]

/-- Everything a register write can be: nothing in RESET, a word of the MSI-X table, an access error, GLB_CTL, or the row of a register. -/
theorem write_cases (s : State) (i : Iface) (en a : Nat) (v : Word) :
    s.write i en a v = (0, s) ∨ s.write i en a v = (0, { s with dev := s.dev.msixWrite en a v }) ∨
    (∃ k, k ≠ 0 ∧ s.dev.writeRefused s.ctl i en a = k ∧ s.write i en a v = (k, { s with dev := s.dev.accErr k true i en a v })) ∨
    (a = Reg.GLB_CTL ∧ s.write i en a v = s.ctlWrite i en a v) ∨
    (∃ r, regAt a = some r ∧ a ≠ Reg.GLB_CTL ∧ s.write i en a v = s.rowPut r i en a v) := by
  by_cases h1 : s.dev.boot = 0
  · left; simp [State.write, h1]
  by_cases h2 : isMsix i a = true
  · right; left; simp [State.write, h1, h2]
  by_cases h3 : s.dev.writeRefused s.ctl i en a = 0
  · by_cases h4 : a = Reg.GLB_CTL
    · right; right; right; left; refine ⟨h4, ?_⟩
      subst h4
      simp [State.write, h1, h2, h3]
    · cases h5 : regAt a with
      | none => left; simp [State.write, h1, h2, h3, h4, h5]
      | some r => right; right; right; right; exact ⟨r, rfl, h4, by simp [State.write, h1, h2, h3, h4, h5]⟩
  · right; right; left; exact ⟨_, h3, rfl, by simp [State.write, h1, h2, h3]⟩

/-- Everything a register read can be. -/
theorem read_cases (s : State) (i : Iface) (en a : Nat) :
    s.read i en a = (0, 0, s) ∨ s.read i en a = (0, s.dev.msixRead a, { s with dev := s.dev.answer i (s.dev.msixRead a) }) ∨
    (readRefused en a ≠ 0 ∧ s.read i en a = (readRefused en a, 0, { s with dev := (s.dev.accErr (readRefused en a) false i en a 0).answer i 0 })) ∨
    (∃ r, regAt a = some r ∧ s.read i en a = s.rowGet r i a) := by
  by_cases h1 : s.dev.boot = 0
  · left; simp [State.read, h1]
  by_cases h2 : isMsix i a = true
  · right; left; simp [State.read, h1, h2]
  by_cases h3 : readRefused en a = 0
  · cases h5 : regAt a with
    | none => left; simp [State.read, h1, h2, h3, h5]
    | some r => right; right; right; exact ⟨r, rfl, by simp [State.read, h1, h2, h3, h5]⟩
  · right; right; left; exact ⟨h3, by simp [State.read, h1, h2, h3]⟩

theorem ctlWrite_pending (s : State) (i : Iface) (en a : Nat) (v : Word) : (s.ctlWrite i en a v).2.pending = s.pending := by
  unfold State.ctlWrite
  split <;> rfl

theorem rowPut_pending (s : State) (r : RegRow) (i : Iface) (en a : Nat) (v : Word) : (s.rowPut r i en a v).2.pending = s.pending := rfl

theorem rowGet_keeps (s : State) (r : RegRow) (i : Iface) (a : Nat) :
    (s.rowGet r i a).2.2.pending = s.pending ∧ (s.rowGet r i a).2.2.ctl = s.ctl := by
  unfold State.rowGet
  split <;> exact ⟨rfl, rfl⟩

theorem write_pending (s : State) (i : Iface) (en a : Nat) (v : Word) : (s.write i en a v).2.pending = s.pending := by
  rcases write_cases s i en a v with h | h | ⟨k, _, _, h⟩ | ⟨_, h⟩ | ⟨r, _, _, h⟩
  · simp only [h]
  · simp only [h]
  · simp only [h]
  · rw [congrArg Prod.snd h, ctlWrite_pending]
  · rw [congrArg Prod.snd h, rowPut_pending]

/-- A read leaves the queue and GLB_CTL. -/
theorem read_keeps (s : State) (i : Iface) (en a : Nat) : (s.read i en a).2.2.pending = s.pending ∧ (s.read i en a).2.2.ctl = s.ctl := by
  rcases read_cases s i en a with h | h | ⟨_, h⟩ | ⟨r, _, h⟩
  · simp only [h, and_self]
  · simp only [h, and_self]
  · simp only [h, and_self]
  · rw [h]; exact rowGet_keeps s r i a

theorem bits_lt (w : Word) (hi lo : Nat) : bits w hi lo < 2 ^ (hi + 1 - lo) := Nat.mod_lt _ (Nat.two_pow_pos _)

/-- The row of a register leaves GLB_CTL, or it reset the module and GLB_CTL is 0. -/
theorem rowPut_ctl (s : State) (r : RegRow) (i : Iface) (en a : Nat) (v : Word) :
    (s.rowPut r i en a v).2.ctl = s.ctl ∨ ((s.rowPut r i en a v).2.ctl = 0 ∧ (s.rowPut r i en a v).2.dev.resetCtr ≠ s.dev.resetCtr) := by
  have key : ∀ x y : Nat, (if x = y then s.ctl else 0) = s.ctl ∨ ((if x = y then s.ctl else 0) = 0 ∧ x ≠ y) := by
    intro x y
    by_cases h : x = y <;> simp [h]
  exact key _ _

theorem ctlWrite_locks (s : State) (i : Iface) (en a : Nat) (v : Word) (hs : s.locksOk) : (s.ctlWrite i en a v).2.locksOk := by
  unfold State.ctlWrite
  split
  · exact hs
  · have := bits_lt v 1 0
    simp only [State.locksOk, w32_toNat]
    omega

/-- A write keeps the locks exclusive. -/
theorem write_locks (s : State) (i : Iface) (en a : Nat) (v : Word) (hs : s.locksOk) : (s.write i en a v).2.locksOk := by
  rcases write_cases s i en a v with h | h | ⟨k, _, _, h⟩ | ⟨_, h⟩ | ⟨r, _, _, h⟩
  · simpa only [State.locksOk, h] using hs
  · simpa only [State.locksOk, h] using hs
  · simpa only [State.locksOk, h] using hs
  · rw [congrArg Prod.snd h]
    exact ctlWrite_locks s i en a v hs
  · rw [congrArg Prod.snd h]
    unfold State.locksOk at *
    rcases rowPut_ctl s r i en a v with h' | ⟨h', _⟩
    · simpa only [h'] using hs
    · rw [h']; simp

/-- A write that is served and not refused as a whole acts on the row of its register (R18, R861, R862). -/
theorem write_granted {s : State} {i : Iface} {a : Nat} {r : RegRow} (v : Word) (h : s.canWrite i a) (ha : a ≠ Reg.GLB_CTL) (hr : regAt a = some r) :
    s.write i 15 a v =
      ((s.dev.rowWrite r i a v).1, { s with
        dev := if (s.dev.rowWrite r i a v).1 = 0 then (s.dev.rowWrite r i a v).2 else (s.dev.rowWrite r i a v).2.accErr (s.dev.rowWrite r i a v).1 true i 15 a v
        ctl := if (if (s.dev.rowWrite r i a v).1 = 0 then (s.dev.rowWrite r i a v).2
          else (s.dev.rowWrite r i a v).2.accErr (s.dev.rowWrite r i a v).1 true i 15 a v).resetCtr = s.dev.resetCtr then s.ctl else 0 }) := by
  have hm : isMsix i a = false := isMsix_of_reg hr
  obtain ⟨hb, hw⟩ := h
  simp [State.write, State.rowPut, hb, hm, hw, ha, hr]

@[simp] theorem at_canWrite (s : State) (t : Nat) (i : Iface) (a : Nat) : (s.at t).canWrite i a ↔ s.canWrite i a := Iff.rfl
@[simp] theorem at_canRead (s : State) (t a : Nat) : (s.at t).canRead a ↔ s.canRead a := Iff.rfl

/-- A command that stands for a register write: the machine `d` that its row makes without an access error. -/
theorem hostRow_ends {s : State} {t : Nat} {i : Iface} {a : Nat} {v : Word} {r : RegRow} {d : Dev} (h : s.canWrite i a) (ha : a ≠ Reg.GLB_CTL)
    (hr : regAt a = some r) (hw : (s.dev.tick t).rowWrite r i a v = (0, d)) (hc : d.resetCtr = s.dev.resetCtr) :
    Ends (hostRow s t true i a v) { s with dev := d } := by
  have := write_granted (s := s.at t) v ((at_canWrite s t i a).mpr h) ha hr
  simp only [State.at_dev, hw, if_true, Dev.tick_resetCtr, hc, State.at_ctl] at this
  have e : hostRow s t true i a v = doneS s { s with dev := d } := by
    simp only [hostRow, if_true, this]
    rfl
  rw [e]
  exact Ends.of_doneS s _

/-- A write to an RW, WO or W1S register other than GLB_RESET_CTL with every code defined: its action, or its value held. -/
theorem rowWrite_act {d : Dev} {r : RegRow} {i : Iface} {a : Nat} {v v' : Word} (hacc : r.acc = .rw ∨ r.acc = .wo ∨ r.acc = .w1s)
    (hm : r.merge (d.rd (d.copy a)) v = (v', false)) (ha : a ≠ Reg.GLB_RESET_CTL) (hq : ∀ p < 2, a ≠ Reg.REC_RP_QUOTA p)
    (hg : ∀ p < 8, a ≠ Reg.TST_PORT_GEN p) : d.rowWrite r i a v = (0, (d.regAct i a v').intAgain d a) := by
  have h0 : (a == Reg.REC_RP_QUOTA 0) = false := by simp [hq 0 (by omega)]
  have h1 : (a == Reg.REC_RP_QUOTA 1) = false := by simp [hq 1 (by omega)]
  have hany : (List.range 2).any (fun p => a == Reg.REC_RP_QUOTA p && d.quotaBad p v') = false := by
    simp [List.range, List.range.loop, h0, h1]
  have hl : d.genLenBad a v' = false := by
    simp only [Dev.genLenBad, List.any_eq_false, List.mem_range]
    intro p hp; simp [hg p hp]
  rcases hacc with h | h | h <;> simp only [Dev.rowWrite, h, hm, hl, hany, Bool.false_eq_true, if_false] <;> simp [ha]

/-- A command that writes such a register, whose action is `d`. -/
theorem hostRow_act {s : State} {t : Nat} {i : Iface} {a : Nat} {v v' : Word} {r : RegRow} {d : Dev} (h : s.canWrite i a) (hr : regAt a = some r)
    (hacc : r.acc = .rw ∨ r.acc = .wo ∨ r.acc = .w1s) (hm : r.merge (s.dev.rd (s.dev.copy a)) v = (v', false))
    (ha : a ≠ Reg.GLB_CTL ∧ a ≠ Reg.GLB_RESET_CTL ∧ (∀ p < 2, a ≠ Reg.REC_RP_QUOTA p) ∧ ∀ p < 8, a ≠ Reg.TST_PORT_GEN p)
    (hd : (s.dev.tick t).regAct i a v' = d) (hc : d.resetCtr = s.dev.resetCtr) :
    Ends (hostRow s t true i a v) { s with dev := d } := by
  have hw := rowWrite_act (d := s.dev.tick t) (i := i) hacc hm ha.2.1 ha.2.2.1 ha.2.2.2
  rw [hd] at hw
  obtain ⟨p, m, x, hx⟩ := intAgain_eq d (s.dev.tick t) a
  have := hostRow_ends (t := t) h ha.1 hr hw (by rw [hx]; exact hc)
  refine Ends.absorb (t := { s with dev := d }) this ⟨d.txn.rollback, d.host.summary, p, m, x, ?_⟩
  rw [hx]
  rfl

/-! A register read. -/

/-- A read that is served and is no access error: the value and the machine of its row, the value on the interface (R18, R860). -/
theorem readRow_ends {s : State} {t : Nat} {i : Iface} {a : Nat} {r : RegRow} {v : Word} {d : Dev} (h : s.canRead a) (hr : regAt a = some r)
    (hw : (s.dev.tick t).rowRead s.ctl r i a = (v, d)) : Ends (readRow s t true i a) { s with dev := d.answer i v } := by
  obtain ⟨hb, hx, hs⟩ := h
  have hsv : (decide (0x10000 ≤ a) && !(s.at t).dev.served) = false := by
    by_cases ha : 0x10000 ≤ a
    · have : (s.at t).dev.served = true := hs ha
      rw [this]
      simp
    · simp [ha]
  have e : readRow s t true i a = doneS s { s with dev := d.answer i v } := by
    have hb' : (s.at t).dev.boot ≠ 0 := hb
    have hg : (s.at t).rowGet r i a = (0, v, { s.at t with dev := d.answer i v }) := by
      unfold State.rowGet
      rw [hsv]
      simp [hw]
    have hrd : (s.at t).read i 15 a = (0, v, { s.at t with dev := d.answer i v }) := by
      unfold State.read
      simp only [hb', if_false, isMsix_of_reg (i := i) hr, Bool.false_eq_true, hx, ne_eq, not_true_eq_false, hr, Option.elim, hg]
    simp only [readRow, if_true, hrd]
    rfl
  rw [e]
  exact Ends.of_doneS s _

end Sys2Proof.Machine
end

