-- ==== Sys2Proof/Laws/Ops.lean ====
section
/-! SUPPORT. Sys2Proof/Laws/Ops.lean: what each shared operation can change, once: host memory, counts, interrupts, records, access errors, outputs. -/

namespace Sys2Proof.Machine

/-! Host memory keeps its canonical form, and a write changes its own bytes only. -/

theorem memPut_wf (m : List (Nat × Byte)) (a : Nat) (b : Bytes) (h : Memory.wf m = true) : Memory.wf (memPut m a b) = true := by
  induction b generalizing m a with
  | nil => exact h
  | cons x r ih => exact ih (tset 0 m a x) (a + 1) (tcanon_tset (fun _ => (0 : Byte)) m a x h)

theorem tget_memPut_out (m : List (Nat × Byte)) (a : Nat) (b : Bytes) (k : Nat) (h : k < a ∨ a + b.length ≤ k) :
    tget 0 (memPut m a b) k = tget 0 m k := by
  induction b generalizing m a with
  | nil => rfl
  | cons x r ih =>
    simp only [List.length_cons] at h
    rw [memPut, ih _ _ (by omega), tget_tset_ne 0 0 m (by omega) x]

theorem memGet_memPut (m : List (Nat × Byte)) (a : Nat) (b : Bytes) : memGet (memPut m a b) a b.length = b := by
  have one (m : List (Nat × Byte)) (a : Nat) (b : Bytes) (k : Nat) (x : Byte) (r : Bytes) (hb : b = x :: r) :
      tget 0 (memPut m a b) a = x := by
    subst hb; rw [memPut, tget_memPut_out _ _ _ _ (by omega)]; simp
  induction b generalizing m a with
  | nil => rfl
  | cons x r ih => rw [List.length_cons, memGet, one m a _ 0 x r rfl, memPut, ih]

theorem dmaWrite_wf (d : Dev) (a : Nat) (b : Bytes) (h : Memory.wf d.host.mem = true) : Memory.wf (d.dmaWrite a b).host.mem = true := by
  unfold Dev.dmaWrite; split
  · exact memPut_wf _ _ _ h
  · exact h

theorem msix_wf (d : Dev) (v : Nat) (h : Memory.wf d.host.mem = true) : Memory.wf (d.msix v).host.mem = true := by
  unfold Dev.msix; split
  · exact dmaWrite_wf d _ _ h
  · split <;> exact h

theorem settle_wf (d : Dev) (h : Memory.wf d.host.mem = true) : Memory.wf d.settle.host.mem = true := by
  have one (v : Nat) (d : Dev) (h : Memory.wf d.host.mem = true) : Memory.wf (d.settleOne v).host.mem = true := by
    unfold Dev.settleOne Dev.settleMsg; (repeat' split) <;> first | exact h | exact msix_wf _ _ h
  unfold Dev.settle
  generalize 28 = n
  induction n with
  | zero => exact h
  | succ n ih => exact one (n + 8) _ ih

theorem reset_mem_wf : Memory.wf State.reset.dev.host.mem = true := by rfl

/-! Operations that change registers only. -/

theorem Dev.wr_eq (d : Dev) (a : Nat) (v : Word) : ∃ r, d.wr a v = { d with regs := r } := ⟨_, rfl⟩
@[simp] theorem Dev.rd_note (d : Dev) (a b : Nat) (f : Word → Word) : (d.note a f).rd b = d.rd b := rfl

/-- A note of the tick that runs changes the notes alone (R19, R20). -/
theorem Dev.note_eq (d : Dev) (a : Nat) (f : Word → Word) : ∃ h, d.note a f = { d with hw := h } := ⟨_, rfl⟩

theorem Dev.raise_eq (d : Dev) (a k : Nat) : ∃ r h, d.raise a k = { d with regs := r, hw := h } := ⟨_, _, rfl⟩

theorem Dev.inc_eq (d : Dev) (a n : Nat) : ∃ r h, d.inc a n = { d with regs := r, hw := h } := by
  unfold Dev.inc; dsimp only; split <;> exact ⟨_, _, rfl⟩

theorem Dev.rd_raise_ne (d : Dev) {a b : Nat} (k : Nat) (h : b ≠ a) : (d.raise a k).rd b = d.rd b := by
  simp [Dev.raise, Dev.putB, Dev.putF, Dev.rd_wr_ne _ h]

theorem Dev.flag_raise (d : Dev) (a k : Nat) (hk : k < 32) : (d.raise a k).flag a k = true := by
  simp [Dev.raise, Dev.putB, Dev.putF, Dev.flag, bit_setBits _ _ _ _ _ hk, b2n]

theorem Dev.rd_inc_ne (d : Dev) {a b : Nat} (n : Nat) (h : b ≠ a) : (d.inc a n).rd b = d.rd b := by
  unfold Dev.inc; dsimp only; split <;> simp [Dev.wrN, Dev.rd_wr_ne _ h]

/-- An access error changes registers, and the notes of the tick, only (R862). -/
theorem Dev.accErr_eq (d : Dev) (c : Nat) (w : Bool) (i : Iface) (en a : Nat) (v : Word) :
    ∃ r h, d.accErr c w i en a v = { d with regs := r, hw := h } := by
  unfold Dev.accErr; dsimp only; split <;> exact ⟨_, _, rfl⟩

/-- It changes none but the registers of R862. -/
theorem Dev.rd_accErr_ne (d : Dev) (c : Nat) (w : Bool) (i : Iface) (en a : Nat) (v : Word) {b : Nat} (h : b ∉ errRegs) :
    (d.accErr c w i en a v).rd b = d.rd b := by
  simp only [errRegs, List.mem_cons, List.not_mem_nil, or_false, not_or] at h
  obtain ⟨h1, h2, h3, h4, h5⟩ := h
  unfold Dev.accErr; dsimp only
  split
  · simp [Dev.putB, Dev.putF, Dev.incS, Dev.wrSat, Dev.rd_wr_ne _ h3, Dev.rd_wr_ne _ h2, Dev.rd_raise_ne _ _ h1]
  · simp [Dev.wrN, Dev.incS, Dev.wrSat, Dev.rd_wr_ne _ h5, Dev.rd_wr_ne _ h4, Dev.rd_wr_ne _ h3, Dev.rd_wr_ne _ h2, Dev.rd_raise_ne _ _ h1]

/-! Records and outputs. -/

/-- The intake of a record changes the recorder and, where it is lost, its count (R661, R664). -/
theorem Dev.intake_eq (d : Dev) (r : RecIn) : ∃ g h e, d.intake r = { d with regs := g, hw := h, evr := e } := by
  unfold Dev.intake
  split
  · split
    · exact ⟨_, _, _, rfl⟩
    · obtain ⟨g, h, hg⟩ := d.inc_eq Reg.REC_LOST_CNT 1
      dsimp only; rw [hg]; split <;> exact ⟨_, _, _, rfl⟩
  · dsimp only
    split
    · exact ⟨_, _, _, rfl⟩
    · obtain ⟨g, h, hg⟩ := d.inc_eq Reg.REC_LOST_CNT 1
      rw [hg]; exact ⟨_, _, _, rfl⟩

theorem Dev.record_eq (d : Dev) (typ : Nat) (b : Bytes) : ∃ g h e, d.record typ b = { d with regs := g, hw := h, evr := e } := by
  unfold Dev.record Dev.recordAt
  obtain ⟨g, k, e, h⟩ := d.intake_eq ⟨typ, b, d.time, d.tq, none⟩
  dsimp only; rw [h]; split <;> exact ⟨_, _, _, rfl⟩

theorem Dev.recordLocal_eq (d : Dev) (w typ : Nat) (b : Bytes) : ∃ g h e, d.recordLocal w typ b = { d with regs := g, hw := h, evr := e } := by
  unfold Dev.recordLocal
  obtain ⟨g, k, e, h⟩ := d.intake_eq ⟨typ, b, d.time, d.tq, some w⟩
  dsimp only; rw [h]; split <;> exact ⟨_, _, _, rfl⟩

theorem Dev.emit_eq (d : Dev) (x : Sent) : d.emit x = { d with host := { d.host with sent := x :: d.host.sent } } := rfl

end Sys2Proof.Machine
end

