-- ==== Sys2Proof/Tests/Slice0.lean ====
section
/-! SUPPORT. Sys2Proof/Tests/Slice0.lean: examples of the spec, ill-formed commands, and states and operands that meet the hypotheses of each statement. -/

namespace Sys2Proof.Tests

set_option Elab.async false

open Sys2Proof.Machine

/-! States: the machine after reset with STATE at a code, and changed in one place. -/

def up (k : Nat) : State := { State.reset with dev := State.reset.dev.putF Reg.GLB_BOOT_STATE 2 0 k }
def upWith (k : Nat) (f : Dev → Dev) : State := { up k with dev := f (up k).dev }

/-! Hypotheses of the statements about registers, the SPI port and resets. -/

theorem meets_StepTakesTheFront : ({ State.reset with pending := [.powerOn 0] } : State).pending = .powerOn 0 :: [] ∧ State.reset.pending = [] := by decide +kernel

theorem meets_LocksAreNeverBothSet : State.reset.locksOk ∧ ∃ t, step State.reset = .next t := ⟨by decide, _, rfl⟩

theorem meets_OnlyWritesChangeTheLocks : ∃ t, exec (.pwrfailEnd 0) State.reset = .next t := ⟨_, rfl⟩

theorem meets_GlbCtlWrite : (up 1).dev.boot ≠ 0 ∧ bits 2 1 0 ≠ 3 ∧ bits 3 1 0 = 3 := by decide +kernel

theorem meets_AccessErrorCapture :
    (15 : Nat) < 16 ∧ (up 6).dev.flag Reg.GLB_ACC_ERR_INFO 7 = false ∧ (upWith 6 (·.accErr 1 true .pcie 0 0 0)).dev.flag Reg.GLB_ACC_ERR_INFO 7 = true ∧
    Reg.TIM_CTL ∉ errRegs ∧ (up 6).canWrite .spi Reg.GLB_ACC_ERR_CLR ∧ bit 1 0 = true := by decide +kernel

theorem meets_RefusedAccesses :
    (up 1).dev.boot ≠ 0 ∧ isMsix .pcie 0x10515C = false ∧ (0x10515D % 4 ≠ 0) ∧ bit ({ up 1 with ctl := 2 } : State).ctl 1 = true ∧
    regAt 0x10515C = none ∧ regAt 0x105158 ≠ none ∧ (up 1).dev.served = false := by decide +kernel

theorem meets_AccessCodes :
    (up 6).canWrite .pcie Reg.GLB_STATUS ∧ ((regAt Reg.GLB_STATUS).map (·.acc)) = some .ro ∧
    (up 6).canWrite .pcie Reg.TST_PPS_MAX ∧ ((regAt Reg.TST_PPS_MAX).map (·.acc)) = some .rc ∧
    (up 6).canWrite .pcie Reg.TST_INT_STATUS ∧ ((regAt Reg.TST_INT_STATUS).map (·.acc)) = some .w1c ∧
    (up 6).canWrite .pcie Reg.PWR_INT_EN ∧ Reg.PWR_INT_EN = intStatusOf 35 + 4 ∧ Reg.GLB_INT_EN = intStatusOf 8 + 4 ∧
    (up 6).canRead Reg.TST_PPS_MAX ∧ isView Reg.TST_PPS_MAX = false ∧ isLatched Reg.TST_PPS_MAX = false ∧ latchOf Reg.TST_PPS_MAX = [] ∧
    ((up 6).dev.tick 0).capture .pcie Reg.TST_PPS_MAX = none ∧ ((up 6).dev.tick 0).mark Reg.TST_PPS_MAX = none ∧
    ((upWith 6 (fun d => d.note Reg.TST_PPS_MAX (fun _ => 5))).dev.tick 0).mark Reg.TST_PPS_MAX = some ⟨0, 5⟩ ∧ (up 6).canRead Reg.ISL_UPD_SEQ_LO := by decide +kernel

theorem meets_BadCodeKeepsTheField :
    (up 6).canWrite .pcie Reg.TIM_PPS_OUT_CTL ∧ bits 2 7 1 = 1 ∧ bits 200 7 1 = 100 ∧ bits 1 7 1 = 0 ∧ bits 202 7 1 = 101 := by decide +kernel

/-- Bytes of a list of numbers. -/
def bytes (l : List Nat) : List Byte := l.map (BitVec.ofNat 8)

theorem meets_SpiFrames :
    byteAt (bytes [2, 0, 0, 8, 0, 0, 0, 1]) 0 = 2 ∧
    (let b := bytes [2, 0, 0, 8, 0, 0, 0, 1]; let f := b ++ be 1 (crc8 b) ++ zeros 2
     f.length = 11 ∧ byteAt f 0 = 2 ∧ byteAt f 8 = crc8 (f.take 8)) ∧
    (let f := bytes [2, 0, 0, 8, 0, 0, 0, 1, 0, 0, 0]; f.length = 11 ∧ byteAt f 0 = 2 ∧ byteAt f 8 ≠ crc8 (f.take 8)) ∧
    (let b := bytes [3, 0, 0, 8]; let f := b ++ be 1 (crc8 b) ++ zeros 8; f.length = 13 ∧ byteAt f 0 = 3 ∧ byteAt f 4 = crc8 (f.take 4)) ∧
    (let f := bytes [3, 0, 0, 8] ++ zeros 9; f.length = 13 ∧ byteAt f 0 = 3 ∧ byteAt f 4 ≠ crc8 (f.take 4)) ∧
    (up 6).dev.fromWing0 Reg.TIM_CTL = false ∧ (up 6).dev.fromWing0 Reg.SCH_STATUS = true ∧ readRefused 15 Reg.SCH_STATUS = 0 := by decide +kernel

theorem meets_ResetsOfTheModule :
    (1000 ≤ 1000 ∧ 999 < 1000) ∧ (up 0).dev.boot = 0 ∧ (up 6).dev.boot ≠ 0 ∧ (up 6).canWrite .pcie Reg.GLB_RESET_CTL := by decide +kernel

theorem meets_BadResetKey :
    (up 6).canWrite .spi Reg.GLB_RESET_CTL ∧ bits 0xA5C30001 31 16 = 0xA5C3 ∧ bit 0xA5C30001 0 = true ∧
    ¬ (bits 0xA5C30000 31 16 = 0xA5C3 ∧ bit 0xA5C30000 0 = true) ∧ ¬ (bits 0xA5C20001 31 16 = 0xA5C3 ∧ bit 0xA5C20001 0 = true) := by decide +kernel

/-! Hypotheses of the statements about bring-up, power failure and host rings. -/

theorem meets_BringUp :
    (up 1).dev.boot = 1 ∧ (5 : Nat) ≠ 0 ∧ (up 2).dev.boot = 2 ∧ (up 2).dev.txn.inForce = none ∧ (up 2).dev.bestSlot = none ∧
    (up 2).canWrite .pcie Reg.GLB_BOOT_CTL ∧ bit 1 0 = true ∧
    (upWith 2 (fun d => { d with txn := { d.txn with inForce := some 0 } })).dev.txn.inForce.isSome = true ∧
    (upWith 2 (fun d => { d with txn := { d.txn with inForce := some 0 } })).canWrite .pcie Reg.GLB_BOOT_CTL ∧
    (up 4).dev.boot = 4 ∧ (up 4).dev.tim.lockedOnce = false ∧
    (let s := upWith 4 (·.wrN (Reg.GLB_STATE_TIME 4) 1)
     let due := (s.dev.rdN (Reg.GLB_STATE_TIME 4) + (s.dev.device.map (fun b => beAt b 8 4)).getD 0 * 1000) * 400000
     due ≤ max s.dev.tim.clk 400000 ∧ max s.dev.tim.clk 399999 < due) := by decide +kernel

/-- A host delta whose records make a valid configuration: DEVICE, one list of each class, and the route of every kernel that the device produces. -/
def storedDelta : Bytes :=
  recBytes 0x0100 (be 2 50 ++ be 1 50 ++ be 5 0 ++ be 4 60 ++ be 2 0 ++ be 2 60) ++
  recBytes 0x0C01 (be 1 0 ++ be 1 0x81 ++ be 1 1 ++ be 1 0 ++ be 4 1024) ++ recBytes 0x0C01 (be 1 1 ++ be 1 0x82 ++ be 1 1 ++ be 1 0 ++ be 4 1024) ++
  [0x20, 0x21, 0x22, 0x23, 0x24].flatMap (fun k => recBytes 0x0C02 (be 2 k ++ be 2 0 ++ be 1 10 ++ be 3 0)) ++
  recBytes 0x0C02 (be 2 0x30 ++ be 1 1 ++ be 5 0)

/-- A slot that holds only a host delta qualifies, whatever SHA-256 gives for it. -/
def stored : State := upWith 2 (fun d => d.modSlotNv 1 (fun x =>
  { x with st := 2, instar := 7, elems := [(2, storedDelta)], hash := Config.sha256 (chainBytes [(2, storedDelta)]) }))

def storedCfg : Dev := stored.dev.takeCfg (cfgChain [(2, storedDelta)])

theorem stored_badBase : storedCfg.badBase stored.dev true = [] := by decide +kernel
theorem stored_badFields : storedCfg.badFields = [] := by decide +kernel
theorem stored_badRegs : storedCfg.badRegs = [] := by decide +kernel
theorem stored_badLocal : storedCfg.badLocal = [] := by decide +kernel
theorem stored_badPorts : storedCfg.badPorts = [] := by decide +kernel
theorem stored_badIngress : storedCfg.badIngress = [] := by decide +kernel
theorem stored_badStreams : storedCfg.badStreams = [] := by decide +kernel
theorem stored_badOsc : storedCfg.badOsc = [] := by decide +kernel
theorem stored_badIsl : storedCfg.badIsl = [] := by decide +kernel
theorem stored_badSched : storedCfg.badSched = [] := by decide +kernel
theorem stored_badAcq : storedCfg.badAcq = [] := by decide +kernel
theorem stored_badSafety : storedCfg.badSafety = [] := by decide +kernel
theorem stored_badQueues : storedCfg.badQueues stored.dev = [] := by
  have h1 : sumN (((List.range 320).map (192 + ·)).map storedCfg.qWords) = 0 := by decide +kernel
  have h2 : Config.queDevWords ≤ 1048576 := by have := Config.queDevWordsOf.isLt; simp only [Config.queDevWords]; omega
  have h3 : ∀ q ∈ (List.range 320).map (192 + ·), bit (storedCfg.rd (Reg.QUE_Q_CFG q)) 0 = false := by decide +kernel
  have h4 : ∀ q ∈ (List.range 320).map (192 + ·), bits (storedCfg.rd (Reg.QUE_Q_CFG q)) 20 16 = 0 := by decide +kernel
  simp only [Dev.badQueues, h1]
  rw [List.append_eq_nil_iff]
  refine ⟨by simp [failIf, h2], ?_⟩
  rw [List.flatMap_eq_nil_iff]
  intro q hq
  simp [h3 q hq, h4 q hq, failIf]

theorem meets_BringUp_load : stored.dev.boot = 2 ∧ stored.dev.txn.inForce = none ∧ stored.dev.bestSlot = some 1 := by
  refine ⟨by decide +kernel, by decide +kernel, ?_⟩
  have h0 : stored.dev.qualifies 0 = false := by decide +kernel
  have hx : stored.dev.nvSlot 1 = ⟨2, 7, ((State.reset.dev.nvSlot 1).gen), [(2, storedDelta)], Config.sha256 (chainBytes [(2, storedDelta)])⟩ := rfl
  have h1 : stored.dev.qualifies 1 = true := by simp [Dev.qualifies, hx]
  have ht : stored.dev.takenSlot = some 1 := by simp [Dev.takenSlot, h0, h1]
  have h2 : stored.dev.breaks (cfgChain [(2, storedDelta)]) true = [] := by
    rw [Dev.breaks, ← storedCfg]
    simp only [Dev.failing, stored_badBase, stored_badFields, stored_badRegs, stored_badLocal, stored_badPorts, stored_badIngress, stored_badStreams, stored_badOsc, stored_badIsl, stored_badSched, stored_badAcq, stored_badSafety, stored_badQueues, List.append_nil]
  simp only [Dev.bestSlot, ht, hx, h2]
  rfl

theorem meets_PowerFailAndEndpoint :
    (up 6).dev.boot ≠ 0 ∧ (up 6).dev.host.linkUp = false ∧
    (upWith 6 (fun d => { d with pins := { d.pins with pwrfailLow := true } })).dev.pins.pwrfailLow = true ∧
    (upWith 6 (fun d => { d with host := { d.host with linkUp := true } })).dev.host.linkUp = true := by decide +kernel

/-- Host rings of 16 entries on ring 7, with a head that is one ahead. -/
def ringed (f : Dev → Dev) : State := upWith 6 (fun d =>
  let d := { d with host := { d.host with linkUp := true } }
  f (((((d.wr (Reg.GLB_HR_CTL 7) 1).wr (Reg.GLB_HR_SQ_SIZE 7) 16).wr (Reg.GLB_HR_CQ_SIZE 7) 16).wr (Reg.GLB_HR_SQ_HEAD 7) 1)))
def takenOne (acked : Bool) (e : Option (Bytes × Bool)) (d : Dev) : Dev := d.modRing 7 (fun g => { g with next := 1, taken := [⟨0, zeros 32, [], acked, e⟩] })

theorem meets_HostRings_take :
    ((ringed id).dev.hrNext 7).isSome = true ∧ ((ringed id).dev.ring 7).restored = [] ∧ (ringed id).dev.cqRoom 7 = true ∧ (ringed id).dev.waitCredit 7 = false ∧
    (ringed id).dev.waitLimit 7 = false ∧ (ringed id).dev.pins.pwrfailLow = false ∧ (ringed id).dev.pfHeld = false ∧
    (let s := ringed (fun d => d.modRing 7 (fun g => { g with restored := [(zeros 32, [])] }))
     (s.dev.ring 7).restored = [(zeros 32, [])] ∧ (s.dev.hrNext 7).isSome = true ∧ s.dev.waitCredit 7 = false ∧ s.dev.cqRoom 7 = true ∧ s.dev.waitLimit 7 = false) ∧
    (upWith 6 (fun d => { d with pins := { d.pins with pwrHold := true } })).dev.pfHeld = true ∧
    ((ringed (fun d => d.wr (Reg.GLB_HR_CQ_TAIL 7) 1)).dev.cqRoom 7 = false ∧ ((ringed (fun d => d.wr (Reg.GLB_HR_CQ_TAIL 7) 1)).dev.hrNext 7).isSome = true) := by
  decide +kernel

theorem meets_HostRings_entries :
    ((ringed (takenOne false none)).dev.ring 7).taken.find? (fun x => !x.acked) = some ⟨0, zeros 32, [], false, none⟩ ∧
    (let s := ringed (takenOne true (some (zeros 32, false)))
     s.dev.hrRuns 7 = true ∧ s.dev.dma = true ∧
     0 < ringRoom (s.dev.cqSize 7) (s.dev.fld (Reg.GLB_HR_CQ_HEAD 7) 11 0) (s.dev.fld (Reg.GLB_HR_CQ_TAIL 7) 11 0) ∧ s.dev.gateOpen s.dev.active (2168 + 7) 0 = true) ∧
    (up 6).canWrite .pcie (Reg.GLB_HR_CTL 7) ∧ (up 6).dev.flag (Reg.GLB_HR_CTL 7) 0 = false := by decide +kernel

/-! Hypotheses of the statements about conversion, filters, phasors, alarm outputs, acquisition and compression. -/

theorem meets_Snapshots :
    (up 6).canWrite .pcie (Reg.CNV_Q_SNAP 3) ∧ (up 6).canWrite .spi Reg.CNV_SNAP_ALL ∧ 2 ≤ (up 2).dev.boot ∧
    ((upWith 6 (·.modQuad 3 (fun u => { u with snap := true }))).dev.quad 3).snap = true ∧ ((up 6).dev.quad 0).snap = false := by decide +kernel

def queued (l : List Nat) : State := upWith 6 (·.modCk 15 (fun c => { c with queue := l }))
def result : CkRes := ⟨180, 1, true, false, false, false, 1, 2, 3, 4, 5⟩

theorem meets_InjectedChecksAndResults :
    (up 6).canWrite .pcie (Reg.CNV_CK_INJ 15) ∧ bits 179 7 0 / 12 ≠ 15 ∧ bits 191 7 0 / 12 = 15 ∧
    (upWith 6 (·.chFlag 180 11 true)).dev.chHas 180 11 = true ∧ (queued [180]).dev.chHas 180 11 = false ∧ 180 ∈ ((queued [180]).dev.ck 15).queue ∧
    180 ∉ ((queued [181, 182, 183, 184]).dev.ck 15).queue ∧ 4 ≤ ((queued [181, 182, 183, 184]).dev.ck 15).queue.length ∧
    ((queued [181, 182, 183]).dev.ck 15).queue.length < 4 ∧ (up 6).canRead (Reg.CNV_CK_RES_STATUS 15) ∧ (up 6).canRead (Reg.CNV_CK_RES_CONSUME 15) ∧
    ((upWith 6 (·.modCk 15 (fun c => { c with front := some result, back := some result }))).dev.ck 15).back = some result ∧
    ((up 6).dev.ck 15).back = none := by decide +kernel

def faded (f : Option Fade) (p : Option (Nat × Nat)) : State := upWith 6 (·.modChan 255 (fun x => { x with fade := f, pend := p }))

theorem meets_FirBanks :
    (up 6).canWrite .pcie (Reg.FLT_CH_SWAP 255) ∧ ((up 6).dev.chan 255).fade = none ∧ bits 0 0 0 = ((up 6).dev.chan 255).live ∧
    bits 1 0 0 ≠ ((up 6).dev.chan 255).live ∧ ((faded (some ⟨1, 4, 4, none⟩) none).dev.chan 255).fade ≠ none ∧
    ((faded (some ⟨1, 4, 4, none⟩) (some (0, 1))).dev.chan 255).pend = some (0, 1) ∧ ((faded (some ⟨1, 4, 4, none⟩) (some (1, 1))).dev.chan 255).pend = some (1, 1) ∧
    ((faded (some ⟨1, 4, 0, some 0⟩) none).dev.chan 255).fade = some ⟨1, 4, 0, some 0⟩ ∧ (faded (some ⟨1, 4, 4, none⟩) none).canWrite .pcie (Reg.FLT_CH_SWAP 255) ∧
    (4 ≤ 4 ∧ 3 < 4) ∧ (up 6).canWrite .spi Reg.FLT_COEF_DATA ∧ (up 6).canRead Reg.FLT_COEF_DATA ∧ bankLocked ((up 6).dev.chan 0) 0 = true ∧
    bankLocked ((upWith 6 (·.wr Reg.FLT_COEF_SEL 0x100)).dev.chan 0) 1 = false := by decide +kernel

theorem meets_Freezes :
    (let s := upWith 6 (·.wr (Reg.FLT_CH_CFG 255) 0x40)
     s.canWrite .pcie (Reg.FLT_CH_FREEZE_CTL 255) ∧ s.dev.flag (Reg.FLT_CH_CFG 255) 6 = true) ∧
    bit 1 1 = false ∧ bit 2 0 = false ∧ bit 3 0 = true ∧ bit 3 1 = true ∧ (upWith 6 (·.wr (Reg.FLT_CH_CFG 255) 0)).dev.flag (Reg.FLT_CH_CFG 255) 6 = false ∧
    (let s := upWith 6 (fun d => (d.modChan 255 (fun x => { x with freeze := some ⟨1, false, 2, 3⟩ })).wr (Reg.FLT_CH_FREEZE_CFG 255) 0x20000 |>.wr Reg.FLT_FREEZE_MAX 3)
     3 ≤ s.dev.boot ∧ (s.dev.chan 255).freeze = some ⟨1, false, 2, 3⟩ ∧ (s.dev.chan 255).trig = none ∧ s.dev.fld (Reg.FLT_CH_FREEZE_CFG 255) 31 16 ≤ 2 ∧
     ¬ (s.dev.fld (Reg.FLT_CH_FREEZE_CFG 255) 31 16 ≤ 1) ∧ s.dev.rdN Reg.FLT_FREEZE_MAX ≤ 3 ∧ 2 < s.dev.rdN Reg.FLT_FREEZE_MAX) := by decide +kernel

theorem meets_TrackerAndPhaseReset :
    (let s := upWith 6 (fun d => ({ (d.putF Reg.FLT_TRK_STATUS 1 0 2).wr Reg.FLT_TRK_HOLD_LIM 5 with loc := { d.loc with holdCnt := 5 } }))
     s.dev.trkState = 2 ∧ s.dev.fld Reg.FLT_TRK_HOLD_LIM 15 0 ≤ s.dev.loc.holdCnt ∧ ¬ (6 ≤ s.dev.loc.holdCnt)) ∧
    (let s := upWith 6 (fun d => ({ (d.putF Reg.FLT_TRK_STATUS 1 0 1).putF Reg.FLT_TRK_STATUS 5 4 3 with loc := { d.loc with validCnt := [(2, 64)] } }))
     s.dev.trkState = 1 ∧ (List.range s.dev.trkSel).find? (fun j => decide (64 ≤ tget 0 s.dev.loc.validCnt j)) = some 2) ∧
    (let s := upWith 6 (·.wr Reg.FLT_CTL 1)
     s.dev.flag Reg.FLT_CTL 0 = true ∧ s.dev.loc.resetAt = none ∧ s.canWrite .pcie Reg.FLT_CTL ∧ s.dev.txn.st ≠ .opened) ∧
    (upWith 6 (·.wr Reg.FLT_CTL 0)).dev.flag Reg.FLT_CTL 0 = false ∧ 399999 < 0 + ticksMs 1 ∧ ¬ (400000 < 0 + ticksMs 1) ∧ 200 ≤ 200 ∧ 199 < 200 := by decide +kernel

/-- The local path with a number of sample ticks behind it, and no boundary of the grid taken since the first. -/
def ticked (k : Nat) (f : Dev → Dev) : State :=
  upWith 6 (fun d => f { d with loc := { d.loc with ticks := k, flutAt := 0, cycAt := 0, frameAt := 0, edge := false } })

theorem meets_LocalBoundaries :
    2 ≤ (up 2).dev.boot ∧ (upWith 6 (·.wr (Reg.CNV_CH_CFG 191) 1)).dev.flag (Reg.CNV_CH_CFG 191) 0 = true ∧
    (upWith 6 (·.wr (Reg.CNV_CH_CFG 191) 1)).dev.testMode 191 ≠ 4 ∧ 191 / 48 = 3 ∧ (∀ b ∈ [((191 : Nat), (2 : Nat) ^ 400 - 1)], b.1 < 192 ∧ b.2 < 2 ^ 400) ∧
    3 ≤ (ticked 16 id).dev.boot ∧ (ticked 16 id).dev.loc.edge = false ∧
    (ticked 16 (fun d => { d with loc := { d.loc with edge := true } })).dev.loc.edge = true ∧
    ((ticked 16 id).dev.loc.ticks % 16 = 0 ∧ (ticked 16 id).dev.loc.ticks ≠ (ticked 16 id).dev.loc.flutAt) ∧ (ticked 15 id).dev.loc.ticks % 16 ≠ 0 ∧
    ((ticked 128 id).dev.loc.ticks % 128 = 0 ∧ (ticked 128 id).dev.loc.ticks ≠ (ticked 128 id).dev.loc.cycAt) ∧ (ticked 0 id).dev.loc.ticks = (ticked 0 id).dev.loc.cycAt ∧
    (let s := ticked 384 (·.modCk 15 (fun c => { c with run := some ⟨180, false, false⟩ }))
     s.dev.loc.ticks % 384 = 0 ∧ s.dev.loc.ticks ≠ s.dev.loc.frameAt ∧ (s.dev.ck 15).run = some ⟨180, false, false⟩ ∧
     s.dev.rd (Reg.CNV_CH_STATUS 180) &&& 0x1F0 = 0 ∧ (s.dev.ck 0).run = none) ∧
    ((ticked 384 (·.modQuad 3 (fun u => { u with waiting := true }))).dev.quad 3).waiting = true := by decide +kernel

theorem meets_CalibrationAndLowPower :
    (up 6).canWrite .pcie Reg.CNV_CAL_CTL ∧ bit 0x80 (4 + 3) = true ∧ bit 0x80 (4 + 0) = false ∧
    ((upWith 6 (·.modQuad 3 (fun u => { u with busy := true }))).dev.quad 3).busy = true ∧
    ((up 6).dev.quad 3).busy = false ∧ ((up 6).dev.quad 3).calEnd = none ∧ 3 < (up 6).dev.loc.quads.length ∧
    ((upWith 6 (·.modQuad 3 (fun u => { u with calEnd := some 0 }))).dev.quad 3).calEnd = some 0 ∧ (799999999 < 0 + ticksSec 2 ∧ ¬ (800000000 < 0 + ticksSec 2)) ∧
    (up 6).dev.running = true ∧ (up 4).dev.running = false ∧ (upWith 6 (·.modQuad 3 (fun u => { u with busy := true }))).dev.calibrating 3 = true ∧
    (let s := upWith 3 (fun d => foldUp 4 (fun q d => d.modQuad q (fun u => { u with busy := true })) d)
     s.dev.boot = 3 ∧ (∀ q < 4, s.dev.calibrating q = true) ∧ s.dev.tim.lockedOnce = false) ∧ (up 6).canWrite .pcie Reg.CNV_LP_CTL ∧
    (let s := upWith 2 (fun d => { d with loc := { d.loc with settle := [(190, 2), (191, 1)] } })
     2 ≤ s.dev.boot ∧ (191, 1) ∈ s.dev.loc.settle ∧ s.dev.testSettles 191 = false ∧ ∀ p ∈ s.dev.loc.settle, p.1 = 190 → p.2 ≠ 1) := by decide +kernel

def reported : Deliv := ⟨0, 0, true, 0, false, false, false, 7, 8, 0, 0, false, 7 * 2 ^ 24⟩

theorem meets_AlarmOutputsAndPhasorView :
    3 ≤ (up 6).dev.boot ∧
    ((upWith 6 (·.modAo 15 (fun p => { p with holdTo := some 400 }))).dev.ao 15).holdTo = some 400 ∧ 400 ≤ max (up 6).dev.tim.clk 400 ∧
    max (up 6).dev.tim.clk 399 < 400 ∧ ((up 6).dev.ao 15).holdTo = none ∧ (up 6).canWrite .pcie Reg.PHS_AO_UNLATCH ∧
    (up 6).dev.aoSource 15 = false ∧ (up 6).canRead (Reg.PHS_CH_STATUS 255) ∧
    ((upWith 6 (·.modChan 255 (fun x => { x with rpt := some reported }))).dev.chan 255).rpt = some reported := by decide +kernel

def entry : AcqEntry := ⟨zeros 16, 0, 0, 0, true, false, none⟩
def acquiring (f : Acq → Acq) (g : Dev → Dev) : State := upWith 6 (fun d => g
  { d.wr Reg.ACQ_RING_SIZE 4096 |>.wr Reg.ACQ_CTL 1 with host := { d.host with linkUp := true }, acq := f { d.acq with startClk := some 0 } })

theorem meets_Acquisition :
    1 ≤ (up 1).dev.boot ∧ (∀ x ∈ [((63 : Nat), true), (0, false)], x.1 < 64) ∧ (up 1).dev.acq.todo = [] ∧ ((up 6).dev.pat 15).markAt = none ∧
    (let s := upWith 1 (·.modPat 15 (fun p => { p with markAt := some 0 }))
     (s.dev.pat 15).markAt = some 0 ∧ 0 + ticksUs (s.dev.rdN (Reg.ACQ_PU_HOLDOFF 15)) ≤ max s.dev.tim.clk 400000000000) ∧
    (acqSkip ((up 6).dev.tick 0) (up 6).dev.acq.ring).find? (fun e => !e.finished) = none ∧
    (let s := acquiring (fun a => { a with ring := [entry] }) id
     (acqSkip (s.dev.tick 0) s.dev.acq.ring).find? (fun e => !e.finished) = some entry ∧ (s.dev.tick 0).acqChosen entry = true ∧ entry.job = none ∧ s.dev.dma = true ∧
     0 < s.dev.rdN Reg.ACQ_RING_SIZE ∧ entry.bytes.length ≤ ringRoom (s.dev.rdN Reg.ACQ_RING_SIZE) (s.dev.rdN Reg.ACQ_RING_HEAD) s.dev.acq.tail ∧
     s.dev.gateOpen s.dev.active 2162 s.dev.acq.seq = true) ∧
    (let s := acquiring (fun a => { a with paused := true }) id
     s.dev.acq.paused = true ∧ s.dev.acqUnsent ≤ s.dev.rdN Reg.ACQ_RESUME_MB * 1048576) ∧
    (let s := acquiring (fun a => { a with lost := (0, 1, 0, 7) }) id
     s.dev.acqOn = true ∧ s.dev.acq.paused = false ∧ s.dev.acq.lost = (0, 1, 0, 7) ∧ s.dev.acqUnsent + 32 + entry.bytes.length ≤ lookback - 16 * 1048576 ∧
     (s.dev.acqAdd 0 entry).1.acq.ring.map (·.bytes.length) = [32, 16]) ∧
    (up 6).canWrite .pcie Reg.ACQ_RING_TAIL := by decide +kernel

theorem meets_Acquisition_block :
    (let s := acquiring (fun a => { a with groups := [(7, ⟨List.replicate 256 (0, 0, false, []), 0, 0⟩)] }) (·.wr (Reg.ACQ_WG_CFG 7) 0x1100)
     let w := tget WaveGrp.start s.dev.acq.groups 7
     let k := 256 * s.dev.fld (Reg.ACQ_WG_CFG 7) 15 12
     0 < k ∧ k ≤ w.got.length ∧ s.dev.acqOn = true ∧ s.dev.acq.paused = false ∧
     s.dev.acqUnsent + 64 + 4 * (s.dev.fld (Reg.ACQ_WG_CFG 7) 11 8) * k ≤ lookback - 16 * 1048576) ∧
    (upWith 6 (·.wr (Reg.ACQ_WG_CFG 7) 0)).dev.fld (Reg.ACQ_WG_CFG 7) 15 12 = 0 := by decide +kernel

def job : CmpJob := ⟨2, 0, 0, 0, 0, 0, 0, [], 0, 0, 0, 0, false⟩
def compressing (f : Cmp → Cmp) : State := upWith 6 (fun d =>
  { (((d.wr Reg.CMP_CTL 1).wr Reg.CMP_SQ_SIZE 16).wr Reg.CMP_CQ_SIZE 16).wr Reg.CMP_SQ_HEAD 1 with host := { d.host with linkUp := true }, cmp := f d.cmp })

theorem meets_CompressionJobs :
    (let s := compressing id
     let room := ringRoom (s.dev.fld Reg.CMP_CQ_SIZE 12 0) (s.dev.fld Reg.CMP_CQ_HEAD 11 0) (s.dev.fld Reg.CMP_CQ_TAIL 11 0)
     s.dev.cmpHostRuns = true ∧ s.dev.dma = true ∧ s.dev.fld Reg.CMP_SQ_HEAD 11 0 ≠ s.dev.fld Reg.CMP_SQ_TAIL 11 0 ∧ s.dev.cmp.sqIndex - s.dev.cmp.nextOut < room ∧
     s.dev.cmp.entries.find? (fun x => x.1 == s.dev.cmp.nextOut) = none) ∧
    (up 6).dev.cmpHostRuns = false ∧ (((up 6).dev.cmpW 1).eng 1).job = none ∧
    (((compressing (fun c => { c with w1 := { c.w1 with e1 := ⟨some (job, 0), false, 0⟩ } })).dev.cmpW 1).eng 1).job = some (job, 0) ∧ job.src = 2 ∧
    (let s := compressing (fun c => { c with entries := [(0, 0, 0, 0, 0)] })
     s.dev.cmp.entries.find? (fun x => x.1 == s.dev.cmp.nextOut) = some (0, 0, 0, 0, 0) ∧ ringSizeOk (s.dev.fld Reg.CMP_CQ_SIZE 12 0) = true ∧
     0 < ringRoom (s.dev.fld Reg.CMP_CQ_SIZE 12 0) (s.dev.fld Reg.CMP_CQ_HEAD 11 0) (s.dev.fld Reg.CMP_CQ_TAIL 11 0) ∧
     s.dev.gateOpen s.dev.active 2164 s.dev.cmp.nextOut = true) := by decide +kernel

/-! Hypotheses of the statements about time. -/

/-- After the first lock, with a source and a state for domain 0. -/
def timed (src : Nat) (st : DomSt) (f : Dev → Dev) : State := upWith 6 (fun d =>
  f { d.wrN (Reg.TIM_DOM_CFG 0) src with tim := { d.tim with lockedOnce := true, domA := { d.tim.domA with st := st, val := 5 * unitSec } } })
/-- A frame of the Oznis link with a payload. -/
def ozFrame (typ : Nat) (p : List Byte) : List Byte :=
  let h := be 2 0xA7E1 ++ be 1 1 ++ be 1 typ ++ be 2 p.length ++ zeros 2 ++ be 4 1 ++ be 4 0x22 ++ p
  h ++ be 4 (crc32c h)

theorem meets_DomainStates :
    ((timed 4 .free id).dev.dom 0).st = .free ∧ ((timed 4 .holdover id).dev.dom 0).st = .holdover ∧ ((timed 4 .lost id).dev.dom 0).st = .lost ∧
    (let d := (timed 4 .acquire id).dev
     let m := d.dom 0
     let ofs (v : Nat) : Nat := (((v + 0 * m.incr : Nat) : Int) - d.domAhead 0).natAbs
     m.st = .acquire ∧ 1000000 * unitNs < ofs (m.val + 1000000 * unitNs + 1) ∧ ofs (m.val + 1000000 * unitNs) ≤ 1000000 * unitNs ∧
     ofs (m.val + d.lockThr 0) ≤ d.lockThr 0 ∧ d.lockThr 0 < ofs (m.val + d.lockThr 0 + 1) ∧ d.lockThr 0 + 1 ≤ 1000000 * unitNs ∧ m.lockCnt < 15) ∧
    15 ≤ ((timed 4 .acquire (fun d => d.modDom 0 (fun m => { m with lockCnt := 15 }))).dev.dom 0).lockCnt ∧
    (let d := (timed 4 .locked (fun d => d.modDom 0 (fun m => { m with badCnt := 3, incrs := [1, 3] }))).dev
     let m := d.dom 0
     let ofs (v : Nat) : Nat := (((v + 0 * m.incr : Nat) : Int) - d.domAhead 0).natAbs
     m.st = .locked ∧ 3 ≤ m.badCnt ∧ m.incrs ≠ [] ∧ ((timed 4 .locked id).dev.dom 0).badCnt < 3 ∧
     4 * d.lockThr 0 < ofs (m.val + 4 * d.lockThr 0 + 1) ∧ ofs (m.val + 4 * d.lockThr 0) ≤ 4 * d.lockThr 0) ∧
    (let s := timed 4 .holdover (fun d => d.wr (Reg.TIM_DOM_HOLD_LIM 0) 1)
     ticksSec (s.dev.rdN (Reg.TIM_DOM_HOLD_LIM 0)) ≤ (s.dev.tick 400000000).tim.clk - ((s.dev.tick 400000000).dom 0).since ∧
     (s.dev.tick 399999999).tim.clk - ((s.dev.tick 399999999).dom 0).since < ticksSec (s.dev.rdN (Reg.TIM_DOM_HOLD_LIM 0))) := by decide +kernel

/-- A domain follows the twin, to which a request of 7 ns went out on lane 1, which is up. -/
def twinTimed : State := timed 4 .free (fun d => { d with tim := { d.tim with twinReq := some 7 }, units := { d.units with lane1 := { d.units.lane1 with up := true } } })

theorem meets_TwinTimeExchange :
    twinTimed.dev.tim.lockedOnce = true ∧ ¬ (twinTimed.dev.units.paired = true ∧ twinTimed.dev.activeTwin = true) ∧ twinTimed.dev.domSrc 0 = 4 ∧
    (twinTimed.dev.lane 1).up = true ∧ (twinTimed.dev.lane 0).up = false ∧ (timed 1 .free id).dev.domSrc 0 ≠ 4 ∧ (timed 1 .free id).dev.domSrc 1 ≠ 4 ∧
    ((twinTimed.dev.tick 0).ozReceive 1 (ozFrame 2 (timeBody 0 7 0 0))).1 = some (2, 0, 1, timeBody 0 7 0 0) ∧ byteAt (timeBody 0 7 0 0) 0 = 0 ∧
    ((twinTimed.dev.tick 0).ozReceive 1 (ozFrame 2 (timeBody 1 7 8 9))).1 = some (2, 0, 1, timeBody 1 7 8 9) ∧ byteAt (timeBody 1 7 8 9) 0 ≠ 0 ∧
    twinTimed.dev.tim.twinReq = some (beAt (timeBody 1 7 8 9) 8 8) ∧ (timed 4 .free id).dev.tim.twinReq ≠ some (beAt (timeBody 1 7 8 9) 8 8) := by decide +kernel

/-- Input 1 enabled, and the source of domain 0, which is FREE. -/
def pps : State := timed (2 + 8) .free (fun d => (d.wr (Reg.TIM_PPS_CFG 1) 1).modPps 1 (fun p => { p with armedAt := some 0, last := some 9 }))

theorem meets_PpsInputs :
    pps.canWrite .pcie (Reg.TIM_PPS_TOD_ARM 1) ∧ bit 1 0 = true ∧ bit 2 0 = false ∧ pps.dev.tim.lockedOnce = true ∧ (pps.dev.loop 4 1).mode = 0 ∧
    pps.dev.flag (Reg.TIM_PPS_CFG 1) 0 = true ∧ (up 6).dev.flag (Reg.TIM_PPS_CFG 1) 0 = false ∧ (pps.dev.pps 1).armedAt = some 0 ∧
    ticksUs 10 ≤ max pps.dev.tim.clk 4000 - 0 ∧ ¬ (ticksUs 10 ≤ max pps.dev.tim.clk 3999 - 0) ∧ (pps.dev.pps 1).last.map (· + 1) = some 10 ∧
    pps.dev.domSrc 0 = 2 ∧ pps.dev.domPort 0 = 1 ∧ (pps.dev.dom 0).st = .free ∧ (∀ j < 2, (timed 1 .free id).dev.domSrc j ≠ 2) := by decide +kernel

def irig (ok : Bool) : IrigFrame := ⟨26, 1, 0, 0, 0, 0, none, 0, ok, 0⟩
def irigAt (code year : Nat) (last : Option Nat) : State := timed 3 .free (fun d =>
  { (d.wrN Reg.TIM_IRIG_CFG code).wrN Reg.TIM_IRIG_YEAR year with tim := { d.tim with irig := last } })
def irigTai (s : State) : Nat := (((daysTo 2026 * 86400 : Nat) : Int) + sx 16 (s.dev.rdN Reg.TIM_LEAP_OFS)).toNat

theorem meets_IrigFrames :
    (irigAt 1 0 none).dev.fld Reg.TIM_IRIG_CFG 1 0 = 1 ∧ (irig false).parityOk = false ∧ (∀ k < 2, (timed 1 .free id).dev.domSrc k ≠ 3) ∧
    (irigAt 0 0 none).dev.fld Reg.TIM_IRIG_CFG 1 0 = 0 ∧ (irigAt 0 0 none).dev.fld Reg.TIM_IRIG_YEAR 15 0 = 0 ∧
    (irigAt 0 2026 none).dev.fld Reg.TIM_IRIG_YEAR 15 0 = 2026 ∧ (irigAt 1 0 none).dev.tim.irig = none ∧
    (let s := irigAt 1 0 (some 7); s.dev.tim.irig = some 7 ∧ 7 ≠ irigTai s - 1) ∧
    (let s := irigAt 1 0 (some (irigTai (irigAt 1 0 none) - 1)); s.dev.tim.irig = some (irigTai s - 1)) ∧
    (irigAt 1 0 none).dev.tim.lockedOnce = true ∧ (irigAt 1 0 none).dev.domSrc 0 = 3 ∧ ((irigAt 1 0 none).dev.dom 0).st = .free ∧
    (irigAt 1 0 none).dev.ing.leapAt = none ∧ ((irigAt 1 0 none).dev.dom 0).missed < 2 ∧ (irigAt 1 0 none).dev.domSrc 1 ≠ 3 := by decide +kernel

/-- Domain 1 LOCKED since tick 0 and preferred, domain 0 selected. -/
def switching (f : Dev → Dev) : State := timed 1 .locked (fun d => f
  { (d.wr Reg.TIM_CTL 3) with tim := { d.tim with sel := 0, domB := { d.tim.domB with st := .locked, since := 0, val := 5 * unitSec } } })

theorem meets_DomainSwitching :
    (switching id).canWrite .pcie Reg.TIM_CTL ∧ (switching id).dev.tim.refused = none ∧
    (switching (fun d => { d with tim := { d.tim with refused := some 1 } })).dev.tim.refused = some 1 ∧
    (let s := switching id
     s.dev.fld Reg.TIM_CTL 0 0 = 1 ∧ s.dev.flag Reg.TIM_CTL 1 = true ∧ s.dev.tim.lockedOnce = true ∧ s.dev.tim.sel ≠ 1 ∧ (s.dev.dom 1).st = .locked ∧
     ticksSec 60 ≤ max s.dev.tim.clk 24000000000 - (s.dev.dom 1).since ∧ s.dev.tim.pending = none ∧ s.dev.tim.refused = none ∧
     ¬ (ticksSec 60 ≤ max s.dev.tim.clk 23999999999 - (s.dev.dom 1).since)) ∧
    (let s := switching (fun d => { d with tim := { d.tim with slew := some 0, out := 5 * unitSec } })
     s.dev.tim.slew = some 0 ∧ (s.dev.tick 0).resid.natAbs < nomIncr) ∧
    (let s := switching (fun d => { d with tim := { d.tim with slew := some 0, out := 4 * unitSec } })
     s.dev.tim.slew = some 0 ∧ nomIncr ≤ (s.dev.tick 0).resid.natAbs) ∧
    (let d := (switching (fun d => { d with tim := { d.tim with pending := some (1, 0), out := 4 * unitSec } })).dev
     d.tim.pending = some (1, 0) ∧ d.rdN Reg.TIM_SWITCH_MAX_OFS * unitNs < (((d.dom 1).val : Int) - (d.tim.out : Int)).natAbs) ∧
    (let d := (switching (fun d => { d with tim := { d.tim with pending := some (1, 0), out := 5 * unitSec } })).dev
     (((d.dom 1).val : Int) - (d.tim.out : Int)).natAbs ≤ d.rdN Reg.TIM_SWITCH_MAX_OFS * unitNs) ∧
    (let d := (switching (fun d => { d with tim := { d.tim with pending := some (1, 2), out := 5 * unitSec } })).dev
     d.tim.pending = some (1, 2) ∧ d.returnDue 1 = true ∧ (((d.dom 1).val : Int) - (d.tim.out : Int)).natAbs ≤ d.rdN Reg.TIM_SWITCH_MAX_OFS * unitNs ∧
     (((d.dom 1).val : Int) - ((4 * unitSec : Nat) : Int)).natAbs > d.rdN Reg.TIM_SWITCH_MAX_OFS * unitNs) ∧
    (let d := (switching (fun d => { (d.wr Reg.TIM_CTL 1) with tim := { d.tim with pending := some (1, 2) } })).dev
     d.tim.pending = some (1, 2) ∧ d.returnDue 1 = false) := by decide +kernel

/-- A deletion announced by the host, at an output time in seconds. -/
def leaping (sec : Nat) (f : Dev → Dev) : State := timed 1 .locked (fun d => f { d.wr Reg.TIM_LEAP_CTL 3 with tim := { d.tim with out := sec * unitSec } })

theorem meets_LeapSecondsAndTimeShown :
    (let s := leaping 0 id
     let e := s.dev.tick 0
     e.leapPending = some true ∧ s.dev.tim.lockedOnce = true ∧ s.dev.tim.leapPend = false ∧ e.sec + 60 < e.leapInstant true) ∧
    (let s := leaping ((leaping 0 id).dev.leapInstant true - 60) id
     (s.dev.tick 0).leapPending = some true ∧ (s.dev.tick 0).leapInstant true ≤ (s.dev.tick 0).sec + 60) ∧
    (up 6).dev.leapPending = none ∧
    (let s := leaping 100 (fun d => { d with tim := { d.tim with leapAt := some (100, true), leapPend := true } })
     s.dev.tim.leapAt = some (100, true) ∧ s.dev.tim.leapPend = true ∧ (s.dev.tick 0).leapPending = some true ∧ 100 ≤ (s.dev.tick 0).sec ∧ ¬ (101 ≤ (s.dev.tick 0).sec)) ∧
    (let s := leaping 100 (fun d => { d with tim := { d.tim with leapAt := some (100, false), leapPend := true } })
     s.dev.tim.leapAt = some (100, false) ∧ (s.dev.tick 0).leapPending ≠ some false) ∧
    (up 6).dev.tim.leapAt = none ∧
    (let s := leaping 100 (fun d => { d with tim := { d.tim with leapOcc := some 100 } }); s.dev.tim.leapOcc = some 100 ∧ 100 ≤ (s.dev.tick 0).sec) ∧
    (up 6).dev.tim.leapOcc = none ∧ (up 6).canWrite .spi Reg.TIM_SNAP := by decide +kernel

/-- Port 7 is a master with a link and a frame on the wire. -/
def master : State := timed 1 .locked (fun d => (d.wr (Reg.TIM_PORT_PTP_CFG 7) 2).modPort 7 (fun x => { x with link := true, cur := some (0, ⟨[], 0, 0, false, none⟩) }))

theorem meets_PtpMessages :
    (master.dev.port 7).cur ≠ none ∧ (master.dev.port 7).link = true ∧ (master.dev.port 7).lpiAt = none ∧ master.dev.ptpRole 7 = 2 ∧
    (master.dev.port 7).txq.filter (fun x => x.1 == 6) = [] ∧ (master.dev.wing (portOwner 7)).role ≠ .faulted ∧ master.dev.tim.lockedOnce = true ∧ (up 6).dev.ptpRole 7 ≠ 2 ∧ (up 6).dev.ptpRole 7 ≠ 1 := by decide +kernel

theorem meets_PtpMessages_lengths :
    let e := master.dev.tick 0
    let m := e.modPtp 7 (fun x => { x with seqSync := (x.seqSync + 1) % 65536, seqAnnounce := (x.seqAnnounce + 1) % 65536 })
    let r := e.modPtp 7 (fun x => { x with seqPdelay := (x.seqPdelay + 1) % 65536, reqAt := none })
    (padTo 60 (m.ptpFrame 7 false false (m.announceMsg 7))).length + 4 ≤ master.dev.maxFrm 7 ∧
    (padTo 60 (m.ptpFrame 7 true false (m.syncMsg 7))).length + 4 ≤ master.dev.maxFrm 7 ∧
    (padTo 60 (r.ptpFrame 7 true true (r.ptpHdr 7 2 54 0 (r.ptp 7).seqPdelay 5 ++ zeros 20))).length + 4 ≤ master.dev.maxFrm 7 := by
  have hm : master.dev.maxFrm 7 = 1528 := by decide +kernel
  have frame (d : Dev) (x y : Bool) (b : Bytes) (h : b.length ≤ 300) : (padTo 60 (d.ptpFrame 7 x y b)).length + 4 ≤ 1528 := by
    have hf : (d.ptpFrame 7 x y b).length ≤ 318 := by
      simp only [Dev.ptpFrame, show ¬ (7 < 4) from by omega, decide_false, Bool.and_false, Bool.false_eq_true, if_false, List.length_append]
      have := length_ethHdr (if y = true then 0x0180C200000E else 0x011B19000000) (d.mac 7)
        (if bits (d.rd (Reg.TIM_PORT_PTP_CFG 7)) 15 4 = 0 then none
          else some (bits (d.rd (Reg.TIM_PORT_PTP_CFG 7)) 15 4, bits (d.rd (Reg.TIM_PORT_PTP_CFG 7)) 18 16)) 0x88F7
      omega
    rw [length_padTo]; omega
  have hdr (d : Dev) (a b c e f : Nat) : (d.ptpHdr 7 a b c e f).length = 34 := by simp [Dev.ptpHdr, Dev.portId]
  rw [hm]
  refine ⟨frame _ _ _ _ ?_, frame _ _ _ _ ?_, frame _ _ _ _ ?_⟩
  · simp only [Dev.announceMsg, List.length_append, hdr, length_zeros, length_be, List.length_cons, List.length_nil]
    have := length_ptpTlvs (Dev.flag ((master.dev.tick 0).modPtp 7 (fun x => { x with seqSync := (x.seqSync + 1) % 65536, seqAnnounce := (x.seqAnnounce + 1) % 65536 }))
      (Reg.TIM_DOM_CFG ((Dev.ptpDom ((master.dev.tick 0).modPtp 7 (fun x => { x with seqSync := (x.seqSync + 1) % 65536, seqAnnounce := (x.seqAnnounce + 1) % 65536 })) 7).getD
        ((master.dev.tick 0).modPtp 7 (fun x => { x with seqSync := (x.seqSync + 1) % 65536, seqAnnounce := (x.seqAnnounce + 1) % 65536 })).tim.sel)) 6)
    omega
  · simp only [Dev.syncMsg, List.length_append, hdr, length_zeros]; omega
  · simp only [List.length_append, hdr, length_zeros]; omega

/-- A DEVICE record at a rate of 10 wingbeats per second. -/
def rated (k : Nat) (f : Dev → Dev) : State := upWith k (fun d => f { d with txn := { d.txn with cfg := [⟨0x0100, 0, be 2 10 ++ be 1 50 ++ be 1 1 ++ zeros 60⟩] } })

/-- Such a device whose output time is `o` past its next boundary. -/
def atEdge (o : Int) (f : Dev → Dev) : State := rated 6 (fun d => f
  (let d : Dev := { d with grid := { d.grid with sec := 3, k := 9 } }; { d with tim := { d.tim with out := ((4 * unitSec : Nat) + o : Int).toNat } }))

theorem meets_WingbeatBoundaries :
    ((atEdge 0 id).dev.loop 3 0).mode = 0 ∧ (atEdge 0 id).dev.rate = 10 ∧ (rated 2 id).dev.boot < 3 ∧ (up 6).dev.rate = 0 ∧
    (let s := atEdge 0 id
     s.dev.grid.trans = none ∧ s.dev.grid.k + 1 = s.dev.rate ∧ 3 ≤ s.dev.boot ∧ boundaryAt s.dev.rate (s.dev.grid.sec + 1) 0 ≤ (s.dev.tick 0).tim.out) ∧
    ((atEdge (-1) id).dev.tick 0).tim.out < boundaryAt 10 4 0 := by decide +kernel

/-- The commits of a boundary end without a reset, and with one where REVERT meets a slot that has no DEVICE record. -/
theorem meets_WingbeatBoundaries_resets :
    let c (s : State) : Bool := (((((({ s.dev.tick 0 with grid := ⟨4, 0, s.dev.grid.absolute, none, s.dev.grid.tqs⟩ } : Dev).boundaryCheck s.dev.wbSeq none).moveItems
      s.dev.wbSeq).boundaryClaim).performReady 65536).boundaryCommit (s.dev.tick 0)).1
    c (atEdge 0 id) = false ∧ c (atEdge 0 (fun d => { d with txn := { d.txn with revertReq := true } })) = true := by decide +kernel

def slot (n : Nat) : Slot9 := ⟨n, 0, 0, false, [], [], [], 0, 0⟩

theorem meets_SlowWindow :
    (∀ x ∈ (up 6).dev.roost.slow, ((up 6).dev.tick 0).slowDue x = false) ∧
    (let s := rated 6 (fun d => { d with roost := { d.roost with slow := [slot 1] }, grid := { d.grid with sec := 1000000 } })
     s.dev.roost.slow.filter (s.dev.tick 0).slowDue = [slot 1] ∧ s.dev.recOf 0x0C02 0x30 = none) ∧
    (up 6).dev.roost.exports = [] ∧
    (let s := upWith 6 (fun d => { d.wr Reg.ALN_EXP_SIZE 4096 with roost := { d.roost with exports := [(false, 1, zeros 8)] }, host := { d.host with linkUp := true } })
     s.dev.roost.exports = [(false, 1, zeros 8)] ∧ s.dev.gateOpen s.dev.active 2160 1 = false ∧
     8 ≤ ringRoom (s.dev.rdN Reg.ALN_EXP_SIZE) (s.dev.rdN Reg.ALN_EXP_HEAD) (s.dev.rdN Reg.ALN_EXP_TAIL) ∧ s.dev.dma = true) ∧
    (let s := upWith 6 (fun d => { d with units := { d.units with holder := some d.active, w0 := { d.units.w0 with role := .active }, twinRole := .active } })
     s.dev.gateOpen s.dev.active 2160 1 = true ∧ s.dev.dma = false) ∧
    (let s := upWith 6 (fun d => { d.wr Reg.ALN_EXP_SIZE 4096 with roost := { d.roost with exports := [(false, 1, zeros 4096)] } })
     s.dev.rdN Reg.ALN_EXP_SIZE ≠ 0 ∧ ringRoom (s.dev.rdN Reg.ALN_EXP_SIZE) (s.dev.rdN Reg.ALN_EXP_HEAD) (s.dev.rdN Reg.ALN_EXP_TAIL) < 4096) := by decide +kernel

/-! Hypotheses of the statements about the ports. -/

def ported (p : Nat) (f : Port → Port) (g : Dev → Dev) : State := upWith 6 (fun d => (g d).modPort p f)
def linked (p : Nat) (g : Dev → Dev) : State := ported p (fun x => { x with link := true, medium := true }) g
/-- A frame to the broadcast address with an EtherType and an opcode, in all `n` bytes. -/
def frameOf (n dst etype op quanta : Nat) : Bytes := fit n (be 6 dst ++ be 6 0x0200000000AA ++ be 2 etype ++ be 2 op ++ be 2 quanta)

theorem meets_FramesReceived :
    (up 6).dev.portLoop 7 = 0 ∧ ((up 6).dev.port 7).link = false ∧ ((linked 7 id).dev.port 7).link = true ∧ (linked 7 id).dev.portLoop 7 = 0 ∧
    (zeros 59).length + 4 < 64 ∧ ¬ ((zeros 60).length + 4 < 64) ∧ (linked 7 id).dev.maxFrm 7 < (zeros 1525).length + 4 ∧
    ¬ ((linked 7 id).dev.maxFrm 7 < (zeros 1524).length + 4) ∧
    (linked 7 id).dev.accepts 7 (beAt (frameOf 60 0x010000000001 0x0800 0 0) 0 6) 0 = false ∧
    (linked 7 id).dev.accepts 7 (beAt (frameOf 60 0xFFFFFFFFFFFF 0x0800 0 0) 0 6) 0 = true ∧ beAt (frameOf 60 0xFFFFFFFFFFFF 0x0800 0 0) 12 2 ≠ 0x8808 ∧
    (let s := linked 7 (fun d => { d with net := { d.net with rxq := [⟨0, 7, zeros 65532, 0⟩] } })
     65536 < sumN ((s.dev.net.rxq.filter (fun f => f.port == 7)).map (fun f => f.bytes.length + 4)) + 64) ∧
    (let s := linked 7 (fun d => { d with net := { d.net with rxq := [⟨0, 7, zeros 65468, 0⟩] } })
     sumN ((s.dev.net.rxq.filter (fun f => f.port == 7)).map (fun f => f.bytes.length + 4)) + 64 ≤ 65536) ∧
    beAt (frameOf 60 0xFFFFFFFFFFFF 0x8808 0x0101 0) 14 2 = 0x0101 ∧
    (let b := frameOf 60 0x0180C2000001 0x8808 1 1
     let s := linked 3 (·.wr (Reg.NET_PORT_CFG 3) 0x40)
     beAt b 12 2 = 0x8808 ∧ beAt b 14 2 = 1 ∧ beAt b 0 6 = 0x0180C2000001 ∧ 0 < beAt b 16 2 ∧ s.dev.flag (Reg.NET_PORT_CFG 3) 6 = true ∧ s.dev.portLoop 3 = 0 ∧
     (s.dev.port 3).ignoreTo = none ∧ (s.dev.port 3).pauseTo = none ∧ (s.dev.port 3).link = true) := by decide +kernel

/-- A frame of 70 bytes with a redundancy trailer of number 9 for LAN A. -/
def redundant : Bytes := withRct (frameOf 64 0xFFFFFFFFFFFF 0x0800 0 0) 9 0xA
/-- A full duplicate table, and an announced lag of an ingress queue. -/
theorem meets_MergedRelease_full :
    (∀ n : Nat, (List.replicate n (⟨1, 0, 0, 0⟩ : PrpEntry)).length = n ∧ (List.replicate n (⟨1, 0, 0, 0⟩ : PrpEntry)).find? (fun x => x.mac == beAt redundant 6 6) = none) ∧
    (∀ x ∈ [((1 : Nat), (2 : Nat), (0 : Nat))], x.1 < 2 ∧ x.2.1 < 3) := by
  have h : ((1 : Nat) == beAt redundant 6 6) = false := by decide +kernel
  simp [h]

def prping (l : List PrpEntry) : State := upWith 6 (fun d =>
  { d.wr Reg.NET_CTL 3 with net := { d.net with rxq := [⟨5, 0, redundant, 5⟩], prp := l }, tim := { d.tim with out := 5 + 500 * unitNs } })

theorem meets_MergedRelease :
    nextRelease (prping []).dev.net.rxq = some ⟨5, 0, redundant, 5⟩ ∧ 5 + 500 * unitNs ≤ ((prping []).dev.tick 0).tim.out ∧
    nextRelease (up 6).dev.net.rxq = none ∧ (up 6).dev.pairActive 7 = false ∧ rctOf (frameOf 64 0xFFFFFFFFFFFF 0x0800 0 0) = none ∧
    (prping []).dev.pairActive 0 = true ∧ rctOf redundant = some (9, 0xA) ∧
    (prping []).dev.net.prp.find? (fun x => x.mac == beAt redundant 6 6) = none ∧
    (prping [⟨0x0200000000AA, 8, 1, 0⟩]).dev.net.prp.find? (fun x => x.mac == beAt redundant 6 6) = some ⟨0x0200000000AA, 8, 1, 0⟩ ∧
    0 < prpDist 9 8 ∧ (prpDist 9 9 ≤ 0 ∧ -64 < prpDist 9 9 ∧ Nat.testBit 1 (prpDist 9 9).natAbs = true) ∧
    (prpDist 9 72 ≤ 0 ∧ -64 < prpDist 9 72 ∧ Nat.testBit 1 (prpDist 9 72).natAbs = false) ∧ prpDist 9 73 ≤ -64 := by decide +kernel

theorem meets_LinkChanges :
    (up 6).dev.isSgmii 7 = false ∧ (up 6).dev.portLoop 7 = 0 ∧ (upWith 6 (·.wr (Reg.NET_PORT_CFG 7) 1)).dev.flag (Reg.NET_PORT_CFG 7) 0 = true ∧
    (linked 3 (·.wr (Reg.NET_PORT_CFG 3) 0x21)).dev.isSgmii 3 = true ∧ (upWith 6 (·.wr (Reg.NET_PORT_CFG 3) 0x21)).dev.isSgmii 3 = true ∧
    ((upWith 6 (·.wr (Reg.NET_PORT_CFG 3) 0x21)).dev.port 3).link = false ∧ (upWith 6 (·.wr (Reg.NET_PORT_CFG 3) 0x21)).dev.flag (Reg.NET_PORT_CFG 3) 0 = true ∧
    ((up 6).dev.port 7).plca = false ∧ (up 6).dev.units.repairing ≠ some (portOwner 7) ∧ ((up 6).dev.port 7).link = false ∧ ((linked 7 id).dev.port 7).link = true ∧
    (upWith 6 (·.wr (Reg.NET_PORT_CFG 7) 0)).dev.flag (Reg.NET_PORT_CFG 7) 0 = false := by decide +kernel

def tx (n : Nat) : TxFrame := ⟨zeros n, 0, 0, false, none⟩
def sending (f : Port → Port) : State := ported 7 (fun x => f { x with link := true, medium := true, cur := some (7, tx 60) }) id

theorem meets_FramesSent :
    (let s := sending (fun x => { x with txq := [(0, tx 61), (7, tx 62)] })
     s.dev.portLoop 7 = 0 ∧ (s.dev.port 7).cur = some (7, tx 60) ∧ (s.dev.port 7).backTo = none ∧ (s.dev.port 7).txq ≠ [] ∧ (s.dev.port 7).follow = none ∧ (s.dev.port 7).plca = false ∧ (tx 62).ptp = 0 ∧ (s.dev.port 7).link = true ∧
     (s.dev.port 7).pauseTo = none ∧ (s.dev.port 7).wakeTo = none ∧ takeFrame (s.dev.port 7).txq (topQueue (s.dev.port 7).txq) = some (tx 62, [(0, tx 61)])) ∧
    (let s := sending (fun x => { x with coll := 14 })
     (s.dev.port 7).txq = [] ∧ (s.dev.port 7).plca = false ∧ (s.dev.port 7).coll < 15) ∧
    15 ≤ ((sending (fun x => { x with coll := 15 })).dev.port 7).coll ∧ ((sending (fun x => { x with backTo := some 9 })).dev.port 7).backTo = some 9 := by decide +kernel

/-- Port 2 in SGMII at 1 Gb/s with low-power idle allowed. -/
def idle2 : State := upWith 6 (fun d => ((d.wr (Reg.NET_PORT_CFG 2) 0xA1).wr (Reg.NET_PORT_EEE_CFG 2) 1).modPort 2 (fun x =>
  { x with link := true, medium := true, speed := 2 }))

theorem meets_PauseIdleAndPlca :
    (let s := ported 3 (fun x => { x with pauseTo := some 800 }) (·.wr (Reg.NET_PORT_PAUSE_CFG 3) 2)
     (s.dev.port 3).pauseTo = some 800 ∧ (s.dev.port 3).txq = [] ∧ 800 ≤ (s.dev.tick 800).tim.clk ∧ (s.dev.tick 799).tim.clk < 800 ∧
     ticksUs (bits (s.dev.rd (Reg.NET_PORT_PAUSE_CFG 3)) 15 0) ≤ (s.dev.tick 800).tim.clk - (s.dev.port 3).holdAt ∧
     (s.dev.tick 799).tim.clk - (s.dev.port 3).holdAt < ticksUs (bits (s.dev.rd (Reg.NET_PORT_PAUSE_CFG 3)) 15 0)) ∧
    ((ported 3 (fun x => { x with ignoreTo := some 9 }) id).dev.port 3).ignoreTo = some 9 ∧
    (idle2.dev.isSgmii 2 = true ∧ (idle2.dev.port 2).link = true ∧ idle2.dev.speedCode 2 ≠ 0 ∧ idle2.dev.flag (Reg.NET_PORT_CFG 2) 7 = true ∧
     (idle2.dev.port 2).txq = [] ∧ (idle2.dev.port 2).cur = none ∧ (idle2.dev.port 2).lpiAt = none ∧ (idle2.dev.port 2).wakeTo = none ∧
     ticksUs (idle2.dev.fld (Reg.NET_PORT_EEE_CFG 2) 15 0) ≤ (idle2.dev.tick 400).tim.clk - (idle2.dev.port 2).emptyAt ∧
     ¬ (ticksUs (idle2.dev.fld (Reg.NET_PORT_EEE_CFG 2) 15 0) ≤ (idle2.dev.tick 399).tim.clk - (idle2.dev.port 2).emptyAt)) ∧
    ((ported 2 (fun x => { x with wakeTo := some 9 }) id).dev.port 2).wakeTo = some 9 ∧
    ((ported 7 (fun x => { x with plca := true }) id).dev.port 7).plca = true ∧ ((up 6).dev.port 7).plca = false ∧
    (let s := linked 7 (·.wr (Reg.NET_PORT_CFG 7) 0x100); (s.dev.port 7).link = true ∧ s.dev.flag (Reg.NET_PORT_CFG 7) 8 = true) := by decide +kernel

/-! Hypotheses of the statements about queues, work, faults, power and wear. -/

def word : QItem := ⟨false, 2, [1, 2], 0, 0, 3, false⟩
/-- Queue 511 with a configuration, a capacity and contents on wing 1. -/
def queueing (cfg cap : Nat) (f : Queue → Queue) (g : Dev → Dev) : State := upWith 6 (fun d =>
  g (((d.wrN (Reg.QUE_Q_CFG 511) cfg).wrN (Reg.QUE_Q_CAP 511) cap).modQueue 1 511 f))
def pooled (d : Dev) : Dev := { d with txn := { d.txn with cfg := [⟨0x0D00, 511, zeros 35 ++ [1] ++ zeros 20⟩] } }

theorem meets_QueuePushes :
    (queueing 0 4 id id).dev.qEn 511 = false ∧
    (let s := queueing 3 4 id pooled
     s.dev.qEn 511 = true ∧ s.dev.qCredit 511 = true ∧ tget 0 (s.dev.queue 1 511).used (3 % 4) < s.dev.pool 511 3) ∧
    (let s := queueing 3 4 (fun x => { x with used := [(3, 1)] }) pooled; s.dev.pool 511 3 ≤ tget 0 (s.dev.queue 1 511).used (3 % 4)) ∧
    (let s := queueing 1 4 (fun x => { x with items := [word, word] }) id
     s.dev.qCredit 511 = false ∧ s.dev.qVserv 511 = false ∧ (s.dev.queue 1 511).occ + 1 ≤ s.dev.fld (Reg.QUE_Q_CAP 511) 16 0 - 1) ∧
    (let vd (s : State) := ((s.dev.queue 1 511).vdepth.serve (s.dev.qServPs 511) (s.dev.tick 0).tim.out).n
     let fits (s : State) := (s.dev.queue 1 511).occ + 1 ≤ s.dev.fld (Reg.QUE_Q_CAP 511) 16 0 - 1
     let room := queueing 9 4 id (·.wr (Reg.QUE_Q_VCAP 511) 1)
     let deep := queueing 9 4 (fun x => { x with vdepth := ⟨1, 0⟩ }) (fun d => (d.wr (Reg.QUE_Q_VCAP 511) 1).wr (Reg.QUE_Q_VSERV 511) 65535)
     let slots := queueing 9 4 (fun x => { x with items := [word, word, word] }) (·.wr (Reg.QUE_Q_VCAP 511) 1)
     room.dev.qVserv 511 = true ∧ vd room < room.dev.fld (Reg.QUE_Q_VCAP 511) 16 0 ∧ fits room ∧
     deep.dev.qVserv 511 = true ∧ ¬ (vd deep < deep.dev.fld (Reg.QUE_Q_VCAP 511) 16 0) ∧
     slots.dev.qVserv 511 = true ∧ vd slots < slots.dev.fld (Reg.QUE_Q_VCAP 511) 16 0 ∧ ¬ fits slots ∧ slots.dev.qCredit 511 = false ∧
     (slots.dev.wing 1).role ≠ .faulted) ∧
    (let s := queueing 1 4 (fun x => { x with items := [word, word, word] }) id
     ¬ ((s.dev.queue 1 511).occ + 1 ≤ s.dev.fld (Reg.QUE_Q_CAP 511) 16 0 - 1) ∧ (s.dev.queue 1 511).items.getLast? = some word ∧ word.gap = false) ∧
    ((queueing 1 4 (fun x => { x with items := [gapItem 1 0 0] }) id).dev.queue 1 511).items.getLast? = some (gapItem 1 0 0) ∧ (gapItem 1 0 0).gap = true ∧
    ((queueing 1 4 (fun x => { x with skip := 1 }) id).dev.queue 1 511).skip = 1 ∧
    (let s := queueing 3 4 (fun x => { x with skip := 1, held := some 3 }) id
     (s.dev.queue 1 511).skip = 1 ∧ (s.dev.queue 1 511).held = some 3 ∧ s.dev.qCredit 511 = true) ∧ { word with words := [1] }.words.length < { word with words := [1] }.len := by
  decide +kernel

theorem meets_QueuePopsAndCommands :
    (let x := (up 6).dev.queue 1 511; x.abort = false ∧ x.items = []) ∧ ((queueing 1 4 (fun x => { x with abort := true }) id).dev.queue 1 511).abort = true ∧
    (let s := queueing 1 4 (fun x => { x with items := [word] }) id
     (s.dev.queue 1 511).items = word :: [] ∧ word.visible (s.dev.qCt 511) = true ∧ word.len ≤ word.read + ((word.words.drop word.read).take 2).length ∧
     ¬ (word.len ≤ word.read + ((word.words.drop word.read).take 1).length) ∧ s.canWrite .pcie Reg.QUE_CMD ∧ s.dev.qAcc 511 = false ∧
     s.dev.flag (Reg.QUE_Q_CFG 511) 4 = false) ∧
    bits 511 8 0 = 511 ∧ bits 192 8 0 = 192 ∧ (queueing 5 4 id id).dev.qAcc 511 = true ∧
    (let s := queueing 17 4 (fun x => { x with items := [word] }) (·.modQueue 0 511 (fun x => { x with items := [word] }))
     s.dev.qOn 511 = true ∧ s.dev.flag (Reg.QUE_Q_CFG 511) 4 = true ∧ ∀ w < 2, (s.dev.queue w 511).items = word :: [] ∧ word.visible (s.dev.qCt 511) = true) ∧
    (let s := queueing 17 4 id id; s.dev.qOn 511 = true ∧ s.dev.flag (Reg.QUE_Q_CFG 511) 4 = true ∧ ∀ w < 2, (s.dev.queue w 511).items = []) ∧
    (queueing 1 4 id id).dev.qOn 511 = true ∧ (queueing 1 4 id id).dev.flag (Reg.QUE_Q_CFG 511) 4 = false ∧ (queueing 0 4 id id).dev.qOn 511 = false ∧
    (queueing 5 4 id id).dev.qOn 511 = true ∧ bits 67 8 0 = 67 ∧ bits 68 8 0 = 68 ∧ (up 6).dev.hostFrames 1 = [] ∧
    (upWith 6 (fun d => { d with ing := { d.ing with hostq := [(1, [7])] } })).dev.hostFrames 1 = [7] :: [] := by
  decide +kernel

def work (id' : Nat) : Item := ⟨id', 0x13, 1, 0, false, 0, 5, 0, 0, 3, 9, none, 0, 0, 0, 0, 0, 0, .digest 0⟩
def working (w : Nat) (f : WSched → WSched) : State := upWith 6 (·.modWs w f)

theorem meets_WorkItems :
    (let s := working 1 (fun y => { y with cores := [(15, ⟨work 4, 800, 0⟩)] })
     (s.dev.ws 1).cores.find? (fun c => c.1 == 15) = some (15, ⟨work 4, 800, 0⟩) ∧ (work 4).comp = false ∧ (work 4).host = none ∧ (s.dev.ws 1).crit = [] ∧
     (s.dev.ws 1).wait = [] ∧ (s.dev.ws 1).early = [] ∧ s.dev.roost.busy = [] ∧ s.dev.roost.ready = [] ∧ (∀ x ∈ (s.dev.ws 1).failed, x.id ≠ (work 4).id) ∧ (work 4).work = .digest 0 ∧ 1 ≠ s.dev.active ∧ (work 4).id ∉ (s.dev.ws 1).applied) ∧
    (work 4).id ∈ ((working 1 (fun y => { y with applied := [4] })).dev.ws 1).applied ∧ ((up 6).dev.ws 1).cores.find? (fun c => c.1 == 15) = none ∧
    (let s := working 1 (fun y => { y with wait := [work 4], since := [(4, 1)] })
     (s.dev.ws 1).wait.find? (fun y => y.id == (work 4).id) = some (work 4) ∧
     (s.dev.ws 1).sinceOf 4 = some 1 ∧ ticksUs (s.dev.fld Reg.SCH_PATIENCE 15 0) ≤ (s.dev.tick 26214401).tim.clk - 1 ∧ (work 4).id ∉ (s.dev.ws 1).impatient) ∧
    (let s := upWith 6 (fun d => (d.wr Reg.SCH_PATIENCE 2).modWs 1 (fun y => { y with since := [(4, 0)] }))
     ∀ c, (s.dev.ws 1).sinceOf (work 4).id = some c → (s.dev.tick 799).tim.clk - c < ticksUs (s.dev.fld Reg.SCH_PATIENCE 15 0)) ∧
    (up 6).dev.recOf 0x0C02 0x24 = none := by decide +kernel

/-- All cores busy on both wings, both at work, a route to list 3 of one item. -/
def busy : State :=
  let all : List (Nat × Running) := (List.range 16).map (fun k => (k, ⟨work (100 + k), 800, 0⟩))
  upWith 6 (fun d =>
    let d := (d.modWs 0 (fun y => { y with cores := all })).modWs 1 (fun y => { y with cores := all })
    { d with
      units := { d.units with w0 := { d.units.w0 with role := .active }, w1 := { d.units.w1 with role := .standby } }
      txn := { d.txn with cfg := [⟨0x0C01, 3, zeros 7 ++ [1] ++ zeros 8⟩, ⟨0x0C02, 0x24, [0, 0x24, 3] ++ zeros 29⟩] } })

theorem meets_WorkItems_timer :
    busy.dev.recOf 0x0C02 0x24 = some ([0, 0x24, 3] ++ zeros 29) ∧ ∀ w < 2, (busy.dev.ws w).crit = [] ∧ (busy.dev.ws w).idle 0 = [] ∧ busy.dev.runsWork w = true ∧
      ((busy.dev.ws w).wait.filter (fun y => y.list == byteAt ([0, 0x24, 3] ++ zeros 29) 2)).length < busy.dev.listCap (byteAt ([0, 0x24, 3] ++ zeros 29) 2) := by
  decide +kernel

def claimed (r : Role) : State := upWith 6 (fun d =>
  { d with units := { d.units with holder := some 1, w1 := { d.units.w1 with role := .active }, w0 := { d.units.w0 with role := r } } })

theorem meets_WingFaults :
    ((claimed .faulted).dev.wing 0).role = .faulted ∧ ((claimed .standby).dev.wing 1).role ≠ .faulted ∧ (claimed .standby).dev.units.holder = some 1 ∧
    ((claimed .standby).dev.wing 0).role = .standby ∧ ((claimed .resync).dev.wing 0).role ≠ .standby ∧ (claimed .resync).dev.twinSpeaks = false ∧
    (let s : State := { claimed .standby with dev := { (claimed .standby).dev with units := { (claimed .standby).dev.units with due := some ⟨2, 1, false, some 4⟩ } } }
     (s.dev.wing 0).role ≠ .faulted ∧ s.dev.units.holder = some (1 - 0) ∧ s.dev.units.due.isSome = true ∧ s.dev.twinSpeaks = false) := by decide +kernel

theorem meets_PowerAndWear :
    (∀ w < 2, ((up 6).dev.ws w).crit = [] ∧ ((up 6).dev.ws w).wait = []) ∧ (up 6).dev.flag Reg.PWR_STATUS 4 = false ∧ (1050 : Int) ≤ 1050 ∧ (1049 : Int) < 1050 ∧
    (upWith 6 (·.putB Reg.PWR_STATUS 4 true)).dev.flag Reg.PWR_STATUS 4 = true ∧ (up 6).dev.sch.hourSec < 3600 ∧
    (let s := upWith 6 (fun d => { d with sch := { d.sch with hourSec := 3600, hours := [0, 0], eq := [1800000000001, 1800000000000] } })
     3600 ≤ s.dev.sch.hourSec ∧ (500 * 3600 * 1000000 : Int) < (s.dev.sch.eq.getD 0 0 : Int) - (s.dev.sch.hours.getD 0 0 * 1000000 : Nat) ∧
     (s.dev.sch.eq.getD 1 0 : Int) - (s.dev.sch.hours.getD 1 0 * 1000000 : Nat) ≤ 500 * 3600 * 1000000 ∧
     (0 : Int) < (s.dev.sch.eq.getD 1 0 : Int) - (s.dev.sch.hours.getD 1 0 * 1000000 : Nat)) ∧
    ((up 6).dev.sch.eq.getD 0 0 : Int) - ((up 6).dev.sch.hours.getD 0 0 * 1000000 : Nat) ≤ 0 := by decide +kernel

/-! Hypotheses of the statements about views, ingress, streams and scale commands. -/

/-- A device in RUN with its gates open on wing 0. -/
def speaking (f : Dev → Dev) : State := upWith 6 (fun d => f
  { d with units := { d.units with holder := some d.active, w0 := { d.units.w0 with role := .active }, w1 := { d.units.w1 with role := .standby }, twinRole := .active, claim := 0x10 } })

theorem meets_ReadViews :
    (up 6).canRead Reg.ALN_ENT_STATUS ∧ (up 6).canRead Reg.OSC_SIG_STATUS ∧ (up 6).canRead Reg.ISL_GRP_STATUS ∧ (up 6).canRead (Reg.OSC_TRK_STATUS 15) ∧
    (up 6).canRead (Reg.OSC_TRK_SHAPE_PART 15) ∧ (up 6).canRead (Reg.ISL_CG_STATUS 1023) ∧ (up 6).canRead Reg.KEY_SLOT_INFO ∧ (up 6).canRead Reg.WNG_OUT_STATUS ∧
    (up 6).dev.slot 0 = none ∧
    (upWith 6 (fun d => { d with roost := { d.roost with ring := [(7, slot 7)] } })).dev.slot 7 = some (slot 7) ∧
    slotOf (up 6).dev.key.force 1 = none ∧ slotOf [(1, ⟨1, 1, 5, 0, 6, []⟩)] 1 = some ⟨1, 1, 5, 0, 6, []⟩ ∧
    (15 < 16 ∧ ¬ 16 ≤ 15) ∧ (decide (16 ≤ 2167 ∧ 2167 < 2176 ∧ 2167 ≠ 2167) = false) := by decide +kernel

theorem meets_IngressAndSlots :
    tget [] (up 6).dev.ing.gaps 2 = [] ∧
    tget [] (upWith 6 (fun d => { d with ing := { d.ing with gaps := [(2, [⟨1, 3, 4, true⟩]), (3, [⟨1, 5, 5, true⟩])] } })).dev.ing.gaps (3 + (up 6).dev.active) = ⟨1, 5, 5, true⟩ :: [] ∧
    (let d := (upWith 6 (fun d => { d with txn := { d.txn with cfg := [⟨0x0801, 9, zeros 7 ++ [5, 0, 1] ++ zeros 22⟩] } })).dev
     d.recs 0x0801 = [⟨0x0801, 9, zeros 7 ++ [5, 0, 1] ++ zeros 22⟩] ∧ beAt (zeros 7 ++ [5, 0, 1] ++ zeros 22) 8 2 % 2 = 1) ∧
    (up 6).canWrite .pcie Reg.ING_LOOKUP_ID_HI ∧ (up 6).dev.lookup 0 = none ∧
    (upWith 6 (fun d => { d with txn := { d.txn with cfg := [⟨0x0801, 9, zeros 7 ++ [5, 0, 1] ++ zeros 22⟩] } })).dev.lookup 5 = some 9 ∧
    (upWith 6 (fun d => { d with roost := { d.roost with ring := [(7, slot 7)] } })).dev.slot 7 = some (slot 7) := by decide +kernel

theorem meets_StreamCommands :
    (upWith 6 (·.wr (Reg.ALN_STR_CFG 63) 0)).dev.flag (Reg.ALN_STR_CFG 63) 0 = false ∧
    (let s := speaking (fun d => { d.wr (Reg.ALN_STR_CFG 63) 1 with txn := { d.txn with cfg := [⟨0x0903, 63 * 256 + 1, zeros 24⟩] } })
     s.dev.flag (Reg.ALN_STR_CFG 63) 0 = true ∧ s.dev.recOf 0x0903 (63 * 256 + 1) = some (zeros 24) ∧ s.dev.recOf 0x0903 (63 * 256 + 3) = none ∧
     s.dev.speaks = true ∧ s.dev.flag (Reg.ALN_STR_CFG 63) 1 = false) ∧
    (up 6).dev.speaks = false ∧ (up 6).dev.recOf 0x0903 (63 * 256 + 3) = none ∧
    (let s := speaking (fun d => (d.wr (Reg.ALN_GO_CFG 15) 1).modGoose 15 (fun g => { g with live := true, due := 5 }))
     (s.dev.gooseOf 15).live = true ∧ s.dev.flag (Reg.ALN_GO_CFG 15) 0 = true ∧ (s.dev.gooseOf 15).due ≤ (s.dev.tick 5).tim.clk ∧ s.dev.speaks = true ∧
     ¬ ((s.dev.gooseOf 15).due ≤ (s.dev.tick 4).tim.clk)) := by decide +kernel

def rep : CmdRep := ⟨[], 2, 9, 0x10⟩
def acking : CmdAck := ⟨3, 1, 0, 9, some (4, 5, 6)⟩

theorem meets_ScaleCommands :
    (up 6).canWrite .spi Reg.ISL_HOST_CMD ∧ (up 6).dev.isl.host.pend = none ∧ (up 6).dev.cmdRec 1023 = none ∧ bits 1023 9 0 = 1023 ∧
    (upWith 6 (fun d => { d with txn := { d.txn with cfg := [⟨0x0B04, 1023, [3, 255, 1] ++ zeros 29⟩] } })).dev.cmdRec 1023 ≠ none ∧
    (bits (10000 * 65536) 31 16 ≤ 10000 ∧ 10000 < bits (10001 * 65536) 31 16) ∧
    (upWith 6 (fun d => { d with isl := { d.isl with host := { d.isl.host with pend := some (1, 1, 0, 0) } } })).dev.isl.host.pend ≠ none ∧
    (up 6).canWrite .pcie Reg.ISL_UNLATCH ∧ ((up 6).dev.cmdGrp 1023).reps = [] ∧
    (let s := speaking (·.modCmd 1023 (fun x => { x with reps := [rep], ack := some acking }))
     (s.dev.cmdGrp 1023).reps.find? (fun r => decide (r.next ≤ (s.dev.tick 8).tim.clk)) = none ∧
     (s.dev.cmdGrp 1023).reps.find? (fun r => decide (r.next ≤ (s.dev.tick 9).tim.clk)) = some rep ∧ (acking.until' = 9) ∧ s.dev.speaks = true ∧
     rep.claim = s.dev.units.claim ∧ (s.dev.cmdGrp 1023).ack = some acking) ∧
    { rep with claim := 1 }.claim ≠ (speaking id).dev.units.claim ∧ ((up 6).dev.cmdGrp 1023).ack = none := by decide +kernel

/-! Hypotheses of the statements about the recorder, keys, wings, twins and safety. -/

def made : RecIn := ⟨0x0302, zeros 16, 0, 0, none⟩
def kept (k : Nat) : Stored := ⟨k, 1, made⟩
def recording (f : Recorder → Recorder) : State := speaking (fun d => { d with evr := f { d.evr with ready := true } })

theorem meets_RecorderRings :
    State.reset.dev.evr.ready = false ∧ (recording (fun e => { e with intake := [] })).dev.evr.intake = [] ∧ (recording (fun e => { e with intake := [.record made] })).dev.evr.intake = .record made :: [] ∧
    (recording id).dev.evr.ready = true ∧ (recording (fun e => { e with intake := [.gap 1 0 2 3] })).dev.evr.intake = .gap 1 0 2 3 :: [] ∧
    (recording id).dev.evr.mirroring = [] ∧
    (let s := recording (fun e => { e with mirroring := [kept 1] }); s.dev.evr.mirroring = kept 1 :: [] ∧ s.dev.gateOpen s.dev.active 2163 1 = true) ∧
    (let s := recording (fun e => { e with mirroring := [kept 1] })
     let s : State := { s with dev := { s.dev with units := { s.dev.units with outSeq := [(2163, 2)] } } }
     s.dev.gateOpen s.dev.active 2163 1 = false) ∧
    (recording id).dev.evr.dram.fill + (kept 1).size ≤ dramBytes ∧ (kept 1).flags % 4 = 1 ∧
    (recording id).dev.evr.keepPending = [] ∧ (recording (fun e => { e with keepPending := [kept 1] })).dev.evr.keepPending = kept 1 :: [] ∧
    (recording id).dev.nv.keep.fill + (kept 1).size ≤ keepBytes := by decide +kernel

def portAt (held : List Stored) (lost : List (Nat × Nat)) : RecRing := ⟨held, lost⟩

theorem meets_RecorderPorts :
    (up 6).canRead (Reg.REC_RP_STATUS 1) ∧ (up 6).canRead (Reg.REC_RP_CONSUME 1) ∧ (up 6).canWrite .pcie (Reg.REC_RP_CUR_HI 1) ∧
    (up 6).canWrite .spi (Reg.REC_RP_QUOTA 1) ∧ capture ((up 6).dev.portRing 1) ((up 6).dev.cur 1) = .notYet ∧
    (let s := recording (fun e => { e with dram := portAt [kept 9] [] }); capture (s.dev.portRing 1) (s.dev.cur 1) = .ok (kept 9)) ∧
    (let s := recording (fun e => { e with dram := portAt [kept 9] [(1, 8)] }); capture (s.dev.portRing 1) (s.dev.cur 1) = .stale 9) ∧
    (let q := (up 6).dev.fld (Reg.REC_RP_QUOTA 0) 6 0; 1 + q ≤ 128 ∧ 64 + q ≤ 128 ∧ ¬ (1 ≤ 0) ∧ ¬ (65 ≤ 64)) := by decide +kernel

/-- An OWN message for device 0, which carries no signature. -/
def ownMsg (k : Nat) (f : Dev → Dev) : State := upWith k (fun d => f (((d.wr (Reg.KEY_MSG_DATA 0) 0x01050000).wr (Reg.KEY_MSG_DATA 1) 0x100).wr Reg.KEY_MSG_LEN 296))

theorem meets_KeyMessages :
    (ownMsg 2 (·.putB Reg.GLB_BOOT_STATE 4 true)).canWrite .pcie Reg.KEY_MSG_CTL ∧ (up 6).canWrite .spi Reg.KEY_MSG_CTL ∧ (up 2).dev.pfHeld = false ∧
    (upWith 6 (fun d => { d with pins := { d.pins with pwrfailLow := true } })).dev.pfHeld = true ∧ bit 1 1 = false ∧
    (let d := (ownMsg 2 id).dev
     d.key.stage = 0 ∧ d.keyCheckMsg ((List.range 128).flatMap (fun j => be 4 (d.rdN (Reg.KEY_MSG_DATA j)))) (d.fld Reg.KEY_MSG_LEN 9 0) = 0) ∧
    (let d := (ownMsg 6 id).dev
     d.keyCheckMsg ((List.range 128).flatMap (fun j => be 4 (d.rdN (Reg.KEY_MSG_DATA j)))) (d.fld Reg.KEY_MSG_LEN 9 0) = 16) ∧
    (upWith 6 (fun d => { d with key := { d.key with stage := 1 } })).dev.key.stage = 1 ∧ bit 2 0 = false ∧ (up 2).dev.boot = 2 ∧ (up 6).dev.boot ≠ 2 ∧
    (up 6).dev.key.test = false ∧ (upWith 6 (fun d => { d with key := { d.key with test := true } })).dev.key.test = true := by decide +kernel

def missing (m : Nat) : State := speaking (·.modWing 1 (fun y => { y with missArb := m }))
def takeover : State := speaking (fun d => { d with units := { d.units with due := some ⟨2, 0, false, some 4⟩, w0 := { d.units.w0 with role := .faulted } } })

theorem meets_HeartbeatsAndTakeover :
    ((claimed .faulted).dev.wing 0).role = .faulted ∧ ((missing 1).dev.wing 1).role ≠ .faulted ∧ ((missing 1).dev.wing 1).missArb < 2 ∧
    2 ≤ ((missing 2).dev.wing 1).missArb ∧ ((missing 2).dev.wing 0).arbPath = true ∧ (up 6).dev.units.due = none ∧
    (takeover.dev.units.due = some ⟨2, 0, false, some 4⟩ ∧ (takeover.dev.tick 3).tim.clk < 4 ∧ 4 ≤ (takeover.dev.tick 4).tim.clk ∧ takeover.dev.units.outs = [] ∧
     takeover.dev.isl.cmds = [] ∧ takeover.dev.sch.w0.early = [] ∧ takeover.dev.sch.w1.early = [] ∧ takeover.dev.txn.st = .idle ∧ takeover.dev.key.stage = 0) ∧
    (up 6).dev.boot ≠ 7 ∧ (up 6).dev.units.attrib = [] ∧
    (let s := speaking (·.modWing 1 (fun y => { y with missLink := 2 }))
     2 ≤ (s.dev.wing 1).missLink ∧ (s.dev.wing 1).missArb = 0 ∧ (s.dev.wing 0).missArb = 0 ∧ (s.dev.wing 0).arbPath = true ∧ (s.dev.wing 1).role ≠ .faulted ∧
     (s.dev.wing 0).role ≠ .faulted) ∧ ((speaking (·.modWing 0 (fun y => { y with arbPath := false }))).dev.wing 0).arbPath = false ∧
    (let s := speaking (fun d => { d with units := { d.units with attrib := [⟨false, 1, 0, 0, 0, [], 1, 2⟩] } })
     s.dev.units.attrib = ⟨false, 1, 0, 0, 0, [], 1, 2⟩ :: [] ∧ s.dev.units.w0.role = .active ∧ s.dev.units.w1.role = .standby ∧ s.dev.units.holder = some 0) := by
  decide +kernel

def repairing (w : Nat) : State := speaking (fun d => { d with units := { d.units with repairing := some w } })

theorem meets_RepairAndResynchronisation :
    (up 6).canWrite .pcie Reg.WNG_CTL ∧ bit 8 2 = false ∧ bit 4 3 = false ∧ (up 6).dev.units.repairing = none ∧ (claimed .faulted).dev.units.w0.role = .faulted ∧
    ((speaking (·.modWing 1 (fun y => { y with role := .faulted }))).dev.units.w0.role ≠ .faulted) ∧
    (speaking (·.modWing 1 (fun y => { y with role := .faulted }))).dev.units.w1.role = .faulted ∧ (repairing 1).dev.units.repairing = some 1 ∧
    (claimed .resync).dev.units.w0.role = .resync ∧ (speaking id).dev.units.twinRole ≠ .resync ∧
    (speaking (fun d => { d with units := { d.units with twinRole := .resync } })).dev.units.twinRole = .resync ∧ (speaking id).dev.hasStandby = true ∧
    (claimed .faulted).dev.hasStandby = false ∧ (speaking id).dev.units.slice < 900 ∧
    (speaking (fun d => { d with units := { d.units with slice := 899 } })).dev.units.slice = 899 := by decide +kernel

def outNow (passed again : Bool) : OzOut × Out := (⟨5, 0, 96, 3, again, 0, passed, 0, 0, 1⟩, ⟨96, 3, [], []⟩)
def mirroring (x : List (OzOut × Out)) : State := speaking (fun d =>
  { d with units := { d.units with unacked := x, lane1 := { d.units.lane1 with up := true } } })

theorem meets_TwinLink :
    ((up 6).dev.loop 1 1).mode = 0 ∧ ozValid (ozFrame 1 (zeros 24)) 1 ∧ ozValid (ozFrame 3 (zeros 24)) 3 ∧ ozValid (ozFrame 4 (be 4 5)) 4 ∧ ozValid (ozFrame 6 (zeros 8)) 6 ∧
    ozValid (ozFrame 9 (zeros 48)) 9 ∧
    (let b := zeros 24; 20 ≤ b.length ∧ crc32c (b.take (b.length - 4)) ≠ beAt b (b.length - 4) 4) ∧
    (byteAt (ozLoad (ozFrame 1 (zeros 16 ++ [1] ++ zeros 7))) 16 = 1 ∧ byteAt (ozLoad (ozFrame 1 (zeros 16 ++ [2] ++ zeros 7))) 16 = 2) ∧
    (timed 1 .locked id).dev.tim.lockedOnce = true ∧ (timed 1 .locked id).dev.activeTwin = false ∧
    (((mirroring [outNow false false]).dev.tick 0).ozReceive 1 (ozFrame 4 (be 4 5))).2.units.unacked = [outNow false false] ∧
    (outNow false false).1.linkSeq = beAt (ozLoad (ozFrame 4 (be 4 5))) 0 4 ∧ (outNow false false).1.ready = 0 ∧ (outNow false true).1.again = true ∧
    (∀ y ∈ ((up 6).dev.ozReceive 1 (ozFrame 4 (be 4 5))).2.units.unacked, y.1.linkSeq ≠ 5) := by
  decide +kernel

theorem meets_TwinLink_times :
    (let s := mirroring [outNow false false]
     let late (c : Nat) (y : OzOut × Out) : Bool := y.1.linkSeq == 5 && decide (y.1.at' + ticksUs 20 ≤ (s.dev.tick c).tim.clk)
     s.dev.units.unacked = [outNow false false] ∧ late 8000 (outNow false false) = true ∧ s.dev.units.unacked.find? (late 7999) = none ∧
     (outNow false false).1.lane < 2 ∧ (s.dev.lane (1 - (outNow false false).1.lane)).up = true) ∧
    (let s := speaking (fun d => d.wr Reg.WNG_CTL 2)
     s.dev.activeTwin = true ∧ s.dev.flag Reg.WNG_CTL 1 = true ∧ s.dev.units.claim < 0x22 ∧ 0x22 / 2 % 2 ≠ s.dev.twinId) ∧ (up 6).dev.activeTwin = false ∧
    (let s := timed 1 .locked (fun d => { d with pins := { d.pins with sampled := 1 } })
     s.dev.units.outs = [] ∧ s.dev.twinId = 1 ∧ s.dev.tim.lockedOnce = true ∧ s.dev.running = true ∧ s.dev.units.holder = none ∧
     s.dev.units.runAt + ticksMs 20 ≤ (s.dev.tick 8000000).tim.clk ∧ (s.dev.tick 7999999).tim.clk < s.dev.units.runAt + ticksMs 20 ∧ s.dev.units.peerClaim = 0 ∧
     s.dev.units.lastBeacon = none) := by decide +kernel

/-- A beacon of 40 bytes is right with its own tag, and some tag is wrong, whatever AES-GMAC gives. -/
theorem meets_TwinLink_beacons (d : Dev) : let h : List Byte := [1] ++ zeros 3 ++ be 4 0x22 ++ zeros 16
    (d.beaconBytes h).length = 40 ∧ byteAt (d.beaconBytes h) 0 = 1 ∧ d.beaconBytes ((d.beaconBytes h).take 24) = d.beaconBytes h ∧
    beAt (d.beaconBytes h) 4 4 = 0x22 ∧
    ∃ b : List Byte, b.length = 40 ∧ byteAt b 0 = 1 ∧ d.beaconBytes (b.take 24) ≠ b := by
  intro h
  have hl : h.length = 24 := by decide
  have ht (x : List Byte) : (h ++ x).take 24 = h := by rw [List.take_append_of_le_length (by omega), List.take_of_length_le (by omega)]
  refine ⟨by simp [Dev.beaconBytes, hl], by rfl, congrArg d.beaconBytes (ht _), by rfl, ?_⟩
  by_cases hx : d.beaconBytes h = h ++ zeros 16
  · exact ⟨h ++ [1] ++ zeros 15, by decide, by decide, by rw [List.append_assoc, ht, hx]; decide⟩
  · exact ⟨h ++ zeros 16, by decide, by decide, by rw [ht]; exact hx⟩

def proving (first : Option Bool) : State := upWith 6 (fun d => { d.wr Reg.SAF_PROOF_CFG 2 with saf := { d.saf with proof := some (15, 0, first) } })

theorem meets_SafetyProofs :
    (up 6).canWrite .pcie Reg.SAF_CLEAR ∧ (up 6).dev.boot ≠ 7 ∧ (up 7).dev.boot = 7 ∧ (up 6).canWrite .pcie Reg.SAF_PROOF_CTL ∧ (up 4).dev.running = false ∧
    (up 6).dev.running = true ∧ (up 6).dev.saf.proof = none ∧ ((up 6).dev.ao 15).alarm = false ∧ (up 6).dev.pins.aoReleased.testBit 15 = false ∧
    ((upWith 6 (·.modAo 15 (fun p => { p with alarm := true }))).dev.ao 15).alarm = true ∧
    ((upWith 6 (·.modAo 15 (fun p => { p with alarm := true, since := 5 }))).dev.ao 15).since ≤ 0 + ticksUs 2 ∧ (proving none).dev.fld Reg.SAF_PROOF_CFG 9 0 = 2 ∧ (proving none).dev.saf.proof = some (15, 0, none) ∧
    ((proving none).dev.tick 399).tim.clk < 0 + ticksUs ((proving none).dev.fld Reg.SAF_PROOF_CFG 9 0) / 2 ∧
    0 + ticksUs ((proving none).dev.fld Reg.SAF_PROOF_CFG 9 0) / 2 ≤ ((proving none).dev.tick 400).tim.clk ∧
    (let k := ticksUs ((proving (some true)).dev.fld Reg.SAF_PROOF_CFG 9 0); ((proving (some true)).dev.tick 1199).tim.clk < 0 + k + k / 2 ∧
      0 + k + k / 2 ≤ ((proving (some true)).dev.tick 1200).tim.clk) ∧
    ((timed 1 .locked (fun d => d.wr Reg.SAF_AO_SAFETY 0x8000)).dev.tick 0).proofDue = true ∧ ((up 6).dev.tick 0).proofDue = false := by decide +kernel

/-! Hypotheses of the statements about transactions and tests. -/

/-- A transaction in a state with an owner. -/
def txning (k : Nat) (st : TxnSt) (o : Option Iface) (f : Txn → Txn) : State := upWith k (fun d => { d with txn := f { d.txn with st := st, owner := o } })

/-- A DEVICE record: 50 wingbeats per second, 50 Hz. -/
def device : List Byte := be 2 50 ++ be 1 50 ++ be 1 1 ++ be 4 0 ++ be 4 60 ++ be 2 0 ++ be 2 10
/-- Records that a configuration cannot do without: DEVICE, two ready lists, and the routes of the six kernels that need one. -/
def base : List Byte :=
  recBytes 0x0100 device ++ recBytes 0x0C01 ([5, 0x81, 1, 0] ++ be 4 16) ++ recBytes 0x0C01 ([6, 0x82, 1, 0] ++ be 4 16) ++
  [0x20, 0x21, 0x22, 0x23, 0x24].flatMap (fun k => recBytes 0x0C02 (be 2 k ++ [5] ++ zeros 5)) ++ recBytes 0x0C02 (be 2 0x30 ++ [6] ++ zeros 5)

/-- The host delta of one shadow, TXN_PROBATION at 5. -/
def oneShadow : List Byte := recBytes 0x0101 (be 4 Reg.TXN_PROBATION ++ be 4 5 ++ be 4 0xFFFF)

/-- RUN with slot 0 in force, and one frame received on lane 1; a commit of that delta is in validation, or the transaction is idle. -/
def ground (v : Bool) : Dev := { State.reset.dev.modSlotNv 0 (fun x => { x with st := 2, instar := 1, elems := [(2, base)] }) with
  regs := [(8192, 6), (8260, 0), (4194596, 1)], units := { State.reset.dev.units with peerSeen := true },
  txn := { State.reset.dev.txn with inForce := some 0, instar := 1, cfg := [⟨0x0100, 0, device⟩], st := if v then .validating else .idle,
                                    shadows := if v then [(Reg.TXN_PROBATION, 5)] else [] } }
def delta : State := { State.reset with dev := ground true }

/-- The ground with what a commit of that delta sets, and before REG_SET. -/
def newCfg : List CfgRec := cfgChain [(2, base), (2, oneShadow)]
def candidate (v : Bool) : Dev := { ground v with
  regs := [(8192, 6), (8260, 0), (65556, 5), (2622544, 65793), (2622560, 65794), (4194596, 1), (19399760, 65793), (19399776, 65794)],
  txn := { (ground v).txn with cfg := newCfg } }
def beforeSet (v : Bool) : Dev := { candidate v with
  regs := [(8192, 6), (8260, 0), (65556, 0), (2622544, 65793), (2622560, 65794), (4194596, 1), (19399760, 65793), (19399776, 65794)] }

theorem meets_TransactionCommands :
    (up 6).canWrite .spi Reg.TXN_CMD ∧ (up 6).dev.txn.st = .idle ∧ bit 16 4 = true ∧
    (let x := (txning 6 .opened none (fun x => { x with restored := true })).dev.txn; x.st ≠ .idle ∧ x.restored = true ∧ x.owner = none) ∧
    (txning 6 .opened (some .pcie) id).canWrite .spi Reg.TXN_CMD ∧
    (let x := (txning 6 .opened (some .pcie) id).dev.txn; x.st ≠ .idle ∧ x.owner ≠ some .spi ∧ x.owner ≠ none ∧ x.probation = none ∧ x.staging = [] ∧
      x.shadows = [] ∧ x.windows = []) ∧
    bits 0 3 0 = 0 ∧ 8 < bits 9 3 0 ∧ 8 < bits 15 3 0 ∧ (txning 6 .storing (some .spi) id).dev.txn.st ≠ .opened ∧
    (txning 6 .opened (some .spi) (fun x => { x with probation := some 5 })).dev.txn.probation.isSome = true ∧
    (txning 6 .opened (some .spi) (fun x => { x with staging := [1] })).dev.txn.staging ≠ [] ∧
    (upWith 6 (·.wrN Reg.TXN_IMG_LEN 8388608)).dev.fld Reg.TXN_IMG_LEN 23 0 ≤ 8388608 ∧
    8388608 < (upWith 6 (·.wrN Reg.TXN_IMG_LEN 8388609)).dev.fld Reg.TXN_IMG_LEN 23 0 ∧
    (upWith 6 (fun d => { d with host := { d.host with linkUp := true } })).dev.dma = true ∧ (up 6).dev.txn.inForce = none := by decide +kernel

/-- Slot 0 in force, slot 1 as it is when its hash agrees. -/
def twoSlots (k : Nat) (p : Option Nat) : State := upWith 6 (fun d =>
  { d.modSlotNv 1 (fun x => { x with st := k, elems := [(2, zeros 8)], hash := Config.sha256 (chainBytes [(2, zeros 8)]) }) with
    txn := { d.txn with inForce := some 0, probation := p } })

theorem twoSlots_qualifies (k : Nat) (p : Option Nat) (h : k = 1 ∨ k = 2) : (twoSlots k p).dev.qualifies (1 - 0) = true := by
  have hx : (twoSlots k p).dev.nvSlot (1 - 0) = ⟨k, 0, ((State.reset.dev.nvSlot 1).gen), [(2, zeros 8)], Config.sha256 (chainBytes [(2, zeros 8)])⟩ := rfl
  simp only [Dev.qualifies, hx]
  rcases h with rfl | rfl <;> simp

theorem meets_TransactionCommands_revert :
    (twoSlots 2 (some 5)).dev.txn.inForce = some 0 ∧ (twoSlots 2 (some 5)).dev.qualifies (1 - 0) = true ∧ (twoSlots 2 none).dev.qualifies (1 - 0) = true ∧
    ((twoSlots 2 none).dev.nvSlot (1 - 0)).st = 2 ∧ ((twoSlots 1 none).dev.nvSlot (1 - 0)).st ≠ 2 ∧ (up 6).dev.qualifies (1 - 0) = false ∧
    (twoSlots 2 none).canWrite .pcie Reg.TXN_CMD :=
  ⟨rfl, twoSlots_qualifies _ _ (.inr rfl), twoSlots_qualifies _ _ (.inr rfl), rfl, by decide +kernel, by decide +kernel, by
    refine ⟨?_, ?_⟩ <;> simp only [twoSlots, upWith] <;> decide +kernel⟩

/-- Staging of a length. -/
def filled (k : Nat) : State := txning 6 .opened (some .pcie) (fun x => { x with staging := List.replicate k 0 })

theorem filled_writable (k : Nat) : (filled k).canWrite .pcie Reg.TXN_IMG_WDATA := by
  have h : (filled k).canWrite .pcie Reg.TXN_IMG_WDATA ↔ (up 6).canWrite .pcie Reg.TXN_IMG_WDATA := Iff.rfl
  rw [h]; decide +kernel
theorem filled_length (k : Nat) : (filled k).dev.txn.staging.length = k := by
  have h : (filled k).dev.txn.staging = List.replicate k 0 := rfl
  rw [h, List.length_replicate]

theorem meets_TransactionStaging_words :
    (filled 8388604).canWrite .pcie Reg.TXN_IMG_WDATA ∧ (∀ k, (filled k).dev.txn.st = .opened ∧ (filled k).dev.txn.owner = some .pcie) ∧
    (filled 8388604).dev.txn.staging.length + 4 ≤ 8388608 ∧ 8388608 < (filled 8388605).dev.txn.staging.length + 4 ∧
    (filled 0).dev.device = none ∧ (filled 0).dev.txn.shadows = [] ∧ (filled 0).dev.txn.windows = [] ∧ (filled 0).canWrite .pcie Reg.TXN_PROBATION := by
  refine ⟨filled_writable _, fun _ => ⟨rfl, rfl⟩, ?_, ?_, by decide +kernel, rfl, rfl, by decide +kernel⟩ <;> rw [filled_length]; omega

theorem meets_TransactionStaging :
    (let s := txning 6 .opened (some .spi) (fun x => { x with timeout := 1, lastAt := 0 })
     s.dev.txn.st = .opened ∧ s.dev.txn.owner ≠ none ∧ s.dev.txn.lastAt + ticksSec s.dev.txn.timeout ≤ (s.dev.tick 400000000).tim.clk ∧
     ¬ (s.dev.txn.lastAt + ticksSec s.dev.txn.timeout ≤ (s.dev.tick 399999999).tim.clk)) ∧
    (let s := txning 6 .validating (some .spi) (fun x => { x with staging := [0] })
     s.dev.txn.st = .validating ∧ s.dev.pfHeld = false ∧ (s.dev.tick 0).commitCheck = some (18, 0, 0, 0) ∧ 18 < 38) ∧
    (upWith 6 (fun d => { d with pins := { d.pins with pwrfailLow := true } })).dev.pfHeld = true ∧
    (let s := txning 6 .storing (some .spi) id
     s.dev.txn.st = .storing ∧ s.dev.txn.loadReset = false ∧ s.dev.boot ≠ 2 ∧ s.dev.units.paired = false ∧ s.dev.txnAt = 0) ∧
    (let s := upWith 6 (fun d => { d.wr Reg.TXN_AT_LO 1 with txn := { d.txn with st := .storing } })
     s.dev.txnAt ≠ 0 ∧ s.dev.txnAt = 1 ∧ 1 = firstBoundary 50 20000000 ∧ firstBoundary s.dev.rate ((s.dev.tick 0).ns + 2000000) ≤ 1 ∧
     1 < firstBoundary 50 20000001) := by decide +kernel

theorem foldUp_id {α : Type} (n : Nat) (f : Nat → α → α) (a : α) (h : ∀ k < n, f k a = a) : foldUp n f a = a := by
  induction n with
  | zero => rfl
  | succ n ih => rw [foldUp, ih (fun k hk => h k (by omega)), h n (by omega)]

theorem candidate_records : ∀ v,
    newCfg.foldl (fun (d : Dev) r => (cfgRegs r).foldl (fun (d : Dev) x => d.setRws x.1 x.2 0xFFFFFFFF) d)
      ({ ground v with txn := { (ground v).txn with cfg := newCfg } } : Dev).resetRws = beforeSet v := by decide +kernel
theorem candidate_sets : ∀ v, ((beforeSet v).recs 0x0101).foldl
    (fun (d : Dev) (r : CfgRec) => d.setRws (beAt r.body 0 4) (beAt r.body 4 4) (beAt r.body 8 4)) (beforeSet v) = candidate v := by decide +kernel
theorem candidate_ports (v : Bool) : foldUp 8 (fun p (d : Dev) => d.latCommit (ground v) p) (candidate v) = candidate v :=
  foldUp_id _ _ _ (by revert v; decide +kernel)
theorem candidate_channels (v : Bool) : (List.range 256).filter (fun n => (candidate v).chanChanged (ground v) n) = [] := by revert v; decide +kernel
theorem candidate_enabled (v : Bool) : (candidate v).enReview (ground v) = candidate v := by
  have h1 : ∀ v, (candidate v).enChanged = [] := by decide +kernel
  have h2 : ∀ v, (candidate v).formatChanged (ground v) = [] := by decide +kernel
  simp only [Dev.enReview, h1 v, h2 v, List.foldl_nil]
theorem candidate_kept (v : Bool) : (foldUp 2 (fun k (d : Dev) => d.ptpDefault k) (candidate v)).leapKeep (ground v) = candidate v := by revert v; decide +kernel
theorem candidate_chain (v : Bool) : (candidate v).chainReview (ground v) = candidate v := by revert v; decide +kernel
theorem ground_takes (v : Bool) : (ground v).takeCfg newCfg = candidate v := by
  rw [Dev.takeCfg]
  simp only [candidate_records, candidate_sets, candidate_ports, candidate_kept, candidate_channels, List.foldl_nil, candidate_enabled, candidate_chain]

theorem ok_base : (candidate true).badBase (ground true) false = [] := by decide +kernel
theorem ok_fields : (candidate true).badFields = [] := by decide +kernel
theorem ok_regs : (candidate true).badRegs = [] := by decide +kernel
theorem ok_local : (candidate true).badLocal = [] := by decide +kernel
theorem ok_ports : (candidate true).badPorts = [] := by decide +kernel
theorem ok_ingress : (candidate true).badIngress = [] := by decide +kernel
theorem ok_streams : (candidate true).badStreams = [] := by decide +kernel
theorem ok_osc : (candidate true).badOsc = [] := by decide +kernel
theorem ok_isl : (candidate true).badIsl = [] := by decide +kernel
theorem ok_sched : (candidate true).badSched = [] := by decide +kernel
theorem ok_acq : (candidate true).badAcq = [] := by decide +kernel
theorem ok_safety : (candidate true).badSafety = [] := by decide +kernel
theorem ok_queues : (candidate true).badQueues (ground true) = [] := by
  have h1 : sumN (((List.range 320).map (192 + ·)).map (candidate true).qWords) = 0 := by decide +kernel
  have h2 : Config.queDevWords ≤ 1048576 := by have := Config.queDevWordsOf.isLt; simp only [Config.queDevWords]; omega
  have h3 : ∀ q ∈ (List.range 320).map (192 + ·), bit ((candidate true).rd (Reg.QUE_Q_CFG q)) 0 = false := by decide +kernel
  have h4 : ∀ q ∈ (List.range 320).map (192 + ·), bits ((candidate true).rd (Reg.QUE_Q_CFG q)) 20 16 ≤ bits ((candidate true).rd (Reg.QUE_Q_CFG q)) 12 8 := by
    decide +kernel
  simp only [Dev.badQueues, h1]
  rw [List.append_eq_nil_iff]
  refine ⟨by simp [failIf, h2], ?_⟩
  rw [List.flatMap_eq_nil_iff]
  intro q hq
  simp [h3 q hq, h4 q hq, failIf]

theorem keeps_rules : (ground true).breaks newCfg false = [] := by
  rw [Dev.breaks, ground_takes]
  simp only [Dev.failing, ok_base, ok_fields, ok_regs, ok_local, ok_ports, ok_ingress, ok_streams, ok_osc, ok_isl, ok_sched, ok_acq, ok_safety, ok_queues, List.append_nil]

theorem failing_txn (d o : Dev) (p : Bool) (x y : TxnSt) (l m : List (Nat × Word)) :
    ({ d with txn := { d.txn with st := x, shadows := l } } : Dev).failing { o with txn := { o.txn with st := y, shadows := m } } p = d.failing o p := rfl

theorem idle_keeps_rules : (ground false).breaks newCfg false = [] := by
  have e1 : ground false = { ground true with txn := { (ground true).txn with st := .idle, shadows := [] } } := by decide +kernel
  have e2 : candidate false = { candidate true with txn := { (candidate true).txn with st := .idle, shadows := [] } } := by decide +kernel
  rw [Dev.breaks, ground_takes, e1, e2, failing_txn, ← ground_takes true]
  exact keeps_rules

theorem delta_tick : delta.dev.tick 0 = ground true := by decide +kernel
theorem delta_chain : chainWith (ground true).chainNow (ground true).newElems = [(2, base), (2, oneShadow)] := by decide +kernel
theorem delta_rules : (ground true).breaks (cfgChain [(2, base), (2, oneShadow)]) false = [] := keeps_rules
theorem delta_staging : (ground true).staged = none ∧ (ground true).txn.staging = [] ∧ ((ground true).boot == 2) = false ∧
    (16 < [(2, base), (2, oneShadow)].length || 8388608 < elemsLen [(2, base), (2, oneShadow)]) = false := by decide +kernel

theorem meets_TransactionStaging_accepted :
    delta.dev.txn.st = .validating ∧ delta.dev.pfHeld = false ∧ (delta.dev.tick 0).commitCheck = none := by
  refine ⟨by decide +kernel, by decide +kernel, ?_⟩
  rw [delta_tick, Dev.commitCheck]
  simp only [delta_staging.1, delta_staging.2.1, delta_staging.2.2.1, Bool.false_and, Bool.false_or, delta_chain, delta_staging.2.2.2]
  simp
  rw [delta_rules]

/-! Frames of the Oznis link with a TXN payload, whatever its bytes. -/

def txnHead (p : List Byte) : List Byte := be 2 0xA7E1 ++ ([1, 5] ++ be 2 p.length ++ zeros 10 ++ p)
def twinFrame (p : List Byte) : List Byte := txnHead p ++ be 4 (crc32c (txnHead p))

theorem twinFrame_length (p : List Byte) : (twinFrame p).length = 20 + p.length := by simp [twinFrame, txnHead]; omega
theorem txnHead_length (p : List Byte) : (txnHead p).length = 16 + p.length := by simp [txnHead]; omega

theorem twinFrame_len (p : List Byte) (h : p.length ≤ 8192) : beAt (twinFrame p) 4 2 = p.length := by
  have e : twinFrame p = (be 2 0xA7E1 ++ [1, 5]) ++ be 2 p.length ++ (zeros 10 ++ p ++ be 4 (crc32c (txnHead p))) := by simp [twinFrame, txnHead]
  have k := beAt_append_be (be 2 0xA7E1 ++ [1, 5]) (zeros 10 ++ p ++ be 4 (crc32c (txnHead p))) 2 p.length
  rw [← e] at k
  exact k.trans (Nat.mod_eq_of_lt (by omega))

theorem twinFrame_load (p : List Byte) (h : p.length ≤ 8192) : ozLoad (twinFrame p) = p := by
  have e : twinFrame p = (be 2 0xA7E1 ++ [1, 5] ++ be 2 p.length ++ zeros 10) ++ (p ++ be 4 (crc32c (txnHead p))) := by simp [twinFrame, txnHead]
  rw [ozLoad, twinFrame_len p h, e, List.drop_append_of_le_length (by simp), List.drop_of_length_le (by simp)]
  simp

theorem twinFrame_claim (p : List Byte) : beAt (twinFrame p) 12 4 = 0 := by
  have e : twinFrame p = (be 2 0xA7E1 ++ [1, 5] ++ be 2 p.length ++ zeros 6) ++ be 4 0 ++ (p ++ be 4 (crc32c (txnHead p))) := by
    have : (be 4 0 : List Byte) = zeros 4 := by decide
    have z : (zeros 10 : List Byte) = zeros 6 ++ zeros 4 := by decide
    simp [twinFrame, txnHead, this, z]
  rw [e]
  exact beAt_append_be (be 2 0xA7E1 ++ [1, 5] ++ be 2 p.length ++ zeros 6) _ 4 0

theorem twinFrame_valid (p : List Byte) (h : p.length ≤ 8192) : ozValid (twinFrame p) 5 := by
  have hl := twinFrame_length p
  have hh := txnHead_length p
  have ht : (twinFrame p).take ((twinFrame p).length - 4) = txnHead p := by
    rw [hl, twinFrame, List.take_append_of_le_length (by omega), List.take_of_length_le (by omega)]
  have hc : beAt (twinFrame p) ((twinFrame p).length - 4) 4 = crc32c (txnHead p) := by
    have k := beAt_append_be (txnHead p) [] 4 (crc32c (txnHead p))
    rw [hh] at k
    rw [hl, show 20 + p.length - 4 = 16 + p.length by omega]
    simp only [List.append_nil] at k
    exact k.trans (Nat.mod_eq_of_lt (crc32c_lt _))
  refine ⟨by rw [hl, twinFrame_len p h], by rw [twinFrame_len p h]; exact h, by rw [ht, hc], ?_, rfl, rfl⟩
  rw [show twinFrame p = [] ++ be 2 0xA7E1 ++ ([1, 5] ++ be 2 p.length ++ zeros 10 ++ p ++ be 4 (crc32c (txnHead p))) by simp [twinFrame, txnHead]]
  exact beAt_append_be [] _ 2 0xA7E1

/-- Before that frame; and with a commit in preparation. -/
def twinIdle : State := { State.reset with dev := { ground false with regs := [(8192, 6), (8260, 0)], units := State.reset.dev.units } }
def twinPrepares : State := { twinIdle with dev :=
  { twinIdle.dev.modSlotNv 1 (fun x => { x with st := 1, instar := 5 }) with txn := { twinIdle.dev.txn with st := .preparing, prepAt := 0 } } }

/-- The standby twin with a commit that it has agreed to. -/
def twinAgreed : State := { twinIdle with dev :=
  { twinIdle.dev.modSlotNv 1 (fun x => { x with st := 1, instar := 5 }) with txn := { twinIdle.dev.txn with st := .scheduled, source := 2 } } }

/-- The payload of PREPARE for one shadow. -/
def prepare : List Byte := [1] ++ zeros 3 ++ be 4 9 ++ be 8 77 ++ Config.sha256 (chainBytes [(2, base), (2, oneShadow)])

theorem meets_TwinCommitsAndProbation :
    (let b := twinFrame ([2] ++ zeros 3 ++ be 4 5 ++ zeros 40)
     let r := ((twinPrepares.dev.tick 0).ozReceive 1 b).2
     ozValid b 5 ∧ r.txn.st = .preparing ∧ byteAt (ozLoad b) 0 = 2 ∧ beAt (ozLoad b) 4 4 = (r.nvSlot r.otherSlot).instar) ∧
    (let b := twinFrame ([3] ++ zeros 3 ++ be 4 5 ++ zeros 40)
     let r := ((twinPrepares.dev.tick 0).ozReceive 1 b).2
     ozValid b 5 ∧ r.txn.st = .preparing ∧ byteAt (ozLoad b) 0 = 3 ∧ beAt (ozLoad b) 4 4 = (r.nvSlot r.otherSlot).instar) ∧
    (let b := twinFrame ([1] ++ zeros 47)
     let r := ((claimed .standby).dev.ozReceive 0 b).2
     ozValid b 5 ∧ r.activeTwin = true) ∧
    (let b := twinFrame ([4] ++ zeros 3 ++ be 4 5 ++ zeros 40)
     let r := ((twinAgreed.dev.tick 0).ozReceive 1 b).2
     ozValid b 5 ∧ r.activeTwin = false ∧ byteAt (ozLoad b) 0 = 4 ∧ r.txn.st = .scheduled ∧ r.txn.source = 2 ∧
     (r.nvSlot r.otherSlot).instar = beAt (ozLoad b) 4 4 ∧ ((twinIdle.dev.tick 0).ozReceive 1 b).2.txn.st ≠ .scheduled) ∧
    twinPrepares.dev.txn.st = .preparing ∧ twinPrepares.dev.txn.prepAt + ticksMs 50 ≤ (twinPrepares.dev.tick 20000000).tim.clk ∧
    ¬ (twinPrepares.dev.txn.prepAt + ticksMs 50 ≤ (twinPrepares.dev.tick 19999999).tim.clk) ∧
    (twoSlots 1 (some 1)).dev.txn.probation ≠ some 0 ∧ (twoSlots 1 (some 0)).dev.txn.inForce = some 0 ∧ (twoSlots 1 (some 0)).dev.txn.probation = some 0 ∧
    (twoSlots 1 (some 0)).dev.txn.probWait = false ∧ (twoSlots 1 (some 0)).dev.txn.rollback = none := by decide +kernel

theorem prepare_length : prepare.length = 48 := by simp [prepare]

theorem twinIdle_receives : ((twinIdle.dev.tick 0).ozReceive 1 (twinFrame prepare)).2 = ground false := by
  have h8 : prepare.length ≤ 8192 := by rw [prepare_length]; decide
  have hv := twinFrame_valid prepare h8
  have hl := twinFrame_length prepare
  have hn := twinFrame_len prepare h8
  obtain ⟨_, _, h3, h4, h5, _⟩ := hv
  have e : ({ (twinIdle.dev.tick 0).incW (Reg.WNG_LANE_RX_CNT 1) 1 with
      units := { ((twinIdle.dev.tick 0).incW (Reg.WNG_LANE_RX_CNT 1) 1).units with peerClaim := 0, peerSeen := true } } : Dev).seeClaim 0 1 = ground false := by
    decide +kernel
  have c1 : (decide ((twinFrame prepare).length < 20) || crc32c ((twinFrame prepare).take ((twinFrame prepare).length - 4)) !=
      beAt (twinFrame prepare) ((twinFrame prepare).length - 4) 4) = false := by rw [h3]; simp [hl]
  have c2 : (beAt (twinFrame prepare) 0 2 != 0xA7E1 || byteAt (twinFrame prepare) 2 != 1 || decide (8192 < beAt (twinFrame prepare) 4 2) ||
      (twinFrame prepare).length != 20 + beAt (twinFrame prepare) 4 2) = false := by rw [h4, h5, hn, hl]; simp [prepare_length]
  simp only [Dev.ozReceive, c1, c2, twinFrame_claim, Bool.false_eq_true, if_false]
  exact e

theorem meets_TwinCommitsAndProbation_prepare :
    let b := twinFrame prepare
    let r := ((twinIdle.dev.tick 0).ozReceive 1 b).2
    let chain := chainWith r.chainNow [(2, oneShadow)]
    ozValid b 5 ∧ r.activeTwin = false ∧ byteAt (ozLoad b) 0 = 1 ∧ r.txn.st = .idle ∧ (∀ x ∈ [((2 : Nat), oneShadow)], x.1 = 2) ∧
    Config.sha256 (chainBytes chain) = ((ozLoad b).drop 16).take 32 ∧ r.nv.instarHigh < beAt (ozLoad b) 4 4 ∧ r.breaks (cfgChain chain) false = [] := by
  have h8 : prepare.length ≤ 8192 := by rw [prepare_length]; decide
  have hc : chainWith (ground false).chainNow [(2, oneShadow)] = [(2, base), (2, oneShadow)] := by decide +kernel
  have hi : beAt prepare 4 4 = 9 := by
    have e : prepare = ([1] ++ zeros 3) ++ be 4 9 ++ (be 8 77 ++ Config.sha256 (chainBytes [(2, base), (2, oneShadow)])) := by simp [prepare]
    rw [e]; exact beAt_append_be ([1] ++ zeros 3) _ 4 9
  have hh : (prepare.drop 16).take 32 = Config.sha256 (chainBytes [(2, base), (2, oneShadow)]) := by
    rw [prepare, List.drop_append_of_le_length (by simp), List.drop_of_length_le (by simp), List.nil_append, List.take_of_length_le (by simp)]
  have hz : (ground false).activeTwin = false ∧ (ground false).txn.st = .idle ∧ (ground false).nv.instarHigh < 9 := by decide +kernel
  simp only [twinIdle_receives, twinFrame_load _ h8, hc, hi, hh]
  exact ⟨twinFrame_valid _ h8, hz.1, rfl, hz.2.1, by simp, trivial, hz.2.2, idle_keeps_rules⟩

/-! Hypotheses of the statements about tests. -/

/-- A loop-back's object with a mode and a request; a generator on port 0. -/
def looped (kind idx m : Nat) (r : Option (Nat × Nat)) : State := upWith 6 (·.modLoop kind idx (fun x => { x with mode := m, req := r }))
def generating (g : LoopGen) : State := upWith 6 (fun d => { d with tst := { d.tst with gens := [(0, g)] } })

theorem meets_TestRequests :
    (∀ p < 8, (up 6).canWrite .spi (Reg.TST_PORT_CTL p)) ∧ (∀ l < 2, (up 6).canWrite .pcie (Reg.TST_OZ_CTL l)) ∧ (∀ q < 4, (up 6).canWrite .pcie (Reg.TST_Q_CTL q)) ∧
    (up 6).canWrite .pcie Reg.TST_PCIE_LB ∧ (up 6).canWrite .spi Reg.TST_PCIE_LB ∧ (up 6).canWrite .pcie Reg.TST_PPS_CTL ∧ (up 6).canWrite .spi Reg.TST_CTL ∧
    ((up 6).dev.loop 0 7).mode = 0 ∧ (up 6).dev.portCovered 7 = true ∧ ((looped 0 7 5 none).dev.loop 0 7).mode = 5 ∧ ((looped 0 7 5 none).dev.loop 0 7).req = none ∧
    ((looped 0 7 5 (some (0, 1))).dev.loop 0 7).req ≠ none ∧ ((looped 2 3 5 none).dev.loop 2 3).mode ≠ 0 ∧
    (let s := upWith 6 (·.wr (Reg.ALN_STR_CFG 63) 0xFF0001); s.dev.portCovered 0 = false ∧ (s.dev.loop 0 0).mode = 0 ∧ s.canWrite .pcie (Reg.TST_PORT_CTL 0)) ∧
    (let s := speaking (fun d => { d with units := { d.units with paired := true, lane1 := { d.units.lane1 with up := true } } })
     (s.dev.units.paired && (s.dev.lane 1).up && !(s.dev.lane 0).up) = true ∧ s.canWrite .pcie (Reg.TST_OZ_CTL 1)) ∧
    bits 1 1 1 = 0 ∧ bits 3 1 1 = 1 ∧ bit 3 0 = true ∧
    (let s := upWith 6 (·.wrN (Reg.TIM_DOM_CFG 0) 2); (∃ j < 2, s.dev.domSrc j = 2 ∧ s.dev.domPort j = 0) ∧ ¬ (∃ j < 2, s.dev.domSrc j = 2 ∧ s.dev.domPort j = 1)) ∧
    ((looped 4 0 1 none).dev.loop 4 (1 - 1)).mode ≠ 0 ∧ (up 6).dev.testRoot = false ∧
    (upWith 6 (fun d => { d with pins := { d.pins with sampled := 2 } })).dev.testRoot = true := by decide +kernel

theorem meets_TestGeneratorsAndEnds :
    (let s := upWith 6 (fun d => (d.modLoop 0 7 (fun x => { x with mode := 5 })).wrN (Reg.TST_PORT_GEN 7) (65535 * 65536 + 64))
     (s.dev.loop 0 7).mode = 5 ∧ (s.dev.loop 0 7).req = none ∧ 0 < s.dev.fld (Reg.TST_PORT_GEN 7) 31 16 ∧ s.canWrite .pcie (Reg.TST_PORT_CTL 7) ∧ bits 5 2 0 = 5) ∧
    ((up 6).dev.loop 0 7).mode = 0 ∧ (up 6).dev.portCovered 7 = true ∧
    (let s := generating ⟨2, 64, 2, 2, some 0⟩
     s.dev.gen 0 = some ⟨2, 64, 2, 2, some 0⟩ ∧ 0 + ticksMs 1 ≤ (s.dev.tick 400000).tim.clk ∧ (s.dev.tick 399999).tim.clk < 0 + ticksMs 1) ∧
    (up 6).dev.gen 0 = none ∧ (4, 1) ∈ loopObjects ∧
    (let s := looped 4 1 1 none
     let due := (s.dev.loop 4 1).at' + ticksSec (s.dev.fld Reg.TST_TIMEOUT 11 0)
     (s.dev.loop 4 1).mode ≠ 0 ∧ due ≤ (s.dev.tick due).tim.clk ∧ (s.dev.tick (due - 1)).tim.clk < due) := by decide +kernel

/-! The spec's worked examples. -/

/-- The record in the roost of the report of chapter 8, from its header and payload. -/
theorem test_report_normalised :
    (let h := bytes [0x01,0x00,0x4E,0x31,0x00,0x00,0x02,0xA7,0x9C,0x15,0x0F,0x3A,0x00,0x00,0x6A,0x1B,0x3C,0x00,0x1D,0xCD,0x65,0x00,0x43,0x12]
     let p := bytes [0x7A,0x12,0xEA,0xAB,0x7A,0x05,0x95,0x55,0x79,0xF8,0x40,0x00,0x0C,0x80,0xE0,0x00,0xFF,0xFE,0x04,0x30,0xFF,0xF4,0x08,0x7F,
                     0x00,0xE6,0xFF,0xC4,0x00,0x05,0x00,0x03]
     let e := zeros 14 ++ be 2 0x1555 ++ be 2 0x4000 ++ be 2 0x4000 ++ be 2 0x4000 ++ be 2 0x2000 ++ zeros 8
     normalise (h ++ p ++ zeros 16) e (arrival 1780169728501100000 1780169728500000000) 4) =
    bytes [0x7A,0x12,0x00,0x00,0x7A,0x05,0xAA,0xAA,0x79,0xF8,0x55,0x55,0x06,0x40,0xF5,0x55,0xFF,0xFE,0x04,0x30,0xFF,0xF4,0x08,0x7F,
           0x00,0xE6,0xFF,0xC4,0x00,0x05,0x00,0x22] := by decide +kernel

/-- The PMU block of chapter 9. -/
theorem test_pmu_block :
    (up 6).dev.blockBytes 3 3 (zeros 4 ++ be 4 20113 ++ [4, 2, 1] ++ zeros 25)
      (some (bytes [0x7A,0x12,0x00,0x00,0x7A,0x05,0xAA,0xAA,0x79,0xF8,0x55,0x55,0x06,0x40,0xF5,0x55,0xFF,0xFE,0x04,0x30,0xFF,0xF4,0x08,0x7F,
                    0x00,0xE6,0xFF,0xC4,0x00,0x05,0x00,0x22])) =
    bytes [0x00,0x00,0x7A,0x12,0x00,0x00,0x7A,0x05,0xAE,0x2F,0x79,0xF8,0x51,0xD0,0x06,0x40,0xF5,0xC6,0xFF,0x7E,0xFF,0xFF,0x00,0xE6,0xFF,0xC4,0x00,0x05] := by
  decide +kernel

/-- SOC and FRACSEC of that frame. -/
theorem test_soc_fracsec :
    (upWith 6 (·.wrN Reg.TIM_LEAP_OFS 37)).dev.socFrac 1780169728500000000 0x4312 1000000 = bytes [0x6A,0x1B,0x3B,0xDB,0x03,0x07,0xA1,0x20] := by decide +kernel

/-- The heartbeat of chapter 18, but for its CRC. -/
theorem test_oznis_heartbeat :
    (let d := speaking (fun d => { d with units := { d.units with claim := 0x5A30, doneSeq := 0x12D680 } })
     (d.dev.ozFrame 0 1 1234567 (be 8 0x14B951B81A ++ be 4 49 ++ be 4 0x5A3 ++ be 1 0 ++ be 1 5 ++ be 2 0 ++ be 4 0x12D680)).take 40) =
    bytes [0xA7,0xE1,0x01,0x01,0x00,0x18,0x04,0x00,0x00,0x12,0xD6,0x87,0x00,0x00,0x5A,0x30,
           0x00,0x00,0x00,0x14,0xB9,0x51,0xB8,0x1A,0x00,0x00,0x00,0x31,0x00,0x00,0x05,0xA3,0x00,0x05,0x00,0x00,0x00,0x12,0xD6,0x80] := by decide +kernel

/-- The 44 bytes of the TRIP of chapter 11 ahead of its tag. -/
theorem test_trip :
    patch ((up 6).dev.cmdHead 7 1 1 19 0x42 1780169728520000000 0x4315 0 0 (zeros 6 ++ be 2 2000 ++ zeros 14 ++ be 2 1)) 8 (be 4 0x5A30) =
    bytes [0x01,0x00,0x01,0x01,0x00,0x07,0x00,0x13,0x00,0x00,0x5A,0x30,0x00,0x00,0x00,0x42,0x00,0x00,0x6A,0x1B,0x3C,0x00,0x1E,0xFE,0x92,0x00,
           0x00,0x00,0x6A,0x1B,0x3C,0x02,0x1E,0xFE,0x92,0x00,0x00,0x00,0x00,0x00,0x00,0x01,0x43,0x15] := by decide +kernel

/-- The dictionary block of chapter 15. -/
theorem test_dictionary_block :
    (let n := bytes [0x41,0x45,0x4C,0x41,0x55,0x47,0x41,0x4E,0x20,0x46,0x5A,0x2D,0x36,0x31,0x39,0x32]
     let b := compress 2 3 0 7 (n ++ n ++ n ++ n)
     (b.take 4, b.drop 8)) =
    (bytes [0x02,0x03,0x00,0x3F],
     bytes [0x00,0x00,0x00,0x07,0x00,0x14,0x00,0x00,0x0F,0x41,0x45,0x4C,0x41,0x55,0x47,0x41,0x4E,0x20,0x46,0x5A,0x2D,0x36,0x31,0x39,0x32,0xAD,0x00,0x0F]) := by
  decide +kernel

/-- That block and the residue block of chapter 15 decode to their inputs. -/
theorem test_decoders :
    dictDecode 64 70 (bytes [0x0F,0x41,0x45,0x4C,0x41,0x55,0x47,0x41,0x4E,0x20,0x46,0x5A,0x2D,0x36,0x31,0x39,0x32,0xAD,0x00,0x0F]) [] =
      some ((bytes [0x41,0x45,0x4C,0x41,0x55,0x47,0x41,0x4E,0x20,0x46,0x5A,0x2D,0x36,0x31,0x39,0x32]) ++
        (bytes [0x41,0x45,0x4C,0x41,0x55,0x47,0x41,0x4E,0x20,0x46,0x5A,0x2D,0x36,0x31,0x39,0x32]) ++
        (bytes [0x41,0x45,0x4C,0x41,0x55,0x47,0x41,0x4E,0x20,0x46,0x5A,0x2D,0x36,0x31,0x39,0x32]) ++
        (bytes [0x41,0x45,0x4C,0x41,0x55,0x47,0x41,0x4E,0x20,0x46,0x5A,0x2D,0x36,0x31,0x39,0x32])) ∧
    residueDecode 1 32 (bytes [0x80,0x00,0x00,0x03,0xE8,0x00,0x00,0x03,0xEA,0xFC]) =
      some ((List.range 8).flatMap (fun k => le 4 (1000 + 2 * k))) := by decide +kernel

/-- The CHK value of CRC-32C over 123456789. -/
theorem test_crc32c : crc32c (bytes [0x31,0x32,0x33,0x34,0x35,0x36,0x37,0x38,0x39]) = 0xE3069283 := by decide +kernel

/-- The SPI read of chapter 21: STATE 2, PUPA_HOLD set. -/
theorem test_spi_read :
    (upWith 2 (·.putB Reg.GLB_BOOT_STATE 3 true)).dev.rdN Reg.GLB_BOOT_STATE = 0xA ∧ crc8 (bytes [0x03,0x00,0x20,0x00]) = 0x94 ∧
    crc8 (bytes [0x00,0x00,0x00,0x0A]) = 0x36 := by decide +kernel

/-- The addresses of chapter 22. -/
theorem test_addresses :
    Reg.FLT_THR_LEVEL 37 2 = 0x088964 ∧ Reg.QUE_Q_DEPTH 300 = 0x2C5B14 ∧ Reg.NET_PORT_RX_FCS_ERR 5 = 0x105114 ∧ regAt 0x105114 ≠ none ∧
    regAt 0x105158 ≠ none ∧ regAt 0x10515C = none := by decide +kernel

/-- The half-word read of chapter 22, and the write of an undefined address through SPI after it. -/
theorem test_half_word_read :
    (let s := ((up 6).read .pcie 3 0x105114).2.2
     s.dev.rdN Reg.GLB_ACC_ERR_CNT = 1 ∧ s.dev.rdN Reg.GLB_ACC_ERR_INFO = 0x381 ∧ s.dev.rdN Reg.GLB_ACC_ERR_ADDR = 0x105114) ∧
    (let s := ((((up 6).read .pcie 3 0x105114).2.2).write .spi 15 0x10515C 0).2
     s.dev.rdN Reg.GLB_ACC_ERR_CNT = 2 ∧ s.dev.rdN Reg.GLB_ACC_ERR_INFO = 0x3C1) := by decide +kernel

/-- Boundaries at 12/s (chapter 2), and the slot of chapter 9. -/
theorem test_boundaries :
    (List.range 4).map (fun k => slotNs 12 k) = [0, 83333333, 166666666, 250000000] ∧ slotNs 50 89008486425 = 1780169728500000000 := by decide +kernel

/-- The TIME of the DET_ON record of chapter 16. -/
theorem test_det_on_time : be 8 (1780169728 * 1000000000 + 17546000) = bytes [0x18,0xB4,0x6E,0xEF,0x96,0x63,0xBB,0x10] := by decide +kernel

/-- −0.13 Hz and 330° (chapter 0). -/
theorem test_phasor_words : beI 4 (-130000) = bytes [0xFF,0xFE,0x04,0x30] ∧ rdivN (330 * 65536) 360 = 0xEAAB ∧ sx 16 0xEAAB = -5461 := by decide +kernel

/-- The CHANNEL record of chapter 5 in the registers. -/
theorem test_channel_record :
    cfgRegs ⟨0x0502, 37, bytes [0x00,0x25,0x00,0x03,0x10,0x00,0x00,0x80,0x0A,0x00,0x00,0x00,0xFF,0xFF,0x00,0x03,0x02,0x47,0x02,0x80]⟩ =
      [(Reg.FLT_CH_CFG 37, 1 + 16 * 2 + 64 + 128 * 65536), (Reg.FLT_CH_PHASE_DLY 37, 0), (Reg.FLT_CH_FREEZE_CFG 37, 0x247 + 640 * 65536)] := by decide +kernel

/-! Ill-formed commands: one for each kind of check. -/

theorem test_ill_formed :
    [Instr.registerWrite 0 .pcie 16 0 0, .rcRead 0 .pcie 15 16777216, .latchedRead 0 .spi 16 0, .baseRateSample 0 5 [] [] [] [], .ptpMasterSend 0 8, .ppsEdge 0 2,
     .sourceLost 0 2, .cnvSnap 0 .pcie 4 0, .ckInj 0 .pcie 16 0, .firSwap 0 .pcie 256 0, .aoMinHoldEnd 0 16, .plcaLost 0 3, .plcaLost 0 8, .c37CmdDataOn 0 64,
     .gooseRetransmit 0 16, .commandRepeat 0 1024, .itemComplete 0 0 0 0 7, .tcpTimer 0 64, .tjMax 0 9 0, .queuePush 0 0 512 none [], .virtualServiceTick 0 512,
     .diChange 0 (2 ^ 64) 0, .waveBlock 0 8, .recRpConsume 0 .pcie 2, .wingHeartbeat 0 2 true true, .txnAck 0 2 [], .txnBadOp 0 .pcie 1, .txnBadOp 0 .pcie 8,
     .hostRingTake 0 8, .loopDone 0 8, .loopTimeout 0 5 0, .loopTimeout 0 3 1, .quadTone 0 .pcie 4 0, .ozLoopSerial 0 .pcie 2 0].map Instr.wf = List.replicate 34 false := by
  decide +kernel

/-- An ill-formed command changes the clock alone. -/
theorem test_ill_formed_runs : (match exec (.loopDone 7 8) (up 6) with | .next t => decide (t.dev = (up 6).dev.tick 7) | _ => false) = true := by decide +kernel

end Sys2Proof.Tests
end

/-! Accesses through the two host interfaces: those that are refused as a whole (O8), and what the others do by access code (O9). -/

namespace Sys2Proof.Machine

@[simp] theorem Dev.tick_copy (d : Dev) (t a : Nat) : (d.tick t).copy a = d.copy a := rfl

/-! REGISTER_WRITE, RC_READ and LATCHED_READ with operands in range. -/

theorem exec_registerWrite_wf (s : State) (n : Nat) (i : Iface) {en a : Nat} (v : Word) (hen : en < 16) (ha : a < 2 ^ 24) :
    exec (.registerWrite n i en a v) s = doneS s ((s.at n).write i en a v).2 := by
  rw [exec_registerWrite, if_pos (by simpa using ⟨hen, ha⟩)]

theorem exec_read_wf {c : Instr} (s : State) {n : Nat} {i : Iface} {en a : Nat} (hc : c = .rcRead n i en a ∨ c = .latchedRead n i en a)
    (hen : en < 16) (ha : a < 2 ^ 24) : exec c s = doneS s ((s.at n).read i en a).2.2 := by
  rcases hc with rfl | rfl
  · rw [exec_rcRead, if_pos (by simpa using ⟨hen, ha⟩)]
  · rw [exec_latchedRead, if_pos (by simpa using ⟨hen, ha⟩)]

/-- A whole-word REGISTER_WRITE ends as the commands that stand for a register write do. -/
theorem exec_registerWrite_word (s : State) (n : Nat) (i : Iface) {a : Nat} (v : Word) (ha : a < 2 ^ 24) :
    exec (.registerWrite n i 15 a v) s = hostRow s n true i a v := exec_registerWrite_wf s n i v (by decide) ha

/-- A whole-word RC_READ or LATCHED_READ ends as the commands that stand for a register read do. -/
theorem exec_read_word {c : Instr} (s : State) {n : Nat} {i : Iface} {a : Nat} (hc : c = .rcRead n i 15 a ∨ c = .latchedRead n i 15 a)
    (ha : a < 2 ^ 24) : exec c s = readRow s n true i a := exec_read_wf s hc (by decide) ha

/-! The cause with which a write is refused as a whole, in the order in which the causes are tried (R864). -/

section
variable {d : Dev} {ctl : Word} {i : Iface} {en a : Nat}

theorem writeRefused_partWord (h : a % 4 ≠ 0 ∨ en ≠ 15) : d.writeRefused ctl i en a = 1 := by
  have hw : (a % 4 != 0 || en != 15) = true := by simpa using h
  rw [Dev.writeRefused, if_pos hw]

/-- A whole word, not locked out, is refused for its address or not at all. -/
theorem writeRefused_unlocked (h4 : a % 4 = 0) (hl : bit ctl (if i = .spi then 0 else 1) = false) :
    d.writeRefused ctl i 15 a = if (regAt a).isNone then 5 else if 0x10000 ≤ a && !d.served then 6 else if d.viewRo a then 7 else 0 := by
  simp [Dev.writeRefused, h4, hl]

theorem writeRefused_locked (h4 : a % 4 = 0) (ha : a ≠ Reg.GLB_CTL) (hl : bit ctl (if i = .spi then 0 else 1) = true) :
    d.writeRefused ctl i 15 a = 8 := by
  simp [Dev.writeRefused, h4, ha, hl]

theorem writeRefused_undefined (h4 : a % 4 = 0) (hl : bit ctl (if i = .spi then 0 else 1) = false) (hr : regAt a = none) :
    d.writeRefused ctl i 15 a = 5 := by
  simp [writeRefused_unlocked h4 hl, hr]

theorem writeRefused_unserved (h4 : a % 4 = 0) (hl : bit ctl (if i = .spi then 0 else 1) = false) (hr : regAt a ≠ none) (hb : 0x10000 ≤ a)
    (hs : d.served = false) : d.writeRefused ctl i 15 a = 6 := by
  simp [writeRefused_unlocked h4 hl, hr, hb, hs]

theorem writeRefused_readOnlyView (h4 : a % 4 = 0) (hl : bit ctl (if i = .spi then 0 else 1) = false) (hr : regAt a ≠ none)
    (hs : d.served = true) (hv : d.viewRo a = true) : d.writeRefused ctl i 15 a = 7 := by
  simp [writeRefused_unlocked h4 hl, hr, hs, hv]

theorem readRefused_partWord (h : a % 4 ≠ 0 ∨ en ≠ 15) : readRefused en a = 1 := by
  have hw : (a % 4 != 0 || en != 15) = true := by simpa using h
  rw [readRefused, if_pos hw]

theorem readRefused_undefined (h4 : a % 4 = 0) (hr : regAt a = none) : readRefused 15 a = 5 := by simp [readRefused, h4, hr]

theorem readRefused_word (h4 : a % 4 = 0) (hr : regAt a ≠ none) : readRefused 15 a = 0 := by simp [readRefused, h4, hr]

end

/-! Accesses that are refused as a whole. -/

section
variable {s : State} {n : Nat} {i : Iface} {en a k : Nat}

/-- A REGISTER_WRITE that is refused as a whole has no effect but its access error (R862, R864). -/
theorem registerWrite_refused (v : Word) (hb : s.dev.boot ≠ 0) (hm : isMsix i a = false) (hen : en < 16) (ha : a < 2 ^ 24)
    (h : s.dev.writeRefused s.ctl i en a = k) (hk : k ≠ 0) :
    Ends (exec (.registerWrite n i en a v) s) { s with dev := (s.dev.tick n).accErr k true i en a v } := by
  rw [exec_registerWrite_wf s n i v hen ha, write_refused (s := s.at n) v hb hm h hk]
  exact Ends.of_doneS s _

/-- A read command that is refused as a whole returns zero, with its access error (R17, R859). -/
theorem readCommand_refused {c : Instr} (hc : c = .rcRead n i en a ∨ c = .latchedRead n i en a) (hb : s.dev.boot ≠ 0) (hm : isMsix i a = false)
    (hen : en < 16) (ha : a < 2 ^ 24) (h : readRefused en a = k) (hk : k ≠ 0) :
    Ends (exec c s) { s with dev := ((s.dev.tick n).accErr k false i en a 0).answer i 0 } := by
  rw [exec_read_wf s hc hen ha, read_refused (s := s.at n) hb hm h hk]
  exact Ends.of_doneS s _

/-- A read command of a block that is not served returns zero without an access error (R848). -/
theorem readCommand_unserved {c : Instr} (hc : c = .rcRead n i 15 a ∨ c = .latchedRead n i 15 a) (hb : s.dev.boot ≠ 0) (ha : a < 2 ^ 24)
    (h4 : a % 4 = 0) (hr : regAt a ≠ none) (hlo : 0x10000 ≤ a) (hs : s.dev.served = false) :
    Ends (exec c s) { s with dev := (s.dev.tick n).answer i 0 } := by
  obtain ⟨r, hr'⟩ := Option.ne_none_iff_exists'.mp hr
  rw [exec_read_wf s hc (by decide) ha, read_unserved (s := s.at n) hb (readRefused_word h4 hr) hr' hlo hs]
  exact Ends.of_doneS s _

end

/-- Settles O8: one use of `registerWrite_refused` for each cause of a refused write, and of the rules of a refused and of an unserved read. -/
theorem refusedAccesses : Obligations.RefusedAccesses := by
  intro s n i en a v hb hen ha hm
  refine ⟨fun h => ?partWord, fun h4 hctl hl => ?locked, fun h4 hl hr => ?undefined, fun h4 hl hr hlo hs => ?unserved, fun h4 hl hr hs hv => ?view,
    fun c hc => ⟨fun h => ?readPartWord, fun h4 he hr => ?readUndefined, fun h4 he hr hlo hs => ?readUnserved⟩⟩
  case partWord => exact registerWrite_refused v hb hm hen ha (writeRefused_partWord h) (by decide)
  case locked => exact registerWrite_refused v hb hm (by decide) ha (writeRefused_locked h4 hctl hl) (by decide)
  case undefined => exact registerWrite_refused v hb hm (by decide) ha (writeRefused_undefined h4 hl hr) (by decide)
  case unserved => exact registerWrite_refused v hb hm (by decide) ha (writeRefused_unserved h4 hl hr hlo hs) (by decide)
  case view => exact registerWrite_refused v hb hm (by decide) ha (writeRefused_readOnlyView h4 hl hr hs hv) (by decide)
  case readPartWord => exact readCommand_refused hc hb hm hen ha (readRefused_partWord h) (by decide)
  case readUndefined =>
    subst he
    exact readCommand_refused hc hb hm hen ha (readRefused_undefined h4 hr) (by decide)
  case readUnserved =>
    subst he
    exact readCommand_unserved hc hb ha h4 hr hlo hs

/-! A granted write, by the access code of its row (R18). -/

section
variable {s : State} {n : Nat} {i : Iface} {a : Nat} {v : Word} {r : RegRow}

theorem rowWrite_ro (d : Dev) (hacc : r.acc = .ro) : d.rowWrite r i a v = (2, d) := by simp only [Dev.rowWrite, hacc]

theorem rowWrite_rc (d : Dev) (hacc : r.acc = .rc) : d.rowWrite r i a v = (3, d) := by simp only [Dev.rowWrite, hacc]

theorem rowWrite_w1c (d : Dev) (hacc : r.acc = .w1c) :
    d.rowWrite r i a v = (0, (d.w1c (d.copy a) (v &&& w32 r.wmask)).intAgain d a) := by simp only [Dev.rowWrite, hacc]

/-- A command that stands for a register write whose row answers an access error and changes nothing besides. -/
theorem hostRow_accErr {k : Nat} (h : s.canWrite i a) (ha : a ≠ Reg.GLB_CTL) (hr : regAt a = some r)
    (hw : (s.dev.tick n).rowWrite r i a v = (k, s.dev.tick n)) (hk : k ≠ 0) :
    Ends (hostRow s n true i a v) { s with dev := (s.dev.tick n).accErr k true i 15 a v } := by
  obtain ⟨g, w, he⟩ := (s.dev.tick n).accErr_eq k true i 15 a v
  have hc : ((s.dev.tick n).accErr k true i 15 a v).resetCtr = s.dev.resetCtr := by rw [he]; rfl
  have hx := write_granted (s := s.at n) v ((at_canWrite s n i a).mpr h) ha hr
  simp only [State.at_dev, hw, if_neg hk, hc, Dev.tick_resetCtr, if_true, State.at_ctl] at hx
  have e : hostRow s n true i a v = doneS s { s with dev := (s.dev.tick n).accErr k true i 15 a v } := by
    simp only [hostRow, if_true, hx]
    rfl
  rw [e]
  exact Ends.of_doneS s _

/-- A granted write to a W1C register: each 1 clears its bit, but for those of the tick that runs (R18, R19). -/
theorem hostRow_w1c (h : s.canWrite i a) (ha : a ≠ Reg.GLB_CTL) (hr : regAt a = some r) (hacc : r.acc = .w1c) :
    Ends (hostRow s n true i a v) { s with dev := (s.dev.tick n).w1c (s.dev.copy a) (v &&& w32 r.wmask) } := by
  obtain ⟨p, m, x, hx⟩ := intAgain_eq ((s.dev.tick n).w1c (s.dev.copy a) (v &&& w32 r.wmask)) (s.dev.tick n) a
  refine Ends.absorb (t := { s with dev := (s.dev.tick n).w1c (s.dev.copy a) (v &&& w32 r.wmask) })
    (hostRow_ends h ha hr (rowWrite_w1c _ hacc) (by rw [Dev.tick_copy, hx]; rfl)) ⟨s.dev.txn.rollback, s.dev.host.summary, p, m, x, ?_⟩
  rw [Dev.tick_copy, hx]
  rfl

end

/-! Writes that do nothing but hold their value. Which registers act depends on the address alone, so that one machine tells it for all. -/

/-- The action of a write to a register, none where the register only holds its value. -/
def Dev.action (d : Dev) (i : Iface) (a : Nat) (v : Word) : Option Dev :=
  if a < 0x10000 then d.actGlb a v
  else if a < 0x20000 then d.actUnit i a v
  else if a < 0x100000 then d.actLocal a v
  else if a < 0x380000 then d.actWide a v
  else d.actUnit i a v

theorem regAct_eq (d : Dev) (i : Iface) (a : Nat) (v : Word) : d.regAct i a v = (d.action i a v).getD (d.setAll a v) := by
  unfold Dev.regAct Dev.action
  simp only [apply_ite (Option.getD · (d.setAll a v))]

theorem actGlb_isNone (d e : Dev) (a : Nat) (v w : Word) : (d.actGlb a v).isNone = (e.actGlb a w).isNone := by
  simp only [Dev.actGlb, apply_ite Option.isNone, Option.isNone_some, Option.isNone_none]

theorem actLocal_isNone (d e : Dev) (a : Nat) (v w : Word) : (d.actLocal a v).isNone = (e.actLocal a w).isNone := by
  simp only [Dev.actLocal, apply_ite Option.isNone, Option.isNone_some, Option.isNone_none]

theorem actWide_isNone (d e : Dev) (a : Nat) (v w : Word) : (d.actWide a v).isNone = (e.actWide a w).isNone := by
  simp only [Dev.actWide, apply_ite Option.isNone, Option.isNone_some, Option.isNone_none]

theorem actUnit_isNone (d e : Dev) (i j : Iface) (a : Nat) (v w : Word) : (d.actUnit i a v).isNone = (e.actUnit j a w).isNone := by
  simp only [Dev.actUnit, apply_ite Option.isNone, Option.isNone_some, Option.isNone_none]

theorem action_isNone (d e : Dev) (i j : Iface) (a : Nat) (v w : Word) : (d.action i a v).isNone = (e.action j a w).isNone := by
  simp only [Dev.action, apply_ite Option.isNone]
  rw [actGlb_isNone d e a v w, actLocal_isNone d e a v w, actWide_isNone d e a v w, actUnit_isNone d e i j a v w]

/-- A write to the register at an address has no action. -/
def holdsOnly (a : Nat) : Bool := (State.reset.dev.action .pcie a 0).isNone

/-- A write to a register that only holds its value sets every copy of it (R867). -/
theorem regAct_holdsOnly (d : Dev) (i : Iface) {a : Nat} (h : holdsOnly a = true) (v : Word) : d.regAct i a v = d.setAll a v := by
  have hn : d.action i a v = none := by
    rw [← Option.isNone_iff_eq_none, action_isNone d State.reset.dev i .pcie a v 0]
    exact h
  rw [regAct_eq, hn, Option.getD_none]

/-! The INT_EN registers of the block vectors (R822). -/

/-- The row of an INT_EN register: an RW register every code of which is defined and no bit of which acts. -/
def RegRow.IsPlainRw (r : RegRow) : Prop := r.acc = .rw ∧ r.act = 0 ∧ r.ranges = []

/-- A write to such a row replaces its writable bits and keeps the others (R18). -/
theorem RegRow.IsPlainRw.merge {r : RegRow} (h : r.IsPlainRw) (old v : Word) :
    r.merge old v = ((old &&& ~~~ w32 r.wmask) ||| (v &&& w32 r.wmask), false) := by
  obtain ⟨_, hact, hranges⟩ := h
  simp [RegRow.merge, hact, hranges]

theorem intEn_isPlainRw {k : Nat} {r : RegRow} (hk : k < 36) (hk8 : 8 ≤ k) (hr : regAt (intStatusOf k + 4) = some r) : r.IsPlainRw := by
  have all : ∀ k < 36, 8 ≤ k → ((regAt (intStatusOf k + 4)).all fun r => decide (r.acc = .rw ∧ r.act = 0 ∧ r.ranges = [])) = true := by
    decide +kernel
  simpa [hr, RegRow.IsPlainRw] using all k hk hk8

theorem intEn_ne : ∀ k < 36, 8 ≤ k → intStatusOf k + 4 ≠ Reg.GLB_CTL ∧ intStatusOf k + 4 ≠ Reg.GLB_RESET_CTL ∧
    (∀ p < 2, intStatusOf k + 4 ≠ Reg.REC_RP_QUOTA p) ∧ ∀ p < 8, intStatusOf k + 4 ≠ Reg.TST_PORT_GEN p := by decide +kernel

theorem intEn_holdsOnly : ∀ k < 36, 8 ≤ k → holdsOnly (intStatusOf k + 4) = true := by decide +kernel

@[simp] theorem Dev.setAll_resetCtr (d : Dev) (a : Nat) (v : Word) : (d.setAll a v).resetCtr = d.resetCtr := by
  unfold Dev.setAll
  split
  · rw [Dev.wr_resetCtr, Dev.wr_resetCtr]
  · exact d.wr_resetCtr a v

/-- A granted write to an INT_EN register replaces its writable bits in every copy (R823, R867). -/
theorem hostRow_intEn {s : State} {n : Nat} {i : Iface} {v : Word} {r : RegRow} {k : Nat} (hk : k < 36) (hk8 : 8 ≤ k)
    (h : s.canWrite i (intStatusOf k + 4)) (hr : regAt (intStatusOf k + 4) = some r) :
    Ends (hostRow s n true i (intStatusOf k + 4) v) { s with
      dev := (s.dev.tick n).setAll (intStatusOf k + 4)
        ((s.dev.rd (s.dev.copy (intStatusOf k + 4)) &&& ~~~ w32 r.wmask) ||| (v &&& w32 r.wmask)) } := by
  have hrow := intEn_isPlainRw hk hk8 hr
  exact hostRow_act h hr (.inl hrow.1) (hrow.merge _ v) (intEn_ne k hk hk8) (regAct_holdsOnly _ i (intEn_holdsOnly k hk hk8) _)
    (Dev.setAll_resetCtr _ _ _)

/-! Reads of a register that captures nothing. Which registers capture depends on the address alone. -/

theorem capture_isNone (d e : Dev) (i j : Iface) (a : Nat) : (d.capture i a).isNone = (e.capture j a).isNone := by
  simp only [Dev.capture, apply_ite Option.isNone, Option.isNone_some, Option.isNone_none]

theorem capture_none (d : Dev) (i : Iface) {a : Nat} (h : (State.reset.dev.capture .pcie a).isNone = true) : d.capture i a = none := by
  rw [← Option.isNone_iff_eq_none, capture_isNone d State.reset.dev i .pcie a]
  exact h

section
variable {d : Dev} {ctl : Word} {r : RegRow} {i : Iface} {a : Nat}

/-- A read of a latched half or of a view returns what was captured (R865). -/
theorem rowRead_latched (hcap : d.capture i a = none) (hacc : r.acc ≠ .wo) (h : (isView a || isLatched a) = true) :
    d.rowRead ctl r i a = (d.latched i a, d) := by
  simp only [Dev.rowRead, hcap, if_neg hacc, if_pos h]

/-- A clearing read that latches nothing (R18, R20). -/
theorem rowRead_rc (hcap : d.capture i a = none) (hacc : r.acc = .rc) (hv : isView a = false) (hl : isLatched a = false) (hlo : latchOf a = []) :
    d.rowRead ctl r i a = d.rcTake (d.copy a) (d.show ctl i a) (w32 r.reset) := by
  simp [Dev.rowRead, hcap, hacc, hv, hl, hlo]

/-- A read of a _LO register that is not cleared by it: what it shows, the _HI half latched for its interface (R865). -/
theorem rowRead_lo (hcap : d.capture i a = none) (hwo : r.acc ≠ .wo) (hrc : r.acc ≠ .rc) (hv : isView a = false) (hl : isLatched a = false)
    (hlo : latchOf a = [a + 4]) : d.rowRead ctl r i a = (d.show ctl i a, d.latch i (a + 4) (d.show ctl i (a + 4))) := by
  simp [Dev.rowRead, hcap, hwo, hrc, hv, hl, hlo]

/-- A clearing read of a register to which the tick contributed nothing. -/
theorem rcTake_unmarked {v reset : Word} (h : d.mark a = none) : d.rcTake a v reset = (v, d.wr a reset) := by
  simp only [Dev.rcTake, h]

/-- A clearing read of a register to which the tick contributed: the value before, the contribution kept (R20). -/
theorem rcTake_marked {v reset : Word} {m : HwMark} (h : d.mark a = some m) :
    d.rcTake a v reset = (m.pre, { d.wr a m.new with hw := ⟨d.tim.clk, tput d.hw.marks a { m with pre := reset }⟩ }) := by
  simp only [Dev.rcTake, h]

end

/-! The pair ISL_UPD_SEQ (R517, R865). -/

/-- The row of both halves. -/
def updSeqRow (a : Nat) : RegRow := ⟨a, [], .ro, 0, 0, 0, []⟩

theorem updSeqLo_row : regAt Reg.ISL_UPD_SEQ_LO = some (updSeqRow Reg.ISL_UPD_SEQ_LO) := by decide +kernel
theorem updSeqHi_row : regAt Reg.ISL_UPD_SEQ_HI = some (updSeqRow Reg.ISL_UPD_SEQ_HI) := by decide +kernel

theorem rowRead_updSeqLo (d : Dev) (ctl : Word) (i : Iface) : d.rowRead ctl (updSeqRow Reg.ISL_UPD_SEQ_LO) i Reg.ISL_UPD_SEQ_LO =
    (d.show ctl i Reg.ISL_UPD_SEQ_LO, d.latch i Reg.ISL_UPD_SEQ_HI (d.show ctl i Reg.ISL_UPD_SEQ_HI)) :=
  rowRead_lo (capture_none d i (by decide +kernel)) (by decide) (by decide) (by decide +kernel) (by decide +kernel) (by decide +kernel)

theorem rowRead_updSeqHi (d : Dev) (ctl : Word) (i : Iface) : d.rowRead ctl (updSeqRow Reg.ISL_UPD_SEQ_HI) i Reg.ISL_UPD_SEQ_HI =
    (d.latched i Reg.ISL_UPD_SEQ_HI, d) :=
  rowRead_latched (capture_none d i (by decide +kernel)) (by decide) (by decide +kernel)

@[simp] theorem Dev.answer_rd (d : Dev) (i : Iface) (v : Word) (b : Nat) : (d.answer i v).rd b = d.rd b := by
  unfold Dev.answer
  split <;> rfl

/-- The data are on the interface that read. -/
theorem Dev.answer_rdata (d : Dev) (i : Iface) (v : Word) :
    if i = .spi then (d.answer i v).host.rdataS = v else (d.answer i v).host.rdataP = v := by
  cases i <;> rfl

/-- Settles O9: the rows of each access code, and of the pair ISL_UPD_SEQ. -/
theorem accessCodes : Obligations.AccessCodes := by
  refine ⟨fun s n i a v r h ha hlt hr => ?writes, fun s n i a r h hlt hr hacc hv hl hlo hcap => ?clearingReads, fun s n i h => ?latchedReads⟩
  case writes =>
    rw [exec_registerWrite_word s n i v hlt]
    refine ⟨fun hacc => ?ro, fun hacc => ?rc, fun hacc => ?w1c, fun k hk hk8 hak => ?intEn⟩
    case ro => exact hostRow_accErr h ha hr (rowWrite_ro _ hacc) (by decide)
    case rc => exact hostRow_accErr h ha hr (rowWrite_rc _ hacc) (by decide)
    case w1c => exact hostRow_w1c h ha hr hacc
    case intEn =>
      subst hak
      exact hostRow_intEn hk hk8 h hr
  case clearingReads =>
    rw [exec_read_word s (.inl rfl) hlt]
    have hrow := rowRead_rc (ctl := s.ctl) hcap hacc hv hl hlo
    rw [Dev.tick_copy] at hrow
    refine ⟨fun hm => ?unmarked, fun m hm => ?marked⟩
    case unmarked => exact readRow_ends h hr (hrow.trans (rcTake_unmarked hm))
    case marked =>
      refine (readRow_ends h hr (hrow.trans (rcTake_marked hm))).with fun _ _ _ _ _ => ⟨?_, fun b hb => ?_, Dev.answer_rdata _ i m.pre⟩
      · rw [Dev.ended_rd, Dev.answer_rd]
        exact Dev.rd_wr_same _ _ _
      · rw [Dev.ended_rd, Dev.answer_rd]
        exact Dev.rd_wr_ne _ hb _
  case latchedReads =>
    obtain ⟨hb, _, hs⟩ := h
    rw [exec_read_word s (.inr rfl) (by decide), exec_read_word s (.inr rfl) (by decide)]
    refine ⟨?lo, ?hi⟩
    case lo => exact readRow_ends ⟨hb, by decide +kernel, hs⟩ updSeqLo_row (rowRead_updSeqLo _ _ i)
    case hi => exact readRow_ends ⟨hb, by decide +kernel, fun _ => hs (by decide)⟩ updSeqHi_row (rowRead_updSeqHi _ _ i)

end Sys2Proof.Machine

/-! Bring-up (O14). Loading a configuration writes every entry of the register store back in the order of the store (R793), so that of two entries for one
register, which no store in canonical form has, a read finds the first before the load and the last after it. -/

namespace Sys2Proof.Machine

open Tests

/-- The machine `stored` of the tests, in pupa with a slot that qualifies, with GLB_BOOT_STATE twice in its register store: first without PUPA_HOLD, then with it. -/
def relisted : State :=
  { stored with dev := { stored.dev with regs := [(Reg.GLB_BOOT_STATE, 2), (Reg.GLB_BOOT_STATE, 10), (Reg.GLB_STATE_TIME 1, 0)] } }

/-- The candidate that validation looks at. -/
def relistedCfg : Dev := relisted.dev.takeCfg (cfgChain [(2, storedDelta)])

theorem relisted_tick : relisted.dev.tick 0 = relisted.dev := rfl

/-- Queues of no words whose configuration registers are 0 break no rule, whatever the configuration before. -/
theorem badQueues_nil {d old : Dev} (hw : sumN (((List.range 320).map (192 + ·)).map d.qWords) = 0)
    (hq : ∀ q ∈ (List.range 320).map (192 + ·), d.rd (Reg.QUE_Q_CFG q) = 0) : d.badQueues old = [] := by
  have hdev : Config.queDevWords ≤ 1048576 := by have := Config.queDevWordsOf.isLt; simp only [Config.queDevWords]; omega
  rw [Dev.badQueues, List.append_eq_nil_iff, List.flatMap_eq_nil_iff]
  refine ⟨by simp only [hw, failIf, Nat.add_zero, decide_eq_true_eq, if_neg (Nat.not_lt.mpr hdev)], fun q hmem => ?_⟩
  simp [hq q hmem, failIf, bit, bits]

theorem relisted_breaks : relisted.dev.breaks (cfgChain [(2, storedDelta)]) true = [] := by
  have hbefore : relistedCfg.badBase relisted.dev true ++ relistedCfg.badFields ++ relistedCfg.badRegs ++ relistedCfg.badLocal ++ relistedCfg.badPorts ++
      relistedCfg.badIngress ++ relistedCfg.badStreams ++ relistedCfg.badOsc ++ relistedCfg.badIsl ++ relistedCfg.badSched = [] := by decide +kernel
  have hafter : relistedCfg.badAcq ++ relistedCfg.badSafety = [] := by decide +kernel
  have hqueues : relistedCfg.badQueues relisted.dev = [] := badQueues_nil (by decide +kernel) (by decide +kernel)
  rw [Dev.breaks, ← relistedCfg, Dev.failing, hbefore, hqueues, List.append_nil, List.nil_append, hafter]

/-- Slot 1 qualifies, whatever SHA-256 gives for it, and its configuration passes validation. -/
theorem relisted_bestSlot : relisted.dev.bestSlot = some 1 := by
  have h0 : relisted.dev.qualifies 0 = false := by decide +kernel
  have hx : relisted.dev.nvSlot 1 = ⟨2, 7, ((State.reset.dev.nvSlot 1).gen), [(2, storedDelta)], Config.sha256 (chainBytes [(2, storedDelta)])⟩ := rfl
  have h1 : relisted.dev.qualifies 1 = true := by simp [Dev.qualifies, hx]
  have ht : relisted.dev.takenSlot = some 1 := by simp [Dev.takenSlot, h0, h1]
  simp only [Dev.bestSlot, ht, hx, relisted_breaks]
  rfl

/-- After the load the second entry is read: pupa with PUPA_HOLD. -/
theorem relisted_loaded : ((relisted.dev.putB Reg.GLB_BOOT_STATE 4 false).loadSlot 1).rd Reg.GLB_BOOT_STATE = 10 := by decide +kernel

/-- IMAGE_LOADED under a PUPA_HOLD that the machine shows after the load (R849). -/
theorem imageLoaded_held {d : Dev} {k : Nat} (hpupa : d.boot = 2) (hforce : d.txn.inForce = none) (hslot : d.bestSlot = some k)
    (hheld : ((d.putB Reg.GLB_BOOT_STATE 4 false).loadSlot k).flag Reg.GLB_BOOT_STATE 3 = true) :
    d.imageLoaded = (d.putB Reg.GLB_BOOT_STATE 4 false).loadSlot k := by
  simp [Dev.imageLoaded, hpupa, hforce, hslot, hheld]

theorem relisted_imageLoaded : relisted.dev.imageLoaded.boot = 2 := by
  rw [imageLoaded_held (by decide +kernel) rfl relisted_bestSlot (by rw [Dev.flag, relisted_loaded]; rfl), Dev.boot, Dev.fld, relisted_loaded]
  rfl

/-- Refutes O14: the clause of IMAGE_LOADED, by a register store that is not in canonical form, which the statement does not exclude. `relisted` shows no
PUPA_HOLD, so that the statement wants CALIBRATE; the load brings its second entry for GLB_BOOT_STATE forward, and PUPA_HOLD holds the device in pupa. -/
theorem not_bringUp : ¬ Obligations.BringUp := by
  rintro ⟨-, himage, -, -⟩
  obtain ⟨t, ht, -, -, -, hboot, -⟩ := (himage relisted 0 (by decide +kernel) rfl).2 1 (by rw [relisted_tick]; exact relisted_bestSlot)
  obtain ⟨r, u, p, m, x, h⟩ := devRow_ends relisted 0 Dev.imageLoaded
  rw [exec_imageLoaded, h, relisted_tick, Host.Outcome.next.injEq] at ht
  rw [← ht, Dev.ended_boot, relisted_imageLoaded] at hboot
  exact absurd hboot (by decide +kernel)

end Sys2Proof.Machine

/-! What records, links and loop-backs leave of the machine: what a reset takes over from the machine before. -/

namespace Sys2Proof.Machine

/-- What a reset takes over from the machine before, whatever it is: the nonvolatile die, the recorder ring in DRAM, the count of entries to RESET. -/
def Dev.lasting (d : Dev) : NvDie × RecRing × Nat := (d.nv, d.evr.dram, d.resetCtr)

section
variable (d : Dev)

@[simp] theorem Dev.wr_lasting (a : Nat) (v : Word) : (d.wr a v).lasting = d.lasting := rfl
@[simp] theorem Dev.wrN_lasting (a v : Nat) : (d.wrN a v).lasting = d.lasting := rfl
@[simp] theorem Dev.incW_lasting (a n : Nat) : (d.incW a n).lasting = d.lasting := rfl
@[simp] theorem Dev.putF_lasting (a hi lo v : Nat) : (d.putF a hi lo v).lasting = d.lasting := rfl
@[simp] theorem Dev.putB_lasting (a k : Nat) (b : Bool) : (d.putB a k b).lasting = d.lasting := rfl
@[simp] theorem Dev.raise_lasting (a k : Nat) : (d.raise a k).lasting = d.lasting := rfl
@[simp] theorem Dev.emit_lasting (x : Sent) : (d.emit x).lasting = d.lasting := rfl
@[simp] theorem Dev.modPort_lasting (p : Nat) (f : Port → Port) : (d.modPort p f).lasting = d.lasting := rfl
@[simp] theorem Dev.loc_lasting (l : Local) : ({ d with loc := l } : Dev).lasting = d.lasting := rfl
@[simp] theorem Dev.modLoop_lasting (k i : Nat) (f : Loop → Loop) : (d.modLoop k i f).lasting = d.lasting := rfl
@[simp] theorem Dev.setGen_lasting (p : Nat) (g : Option LoopGen) : (d.setGen p g).lasting = d.lasting := rfl

@[simp] theorem Dev.inc_lasting (a n : Nat) : (d.inc a n).lasting = d.lasting := by
  obtain ⟨_, _, h⟩ := d.inc_eq a n
  rw [h]
  rfl

/-- The intake of a record leaves the ring in DRAM (R661, R664). -/
theorem Dev.intake_dram (r : RecIn) : (d.intake r).evr.dram = d.evr.dram := by
  obtain ⟨_, _, h⟩ := d.inc_eq Reg.REC_LOST_CNT 1
  unfold Dev.intake
  split
  case isTrue =>
    split
    · rfl
    · rw [h]; dsimp only; split <;> rfl
  case isFalse =>
    dsimp only
    split
    · rfl
    · rw [h]

/-- A record changes registers, the notes of the tick and the recorder, and leaves the ring in DRAM. -/
theorem Dev.record_eq_dram (typ : Nat) (b : Bytes) :
    ∃ g h e, d.record typ b = { d with regs := g, hw := h, evr := e } ∧ e.dram = d.evr.dram := by
  obtain ⟨g, h, e, hr⟩ := d.record_eq typ b
  refine ⟨g, h, e, hr, ?_⟩
  have hdram : (d.record typ b).evr.dram = d.evr.dram := by
    unfold Dev.record Dev.recordAt
    dsimp only
    split <;> exact d.intake_dram _
  rwa [hr] at hdram

@[simp] theorem Dev.record_lasting (typ : Nat) (b : Bytes) : (d.record typ b).lasting = d.lasting := by
  obtain ⟨_, _, _, hr, hdram⟩ := d.record_eq_dram typ b
  rw [hr]
  exact congrArg (fun x => (d.nv, x, d.resetCtr)) hdram

/-! Links and loop-backs (R288, R873). -/

@[simp] theorem Dev.latLoad_lasting (p : Nat) : (d.latLoad p).lasting = d.lasting := by
  unfold Dev.latLoad
  split <;> rfl

@[simp] theorem Dev.linkRecord_lasting (p : Nat) (up : Bool) : (d.linkRecord p up).lasting = d.lasting := by simp [Dev.linkRecord]

@[simp] theorem Dev.advertise_lasting (p : Nat) : (d.advertise p).lasting = d.lasting := by simp [Dev.advertise, apply_ite Dev.lasting]

@[simp] theorem Dev.plcaReview_lasting (p : Nat) : (d.plcaReview p).lasting = d.lasting := by
  simp [Dev.plcaReview, Dev.plcaDown, Dev.plcaRise, apply_ite Dev.lasting]

@[simp] theorem Dev.dupCheck_lasting (p : Nat) : (d.dupCheck p).lasting = d.lasting := by simp [Dev.dupCheck, apply_ite Dev.lasting]

@[simp] theorem Dev.relink_lasting (p : Nat) : (d.relink p).lasting = d.lasting := by simp [Dev.relink, apply_ite Dev.lasting]

@[simp] theorem Dev.settleStart_lasting (n : Nat) : (d.settleStart n).lasting = d.lasting := by
  simp [Dev.settleStart, Dev.chFlag, Dev.vcFlag, apply_ite Dev.lasting]

@[simp] theorem Dev.quadSettle_lasting (q mask : Nat) : (d.quadSettle q mask).lasting = d.lasting := by
  unfold Dev.quadSettle
  split
  · rfl
  · exact foldUp_keeps Dev.lasting 48 _ (fun j e => by simp [apply_ite Dev.lasting]) d

@[simp] theorem Dev.loopFinish_lasting (kind idx mask : Nat) : (d.loopFinish kind idx mask).lasting = d.lasting := by
  simp [Dev.loopFinish, apply_ite Dev.lasting]

@[simp] theorem Dev.loopEnd_lasting (kind idx cause : Nat) : (d.loopEnd kind idx cause).lasting = d.lasting := by
  simp [Dev.loopEnd, Dev.loopRecord, apply_ite Dev.lasting]

@[simp] theorem Dev.loopsReset_lasting : d.loopsReset.lasting = d.lasting :=
  foldl_keeps Dev.lasting loopObjects _ (fun e x => e.loopEnd_lasting x.1 x.2 2) d

end

/-! The entry to RESET (R39, R839). -/

section
variable (d : Dev) (cause : Nat)

/-- The machine that a reset makes of `d`, whose loop-backs have ended, before STATE and the cause are set: a fresh one with what the reset takes over. -/
def Dev.anew : Dev :=
  let new := Dev.fresh d.nv { d.pins with ppsOut := false, aoCmd := 0, aoReleased := 0, pwrHold := false }
  let new := { new with freeCtr := d.freeCtr, resetCtr := d.resetCtr + 1, host := { new.host with mem := d.host.mem, sent := d.host.sent } }
  (if cause = 0 then new else new.keepJournal d).keepCmds d (cause != 0)

theorem Dev.toReset_eq : d.toReset cause =
    (((d.loopsReset.anew cause).putF Reg.GLB_BOOT_STATE 2 0 0).putB Reg.GLB_BOOT_STATE 6 (cause != 0)).putF Reg.GLB_RESET_CAUSE 3 0 cause := rfl

theorem Dev.anew_lasting : (d.anew cause).lasting = (d.nv, if cause = 0 then ⟨[], []⟩ else d.evr.dram, d.resetCtr + 1) := by
  unfold Dev.anew
  split <;> rfl

theorem Dev.anew_rd (a : Nat) : (d.anew cause).rd a = resetOf (a % wingOfs) := by
  unfold Dev.anew
  split <;> rfl

theorem Dev.anew_txn : (d.anew cause).txn.cfg = [] ∧ (d.anew cause).txn.inForce = none := by
  unfold Dev.anew
  split <;> exact ⟨rfl, rfl⟩

theorem Dev.anew_holder : (d.anew cause).units.holder = none := by
  unfold Dev.anew
  split <;> rfl

/-- The entry to RESET keeps the nonvolatile die, and the recorder ring unless the cause is a power-on. -/
theorem Dev.toReset_lasting : (d.toReset cause).lasting = (d.nv, if cause = 0 then ⟨[], []⟩ else d.evr.dram, d.resetCtr + 1) := by
  have hl := d.loopsReset_lasting
  simp only [Dev.lasting, Prod.mk.injEq] at hl
  obtain ⟨hnv, hdram, hctr⟩ := hl
  rw [Dev.toReset_eq, Dev.putF_lasting, Dev.putB_lasting, Dev.putF_lasting, Dev.anew_lasting, hnv, hdram, hctr]

/-- No configuration or instar is in force and nobody holds the claim. -/
theorem Dev.toReset_idle : (d.toReset cause).txn.cfg = [] ∧ (d.toReset cause).txn.inForce = none ∧ (d.toReset cause).units.holder = none := by
  obtain ⟨hcfg, hforce⟩ := d.loopsReset.anew_txn cause
  simp only [Dev.toReset_eq, Dev.putB, Dev.putF, Dev.wr_txn, Dev.wr_units, hcfg, hforce, Dev.anew_holder, and_self]

theorem Dev.toReset_boot : (d.toReset cause).boot = 0 := by
  rw [Dev.boot, Dev.toReset_eq, Dev.fld_putF_ne _ _ _ _ _ _ _ _ (by decide) (.inl (by decide)), Dev.putB,
    Dev.fld_putF_ne _ _ _ _ _ _ _ _ (by decide) (.inr (.inl (by decide))), Dev.fld_putF _ _ _ _ _ (by decide)]
  rfl

theorem Dev.toReset_cause : (d.toReset cause).fld Reg.GLB_RESET_CAUSE 3 0 = cause % 16 := by
  exact Dev.fld_putF _ _ _ _ _ (by decide)

/-- Every register but GLB_BOOT_STATE and GLB_RESET_CAUSE is at reset. -/
theorem Dev.toReset_rd {a : Nat} (hb : a ≠ Reg.GLB_BOOT_STATE) (hc : a ≠ Reg.GLB_RESET_CAUSE) : (d.toReset cause).rd a = resetOf (a % wingOfs) := by
  rw [Dev.toReset_eq, Dev.rd_putF_ne _ hc, Dev.putB, Dev.rd_putF_ne _ hb, Dev.rd_putF_ne _ hb, Dev.anew_rd]

end

/-! The entry to SELFTEST (R73, R74, R846). -/

/-- What the first record, the key store and a restored save leave as the entry to SELFTEST has set it. -/
structure Dev.EpochParts where
  slot0 : Slot
  slot1 : Slot
  epoch : Nat
  tim : Tim
  holder : Option Nat
  pins : Pins
  dram : RecRing
  resets : Nat
  cfg : List CfgRec
  inForce : Option Nat

def Dev.epochParts (d : Dev) : Dev.EpochParts :=
  ⟨d.nv.slot0, d.nv.slot1, d.nv.powerEpoch, d.tim, d.units.holder, d.pins, d.evr.dram, d.resetCtr, d.txn.cfg, d.txn.inForce⟩

section
variable (d : Dev)

@[simp] theorem Dev.record_epochParts (typ : Nat) (b : Bytes) : (d.record typ b).epochParts = d.epochParts := by
  obtain ⟨_, _, _, hr, hdram⟩ := d.record_eq_dram typ b
  rw [hr]
  simp [Dev.epochParts, hdram]

theorem Dev.record_rd_ne (typ : Nat) (b : Bytes) {a : Nat} (h : a ≠ Reg.REC_LOST_CNT) : (d.record typ b).rd a = d.rd a := by
  have intake (r : RecIn) : (d.intake r).rd a = d.rd a := by
    have hinc : ∀ e : Recorder, ({ d.inc Reg.REC_LOST_CNT 1 with evr := e } : Dev).rd a = d.rd a := fun e => Dev.rd_inc_ne d 1 h
    unfold Dev.intake
    split
    · split
      · rfl
      · dsimp only
        split <;> exact hinc _
    · dsimp only
      split
      · rfl
      · exact hinc _
  unfold Dev.record Dev.recordAt
  dsimp only
  split <;> exact intake _

@[simp] theorem Dev.wrN_epochParts (a v : Nat) : (d.wrN a v).epochParts = d.epochParts := rfl

theorem Dev.macLoad_epochParts : d.macLoad.epochParts = d.epochParts := by
  rw [Dev.macLoad]
  exact foldUp_keeps Dev.epochParts 8 _ (fun p e => by simp only [Dev.wrN_epochParts]) d

theorem Dev.macLoad_rd {a : Nat} (h : a < 0x100000) : d.macLoad.rd a = d.rd a := by
  refine foldUp_keeps (fun d : Dev => d.rd a) 8 _ (fun p e => ?_) d
  dsimp only
  rw [Dev.wrN, Dev.rd_wr_ne _ (by unfold Reg.NET_PORT_MAC_LO; omega), Dev.wrN, Dev.rd_wr_ne _ (by unfold Reg.NET_PORT_MAC_HI; omega)]

theorem Dev.keyStart_epochParts (test : Bool) : (d.keyStart test).epochParts = d.epochParts := by
  unfold Dev.keyStart
  dsimp only
  cases test
  · rfl
  · exact Dev.record_epochParts _ _ _

theorem Dev.keyStart_rd_ne (test : Bool) {a : Nat} (h : a ≠ Reg.REC_LOST_CNT) : (d.keyStart test).rd a = d.rd a := by
  unfold Dev.keyStart
  dsimp only
  cases test
  · rfl
  · exact Dev.record_rd_ne _ _ _ h

/-- The open transaction of a save (R811). -/
def Dev.resumeTxn (s : PfSave) : Dev :=
  if s.txnOpen then
    { d with txn := { d.txn with st := .opened, owner := none, restored := true, shadows := s.shadows, windows := s.windows, staging := s.staging } }
  else d

/-- The host items of a save (R845). -/
def Dev.resumeItems (s : PfSave) : Dev :=
  s.items.foldl (fun (d : Dev) x => d.modRing x.ring (fun g => { g with restored := g.restored ++ [(x.desc, x.arg)] })) d

/-- The host's demands of a save (R845). -/
def Dev.resumeDemands (s : PfSave) : Dev :=
  s.demands.foldl (fun (d : Dev) x => d.modCmd x.1 (fun g => { g with host := x.2 })) d

/-- The unlatches of a save (R845). -/
def Dev.resumeUnlatches (s : PfSave) : Dev :=
  { d with isl := { d.isl with host := { d.isl.host with unlatch := s.unlatches.map (fun g => (g, 0)) } } }

/-- What a save that is taken up brings back. -/
def Dev.resumeSaved : Dev :=
  (((d.resumeTxn d.nv.save).resumeItems d.nv.save).resumeDemands d.nv.save).resumeUnlatches d.nv.save

theorem Dev.restoreSave_eq : d.restoreSave =
    if d.nv.save.valid && d.nv.save.epoch + 1 = d.nv.powerEpoch then (d.resumeSaved.putB Reg.GLB_BOOT_STATE 5 true).raise Reg.GLB_INT_STATUS 4 else d := rfl

/-- What neither the work of a save nor its transaction enters. -/
def Dev.besideSave (d : Dev) : Dev.EpochParts × List (Nat × Word) := (d.epochParts, d.regs)

theorem Dev.resumeTxn_besideSave (s : PfSave) : (d.resumeTxn s).besideSave = d.besideSave := by
  unfold Dev.resumeTxn
  split <;> rfl

theorem Dev.resumeItems_besideSave (s : PfSave) : (d.resumeItems s).besideSave = d.besideSave := by
  unfold Dev.resumeItems
  exact foldl_keeps Dev.besideSave _ _ (fun _ _ => by rfl) _

theorem Dev.resumeDemands_besideSave (s : PfSave) : (d.resumeDemands s).besideSave = d.besideSave := by
  unfold Dev.resumeDemands
  exact foldl_keeps Dev.besideSave _ _ (fun _ _ => by rfl) _

theorem Dev.resumeSaved_besideSave : d.resumeSaved.besideSave = d.besideSave :=
  (Dev.resumeDemands_besideSave _ _).trans ((Dev.resumeItems_besideSave _ _).trans (d.resumeTxn_besideSave _))

theorem Dev.resumeSaved_epochParts : d.resumeSaved.epochParts = d.epochParts := congrArg Prod.fst d.resumeSaved_besideSave

theorem Dev.resumeSaved_regs : d.resumeSaved.regs = d.regs := congrArg Prod.snd d.resumeSaved_besideSave

theorem Dev.restoreSave_epochParts : d.restoreSave.epochParts = d.epochParts := by
  rw [Dev.restoreSave_eq]
  split
  · exact d.resumeSaved_epochParts
  · rfl

theorem Dev.restoreSave_rd_ne {a : Nat} (ha : a ≠ Reg.GLB_INT_STATUS) (hb : a ≠ Reg.GLB_BOOT_STATE) : d.restoreSave.rd a = d.rd a := by
  rw [Dev.restoreSave_eq]
  split
  · rw [Dev.rd_raise_ne _ _ ha, Dev.putB, Dev.rd_putF_ne _ hb, Dev.rd_congr d.resumeSaved_regs]
  · rfl

/-- Of the boot state a restored save sets bit 5 alone (R811). -/
theorem Dev.restoreSave_bootState : d.restoreSave.rd Reg.GLB_BOOT_STATE = d.rd Reg.GLB_BOOT_STATE ∨
    d.restoreSave.rd Reg.GLB_BOOT_STATE = setBits (d.rd Reg.GLB_BOOT_STATE) 5 5 1 := by
  rw [Dev.restoreSave_eq]
  split
  · right
    rw [Dev.rd_raise_ne _ _ (by decide), Dev.putB, Dev.rd_putF_same, Dev.rd_congr d.resumeSaved_regs]
    rfl
  · exact .inl rfl

/-- The power epoch numbered, elapsed time started, STATE and PUPA_HOLD shown (R73, R74, R846). -/
def Dev.newEpoch : Dev :=
  let d := { d with
    nv := { d.nv with
      powerEpoch := min (d.nv.powerEpoch + 1) 0xFFFFFFFF
      seqFloor := if d.fld Reg.GLB_RESET_CAUSE 3 0 = 0 then d.nv.seqFloor + 2 ^ 24 else d.nv.seqFloor }
    tim := { d.tim with clk := 0, out := 0, domA := Domain.fresh, domB := Domain.fresh, srv := [] } }
  ((d.putF Reg.GLB_BOOT_STATE 2 0 1).putB Reg.GLB_BOOT_STATE 3 (d.pins.sampled.testBit 2)).wrN (Reg.GLB_STATE_TIME 1) 0

/-- The body of the first record of a power epoch (R74). -/
def Dev.bootRecord (cause : Nat) : Bytes :=
  let ins := match d.txn.inForce with | some _ => d.txn.instar | none => (d.nvSlot d.nv.inForce).instar
  be 4 d.nv.powerEpoch ++ be 1 cause ++ zeros 3 ++ be 8 d.evr.floor ++ be 4 ins ++ zeros 12

/-- The new epoch, the MAC addresses, the first record and the key store. -/
def Dev.startEpoch : Dev :=
  (d.newEpoch.macLoad.record 0x0001 (d.newEpoch.macLoad.bootRecord (d.fld Reg.GLB_RESET_CAUSE 3 0))).keyStart
    (d.newEpoch.macLoad.record 0x0001 (d.newEpoch.macLoad.bootRecord (d.fld Reg.GLB_RESET_CAUSE 3 0))).pins.debugEn

/-- The entry to SELFTEST restores a save after a power-on alone (R845). -/
theorem Dev.enterSelftest_eq : d.enterSelftest = if d.fld Reg.GLB_RESET_CAUSE 3 0 = 0 then d.startEpoch.restoreSave else d.startEpoch := rfl

theorem Dev.newEpoch_epochParts : d.newEpoch.epochParts = { d.epochParts with
    epoch := min (d.nv.powerEpoch + 1) 0xFFFFFFFF
    tim := { d.tim with clk := 0, out := 0, domA := Domain.fresh, domB := Domain.fresh, srv := [] } } := rfl

theorem Dev.newEpoch_boot : d.newEpoch.boot = 1 := by
  rw [Dev.boot, Dev.newEpoch]
  dsimp only
  rw [Dev.fld, Dev.wrN, Dev.rd_wr_ne _ (by decide), ← Dev.fld, Dev.putB, Dev.fld_putF_ne _ _ _ _ _ _ _ _ (by decide) (.inr (.inl (by decide))),
    Dev.fld_putF _ _ _ _ _ (by decide)]
  rfl

theorem Dev.newEpoch_hold : d.newEpoch.flag Reg.GLB_BOOT_STATE 3 = d.pins.sampled.testBit 2 := by
  rw [Dev.newEpoch]
  dsimp only
  rw [Dev.flag, Dev.wrN, Dev.rd_wr_ne _ (by decide), ← Dev.flag, Dev.flag_putB_same]
  decide

theorem Dev.newEpoch_rd {a : Nat} (hb : a ≠ Reg.GLB_BOOT_STATE) (ht : a ≠ Reg.GLB_STATE_TIME 1) : d.newEpoch.rd a = d.rd a := by
  rw [Dev.newEpoch]
  dsimp only
  rw [Dev.wrN, Dev.rd_wr_ne _ ht, Dev.putB, Dev.rd_putF_ne _ hb, Dev.rd_putF_ne _ hb]
  rfl

/-- What the first record and the key store leave of the registers set before them. -/
theorem Dev.startEpoch_rd {a : Nat} (ha : a < 0x100000) (hr : a ≠ Reg.REC_LOST_CNT) : d.startEpoch.rd a = d.newEpoch.rd a := by
  rw [Dev.startEpoch, Dev.keyStart_rd_ne _ _ hr, Dev.record_rd_ne _ _ _ hr, Dev.macLoad_rd _ ha]

theorem Dev.startEpoch_epochParts : d.startEpoch.epochParts = d.newEpoch.epochParts := by
  rw [Dev.startEpoch, Dev.keyStart_epochParts, Dev.record_epochParts, Dev.macLoad_epochParts]

theorem Dev.enterSelftest_epochParts : d.enterSelftest.epochParts = d.newEpoch.epochParts := by
  rw [Dev.enterSelftest_eq, apply_ite Dev.epochParts, Dev.restoreSave_epochParts, ite_self, Dev.startEpoch_epochParts]

theorem Dev.enterSelftest_bootState : d.enterSelftest.rd Reg.GLB_BOOT_STATE = d.newEpoch.rd Reg.GLB_BOOT_STATE ∨
    d.enterSelftest.rd Reg.GLB_BOOT_STATE = setBits (d.newEpoch.rd Reg.GLB_BOOT_STATE) 5 5 1 := by
  rw [Dev.enterSelftest_eq, ← d.startEpoch_rd (by decide) (by decide)]
  split
  · exact Dev.restoreSave_bootState _
  · exact .inl rfl

/-- The cause of the reset stays shown. -/
theorem Dev.enterSelftest_cause : d.enterSelftest.rd Reg.GLB_RESET_CAUSE = d.rd Reg.GLB_RESET_CAUSE := by
  rw [Dev.enterSelftest_eq, apply_ite (Dev.rd · Reg.GLB_RESET_CAUSE), Dev.restoreSave_rd_ne _ (by decide) (by decide), ite_self,
    Dev.startEpoch_rd _ (by decide) (by decide), Dev.newEpoch_rd _ (by decide) (by decide)]

theorem Dev.enterSelftest_boot : d.enterSelftest.boot = 1 := by
  refine Eq.trans ?_ d.newEpoch_boot
  rw [Dev.boot, Dev.boot, Dev.fld, Dev.fld]
  obtain h | h := d.enterSelftest_bootState
  · rw [h]
  · rw [h, bits_setBits_ne _ _ _ _ _ _ (by decide) (by decide)]

/-- PUPA_HOLD shows the strap (R846). -/
theorem Dev.enterSelftest_hold : d.enterSelftest.flag Reg.GLB_BOOT_STATE 3 = d.pins.sampled.testBit 2 := by
  refine Eq.trans ?_ d.newEpoch_hold
  rw [Dev.flag, Dev.flag]
  obtain h | h := d.enterSelftest_bootState
  · rw [h]
  · rw [h, bit_setBits _ _ _ _ _ (by decide)]
    rfl

end

/-! The resets of the module. -/

/-- What a reset of the module that enters SELFTEST leaves of the machine before it (R73, R839, R840). -/
structure Dev.Restarted (d e : Dev) (cause : Nat) : Prop where
  boot : e.boot = 1
  shown : e.fld Reg.GLB_RESET_CAUSE 3 0 = cause % 16
  cfg : e.txn.cfg = []
  inForce : e.txn.inForce = none
  holder : e.units.holder = none
  slot0 : e.nv.slot0 = d.nv.slot0
  slot1 : e.nv.slot1 = d.nv.slot1
  dram : e.evr.dram = d.evr.dram
  epoch : e.nv.powerEpoch = min (d.nv.powerEpoch + 1) 0xFFFFFFFF
  clk : e.tim.clk = 0
  resets : e.resetCtr = d.resetCtr + 1

section
variable (d : Dev)

theorem Dev.moduleReset_restarted {cause : Nat} (hc : cause ≠ 0) : d.Restarted (d.moduleReset cause) cause := by
  have hparts := (d.toReset cause).enterSelftest_epochParts
  have hlast := d.toReset_lasting cause
  obtain ⟨hcfg, hforce, hholder⟩ := d.toReset_idle cause
  rw [Dev.newEpoch_epochParts] at hparts
  simp only [Dev.epochParts, Dev.EpochParts.mk.injEq] at hparts
  simp only [Dev.lasting, if_neg hc, Prod.mk.injEq] at hlast
  obtain ⟨hslot0, hslot1, hepoch, htim, hholder', -, hdram, hctr, hcfg', hforce'⟩ := hparts
  obtain ⟨hnv, hdramR, hctrR⟩ := hlast
  rw [hnv] at hslot0 hslot1 hepoch
  refine ⟨Dev.enterSelftest_boot _, ?_, hcfg'.trans hcfg, hforce'.trans hforce, hholder'.trans hholder, hslot0, hslot1, hdram.trans hdramR, hepoch,
    congrArg Tim.clk htim, hctr.trans hctrR⟩
  rw [Dev.moduleReset, Dev.fld, Dev.enterSelftest_cause, ← Dev.fld, Dev.toReset_cause]

theorem sampledHold : ∀ twinId debugEn pupaHold refclkSel : Bool,
    (b2n twinId + 2 * b2n debugEn + 4 * b2n pupaHold + 8 * b2n refclkSel).testBit 2 = pupaHold := by decide

/-- The end of RESET: SELFTEST with the straps sampled, the slots and what is in force kept, a new power epoch (R39, R846). -/
theorem Dev.resetRelease_leaves (twinId debugEn pupaHold refclkSel : Bool) (h : d.boot = 0) :
    let e := d.resetRelease twinId debugEn pupaHold refclkSel
    e.boot = 1 ∧ e.pins.resetLow = false ∧ e.pins.sampled = b2n twinId + 2 * b2n debugEn + 4 * b2n pupaHold + 8 * b2n refclkSel ∧
    e.flag Reg.GLB_BOOT_STATE 3 = pupaHold ∧ e.txn.cfg = d.txn.cfg ∧ e.nv.slot0 = d.nv.slot0 ∧ e.nv.slot1 = d.nv.slot1 ∧
    e.nv.powerEpoch = min (d.nv.powerEpoch + 1) 0xFFFFFFFF ∧ e.tim.clk = 0 ∧ e.resetCtr = d.resetCtr := by
  intro e
  have he : e = (d.sampleStraps twinId debugEn pupaHold refclkSel).enterSelftest := if_pos h
  have hparts := (d.sampleStraps twinId debugEn pupaHold refclkSel).enterSelftest_epochParts
  rw [← he, Dev.newEpoch_epochParts] at hparts
  simp only [Dev.epochParts, Dev.EpochParts.mk.injEq] at hparts
  obtain ⟨hslot0, hslot1, hepoch, htim, -, hpins, -, hctr, hcfg, -⟩ := hparts
  refine ⟨?_, congrArg Pins.resetLow hpins, congrArg Pins.sampled hpins, ?_, hcfg, hslot0, hslot1, hepoch, congrArg Tim.clk htim, hctr⟩
  · rw [he, Dev.enterSelftest_boot]
  · rw [he, Dev.enterSelftest_hold]
    exact sampledHold twinId debugEn pupaHold refclkSel

end

/-- A write of the key with RESET 1 resets the module (R840). -/
theorem rowWrite_resetCtl (d : Dev) (i : Iface) : ∃ r, regAt Reg.GLB_RESET_CTL = some r ∧ d.rowWrite r i Reg.GLB_RESET_CTL 0xA5C30001 = (0, d.moduleReset 2) := by
  refine ⟨⟨0x2008, [], .wo, 0x0, 0xFFFF0001, 0xFFFF0001, []⟩, by decide +kernel, ?_⟩
  have hgen (v : Word) : d.genLenBad Reg.GLB_RESET_CTL v = false := by
    rw [Dev.genLenBad, List.any_eq_false]
    intro p _
    have hp : Reg.GLB_RESET_CTL ≠ Reg.TST_PORT_GEN p := by unfold Reg.GLB_RESET_CTL Reg.TST_PORT_GEN; omega
    simp [hp]
  have hquota (v : Word) : (List.range 2).any (fun p => Reg.GLB_RESET_CTL == Reg.REC_RP_QUOTA p && d.quotaBad p v) = false := by
    rw [List.any_eq_false]
    intro p _
    have hp : Reg.GLB_RESET_CTL ≠ Reg.REC_RP_QUOTA p := by unfold Reg.GLB_RESET_CTL Reg.REC_RP_QUOTA; omega
    simp [hp]
  have hkey : bits 2781020161#32 31 16 = 42435 ∧ bit 2781020161#32 0 = true := by decide
  have hact (v : Word) : d.regAct i Reg.GLB_RESET_CTL v = d.moduleReset 2 := by
    rw [regAct_eq]
    rfl
  have hint : intVector Reg.GLB_RESET_CTL = none := by decide +kernel
  simp [Dev.rowWrite, RegRow.merge, hgen, hquota, hkey, hact, Dev.intAgain, hint]

theorem hostReset_ends {s : State} {i : Iface} (t : Nat) (h : s.canWrite i Reg.GLB_RESET_CTL) :
    Ends (exec (.hostReset t i) s) { s with dev := (s.dev.tick t).moduleReset 2, ctl := 0 } := by
  obtain ⟨r, hr, hw⟩ := rowWrite_resetCtl (s.dev.tick t) i
  have hctr : ((s.dev.tick t).moduleReset 2).resetCtr ≠ s.dev.resetCtr := by
    rw [((s.dev.tick t).moduleReset_restarted (by decide)).resets, Dev.tick_resetCtr]
    omega
  have hwrite := write_granted (s := s.at t) 0xA5C30001 ((at_canWrite s t i _).mpr h) (by decide) hr
  simp only [State.at_dev, hw, if_true, Dev.tick_resetCtr, if_neg hctr] at hwrite
  have e : hostRow s t true i Reg.GLB_RESET_CTL 0xA5C30001 = doneS s { s with dev := (s.dev.tick t).moduleReset 2, ctl := 0 } := by
    simp only [hostRow, if_true, hwrite]
    rfl
  rw [exec_hostReset, e]
  exact Ends.of_doneS s _

/-- A command that may reset the module and does not. -/
theorem resetRow_keeps {s : State} {t : Nat} {f : Dev → Dev} {e : Dev} (hf : f (s.dev.tick t) = e) (hc : e.resetCtr = s.dev.resetCtr) :
    Ends (resetRow s t true f) { s with dev := e } := by
  have h := resetRow_ends s t f
  rwa [hf, if_pos hc] at h

/-- A command that resets the module clears GLB_CTL (R839). -/
theorem resetRow_resets {s : State} {t : Nat} {f : Dev → Dev} {e : Dev} (hf : f (s.dev.tick t) = e) (hc : e.resetCtr = s.dev.resetCtr + 1) :
    Ends (resetRow s t true f) { s with dev := e, ctl := 0 } := by
  have h := resetRow_ends s t f
  rwa [hf, if_neg (by omega)] at h

/-- What a machine in RESET shows (R39, R839): of the machine before it keeps the nonvolatile die, and the recorder ring as `ring` says. -/
structure Dev.InReset (d e : Dev) (cause : Nat) (ring : RecRing) : Prop where
  boot : e.boot = 0
  shown : e.fld Reg.GLB_RESET_CAUSE 3 0 = cause
  cfg : e.txn.cfg = []
  inForce : e.txn.inForce = none
  holder : e.units.holder = none
  nv : e.nv = d.nv
  dram : e.evr.dram = ring
  resets : e.resetCtr = d.resetCtr + 1
  regs : ∀ a, a ≠ Reg.GLB_BOOT_STATE → a ≠ Reg.GLB_RESET_CAUSE → e.rd a = resetOf (a % wingOfs)

theorem Dev.InReset.pins {d e : Dev} {cause : Nat} {ring : RecRing} (h : d.InReset e cause ring) (x : Pins) : d.InReset { e with pins := x } cause ring :=
  ⟨h.boot, h.shown, h.cfg, h.inForce, h.holder, h.nv, h.dram, h.resets, h.regs⟩

theorem Dev.toReset_inReset (s : State) (n cause : Nat) (hc : cause < 16) :
    s.dev.InReset ((s.dev.tick n).toReset cause) cause (if cause = 0 then ⟨[], []⟩ else s.dev.evr.dram) := by
  have hlast := (s.dev.tick n).toReset_lasting cause
  obtain ⟨hcfg, hforce, hholder⟩ := (s.dev.tick n).toReset_idle cause
  simp only [Dev.lasting, Prod.mk.injEq, Dev.tick_nv, Dev.tick_resetCtr, Dev.tick_evr] at hlast
  obtain ⟨hnv, hdram, hctr⟩ := hlast
  exact ⟨Dev.toReset_boot _ _, (Dev.toReset_cause _ _).trans (Nat.mod_eq_of_lt hc), hcfg, hforce, hholder, hnv, hdram, hctr,
    fun _ hb hc => Dev.toReset_rd _ _ hb hc⟩

/-- The power-on, and the supply fault, which is one: the ring in DRAM is empty (R839, R899). -/
theorem powerOn_ends (s : State) (n : Nat) :
    ∃ e, s.dev.InReset e 0 ⟨[], []⟩ ∧ Ends (resetRow s n true Dev.powerOn) { s with dev := e, ctl := 0 } := by
  have h := (Dev.toReset_inReset s n 0 (by decide)).pins { ((s.dev.tick n).toReset 0).pins with pwrfailLow := false, pwrHold := false }
  exact ⟨_, h, resetRow_resets (by rfl) h.resets⟩

/-- The board reset keeps the ring in DRAM and holds the pin low (R839). -/
theorem boardReset_ends (s : State) (n low : Nat) (hlow : 1000 ≤ low) (hboot : s.dev.boot ≠ 0) :
    ∃ e, s.dev.InReset e 1 s.dev.evr.dram ∧ e.pins.resetLow = true ∧ Ends (exec (.boardReset n low) s) { s with dev := e, ctl := 0 } := by
  have h := (Dev.toReset_inReset s n 1 (by decide)).pins { ((s.dev.tick n).toReset 1).pins with resetLow := true }
  refine ⟨_, h, rfl, ?_⟩
  rw [exec_boardReset]
  refine resetRow_resets ?_ h.resets
  rw [Dev.boardReset, if_neg (by omega), if_neg (by rwa [Dev.tick_boot])]

/-- Settles O12: the entry to RESET takes over the die and the ring alone (`Dev.toReset_inReset`), and the entry to SELFTEST adds the epoch, the straps and the first
record (`Dev.moduleReset_restarted`, `Dev.resetRelease_leaves`). -/
theorem resetsOfTheModule : Obligations.ResetsOfTheModule := by
  unfold Obligations.ResetsOfTheModule
  refine ⟨?power, ?board, ?release, ?selftest, ?held⟩
  case power =>
    intro s n c hc
    obtain ⟨e, he, hends⟩ := powerOn_ends s n
    have hexec : exec c s = resetRow s n true Dev.powerOn := by
      obtain rfl | rfl := hc <;> rfl
    rw [hexec]
    exact hends.with fun _ _ _ _ _ => ⟨he.boot, rfl, he.shown, he.cfg, he.inForce, he.holder, he.nv, he.dram, he.resets, he.regs⟩
  case board =>
    intro s n low
    refine ⟨fun hlow hboot => ?_, fun hlow hboot => ?_, fun hlow => ?_⟩
    · obtain ⟨e, he, hlow, hends⟩ := boardReset_ends s n low hlow hboot
      exact hends.with fun _ _ _ _ _ => ⟨he.boot, rfl, he.shown, hlow, he.cfg, he.inForce, he.holder, he.nv, he.dram, he.resets, he.regs⟩
    · rw [exec_boardReset]
      refine resetRow_keeps ?_ rfl
      rw [Dev.boardReset, if_neg (by omega), if_pos (by rwa [Dev.tick_boot]), Dev.tick_pins]
    · rw [exec_boardReset]
      exact resetRow_keeps (if_pos hlow) rfl
  case release =>
    intro s n a b c e
    rw [exec_resetRelease]
    refine ⟨fun hboot => ?_, fun hboot => ?_⟩
    · obtain ⟨hboot', hlow, hstraps, hhold, hcfg, hslot0, hslot1, hepoch, hclk, hctr⟩ :=
        (s.dev.tick n).resetRelease_leaves a b c e (by rwa [Dev.tick_boot])
      exact (resetRow_keeps rfl hctr).with fun _ _ _ _ _ => ⟨hboot', hlow, hstraps, hhold, rfl, hcfg, hslot0, hslot1, hepoch, hclk⟩
    · refine resetRow_keeps ?_ rfl
      rw [Dev.resetRelease, if_neg (by rwa [Dev.tick_boot]), Dev.tick_pins]
  case selftest =>
    intro s n c cause hc
    have hcause : cause = 2 ∨ cause = 4 := by tauto
    have he := (s.dev.tick n).moduleReset_restarted (cause := cause) (by omega)
    have hends : Ends (exec c s) { s with dev := (s.dev.tick n).moduleReset cause, ctl := 0 } := by
      obtain ⟨⟨i, rfl, hcan⟩, rfl⟩ | ⟨rfl, hboot, rfl⟩ := hc
      · exact hostReset_ends n hcan
      · rw [exec_watchdogReset]
        exact resetRow_resets (if_neg (by rwa [Dev.tick_boot])) he.resets
    exact hends.with fun _ _ _ _ _ =>
      ⟨he.boot, rfl, he.shown.trans (by omega), he.cfg, he.inForce, he.holder, he.slot0, he.slot1, he.dram, he.epoch, he.clk, he.resets⟩
  case held =>
    intro s n hboot
    rw [exec_watchdogReset]
    exact resetRow_keeps (if_pos (by rwa [Dev.tick_boot])) rfl

end Sys2Proof.Machine

/-! Calibration requests, the end of calibrations, low-power requests and SETTLE. -/

namespace Sys2Proof.Machine

/-! Words, folds and entries of a list. -/

theorem bit_held (old v : Word) (m : Nat) {k : Nat} (hk : k < 32) :
    bit ((old &&& ~~~ w32 m) ||| (v &&& w32 m)) k = if m.testBit k then bit v k else bit old k := by
  simp only [bit, w32, BitVec.getLsbD_or, BitVec.getLsbD_and, BitVec.getLsbD_not, BitVec.getLsbD_ofNat, hk, decide_true, Bool.true_and]
  cases m.testBit k <;> simp

/-- A field that the host may write, after its write. -/
theorem bits_held (old v : Word) {m hi lo : Nat} (h : ∀ k, lo ≤ k → k ≤ hi → k < 32 ∧ m.testBit k = true) :
    bits ((old &&& ~~~ w32 m) ||| (v &&& w32 m)) hi lo = bits v hi lo :=
  bits_eq_of_bit _ _ _ _ fun k hlo hhi => by rw [bit_held _ _ _ (h k hlo hhi).1, if_pos (h k hlo hhi).2]

/-- An observation that step `q` of the iteration alone changes. -/
theorem foldUp_at {α β : Type} {g : α → β} {F : β → β} {f : Nat → α → α} {n q : Nat} (hne : ∀ i < n, ∀ a, i ≠ q → g (f i a) = g a)
    (hq : ∀ a, g (f q a) = F (g a)) (a : α) : g (foldUp n f a) = if q < n then F (g a) else g a := by
  induction n with
  | zero => rfl
  | succ n ih =>
    have hn := ih fun i hi => hne i (Nat.lt_succ_of_lt hi)
    rw [foldUp]
    obtain rfl | h := eq_or_ne n q
    · rw [hq, hn, if_neg (lt_irrefl _), if_pos (Nat.lt_succ_self _)]
    · rw [hne n (Nat.lt_succ_self _) _ h, hn]
      simp only [show q < n ↔ q < n + 1 by omega]

theorem lmod_eq_modify {α : Type} (l : List α) (i : Nat) (f : α → α) : lmod l i f = l.modify i f := by
  induction l generalizing i with
  | nil => simp [lmod]
  | cons x l ih => cases i <;> simp [lmod, ih]

/-! A quadrant. -/

section
variable (d : Dev)

theorem Dev.quad_modQuad_ne (f : Quad → Quad) {q j : Nat} (h : j ≠ q) : (d.modQuad j f).quad q = d.quad q := by
  simp [Dev.quad, Dev.modQuad, lmod_eq_modify, h]

theorem Dev.quad_modQuad_same (f : Quad → Quad) {q : Nat} (h : q < d.loc.quads.length) : (d.modQuad q f).quad q = f (d.quad q) := by
  simp [Dev.quad, Dev.modQuad, lmod_eq_modify, h]

theorem Dev.quad_modQuad_absent (f : Quad → Quad) {q : Nat} (h : ¬ q < d.loc.quads.length) : (d.modQuad q f).quad q = d.quad q := by
  simp [Dev.quad, Dev.modQuad, lmod_eq_modify, Nat.le_of_not_lt h]

@[simp] theorem Dev.quads_modQuad (q : Nat) (f : Quad → Quad) : (d.modQuad q f).loc.quads.length = d.loc.quads.length := by
  simp [Dev.modQuad, lmod_eq_modify]

/-- A quadrant that the device does not have is not busy. -/
theorem Dev.quad_absent {q : Nat} (h : ¬ q < d.loc.quads.length) : d.quad q = Quad.start := by
  simp [Dev.quad, Nat.le_of_not_lt h]

theorem Dev.lt_of_busy {q : Nat} (h : (d.quad q).busy = true) : q < d.loc.quads.length := by
  by_contra hlen
  rw [d.quad_absent hlen] at h
  exact absurd h (by decide)

end

/-! CAL_START (R173, R174, R176). -/

/-- What CAL_START looks at for quadrant `q`. -/
structure CalView where
  quad : Quad
  clk : Nat
  running : Bool
  present : Bool

def Dev.calView (d : Dev) (q : Nat) : CalView := ⟨d.quad q, d.tim.clk, d.running, decide (q < d.loc.quads.length)⟩

/-- A calibration of the quadrant ended less than 2 s ago. -/
def Quad.soon (u : Quad) (clk : Nat) : Bool := match u.calEnd with | some e => decide (clk < e + ticksSec 2) | none => false

/-- The quadrant after it is asked. -/
def CalView.answer (x : CalView) : Quad :=
  if x.quad.busy then { x.quad with outcome := 2 }
  else if x.quad.soon x.clk then { x.quad with outcome := 3 }
  else if x.running && x.present then { x.quad with outcome := 5, busy := true, waiting := true }
  else x.quad

section
variable {x : CalView}

theorem CalView.answer_busy (h : x.quad.busy = true) : x.answer = { x.quad with outcome := 2 } := if_pos h

theorem CalView.answer_soon (h : x.quad.busy = false) (hs : x.quad.soon x.clk = true) : x.answer = { x.quad with outcome := 3 } := by
  rw [CalView.answer, if_neg (by simp [h]), if_pos hs]

theorem CalView.answer_taken (h : x.quad.busy = false) (hs : x.quad.soon x.clk = false) (hr : x.running = true) (hp : x.present = true) :
    x.answer = { x.quad with outcome := 5, busy := true, waiting := true } := by
  rw [CalView.answer, if_neg (by simp [h]), if_neg (by simp [hs]), if_pos (by simp [hr, hp])]

theorem CalView.answer_still (h : x.quad.busy = false) (hs : x.quad.soon x.clk = false) (hr : x.running = false) : x.answer = x.quad := by
  rw [CalView.answer, if_neg (by simp [h]), if_neg (by simp [hs]), if_neg (by simp [hr])]

end

/-- CAL_START for one quadrant. -/
def Dev.calAsk (d : Dev) (qmask q : Nat) : Dev :=
  if qmask.testBit q then
    if (d.quad q).busy then d.modQuad q (fun u => { u with outcome := 2 })
    else if (d.quad q).soon d.tim.clk then d.modQuad q (fun u => { u with outcome := 3 })
    else if d.running then d.modQuad q (fun u => { u with outcome := 5, busy := true, waiting := true })
    else d
  else d

theorem Dev.calStart_eq (d : Dev) (qmask : Nat) : d.calStart qmask = foldUp 4 (fun q d => d.calAsk qmask q) d := rfl

section
variable (d : Dev) (qmask : Nat)

theorem Dev.calAsk_regs (q : Nat) : (d.calAsk qmask q).regs = d.regs := by
  have h (f : Quad → Quad) : (d.modQuad q f).regs = d.regs := rfl
  simp only [Dev.calAsk, apply_ite Dev.regs, h, ite_self]

theorem Dev.calAsk_resetCtr (q : Nat) : (d.calAsk qmask q).resetCtr = d.resetCtr := by
  have h (f : Quad → Quad) : (d.modQuad q f).resetCtr = d.resetCtr := rfl
  simp only [Dev.calAsk, apply_ite Dev.resetCtr, h, ite_self]

theorem Dev.modQuad_calView (f : Quad → Quad) {q : Nat} (h : q < d.loc.quads.length) :
    (d.modQuad q f).calView q = { d.calView q with quad := f (d.quad q) } := by
  simp only [Dev.calView, d.quad_modQuad_same f h, Dev.quads_modQuad]
  rfl

theorem Dev.modQuad_calView_ne (f : Quad → Quad) {j q : Nat} (h : j ≠ q) : (d.modQuad j f).calView q = d.calView q := by
  simp only [Dev.calView, d.quad_modQuad_ne f h, Dev.quads_modQuad]
  rfl

theorem Dev.calAsk_calView_ne {j q : Nat} (h : j ≠ q) : (d.calAsk qmask j).calView q = d.calView q := by
  simp only [Dev.calAsk, apply_ite (Dev.calView · q), d.modQuad_calView_ne _ h, ite_self]

theorem Dev.calAsk_calView (q : Nat) : (d.calAsk qmask q).calView q =
    if qmask.testBit q then { d.calView q with quad := (d.calView q).answer } else d.calView q := by
  by_cases hlen : q < d.loc.quads.length
  · simp only [Dev.calAsk, apply_ite (Dev.calView · q), d.modQuad_calView _ hlen]
    simp only [CalView.answer, Dev.calView, hlen, decide_true, Bool.and_true]
    repeat' split
    all_goals rfl
  · have hstart := d.quad_absent hlen
    have hview (f : Quad → Quad) : (d.modQuad q f).calView q = d.calView q := by
      simp only [Dev.calView, d.quad_modQuad_absent f hlen, Dev.quads_modQuad]
      rfl
    simp only [Dev.calAsk, apply_ite (Dev.calView · q), hview, ite_self]
    simp [CalView.answer, Dev.calView, hlen, hstart, Quad.start, Quad.soon]

theorem Dev.calStart_quad {q : Nat} (hq : q < 4) : (d.calStart qmask).quad q = if qmask.testBit q then (d.calView q).answer else d.quad q := by
  have h := foldUp_at (g := (Dev.calView · q)) (F := fun x => if qmask.testBit q then { x with quad := x.answer } else x) (f := fun q d => d.calAsk qmask q)
    (n := 4) (fun i _ a hi => a.calAsk_calView_ne qmask hi) (fun a => a.calAsk_calView qmask q) d
  rw [← Dev.calStart_eq, if_pos hq] at h
  have hquad := congrArg CalView.quad h
  rw [apply_ite CalView.quad] at hquad
  exact hquad

theorem Dev.calStart_regs : (d.calStart qmask).regs = d.regs := by
  rw [Dev.calStart_eq]
  exact foldUp_keeps Dev.regs 4 _ (fun q e => e.calAsk_regs qmask q) d

theorem Dev.calStart_resetCtr : (d.calStart qmask).resetCtr = d.resetCtr := by
  rw [Dev.calStart_eq]
  exact foldUp_keeps Dev.resetCtr 4 _ (fun q e => e.calAsk_resetCtr qmask q) d

end

theorem bits_testBit (v : Word) {hi lo k : Nat} (h : k < hi + 1 - lo) : (bits v hi lo).testBit k = bit v (lo + k) := by
  simp [bits, bit, h, BitVec.testBit_toNat, Nat.testBit_shiftRight]

/-- The machine after CAL_START: QMASK and QRESULT_SEL held, and each quadrant of QMASK asked. -/
def Dev.calAsked (d : Dev) (v : Word) : Dev :=
  ((d.putF Reg.CNV_CAL_CTL 7 4 (bits v 7 4)).putF Reg.CNV_CAL_CTL 13 12 (bits v 13 12)).calStart (bits v 7 4)

theorem calStart_ends {s : State} {i : Iface} (n : Nat) (v : Word) (h : s.canWrite i Reg.CNV_CAL_CTL) :
    Ends (exec (.calStart n i v) s) { s with dev := (s.dev.tick n).calAsked v } := by
  have hr : regAt Reg.CNV_CAL_CTL = some ⟨0x40008, [], .rw, 0x0, 0x30F0, 0x1, []⟩ := by decide +kernel
  have hfld {hi lo : Nat} (hf : ∀ k, lo ≤ k → k ≤ hi → k < 32 ∧ (0x30F1).testBit k = true ∧ k ≠ 0) (old : Word) :
      bits ((old &&& ~~~ w32 0x30F1) ||| (setBits v 0 0 1 &&& w32 0x30F1)) hi lo = bits v hi lo := by
    rw [bits_held _ _ fun k hlo hhi => let ⟨hk, hm, _⟩ := hf k hlo hhi; ⟨hk, hm⟩]
    refine bits_eq_of_bit _ _ _ _ fun k hlo hhi => ?_
    obtain ⟨-, -, h0⟩ := hf k hlo hhi
    rw [bit_setBits _ _ _ _ _ (by decide), if_neg (by omega)]
  refine hostRow_act h hr (.inl rfl) rfl ⟨by decide, by decide, by decide, by decide⟩ ?_ ?_
  · rw [regAct_eq]
    change Dev.calWrite _ ((_ &&& ~~~ w32 0x30F1) ||| (setBits v 0 0 1 &&& w32 0x30F1)) = _
    have hstart (old : Word) : bit ((old &&& ~~~ w32 0x30F1) ||| (setBits v 0 0 1 &&& w32 0x30F1)) 0 = true := by
      rw [bit_held _ _ _ (by decide), bit_setBits _ _ _ _ _ (by decide)]
      rfl
    rw [Dev.calWrite, if_pos (hstart _), hfld (by decide +revert), hfld (by decide +revert)]
    rfl
  · exact Dev.calStart_resetCtr _ _

/-- CNV_CAL_CTL holds QMASK and QRESULT_SEL. -/
theorem Dev.calAsked_fld (d : Dev) (v : Word) :
    (d.calAsked v).fld Reg.CNV_CAL_CTL 7 4 = bits v 7 4 ∧ (d.calAsked v).fld Reg.CNV_CAL_CTL 13 12 = bits v 13 12 := by
  have hfld (hi lo : Nat) : (d.calAsked v).fld Reg.CNV_CAL_CTL hi lo =
      ((d.putF Reg.CNV_CAL_CTL 7 4 (bits v 7 4)).putF Reg.CNV_CAL_CTL 13 12 (bits v 13 12)).fld Reg.CNV_CAL_CTL hi lo := by
    rw [Dev.fld, Dev.calAsked, Dev.rd_congr (Dev.calStart_regs _ _), ← Dev.fld]
  rw [hfld, hfld]
  constructor
  · rw [Dev.fld_putF_ne _ _ _ _ _ _ _ _ (by decide) (by decide), Dev.fld_putF _ _ _ _ _ (by decide), Nat.mod_eq_of_lt (bits_lt _ _ _)]
  · rw [Dev.fld_putF _ _ _ _ _ (by decide), Nat.mod_eq_of_lt (bits_lt _ _ _)]

theorem Dev.putF_calView (d : Dev) {a hi lo v q : Nat} (h : Reg.GLB_BOOT_STATE ≠ a) : (d.putF a hi lo v).calView q = d.calView q := by
  simp only [Dev.calView, Dev.running, Dev.boot, Dev.fld, Dev.rd_putF_ne _ h]
  rfl

theorem Dev.calAsked_quad (d : Dev) (v : Word) {q : Nat} (hq : q < 4) :
    (d.calAsked v).quad q = if bit v (4 + q) then (d.calView q).answer else d.quad q := by
  rw [Dev.calAsked, Dev.calStart_quad _ _ hq, bits_testBit _ (by omega), Dev.putF_calView _ (by decide), Dev.putF_calView _ (by decide)]
  rfl

theorem calStart_endsWith {s : State} {i : Iface} (n : Nat) (v : Word) (h : s.canWrite i Reg.CNV_CAL_CTL) : EndsWith (exec (.calStart n i v) s) (fun t =>
    t.dev.fld Reg.CNV_CAL_CTL 7 4 = bits v 7 4 ∧ t.dev.fld Reg.CNV_CAL_CTL 13 12 = bits v 13 12 ∧ t.ctl = s.ctl ∧
    ∀ q < 4, t.dev.quad q = if bit v (4 + q) then
      CalView.answer ⟨s.dev.quad q, max s.dev.tim.clk n, s.dev.running, decide (q < s.dev.loc.quads.length)⟩ else s.dev.quad q) := by
  obtain ⟨hmask, hsel⟩ := (s.dev.tick n).calAsked_fld v
  refine (calStart_ends n v h).with fun _ _ _ _ _ => ⟨hmask, hsel, rfl, fun q hq => ?_⟩
  rw [← Dev.tick_clk]
  exact (s.dev.tick n).calAsked_quad v hq

/-! LP_REQUEST (R180). -/

theorem lpRequest_ends {s : State} {i : Iface} (n : Nat) (v : Word) (h : s.canWrite i Reg.CNV_LP_CTL) : Ends (exec (.lpRequest n i v) s)
    { s with dev := (s.dev.tick n).wr Reg.CNV_LP_CTL ((s.dev.rd Reg.CNV_LP_CTL &&& ~~~(0xF : Word)) ||| (v &&& 0xF)) } := by
  have hr : regAt Reg.CNV_LP_CTL = some ⟨0x40010, [], .rw, 0x0, 0xF, 0x0, []⟩ := by decide +kernel
  exact hostRow_act h hr (.inl rfl) rfl ⟨by decide, by decide, by decide, by decide⟩ (regAct_holdsOnly _ i (by decide +kernel) _) rfl

/-! The flags of the local channels (R185). -/

section
variable (d : Dev)

theorem Dev.chHas_congr {d e : Dev} {c : Nat} (h : e.rd (Reg.CNV_CH_STATUS c) = d.rd (Reg.CNV_CH_STATUS c)) (k : Nat) : e.chHas c k = d.chHas c k := by
  rw [Dev.chHas, Dev.chHas, Dev.flag, Dev.flag, h]

theorem Dev.chHas_chFlag_same (b : Bool) {n k : Nat} (hk : k < 32) (h0 : k ≠ 0) : (d.chFlag n k b).chHas n k = b := by
  have hinv : Reg.CNV_CH_STATUS n ≠ Reg.CNV_INVALID (n / 32) := by unfold Reg.CNV_CH_STATUS Reg.CNV_INVALID; omega
  rw [Dev.chHas, Dev.chFlag, Dev.flag_putB_ne _ _ _ _ _ _ (by omega) (.inl hinv), Dev.flag_putB_ne _ _ _ _ _ _ (by decide) (.inr h0),
    Dev.flag_putB_same _ _ _ _ hk]

theorem Dev.chHas_chFlag_ne (b : Bool) {n k c j : Nat} (hn : n < 192) (hk : k < 32) (hj : j ≠ 0) (h : c ≠ n ∨ j ≠ k) :
    (d.chFlag n k b).chHas c j = d.chHas c j := by
  have hinv : Reg.CNV_CH_STATUS c ≠ Reg.CNV_INVALID (n / 32) := by unfold Reg.CNV_CH_STATUS Reg.CNV_INVALID; omega
  have hreg : c ≠ n → Reg.CNV_CH_STATUS c ≠ Reg.CNV_CH_STATUS n := by unfold Reg.CNV_CH_STATUS; omega
  rw [Dev.chHas, Dev.chFlag, Dev.flag_putB_ne _ _ _ _ _ _ (by omega) (.inl hinv), Dev.flag_putB_ne _ _ _ _ _ _ (by decide) (.inr hj),
    Dev.flag_putB_ne _ _ _ _ _ _ hk (h.imp_left hreg)]
  rfl

theorem Dev.chFlag_rd_ne (b : Bool) {n k a : Nat} (hs : a ≠ Reg.CNV_CH_STATUS n) (hi : a ≠ Reg.CNV_INVALID (n / 32)) : (d.chFlag n k b).rd a = d.rd a := by
  rw [Dev.chFlag, Dev.putB, Dev.rd_putF_ne _ hi, Dev.putB, Dev.rd_putF_ne _ hs, Dev.putB, Dev.rd_putF_ne _ hs]

@[simp] theorem Dev.putB_loc (a k : Nat) (b : Bool) : (d.putB a k b).loc = d.loc := by rw [Dev.putB, Dev.putF, Dev.wr_loc]
@[simp] theorem Dev.putB_tst (a k : Nat) (b : Bool) : (d.putB a k b).tst = d.tst := by rw [Dev.putB, Dev.putF, Dev.wr_tst]
@[simp] theorem Dev.chFlag_loc (n k : Nat) (b : Bool) : (d.chFlag n k b).loc = d.loc := by simp [Dev.chFlag]
@[simp] theorem Dev.chFlag_tst (n k : Nat) (b : Bool) : (d.chFlag n k b).tst = d.tst := by simp [Dev.chFlag]

end

/-! Folds over a list. -/

/-- An observation that no step of the fold over this list changes. -/
theorem foldl_keeps_mem {α β γ : Type} (g : α → β) {l : List γ} {f : α → γ → α} (h : ∀ a, ∀ x ∈ l, g (f a x) = g a) (a : α) :
    g (l.foldl f a) = g a := by
  induction l generalizing a with
  | nil => rfl
  | cons x r ih => rw [List.foldl_cons, ih (fun a y hy => h a y (.tail _ hy)), h a x (.head _)]

/-- What one step brings about and every step keeps holds after the fold. -/
theorem foldl_reaches {α γ : Type} (P : α → Prop) {l : List γ} {f : α → γ → α} {x : γ} (hx : x ∈ l) (hmake : ∀ a, P (f a x))
    (hkeep : ∀ a, ∀ y ∈ l, P a → P (f a y)) (a : α) : P (l.foldl f a) := by
  have keeps (l' : List γ) (hl : ∀ y ∈ l', y ∈ l) (a : α) (ha : P a) : P (l'.foldl f a) := by
    induction l' generalizing a with
    | nil => exact ha
    | cons y r ih => exact ih (fun z hz => hl z (.tail _ hz)) _ (hkeep a y (hl y (.head _)) ha)
  obtain ⟨before, after, rfl⟩ := List.append_of_mem hx
  rw [List.foldl_append, List.foldl_cons]
  exact keeps after (fun y hy => List.mem_append_right _ (.tail _ hy)) _ (hmake _)

/-! SETTLE_END (R232). -/

/-- The count that SETTLE still lasts on a position, 0 where it does not. -/
def Dev.settleOf (d : Dev) (c : Nat) : Nat := tget 0 d.loc.settle c

/-- The end of SETTLE on position `n`. -/
def Dev.settleClear (d : Dev) (n : Nat) : Dev :=
  let d := { d with loc := { d.loc with settle := tdel d.loc.settle n } }
  if n < 192 then (if d.testSettles n then d else d.chFlag n 8 false)
  else (d.putB (Reg.FLT_VC_STATUS (n - 192)) 7 false).putB (Reg.FLT_VC_STATUS (n - 192)) 0
    (((d.putB (Reg.FLT_VC_STATUS (n - 192)) 7 false).rd (Reg.FLT_VC_STATUS (n - 192)) &&& 0x1FE) != 0)

section
variable (d : Dev)

theorem Dev.settleClear_settleOf (n c : Nat) : (d.settleClear n).settleOf c = if c = n then 0 else d.settleOf c := by
  have h : (d.settleClear n).loc.settle = tdel d.loc.settle n := by simp [Dev.settleClear, apply_ite Dev.loc]
  rw [Dev.settleOf, h, tget_tdel, Dev.settleOf]

/-- The end of SETTLE on a position writes the status of that position. -/
theorem Dev.settleClear_rd {n a : Nat} (hs : n < 192 → a ≠ Reg.CNV_CH_STATUS n ∧ a ≠ Reg.CNV_INVALID (n / 32))
    (hv : 192 ≤ n → a ≠ Reg.FLT_VC_STATUS (n - 192)) :
    (d.settleClear n).rd a = d.rd a := by
  rw [Dev.settleClear]
  dsimp only
  split
  case isTrue hn =>
    split
    · rfl
    · exact Dev.chFlag_rd_ne _ _ (hs hn).1 (hs hn).2
  case isFalse hn => 
    have hne := hv (Nat.le_of_not_lt hn)
    rw [Dev.putB, Dev.rd_putF_ne _ hne, Dev.putB, Dev.rd_putF_ne _ hne]
    rfl

theorem Dev.settleClear_testSettles (n c : Nat) : (d.settleClear n).testSettles c = d.testSettles c := by
  have htst : (d.settleClear n).tst = d.tst := by simp [Dev.settleClear, apply_ite Dev.tst]
  have hctl : (d.settleClear n).rd Reg.TST_CTL = d.rd Reg.TST_CTL :=
    d.settleClear_rd (by unfold Reg.TST_CTL Reg.CNV_CH_STATUS Reg.CNV_INVALID; omega) (by unfold Reg.TST_CTL Reg.FLT_VC_STATUS; omega)
  have hloop : (d.settleClear n).loop 2 (c / 48) = d.loop 2 (c / 48) := by rw [Dev.loop, Dev.loop, htst]
  rw [Dev.testSettles, Dev.testSettles, Dev.testMode, Dev.testMode, hloop, Dev.flag, Dev.flag, hctl]

theorem Dev.settleClear_chHas_ne {n c : Nat} (hc : c < 192) (h : n ≠ c) : (d.settleClear n).chHas c 8 = d.chHas c 8 :=
  Dev.chHas_congr (d.settleClear_rd (by unfold Reg.CNV_CH_STATUS Reg.CNV_INVALID; omega) (by unfold Reg.CNV_CH_STATUS Reg.FLT_VC_STATUS; omega)) 8

theorem Dev.settleClear_chHas_same {c : Nat} (hc : c < 192) (ht : d.testSettles c = false) : (d.settleClear c).chHas c 8 = false := by
  have ht' : ({ d with loc := { d.loc with settle := tdel d.loc.settle c } } : Dev).testSettles c = false := ht
  rw [Dev.settleClear]
  simp only [if_pos hc, ht', Bool.false_eq_true, if_false]
  exact Dev.chHas_chFlag_same _ _ (by decide) (by decide)

/-- SETTLE has ended on channel `c`, unless the test of its loop-back holds it. -/
def Dev.SettleGone (d : Dev) (c : Nat) : Prop := d.testSettles c = false → d.chHas c 8 = false ∧ d.settleOf c = 0

theorem Dev.settleClear_gone {c : Nat} (hc : c < 192) : (d.settleClear c).SettleGone c := fun ht =>
  ⟨d.settleClear_chHas_same hc (d.settleClear_testSettles c c ▸ ht), (d.settleClear_settleOf c c).trans (if_pos rfl)⟩

theorem Dev.settleClear_keeps_gone {n c : Nat} (hc : c < 192) (h : d.SettleGone c) : (d.settleClear n).SettleGone c := by
  obtain rfl | hne := eq_or_ne n c
  · exact d.settleClear_gone hc
  · intro ht
    obtain ⟨hflag, hcount⟩ := h (d.settleClear_testSettles n c ▸ ht)
    exact ⟨(d.settleClear_chHas_ne hc hne).trans hflag, by rw [Dev.settleClear_settleOf, hcount, ite_self]⟩

/-- The end of SETTLE on each position of a list. -/
def Dev.settleClears (l : List Nat) : Dev := l.foldl Dev.settleClear d

theorem Dev.settleClears_testSettles (l : List Nat) (c : Nat) : (d.settleClears l).testSettles c = d.testSettles c :=
  foldl_keeps (Dev.testSettles · c) l Dev.settleClear (fun e n => e.settleClear_testSettles n c) d

theorem Dev.settleClears_gone {l : List Nat} {c : Nat} (hc : c < 192) (h : c ∈ l) : (d.settleClears l).SettleGone c :=
  foldl_reaches (Dev.SettleGone · c) h (fun e => e.settleClear_gone hc) (fun e _ _ he => e.settleClear_keeps_gone hc he) d

theorem Dev.settleClears_chHas_ne {l : List Nat} {c : Nat} (hc : c < 192) (h : c ∉ l) : (d.settleClears l).chHas c 8 = d.chHas c 8 :=
  foldl_keeps_mem (Dev.chHas · c 8) (fun e _ hn => e.settleClear_chHas_ne hc (ne_of_mem_of_not_mem hn h)) d

theorem Dev.settleClears_settleOf_ne {l : List Nat} {c : Nat} (h : c ∉ l) : (d.settleClears l).settleOf c = d.settleOf c :=
  foldl_keeps_mem (Dev.settleOf · c) (fun e n hn => (e.settleClear_settleOf n c).trans (if_neg (ne_of_mem_of_not_mem hn h).symm)) d

/-- The positions whose count has run out. -/
def Dev.settleOut : List Nat := (d.loc.settle.filter (fun p => p.2 == 1)).map Prod.fst

theorem Dev.mem_settleOut {c : Nat} : c ∈ d.settleOut ↔ (c, 1) ∈ d.loc.settle := by
  simp [Dev.settleOut]

theorem Dev.settleEnd_eq : d.settleEnd = d.settleClears d.settleOut := by
  rw [Dev.settleClears, Dev.settleOut, List.foldl_map]
  rfl

end

theorem settleEnd_ends {s : State} (n : Nat) (h : 2 ≤ s.dev.boot) : Ends (exec (.settleEnd n) s) { s with dev := (s.dev.tick n).settleEnd } := by
  have hok : convRow s n true Dev.settleEnd = devRow s n true Dev.settleEnd := by simp [convRow, h]
  rw [exec_settleEnd, hok]
  exact devRow_ends s n Dev.settleEnd

/-- SETTLE and its count are cleared on the channels whose count has run out, and on no other. -/
theorem settleEnd_endsWith {s : State} (n : Nat) (h : 2 ≤ s.dev.boot) : EndsWith (exec (.settleEnd n) s) (fun t =>
    (∀ c < 192, (c, 1) ∈ s.dev.loc.settle → s.dev.testSettles c = false → t.dev.chHas c 8 = false ∧ t.dev.settleOf c = 0) ∧
    (∀ c < 192, (∀ p ∈ s.dev.loc.settle, p.1 = c → p.2 ≠ 1) → t.dev.chHas c 8 = s.dev.chHas c 8 ∧ t.dev.settleOf c = s.dev.settleOf c)) := by
  have hends := settleEnd_ends n h
  rw [Dev.settleEnd_eq] at hends
  have hmem (c : Nat) : c ∈ (s.dev.tick n).settleOut ↔ (c, 1) ∈ s.dev.loc.settle := Dev.mem_settleOut _
  refine hends.with fun _ _ _ _ _ => ⟨fun c hc hout ht => ?_, fun c hc hin => ?_⟩
  · exact Dev.settleClears_gone _ hc ((hmem c).mpr hout) ((Dev.settleClears_testSettles _ _ c).trans ht)
  · have hnot : c ∉ (s.dev.tick n).settleOut := fun hout => hin _ ((hmem c).mp hout) rfl rfl
    exact ⟨Dev.settleClears_chHas_ne _ hc hnot, Dev.settleClears_settleOf_ne _ hnot⟩

/-! The end of a calibration (R170, R176, R186). -/

/-- What the writes of registers, of channels and of check converters leave. -/
def Dev.calParts (d : Dev) : List Quad × Nat × Tim := (d.loc.quads, d.loc.ticks, d.tim)

theorem Dev.calParts_eq {d : Dev} {u : List Quad} {n : Nat} {x : Tim} (h : d.calParts = (u, n, x)) : d.loc.quads = u ∧ d.loc.ticks = n ∧ d.tim = x := by
  simpa only [Dev.calParts, Prod.mk.injEq] using h

section
variable (d : Dev)

@[simp] theorem Dev.wr_calParts (a : Nat) (v : Word) : (d.wr a v).calParts = d.calParts := rfl
@[simp] theorem Dev.wrN_calParts (a v : Nat) : (d.wrN a v).calParts = d.calParts := rfl
@[simp] theorem Dev.wrSat_calParts (a v : Nat) : (d.wrSat a v).calParts = d.calParts := rfl
@[simp] theorem Dev.putF_calParts (a hi lo v : Nat) : (d.putF a hi lo v).calParts = d.calParts := rfl
@[simp] theorem Dev.putB_calParts (a k : Nat) (b : Bool) : (d.putB a k b).calParts = d.calParts := rfl
@[simp] theorem Dev.raise_calParts (a k : Nat) : (d.raise a k).calParts = d.calParts := rfl
@[simp] theorem Dev.modChan_calParts (n : Nat) (f : Chan → Chan) : (d.modChan n f).calParts = d.calParts := rfl
@[simp] theorem Dev.modCk_calParts (k : Nat) (f : Ck → Ck) : (d.modCk k f).calParts = d.calParts := rfl
@[simp] theorem Dev.free_calParts : d.free.2.calParts = d.calParts := rfl

@[simp] theorem Dev.record_calParts (typ : Nat) (b : Bytes) : (d.record typ b).calParts = d.calParts := by
  obtain ⟨_, _, _, h⟩ := d.record_eq typ b
  rw [h]
  rfl

@[simp] theorem Dev.chFlag_calParts (n k : Nat) (b : Bool) : (d.chFlag n k b).calParts = d.calParts := by simp [Dev.chFlag]

@[simp] theorem Dev.vcFlag_calParts (v k : Nat) (b : Bool) : (d.vcFlag v k b).calParts = d.calParts := by
  simp [Dev.vcFlag, apply_ite Dev.calParts]

@[simp] theorem Dev.settleStart_calParts (n : Nat) : (d.settleStart n).calParts = d.calParts := by
  have h (l : List (Nat × Nat)) : ({ d with loc := { d.loc with settle := l } } : Dev).calParts = d.calParts := rfl
  simp [Dev.settleStart, apply_ite Dev.calParts, h]

@[simp] theorem Dev.calFact_calParts (f : CalFact) (both : Bool) : (d.calFact f both).calParts = d.calParts := by
  simp [Dev.calFact, apply_ite Dev.calParts]

end

/-- The coefficients that the calibration of quadrant `q` gives. -/
def Dev.calFacts (d : Dev) (q : Nat) (facts : List CalFact) (up : Bool) : Dev :=
  (facts.filter (fun f => f.ch / 48 == q)).foldl (fun (d : Dev) f => d.calFact f up) d

/-- The reference of quadrant `q` has been within its limits for 100 ms (R145). -/
def Dev.calRefOk (d : Dev) (q : Nat) : Bool :=
  match (d.quad q).refGood with
  | some c => decide (c + ticksMs 100 ≤ d.tim.clk)
  | none => false

/-- NOT_CAL, unless at power-up, CAL and flag 10 cleared on a channel. -/
def Dev.calUnflag (d : Dev) (up : Bool) (n : Nat) : Dev := ((if up then d else d.chFlag n 1 false).chFlag n 2 false).chFlag n 10 false

/-- CHK_FAIL cleared on a channel that did not fail. -/
def Dev.calPass (d : Dev) (n : Nat) : Dev := if d.chHas n 12 then d else (d.chFlag n 3 false).modChan n (fun c => { c with passes := 0 })

/-- REF_FAULT cleared on a channel whose reference is good. -/
def Dev.calRefGood (d : Dev) (refOk : Bool) (n : Nat) : Dev := if refOk then d.chFlag n 7 false else d

/-- The end of a calibration on one channel. -/
def Dev.calChan (d : Dev) (refOk up : Bool) (n : Nat) : Dev :=
  if up then ((d.calUnflag up n).calPass n).calRefGood refOk n else (((d.calUnflag up n).calPass n).calRefGood refOk n).settleStart n

/-- The channels of quadrant `q` after its calibration, and whether its reference is out of limits. -/
def Dev.calChans (d : Dev) (q : Nat) (up : Bool) : Dev :=
  let e := (quadChs q).foldl (fun (e : Dev) n => e.calChan (d.calRefOk q) up n) d
  if d.calRefOk q then e.putB Reg.CNV_STATUS (8 + q) false else e

/-- The outcome of quadrant `q`, whose calibration began at `began`. -/
def Dev.calClose (d : Dev) (q began : Nat) (up : Bool) : Dev :=
  let bad := (quadChs q).any (fun n => d.chHas n 12)
  let e := d.modQuad q (fun u => { u with outcome := if bad then 4 else 1, busy := false, calEnd := some d.tim.clk, hold := !up })
  (e.wrSat Reg.CNV_CAL_TIME ((d.tim.clk - began) / 400)).putB Reg.CNV_STATUS q false

/-- The machine whose outcome closes the calibration of quadrant `q`. -/
def Dev.calMeasured (d : Dev) (q : Nat) (facts : List CalFact) (up : Bool) : Dev := (d.calFacts q facts up).calChans q up

theorem Dev.calEndQ_eq (d : Dev) (q : Nat) (facts : List CalFact) (up : Bool) : d.calEndQ q facts up =
    if d.calibrating q then (d.calMeasured q facts up).calClose q ((d.calFacts q facts up).quad q).calAt up else d := by
  unfold Dev.calEndQ Dev.calMeasured Dev.calChans Dev.calFacts
  rfl

section
variable (d : Dev)

@[simp] theorem Dev.calChan_calParts (refOk up : Bool) (n : Nat) : (d.calChan refOk up n).calParts = d.calParts := by
  have hflags (e : Dev) : (e.calUnflag up n).calParts = e.calParts := by simp [Dev.calUnflag, apply_ite Dev.calParts]
  have hpass (e : Dev) : (e.calPass n).calParts = e.calParts := by simp [Dev.calPass, apply_ite Dev.calParts]
  have href (e : Dev) : (e.calRefGood refOk n).calParts = e.calParts := by simp [Dev.calRefGood, apply_ite Dev.calParts]
  simp only [Dev.calChan, apply_ite Dev.calParts, Dev.settleStart_calParts, href, hpass, hflags, ite_self]

@[simp] theorem Dev.calFacts_calParts (q : Nat) (facts : List CalFact) (up : Bool) : (d.calFacts q facts up).calParts = d.calParts := by
  rw [Dev.calFacts]
  exact foldl_keeps Dev.calParts _ _ (fun e f => e.calFact_calParts f up) d

@[simp] theorem Dev.calChans_calParts (q : Nat) (up : Bool) : (d.calChans q up).calParts = d.calParts := by
  have h : ((quadChs q).foldl (fun (e : Dev) n => e.calChan (d.calRefOk q) up n) d).calParts = d.calParts :=
    foldl_keeps Dev.calParts _ _ (fun e n => e.calChan_calParts _ up n) d
  simp [Dev.calChans, apply_ite Dev.calParts, h]

@[simp] theorem Dev.calMeasured_calParts (q : Nat) (facts : List CalFact) (up : Bool) : (d.calMeasured q facts up).calParts = d.calParts := by
  rw [Dev.calMeasured, Dev.calChans_calParts, Dev.calFacts_calParts]

end

section
variable (d : Dev)

theorem Dev.quad_congr {d e : Dev} (h : e.calParts = d.calParts) (q : Nat) : e.quad q = d.quad q := by
  obtain ⟨hquads, -, -⟩ := Dev.calParts_eq h
  rw [Dev.quad, Dev.quad, hquads]

theorem Dev.clk_congr {d e : Dev} (h : e.calParts = d.calParts) : e.tim.clk = d.tim.clk := by
  obtain ⟨-, -, htim⟩ := Dev.calParts_eq h
  rw [htim]

/-- What closes the calibration of quadrant `q`, and its outcome. -/
theorem Dev.calClose_quad_same {q : Nat} (began : Nat) (up : Bool) (h : q < d.loc.quads.length) : (d.calClose q began up).quad q =
    { d.quad q with outcome := if (quadChs q).any (fun n => d.chHas n 12) then 4 else 1, busy := false, calEnd := some d.tim.clk, hold := !up } :=
  d.quad_modQuad_same _ h

theorem Dev.calClose_quad_ne {q j : Nat} (began : Nat) (up : Bool) (h : q ≠ j) : (d.calClose q began up).quad j = d.quad j := d.quad_modQuad_ne _ h

theorem Dev.calClose_rd {a q : Nat} (began : Nat) (up : Bool) (hs : a ≠ Reg.CNV_STATUS) (ht : a ≠ Reg.CNV_CAL_TIME) : (d.calClose q began up).rd a = d.rd a := by
  rw [Dev.calClose]
  rw [Dev.putB, Dev.rd_putF_ne _ hs, Dev.wrSat, Dev.rd_wr_ne _ ht]
  rfl

theorem Dev.calClose_time (q began : Nat) (up : Bool) : (d.calClose q began up).rdN Reg.CNV_CAL_TIME = min ((d.tim.clk - began) / 400) 0xFFFFFFFF := by
  have hsmall : min ((d.tim.clk - began) / 400) 0xFFFFFFFF < 2 ^ 32 := by omega
  rw [Dev.calClose]
  rw [Dev.rdN, Dev.putB, Dev.rd_putF_ne _ (by decide), Dev.wrSat, Dev.rd_wr_same, w32, BitVec.toNat_ofNat, Nat.mod_eq_of_lt hsmall]

theorem Dev.calClose_chHas (c j q began : Nat) (up : Bool) : (d.calClose q began up).chHas c j = d.chHas c j :=
  Dev.chHas_congr (d.calClose_rd began up (by unfold Reg.CNV_CH_STATUS Reg.CNV_STATUS; omega) (by unfold Reg.CNV_CH_STATUS Reg.CNV_CAL_TIME; omega)) j

theorem Dev.raise_chHas {a : Nat} (k : Nat) (c j : Nat) (h : Reg.CNV_CH_STATUS c ≠ a) : (d.raise a k).chHas c j = d.chHas c j :=
  Dev.chHas_congr (d.rd_raise_ne k h) j

/-- The end of the calibration of one quadrant in RUN or DEGRADED. -/
theorem Dev.calibrationDone_one {q : Nat} (facts : List CalFact) (hrun : d.running = true) (hcal : d.calibrating q = true) : d.calibrationDone [q] facts =
    ((d.calMeasured q facts false).calClose q (d.quad q).calAt false).raise Reg.CNV_INT_STATUS 0 := by
  have hup : (d.boot == 3) = false := by
    simp only [Dev.running, Bool.or_eq_true, beq_iff_eq] at hrun
    simp only [beq_eq_false_iff_ne]
    omega
  rw [Dev.calibrationDone]
  simp only [hup, Bool.false_and, Bool.false_eq_true, if_false, List.foldl_cons, List.foldl_nil, Dev.calEndQ_eq, if_pos hcal, List.cons_ne_nil]
  rw [Dev.quad_congr (d.calFacts_calParts q facts false)]

end

theorem calibrationDone_run {s : State} {q : Nat} (n : Nat) (facts : List CalFact) (hq : q < 4) (hrun : s.dev.running = true) (hcal : s.dev.calibrating q = true)
    (hf : ∀ f ∈ facts, f.ch < 192) : EndsWith (exec (.calibrationDone n [q] facts) s) (fun t =>
      (t.dev.quad q).busy = false ∧ (t.dev.quad q).calEnd = some (max s.dev.tim.clk n) ∧
      (t.dev.quad q).outcome = (if (quadChs q).any (fun c => t.dev.chHas c 12) then 4 else 1) ∧
      t.dev.rdN Reg.CNV_CAL_TIME = min ((max s.dev.tim.clk n - (s.dev.quad q).calAt) / 400) 0xFFFFFFFF ∧ t.dev.flag Reg.CNV_INT_STATUS 0 = true) := by
  have hok : ([q].all (fun q => decide (q < 4)) && facts.all (fun f => decide (f.ch < 192))) = true := by simpa [hq] using hf
  have hends := devRow_ends s n (fun d => d.calibrationDone [q] facts)
  rw [Dev.calibrationDone_one (s.dev.tick n) facts hrun hcal] at hends
  rw [exec_calibrationDone, hok]
  have hparts := (s.dev.tick n).calMeasured_calParts q facts false
  generalize (s.dev.tick n).calMeasured q facts false = m at hends hparts
  have hclk : m.tim.clk = max s.dev.tim.clk n := by rw [Dev.clk_congr hparts, Dev.tick_clk]
  have hlen : q < m.loc.quads.length := m.lt_of_busy (by
    rw [Dev.quad_congr hparts]
    exact (Bool.and_eq_true_iff.mp hcal).1)
  have hquad := m.calClose_quad_same (s.dev.quad q).calAt false hlen
  have htime := m.calClose_time q (s.dev.quad q).calAt false
  rw [hclk] at hquad htime
  have hflag (c : Nat) : ((m.calClose q (s.dev.quad q).calAt false).raise Reg.CNV_INT_STATUS 0).chHas c 12 = m.chHas c 12 := by
    rw [Dev.raise_chHas _ _ _ _ (by unfold Reg.CNV_CH_STATUS Reg.CNV_INT_STATUS; omega), Dev.calClose_chHas]
  refine hends.with fun _ _ _ _ _ => ⟨congrArg Quad.busy hquad, congrArg Quad.calEnd hquad, ?_, ?_, ?_⟩
  · refine (congrArg Quad.outcome hquad).trans ?_
    simp only [← hflag]
    rfl
  · rw [Dev.rdN, Dev.ended_rd, Dev.rd_raise_ne _ _ (by decide)]
    exact htime
  · exact Dev.flag_raise _ _ _ (by decide)

/-! The calibration at power-up (R39, R170). -/

section
variable (d : Dev)

theorem Dev.mem_quadChs {q c : Nat} : c ∈ quadChs q ↔ c / 48 = q := by
  simp only [quadChs, List.mem_map, List.mem_range]
  constructor
  · rintro ⟨j, hj, rfl⟩
    omega
  · rintro rfl
    exact ⟨c % 48, Nat.mod_lt _ (by decide), by omega⟩

theorem Dev.modChan_chHas (n : Nat) (f : Chan → Chan) (c j : Nat) : (d.modChan n f).chHas c j = d.chHas c j := rfl

/-- Of the flags of a channel its coefficients write CAL_FAIL. -/
theorem Dev.calFact_chHas {f : CalFact} (both : Bool) {c j : Nat} (hf : f.ch < 192) (h0 : j ≠ 0) (h12 : j ≠ 12) : (d.calFact f both).chHas c j = d.chHas c j := by
  have hg (e : Dev) (x : Nat) (y : Word) : ((e.wrN (Reg.CNV_CH_GAIN f.ch) x).wr (Reg.CNV_CH_OFS f.ch) y).chHas c j = e.chHas c j := Dev.chHas_congr (by
    rw [Dev.rd_wr_ne _ (by unfold Reg.CNV_CH_STATUS Reg.CNV_CH_OFS; omega), Dev.wrN, Dev.rd_wr_ne _ (by unfold Reg.CNV_CH_STATUS Reg.CNV_CH_GAIN; omega)]) j
  have hl (e : Dev) (x : Nat) (y : Word) : ((e.wrN (Reg.CNV_CH_GAIN_LP f.ch) x).wr (Reg.CNV_CH_OFS_LP f.ch) y).chHas c j = e.chHas c j := Dev.chHas_congr (by
    rw [Dev.rd_wr_ne _ (by unfold Reg.CNV_CH_STATUS Reg.CNV_CH_OFS_LP; omega), Dev.wrN, Dev.rd_wr_ne _ (by unfold Reg.CNV_CH_STATUS Reg.CNV_CH_GAIN_LP; omega)]) j
  simp only [Dev.calFact, apply_ite (Dev.chHas · c j), Dev.chHas_chFlag_ne _ _ hf (by decide : 12 < 32) h0 (.inr h12), hg, hl, ite_self]

/-- The end of a power-up calibration clears CAL of its channel. -/
theorem Dev.calChan_calFlag (refOk : Bool) {n c : Nat} (hn : n < 192) : (d.calChan refOk true n).chHas c 2 = if n = c then false else d.chHas c 2 := by
  have hflag (e : Dev) (b : Bool) {k : Nat} (hk : k < 32) (h2 : 2 ≠ k) : (e.chFlag n k b).chHas c 2 = e.chHas c 2 :=
    Dev.chHas_chFlag_ne _ _ hn hk (by decide) (.inr h2)
  have hclear : (d.chFlag n 2 false).chHas c 2 = if n = c then false else d.chHas c 2 := by
    split
    case isTrue h => rw [← h, Dev.chHas_chFlag_same _ _ (by decide) (by decide)]
    case isFalse h => exact Dev.chHas_chFlag_ne _ _ hn (by decide) (by decide) (.inl (Ne.symm h))
  have hflags : (d.calUnflag true n).chHas c 2 = if n = c then false else d.chHas c 2 := by
    rw [Dev.calUnflag, hflag _ _ (by decide) (by decide), if_pos rfl, hclear]
  have hpass (e : Dev) : (e.calPass n).chHas c 2 = e.chHas c 2 := by
    simp only [Dev.calPass, apply_ite (Dev.chHas · c 2), Dev.modChan_chHas, hflag _ _ (by decide : 3 < 32) (by decide), ite_self]
  have href (e : Dev) : (e.calRefGood refOk n).chHas c 2 = e.chHas c 2 := by
    simp only [Dev.calRefGood, apply_ite (Dev.chHas · c 2), hflag _ _ (by decide : 7 < 32) (by decide), ite_self]
  rw [Dev.calChan, if_pos rfl, href, hpass, hflags]

end

section
variable (d : Dev)

theorem Dev.calFacts_chHas {q c j : Nat} (facts : List CalFact) (up : Bool) (hf : ∀ f ∈ facts, f.ch < 192) (h0 : j ≠ 0) (h12 : j ≠ 12) :
    (d.calFacts q facts up).chHas c j = d.chHas c j := by
  rw [Dev.calFacts]
  exact foldl_keeps_mem (Dev.chHas · c j) (fun e f hmem => e.calFact_chHas up (hf f (List.mem_filter.mp hmem).1) h0 h12) d

/-- The quadrant has ended its calibration, and its channels carry CAL no more. -/
def Dev.CalOver (d : Dev) (q : Nat) : Prop := (d.quad q).busy = false ∧ ∀ c, c / 48 = q → d.chHas c 2 = false

theorem Dev.calChans_calFlag {q c : Nat} (hq : q < 4) : (d.calChans q true).chHas c 2 = if c / 48 = q then false else d.chHas c 2 := by
  have hfold : ((quadChs q).foldl (fun (e : Dev) n => e.calChan (d.calRefOk q) true n) d).chHas c 2 = if c / 48 = q then false else d.chHas c 2 := by
    have hn (n : Nat) (hmem : n ∈ quadChs q) : n < 192 := by
      rw [Dev.mem_quadChs] at hmem
      omega
    split
    case isTrue h =>
      refine foldl_reaches (fun e : Dev => e.chHas c 2 = false) (Dev.mem_quadChs.mpr h) (fun e => ?_) (fun e n hmem he => ?_) d
      · rw [Dev.calChan_calFlag _ _ (by omega), if_pos rfl]
      · rw [Dev.calChan_calFlag _ _ (hn n hmem), he, ite_self]
    case isFalse h =>
      refine foldl_keeps_mem (Dev.chHas · c 2) (fun e n hmem => ?_) d
      refine (e.calChan_calFlag _ (hn n hmem)).trans (if_neg ?_)
      rintro rfl
      exact h (Dev.mem_quadChs.mp hmem)
  rw [Dev.calChans]
  simp only [apply_ite (Dev.chHas · c 2)]
  rw [Dev.chHas_congr (d := (quadChs q).foldl (fun (e : Dev) n => e.calChan (d.calRefOk q) true n) d) (by
    rw [Dev.putB, Dev.rd_putF_ne _ (by unfold Reg.CNV_CH_STATUS Reg.CNV_STATUS; omega)]), ite_self, hfold]

/-- The end of the calibration at power-up of each quadrant of a list. -/
def Dev.calEnds (l : List Nat) (facts : List CalFact) : Dev := l.foldl (fun (d : Dev) q => d.calEndQ q facts true) d

variable {facts : List CalFact} (hf : ∀ f ∈ facts, f.ch < 192)
include hf

theorem Dev.calEndQ_calFlag {q c : Nat} (hq : q < 4) (h : d.calibrating q = true) :
    (d.calEndQ q facts true).chHas c 2 = if c / 48 = q then false else d.chHas c 2 := by
  rw [Dev.calEndQ_eq, if_pos h, Dev.calClose_chHas, Dev.calMeasured, Dev.calChans_calFlag _ hq, Dev.calFacts_chHas _ facts true hf (by decide) (by decide)]

omit hf in
theorem Dev.calEndQ_quad_ne {q j : Nat} (h : q ≠ j) (up : Bool) : (d.calEndQ q facts up).quad j = d.quad j := by
  rw [Dev.calEndQ_eq]
  split
  · rw [Dev.calClose_quad_ne _ _ _ h, Dev.quad_congr (d.calMeasured_calParts q facts up)]
  · rfl

omit hf in
theorem Dev.calEndQ_idle {q : Nat} (h : d.calibrating q = true) (up : Bool) : ((d.calEndQ q facts up).quad q).busy = false := by
  have hparts := d.calMeasured_calParts q facts up
  have hbusy : (d.quad q).busy = true := (Bool.and_eq_true_iff.mp h).1
  rw [Dev.calEndQ_eq, if_pos h, Dev.calClose_quad_same _ _ _ (Dev.lt_of_busy _ (by rwa [Dev.quad_congr hparts]))]

omit hf in
theorem Dev.calEndQ_tim (q : Nat) (up : Bool) : (d.calEndQ q facts up).tim = d.tim := by
  have hparts := d.calMeasured_calParts q facts up
  rw [Dev.calEndQ_eq]
  split
  · obtain ⟨-, -, htim⟩ := Dev.calParts_eq hparts
    exact htim
  · rfl

theorem Dev.calEndQ_over {q : Nat} (hq : q < 4) (h : d.calibrating q = true) : (d.calEndQ q facts true).CalOver q :=
  ⟨d.calEndQ_idle h true, fun _ hc => (d.calEndQ_calFlag hf hq h).trans (if_pos hc)⟩

theorem Dev.calEndQ_keeps_over {q j : Nat} (hq : q < 4) (h : d.CalOver j) : (d.calEndQ q facts true).CalOver j := by
  obtain ⟨hidle, hclear⟩ := h
  by_cases hcal : d.calibrating q = true
  · refine ⟨?_, fun c hc => by rw [d.calEndQ_calFlag hf hq hcal, hclear c hc, ite_self]⟩
    obtain rfl | hne := eq_or_ne q j
    · exact d.calEndQ_idle hcal true
    · rwa [d.calEndQ_quad_ne hne]
  · rw [Dev.calEndQ_eq, if_neg hcal]
    exact ⟨hidle, hclear⟩

variable {d} in
theorem Dev.calEnds_keep_over {l : List Nat} (hl : ∀ q ∈ l, q < 4) {j : Nat} (h : d.CalOver j) :
    (d.calEnds l facts).CalOver j := by
  induction l generalizing d with
  | nil => exact h
  | cons y r ih => exact ih (fun z hz => hl z (.tail _ hz)) (d.calEndQ_keeps_over hf (hl y (.head _)) h)

/-- Each quadrant of the list that calibrates ends its calibration. -/
theorem Dev.calEnds_over {l : List Nat} (hl : ∀ q ∈ l, q < 4) {q : Nat} (hq : q ∈ l) (h : d.calibrating q = true) :
    (d.calEnds l facts).CalOver q := by
  induction l generalizing d with
  | nil => cases hq
  | cons x r ih =>
    have hr : ∀ y ∈ r, y < 4 := fun y hy => hl y (.tail _ hy)
    obtain rfl | hne := eq_or_ne x q
    · exact Dev.calEnds_keep_over hf hr (d.calEndQ_over hf (hl x (.head _)) h)
    · refine ih _ hr ((List.mem_cons.mp hq).resolve_left hne.symm) ?_
      rw [Dev.calibrating, Dev.calEndQ_quad_ne _ hne]
      exact h

end

/-! The phase reset (R41, R230) and the state that follows. -/

section
variable (d : Dev)

@[simp] theorem Dev.ckPublish_calParts (k : Nat) (r : CkRes) : (d.ckPublish k r).calParts = d.calParts := by
  simp [Dev.ckPublish, apply_ite Dev.calParts]

@[simp] theorem Dev.ckAbort_calParts (k : Nat) (r : CkRun) : (d.ckAbort k r).calParts = d.calParts := by
  simp [Dev.ckAbort]

/-- A check converter set back: its run and its next one are published as aborted. -/
def Dev.ckBack (d : Dev) (k : Nat) : Dev :=
  let c := d.ck k
  let again := (c.run.or c.due).map (fun r => (r.ch, r.injected))
  let d := d.modCk k (fun c => { c with run := none, due := none, redo := again.or c.redo })
  let d := match c.due with | some r => d.ckAbort k r | none => d
  match c.run with | some r => d.ckAbort k r | none => d

theorem Dev.ckReset_eq : d.ckReset = foldUp 16 (fun k d => d.ckBack k) d := rfl

@[simp] theorem Dev.ckBack_calParts (k : Nat) : (d.ckBack k).calParts = d.calParts := by
  rw [Dev.ckBack]
  split <;> split <;> simp

@[simp] theorem Dev.ckReset_calParts : d.ckReset.calParts = d.calParts := by
  rw [Dev.ckReset_eq]
  exact foldUp_keeps Dev.calParts 16 _ (fun k e => e.ckBack_calParts k) d

/-- SETTLE started on each of the 256 positions (R232). -/
def Dev.settleAll : Dev := foldUp 256 (fun n d => d.settleStart n) d

@[simp] theorem Dev.settleAll_calParts : d.settleAll.calParts = d.calParts := by
  rw [Dev.settleAll]
  exact foldUp_keeps Dev.calParts 256 _ (fun n e => e.settleStart_calParts n) d

/-- The counts of the phase reset at 0. -/
def Dev.phaseZero : Dev :=
  { d with loc := { d.loc with ticks := 0, cycles := 0, pos := 0, posLp := 0, resetAt := some d.tim.clk, base := [0, 0, 0, 0, 0], edge := true,
                               flutAt := 0, cycAt := 0, frameAt := 0 } }

/-- The time of the marked edge held, and the record of the reset. -/
def Dev.phaseMark (e : Nat) : Dev :=
  let d := ((d.wrN Reg.FLT_SYNC_SEC_LO (e / unitSec)).wrN Reg.FLT_SYNC_SEC_HI (e / unitSec / 2 ^ 32 % 2 ^ 16)).wrN Reg.FLT_SYNC_NS (e % unitSec / unitNs)
  (d.free.2.record 0x0504 (be 1 (d.free.1 % 256) ++ zeros 3 ++ be 4 (d.free.2.rdN Reg.FLT_DECSYNC_CNT) ++ zeros 8)).raise Reg.FLT_INT_STATUS 0

theorem Dev.phaseReset_none_eq : d.phaseReset none = d.phaseZero.ckReset.settleAll.markedEdge.2.phaseMark d.phaseZero.ckReset.settleAll.markedEdge.1 := by
  simp only [Dev.phaseReset, Dev.settleAll, Dev.phaseZero, Option.isSome_none, Bool.false_eq_true, if_false]
  generalize foldUp 256 (fun n d => d.settleStart n) (Dev.ckReset _) = x
  rfl

/-- The phase reset sets the sample ticks to 0 and leaves the quadrants and the time. -/
theorem Dev.phaseReset_calParts : (d.phaseReset none).calParts = (d.loc.quads, 0, d.tim) := by
  have hmark (x : Dev) (e : Nat) : (x.phaseMark e).calParts = x.calParts := by simp [Dev.phaseMark]
  have hedge (x : Dev) : x.markedEdge.2.calParts = x.calParts := rfl
  have hzero : d.phaseZero.calParts = (d.loc.quads, 0, d.tim) := rfl
  rw [Dev.phaseReset_none_eq, hmark, hedge, Dev.settleAll_calParts, Dev.ckReset_calParts, hzero]

/-! A flag of a local channel other than SETTLE. -/

variable {c j : Nat}

theorem Dev.wrN_chHas {a : Nat} (v : Nat) (h : Reg.CNV_CH_STATUS c ≠ a) : (d.wrN a v).chHas c j = d.chHas c j := Dev.chHas_congr (Dev.rd_wr_ne _ h _) j

theorem Dev.putB_chHas {a : Nat} (k : Nat) (b : Bool) (h : Reg.CNV_CH_STATUS c ≠ a) : (d.putB a k b).chHas c j = d.chHas c j :=
  Dev.chHas_congr (by rw [Dev.putB, Dev.rd_putF_ne _ h]) j

theorem Dev.vcFlag_chHas (hc : c < 192) (v k : Nat) (b : Bool) : (d.vcFlag v k b).chHas c j = d.chHas c j := by
  have hv : Reg.CNV_CH_STATUS c ≠ Reg.FLT_VC_STATUS v := by unfold Reg.CNV_CH_STATUS Reg.FLT_VC_STATUS; omega
  have hs : Reg.CNV_CH_STATUS c ≠ Reg.FLT_INT_STATUS := by unfold Reg.CNV_CH_STATUS Reg.FLT_INT_STATUS; omega
  simp only [Dev.vcFlag, apply_ite (Dev.chHas · c j), Dev.raise_chHas _ _ _ _ hs, Dev.putB_chHas _ _ _ hv, ite_self]

theorem Dev.settleStart_chHas (n : Nat) (hc : c < 192) (h0 : j ≠ 0) (h8 : j ≠ 8) : (d.settleStart n).chHas c j = d.chHas c j := by
  have hset (l : List (Nat × Nat)) : ({ d with loc := { d.loc with settle := l } } : Dev).chHas c j = d.chHas c j := rfl
  rw [Dev.settleStart]
  dsimp only
  split
  case isTrue hn => rw [Dev.chHas_chFlag_ne _ _ hn (by decide) h0 (.inr h8), hset]
  case isFalse => rw [Dev.vcFlag_chHas _ hc, hset]

theorem Dev.settleAll_chHas (hc : c < 192) (h0 : j ≠ 0) (h8 : j ≠ 8) : d.settleAll.chHas c j = d.chHas c j := by
  rw [Dev.settleAll]
  exact foldUp_keeps (Dev.chHas · c j) 256 _ (fun n e => e.settleStart_chHas n hc h0 h8) d

theorem Dev.ckAbort_chHas (k : Nat) (r : CkRun) : (d.ckAbort k r).chHas c j = d.chHas c j := by
  have hs : Reg.CNV_CH_STATUS c ≠ Reg.CNV_INT_STATUS := by unfold Reg.CNV_CH_STATUS Reg.CNV_INT_STATUS; omega
  simp only [Dev.ckAbort, Dev.ckPublish, apply_ite (Dev.chHas · c j), Dev.raise_chHas _ _ _ _ hs]
  exact ite_self _

theorem Dev.ckReset_chHas : d.ckReset.chHas c j = d.chHas c j := by
  have hck (e : Dev) (k : Nat) (f : Ck → Ck) : (e.modCk k f).chHas c j = e.chHas c j := rfl
  rw [Dev.ckReset_eq]
  refine foldUp_keeps (Dev.chHas · c j) 16 _ (fun k e => ?_) d
  rw [Dev.ckBack]
  split <;> split <;> simp only [Dev.ckAbort_chHas, hck]

theorem Dev.phaseReset_chHas (hc : c < 192) (h0 : j ≠ 0) (h8 : j ≠ 8) : (d.phaseReset none).chHas c j = d.chHas c j := by
  have hfree (e : Dev) : e.free.2.chHas c j = e.chHas c j := rfl
  have hrec (e : Dev) (typ : Nat) (b : Bytes) : (e.record typ b).chHas c j = e.chHas c j :=
    Dev.chHas_congr (e.record_rd_ne typ b (by unfold Reg.CNV_CH_STATUS Reg.REC_LOST_CNT; omega)) j
  have hzero : d.phaseZero.chHas c j = d.chHas c j := rfl
  have hw (e : Dev) {a : Nat} (v : Nat) (ha : 0x80000 ≤ a) : (e.wrN a v).chHas c j = e.chHas c j :=
    e.wrN_chHas v (by unfold Reg.CNV_CH_STATUS; omega)
  rw [Dev.phaseReset_none_eq, Dev.phaseMark, Dev.raise_chHas _ _ _ _ (by unfold Reg.CNV_CH_STATUS Reg.FLT_INT_STATUS; omega), hrec, hfree,
    hw _ _ (by decide), hw _ _ (by decide), hw _ _ (by decide), Dev.markedEdge, hfree, Dev.settleAll_chHas _ hc h0 h8, Dev.ckReset_chHas, hzero]

end

/-! A change of STATE (R39). -/

theorem Dev.setBoot_rd (d : Dev) (b : Nat) {a : Nat} (hb : a ≠ Reg.GLB_BOOT_STATE) (ht : a ≠ Reg.GLB_STATE_TIME b) (hi : a ≠ Reg.GLB_INT_STATUS) :
    (d.setBoot b).rd a = d.rd a := by
  rw [Dev.setBoot]
  split
  · rfl
  · rw [Dev.rd_raise_ne _ _ hi, Dev.wrSat, Dev.rd_wr_ne _ ht, Dev.rd_putF_ne _ hb]

theorem Dev.setBoot_boot (d : Dev) {b : Nat} (hb : b < 8) : (d.setBoot b).boot = b := by
  have hst : Reg.GLB_BOOT_STATE ≠ Reg.GLB_STATE_TIME b := by unfold Reg.GLB_BOOT_STATE Reg.GLB_STATE_TIME; omega
  rw [Dev.setBoot]
  split
  case isTrue h => exact h
  case isFalse =>
    rw [Dev.boot, Dev.fld, Dev.rd_raise_ne _ _ (by decide), Dev.wrSat, Dev.rd_wr_ne _ hst, ← Dev.fld, Dev.fld_putF _ _ _ _ _ (by decide)]
    exact Nat.mod_eq_of_lt hb

@[simp] theorem Dev.setBoot_calParts (d : Dev) (b : Nat) : (d.setBoot b).calParts = d.calParts := by
  simp [Dev.setBoot, apply_ite Dev.calParts]

/-- Without a lock nothing enters RUN. -/
theorem Dev.enterRun_unlocked (d : Dev) (h : d.tim.lockedOnce = false) : d.enterRun = d := by
  rw [Dev.enterRun]
  simp [h]

/-! The end of the calibration at power-up (R39, R170). -/

section
variable (d : Dev)

/-- NOT_CAL cleared on every local channel. -/
def Dev.calClear : Dev := foldUp 192 (fun n (d : Dev) => d.chFlag n 1 false) d

/-- The sequences of the check converters at 0. -/
def Dev.cksZero : Dev := { d with loc := { d.loc with cks := d.loc.cks.map (fun (c : Ck) => { c with seq := 0 }) } }

/-- The machine that goes to SYNC. -/
def Dev.calSync : Dev := (((d.calClear.cksZero.phaseReset none).putB Reg.CNV_STATUS 12 true).raise Reg.CNV_INT_STATUS 0).setBoot 4

theorem Dev.calClear_calParts : d.calClear.calParts = d.calParts := by
  rw [Dev.calClear]
  exact foldUp_keeps Dev.calParts 192 _ (fun n e => e.chFlag_calParts n 1 false) d

theorem Dev.calClear_notCal {c : Nat} (hc : c < 192) : d.calClear.chHas c 1 = false := by
  rw [Dev.calClear]
  exact (foldUp_at (g := (Dev.chHas · c 1)) (F := fun _ => false) (fun n hn e hne => Dev.chHas_chFlag_ne _ _ hn (by decide) (by decide) (.inl hne.symm))
    (fun e => Dev.chHas_chFlag_same _ _ (by decide) (by decide)) d).trans (if_pos hc)

theorem Dev.calClear_cal {c : Nat} (hc : c < 192) : d.calClear.chHas c 2 = d.chHas c 2 := by
  rw [Dev.calClear]
  exact (foldUp_at (g := (Dev.chHas · c 2)) (F := id) (q := c) (fun n hn e _ => Dev.chHas_chFlag_ne _ _ hn (by decide) (by decide) (.inr (by decide)))
    (fun e => Dev.chHas_chFlag_ne _ _ hc (by decide) (by decide) (.inr (by decide))) d).trans (if_pos hc)

theorem Dev.calSync_calParts : d.calSync.calParts = (d.loc.quads, 0, d.tim) := by
  have hzero (e : Dev) : (e.cksZero.loc.quads, 0, e.cksZero.tim) = (e.loc.quads, 0, e.tim) := rfl
  obtain ⟨hquads, -, htim⟩ := Dev.calParts_eq d.calClear_calParts
  rw [Dev.calSync, Dev.setBoot_calParts, Dev.raise_calParts, Dev.putB_calParts, Dev.phaseReset_calParts, hzero, hquads, htim]

theorem Dev.calSync_chHas {c j : Nat} (hc : c < 192) (h0 : j ≠ 0) (h8 : j ≠ 8) : d.calSync.chHas c j = d.calClear.chHas c j := by
  have hboot (e : Dev) : (e.setBoot 4).chHas c j = e.chHas c j := Dev.chHas_congr (e.setBoot_rd 4 (by unfold Reg.CNV_CH_STATUS Reg.GLB_BOOT_STATE; omega)
    (by unfold Reg.CNV_CH_STATUS Reg.GLB_STATE_TIME; omega) (by unfold Reg.CNV_CH_STATUS Reg.GLB_INT_STATUS; omega)) j
  have hzero (e : Dev) : e.cksZero.chHas c j = e.chHas c j := rfl
  rw [Dev.calSync, hboot, Dev.raise_chHas _ _ _ _ (by unfold Reg.CNV_CH_STATUS Reg.CNV_INT_STATUS; omega),
    Dev.putB_chHas _ _ _ (by unfold Reg.CNV_CH_STATUS Reg.CNV_STATUS; omega), Dev.phaseReset_chHas _ hc h0 h8, hzero]

theorem Dev.calSync_locked : d.calSync.flag Reg.CNV_STATUS 12 = true := by
  rw [Dev.calSync, Dev.flag, Dev.setBoot_rd _ _ (by decide) (by decide) (by decide), Dev.rd_raise_ne _ _ (by decide), ← Dev.flag,
    Dev.flag_putB_same _ _ _ _ (by decide)]

/-- What the calibration at power-up leaves: SYNC, no quadrant busy, no channel with NOT_CAL or CAL. -/
structure Dev.CalSynced (e : Dev) : Prop where
  boot : e.boot = 4
  aligned : e.flag Reg.CNV_STATUS 12 = true
  ticks : e.loc.ticks = 0
  idle : ∀ q < 4, (e.quad q).busy = false
  clear : ∀ c < 192, e.chHas c 1 = false ∧ e.chHas c 2 = false

theorem Dev.calSync_synced (h : ∀ q < 4, d.CalOver q) : d.calSync.CalSynced := by
  obtain ⟨hquads, hticks, -⟩ := Dev.calParts_eq d.calSync_calParts
  refine ⟨Dev.setBoot_boot _ (by decide), d.calSync_locked, hticks, fun q hq => ?_, fun c hc => ?_⟩
  · rw [Dev.quad, hquads]
    exact (h q hq).1
  · rw [d.calSync_chHas hc (by decide) (by decide), d.calSync_chHas hc (by decide) (by decide), d.calClear_cal hc]
    exact ⟨d.calClear_notCal hc, (h (c / 48) (by omega)).2 c rfl⟩

/-- At power-up the device goes on once no quadrant is busy. -/
theorem Dev.calibrationDone_idle {l : List Nat} {facts : List CalFact} (hboot : d.boot = 3)
    (hidle : (List.range 4).all (fun q => !((d.calEnds l facts).quad q).busy) = true) : d.calibrationDone l facts = (d.calEnds l facts).calSync.enterRun := by
  have hends : l.foldl (fun (d : Dev) (q : Nat) => d.calEndQ q facts true) d = d.calEnds l facts := rfl
  simp only [Dev.calibrationDone, hboot, beq_self_eq_true, Bool.true_and, hends, if_pos hidle]
  rfl

/-- CALIBRATION_DONE of all four quadrants at power-up, where nothing has locked. -/
theorem Dev.calibrationDone_up {facts : List CalFact} (hf : ∀ f ∈ facts, f.ch < 192) (hboot : d.boot = 3) (hcal : ∀ q < 4, d.calibrating q = true)
    (hlock : d.tim.lockedOnce = false) : (d.calibrationDone [0, 1, 2, 3] facts).CalSynced := by
  have hover : ∀ q < 4, (d.calEnds [0, 1, 2, 3] facts).CalOver q := fun q hq => d.calEnds_over hf (by decide) (by simp; omega) (hcal q hq)
  have htim : (d.calEnds [0, 1, 2, 3] facts).tim = d.tim := by
    rw [Dev.calEnds]
    exact foldl_keeps Dev.tim _ _ (fun x q => x.calEndQ_tim q true) d
  have hidle : (List.range 4).all (fun q => !((d.calEnds [0, 1, 2, 3] facts).quad q).busy) = true := by
    simp only [List.all_eq_true, List.mem_range, Bool.not_eq_true']
    exact fun q hq => (hover q hq).1
  have hsync := d.calibrationDone_idle hboot hidle
  generalize d.calEnds [0, 1, 2, 3] facts = e at hover htim hsync
  have hlock' : e.calSync.tim.lockedOnce = false := by
    obtain ⟨-, -, hsync⟩ := Dev.calParts_eq e.calSync_calParts
    rw [hsync, htim, hlock]
  rw [hsync, Dev.enterRun_unlocked _ hlock']
  exact e.calSync_synced hover

end

theorem calibrationDone_powerUp {s : State} (n : Nat) {facts : List CalFact} (hf : ∀ f ∈ facts, f.ch < 192) (hboot : s.dev.boot = 3)
    (hcal : ∀ q < 4, s.dev.calibrating q = true) (hlock : s.dev.tim.lockedOnce = false) :
    EndsWith (exec (.calibrationDone n [0, 1, 2, 3] facts) s) (fun t => t.dev.CalSynced) := by
  have hok : ([0, 1, 2, 3].all (fun q => decide (q < 4)) && facts.all (fun f => decide (f.ch < 192))) = true := by simpa using hf
  rw [exec_calibrationDone, hok]
  have h := (s.dev.tick n).calibrationDone_up hf hboot hcal ((Dev.tick_tim_lockedOnce _ _).trans hlock)
  exact (devRow_ends s n (fun d => d.calibrationDone [0, 1, 2, 3] facts)).with fun _ _ _ _ _ => ⟨h.boot, h.aligned, h.ticks, h.idle, h.clear⟩

/-- Settles O23: CAL_START asks each quadrant apart (`Dev.calStart_quad`), the end of a calibration leaves the other quadrants (`calibrationDone_run`,
`calibrationDone_powerUp`), and SETTLE_END clears its channels one by one (`settleEnd_endsWith`). -/
theorem calibrationAndLowPower : Obligations.CalibrationAndLowPower := by
  unfold Obligations.CalibrationAndLowPower
  refine ⟨?start, ?run, ?powerUp, ?lowPower, ?settle⟩
  case start =>
    intro s n i v hcan
    obtain ⟨t, ht, hmask, hsel, hctl, hquad⟩ := calStart_endsWith n v hcan
    refine ⟨t, ht, hmask, hsel, hctl, fun q hq => ?_⟩
    have h := hquad q hq
    refine ⟨fun hnot => ?_, fun hask hbusy => ?_, fun hask hfree hsoon => ?_, fun hask hfree hsoon hrun hpresent => ?_, fun hfree hsoon hstill => ?_⟩
    · exact h.trans (if_neg (by simp [hnot]))
    · exact (h.trans (if_pos hask)).trans (CalView.answer_busy hbusy)
    · exact (h.trans (if_pos hask)).trans (CalView.answer_soon hfree hsoon)
    · exact (h.trans (if_pos hask)).trans (CalView.answer_taken hfree hsoon hrun (decide_eq_true hpresent))
    · refine h.trans ?_
      split
      · exact CalView.answer_still hfree hsoon hstill
      · rfl
  case run =>
    intro s n q facts hq hrun hcal hf
    exact calibrationDone_run n facts hq hrun hcal hf
  case powerUp =>
    intro s n facts hboot hcal hf hlock
    obtain ⟨t, ht, h⟩ := calibrationDone_powerUp n hf hboot hcal hlock
    exact ⟨t, ht, h.boot, h.aligned, h.ticks, h.idle, h.clear⟩
  case lowPower =>
    intro s n i v hcan
    exact lpRequest_ends n v hcan
  case settle =>
    intro s n hboot
    exact settleEnd_endsWith n hboot

end Sys2Proof.Machine

/-! The wingbeat boundary (O33): its actions are those of the model in their order, and a commit that resets enters SELFTEST anew. -/

namespace Sys2Proof.Machine

section
variable (d : Dev) (dig : Option DigestIn)

/-- The machine that comes to action 3, the commits, at the boundary that falls next (R62). -/
def Dev.boundaryReady : Dev := (((d.gridStep.boundaryCheck d.wbSeq dig).moveItems d.wbSeq).boundaryClaim).performReady 65536

theorem Dev.wingbeat_eq : d.wingbeat dig =
    if d.rate = 0 || d.boot < 3 || !d.boundaryDue then (false, d)
    else if ((d.boundaryReady dig).boundaryCommit d).1 then (true, ((d.boundaryReady dig).boundaryCommit d).2)
    else (false, (((d.boundaryReady dig).boundaryCommit d).2.domainSwitch.gridNote.boundarySlots).statsAll d.wbSeq) := by
  unfold Dev.wingbeat Dev.boundaryReady
  dsimp only

variable {d dig}

theorem Dev.wingbeat_still (h : d.rate = 0 ∨ d.boot < 3 ∨ d.boundaryDue = false) : d.wingbeat dig = (false, d) := by
  rw [Dev.wingbeat_eq, if_pos]
  simpa [or_assoc] using h

theorem Dev.wingbeat_due (hrate : d.rate ≠ 0) (hboot : 3 ≤ d.boot) (hdue : d.boundaryDue = true) : d.wingbeat dig =
    if ((d.boundaryReady dig).boundaryCommit d).1 then (true, ((d.boundaryReady dig).boundaryCommit d).2)
    else (false, (((d.boundaryReady dig).boundaryCommit d).2.domainSwitch.gridNote.boundarySlots).statsAll d.wbSeq) := by
  rw [Dev.wingbeat_eq, if_neg]
  simp [hrate, hdue, hboot]

end

/-- What a wingbeat boundary makes of the machine, where no loop-back of the host link runs. -/
def Dev.wingbeatDev (d : Dev) (dig : Option DigestIn) : Dev := if (d.wingbeat dig).1 then (d.wingbeat dig).2.moduleReset 3 else (d.wingbeat dig).2

/-- The endpoint is not reset where no loop-back of the host link ran (R886). -/
theorem Dev.afterLoop_idle (d : Dev) {old : Dev} (h : (old.loop 3 0).mode = 0) : d.afterLoop old = d := by
  simp [Dev.afterLoop, h]

theorem wingbeatBoundary_ends (s : State) (n : Nat) (dig : Option DigestIn) (h : (s.dev.loop 3 0).mode = 0) :
    Ends (exec (.wingbeatBoundary n dig) s) { s with
      dev := (s.dev.tick n).wingbeatDev dig, ctl := if ((s.dev.tick n).wingbeatDev dig).resetCtr = s.dev.resetCtr then s.ctl else 0 } := by
  have hloop : ((s.dev.tick n).loop 3 0).mode = 0 := h
  have hends := resetRow_ends s n (fun d => if (d.wingbeat dig).1 then (d.wingbeat dig).2.moduleReset 3 else (d.wingbeat dig).2.afterLoop d)
  simp only [Dev.afterLoop_idle _ hloop] at hends
  rw [exec_wingbeatBoundary]
  exact hends

/-- Settles O33: the boundary of the model is its actions in their order (`Dev.wingbeat_due`), and a commit that resets leaves what `Dev.Restarted` says. -/
theorem wingbeatBoundaries : Obligations.WingbeatBoundaries := by
  unfold Obligations.WingbeatBoundaries
  intro s n dig hloop e next g c
  have hends := wingbeatBoundary_ends s n dig hloop
  have hnext : e.nextGrid = next := by
    show s.dev.grid.trans.getD (nextBoundary s.dev.rate s.dev.grid.sec s.dev.grid.k) = _
    simp only [next]
    cases s.dev.grid.trans <;> rfl
  have hready : (e.boundaryReady dig).boundaryCommit e = c := by
    simp only [c, g, ← hnext]
    rfl
  clear_value c
  intro z
  have hdue : e.boundaryDue = true ↔ boundaryAt s.dev.rate next.1 next.2 ≤ e.tim.out := by
    rw [Dev.boundaryDue, hnext, decide_eq_true_iff]
    rfl
  refine ⟨fun h => ?_, fun hrate hboot hout => ?_⟩
  · have hstill : e.wingbeat dig = (false, e) := by
      refine Dev.wingbeat_still (h.imp_right (Or.imp_right fun hlt => ?_))
      exact Bool.eq_false_iff.mpr fun hd => absurd (hdue.mp hd) (by omega)
    have hdev : e.wingbeatDev dig = e := by simp only [Dev.wingbeatDev, hstill]; rfl
    rw [hdev] at hends
    simpa [e] using hends
  · have hwing := Dev.wingbeat_due (d := e) (dig := dig) hrate hboot (hdue.mpr hout)
    rw [hready, show e.wbSeq = s.dev.wbSeq from rfl] at hwing
    refine ⟨fun hc => ?_, fun hc => ?_⟩
    · have hdev : e.wingbeatDev dig = z := by simp only [Dev.wingbeatDev, hwing, hc, Bool.false_eq_true, if_false, z]
      rwa [hdev] at hends
    · have hdev : e.wingbeatDev dig = c.2.moduleReset 3 := by simp only [Dev.wingbeatDev, hwing, hc, if_true]
      rw [hdev] at hends
      have hre := c.2.moduleReset_restarted (cause := 3) (by decide)
      exact hends.with fun _ _ _ _ _ => ⟨hre.boot, hre.cfg, hre.epoch, fun hctr => if_neg (by have := hre.resets; omega)⟩

end Sys2Proof.Machine

/-! Base-rate samples, sample ticks and the boundaries of the local path (O22). -/

namespace Sys2Proof.Machine

/-! What the samples, the checks and the bus leave of the local path. -/

/-- The local path without its quadrants, check converters, channel positions, virtual channels, threshold units and AO pins; and the time base. -/
def Dev.gridParts (d : Dev) : Local × Tim := ({ d.loc with quads := [], cks := [], chans := [], vcs := [], thr := [], aos := [] }, d.tim)

section
variable (d : Dev)

@[simp] theorem Dev.wr_gridParts (a : Nat) (v : Word) : (d.wr a v).gridParts = d.gridParts := rfl
@[simp] theorem Dev.wrN_gridParts (a v : Nat) : (d.wrN a v).gridParts = d.gridParts := rfl
@[simp] theorem Dev.wrS_gridParts (a : Nat) (v : Int) : (d.wrS a v).gridParts = d.gridParts := rfl
@[simp] theorem Dev.putF_gridParts (a hi lo v : Nat) : (d.putF a hi lo v).gridParts = d.gridParts := rfl
@[simp] theorem Dev.putB_gridParts (a k : Nat) (b : Bool) : (d.putB a k b).gridParts = d.gridParts := rfl
@[simp] theorem Dev.raise_gridParts (a k : Nat) : (d.raise a k).gridParts = d.gridParts := rfl
@[simp] theorem Dev.modQuad_gridParts (q : Nat) (f : Quad → Quad) : (d.modQuad q f).gridParts = d.gridParts := rfl
@[simp] theorem Dev.modCk_gridParts (k : Nat) (f : Ck → Ck) : (d.modCk k f).gridParts = d.gridParts := rfl
@[simp] theorem Dev.modChan_gridParts (n : Nat) (f : Chan → Chan) : (d.modChan n f).gridParts = d.gridParts := rfl
@[simp] theorem Dev.modVc_gridParts (v : Nat) (f : Vc → Vc) : (d.modVc v f).gridParts = d.gridParts := rfl
@[simp] theorem Dev.modAo_gridParts (a : Nat) (f : Ao → Ao) : (d.modAo a f).gridParts = d.gridParts := rfl
@[simp] theorem Dev.modPat_gridParts (u : Nat) (f : PatUnit → PatUnit) : (d.modPat u f).gridParts = d.gridParts := rfl
@[simp] theorem Dev.acq_gridParts (x : Acq) : ({ d with acq := x } : Dev).gridParts = d.gridParts := rfl
@[simp] theorem Dev.pins_gridParts (x : Pins) : ({ d with pins := x } : Dev).gridParts = d.gridParts := rfl
@[simp] theorem Dev.chans_gridParts (l : List (Nat × Chan)) : ({ d with loc := { d.loc with chans := l } } : Dev).gridParts = d.gridParts := rfl
@[simp] theorem Dev.thr_gridParts (l : List (Nat × (Bool × Nat))) : ({ d with loc := { d.loc with thr := l } } : Dev).gridParts = d.gridParts := rfl

@[simp] theorem Dev.inc_gridParts (a n : Nat) : (d.inc a n).gridParts = d.gridParts := by
  obtain ⟨_, _, h⟩ := d.inc_eq a n
  rw [h]
  rfl

@[simp] theorem Dev.record_gridParts (typ : Nat) (b : Bytes) : (d.record typ b).gridParts = d.gridParts := by
  obtain ⟨_, _, _, h⟩ := d.record_eq typ b
  rw [h]
  rfl

/-! The flags of channels and the gross diagnostics (R143, R145). -/

@[simp] theorem Dev.chFlag_gridParts (n k : Nat) (b : Bool) : (d.chFlag n k b).gridParts = d.gridParts := by simp [Dev.chFlag]

@[simp] theorem Dev.vcFlag_gridParts (v k : Nat) (b : Bool) : (d.vcFlag v k b).gridParts = d.gridParts := by
  simp [Dev.vcFlag, apply_ite Dev.gridParts]

@[simp] theorem Dev.quadFlag_gridParts (q k : Nat) (b : Bool) : (d.quadFlag q k b).gridParts = d.gridParts :=
  foldl_keeps Dev.gridParts _ _ (fun e n => e.chFlag_gridParts n k b) d

@[simp] theorem Dev.gross_gridParts (n k : Nat) : (d.gross n k).gridParts = d.gridParts := by
  simp [Dev.gross, apply_ite Dev.gridParts]

@[simp] theorem Dev.diagnose_gridParts (n : Nat) (raw w : Int) (dens dead : Bool) : (d.diagnose n raw w dens dead).gridParts = d.gridParts := by
  simp [Dev.diagnose, apply_ite Dev.gridParts]

@[simp] theorem Dev.refMonitor_gridParts (q : Nat) (refs : List Int) : (d.refMonitor q refs).gridParts = d.gridParts := by
  have hgross (e : Dev) : ((quadChs q).foldl (fun (d : Dev) n => d.gross n 7) e).gridParts = e.gridParts :=
    foldl_keeps Dev.gridParts _ _ (fun e n => e.gross_gridParts n 7) e
  exact foldl_keeps Dev.gridParts _ _ (fun e r => by simp [apply_ite Dev.gridParts, hgross]) d

/-! The base-rate sample (R137, R138, R190, R238). -/

@[simp] theorem Dev.chainWord_gridParts (n : Nat) (w : Int) : (d.chainWord n w).gridParts = d.gridParts := rfl

@[simp] theorem Dev.localWord_gridParts (n b : Nat) : (d.localWord n b).gridParts = d.gridParts := by simp [Dev.localWord]

@[simp] theorem Dev.vcWord_gridParts (v : Nat) : (d.vcWord v).gridParts = d.gridParts := by
  unfold Dev.vcWord
  split
  · rfl
  · dsimp only
    split <;> simp [apply_ite Dev.gridParts]

/-! The event bus (R595 to R607). -/

@[simp] theorem Dev.acqLose_gridParts (kind time : Nat) : (d.acqLose kind time).gridParts = d.gridParts := by simp [Dev.acqLose]

@[simp] theorem Dev.acqGap_gridParts (t clk : Nat) : (d.acqGap t clk).gridParts = d.gridParts := by simp [Dev.acqGap, apply_ite Dev.gridParts]

@[simp] theorem acqRoom_gridParts (fuel : Nat) : (acqRoom d fuel).gridParts = d.gridParts := by
  induction fuel generalizing d with
  | zero => rfl
  | succ fuel ih =>
    unfold acqRoom
    split
    · rfl
    · split
      · rfl
      · rw [ih, Dev.acq_gridParts]

@[simp] theorem Dev.acqAdd_gridParts (kind : Nat) (e : AcqEntry) : (d.acqAdd kind e).1.gridParts = d.gridParts := by
  simp [Dev.acqAdd, apply_ite Prod.fst, apply_ite Dev.gridParts]

@[simp] theorem Dev.patMatch_gridParts (u time : Nat) : (d.patMatch u time).gridParts = d.gridParts := by
  simp [Dev.patMatch, apply_ite Dev.gridParts]

@[simp] theorem Dev.patStep_gridParts (u time rose fell bus : Nat) : (d.patStep u time rose fell bus).gridParts = d.gridParts := by
  simp [Dev.patStep, apply_ite Dev.gridParts]

@[simp] theorem Dev.freezeTrig_gridParts (n cause : Nat) : (d.freezeTrig n cause).gridParts = d.gridParts := by
  simp [Dev.freezeTrig, apply_ite Dev.gridParts]

@[simp] theorem Dev.busPublish_gridParts (time : Nat) (changes : List (Nat × Bool)) : (d.busPublish time changes).gridParts = d.gridParts := by
  unfold Dev.busPublish
  dsimp only
  split
  · rfl
  · rw [foldUp_keeps Dev.gridParts 16 _ (fun u e => by simp), foldl_keeps Dev.gridParts _ _ (fun e c => by simp [apply_ite Dev.gridParts]),
      foldl_keeps Dev.gridParts _ _ (fun e p => by simp [apply_ite Dev.gridParts]), Dev.acq_gridParts]

@[simp] theorem Dev.busFlush_gridParts : d.busFlush.gridParts = d.gridParts := by simp [Dev.busFlush]

@[simp] theorem Dev.busHold_gridParts (time : Nat) (c : List (Nat × Bool)) : (d.busHold time c).gridParts = d.gridParts := by
  simp [Dev.busHold, apply_ite Dev.gridParts]

/-! The sample tick (R209 to R228, R615). -/

@[simp] theorem Dev.unfreeze_gridParts (n cause : Nat) : (d.unfreeze n cause).gridParts = d.gridParts := by simp [Dev.unfreeze]

@[simp] theorem Dev.freezeTick_gridParts (n : Nat) : (d.freezeTick n).gridParts = d.gridParts := by
  unfold Dev.freezeTick
  dsimp only
  split <;> simp [apply_ite Dev.gridParts]

@[simp] theorem Dev.thrEval_gridParts (n u unit : Nat) (q : Option Int) : (d.thrEval n u unit q).gridParts = d.gridParts := by
  simp [Dev.thrEval, apply_ite Dev.gridParts]

@[simp] theorem Dev.maStep_gridParts (n : Nat) : (d.maStep n).gridParts = d.gridParts := by
  unfold Dev.maStep
  dsimp only
  rw [foldUp_keeps Dev.gridParts 4 _ (fun u e => by simp [apply_ite Dev.gridParts])]
  simp

@[simp] theorem Dev.tickChan_gridParts (n : Nat) : (d.tickChan n).gridParts = d.gridParts := by simp [Dev.tickChan]

@[simp] theorem Dev.waveTick_gridParts (val : Nat → Nat → Int × Bool) : (d.waveTick val).gridParts = d.gridParts :=
  foldUp_keeps Dev.gridParts 8 _ (fun g e => by simp [apply_ite Dev.gridParts]) d

/-! The tracked cycle (R266 to R281). -/

@[simp] theorem Dev.sswCycle_gridParts (n : Nat) : (d.sswCycle n).gridParts = d.gridParts := by
  simp [Dev.sswCycle, apply_ite Dev.gridParts]

@[simp] theorem Dev.detPublish_gridParts (k : Nat) : (d.detPublish k).gridParts = d.gridParts := by
  simp [Dev.detPublish, apply_ite Dev.gridParts]

@[simp] theorem Dev.detRecord_gridParts (k : Nat) (on : Bool) (v : Int) : (d.detRecord k on v).gridParts = d.gridParts := by simp [Dev.detRecord]

@[simp] theorem Dev.detEval_gridParts (k : Nat) : (d.detEval k).gridParts = d.gridParts := by
  unfold Dev.detEval
  extract_lets _ _ _ q _ _ _ status value _ suspended counted on off
  have hvalue : value.gridParts = d.gridParts := by
    simp only [value]
    cases q <;> rfl
  have hsuspended : suspended.gridParts = d.gridParts := by simp only [suspended, apply_ite Dev.gridParts, Dev.raise_gridParts, ite_self, hvalue]
  have hcounted : counted.gridParts = d.gridParts := by simp only [counted, apply_ite Dev.gridParts, Dev.inc_gridParts, ite_self, hsuspended]
  have hon : on.gridParts = d.gridParts := by
    simp only [on, apply_ite Dev.gridParts, Dev.raise_gridParts, Dev.detRecord_gridParts, ite_self, hcounted]
  simp only [off, Dev.detPublish_gridParts, apply_ite Dev.gridParts, Dev.raise_gridParts, Dev.detRecord_gridParts, ite_self, hon]

@[simp] theorem Dev.detCycle_gridParts : d.detCycle.gridParts = d.gridParts :=
  foldUp_keeps Dev.gridParts 64 _ (fun k e => by simp [apply_ite Dev.gridParts]) d

@[simp] theorem Dev.aoStep_gridParts (a : Nat) : (d.aoStep a).gridParts = d.gridParts := by simp [Dev.aoStep]

@[simp] theorem Dev.aoAll_gridParts : d.aoAll.gridParts = d.gridParts := foldUp_keeps Dev.gridParts 16 _ (fun a e => e.aoStep_gridParts a) d

end

/-! Rows of the conversion and of the local path. -/

/-- A row of the conversion from pupa on, with operands that name something. -/
theorem convRow_ends {s : State} (t : Nat) {ok : Bool} (f : Dev → Dev) (hboot : 2 ≤ s.dev.boot) (hok : ok = true) :
    Ends (convRow s t ok f) { s with dev := f (s.dev.tick t) } := by
  have h : convRow s t ok f = devRow s t true f := by simp [convRow, hboot, hok]
  rw [h]
  exact devRow_ends s t f

/-- A row that leaves the machine of its tick. -/
theorem runRow_still {s : State} {t : Nat} {f : Dev → Dev} (hboot : 3 ≤ s.dev.boot) (hf : f (s.dev.tick t) = s.dev.tick t) :
    Ends (runRow s t true f) { s with dev := s.dev.tick t } := by
  have h := runRow_ends s t f hboot
  rwa [hf] at h

/-! One base-rate sample of a quadrant (R137, R190, R193, R232). -/

section
variable (d : Dev)

theorem Dev.chan_modChan_same (n : Nat) (f : Chan → Chan) : (d.modChan n f).chan n = f (d.chan n) := by
  rw [Dev.chan, Dev.modChan, tget_tput, if_pos rfl]

theorem Dev.chan_congr {d e : Dev} (h : e.loc = d.loc) (n : Nat) : e.chan n = d.chan n := by rw [Dev.chan, Dev.chan, h]

@[simp] theorem Dev.raise_loc (a k : Nat) : (d.raise a k).loc = d.loc := rfl

@[simp] theorem Dev.record_loc (typ : Nat) (b : Bytes) : (d.record typ b).loc = d.loc := by
  obtain ⟨_, _, _, h⟩ := d.record_eq typ b
  rw [h]

@[simp] theorem Dev.gross_loc (n k : Nat) : (d.gross n k).loc = d.loc := by simp [Dev.gross, apply_ite Dev.loc]

/-- The code and the corrected word are those given; the bits stay. -/
theorem Dev.diagnose_chan (n : Nat) (raw w : Int) (dens dead : Bool) :
    ((d.diagnose n raw w dens dead).chan n).bits = (d.chan n).bits ∧ ((d.diagnose n raw w dens dead).chan n).raw = raw ∧
    ((d.diagnose n raw w dens dead).chan n).word = w := by
  unfold Dev.diagnose
  extract_lets _ _ same clamped inRange noted clamp dead
  have hclamp : clamp.loc = noted.loc := by simp only [clamp, apply_ite Dev.loc, Dev.gross_loc, Dev.chFlag_loc, ite_self]
  have hloc : (if 128 ≤ same then dead.gross n 6 else dead).loc = noted.loc := by
    simp only [dead, apply_ite Dev.loc, Dev.gross_loc, ite_self, hclamp]
  rw [Dev.chan_congr hloc, Dev.chan_modChan_same]
  exact ⟨rfl, rfl, rfl⟩

/-- The FIR and the DC block leave the bits, the code and the word. -/
theorem Dev.chainWord_chan (n : Nat) (w : Int) :
    ((d.chainWord n w).chan n).bits = (d.chan n).bits ∧ ((d.chainWord n w).chan n).raw = (d.chan n).raw ∧
    ((d.chainWord n w).chan n).word = (d.chan n).word := by
  rw [Dev.chainWord, Dev.chan_modChan_same]
  exact ⟨rfl, rfl, rfl⟩

/-- The bits join the history, whose decimator word is corrected, where no test tone runs (R137, R138, R193). -/
theorem Dev.localWord_chan (n b : Nat) (htone : d.testMode n ≠ 4) :
    ((d.localWord n b).chan n).bits = pushBits (d.chan n).bits b ∧
    ((d.localWord n b).chan n).raw = decWord (pushBits (d.chan n).bits b) (d.fld (Reg.FLT_CH_PHASE_DLY n) 9 0) ∧
    ((d.localWord n b).chan n).word = d.correct n ((d.localWord n b).chan n).raw := by
  unfold Dev.localWord
  extract_lets pushed h tone raw w ones
  have hh : h = pushBits (d.chan n).bits b := congrArg Chan.bits (d.chan_modChan_same n _)
  have hraw : raw = decWord h (d.fld (Reg.FLT_CH_PHASE_DLY n) 9 0) := if_neg htone
  obtain ⟨hbits, hraw', hword⟩ := Dev.chainWord_chan (pushed.diagnose n raw w (!tone && densOut h 400 ones) (!tone && deadOut h 655 1)) n w
  obtain ⟨hbits', hraw'', hword'⟩ := Dev.diagnose_chan pushed n raw w (!tone && densOut h 400 ones) (!tone && deadOut h 655 1)
  rw [hbits, hraw', hword, hbits', hraw'', hword', ← hh]
  exact ⟨rfl, hraw, rfl⟩

/-- The counts of a base-rate sample (R230, R232). -/
def Dev.baseCount (q : Nat) : Dev :=
  { d.settleCount q with loc := { (d.settleCount q).loc with base := lmod d.loc.base q (· + 1), edge := false } }

theorem Dev.baseRate_gridParts (q : Nat) (bits : List (Nat × Nat)) (refs : List Int) : (d.baseRate q bits refs).gridParts = (d.baseCount q).gridParts := by
  unfold Dev.baseRate
  extract_lets settled _ counted
  split
  · exact (foldl_keeps Dev.gridParts _ _ (fun e (p : Nat × Nat) => e.localWord_gridParts p.1 p.2) _).trans (counted.refMonitor_gridParts q refs)
  · exact foldUp_keeps Dev.gridParts 64 _ (fun v e => e.vcWord_gridParts v) counted

/-- A sample of one enabled channel of the quadrant. -/
theorem Dev.baseRate_one {q c : Nat} (b : Nat) (hc : c / 48 = q) (hq : q < 4) (hen : d.flag (Reg.CNV_CH_CFG c) 0 = true) :
    d.baseRate q [(c, b)] [] = (d.baseCount q).localWord c b := by
  have hen' : (d.baseCount q).flag (Reg.CNV_CH_CFG c) 0 = true := hen
  have hfilter : [(c, b)].filter (fun p => p.1 / 48 == q && (d.baseCount q).flag (Reg.CNV_CH_CFG p.1) 0) = [(c, b)] := by simp [hc, hen']
  show (if q < 4 then _ else _) = _
  rw [if_pos hq]
  exact congrArg (List.foldl (fun (d : Dev) (p : Nat × Nat) => d.localWord p.1 p.2) (d.baseCount q)) hfilter

end

theorem baseRateSample_endsWith {s : State} (n : Nat) {q : Nat} {l l' l'' : List (Nat × Nat)} (refs : List Int) (hboot : 2 ≤ s.dev.boot) (hq : q < 5)
    (hl : ∀ b ∈ l ++ l' ++ l'', b.1 < 192 ∧ b.2 < 2 ^ 400) : EndsWith (exec (.baseRateSample n q l l' l'' refs) s) (fun t =>
      t.dev.loc.settle = s.dev.loc.settle.map (fun p => if min (p.1 / 48) 4 = q then (p.1, max 1 (p.2 - 1)) else p) ∧
      t.dev.loc.base = lmod s.dev.loc.base q (· + 1) ∧ t.dev.loc.edge = false ∧
      (∀ c b, l ++ l' ++ l'' = [(c, b)] → c / 48 = q → q < 4 → refs = [] → s.dev.flag (Reg.CNV_CH_CFG c) 0 = true → s.dev.testMode c ≠ 4 →
        (t.dev.chan c).bits = pushBits (s.dev.chan c).bits b ∧
        (t.dev.chan c).raw = decWord (pushBits (s.dev.chan c).bits b) (s.dev.fld (Reg.FLT_CH_PHASE_DLY c) 9 0) ∧
        (t.dev.chan c).word = s.dev.correct c (t.dev.chan c).raw)) := by
  have hok : (decide (q < 5) && (l ++ l' ++ l'').all (fun b => decide (b.1 < 192) && decide (b.2 < 2 ^ 400))) = true := by
    simpa only [Bool.and_eq_true, decide_eq_true_eq, List.all_eq_true] using And.intro hq hl
  have hends := convRow_ends n (fun d => d.baseRate q (l ++ l' ++ l'') refs) hboot hok
  rw [← exec_baseRateSample] at hends
  have hgrid := (s.dev.tick n).baseRate_gridParts q (l ++ l' ++ l'') refs
  refine hends.with fun _ _ _ _ _ => ⟨congrArg (·.1.settle) hgrid, congrArg (·.1.base) hgrid, congrArg (·.1.edge) hgrid, ?_⟩
  intro c b hone hc hq4 hrefs hen htone
  have hrate := (s.dev.tick n).baseRate_one b hc hq4 hen
  rw [← hone, ← hrefs] at hrate
  have hword := ((s.dev.tick n).baseCount q).localWord_chan c b htone
  rw [← hrate] at hword
  exact hword

/-! The sample tick (R41, R219). -/

section
variable (d : Dev)

/-- The changes that wait for the rest of their time, published before the tick. -/
def Dev.tickFlush : Dev := if d.acq.todo = [] then d else d.busFlush

/-- The positions, the tick count and the timestamps of a tick. -/
def Dev.tickCount : Dev := { d.posNext with loc := { d.posNext.loc with ticks := d.loc.ticks + 1, stamps := (d.tim.out :: d.loc.stamps).take 4608 } }

theorem Dev.tickFlush_gridParts : d.tickFlush.gridParts = d.gridParts := by simp [Dev.tickFlush, apply_ite Dev.gridParts]

/-- What a tick counts depends on what the bus leaves alone. -/
theorem Dev.tickCount_congr {d e : Dev} (h : e.gridParts = d.gridParts) : e.tickCount.gridParts = d.tickCount.gridParts := by
  have hcount (d : Dev) : d.tickCount.gridParts =
      ({ d.gridParts.1 with
        pos := if d.gridParts.1.ticks = 0 then 0 else d.gridParts.1.pos + if d.gridParts.1.freq = 0 then 0 else rdivN (200 * 1000000 * 2 ^ 32) d.gridParts.1.freq
        posLp := if d.gridParts.1.ticks = 0 then 0 else d.gridParts.1.posLp + if d.gridParts.1.freq = 0 then 0 else rdivN (100 * 1000000 * 2 ^ 32) d.gridParts.1.freq
        ticks := d.gridParts.1.ticks + 1
        stamps := (d.gridParts.2.out :: d.gridParts.1.stamps).take 4608 }, d.gridParts.2) := rfl
  rw [hcount, hcount, h]

theorem Dev.sampleTick_still (h : d.loc.edge = true) : d.sampleTick = d := by
  rw [Dev.sampleTick, if_pos h]

theorem Dev.sampleTick_gridParts (h : d.loc.edge = false) : d.sampleTick.gridParts = d.tickCount.gridParts := by
  unfold Dev.sampleTick
  rw [if_neg (by simp [h])]
  extract_lets flushed placed _ counted sampled waved
  have hwaved : waved.gridParts = counted.gridParts :=
    (Dev.waveTick_gridParts _ _).trans (foldUp_keeps Dev.gridParts 256 _ (fun n e => e.tickChan_gridParts n) counted)
  have hlast : (if waved.loc.ticks % 16 = 0 then waved else waved.busFlush).gridParts = counted.gridParts := by
    rw [apply_ite Dev.gridParts, Dev.busFlush_gridParts, ite_self, hwaved]
  exact hlast.trans (Dev.tickCount_congr d.tickFlush_gridParts)

end

theorem sampleTick_endsWith {s : State} (n : Nat) (hboot : 3 ≤ s.dev.boot) (hedge : s.dev.loc.edge = false) :
    EndsWith (exec (.sampleTick n) s) (fun t => t.dev.loc.ticks = s.dev.loc.ticks + 1 ∧
      t.dev.loc.pos = (if s.dev.loc.ticks = 0 then 0 else s.dev.loc.pos + s.dev.posStep 200) ∧
      t.dev.loc.posLp = (if s.dev.loc.ticks = 0 then 0 else s.dev.loc.posLp + s.dev.posStep 100) ∧
      t.dev.loc.stamps = ((s.dev.tick n).tim.out :: s.dev.loc.stamps).take 4608) := by
  have hgrid := (s.dev.tick n).sampleTick_gridParts hedge
  rw [exec_sampleTick]
  exact (runRow_ends s n Dev.sampleTick hboot).with fun _ _ _ _ _ =>
    ⟨congrArg (·.1.ticks) hgrid, congrArg (·.1.pos) hgrid, congrArg (·.1.posLp) hgrid, congrArg (·.1.stamps) hgrid⟩

/-! The boundaries of the grid (R43, R153). -/

section
variable {d : Dev}

theorem Dev.trackedCycle_still (h : d.loc.ticks % 128 ≠ 0 ∨ d.loc.ticks = d.loc.cycAt) : d.trackedCycle = d := by
  rw [Dev.trackedCycle, if_pos (by simpa using h)]

theorem Dev.trackedCycle_gridParts (hgrid : d.loc.ticks % 128 = 0) (hnew : d.loc.ticks ≠ d.loc.cycAt) :
    d.trackedCycle.gridParts = ({ d with loc := { d.loc with cycles := d.loc.cycles + 1, cycAt := d.loc.ticks } } : Dev).gridParts := by
  rw [Dev.trackedCycle, if_neg (by simp [hgrid, hnew])]
  dsimp only
  rw [Dev.busFlush_gridParts, Dev.aoAll_gridParts, Dev.detCycle_gridParts, foldUp_keeps Dev.gridParts 192 _ (fun n e => e.sswCycle_gridParts n)]

theorem Dev.flutter_still {cks : List (Nat × (Int × Int))} {sense : Nat} {mis : Option (Nat × Nat)} (h : d.loc.ticks % 16 ≠ 0 ∨ d.loc.ticks = d.loc.flutAt) :
    d.flutter cks sense mis = d := by
  rw [Dev.flutter, if_pos (by simpa using h)]

theorem Dev.frameBoundary_still (h : d.loc.ticks % 384 ≠ 0 ∨ d.loc.ticks = d.loc.frameAt) : d.frameBoundary = d := by
  rw [Dev.frameBoundary, if_pos (by simpa using h)]

end

theorem trackedCycleBoundary_endsWith {s : State} (n : Nat) (hboot : 3 ≤ s.dev.boot) (hgrid : s.dev.loc.ticks % 128 = 0)
    (hnew : s.dev.loc.ticks ≠ s.dev.loc.cycAt) : EndsWith (exec (.trackedCycleBoundary n) s) (fun t =>
      t.dev.loc.cycles = s.dev.loc.cycles + 1 ∧ t.dev.loc.ticks = s.dev.loc.ticks ∧ t.dev.loc.cycAt = s.dev.loc.ticks) := by
  have hparts := Dev.trackedCycle_gridParts (d := s.dev.tick n) hgrid hnew
  rw [exec_trackedCycleBoundary]
  exact (runRow_ends s n Dev.trackedCycle hboot).with fun _ _ _ _ _ =>
    ⟨congrArg (·.1.cycles) hparts, congrArg (·.1.ticks) hparts, congrArg (·.1.cycAt) hparts⟩

/-! The check-frame boundary (R150, R153, R157, R174). -/

/-- What every step of an iteration keeps holds after it. -/
theorem foldUp_invariant {α : Type} (P : α → Prop) (n : Nat) {f : Nat → α → α} (h : ∀ i a, P a → P (f i a)) {a : α} (ha : P a) :
    P (foldUp n f a) := by
  induction n with
  | zero => exact ha
  | succ n ih => exact h n _ ih

section
variable (d : Dev)

theorem Dev.ck_modCk_ne (f : Ck → Ck) {j k : Nat} (h : j ≠ k) : (d.modCk j f).ck k = d.ck k := by
  simp [Dev.ck, Dev.modCk, lmod_eq_modify, h]

/-- A converter that the device does not have is in the state of one that has done nothing. -/
theorem Dev.ck_modCk_same {f : Ck → Ck} (h : f Ck.start = Ck.start) (k : Nat) : (d.modCk k f).ck k = f (d.ck k) := by
  by_cases hk : k < d.loc.cks.length
  · simp [Dev.ck, Dev.modCk, lmod_eq_modify, hk]
  · simp [Dev.ck, Dev.modCk, lmod_eq_modify, Nat.le_of_not_lt hk, h]

/-- A check that waits for its comparison stays where a change leaves it. -/
theorem Dev.modCk_due {f : Ck → Ck} (h : ∀ c, (f c).due = c.due) (j k : Nat) : ((d.modCk j f).ck k).due = (d.ck k).due := by
  obtain rfl | hne := eq_or_ne j k
  · by_cases hk : j < d.loc.cks.length
    · simp [Dev.ck, Dev.modCk, lmod_eq_modify, hk, h]
    · simp [Dev.ck, Dev.modCk, lmod_eq_modify, Nat.le_of_not_lt hk]
  · rw [d.ck_modCk_ne f hne]

/-- The watch of one converter's running check (R157). -/
def Dev.ckLook (k : Nat) : Dev :=
  match (d.ck k).run with
  | some c => if (d.rd (Reg.CNV_CH_STATUS c.ch) &&& 0x1F0) != 0 then d.modCk k (fun x => { x with run := some { c with aborted := true } }) else d
  | none => d

theorem Dev.ckWatch_eq : d.ckWatch = foldUp 16 (fun k d => d.ckLook k) d := rfl

/-- The check that runs becomes due (R150). -/
def Dev.ckEnds : Dev := foldUp 16 (fun k d => d.modCk k (fun c => { c with due := c.run, run := none })) d

/-- The calibrations that wait begin (R174). -/
def Dev.calBegins : Dev := foldUp 4 (fun q d => d.calBegin q) d

/-- A quadrant whose channels have settled after its calibration checks again (R175). -/
def Dev.holdEnds : Dev := foldUp 4 (fun q d => if (d.quad q).hold && !d.quadSettles q then d.modQuad q (fun u => { u with hold := false }) else d) d

/-- Every converter starts a check or stays idle (R156, R161). -/
def Dev.ckStarts : Dev := foldUp 16 (fun k d => if d.calibrating (k / 4) || (d.quad (k / 4)).hold then d else d.ckNext k) d

/-- The boundary noted. -/
def Dev.framed : Dev := { d with loc := { d.loc with frameAt := d.loc.ticks, framed := true } }

theorem Dev.frameBoundary_due {d : Dev} (hgrid : d.loc.ticks % 384 = 0) (hnew : d.loc.ticks ≠ d.loc.frameAt) :
    d.frameBoundary = d.framed.ckWatch.ckEnds.calBegins.holdEnds.ckStarts := by
  rw [Dev.frameBoundary, if_neg (by simp [hgrid, hnew])]
  rfl

/-! Each action, for a converter. -/

theorem Dev.ckLook_regs (k : Nat) : (d.ckLook k).regs = d.regs := by
  unfold Dev.ckLook
  split
  · split <;> rfl
  · rfl

theorem Dev.ckLook_ck_ne {j k : Nat} (h : j ≠ k) : (d.ckLook j).ck k = d.ck k := by
  unfold Dev.ckLook
  split
  · split
    · exact d.ck_modCk_ne _ h
    · rfl
  · rfl

/-- A check whose channel carries none of the flags goes on. -/
theorem Dev.ckLook_ck_same {k : Nat} (h : ∀ c, (d.ck k).run = some c → d.rd (Reg.CNV_CH_STATUS c.ch) &&& 0x1F0 = 0) : d.ckLook k = d := by
  unfold Dev.ckLook
  split
  case h_1 c hc =>
    rw [h c hc]
    exact if_neg (by decide)
  case h_2 => rfl

theorem Dev.ckWatch_ck {k : Nat} (h : ∀ c, (d.ck k).run = some c → d.rd (Reg.CNV_CH_STATUS c.ch) &&& 0x1F0 = 0) : d.ckWatch.ck k = d.ck k := by
  rw [Dev.ckWatch_eq]
  refine (foldUp_invariant (fun e : Dev => e.ck k = d.ck k ∧ e.regs = d.regs) 16 (fun j e he => ?_) ⟨rfl, rfl⟩).1
  obtain ⟨hck, hregs⟩ := he
  refine ⟨?_, (e.ckLook_regs j).trans hregs⟩
  obtain rfl | hne := eq_or_ne j k
  · rw [e.ckLook_ck_same fun c hc => (congrArg (· &&& 0x1F0) (Dev.rd_congr hregs _)).trans (h c (hck ▸ hc)), hck]
  · rw [e.ckLook_ck_ne hne, hck]

theorem Dev.ckEnds_ck {k : Nat} (h : k < 16) : d.ckEnds.ck k = { d.ck k with due := (d.ck k).run, run := none } := by
  have hends := foldUp_at (g := fun e : Dev => e.ck k) (F := fun c => { c with due := c.run, run := none })
    (f := fun k d => d.modCk k (fun c => { c with due := c.run, run := none })) (n := 16) (fun i _ e hi => e.ck_modCk_ne _ hi)
    (fun e => e.ck_modCk_same rfl k) d
  rwa [if_pos h] at hends

theorem Dev.quadFlag_loc (q k : Nat) (b : Bool) : (d.quadFlag q k b).loc = d.loc := foldl_keeps Dev.loc _ _ (fun e n => e.chFlag_loc n k b) d

theorem Dev.calBegin_loc (q : Nat) : (d.calBegin q).loc =
    if (d.quad q).waiting then (d.modQuad q (fun u => { u with waiting := false, calAt := d.tim.clk })).loc else d.loc := by
  rw [Dev.calBegin, apply_ite Dev.loc, Dev.putB_loc, Dev.quadFlag_loc]

theorem Dev.calBegin_cks (q : Nat) : (d.calBegin q).loc.cks = d.loc.cks := by
  rw [d.calBegin_loc, apply_ite Local.cks]
  exact ite_self _

theorem Dev.calBegins_cks : d.calBegins.loc.cks = d.loc.cks := foldUp_keeps (·.loc.cks) 4 _ (fun q e => e.calBegin_cks q) d

theorem Dev.holdEnds_cks : d.holdEnds.loc.cks = d.loc.cks :=
  foldUp_keeps (·.loc.cks) 4 _ (fun q e => by split <;> rfl) d

theorem Dev.ckNext_due (j k : Nat) : ((d.ckNext j).ck k).due = (d.ck k).due := by
  have hstart (e : Dev) (b : Bool) (r : CkRun) : ((if b then e else e.modCk j (fun c => { c with run := some r })).ck k).due = (e.ck k).due := by
    split
    · rfl
    · exact e.modCk_due (by intro; rfl) j k
  unfold Dev.ckNext
  extract_lets c start
  have hs (e : Dev) (n : Nat) (inj : Bool) : ((start e n inj).ck k).due = (e.ck k).due := hstart e (e.chHas n 11 || decide (4 ≤ e.testMode n)) ⟨n, inj, false⟩
  clear_value start
  split
  · exact (hs _ _ _).trans (d.modCk_due (by intro; rfl) j k)
  · split
    · exact (hs _ _ _).trans (d.modCk_due (by intro; rfl) j k)
    · exact (hs _ _ _).trans (d.modCk_due (by intro; rfl) j k)
  · exact (hs _ _ _).trans (d.modCk_due (by intro; rfl) j k)

theorem Dev.ckStarts_due (k : Nat) : (d.ckStarts.ck k).due = (d.ck k).due :=
  foldUp_keeps (fun e : Dev => (e.ck k).due) 16 _ (fun j e => by split; exacts [rfl, e.ckNext_due j k]) d

/-! What the actions on the check converters leave. -/

/-- The local path beside the check converters, and the time base. -/
def Dev.besideCks : Local × Tim := ({ d.loc with cks := [] }, d.tim)

theorem Dev.gridParts_congr {d e : Dev} (h : e.besideCks = d.besideCks) : e.gridParts = d.gridParts :=
  congrArg (fun x : Local × Tim => ({ x.1 with quads := [], cks := [], chans := [], vcs := [], thr := [], aos := [] }, x.2)) h

theorem Dev.calParts_congr {d e : Dev} (h : e.besideCks = d.besideCks) : e.calParts = d.calParts :=
  congrArg (fun x : Local × Tim => (x.1.quads, x.1.ticks, x.2)) h

theorem Dev.modCk_besideCks (k : Nat) (f : Ck → Ck) : (d.modCk k f).besideCks = d.besideCks := rfl

theorem Dev.ckLook_besideCks (k : Nat) : (d.ckLook k).besideCks = d.besideCks := by
  unfold Dev.ckLook
  split
  · split <;> rfl
  · rfl

theorem Dev.ckWatch_besideCks : d.ckWatch.besideCks = d.besideCks := by
  rw [Dev.ckWatch_eq]
  exact foldUp_keeps Dev.besideCks 16 _ (fun k e => e.ckLook_besideCks k) d

theorem Dev.ckEnds_besideCks : d.ckEnds.besideCks = d.besideCks := foldUp_keeps Dev.besideCks 16 _ (fun k e => e.modCk_besideCks k _) d

theorem Dev.ckNext_besideCks (j : Nat) : (d.ckNext j).besideCks = d.besideCks := by
  unfold Dev.ckNext
  extract_lets c start
  have hs (e : Dev) (n : Nat) (inj : Bool) : (start e n inj).besideCks = e.besideCks := by
    simp only [start, apply_ite Dev.besideCks, Dev.modCk_besideCks, ite_self]
  clear_value start
  split
  · rw [hs, Dev.modCk_besideCks]
  · split <;> rw [hs, Dev.modCk_besideCks]
  · rw [hs, Dev.modCk_besideCks]

theorem Dev.ckStarts_besideCks : d.ckStarts.besideCks = d.besideCks :=
  foldUp_keeps Dev.besideCks 16 _ (fun j e => by split; exacts [rfl, e.ckNext_besideCks j]) d

/-! Each action, for a quadrant. -/

/-- The quadrant and the clock that a calibration begins at. -/
def Dev.calStarted (d : Dev) (q : Nat) : Quad × Tim := (d.quad q, d.tim)

theorem Dev.calBegin_gridParts (q : Nat) : (d.calBegin q).gridParts = d.gridParts := by
  rw [Dev.calBegin, apply_ite Dev.gridParts, Dev.putB_gridParts, Dev.quadFlag_gridParts, Dev.modQuad_gridParts, ite_self]

theorem Dev.calBegin_tim (q : Nat) : (d.calBegin q).tim = d.tim := congrArg Prod.snd (d.calBegin_gridParts q)

theorem Dev.calBegin_calStarted_ne {j q : Nat} (h : j ≠ q) : (d.calBegin j).calStarted q = d.calStarted q := by
  have hquad : (d.calBegin j).quad q = d.quad q := by
    rw [Dev.quad, d.calBegin_loc]
    split
    · exact d.quad_modQuad_ne _ h
    · rfl
  rw [Dev.calStarted, hquad, d.calBegin_tim, Dev.calStarted]

theorem Dev.lt_of_waiting {q : Nat} (h : (d.quad q).waiting = true) : q < d.loc.quads.length := by
  by_contra hlen
  rw [d.quad_absent hlen] at h
  exact absurd h (by decide)

theorem Dev.calBegin_calStarted (q : Nat) : (d.calBegin q).calStarted q =
    (if (d.quad q).waiting then { d.quad q with waiting := false, calAt := d.tim.clk } else d.quad q, d.tim) := by
  have hquad : (d.calBegin q).quad q = if (d.quad q).waiting then { d.quad q with waiting := false, calAt := d.tim.clk } else d.quad q := by
    rw [Dev.quad, d.calBegin_loc]
    split
    case isTrue hw => exact d.quad_modQuad_same _ (d.lt_of_waiting hw)
    case isFalse => rfl
  rw [Dev.calStarted, hquad, d.calBegin_tim]

theorem Dev.calBegins_quad {q : Nat} (h : q < 4) (hw : (d.quad q).waiting = true) :
    (d.calBegins.quad q).waiting = false ∧ (d.calBegins.quad q).calAt = d.tim.clk := by
  have hbegins : d.calBegins.calStarted q = (if (d.quad q).waiting then { d.quad q with waiting := false, calAt := d.tim.clk } else d.quad q, d.tim) := by
    rw [Dev.calBegins, foldUp_at (g := fun e : Dev => e.calStarted q)
      (F := fun x => (if x.1.waiting then { x.1 with waiting := false, calAt := x.2.clk } else x.1, x.2)) (fun i _ e hi => e.calBegin_calStarted_ne hi)
      (fun e => e.calBegin_calStarted q), if_pos h]
    rfl
  rw [if_pos hw] at hbegins
  have hquad := congrArg Prod.fst hbegins
  exact ⟨congrArg Quad.waiting hquad, congrArg Quad.calAt hquad⟩

/-- The end of the hold of a quadrant leaves its calibrations. -/
theorem Dev.holdEnds_cal (q : Nat) : (d.holdEnds.quad q).waiting = (d.quad q).waiting ∧ (d.holdEnds.quad q).calAt = (d.quad q).calAt := by
  have hmod (e : Dev) (j : Nat) : let u := (e.modQuad j (fun u => { u with hold := false })).quad q
      (u.waiting, u.calAt) = ((e.quad q).waiting, (e.quad q).calAt) := by
    obtain rfl | hne := eq_or_ne j q
    · by_cases hlen : j < e.loc.quads.length
      · rw [e.quad_modQuad_same _ hlen]
      · rw [e.quad_modQuad_absent _ hlen]
    · rw [e.quad_modQuad_ne _ hne]
  have hends : ((d.holdEnds.quad q).waiting, (d.holdEnds.quad q).calAt) = ((d.quad q).waiting, (d.quad q).calAt) :=
    foldUp_keeps (fun e : Dev => ((e.quad q).waiting, (e.quad q).calAt)) 4 _ (fun j e => by split; exacts [hmod e j, rfl]) d
  exact Prod.mk.inj hends

/-! The boundary noted, and what the actions leave of it. -/

theorem Dev.calBegins_gridParts : d.calBegins.gridParts = d.gridParts := foldUp_keeps Dev.gridParts 4 _ (fun q e => e.calBegin_gridParts q) d

theorem Dev.holdEnds_gridParts : d.holdEnds.gridParts = d.gridParts :=
  foldUp_keeps Dev.gridParts 4 _ (fun q e => by split; exacts [e.modQuad_gridParts q _, rfl]) d

theorem Dev.frameBoundary_gridParts {d : Dev} (hgrid : d.loc.ticks % 384 = 0) (hnew : d.loc.ticks ≠ d.loc.frameAt) :
    d.frameBoundary.gridParts = d.framed.gridParts := by
  rw [Dev.frameBoundary_due hgrid hnew, Dev.gridParts_congr (Dev.ckStarts_besideCks _), Dev.holdEnds_gridParts, Dev.calBegins_gridParts]
  exact Dev.gridParts_congr ((Dev.ckEnds_besideCks _).trans (Dev.ckWatch_besideCks _))

/-- A check that runs on a channel without flags becomes due. -/
theorem Dev.frameBoundary_due_ck {d : Dev} (hgrid : d.loc.ticks % 384 = 0) (hnew : d.loc.ticks ≠ d.loc.frameAt) {k : Nat} (hk : k < 16)
    (h : ∀ c, (d.ck k).run = some c → d.rd (Reg.CNV_CH_STATUS c.ch) &&& 0x1F0 = 0) : (d.frameBoundary.ck k).due = (d.ck k).run := by
  have hck {e x : Dev} (h : e.loc.cks = x.loc.cks) : e.ck k = x.ck k := by rw [Dev.ck, Dev.ck, h]
  rw [Dev.frameBoundary_due hgrid hnew, Dev.ckStarts_due, hck (Dev.holdEnds_cks _), hck (Dev.calBegins_cks _), Dev.ckEnds_ck _ hk]
  have hwatch : d.framed.ckWatch.ck k = d.framed.ck k := Dev.ckWatch_ck _ h
  rw [hwatch]
  rfl

/-- A calibration that waits begins. -/
theorem Dev.frameBoundary_cal {d : Dev} (hgrid : d.loc.ticks % 384 = 0) (hnew : d.loc.ticks ≠ d.loc.frameAt) {q : Nat} (hq : q < 4)
    (hw : (d.quad q).waiting = true) : (d.frameBoundary.quad q).waiting = false ∧ (d.frameBoundary.quad q).calAt = d.tim.clk := by
  have hparts : d.framed.ckWatch.ckEnds.calParts = d.calParts :=
    Dev.calParts_congr (d := d.framed) ((Dev.ckEnds_besideCks _).trans (Dev.ckWatch_besideCks _))
  have hquad := Dev.quad_congr hparts q
  obtain ⟨hbegun, hclk⟩ := Dev.calBegins_quad d.framed.ckWatch.ckEnds hq (by rw [hquad, hw])
  obtain ⟨hwait, hat⟩ := Dev.holdEnds_cal d.framed.ckWatch.ckEnds.calBegins q
  rw [Dev.frameBoundary_due hgrid hnew, Dev.quad_congr (Dev.calParts_congr (Dev.ckStarts_besideCks _)) q, hwait, hat, hbegun, hclk, Dev.clk_congr hparts]
  exact ⟨rfl, rfl⟩

end

theorem checkFrameBoundary_endsWith {s : State} (n : Nat) (hboot : 3 ≤ s.dev.boot) (hgrid : s.dev.loc.ticks % 384 = 0)
    (hnew : s.dev.loc.ticks ≠ s.dev.loc.frameAt) : EndsWith (exec (.checkFrameBoundary n) s) (fun t =>
      (∀ k < 16, ∀ c, (s.dev.ck k).run = some c → s.dev.rd (Reg.CNV_CH_STATUS c.ch) &&& 0x1F0 = 0 → (t.dev.ck k).due = some c) ∧
      (∀ k < 16, (s.dev.ck k).run = none → (t.dev.ck k).due = none) ∧
      (∀ q < 4, (s.dev.quad q).waiting = true → (t.dev.quad q).waiting = false ∧ (t.dev.quad q).calAt = max s.dev.tim.clk n) ∧
      t.dev.loc.frameAt = s.dev.loc.ticks) := by
  rw [exec_checkFrameBoundary]
  refine (runRow_ends s n Dev.frameBoundary hboot).with fun _ _ _ _ _ => ⟨fun k hk c hc hclear => ?_, fun k hk hc => ?_, fun q hq hw => ?_, ?_⟩
  · have hdue := Dev.frameBoundary_due_ck (d := s.dev.tick n) hgrid hnew hk fun c' hc' => by
      obtain rfl : c = c' := Option.some.inj (hc.symm.trans hc')
      exact hclear
    exact hdue.trans hc
  · exact (Dev.frameBoundary_due_ck (d := s.dev.tick n) hgrid hnew hk fun c' hc' => nomatch hc.symm.trans hc').trans hc
  · rw [← Dev.tick_clk]
    exact Dev.frameBoundary_cal (d := s.dev.tick n) hgrid hnew hq hw
  · exact congrArg (·.1.frameAt) (Dev.frameBoundary_gridParts (d := s.dev.tick n) hgrid hnew)

/-! The flutter boundary (R43, R153). -/

section
variable (d : Dev) (cks : List (Nat × (Int × Int))) (sense : Nat) (mis : Option (Nat × Nat))

/-- The boundary noted, low-power entry, the writes that wait and the tracker. -/
def Dev.flutterStart : Dev := ({ d with loc := { d.loc with flutAt := d.loc.ticks } } : Dev).lpFlutter.acqTailApply.aoUnlatchApply.trkFlutter

/-- A flutter boundary is its actions in their order; the bus waits for a tracked-cycle boundary of the same tick. -/
theorem Dev.flutter_due {d : Dev} (hgrid : d.loc.ticks % 16 = 0) (hnew : d.loc.ticks ≠ d.loc.flutAt) : d.flutter cks sense mis =
    let b := (foldUp 256 (fun c (d : Dev) => d.deliver c) (foldUp 256 (fun c (d : Dev) => d.phsFlutter c) d.flutterStart)).detFlutter.forceDet.aoAll
    let e := ((b.ckFlutter cks).gooseAll.partnerCompare.aoReadback sense).flutterDigest mis
    let z := ((e.aoShow sense).releaseCrit 1 (e.roost.closed.getD 0)).dispatchAll
    if z.loc.ticks % 128 = 0 then z else z.busFlush := by
  rw [Dev.flutter, if_neg (by simp [hgrid, hnew])]
  dsimp only [Dev.flutterStart]

end

/-- Settles O22: samples and ticks leave what `Dev.gridParts` holds but for their counts (`Dev.baseRate_gridParts`, `Dev.sampleTick_gridParts`), and each boundary
of the grid is its actions in their order (`Dev.trackedCycle_gridParts`, `Dev.frameBoundary_due`, `Dev.flutter_due`). -/
theorem localBoundaries : Obligations.LocalBoundaries := by
  unfold Obligations.LocalBoundaries
  refine ⟨?baseRate, ?ticks, ?flutter⟩
  case baseRate =>
    intro s n q l l' l'' refs hboot hq hl
    exact baseRateSample_endsWith n refs hboot hq hl
  case ticks =>
    intro s n hboot
    refine ⟨fun hedge => ?_, fun hedge => ?_, fun hgrid hnew => ?_, fun h => ?_, fun hgrid hnew => ?_, fun h => ?_⟩
    · exact sampleTick_endsWith n hboot hedge
    · rw [exec_sampleTick]
      exact runRow_still hboot (Dev.sampleTick_still _ hedge)
    · exact trackedCycleBoundary_endsWith n hboot hgrid hnew
    · rw [exec_trackedCycleBoundary]
      exact runRow_still hboot (Dev.trackedCycle_still h)
    · exact checkFrameBoundary_endsWith n hboot hgrid hnew
    · rw [exec_checkFrameBoundary]
      exact runRow_still hboot (Dev.frameBoundary_still h)
  case flutter =>
    intro s n cks sense mis hboot a
    have ha : (s.dev.tick n).flutterStart = a := rfl
    clear_value a
    dsimp only
    refine ⟨fun hgrid hnew => ?_, fun h => ?_⟩
    · have hends := runRow_ends s n (fun d => d.flutter cks sense mis) hboot
      rw [Dev.flutter_due (d := s.dev.tick n) cks sense mis hgrid hnew, ha] at hends
      rw [exec_flutterBoundary]
      dsimp only at hends
      exact hends
    · rw [exec_flutterBoundary]
      exact runRow_still hboot (Dev.flutter_still h)

end Sys2Proof.Machine

/-! Domains of the time base: what the servo, the states of R104 and the clock's advance do to a domain and to the updates that wait for it, and
what they leave. -/

namespace Sys2Proof.Machine

section
variable (d : Dev)

/-! A domain changed (R104). -/

@[simp] theorem Dev.dom_modDom_same (k : Nat) (f : Domain → Domain) : (d.modDom k f).dom k = f (d.dom k) := by
  unfold Dev.modDom Dev.dom
  split <;> rfl

theorem Dev.dom_modDom_ne (f : Domain → Domain) {j k : Nat} (hj : j < 2) (hk : k < 2) (h : j ≠ k) : (d.modDom k f).dom j = d.dom j := by
  obtain ⟨rfl, rfl⟩ | ⟨rfl, rfl⟩ : j = 0 ∧ k = 1 ∨ j = 1 ∧ k = 0 := by omega
  · rfl
  · rfl

@[simp] theorem Dev.waiting_modDom (j k : Nat) (f : Domain → Domain) : (d.modDom k f).waiting j = d.waiting j := by
  unfold Dev.modDom Dev.waiting
  split <;> rfl

/-- A change that leaves the counter of a domain leaves its counter with the steps that wait. -/
theorem Dev.domAhead_modDom (k : Nat) {f : Domain → Domain} (h : ∀ m, (f m).val = m.val) : (d.modDom k f).domAhead k = d.domAhead k := by
  simp [Dev.domAhead, h]

/-! A servo update sent (R84). -/

@[simp] theorem Dev.dom_sendUpdate (j k : Nat) (x : Int) (i : Nat) : (d.sendUpdate k x i).dom j = d.dom j := rfl

theorem Dev.waiting_sendUpdate_same (k : Nat) (x : Int) (i : Nat) :
    (d.sendUpdate k x i).waiting k = d.waiting k ++ [⟨d.tim.clk + ticksUs 2, k, x, i⟩] := by
  simp [Dev.waiting, Dev.sendUpdate]

theorem Dev.waiting_sendUpdate_ne (x : Int) (i : Nat) {j k : Nat} (h : j ≠ k) : (d.sendUpdate k x i).waiting j = d.waiting j := by
  simp [Dev.waiting, Dev.sendUpdate, h.symm]

@[simp] theorem Dev.domAhead_sendUpdate (k : Nat) (x : Int) (i : Nat) : (d.sendUpdate k x i).domAhead k = d.domAhead k + x := by
  simp [Dev.domAhead, Dev.waiting_sendUpdate_same, sumI, add_assoc]

@[simp] theorem Dev.incrAhead_sendUpdate (k : Nat) (x : Int) (i : Nat) : (d.sendUpdate k x i).incrAhead k = i := by
  simp [Dev.incrAhead, Dev.waiting_sendUpdate_same]

/-! A domain with the updates that wait for it: its counter and increment to come are told by these alone. -/

def Dev.domParts (k : Nat) : Domain × List SrvUpd := (d.dom k, d.waiting k)

variable {d} in
theorem Dev.domParts_congr {e : Dev} (h : e.tim = d.tim) (k : Nat) : e.domParts k = d.domParts k := by
  simp only [Dev.domParts, Dev.dom, Dev.waiting, h]

variable {d} in
theorem Dev.domParts_eq {e : Dev} {k : Nat} (h : e.domParts k = d.domParts k) :
    e.dom k = d.dom k ∧ e.domAhead k = d.domAhead k ∧ e.incrAhead k = d.incrAhead k := by
  obtain ⟨hdom, hwait⟩ := Prod.mk.inj h
  exact ⟨hdom, by rw [Dev.domAhead, hdom, hwait, Dev.domAhead], by rw [Dev.incrAhead, hdom, hwait, Dev.incrAhead]⟩

theorem Dev.domParts_modDom_ne (f : Domain → Domain) {j k : Nat} (hj : j < 2) (hk : k < 2) (h : j ≠ k) : (d.modDom k f).domParts j = d.domParts j := by
  rw [Dev.domParts, d.dom_modDom_ne f hj hk h, d.waiting_modDom, Dev.domParts]

theorem Dev.domParts_sendUpdate_ne (x : Int) (i : Nat) {j k : Nat} (h : j ≠ k) : (d.sendUpdate k x i).domParts j = d.domParts j := by
  rw [Dev.domParts, d.waiting_sendUpdate_ne x i h, d.dom_sendUpdate, Dev.domParts]

/-! A count, an interrupt and a record leave the time base. -/

@[simp] theorem Dev.inc_tim (a n : Nat) : (d.inc a n).tim = d.tim := by
  obtain ⟨_, _, h⟩ := d.inc_eq a n
  rw [h]

@[simp] theorem Dev.raise_tim (a k : Nat) : (d.raise a k).tim = d.tim := rfl

@[simp] theorem Dev.record_tim (typ : Nat) (b : Bytes) : (d.record typ b).tim = d.tim := by
  obtain ⟨_, _, _, h⟩ := d.record_eq typ b
  rw [h]

@[simp] theorem Dev.inc_domParts (a n k : Nat) : (d.inc a n).domParts k = d.domParts k := Dev.domParts_congr (d.inc_tim a n) k

@[simp] theorem Dev.inc_dom (a n k : Nat) : (d.inc a n).dom k = d.dom k := (Dev.domParts_eq (d.inc_domParts a n k)).1

@[simp] theorem Dev.inc_domAhead (a n k : Nat) : (d.inc a n).domAhead k = d.domAhead k := (Dev.domParts_eq (d.inc_domParts a n k)).2.1

@[simp] theorem Dev.inc_incrAhead (a n k : Nat) : (d.inc a n).incrAhead k = d.incrAhead k := (Dev.domParts_eq (d.inc_domParts a n k)).2.2

/-! A domain enters a state (R104, R919). -/

/-- The domain as it enters a state. -/
def Dev.entered (k : Nat) (st : DomSt) (m : Domain) : Domain :=
  { m with st := st, since := d.tim.clk, accAt := (d.accEst k).getD 0, lockCnt := 0, badCnt := 0 }

theorem Dev.enterDom_tim (k : Nat) (st : DomSt) : (d.enterDom k st).tim = (d.modDom k (d.entered k st)).tim := by cases st <;> rfl

@[simp] theorem Dev.enterDom_srv (k : Nat) (st : DomSt) : (d.enterDom k st).tim.srv = d.tim.srv := by
  rw [Dev.enterDom_tim, Dev.modDom]
  split <;> rfl

theorem Dev.domParts_enterDom (j k : Nat) (st : DomSt) : (d.enterDom k st).domParts j = (d.modDom k (d.entered k st)).domParts j :=
  Dev.domParts_congr (d.enterDom_tim k st) j

@[simp] theorem Dev.dom_enterDom (k : Nat) (st : DomSt) : (d.enterDom k st).dom k = d.entered k st (d.dom k) :=
  (Dev.domParts_eq (d.domParts_enterDom k k st)).1.trans (d.dom_modDom_same k _)

@[simp] theorem Dev.domAhead_enterDom (k : Nat) (st : DomSt) : (d.enterDom k st).domAhead k = d.domAhead k :=
  (Dev.domParts_eq (d.domParts_enterDom k k st)).2.1.trans (d.domAhead_modDom k fun _ => rfl)

theorem Dev.domParts_enterDom_ne (st : DomSt) {j k : Nat} (hj : j < 2) (hk : k < 2) (h : j ≠ k) : (d.enterDom k st).domParts j = d.domParts j :=
  (d.domParts_enterDom j k st).trans (d.domParts_modDom_ne _ hj hk h)

theorem Dev.rd_modDom (k : Nat) (f : Domain → Domain) (a : Nat) : (d.modDom k f).rd a = d.rd a := by
  unfold Dev.modDom
  split <;> rfl

theorem Dev.rd_enterDom_ne (k : Nat) (st : DomSt) {a : Nat} (h : a ≠ Reg.TIM_INT_STATUS) : (d.enterDom k st).rd a = d.rd a := by
  have hmod := d.rd_modDom k (d.entered k st) a
  cases st with
  | free | acquire => exact hmod
  | locked | holdover | lost => exact (Dev.rd_raise_ne _ _ h).trans hmod

/-! The switch looked at again (R108, R113): it raises or drops what waits, and leaves the domains and the registers. -/

theorem Dev.reviewSwitch_eq : ∃ p r, d.reviewSwitch = { d with tim := { d.tim with pending := p, refused := r } } := by
  unfold Dev.reviewSwitch
  dsimp only
  split
  · split
    · exact ⟨_, _, rfl⟩
    · exact ⟨d.tim.pending, d.tim.refused, rfl⟩
  · exact ⟨_, _, rfl⟩

@[simp] theorem Dev.reviewSwitch_domParts (k : Nat) : d.reviewSwitch.domParts k = d.domParts k := by
  obtain ⟨_, _, h⟩ := d.reviewSwitch_eq
  rw [h]
  rfl

@[simp] theorem Dev.reviewSwitch_srv : d.reviewSwitch.tim.srv = d.tim.srv := by
  obtain ⟨_, _, h⟩ := d.reviewSwitch_eq
  rw [h]

@[simp] theorem Dev.reviewSwitch_dom (k : Nat) : d.reviewSwitch.dom k = d.dom k := (Dev.domParts_eq (d.reviewSwitch_domParts k)).1

@[simp] theorem Dev.reviewSwitch_domAhead (k : Nat) : d.reviewSwitch.domAhead k = d.domAhead k := (Dev.domParts_eq (d.reviewSwitch_domParts k)).2.1

@[simp] theorem Dev.reviewSwitch_incrAhead (k : Nat) : d.reviewSwitch.incrAhead k = d.incrAhead k := (Dev.domParts_eq (d.reviewSwitch_domParts k)).2.2

@[simp] theorem Dev.reviewSwitch_rd (a : Nat) : d.reviewSwitch.rd a = d.rd a := by
  obtain ⟨_, _, h⟩ := d.reviewSwitch_eq
  rw [h]
  rfl

/-! What the servo and the states leave. -/

/-- The machine but for its registers with the marks of the tick, the two domains with the updates that wait, the switch that waits or stands refused, and
what the ports know of their grandmasters. -/
def Dev.besideServo : Dev :=
  { d with
    regs := [], hw := ⟨0, []⟩,
    tim := { d.tim with domA := Domain.fresh, domB := Domain.fresh, srv := [], pending := none, refused := none, ports := [] } }

variable {d} in
theorem Dev.besideServo_eq {e : Dev} (h : e.besideServo = d.besideServo) :
    e.tim.out = d.tim.out ∧ e.tim.sel = d.tim.sel ∧ e.tim.lockedOnce = d.tim.lockedOnce ∧ e.tim.irig = d.tim.irig ∧ e.loc = d.loc :=
  ⟨congrArg (·.tim.out) h, congrArg (·.tim.sel) h, congrArg (·.tim.lockedOnce) h, congrArg (·.tim.irig) h, congrArg (·.loc) h⟩

@[simp] theorem Dev.modDom_besideServo (k : Nat) (f : Domain → Domain) : (d.modDom k f).besideServo = d.besideServo := by
  unfold Dev.modDom
  split <;> rfl

@[simp] theorem Dev.sendUpdate_besideServo (k : Nat) (x : Int) (i : Nat) : (d.sendUpdate k x i).besideServo = d.besideServo := rfl

@[simp] theorem Dev.inc_besideServo (a n : Nat) : (d.inc a n).besideServo = d.besideServo := by
  obtain ⟨_, _, h⟩ := d.inc_eq a n
  rw [h]
  rfl

@[simp] theorem Dev.enterDom_besideServo (k : Nat) (st : DomSt) : (d.enterDom k st).besideServo = d.besideServo := by
  have hmod := d.modDom_besideServo k (d.entered k st)
  cases st <;> exact hmod

@[simp] theorem Dev.reviewSwitch_besideServo : d.reviewSwitch.besideServo = d.besideServo := by
  obtain ⟨_, _, h⟩ := d.reviewSwitch_eq
  rw [h]
  rfl

end

/-! The source of a domain has a time value (R104). -/

section
variable (d : Dev) (k v ago : Nat)

/-- The offset of the source's time from the counter as it will be. -/
def Dev.domOfs : Int := ((v + ago * (d.dom k).incr : Nat) : Int) - d.domAhead k

/-- The offsets of the last 16 updates with this one. -/
def Dev.domOfs16 : List Int := (d.domOfs k v ago :: (d.dom k).ofs).take 16

/-- The machine after an update that steers the increment. -/
def Dev.servoSteer : Dev :=
  let i := servoIncr (d.domOfs16 k v ago) (d.incrAhead k)
  (d.sendUpdate k 0 i).modDom k (fun m => { m with ofs := d.domOfs16 k v ago, incrs := (i :: m.incrs).take 16, missed := 0 })

variable {d k v ago}

theorem Dev.domUpdate_free_eq (h : (d.dom k).st = .free) : d.domUpdate k v ago =
    (((d.sendUpdate k (d.domOfs k v ago) (d.incrAhead k)).enterDom k .acquire).modDom k (fun m => { m with missed := 0, ofs := [] })).reviewSwitch := by
  simp only [Dev.domUpdate, h]
  rfl

theorem Dev.domUpdate_held_eq (h : (d.dom k).st = .holdover ∨ (d.dom k).st = .lost) : d.domUpdate k v ago =
    ((d.enterDom k .acquire).modDom k (fun m => { m with missed := 0 })).reviewSwitch := by
  obtain h | h := h <;> simp only [Dev.domUpdate, h]

theorem Dev.domUpdate_acquire_eq (h : (d.dom k).st = .acquire) : d.domUpdate k v ago =
    if 1000000 * unitNs < (d.domOfs k v ago).natAbs then
      (d.sendUpdate k (d.domOfs k v ago) (d.incrAhead k)).modDom k (fun m => { m with ofs := d.domOfs16 k v ago, lockCnt := 0, missed := 0 })
    else if (d.domOfs k v ago).natAbs ≤ d.lockThr k then
      if 16 ≤ (d.dom k).lockCnt + 1 then ((d.servoSteer k v ago).enterDom k .locked).reviewSwitch
      else (d.servoSteer k v ago).modDom k (fun m => { m with lockCnt := m.lockCnt + 1 })
    else (d.servoSteer k v ago).modDom k (fun m => { m with lockCnt := 0 }) := by
  simp only [Dev.domUpdate, h, decide_eq_true_eq]
  rfl

theorem Dev.domUpdate_locked_eq (h : (d.dom k).st = .locked) : d.domUpdate k v ago =
    if 4 * d.lockThr k < (d.domOfs k v ago).natAbs then
      if 4 ≤ (d.dom k).badCnt + 1 then ((d.servoSteer k v ago).enterDom k .acquire).reviewSwitch
      else (d.servoSteer k v ago).modDom k (fun m => { m with badCnt := m.badCnt + 1 })
    else (d.servoSteer k v ago).modDom k (fun m => { m with badCnt := 0 }) := by
  simp only [Dev.domUpdate, h]
  rfl

/-- What the parts of an update keep, the update keeps. -/
theorem Dev.domUpdate_keeps {β : Type} {g : Dev → β} (hsend : ∀ e x i, g (e.sendUpdate k x i) = g e) (hmod : ∀ e f, g (e.modDom k f) = g e)
    (henter : ∀ e st, g (e.enterDom k st) = g e) (hreview : ∀ e, g e.reviewSwitch = g e) : g (d.domUpdate k v ago) = g d := by
  have hsteer : g (d.servoSteer k v ago) = g d := by rw [Dev.servoSteer, hmod, hsend]
  cases h : (d.dom k).st with
  | free => rw [Dev.domUpdate_free_eq h, hreview, hmod, henter, hsend]
  | holdover => rw [Dev.domUpdate_held_eq (.inl h), hreview, hmod, henter]
  | lost => rw [Dev.domUpdate_held_eq (.inr h), hreview, hmod, henter]
  | acquire => simp only [Dev.domUpdate_acquire_eq h, apply_ite g, hreview, henter, hmod, hsend, hsteer, ite_self]
  | locked => simp only [Dev.domUpdate_locked_eq h, apply_ite g, hreview, henter, hmod, hsteer, ite_self]

variable (d k v ago) in
@[simp] theorem Dev.domUpdate_besideServo : (d.domUpdate k v ago).besideServo = d.besideServo :=
  Dev.domUpdate_keeps (fun e => e.sendUpdate_besideServo k) (fun e => e.modDom_besideServo k) (fun e => e.enterDom_besideServo k)
    Dev.reviewSwitch_besideServo

variable (d k v ago) in
theorem Dev.domUpdate_rd_ne {a : Nat} (h : a ≠ Reg.TIM_INT_STATUS) : (d.domUpdate k v ago).rd a = d.rd a :=
  Dev.domUpdate_keeps (g := (Dev.rd · a)) (fun _ _ _ => rfl) (fun e f => e.rd_modDom k f a) (fun e st => e.rd_enterDom_ne k st h)
    (fun e => e.reviewSwitch_rd a)

variable (d v ago) in
/-- It leaves the other domain. -/
theorem Dev.domUpdate_domParts_ne {j : Nat} (hj : j < 2) (hk : k < 2) (h : j ≠ k) : (d.domUpdate k v ago).domParts j = d.domParts j :=
  Dev.domUpdate_keeps (g := (Dev.domParts · j)) (fun e x i => e.domParts_sendUpdate_ne x i h) (fun e f => e.domParts_modDom_ne f hj hk h)
    (fun e st => e.domParts_enterDom_ne st hj hk h) (fun e => e.reviewSwitch_domParts j)

@[simp] theorem Dev.dom_servoSteer : ((d.servoSteer k v ago).dom k).st = (d.dom k).st ∧ ((d.servoSteer k v ago).dom k).lockCnt = (d.dom k).lockCnt ∧
    ((d.servoSteer k v ago).dom k).badCnt = (d.dom k).badCnt := by
  simp [Dev.servoSteer]

@[simp] theorem Dev.domAhead_servoSteer : (d.servoSteer k v ago).domAhead k = d.domAhead k := by
  simp [Dev.servoSteer, Dev.domAhead_modDom]

/-- A step by the offset brings the counter to the source's time. -/
theorem Dev.domAhead_add_domOfs : d.domAhead k + d.domOfs k v ago = (v + ago * (d.dom k).incr : Nat) := by
  rw [Dev.domOfs]
  omega

theorem Dev.domUpdate_free (h : (d.dom k).st = .free) :
    ((d.domUpdate k v ago).dom k).st = .acquire ∧ (d.domUpdate k v ago).domAhead k = (v + ago * (d.dom k).incr : Nat) ∧
    ((d.domUpdate k v ago).dom k).lockCnt = 0 := by
  rw [Dev.domUpdate_free_eq h, ← Dev.domAhead_add_domOfs]
  simp [Dev.domAhead_modDom, Dev.entered]

theorem Dev.domUpdate_held (h : (d.dom k).st = .holdover ∨ (d.dom k).st = .lost) :
    ((d.domUpdate k v ago).dom k).st = .acquire ∧ (d.domUpdate k v ago).domAhead k = d.domAhead k := by
  rw [Dev.domUpdate_held_eq h]
  simp [Dev.domAhead_modDom, Dev.entered]

/-- ACQUIRE with an offset beyond 1 ms. -/
theorem Dev.domUpdate_acquire_step (h : (d.dom k).st = .acquire) (hbig : 1000000 * unitNs < (d.domOfs k v ago).natAbs) :
    ((d.domUpdate k v ago).dom k).st = .acquire ∧ (d.domUpdate k v ago).domAhead k = (v + ago * (d.dom k).incr : Nat) ∧
    ((d.domUpdate k v ago).dom k).lockCnt = 0 := by
  rw [Dev.domUpdate_acquire_eq h, if_pos hbig, ← Dev.domAhead_add_domOfs]
  simp [Dev.domAhead_modDom, h]

/-- ACQUIRE with an offset within the lock threshold, before the 16th in a row. -/
theorem Dev.domUpdate_acquire_near (h : (d.dom k).st = .acquire) (hbig : (d.domOfs k v ago).natAbs ≤ 1000000 * unitNs)
    (hthr : (d.domOfs k v ago).natAbs ≤ d.lockThr k) (hcnt : (d.dom k).lockCnt < 15) :
    ((d.domUpdate k v ago).dom k).st = .acquire ∧ (d.domUpdate k v ago).domAhead k = d.domAhead k ∧
    ((d.domUpdate k v ago).dom k).lockCnt = (d.dom k).lockCnt + 1 := by
  rw [Dev.domUpdate_acquire_eq h, if_neg (Nat.not_lt.mpr hbig), if_pos hthr, if_neg (by omega)]
  simp [Dev.domAhead_modDom, h]

/-- The 16th such offset. -/
theorem Dev.domUpdate_acquire_lock (h : (d.dom k).st = .acquire) (hbig : (d.domOfs k v ago).natAbs ≤ 1000000 * unitNs)
    (hthr : (d.domOfs k v ago).natAbs ≤ d.lockThr k) (hcnt : 15 ≤ (d.dom k).lockCnt) :
    ((d.domUpdate k v ago).dom k).st = .locked ∧ (d.domUpdate k v ago).domAhead k = d.domAhead k ∧
    (d.domUpdate k v ago).flag Reg.TIM_INT_STATUS 0 = true := by
  rw [Dev.domUpdate_acquire_eq h, if_neg (Nat.not_lt.mpr hbig), if_pos hthr, if_pos (by omega), Dev.flag, Dev.reviewSwitch_rd]
  refine ⟨?_, ?_, Dev.flag_raise _ _ _ (by decide)⟩ <;> simp [Dev.entered]

/-- ACQUIRE with an offset between the threshold and 1 ms. -/
theorem Dev.domUpdate_acquire_far (h : (d.dom k).st = .acquire) (hbig : (d.domOfs k v ago).natAbs ≤ 1000000 * unitNs)
    (hthr : d.lockThr k < (d.domOfs k v ago).natAbs) :
    ((d.domUpdate k v ago).dom k).st = .acquire ∧ (d.domUpdate k v ago).domAhead k = d.domAhead k ∧ ((d.domUpdate k v ago).dom k).lockCnt = 0 := by
  rw [Dev.domUpdate_acquire_eq h, if_neg (Nat.not_lt.mpr hbig), if_neg (Nat.not_le.mpr hthr)]
  simp [Dev.domAhead_modDom, h]

/-- LOCKED with the fourth offset in a row beyond four times the threshold. -/
theorem Dev.domUpdate_locked_leave (h : (d.dom k).st = .locked) (hthr : 4 * d.lockThr k < (d.domOfs k v ago).natAbs) (hcnt : 3 ≤ (d.dom k).badCnt) :
    ((d.domUpdate k v ago).dom k).st = .acquire ∧ (d.domUpdate k v ago).domAhead k = d.domAhead k := by
  rw [Dev.domUpdate_locked_eq h, if_pos hthr, if_pos (by omega)]
  simp [Dev.entered]

theorem Dev.domUpdate_locked_bad (h : (d.dom k).st = .locked) (hthr : 4 * d.lockThr k < (d.domOfs k v ago).natAbs) (hcnt : (d.dom k).badCnt < 3) :
    ((d.domUpdate k v ago).dom k).st = .locked ∧ ((d.domUpdate k v ago).dom k).badCnt = (d.dom k).badCnt + 1 := by
  rw [Dev.domUpdate_locked_eq h, if_pos hthr, if_neg (by omega)]
  simp [h]

theorem Dev.domUpdate_locked_good (h : (d.dom k).st = .locked) (hthr : (d.domOfs k v ago).natAbs ≤ 4 * d.lockThr k) :
    ((d.domUpdate k v ago).dom k).st = .locked ∧ ((d.domUpdate k v ago).dom k).badCnt = 0 := by
  rw [Dev.domUpdate_locked_eq h, if_neg (Nat.not_lt.mpr hthr)]
  simp [h]

end

/-! The source of a domain is lost (R104). -/

section
variable (d : Dev) (k : Nat)

/-- The machine whose port holds no grandmaster any more, where the domain followed it. -/
def Dev.sourceGone : Dev := if d.domSrc k = 1 then d.dropGm (d.domPort k) else d

@[simp] theorem Dev.sourceGone_domParts (j : Nat) : (d.sourceGone k).domParts j = d.domParts j := by
  unfold Dev.sourceGone
  split <;> rfl

@[simp] theorem Dev.sourceGone_dom (j : Nat) : (d.sourceGone k).dom j = d.dom j := (Dev.domParts_eq (d.sourceGone_domParts k j)).1

@[simp] theorem Dev.sourceGone_domAhead (j : Nat) : (d.sourceGone k).domAhead j = d.domAhead j := (Dev.domParts_eq (d.sourceGone_domParts k j)).2.1

@[simp] theorem Dev.sourceGone_besideServo : (d.sourceGone k).besideServo = d.besideServo := by
  unfold Dev.sourceGone
  split <;> rfl

theorem Dev.sourceGone_rest : (d.sourceGone k).regs = d.regs ∧ (d.sourceGone k).tim.srv = d.tim.srv := by
  unfold Dev.sourceGone
  split <;> exact ⟨rfl, rfl⟩

/-- The increment that LOCKED leaves behind: the mean over the last updates. -/
def Dev.meanIncr : Nat := if (d.dom k).incrs = [] then (d.dom k).incr else rdivN ((d.dom k).incrs.foldl (· + ·) 0) (d.dom k).incrs.length

@[simp] theorem Dev.sourceGone_meanIncr : (d.sourceGone k).meanIncr k = d.meanIncr k := by rw [Dev.meanIncr, d.sourceGone_dom k k, Dev.meanIncr]

variable {d k}

theorem Dev.domLost_acquire_eq (h : (d.dom k).st = .acquire) :
    d.domLost k = (((d.sourceGone k).enterDom k .free).inc (Reg.TIM_DOM_LOSS_CNT k) 1).reviewSwitch := by
  rw [← d.sourceGone_dom k k] at h
  unfold Dev.sourceGone at h ⊢
  simp only [Dev.domLost, h]

theorem Dev.domLost_locked_eq (h : (d.dom k).st = .locked) : d.domLost k =
    ((((d.sourceGone k).enterDom k .holdover).sendUpdate k 0 (d.meanIncr k)).inc (Reg.TIM_DOM_LOSS_CNT k) 1).reviewSwitch := by
  rw [← d.sourceGone_dom k k] at h
  rw [← d.sourceGone_meanIncr k]
  unfold Dev.sourceGone Dev.meanIncr at *
  simp only [Dev.domLost, h]

theorem Dev.domLost_still (hacq : (d.dom k).st ≠ .acquire) (hlock : (d.dom k).st ≠ .locked) : d.domLost k = d.sourceGone k := by
  rw [← d.sourceGone_dom k k] at hacq hlock
  unfold Dev.sourceGone at *
  simp only [Dev.domLost]
  generalize (if d.domSrc k = 1 then d.dropGm (d.domPort k) else d) = e at *
  cases h : (e.dom k).st with
  | acquire => exact absurd h hacq
  | locked => exact absurd h hlock
  | free | holdover | lost => rfl

/-- What the parts of a loss keep, the loss keeps. -/
theorem Dev.domLost_keeps {β : Type} {g : Dev → β} (hgone : g (d.sourceGone k) = g d) (hsend : ∀ e i, g (e.sendUpdate k 0 i) = g e)
    (henter : ∀ e st, g (e.enterDom k st) = g e) (hinc : ∀ e, g (e.inc (Reg.TIM_DOM_LOSS_CNT k) 1) = g e)
    (hreview : ∀ e, g e.reviewSwitch = g e) : g (d.domLost k) = g d := by
  by_cases hacq : (d.dom k).st = .acquire
  · rw [Dev.domLost_acquire_eq hacq, hreview, hinc, henter, hgone]
  by_cases hlock : (d.dom k).st = .locked
  · rw [Dev.domLost_locked_eq hlock, hreview, hinc, hsend, henter, hgone]
  · rw [Dev.domLost_still hacq hlock, hgone]

variable (d k) in
@[simp] theorem Dev.domLost_besideServo : (d.domLost k).besideServo = d.besideServo :=
  Dev.domLost_keeps (d.sourceGone_besideServo k) (fun e => e.sendUpdate_besideServo k 0) (fun e => e.enterDom_besideServo k)
    (fun e => e.inc_besideServo _ 1) Dev.reviewSwitch_besideServo

variable (d) in
theorem Dev.domLost_domParts_ne {j : Nat} (hj : j < 2) (hk : k < 2) (h : j ≠ k) : (d.domLost k).domParts j = d.domParts j :=
  Dev.domLost_keeps (g := (Dev.domParts · j)) (d.sourceGone_domParts k j) (fun e i => e.domParts_sendUpdate_ne 0 i h)
    (fun e st => e.domParts_enterDom_ne st hj hk h) (fun e => e.inc_domParts _ 1 j) (fun e => e.reviewSwitch_domParts j)

theorem Dev.domLost_acquire (h : (d.dom k).st = .acquire) : ((d.domLost k).dom k).st = .free ∧ (d.domLost k).tim.srv = d.tim.srv := by
  simp [Dev.domLost_acquire_eq h, Dev.entered, d.sourceGone_rest k]

theorem Dev.domLost_locked (h : (d.dom k).st = .locked) :
    ((d.domLost k).dom k).st = .holdover ∧ (d.domLost k).flag Reg.TIM_INT_STATUS 4 = true ∧ (d.domLost k).incrAhead k = d.meanIncr k := by
  have hcnt : Reg.TIM_INT_STATUS ≠ Reg.TIM_DOM_LOSS_CNT k := by unfold Reg.TIM_INT_STATUS Reg.TIM_DOM_LOSS_CNT; omega
  rw [Dev.domLost_locked_eq h, Dev.flag, Dev.reviewSwitch_rd, Dev.rd_inc_ne _ _ hcnt]
  exact ⟨by simp [Dev.entered], Dev.flag_raise _ _ _ (by decide), by simp⟩

variable (d k) in
/-- A loss moves no counter. -/
theorem Dev.domLost_domAhead : (d.domLost k).domAhead k = d.domAhead k :=
  Dev.domLost_keeps (g := (Dev.domAhead · k)) (d.sourceGone_domAhead k k) (fun e i => by simp) (fun e => e.domAhead_enterDom k)
    (fun e => e.inc_domAhead _ 1 k) (fun e => e.reviewSwitch_domAhead k)

end

/-! HOLD_LIM seconds have passed in HOLDOVER (R104). -/

section
variable {d : Dev} {k : Nat}

theorem Dev.holdoverLimit_due (h : (d.dom k).st = .holdover) (hdue : ticksSec (d.rdN (Reg.TIM_DOM_HOLD_LIM k)) ≤ d.tim.clk - (d.dom k).since) :
    d.holdoverLimit k = (d.enterDom k .lost).reviewSwitch := by
  simp [Dev.holdoverLimit, h, hdue]

theorem Dev.holdoverLimit_lost (h : (d.dom k).st = .holdover) (hdue : ticksSec (d.rdN (Reg.TIM_DOM_HOLD_LIM k)) ≤ d.tim.clk - (d.dom k).since) :
    ((d.holdoverLimit k).dom k).st = .lost ∧ ((d.holdoverLimit k).dom k).incr = (d.dom k).incr ∧
    (d.holdoverLimit k).flag Reg.TIM_INT_STATUS 5 = true := by
  rw [Dev.holdoverLimit_due h hdue, Dev.reviewSwitch_dom, Dev.dom_enterDom, Dev.flag, Dev.reviewSwitch_rd]
  exact ⟨rfl, rfl, Dev.flag_raise _ _ _ (by decide)⟩

/-- What the parts of it keep, the limit keeps. -/
theorem Dev.holdoverLimit_keeps {β : Type} {g : Dev → β} (henter : ∀ e st, g (e.enterDom k st) = g e) (hreview : ∀ e, g e.reviewSwitch = g e) :
    g (d.holdoverLimit k) = g d := by simp only [Dev.holdoverLimit, apply_ite g, hreview, henter, ite_self]

variable (d k) in
theorem Dev.holdoverLimit_besideServo : (d.holdoverLimit k).besideServo = d.besideServo :=
  Dev.holdoverLimit_keeps (fun e => e.enterDom_besideServo k) Dev.reviewSwitch_besideServo

variable (d) in
theorem Dev.holdoverLimit_domParts_ne {j : Nat} (hj : j < 2) (hk : k < 2) (h : j ≠ k) : (d.holdoverLimit k).domParts j = d.domParts j :=
  Dev.holdoverLimit_keeps (g := (Dev.domParts · j)) (fun e st => e.domParts_enterDom_ne st hj hk h) (fun e => e.reviewSwitch_domParts j)

variable (d k) in
theorem Dev.holdoverLimit_val : ((d.holdoverLimit k).dom k).val = (d.dom k).val :=
  Dev.holdoverLimit_keeps (g := fun e => (e.dom k).val) (fun e st => by rw [Dev.dom_enterDom]; rfl) (fun e => by rw [Dev.reviewSwitch_dom])

theorem Dev.holdoverLimit_still (h : (d.dom k).st ≠ .holdover ∨ d.tim.clk - (d.dom k).since < ticksSec (d.rdN (Reg.TIM_DOM_HOLD_LIM k))) :
    d.holdoverLimit k = d := by
  refine if_neg ?_
  simpa [← not_and_or, imp_iff_not_or] using h

end

/-! The exchange with the twin (R98, R744). -/

section
variable (d : Dev)

@[simp] theorem Dev.setBoot_tim (b : Nat) : (d.setBoot b).tim = d.tim := by
  unfold Dev.setBoot
  split <;> rfl

@[simp] theorem Dev.reviewRun_tim : d.reviewRun.tim = d.tim := by simp [Dev.reviewRun, apply_ite Dev.tim]

@[simp] theorem Dev.standDown_tim (seen source : Nat) : (d.standDown seen source).tim = d.tim := by simp [Dev.standDown]

@[simp] theorem Dev.seeClaim_tim (claim source : Nat) : (d.seeClaim claim source).tim = d.tim := by simp [Dev.seeClaim, apply_ite Dev.tim]

/-- A frame of the link that comes in leaves the time base. -/
@[simp] theorem Dev.ozReceive_tim (l : Nat) (b : Bytes) : (d.ozReceive l b).2.tim = d.tim := by
  simp only [Dev.ozReceive, apply_ite Prod.snd, apply_ite Dev.tim, Dev.inc_tim, Dev.seeClaim_tim]
  split
  · rfl
  · split <;> rfl

@[simp] theorem Dev.twinUpdate_besideServo (t1 t2 t3 t4 est : Nat) (trace : Bool) : (d.twinUpdate t1 t2 t3 t4 est trace).besideServo = d.besideServo :=
  foldUp_keeps Dev.besideServo 2 _ (fun k e => by simp only [apply_ite Dev.besideServo, Dev.domUpdate_besideServo, Dev.modDom_besideServo, ite_self]) d

/-- After the first lock a command has no lock to look for (R105). -/
theorem Dev.lockCheck_locked {d : Dev} (h : d.tim.lockedOnce = true) : d.lockCheck = d := if_pos h

variable {d} {x : TimeExchange}

/-- Unless this is the active twin of a pair, no domain loses the twin (R731). -/
theorem Dev.twinLost_none (h : ¬ (d.units.paired = true ∧ d.activeTwin = true)) :
    foldUp 2 (fun k (d : Dev) => if d.domSrc k = 4 && d.units.paired && d.activeTwin then d.domLost k else d) d = d := by
  have hk (k : Nat) : ¬ ((d.domSrc k = 4 && d.units.paired && d.activeTwin) = true) := by
    simp only [Bool.and_eq_true]
    tauto
  rw [foldUp, foldUp, foldUp, if_neg (hk 0), if_neg (hk 1)]

theorem Dev.twinExchange_request (h : ¬ (d.units.paired = true ∧ d.activeTwin = true)) (hrx : x.rx = none)
    (hf : d.domSrc 0 = 4 ∨ d.domSrc 1 = 4) (hup : (d.lane x.lane).up = true) :
    d.twinExchange x = (({ d with tim := { d.tim with twinReq := some d.ns } } : Dev).ozSend x.lane 2 (timeBody 0 d.ns 0 0)).2 := by
  simp only [Dev.twinExchange, Dev.twinLost_none h, hrx]
  exact if_pos (by simpa [hup, List.range, List.range.loop] using hf)

theorem Dev.twinExchange_quiet (h : ¬ (d.units.paired = true ∧ d.activeTwin = true)) (hrx : x.rx = none)
    (hq : ¬ (d.domSrc 0 = 4 ∨ d.domSrc 1 = 4) ∨ (d.lane x.lane).up = false) : d.twinExchange x = d := by
  simp only [Dev.twinExchange, Dev.twinLost_none h, hrx]
  refine if_neg ?_
  obtain hq | hq := hq
  · simpa [List.range, List.range.loop, not_or] using fun _ => not_or.mp hq
  · simp [hq]

/-- What a TIME frame that came in makes of the machine that has received it. -/
def Dev.twinTake (r : Dev) (x : TimeExchange) (p : Bytes) : Dev :=
  if byteAt p 0 = 0 then (r.ozSend x.lane 2 (timeBody 1 (beAt p 8 8) r.ns r.ns)).2
  else if r.tim.twinReq = some (beAt p 8 8) then
    ({ r with tim := { r.tim with twinReq := none } } : Dev).twinUpdate (beAt p 8 8) (beAt p 16 8) (beAt p 24 8) r.ns x.estNs x.trace
  else r

theorem Dev.twinExchange_frame (h : ¬ (d.units.paired = true ∧ d.activeTwin = true)) {b : Bytes} (hrx : x.rx = some b) {f q : Nat} {p : Bytes}
    (hb : (d.ozReceive x.lane b).1 = some (2, f, q, p)) : d.twinExchange x = (d.ozReceive x.lane b).2.twinTake x p := by
  have hpair : d.ozReceive x.lane b = (some (2, f, q, p), (d.ozReceive x.lane b).2) := Prod.ext hb rfl
  rw [Dev.twinExchange, Dev.twinLost_none h, hrx]
  dsimp only
  rw [hpair]
  rfl

theorem Dev.twinTake_lockedOnce (r : Dev) (p : Bytes) : (r.twinTake x p).tim.lockedOnce = r.tim.lockedOnce := by
  unfold Dev.twinTake
  split
  · rfl
  · split
    · exact (Dev.besideServo_eq (Dev.twinUpdate_besideServo _ _ _ _ _ _ _)).2.2.1
    · rfl

end

/-! The clock's advance (R80, R84): it moves the counter and the increment of a domain, and leaves the rest of it. -/

theorem Tim.apply_dom (m : Tim) (u : SrvUpd) (k : Nat) : ∃ v i, (m.apply u).dom k = { m.dom k with val := v, incr := i } := by
  unfold Tim.apply Tim.dom
  dsimp only
  split <;> split <;> split <;> exact ⟨_, _, rfl⟩

theorem Tim.goto_dom (max t : Nat) (l : List SrvUpd) (m : Tim) (k : Nat) : ∃ v i, (Tim.goto max t l m).dom k = { m.dom k with val := v, incr := i } := by
  have hadv (m : Tim) (dt : Nat) : ∃ v i, (m.adv max dt).dom k = { m.dom k with val := v, incr := i } := by
    unfold Tim.adv Tim.dom
    dsimp only
    split <;> exact ⟨_, _, rfl⟩
  induction l generalizing m with
  | nil => exact hadv m _
  | cons u l ih =>
    unfold Tim.goto
    split
    · obtain ⟨v, i, h⟩ := ih ({ m.adv max (u.at' - m.clk) with srv := l }.apply u)
      obtain ⟨v', i', h'⟩ := Tim.apply_dom { m.adv max (u.at' - m.clk) with srv := l } u k
      obtain ⟨v'', i'', h''⟩ := hadv m (u.at' - m.clk)
      have hsrv : ({ m.adv max (u.at' - m.clk) with srv := l } : Tim).dom k = (m.adv max (u.at' - m.clk)).dom k := rfl
      exact ⟨v, i, by rw [h, h', hsrv, h'']⟩
    · exact hadv m _

theorem Dev.tick_dom (d : Dev) (t k : Nat) : ∃ v i, (d.tick t).dom k = { d.dom k with val := v, incr := i } :=
  Tim.goto_dom _ t d.tim.srv d.tim k

theorem Dev.tick_dom_st (d : Dev) (t k : Nat) :
    ((d.tick t).dom k).st = (d.dom k).st ∧ ((d.tick t).dom k).since = (d.dom k).since ∧ ((d.tick t).dom k).missed = (d.dom k).missed := by
  obtain ⟨_, _, h⟩ := d.tick_dom t k
  rw [h]
  exact ⟨rfl, rfl, rfl⟩

@[simp] theorem Dev.tick_tim_twinReq (d : Dev) (t : Nat) : (d.tick t).tim.twinReq = d.tim.twinReq := by
  obtain ⟨_, _, _, _, _, _, h⟩ := Tim.goto_eq (d.rdN Reg.TIM_SLEW_MAX) t d.tim.srv d.tim
  simp only [Dev.tick, h]

/-! The commands of the domains. -/

section
variable (s : State) (n : Nat) {k : Nat}

theorem sourceLost_ends (hk : k < 2) : Ends (exec (.sourceLost n k) s) { s with dev := (s.dev.tick n).domLost k } := by
  rw [exec_sourceLost, decide_eq_true hk]
  exact devRow_ends s n _

theorem holdoverLimit_ends (hk : k < 2) : Ends (exec (.holdoverLimit n k) s) { s with dev := (s.dev.tick n).holdoverLimit k } := by
  rw [exec_holdoverLimit, decide_eq_true hk]
  exact devRow_ends s n _

variable {x : TimeExchange} {e : Dev}

/-- A TIME exchange after the first lock. -/
theorem twinTimeExchange_ends (hx : x.lane < 2) (h : (s.dev.tick n).twinExchange x = e) (hlock : e.tim.lockedOnce = true) :
    Ends (exec (.twinTimeExchange n x) s) { s with dev := e } := by
  rw [exec_twinTimeExchange, decide_eq_true hx]
  have hends := devRow_ends s n (fun d => (d.twinExchange x).lockCheck)
  rwa [h, Dev.lockCheck_locked hlock] at hends

end

/-- Settles O27: each case of an update, a loss and a limit by its own lemma (`Dev.domUpdate_free` to `Dev.domUpdate_locked_good`, `Dev.domLost_acquire`,
`Dev.domLost_locked`), what they leave by `Dev.besideServo` and `Dev.domParts`. -/
theorem domainStates : Obligations.DomainStates := by
  unfold Obligations.DomainStates
  refine ⟨?update, ?lost, ?twin⟩
  case update =>
    intro d k v ago hk m now ofs r m'
    obtain ⟨hout, hsel, -, -, hloc⟩ := Dev.besideServo_eq (d.domUpdate_besideServo k v ago)
    have hother := (Dev.domParts_eq (d.domUpdate_domParts_ne v ago (j := 1 - k) (by omega) hk (by omega))).1
    exact ⟨Dev.domUpdate_free, Dev.domUpdate_held, Dev.domUpdate_acquire_step, Dev.domUpdate_acquire_near, Dev.domUpdate_acquire_lock,
      Dev.domUpdate_acquire_far, Dev.domUpdate_locked_leave, Dev.domUpdate_locked_bad, Dev.domUpdate_locked_good, hother, hout, hsel, hloc⟩
  case lost =>
    intro s n k hk e m
    refine ⟨?_, ?_⟩
    · obtain ⟨hout, -, -, -, hloc⟩ := Dev.besideServo_eq (e.domLost_besideServo k)
      have hother := (Dev.domParts_eq (e.domLost_domParts_ne (j := 1 - k) (by omega) hk (by omega))).1
      refine (sourceLost_ends s n hk).with fun _ _ _ _ _ => ⟨fun h => ?_, fun h => ?_, fun hacq hlock => ?_, ?_, hother, hout, hloc, rfl⟩
      · exact Dev.domLost_acquire h
      · obtain ⟨hst, hint, hincr⟩ := Dev.domLost_locked h
        exact ⟨hst, hint, fun hne => hincr.trans (if_neg hne)⟩
      · obtain ⟨hregs, hsrv⟩ := e.sourceGone_rest k
        rw [← Dev.domLost_still hacq hlock] at hregs hsrv
        exact ⟨(congrArg (Dev.dom · k) (Dev.domLost_still hacq hlock)).trans (e.sourceGone_dom k k), hregs, hsrv⟩
      · exact Dev.domLost_domAhead e k
    · obtain ⟨hout, -, -, -, hloc⟩ := Dev.besideServo_eq (e.holdoverLimit_besideServo k)
      have hother := (Dev.domParts_eq (e.holdoverLimit_domParts_ne (j := 1 - k) (by omega) hk (by omega))).1
      refine (holdoverLimit_ends s n hk).with fun _ _ _ _ _ => ⟨fun h hdue => ?_, fun h => ?_, e.holdoverLimit_val k, hother, hout, hloc, rfl⟩
      · exact Dev.holdoverLimit_lost h hdue
      · have hstill := Dev.holdoverLimit_still (d := e) (k := k) h
        exact ⟨congrArg (·.tim) hstill, congrArg (·.regs) hstill⟩
  case twin =>
    intro s n x hx hlock hnot e follows
    have hlock' : e.tim.lockedOnce = true := (Dev.tick_tim_lockedOnce _ _).trans hlock
    refine ⟨fun hrx hf hup => ?_, fun hrx hq => ?_, ?_⟩
    · exact twinTimeExchange_ends s n hx (Dev.twinExchange_request (d := e) hnot hrx hf hup) hlock'
    · exact twinTimeExchange_ends s n hx (Dev.twinExchange_quiet (d := e) hnot hrx hq) hlock'
    · intro b f q p hrx hb r
      have htim : r.tim = e.tim := e.ozReceive_tim x.lane b
      have hns : r.ns = e.ns := congrArg (·.out / unitNs) htim
      have hreq : r.tim.twinReq = s.dev.tim.twinReq := (congrArg (·.twinReq) htim).trans (Dev.tick_tim_twinReq _ _)
      have hends := twinTimeExchange_ends s n hx (Dev.twinExchange_frame (d := e) hnot hrx hb)
        ((r.twinTake_lockedOnce p).trans ((congrArg (·.lockedOnce) htim).trans hlock'))
      rw [Dev.twinTake, hns, hreq] at hends
      refine ⟨fun h0 => ?_, fun h0 hmine => ?_, fun h0 hother => ?_⟩
      · rwa [if_pos h0] at hends
      · rwa [if_neg h0, if_pos hmine] at hends
      · rwa [if_neg h0, if_neg hother] at hends

end Sys2Proof.Machine

/-! The inputs that discipline a domain by edges and frames: PPS (R91 to R93) and IRIG-B (R94 to R97). -/

namespace Sys2Proof.Machine

/-- Of two steps, each on a domain of its own, one alone changes domain `j`: it does to it what it does to a machine with that domain as it was. -/
theorem foldUp_domains (d : Dev) {f : Nat → Dev → Dev} {j : Nat} (hj : j < 2) (hrd : ∀ i e a, a ≠ Reg.TIM_INT_STATUS → (f i e).rd a = e.rd a)
    (hne : ∀ i < 2, ∀ e, j ≠ i → (f i e).domParts j = e.domParts j) :
    ∃ e, e.domParts j = d.domParts j ∧ (∀ a, a ≠ Reg.TIM_INT_STATUS → e.rd a = d.rd a) ∧ (foldUp 2 f d).domParts j = (f j e).domParts j := by
  obtain rfl | rfl : j = 0 ∨ j = 1 := by omega
  · exact ⟨d, rfl, fun _ _ => rfl, hne 1 (by decide) (f 0 d) (by decide)⟩
  · exact ⟨f 0 d, hne 0 (by decide) d (by decide), hrd 0 d, rfl⟩

section
variable (d : Dev)

theorem Dev.domSrc_ne (k : Nat) : Reg.TIM_DOM_CFG k ≠ Reg.TIM_INT_STATUS := by unfold Reg.TIM_DOM_CFG Reg.TIM_INT_STATUS; omega

variable {d} in
/-- The source of a domain is told by its register. -/
theorem Dev.domSrc_congr {e : Dev} {k : Nat} (h : e.rd (Reg.TIM_DOM_CFG k) = d.rd (Reg.TIM_DOM_CFG k)) :
    e.domSrc k = d.domSrc k ∧ e.domPort k = d.domPort k := by
  simp only [Dev.domSrc, Dev.domPort, Dev.fld, h, and_self]

/-! An input of PPS and its arming (R92). -/

theorem Dev.pps_modPps_same (k : Nat) (f : Pps → Pps) : (d.modPps k f).pps k = f (d.pps k) := by
  unfold Dev.modPps Dev.pps
  split <;> rfl

theorem Dev.pps_modPps_ne (f : Pps → Pps) {k : Nat} (hk : k < 2) : (d.modPps k f).pps (1 - k) = d.pps (1 - k) := by
  obtain rfl | rfl : k = 0 ∨ k = 1 := by omega
  · rfl
  · rfl

theorem Dev.rd_modPps (k : Nat) (f : Pps → Pps) (a : Nat) : (d.modPps k f).rd a = d.rd a := by
  unfold Dev.modPps
  split <;> rfl

/-- A change of an input leaves the domains, the output time and the local path. -/
theorem Dev.modPps_eq (k : Nat) (f : Pps → Pps) : ∃ p q, d.modPps k f = { d with tim := { d.tim with pps0 := p, pps1 := q } } := by
  unfold Dev.modPps
  split
  · exact ⟨_, d.tim.pps1, rfl⟩
  · exact ⟨d.tim.pps0, _, rfl⟩

theorem Dev.regAct_ppsTodArm (i : Iface) {k : Nat} (hk : k < 2) (v : Word) :
    d.regAct i (Reg.TIM_PPS_TOD_ARM k) v = if bit v 0 then d.ppsArm k else d := by
  obtain rfl | rfl : k = 0 ∨ k = 1 := by omega
  · rw [regAct_eq]
    rfl
  · rw [regAct_eq]
    rfl

theorem Dev.ppsArm_resetCtr (k : Nat) : (d.ppsArm k).resetCtr = d.resetCtr := by
  unfold Dev.ppsArm
  obtain ⟨_, _, h⟩ := (d.wrN (Reg.TIM_PPS_TOD_ARM k) 1).modPps_eq k (fun p => { p with armedAt := some d.tim.clk })
  rw [h]
  rfl

end

/-- A granted write to a register whose bit 0 alone is written and acts (R18). -/
theorem hostRow_trigger {s : State} {n : Nat} {i : Iface} {a : Nat} {v : Word} {r : RegRow} {e : Dev} (h : s.canWrite i a) (hr : regAt a = some r)
    (hacc : r.acc = .rw ∨ r.acc = .wo ∨ r.acc = .w1s) (hrow : r.wmask = 1 ∧ r.act = 1 ∧ r.ranges = [])
    (ha : a ≠ Reg.GLB_CTL ∧ a ≠ Reg.GLB_RESET_CTL ∧ (∀ p < 2, a ≠ Reg.REC_RP_QUOTA p) ∧ ∀ p < 8, a ≠ Reg.TST_PORT_GEN p)
    (hact : ∀ w, (s.dev.tick n).regAct i a w = if bit w 0 then e else s.dev.tick n) (hc : e.resetCtr = s.dev.resetCtr) :
    Ends (hostRow s n true i a v) { s with dev := if bit v 0 then e else s.dev.tick n } := by
  obtain ⟨hmask, hbits, hranges⟩ := hrow
  have hm (old : Word) : r.merge old v = ((old &&& ~~~ w32 1) ||| (v &&& w32 1), false) := by simp [RegRow.merge, hmask, hbits, hranges]
  refine hostRow_act h hr hacc (hm _) ha ?_ ?_
  · rw [hact, bit_held _ _ _ (by decide)]
    rfl
  · split
    · exact hc
    · rfl

theorem ppsTodArm_ends {s : State} {k : Nat} {i : Iface} (n : Nat) (v : Word) (hk : k < 2) (h : s.canWrite i (Reg.TIM_PPS_TOD_ARM k)) :
    Ends (exec (.ppsTodArm n i k v) s) { s with dev := if bit v 0 then (s.dev.tick n).ppsArm k else s.dev.tick n } := by
  have hr : regAt (Reg.TIM_PPS_TOD_ARM k) = some ⟨0x2060C, [(0x20, 2)], .w1s, 0x0, 0x1, 0x1, []⟩ := by
    obtain rfl | rfl : k = 0 ∨ k = 1 := by omega
    · decide +kernel
    · decide +kernel
  have hne : Reg.TIM_PPS_TOD_ARM k ≠ Reg.GLB_CTL ∧ Reg.TIM_PPS_TOD_ARM k ≠ Reg.GLB_RESET_CTL ∧
      (∀ p < 2, Reg.TIM_PPS_TOD_ARM k ≠ Reg.REC_RP_QUOTA p) ∧ ∀ p < 8, Reg.TIM_PPS_TOD_ARM k ≠ Reg.TST_PORT_GEN p := by
    obtain rfl | rfl : k = 0 ∨ k = 1 := by omega
    · decide
    · decide
  rw [exec_ppsTodArm, decide_eq_true hk]
  exact hostRow_trigger h hr (.inr (.inr rfl)) ⟨rfl, rfl, rfl⟩ hne (fun w => Dev.regAct_ppsTodArm _ i hk w) (Dev.ppsArm_resetCtr _ k)

/-! An edge of a PPS input (R91 to R93). -/

section
variable (d : Dev) (n : Nat)

/-- An input is armed for an edge at a clock: the write is at least 10 µs old. -/
def Pps.armed (p : Pps) (clk : Nat) : Bool :=
  match p.armedAt with
  | some a => decide (ticksUs 10 ≤ clk - a)
  | none => false

/-- The second that an edge marks. -/
def Dev.ppsMark : Option Nat :=
  if (d.pps n).armed d.tim.clk then some (d.rdN (Reg.TIM_PPS_TOD_LO n) + 2 ^ 32 * d.fld (Reg.TIM_PPS_TOD_HI n) 15 0) else (d.pps n).last.map (· + 1)

/-- The machine after the arming that the edge uses up. -/
def Dev.ppsDisarm : Dev :=
  if (d.pps n).armed d.tim.clk then (d.wrN (Reg.TIM_PPS_TOD_ARM n) 0).modPps n (fun p => { p with armedAt := none }) else d

/-- The machine that has noted the edge and the second that it marks. -/
def Dev.ppsNote (mark : Option Nat) : Dev := d.modPps n (fun p => { p with last := mark, edge := some d.tim.clk })

/-- The cable delay of an input. -/
def Dev.ppsDly : Nat := d.fld (Reg.TIM_PPS_CFG n) 31 16

/-- The time of arrival less a cable delay (R93). -/
def Dev.ppsLastNs (dly : Nat) : Nat := (d.ns + 1000000000 - dly % 1000000000) % 1000000000

/-- The machine that has stamped the edge, before its domains are served. -/
def Dev.ppsStamped : Dev :=
  ((d.ppsDisarm n).ppsNote n (d.ppsMark n)).wrN (Reg.TIM_PPS_LAST_NS n) (((d.ppsDisarm n).ppsNote n (d.ppsMark n)).ppsLastNs (d.ppsDly n))

/-- Domain `k` served by an edge of the input: with a marked second its time, else the ticks since the edge before. -/
def Dev.ppsServe (d : Dev) (n dly : Nat) (mark gap : Option Nat) (k : Nat) : Dev :=
  if d.domSrc k = 2 && d.domPort k = n then
    let d := d.modDom k (fun m => { m with stated := 10 * unitNs, trace := false, leap := none, utc := none })
    match mark, gap with
    | some s, _ => d.domUpdate k (s * unitSec + dly * unitNs) 0
    | none, some g => d.domFreq k g
    | none, none => d
  else d

theorem Dev.ppsEdge_off (h : d.flag (Reg.TIM_PPS_CFG n) 0 = false) : d.ppsEdge n = d := by
  rw [Dev.ppsEdge, h]
  rfl

theorem Dev.ppsEdge_on (h : d.flag (Reg.TIM_PPS_CFG n) 0 = true) : ∃ gap, d.ppsEdge n =
    foldUp 2 (fun k e => e.ppsServe n (d.ppsDly n) (d.ppsMark n) gap k) (d.ppsStamped n) := by
  refine ⟨(d.pps n).edge.map (fun c => (d.ppsDisarm n).tim.clk - c), ?_⟩
  rw [Dev.ppsEdge, if_pos h]
  rfl

end

section
variable (d : Dev) {n dly k : Nat} {mark gap : Option Nat}

theorem Dev.ppsServe_other (h : d.domSrc k ≠ 2 ∨ d.domPort k ≠ n) : d.ppsServe n dly mark gap k = d := by
  refine if_neg ?_
  simpa [imp_iff_not_or] using h

/-- What the parts of a service keep, the service keeps. -/
theorem Dev.ppsServe_keeps {β : Type} {g : Dev → β} (hsend : ∀ e x i, g (e.sendUpdate k x i) = g e) (hmod : ∀ e f, g (e.modDom k f) = g e)
    (hupd : ∀ e v ago, g (e.domUpdate k v ago) = g e) : g (d.ppsServe n dly mark gap k) = g d := by
  unfold Dev.ppsServe
  split
  · dsimp only
    split
    · rw [hupd, hmod]
    · rw [Dev.domFreq, hmod, hsend, hmod]
    · rw [hmod]
  · rfl

theorem Dev.ppsServe_besideServo : (d.ppsServe n dly mark gap k).besideServo = d.besideServo :=
  d.ppsServe_keeps (fun e => e.sendUpdate_besideServo k) (fun e => e.modDom_besideServo k) (fun e => e.domUpdate_besideServo k)

theorem Dev.ppsServe_rd {a : Nat} (h : a ≠ Reg.TIM_INT_STATUS) : (d.ppsServe n dly mark gap k).rd a = d.rd a :=
  d.ppsServe_keeps (g := (Dev.rd · a)) (fun _ _ _ => rfl) (fun e f => e.rd_modDom k f a) (fun e v ago => e.domUpdate_rd_ne k v ago h)

theorem Dev.ppsServe_domParts_ne {j : Nat} (hj : j < 2) (hk : k < 2) (h : j ≠ k) : (d.ppsServe n dly mark gap k).domParts j = d.domParts j :=
  d.ppsServe_keeps (g := (Dev.domParts · j)) (fun e x i => e.domParts_sendUpdate_ne x i h) (fun e f => e.domParts_modDom_ne f hj hk h)
    (fun e v ago => e.domUpdate_domParts_ne v ago hj hk h)

/-- A FREE domain that uses the input steps to the marked second and the delay. -/
theorem Dev.ppsServe_free {m : Nat} (hsrc : d.domSrc k = 2) (hport : d.domPort k = n) (hfree : (d.dom k).st = .free) :
    ((d.ppsServe n dly (some m) gap k).dom k).st = .acquire ∧ (d.ppsServe n dly (some m) gap k).domAhead k = (m * unitSec + dly * unitNs : Nat) := by
  have huse : (d.domSrc k = 2 && d.domPort k = n) = true := by simp [hsrc, hport]
  rw [Dev.ppsServe, if_pos huse]
  have hfree' : ((d.modDom k (fun m => { m with stated := 10 * unitNs, trace := false, leap := none, utc := none })).dom k).st = .free := by
    rwa [Dev.dom_modDom_same]
  obtain ⟨hst, hahead, -⟩ := Dev.domUpdate_free (v := m * unitSec + dly * unitNs) (ago := 0) hfree'
  exact ⟨hst, by rw [hahead, zero_mul, add_zero]⟩

end

section
variable (d : Dev) (n : Nat)

/-- The machine but for its registers with the marks of the tick, and the inputs of PPS. -/
def Dev.besidePps : Dev := { d with regs := [], hw := ⟨0, []⟩, tim := { d.tim with pps0 := ⟨none, none, none⟩, pps1 := ⟨none, none, none⟩ } }

theorem Dev.modPps_besidePps (f : Pps → Pps) : (d.modPps n f).besidePps = d.besidePps := by
  obtain ⟨_, _, h⟩ := d.modPps_eq n f
  rw [h]
  rfl

theorem Dev.wrN_besidePps (a v : Nat) : (d.wrN a v).besidePps = d.besidePps := rfl

theorem Dev.ppsDisarm_besidePps : (d.ppsDisarm n).besidePps = d.besidePps := by
  unfold Dev.ppsDisarm
  split
  · rw [Dev.modPps_besidePps, Dev.wrN_besidePps]
  · rfl

theorem Dev.ppsNote_besidePps (mark : Option Nat) : (d.ppsNote n mark).besidePps = d.besidePps := d.modPps_besidePps n _

variable {d} in
theorem Dev.besidePps_eq {e : Dev} (h : e.besidePps = d.besidePps) :
    e.tim.clk = d.tim.clk ∧ e.tim.out = d.tim.out ∧ e.tim.lockedOnce = d.tim.lockedOnce ∧ e.loc = d.loc ∧ e.tst = d.tst :=
  ⟨congrArg (·.tim.clk) h, congrArg (·.tim.out) h, congrArg (·.tim.lockedOnce) h, congrArg (·.loc) h, congrArg (·.tst) h⟩

variable {d} in
theorem Dev.besidePps_doms {e : Dev} (h : e.besidePps = d.besidePps) :
    e.tim.domA = d.tim.domA ∧ e.tim.domB = d.tim.domB ∧ ∀ j, e.domParts j = d.domParts j := by
  have hA : e.tim.domA = d.tim.domA := congrArg (·.tim.domA) h
  have hB : e.tim.domB = d.tim.domB := congrArg (·.tim.domB) h
  have hsrv : e.tim.srv = d.tim.srv := congrArg (·.tim.srv) h
  exact ⟨hA, hB, fun j => by simp only [Dev.domParts, Dev.dom, Dev.waiting, hA, hB, hsrv]⟩

variable {d} in
theorem Dev.besideServo_pps {e : Dev} (h : e.besideServo = d.besideServo) : (∀ j, e.pps j = d.pps j) ∧ e.tst = d.tst := by
  have h0 : e.tim.pps0 = d.tim.pps0 := congrArg (·.tim.pps0) h
  have h1 : e.tim.pps1 = d.tim.pps1 := congrArg (·.tim.pps1) h
  exact ⟨fun j => by simp only [Dev.pps, h0, h1], congrArg (·.tst) h⟩

@[simp] theorem Dev.wrN_pps (a v j : Nat) : (d.wrN a v).pps j = d.pps j := rfl

theorem Dev.ppsStamped_besidePps : (d.ppsStamped n).besidePps = d.besidePps := by
  rw [Dev.ppsStamped, Dev.wrN_besidePps, Dev.ppsNote_besidePps, Dev.ppsDisarm_besidePps]

theorem Dev.ppsDisarm_pps : (d.ppsDisarm n).pps n = { d.pps n with armedAt := if (d.pps n).armed d.tim.clk then none else (d.pps n).armedAt } := by
  unfold Dev.ppsDisarm
  split
  · exact Dev.pps_modPps_same _ _ _
  · rfl

theorem Dev.ppsStamped_pps : (d.ppsStamped n).pps n =
    ⟨if (d.pps n).armed d.tim.clk then none else (d.pps n).armedAt, d.ppsMark n, some d.tim.clk⟩ := by
  rw [Dev.ppsStamped, Dev.wrN_pps, Dev.ppsNote, Dev.pps_modPps_same, Dev.ppsDisarm_pps, (Dev.besidePps_eq (d.ppsDisarm_besidePps n)).1]

variable {n} in
theorem Dev.ppsStamped_pps_other (hn : n < 2) : (d.ppsStamped n).pps (1 - n) = d.pps (1 - n) := by
  rw [Dev.ppsStamped, Dev.wrN_pps, Dev.ppsNote, Dev.pps_modPps_ne _ _ hn]
  unfold Dev.ppsDisarm
  split
  · exact Dev.pps_modPps_ne _ _ hn
  · rfl

theorem Dev.ppsStamped_rd {a : Nat} (hlast : a ≠ Reg.TIM_PPS_LAST_NS n) : (d.ppsStamped n).rd a = (d.ppsDisarm n).rd a := by
  rw [Dev.ppsStamped, Dev.wrN, Dev.rd_wr_ne _ hlast, Dev.ppsNote, Dev.rd_modPps]

theorem Dev.ppsDisarm_rd_ne {a : Nat} (harm : a ≠ Reg.TIM_PPS_TOD_ARM n) : (d.ppsDisarm n).rd a = d.rd a := by
  unfold Dev.ppsDisarm
  split
  · rw [Dev.rd_modPps, Dev.wrN, Dev.rd_wr_ne _ harm]
  · rfl

theorem Dev.ppsStamped_domCfg (j : Nat) : (d.ppsStamped n).rd (Reg.TIM_DOM_CFG j) = d.rd (Reg.TIM_DOM_CFG j) := by
  have h : ∀ j, Reg.TIM_DOM_CFG j ≠ Reg.TIM_PPS_LAST_NS n ∧ Reg.TIM_DOM_CFG j ≠ Reg.TIM_PPS_TOD_ARM n := by
    unfold Reg.TIM_DOM_CFG Reg.TIM_PPS_LAST_NS Reg.TIM_PPS_TOD_ARM
    omega
  rw [Dev.ppsStamped_rd _ _ (h j).1, Dev.ppsDisarm_rd_ne _ _ (h j).2]

/-- An edge that finds its input armed shows it disarmed. -/
theorem Dev.ppsStamped_todArm (h : (d.pps n).armed d.tim.clk = true) : (d.ppsStamped n).rdN (Reg.TIM_PPS_TOD_ARM n) = 0 := by
  have hne : Reg.TIM_PPS_TOD_ARM n ≠ Reg.TIM_PPS_LAST_NS n := by unfold Reg.TIM_PPS_TOD_ARM Reg.TIM_PPS_LAST_NS; omega
  rw [Dev.rdN, Dev.ppsStamped_rd _ _ hne, Dev.ppsDisarm, if_pos h, Dev.rd_modPps, Dev.wrN, Dev.rd_wr_same]
  rfl

theorem Dev.ppsStamped_lastNs : (d.ppsStamped n).rdN (Reg.TIM_PPS_LAST_NS n) = d.ppsLastNs (d.ppsDly n) := by
  have hout := (Dev.besidePps_eq (((d.ppsDisarm n).ppsNote_besidePps n (d.ppsMark n)).trans (d.ppsDisarm_besidePps n))).2.1
  have hlt : d.ppsLastNs (d.ppsDly n) < 2 ^ 32 := by
    unfold Dev.ppsLastNs
    omega
  rw [Dev.ppsStamped, Dev.rdN, Dev.wrN, Dev.rd_wr_same, w32_toNat, Dev.ppsLastNs, Dev.ns, hout]
  exact Nat.mod_eq_of_lt hlt

end

/-! What an edge of an enabled input leaves of the machine that has stamped it. -/

section
variable {d : Dev} {n : Nat} (h : d.flag (Reg.TIM_PPS_CFG n) 0 = true)
include h

theorem Dev.ppsEdge_besideServo : (d.ppsEdge n).besideServo = (d.ppsStamped n).besideServo := by
  obtain ⟨gap, hgap⟩ := d.ppsEdge_on n h
  rw [hgap]
  exact foldUp_keeps Dev.besideServo 2 _ (fun k e => e.ppsServe_besideServo) _

theorem Dev.ppsEdge_rd {a : Nat} (ha : a ≠ Reg.TIM_INT_STATUS) : (d.ppsEdge n).rd a = (d.ppsStamped n).rd a := by
  obtain ⟨gap, hgap⟩ := d.ppsEdge_on n h
  rw [hgap]
  exact foldUp_keeps (Dev.rd · a) 2 _ (fun k e => e.ppsServe_rd ha) _

/-- No domain uses the input. -/
theorem Dev.ppsEdge_unused (hnone : ∀ j < 2, d.domSrc j ≠ 2 ∨ d.domPort j ≠ n) : d.ppsEdge n = d.ppsStamped n := by
  obtain ⟨gap, hgap⟩ := d.ppsEdge_on n h
  have hserve {j : Nat} (hj : j < 2) : (d.ppsStamped n).ppsServe n (d.ppsDly n) (d.ppsMark n) gap j = d.ppsStamped n := by
    refine Dev.ppsServe_other _ ?_
    obtain ⟨hsrc, hport⟩ := Dev.domSrc_congr (d.ppsStamped_domCfg n j)
    rw [hsrc, hport]
    exact hnone j hj
  rw [hgap, foldUp, foldUp, foldUp, hserve (by decide), hserve (by decide)]

/-- A FREE domain that uses the input. -/
theorem Dev.ppsEdge_free {j m : Nat} (hj : j < 2) (hmark : d.ppsMark n = some m) (hsrc : d.domSrc j = 2) (hport : d.domPort j = n)
    (hfree : (d.dom j).st = .free) :
    ((d.ppsEdge n).dom j).st = .acquire ∧ (d.ppsEdge n).domAhead j = (m * unitSec + d.ppsDly n * unitNs : Nat) := by
  obtain ⟨gap, hgap⟩ := d.ppsEdge_on n h
  obtain ⟨e, hparts, hrd, hfold⟩ := foldUp_domains (d.ppsStamped n) (f := fun k e => e.ppsServe n (d.ppsDly n) (d.ppsMark n) gap k) hj
    (fun i e a ha => e.ppsServe_rd ha) (fun i hi e hne => e.ppsServe_domParts_ne hj hi hne)
  have hstamp : (d.ppsStamped n).domParts j = d.domParts j := (Dev.besidePps_doms (d.ppsStamped_besidePps n)).2.2 j
  obtain ⟨hdom, -, -⟩ := Dev.domParts_eq (hparts.trans hstamp)
  obtain ⟨hsrc', hport'⟩ := Dev.domSrc_congr ((hrd _ (Dev.domSrc_ne j)).trans (d.ppsStamped_domCfg n j))
  obtain ⟨hst, hahead⟩ := e.ppsServe_free (dly := d.ppsDly n) (gap := gap) (m := m) (hsrc'.trans hsrc) (hport'.trans hport) (by rwa [hdom])
  rw [hmark] at hfold hgap
  obtain ⟨hdom', hahead', -⟩ := Dev.domParts_eq hfold
  rw [hgap, ← hahead]
  exact ⟨by rw [← hst]; exact congrArg (·.st) hdom', hahead'⟩

end

/-- The edge of an input without a loop-back, after the first lock. -/
theorem ppsEdge_ends (s : State) (n : Nat) {k : Nat} (hk : k < 2) (hlock : s.dev.tim.lockedOnce = true) (hloop : (s.dev.loop 4 k).mode = 0) :
    Ends (exec (.ppsEdge n k) s) { s with dev := (s.dev.tick n).ppsEdge k } := by
  have hkeep : ((s.dev.tick n).ppsEdge k).tst = (s.dev.tick n).tst ∧ ((s.dev.tick n).ppsEdge k).tim.lockedOnce = (s.dev.tick n).tim.lockedOnce := by
    cases h : (s.dev.tick n).flag (Reg.TIM_PPS_CFG k) 0 with
    | false => rw [Dev.ppsEdge_off _ _ h]; exact ⟨rfl, rfl⟩
    | true =>
      obtain ⟨-, -, hlocked, -⟩ := Dev.besideServo_eq (Dev.ppsEdge_besideServo h)
      obtain ⟨-, htst⟩ := Dev.besideServo_pps (Dev.ppsEdge_besideServo h)
      obtain ⟨-, -, hlocked', -, htst'⟩ := Dev.besidePps_eq ((s.dev.tick n).ppsStamped_besidePps k)
      exact ⟨htst.trans htst', hlocked.trans hlocked'⟩
  obtain ⟨htst, hlocked⟩ := hkeep
  have hloop' : ((s.dev.tick n).ppsEdge k).ppsLoopEdge k = (s.dev.tick n).ppsEdge k := by
    refine if_pos ?_
    rw [Dev.loop, htst]
    exact hloop
  have hends := devRow_ends s n (fun d => ((d.ppsEdge k).ppsLoopEdge k).lockCheck)
  rw [exec_ppsEdge, decide_eq_true hk]
  rwa [hloop', Dev.lockCheck_locked (hlocked.trans ((Dev.tick_tim_lockedOnce _ _).trans hlock))] at hends

/-- Settles O28: the edge stamps its input (`Dev.ppsStamped_pps`), and then serves each domain apart (`Dev.ppsEdge_free`, `Dev.ppsEdge_unused`). -/
theorem ppsInputs : Obligations.PpsInputs := by
  unfold Obligations.PpsInputs
  refine ⟨?arm, ?edge⟩
  case arm =>
    intro s n k i v hk hcan
    have h := ppsTodArm_ends n v hk hcan
    refine ⟨fun hbit => ?_, fun hbit => ?_⟩
    · rw [if_pos hbit, Dev.ppsArm, Dev.tick_clk] at h
      exact h
    · rwa [if_neg (by simp [hbit])] at h
  case edge =>
    intro s n k hk hlock hloop e armed tod mark
    have hclk : e.tim.clk = max s.dev.tim.clk n := Dev.tick_clk _ _
    have hpps (j : Nat) : e.pps j = s.dev.pps j := by simp only [Dev.pps, e, Dev.tick_tim_pps0, Dev.tick_tim_pps1]
    have harmed : (e.pps k).armed e.tim.clk = armed := by
      rw [hpps, hclk]
      rfl
    have hmark : e.ppsMark k = mark := by
      rw [Dev.ppsMark, harmed, hpps]
      rfl
    have hends := ppsEdge_ends s n hk hlock hloop
    refine ⟨fun hoff => ?_, fun hon => ?_⟩
    · rwa [(s.dev.tick n).ppsEdge_off k hoff] at hends
    · obtain ⟨hout, -, -, -, hloc⟩ := Dev.besideServo_eq (Dev.ppsEdge_besideServo (d := e) hon)
      obtain ⟨hserve, -⟩ := Dev.besideServo_pps (Dev.ppsEdge_besideServo (d := e) hon)
      obtain ⟨-, hout', -, hloc', -⟩ := Dev.besidePps_eq (e.ppsStamped_besidePps k)
      have hin : (e.ppsEdge k).pps k = ⟨if armed then none else (s.dev.pps k).armedAt, mark, some (max s.dev.tim.clk n)⟩ := by
        rw [hserve, Dev.ppsStamped_pps, harmed, hmark, hclk, hpps]
      have hrd {a : Nat} (ha : a ≠ Reg.TIM_INT_STATUS) : (e.ppsEdge k).rdN a = (e.ppsStamped k).rdN a :=
        congrArg BitVec.toNat (Dev.ppsEdge_rd (d := e) hon ha)
      have hint : Reg.TIM_PPS_TOD_ARM k ≠ Reg.TIM_INT_STATUS ∧ Reg.TIM_PPS_LAST_NS k ≠ Reg.TIM_INT_STATUS := by
        unfold Reg.TIM_PPS_TOD_ARM Reg.TIM_PPS_LAST_NS Reg.TIM_INT_STATUS
        omega
      refine hends.with fun _ _ _ _ _ => ⟨congrArg Pps.last hin, congrArg Pps.edge hin, ?_, fun ha => ⟨?_, ?_⟩, fun ha => ?_, ?_, ?_, ?_, rfl, ?_, ?_⟩
      · exact (hserve _).trans ((e.ppsStamped_pps_other hk).trans (hpps _))
      · exact (congrArg Pps.armedAt hin).trans (if_pos ha)
      · exact (hrd hint.1).trans (e.ppsStamped_todArm k (harmed.trans ha))
      · exact (congrArg Pps.armedAt hin).trans (if_neg (by simp [ha]))
      · exact (hrd hint.2).trans (e.ppsStamped_lastNs k)
      · exact hout.trans hout'
      · exact hloc.trans hloc'
      · intro hnone
        obtain ⟨hA, hB, -⟩ := Dev.besidePps_doms (e.ppsStamped_besidePps k)
        rw [← Dev.ppsEdge_unused (d := e) hon hnone] at hA hB
        exact ⟨hA, hB⟩
      · intro j hj m hm hsrc hport hfree
        exact Dev.ppsEdge_free (d := e) hon hj (hmark.trans hm) hsrc hport ((Dev.tick_dom_st _ _ _).1.trans hfree)

end Sys2Proof.Machine

/-! Frames of the IRIG-B input (R94 to R97). -/

namespace Sys2Proof.Machine

/-- What a count shows depends on what it showed. -/
theorem Dev.rd_inc_congr {d e : Dev} {a : Nat} (h : e.rd a = d.rd a) (n : Nat) : (e.inc a n).rd a = (d.inc a n).rd a := by
  have hrd (d : Dev) : (d.inc a n).rd a = if d.rdN a + n < 2 ^ 32 then w32 (d.rdN a + n) else Config.countPast a := by
    unfold Dev.inc
    dsimp only
    split
    · exact Dev.rd_wr_same _ _ _
    · exact Dev.rd_wr_same _ _ _
  rw [hrd, hrd, Dev.rdN, Dev.rdN, h]

/-! A frame that is not used: counted, and missed by the domains of the input. -/

section
variable (d : Dev)

/-- A domain counts one more input missed. -/
def Dev.missOne (k : Nat) : Dev := d.modDom k (fun m => { m with missed := m.missed + 1 })

/-- A frame missed by domain `k`, where the input is its source. -/
def Dev.irigCount (k : Nat) : Dev := if d.domSrc k = 3 then d.missOne k else d

/-- The third in a row is a loss. -/
def Dev.irigMiss (k : Nat) : Dev := if d.domSrc k = 3 then (if 3 ≤ ((d.missOne k).dom k).missed then (d.missOne k).domLost k else d.missOne k) else d

def Dev.irigReject : Dev := foldUp 2 (fun k e => e.irigMiss k) (d.inc Reg.TIM_IRIG_ERR_CNT 1)

theorem Dev.irigCount_rd (k a : Nat) : (d.irigCount k).rd a = d.rd a := by
  unfold Dev.irigCount
  split
  · exact d.rd_modDom k _ a
  · rfl

theorem Dev.irigCount_same (k : Nat) : (d.irigCount k).dom k = if d.domSrc k = 3 then { d.dom k with missed := (d.dom k).missed + 1 } else d.dom k := by
  unfold Dev.irigCount
  split
  · exact d.dom_modDom_same k _
  · rfl

theorem Dev.irigCount_ne {j k : Nat} (hj : j < 2) (hk : k < 2) (h : j ≠ k) : (d.irigCount k).dom j = d.dom j := by
  unfold Dev.irigCount
  split
  · exact d.dom_modDom_ne _ hj hk h
  · rfl

theorem Dev.irigMiss_besideServo (k : Nat) : (d.irigMiss k).besideServo = d.besideServo := by
  unfold Dev.irigMiss
  split
  · split
    · rw [Dev.domLost_besideServo, Dev.missOne, Dev.modDom_besideServo]
    · exact d.modDom_besideServo k _
  · rfl

theorem Dev.irigReject_besideServo : d.irigReject.besideServo = d.besideServo :=
  (foldUp_keeps Dev.besideServo 2 _ (fun k e => e.irigMiss_besideServo k) _).trans (d.inc_besideServo _ 1)

variable {d}

/-- Before the third in a row a frame missed is counted alone. -/
theorem Dev.irigMiss_few {k : Nat} (h : d.domSrc k ≠ 3 ∨ (d.dom k).missed < 2) : d.irigMiss k = d.irigCount k := by
  unfold Dev.irigMiss Dev.irigCount
  split
  case isTrue hsrc =>
    refine if_neg ?_
    have := h.resolve_left (not_not.mpr hsrc)
    rw [Dev.missOne, Dev.dom_modDom_same]
    dsimp only
    omega
  case isFalse => rfl

theorem Dev.irigReject_few (h : ∀ k < 2, d.domSrc k ≠ 3 ∨ (d.dom k).missed < 2) :
    d.irigReject = ((d.inc Reg.TIM_IRIG_ERR_CNT 1).irigCount 0).irigCount 1 := by
  have hcfg (k : Nat) : (d.inc Reg.TIM_IRIG_ERR_CNT 1).domSrc k = d.domSrc k :=
    (Dev.domSrc_congr (Dev.rd_inc_ne _ _ (by unfold Reg.TIM_DOM_CFG Reg.TIM_IRIG_ERR_CNT; omega))).1
  have h0 : (d.inc Reg.TIM_IRIG_ERR_CNT 1).irigMiss 0 = (d.inc Reg.TIM_IRIG_ERR_CNT 1).irigCount 0 :=
    Dev.irigMiss_few (by rw [hcfg, Dev.inc_dom]; exact h 0 (by decide))
  have h1 : ((d.inc Reg.TIM_IRIG_ERR_CNT 1).irigCount 0).irigMiss 1 = ((d.inc Reg.TIM_IRIG_ERR_CNT 1).irigCount 0).irigCount 1 := by
    refine Dev.irigMiss_few ?_
    rw [(Dev.domSrc_congr (Dev.irigCount_rd _ 0 _)).1, hcfg, Dev.irigCount_ne _ (by decide) (by decide) (by decide), Dev.inc_dom]
    exact h 1 (by decide)
  rw [Dev.irigReject, foldUp, foldUp, foldUp, h0, h1]

/-- What such a frame leaves: its count, and the domains of the input. -/
theorem Dev.irigReject_leaves (h : ∀ k < 2, d.domSrc k ≠ 3 ∨ (d.dom k).missed < 2) :
    (∀ a, d.irigReject.rd a = (d.inc Reg.TIM_IRIG_ERR_CNT 1).rd a) ∧
    ∀ k < 2, d.irigReject.dom k = if d.domSrc k = 3 then { d.dom k with missed := (d.dom k).missed + 1 } else d.dom k := by
  have hcfg (k : Nat) : (d.inc Reg.TIM_IRIG_ERR_CNT 1).domSrc k = d.domSrc k :=
    (Dev.domSrc_congr (Dev.rd_inc_ne _ _ (by unfold Reg.TIM_DOM_CFG Reg.TIM_IRIG_ERR_CNT; omega))).1
  rw [Dev.irigReject_few h]
  refine ⟨fun a => by rw [Dev.irigCount_rd, Dev.irigCount_rd], fun k hk => ?_⟩
  obtain rfl | rfl : k = 0 ∨ k = 1 := by omega
  · rw [Dev.irigCount_ne _ (by decide) (by decide) (by decide), Dev.irigCount_same, hcfg, Dev.inc_dom]
  · rw [Dev.irigCount_same, (Dev.domSrc_congr (Dev.irigCount_rd _ 0 _)).1, hcfg, Dev.irigCount_ne _ (by decide) (by decide) (by decide), Dev.inc_dom]

end

/-! A frame that is used: the domains of the input take its time. -/

section
variable (d : Dev) (f : IrigFrame)

/-- What the frame tells of its source: the accuracy in ns, whether it is traceable, and the leap second that pends. -/
def Dev.irigTells (m : Domain) : Domain :=
  let code := d.fld Reg.TIM_IRIG_CFG 1 0
  let q := if code = 1 then f.quality else 0
  let stated := if code = 1 && 1 ≤ q && q ≤ 0xB then max 1000 (10 ^ (q - 1)) else if code = 1 && 0xB < q then 10 ^ 10 + 1 + Config.accPast else 1000
  { m with stated := stated * unitNs, trace := code = 1 && q = 0, leap := if code = 1 then some f.leap else none, utc := none }

/-- Domain `k` served by a frame with a TAI second, whose on-time point was some ticks ago. -/
def Dev.irigServe (upd : Domain → Domain) (v ago k : Nat) : Dev := if d.domSrc k = 3 then (d.modDom k upd).domUpdate k v ago else d

/-- The machine that has noted the TAI second of a frame. -/
def Dev.irigNote (tai : Nat) : Dev := { d with tim := { d.tim with irig := some tai } }

variable {d f}

/-- Away from a leap second that has come, TAI is UTC and TIM_LEAP_OFS. -/
theorem Dev.irigTai_plain {y : Nat} (h : d.ing.leapAt = none) : d.irigTai f y =
    ((((daysTo y + f.day - 1) * 86400 + f.hour * 3600 + f.minute * 60 + f.second : Nat) : Int) -
      (if d.fld Reg.TIM_IRIG_CFG 1 0 = 1 then f.localOfs else 0) + sx 16 (d.rdN Reg.TIM_LEAP_OFS)).toNat := by
  simp only [Dev.irigTai, h, Dev.leapOfs]

theorem Dev.irigFrame_parity (hcode : d.fld Reg.TIM_IRIG_CFG 1 0 = 1) (hpar : f.parityOk = false) : d.irigFrame f = d.irigReject := by
  simp only [Dev.irigFrame, hcode, hpar]
  rfl

theorem Dev.irigFrame_noYear (hcode : d.fld Reg.TIM_IRIG_CFG 1 0 = 0) (hyear : d.fld Reg.TIM_IRIG_YEAR 15 0 = 0) : d.irigFrame f = d := by
  simp [Dev.irigFrame, Dev.irigYear, hcode, hyear]

theorem Dev.irigFrame_year {y : Nat} (hpar : d.fld Reg.TIM_IRIG_CFG 1 0 = 1 → f.parityOk = true) (hy : d.irigYear f = some y) : d.irigFrame f =
    if d.tim.irig.isSome && d.tim.irig ≠ some (d.irigTai f y - 1) then (d.irigNote (d.irigTai f y)).irigReject
    else foldUp 2 (fun k e => e.irigServe (d.irigTells f) (d.irigTai f y * unitSec + d.fld Reg.TIM_IRIG_CFG 31 16 * unitNs) f.ago k)
      (d.irigNote (d.irigTai f y)) := by
  have hok : ¬ ((d.fld Reg.TIM_IRIG_CFG 1 0 = 1 && !f.parityOk) = true) := by simpa using hpar
  rw [Dev.irigFrame]
  dsimp only
  rw [if_neg hok, hy]
  rfl

end

section
variable (d : Dev) {upd : Domain → Domain} {v ago k : Nat}

/-- What the parts of a service keep, the service keeps. -/
theorem Dev.irigServe_keeps {β : Type} {g : Dev → β} (hmod : ∀ e f, g (e.modDom k f) = g e) (hupd : ∀ e v ago, g (e.domUpdate k v ago) = g e) :
    g (d.irigServe upd v ago k) = g d := by
  unfold Dev.irigServe
  split
  · rw [hupd, hmod]
  · rfl

theorem Dev.irigServe_besideServo : (d.irigServe upd v ago k).besideServo = d.besideServo :=
  d.irigServe_keeps (fun e => e.modDom_besideServo k) (fun e => e.domUpdate_besideServo k)

theorem Dev.irigServe_rd {a : Nat} (h : a ≠ Reg.TIM_INT_STATUS) : (d.irigServe upd v ago k).rd a = d.rd a :=
  d.irigServe_keeps (g := (Dev.rd · a)) (fun e f => e.rd_modDom k f a) (fun e v ago => e.domUpdate_rd_ne k v ago h)

theorem Dev.irigServe_domParts_ne {j : Nat} (hj : j < 2) (hk : k < 2) (h : j ≠ k) : (d.irigServe upd v ago k).domParts j = d.domParts j :=
  d.irigServe_keeps (g := (Dev.domParts · j)) (fun e f => e.domParts_modDom_ne f hj hk h) (fun e v ago => e.domUpdate_domParts_ne v ago hj hk h)

theorem Dev.irigServe_free (hsrc : d.domSrc k = 3) (hupd : ∀ m, (upd m).st = m.st ∧ (upd m).incr = m.incr) (hfree : (d.dom k).st = .free) :
    ((d.irigServe upd v ago k).dom k).st = .acquire ∧ (d.irigServe upd v ago k).domAhead k = (v + ago * (d.dom k).incr : Nat) := by
  have hfree' : ((d.modDom k upd).dom k).st = .free := by rwa [Dev.dom_modDom_same, (hupd _).1]
  obtain ⟨hst, hahead, -⟩ := Dev.domUpdate_free (v := v) (ago := ago) hfree'
  rw [Dev.irigServe, if_pos hsrc]
  exact ⟨hst, by rw [hahead, Dev.dom_modDom_same, (hupd _).2]⟩

/-- The two domains served. -/
theorem Dev.irigServes_leaves (upd : Domain → Domain) (v ago : Nat) (hupd : ∀ m, (upd m).st = m.st ∧ (upd m).incr = m.incr) :
    let r := foldUp 2 (fun k e => e.irigServe upd v ago k) d
    r.besideServo = d.besideServo ∧ (∀ a, a ≠ Reg.TIM_INT_STATUS → r.rd a = d.rd a) ∧
    ∀ k < 2, d.domSrc k = 3 → (d.dom k).st = .free → (r.dom k).st = .acquire ∧ r.domAhead k = (v + ago * (d.dom k).incr : Nat) := by
  refine ⟨foldUp_keeps Dev.besideServo 2 _ (fun k e => e.irigServe_besideServo) d,
    fun a ha => foldUp_keeps (Dev.rd · a) 2 _ (fun k e => e.irigServe_rd ha) d, fun k hk hsrc hfree => ?_⟩
  obtain ⟨e, hparts, hrd, hfold⟩ := foldUp_domains d (f := fun k e => e.irigServe upd v ago k) hk
    (fun i e a ha => e.irigServe_rd ha) (fun i hi e hne => e.irigServe_domParts_ne hk hi hne)
  obtain ⟨hdom, -, -⟩ := Dev.domParts_eq hparts
  obtain ⟨hst, hahead⟩ := e.irigServe_free (upd := upd) (v := v) (ago := ago)
    ((Dev.domSrc_congr (hrd _ (Dev.domSrc_ne k))).1.trans hsrc) hupd (by rwa [hdom])
  obtain ⟨hdom', hahead', -⟩ := Dev.domParts_eq hfold
  rw [hdom', hahead', hst, hahead, hdom]
  exact ⟨rfl, rfl⟩

end

/-! A frame with a year: the machine notes its TAI second. -/

section
variable {d : Dev} {f : IrigFrame} {y : Nat} (hpar : d.fld Reg.TIM_IRIG_CFG 1 0 = 1 → f.parityOk = true) (hy : d.irigYear f = some y)
include hpar hy

theorem Dev.irigFrame_besideServo : (d.irigFrame f).besideServo = (d.irigNote (d.irigTai f y)).besideServo := by
  rw [Dev.irigFrame_year hpar hy]
  split
  · exact Dev.irigReject_besideServo _
  · exact (Dev.irigServes_leaves _ (d.irigTells f) _ f.ago fun _ => ⟨rfl, rfl⟩).1

/-- Its second does not follow that of the frame before, and no domain has the input as its source. -/
theorem Dev.irigFrame_unused {p : Nat} (hprev : d.tim.irig = some p) (hp : p ≠ d.irigTai f y - 1) (hnone : ∀ k < 2, d.domSrc k ≠ 3) :
    (d.irigFrame f).rd Reg.TIM_IRIG_ERR_CNT = (d.inc Reg.TIM_IRIG_ERR_CNT 1).rd Reg.TIM_IRIG_ERR_CNT ∧ ∀ k < 2, (d.irigFrame f).dom k = d.dom k := by
  obtain ⟨hreg, hdoms⟩ := Dev.irigReject_leaves (d := d.irigNote (d.irigTai f y)) fun k hk => .inl (hnone k hk)
  rw [Dev.irigFrame_year hpar hy, hprev, if_pos (by simpa using hp)]
  exact ⟨(hreg _).trans (Dev.rd_inc_congr (d := d) (e := d.irigNote _) rfl 1), fun k hk => (hdoms k hk).trans (if_neg (hnone k hk))⟩

/-- Its second follows that of the frame before, or there was none. -/
theorem Dev.irigFrame_used (hprev : d.tim.irig = none ∨ d.tim.irig = some (d.irigTai f y - 1)) :
    (d.irigFrame f).rd Reg.TIM_IRIG_ERR_CNT = d.rd Reg.TIM_IRIG_ERR_CNT ∧
    ∀ k < 2, d.domSrc k = 3 → (d.dom k).st = .free → ((d.irigFrame f).dom k).st = .acquire ∧
      (d.irigFrame f).domAhead k = (d.irigTai f y * unitSec + d.fld Reg.TIM_IRIG_CFG 31 16 * unitNs + f.ago * (d.dom k).incr : Nat) := by
  obtain ⟨-, hkept, hfree⟩ := (d.irigNote (d.irigTai f y)).irigServes_leaves (d.irigTells f)
    (d.irigTai f y * unitSec + d.fld Reg.TIM_IRIG_CFG 31 16 * unitNs) f.ago fun _ => ⟨rfl, rfl⟩
  rw [Dev.irigFrame_year hpar hy, if_neg (by obtain h | h := hprev <;> simp [h])]
  exact ⟨hkept _ (by decide), hfree⟩

end

/-! The command. -/

theorem irigFrame_ends (s : State) (n : Nat) {f : IrigFrame} (h : ((s.dev.tick n).irigFrame f).tim.lockedOnce = true) :
    Ends (exec (.irigFrame n f) s) { s with dev := (s.dev.tick n).irigFrame f } := by
  have hends := devRow_ends s n (fun d => (d.irigFrame f).lockCheck)
  rw [exec_irigFrame]
  rwa [Dev.lockCheck_locked h] at hends

/-- Settles O29: a frame that is not used is counted and missed (`Dev.irigReject_leaves`), one that is used serves each domain apart
(`Dev.irigServes_leaves`). -/
theorem irigFrames : Obligations.IrigFrames := by
  unfold Obligations.IrigFrames
  intro s n f hlock e code
  have hlock' : e.tim.lockedOnce = true := (Dev.tick_tim_lockedOnce _ _).trans hlock
  have hends : (e.irigFrame f).tim.lockedOnce = true → Ends (exec (.irigFrame n f) s) { s with dev := e.irigFrame f } := irigFrame_ends s n
  have hprev : e.tim.irig = s.dev.tim.irig := Dev.tick_tim_irig _ _
  have hdom (k : Nat) : (e.dom k).st = (s.dev.dom k).st ∧ (e.dom k).missed = (s.dev.dom k).missed :=
    let ⟨hst, _, hmiss⟩ := s.dev.tick_dom_st n k
    ⟨hst, hmiss⟩
  have hrd (a : Nat) : e.rd a = s.dev.rd a := Dev.tick_rd _ _ _
  have hsrc (k : Nat) : e.domSrc k = s.dev.domSrc k := (Dev.domSrc_congr (hrd _)).1
  have hfld (a hi lo : Nat) : e.fld a hi lo = s.dev.fld a hi lo := by rw [Dev.fld, hrd, Dev.fld]
  have hing : e.ing = s.dev.ing := Dev.tick_ing _ _
  have hloc : e.loc = s.dev.loc := Dev.tick_loc _ _
  clear_value e
  refine ⟨?parity, ?noYear, ?year⟩
  case parity =>
    intro hcode hpar hfew
    have hframe : e.irigFrame f = e.irigReject := Dev.irigFrame_parity ((hfld _ _ _).trans hcode) hpar
    obtain ⟨hout, -, hlocked, hirig, hloc'⟩ := Dev.besideServo_eq e.irigReject_besideServo
    obtain ⟨hreg, hdoms⟩ := Dev.irigReject_leaves (d := e) fun k hk => by rw [hsrc, (hdom k).2]; exact hfew k hk
    rw [hframe] at hends
    generalize e.irigReject = g at *
    refine (hends (hlocked.trans hlock')).with fun _ _ _ _ _ =>
      ⟨?_, fun a ha => ?_, hirig.trans hprev, hout, hloc'.trans hloc, rfl, fun k hk => ?_⟩
    · exact (hreg _).trans (Dev.rd_inc_congr (hrd _) 1)
    · exact (hreg a).trans ((Dev.rd_inc_ne _ _ ha).trans (hrd a))
    · exact (hdoms k hk).trans (by rw [hsrc])
  case noYear =>
    intro hcode hyear
    have hframe : e.irigFrame f = e := Dev.irigFrame_noYear ((hfld _ _ _).trans hcode) ((hfld _ _ _).trans hyear)
    rw [hframe] at hends
    exact hends hlock'
  case year =>
    intro y hpar hy hy0 utc tai
    have hyear : e.irigYear f = some y := by
      rw [Dev.irigYear, hfld, hfld]
      by_cases hcode : code = 0
      · rw [if_pos hcode] at hy
        rw [if_pos hcode, if_neg (hy ▸ hy0), hy]
      · rw [if_neg hcode] at hy
        rw [if_neg hcode, hy]
    have hpar' : e.fld Reg.TIM_IRIG_CFG 1 0 = 1 → f.parityOk = true := fun h => hpar ((hfld _ _ _).symm.trans h)
    have hplain (hleap : s.dev.ing.leapAt = none) : tai = (utc + sx 16 (s.dev.rdN Reg.TIM_LEAP_OFS)).toNat := by
      rw [show tai = e.irigTai f y from rfl, Dev.irigTai_plain (hing ▸ hleap), hfld, Dev.rdN, hrd]
      rfl
    obtain ⟨hout, -, hlocked, hirig, hloc'⟩ := Dev.besideServo_eq (Dev.irigFrame_besideServo hpar' hyear)
    have hunused {p : Nat} := Dev.irigFrame_unused (p := p) hpar' hyear
    have hused := Dev.irigFrame_used hpar' hyear
    simp only [hprev, hsrc, hfld, hrd, hdom] at hunused hused
    specialize hends (hlocked.trans hlock')
    generalize e.irigFrame f = g at *
    refine ⟨hplain, hends.with fun _ _ _ _ _ => ⟨hirig, hout, hloc'.trans hloc, rfl, fun p hp hne hnone => ?_, hused⟩⟩
    obtain ⟨hcnt, hdoms⟩ := hunused hp hne hnone
    exact ⟨hcnt.trans (Dev.rd_inc_congr (hrd _) 1), hdoms 0 (by decide), hdoms 1 (by decide)⟩

end Sys2Proof.Machine

/-! The switch between the domains (R107 to R113) and the write of an RWS register that forces it (R109, R797). -/

namespace Sys2Proof.Machine

section
variable (d : Dev)

/-! A write to an RWS register (R797, R798): it counts a refusal or shadows the value, and leaves what its acting bits do not change. -/

/-- What a refused or a shadowed write leaves, beside registers. -/
def Dev.besideTxn : Tim × Local × Units × Nat := (d.tim, d.loc, d.units, d.resetCtr)

/-- A register that neither a refusal of R797 nor an access error writes. -/
def offTxn (a : Nat) : Prop := a ≠ Reg.TXN_REFUSED_WR_CNT ∧ a ≠ Reg.TXN_RESULT ∧ a ≠ Reg.TXN_INT_STATUS ∧ a ∉ errRegs

theorem Dev.accErr_besideTxn (c : Nat) (w : Bool) (i : Iface) (en a : Nat) (v : Word) : (d.accErr c w i en a v).besideTxn = d.besideTxn := by
  obtain ⟨_, _, h⟩ := d.accErr_eq c w i en a v
  rw [h]
  rfl

theorem Dev.txnRefuse_besideTxn (code : Nat) : (d.txnRefuse code).besideTxn = d.besideTxn := rfl

theorem Dev.incS_rd_ne {a b : Nat} (n : Nat) (h : b ≠ a) : (d.incS a n).rd b = d.rd b := by
  rw [Dev.incS, Dev.wrSat, Dev.rd_wr_ne _ h, Dev.rd_note]

theorem Dev.txnRefuse_rd (code : Nat) {a : Nat} (h : offTxn a) : (d.txnRefuse code).rd a = d.rd a := by
  rw [Dev.txnRefuse, Dev.rd_raise_ne _ _ h.2.2.1, Dev.txnResult, Dev.wrN, Dev.rd_wr_ne _ h.2.1]

theorem Dev.shadowWrite_leaves (a : Nat) (v : Word) : (d.shadowWrite a v).besideTxn = d.besideTxn ∧
    ∀ b, offTxn b → (d.shadowWrite a v).rd b = d.rd b := by
  unfold Dev.shadowWrite
  dsimp only
  split
  · exact ⟨rfl, fun _ _ => rfl⟩
  · split
    · exact ⟨d.txnRefuse_besideTxn 25, fun _ hb => d.txnRefuse_rd 25 hb⟩
    · exact ⟨rfl, fun _ _ => rfl⟩

theorem Dev.rwsRefused_leaves {i : Iface} {e : Dev} (h : d.rwsRefused i = some e) : e.besideTxn = d.besideTxn ∧ ∀ b, offTxn b → e.rd b = d.rd b := by
  unfold Dev.rwsRefused at h
  split at h
  · obtain rfl := Option.some.inj h
    exact ⟨rfl, fun b hb => (Dev.txnRefuse_rd _ _ hb).trans (d.incS_rd_ne 1 hb.1)⟩
  · split at h
    · obtain rfl := Option.some.inj h
      exact ⟨rfl, fun b hb => d.incS_rd_ne 1 hb.1⟩
    · exact absurd h (by simp)

/-- A write to an RWS register that is no word of a window: its acting bits act, and the rest leaves what they leave. -/
theorem Dev.rwsWrite_leaves (r : RegRow) (i : Iface) (v : Word) {a : Nat} (hw : (d.actRws a v).windowOf a = none) :
    (d.rwsWrite r i a v).2.besideTxn = (d.actRws a v).besideTxn ∧ ∀ b, offTxn b → (d.rwsWrite r i a v).2.rd b = (d.actRws a v).rd b := by
  unfold Dev.rwsWrite
  dsimp only
  split
  case h_1 e he =>
    split
    · exact Dev.rwsRefused_leaves _ he
    · exact ⟨rfl, fun _ _ => rfl⟩
  case h_2 =>
    rw [hw]
    exact Dev.shadowWrite_leaves _ a v

end

/-- A granted write to an RWS register. -/
theorem write_rws {s : State} {i : Iface} {a : Nat} {r : RegRow} (v : Word) (h : s.canWrite i a) (ha : a ≠ Reg.GLB_CTL) (hr : regAt a = some r)
    (hacc : r.acc = .rws) (hw : (s.dev.actRws a v).windowOf a = none) (hc : (s.dev.actRws a v).resetCtr = s.dev.resetCtr) :
    (s.write i 15 a v).2.dev.besideTxn = (s.dev.actRws a v).besideTxn ∧ (s.write i 15 a v).2.ctl = s.ctl ∧
    ∀ b, offTxn b → (s.write i 15 a v).2.dev.rd b = (s.dev.actRws a v).rd b := by
  obtain ⟨hkept, hrd⟩ := s.dev.rwsWrite_leaves r i v hw
  have hrow : s.dev.rowWrite r i a v = s.dev.rwsWrite r i a v := by simp only [Dev.rowWrite, hacc]
  have hdev : (s.write i 15 a v).2.dev.besideTxn = (s.dev.actRws a v).besideTxn ∧
      ∀ b, offTxn b → (s.write i 15 a v).2.dev.rd b = (s.dev.actRws a v).rd b := by
    rw [write_granted v h ha hr, hrow]
    dsimp only
    split
    · exact ⟨hkept, hrd⟩
    · exact ⟨(Dev.accErr_besideTxn _ _ _ _ _ _ _).trans hkept, fun b hb => (Dev.rd_accErr_ne _ _ _ _ _ _ _ hb.2.2.2).trans (hrd b hb)⟩
  obtain ⟨hbeside, hregs⟩ := hdev
  refine ⟨hbeside, ?_, hregs⟩
  have hctr : (s.write i 15 a v).2.dev.resetCtr = s.dev.resetCtr := (congrArg (·.2.2.2) hbeside).trans hc
  rw [write_granted v h ha hr] at hctr ⊢
  exact if_pos hctr

/-! FORCE_SWITCH (R109, R126). -/

theorem Dev.forceSwitch_eq (d : Dev) : ∃ p r, d.forceSwitch = { d with tim := { d.tim with pending := p, refused := r } } := by
  unfold Dev.forceSwitch
  split
  · exact ⟨_, _, rfl⟩
  · exact ⟨d.tim.pending, d.tim.refused, rfl⟩

theorem forceSwitch_endsWith {s : State} {i : Iface} (n : Nat) (v : Word) (h : s.canWrite i Reg.TIM_CTL) : EndsWith (exec (.forceSwitch n i v) s) (fun t =>
    t.dev.tim = (s.dev.tick n).forceSwitch.tim ∧ t.dev.rd Reg.TIM_CTL = s.dev.rd Reg.TIM_CTL ∧ t.dev.loc = s.dev.loc ∧ t.dev.units = s.dev.units ∧
    t.ctl = s.ctl) := by
  have hr : regAt Reg.TIM_CTL = some ⟨0x20000, [], .rws, 0x0, 0x3, 0x4, []⟩ := by decide +kernel
  have hact : (s.dev.tick n).actRws Reg.TIM_CTL (setBits v 2 2 1) = (s.dev.tick n).forceSwitch := by
    have hbit : bit (setBits v 2 2 1) 2 = true := by
      rw [bit_setBits _ _ _ _ _ (by decide)]
      rfl
    rw [Dev.actRws, if_pos rfl, if_pos hbit]
  obtain ⟨p, r, hforce⟩ := (s.dev.tick n).forceSwitch_eq
  obtain ⟨hkept, hctl, hrd⟩ := write_rws (s := s.at n) (setBits v 2 2 1) ((at_canWrite s n i _).mpr h) (by decide) hr rfl rfl
    (by rw [State.at_dev, hact, hforce])
  rw [State.at_dev, hact] at hkept hrd
  have hkeep : (s.dev.tick n).forceSwitch.loc = s.dev.loc ∧ (s.dev.tick n).forceSwitch.units = s.dev.units ∧
      (s.dev.tick n).forceSwitch.rd Reg.TIM_CTL = s.dev.rd Reg.TIM_CTL := by
    rw [hforce]
    exact ⟨rfl, rfl, rfl⟩
  obtain ⟨hloc, hunits, hreg⟩ := hkeep
  have hends := Ends.of_doneS s ((s.at n).write i 15 Reg.TIM_CTL (setBits v 2 2 1)).2
  rw [exec_forceSwitch]
  refine hends.with fun _ _ _ _ _ => ⟨congrArg (·.1) hkept, (hrd _ ?_).trans hreg, (congrArg (·.2.1) hkept).trans hloc,
    (congrArg (·.2.2.1) hkept).trans hunits, hctl⟩
  unfold offTxn
  decide

/-! A return to the preferred domain (R113). -/

section
variable (d : Dev)

/-- The return is due: REVERT set, and the preferred domain, not selected, LOCKED for 60 s, with no switch that waits or stands refused. -/
def Dev.RevertDue (p : Nat) : Prop :=
  d.flag Reg.TIM_CTL 1 = true ∧ d.tim.lockedOnce = true ∧ d.tim.sel ≠ p ∧ (d.dom p).st = .locked ∧ ticksSec 60 ≤ d.tim.clk - (d.dom p).since ∧
  d.tim.pending = none ∧ d.tim.refused = none

variable {d}

theorem Dev.domainRevert_due (h : d.RevertDue (d.fld Reg.TIM_CTL 0 0)) :
    d.domainRevert = { d with tim := { d.tim with pending := some (d.fld Reg.TIM_CTL 0 0, 2) } } := by
  obtain ⟨hrevert, hlock, hsel, hst, hsince, hpend, href⟩ := h
  refine if_pos ?_
  simp [Dev.returnDue, hrevert, hlock, hsel, hst, hsince, hpend, href]

theorem Dev.domainRevert_still (h : ¬ d.RevertDue (d.fld Reg.TIM_CTL 0 0)) : d.domainRevert = d := by
  refine if_neg fun hc => h ?_
  simp only [Dev.returnDue, Bool.and_eq_true, beq_iff_eq, bne_iff_ne, decide_eq_true_eq, Option.isNone_iff_eq_none] at hc
  obtain ⟨⟨⟨⟨⟨⟨⟨hrevert, hlock⟩, -⟩, hst⟩, hsel⟩, hsince⟩, hpend⟩, href⟩ := hc
  exact ⟨hrevert, hlock, hsel, hst, hsince, hpend, href⟩

/-! The end of a slew (R110, R918). -/

/-- The machine whose slew has ended. -/
def Dev.slewEnd (d : Dev) : Dev := { d with tim := { d.tim with slew := none } }

theorem Dev.slewDone_end {c : Nat} (h : d.tim.slew = some c) (hres : d.resid.natAbs < nomIncr) :
    d.slewDone = (d.slewEnd.record 0x0304 (be 1 d.tim.sel ++ zeros 7 ++ be 8 ((d.tim.clk - c) * 5 / 2))).raise Reg.TIM_INT_STATUS 2 := by
  simp only [Dev.slewDone, h]
  exact if_pos hres

theorem Dev.slewDone_still (h : d.tim.slew = none ∨ nomIncr ≤ d.resid.natAbs) : d.slewDone = d := by
  unfold Dev.slewDone
  split
  case h_1 => rfl
  case h_2 c hc => exact if_neg (Nat.not_lt.mpr (h.resolve_left (by simp [hc])))

/-! A switch at a boundary (R108, R109, R111 to R113). -/

/-- The offset of domain `m` from the output time. -/
def Dev.switchOfs (d : Dev) (m : Nat) : Nat := (((d.dom m).val : Int) - (d.tim.out : Int)).natAbs

variable {m why : Nat} (h : d.tim.pending = some (m, why))
include h

theorem Dev.domainSwitch_dropped (hwhy : why = 2) (hdue : d.returnDue m = false) : d.domainSwitch = { d with tim := { d.tim with pending := none } } := by
  simp [Dev.domainSwitch, h, hwhy, hdue, Option.filter]

theorem Dev.domainSwitch_eq (hdue : why = 2 → d.returnDue m = true) : ∃ body, d.domainSwitch =
    if why ≠ 1 ∧ d.rdN Reg.TIM_SWITCH_MAX_OFS * unitNs < d.switchOfs m then
      ({ d.record 0x0303 body with tim := { d.tim with pending := none, refused := some (m, why) } } : Dev).raise Reg.TIM_INT_STATUS 3
    else (Dev.record { d with tim := { d.tim with pending := none, refused := none, sel := m, slew := some (d.tim.slew.getD d.tim.clk) } }
      0x0302 body).raise Reg.TIM_INT_STATUS 1 := by
  have hkeep : (why != 2 || d.returnDue m) = true := by
    by_cases hwhy : why = 2
    · simp [hdue hwhy]
    · simp [hwhy]
  have hf : d.tim.pending.filter (fun x => x.2 != 2 || d.returnDue x.1) = some (m, why) := by simp [h, Option.filter, hkeep]
  refine ⟨be 1 d.tim.sel ++ be 1 m ++ be 1 (b2n (why == 1)) ++ zeros 5 ++ beI 8 (rdiv (((d.dom m).val : Int) - (d.tim.out : Int)) unitNs), ?_⟩
  simp only [Dev.domainSwitch, hf, Dev.switchOfs, Bool.and_eq_true, decide_eq_true_eq]
  rfl

theorem Dev.domainSwitch_refused (hdue : why = 2 → d.returnDue m = true) (hwhy : why ≠ 1)
    (hofs : d.rdN Reg.TIM_SWITCH_MAX_OFS * unitNs < d.switchOfs m) :
    d.domainSwitch.tim = { d.tim with pending := none, refused := some (m, why) } ∧ d.domainSwitch.flag Reg.TIM_INT_STATUS 3 = true := by
  obtain ⟨body, hsw⟩ := Dev.domainSwitch_eq h hdue
  rw [hsw, if_pos ⟨hwhy, hofs⟩]
  exact ⟨rfl, Dev.flag_raise _ _ _ (by decide)⟩

theorem Dev.domainSwitch_started (hdue : why = 2 → d.returnDue m = true)
    (hofs : why = 1 ∨ d.switchOfs m ≤ d.rdN Reg.TIM_SWITCH_MAX_OFS * unitNs) :
    d.domainSwitch.tim = { d.tim with pending := none, refused := none, sel := m, slew := some (d.tim.slew.getD d.tim.clk) } ∧
    d.domainSwitch.flag Reg.TIM_INT_STATUS 1 = true := by
  obtain ⟨body, hsw⟩ := Dev.domainSwitch_eq h hdue
  rw [hsw, if_neg (by omega)]
  exact ⟨by rw [Dev.raise_tim, Dev.record_tim], Dev.flag_raise _ _ _ (by decide)⟩

end

/-- Settles O30: a write to TIM_CTL leaves what its acting bit leaves (`write_rws`); the switch at a boundary is dropped, refused or started
(`Dev.domainSwitch_dropped`, `Dev.domainSwitch_refused`, `Dev.domainSwitch_started`). -/
theorem domainSwitching : Obligations.DomainSwitching := by
  unfold Obligations.DomainSwitching
  refine ⟨?force, ?row, ?switch⟩
  case force =>
    intro s n i v hcan
    obtain ⟨t, ht, htim, hrd, hloc, hunits, hctl⟩ := forceSwitch_endsWith n v hcan
    refine ⟨t, ht, fun m why href => ?_, fun href => ?_, hrd, hloc, hunits, hctl⟩
    · rw [htim, Dev.forceSwitch, Dev.tick_tim_refused, href]
    · rw [htim, Dev.forceSwitch, Dev.tick_tim_refused, href]
  case row =>
    intro s n e p due
    have hrevert := devRow_ends s n Dev.domainRevert
    have hslew := devRow_ends s n Dev.slewDone
    have hdue : e.RevertDue p ↔ due := by
      obtain ⟨hst, hsince, -⟩ := s.dev.tick_dom_st n p
      unfold Dev.RevertDue
      rw [hst, hsince, Dev.tick_tim_lockedOnce, Dev.tick_tim_sel, Dev.tick_tim_pending, Dev.tick_tim_refused, Dev.tick_clk]
      rfl
    rw [exec_domainRevert, exec_slewDone]
    refine ⟨fun h => ?_, fun h => ?_, fun c hc hres => ?_, fun h => ?_⟩
    · rwa [Dev.domainRevert_due (hdue.mpr h)] at hrevert
    · rwa [Dev.domainRevert_still (mt hdue.mp h)] at hrevert
    · rw [Dev.slewDone_end hc hres] at hslew
      exact hslew.with fun _ _ _ _ _ => ⟨Dev.record_tim _ _ _, Dev.flag_raise _ _ _ (by decide), Dev.record_loc _ _ _, rfl, rfl⟩
    · rwa [Dev.slewDone_still h] at hslew
  case switch =>
    intro d m why h ofs
    exact ⟨Dev.domainSwitch_dropped h, Dev.domainSwitch_refused h, Dev.domainSwitch_started h⟩

end Sys2Proof.Machine

/-! Leap seconds (R119 to R122), the snapshot of the time (R125) and the PPS output (R131). -/

namespace Sys2Proof.Machine

/-! Codes of two's complement. -/

theorem cx_lt (n : Nat) (z : Int) : cx n z < 2 ^ n := by
  have hlt := Int.emod_lt_of_pos z (show (0 : Int) < (2 ^ n : Nat) by exact_mod_cast Nat.two_pow_pos n)
  unfold cx
  omega

theorem cx_sx_16 (v : Nat) : cx 16 (sx 16 v) = v % 2 ^ 16 := by
  unfold cx sx
  split <;> omega

theorem cx_16_succ_ne (z : Int) : cx 16 (z + 1) ≠ cx 16 z ∧ cx 16 (z + -1) ≠ cx 16 z := by
  unfold cx
  omega

section
variable {d : Dev}

/-! The announcement (R120, R122). -/

theorem Dev.leapPendStart_due {del : Bool} (h : d.leapPending = some del) (hlock : d.tim.lockedOnce = true)
    (hdue : (if del then d.leapInstant del else d.leapInstant del - 1) ≤ d.sec + 60) :
    d.leapPendStart = { d with tim := { d.tim with leapAt := some (d.leapInstant del, del), leapPend := true, leapDir := del } } := by
  simp only [Dev.leapPendStart, h]
  exact if_pos (by simp [hlock, hdue])

theorem Dev.leapPendStart_early {del : Bool} (h : d.leapPending = some del)
    (hdue : d.sec + 60 < (if del then d.leapInstant del else d.leapInstant del - 1)) : d.leapPendStart = d := by
  simp only [Dev.leapPendStart, h]
  exact if_neg (by simp [hdue])

theorem Dev.leapPendStart_still (h : d.leapPending = none ∨ d.tim.lockedOnce = false) : d.leapPendStart = d := by
  unfold Dev.leapPendStart
  split
  case h_1 => rfl
  case h_2 del hdel =>
    have hlock := h.resolve_left (by simp [hdel])
    exact if_neg (by simp [hlock])

/-! The leap second (R121). -/

/-- What LEAP does: the leap second, and the offset that was in force before it noted for the IRIG frames (R124). -/
def Dev.leapRow (d : Dev) : Dev :=
  match d.tim.leapAt with
  | some (a, _) => let d2 := d.leap; if d2.leapOfs ≠ d.leapOfs then { d2 with ing := { d2.ing with leapAt := some (a, d.leapOfs) } } else d2
  | none => d

theorem Dev.leapRow_none (h : d.tim.leapAt = none) : d.leapRow = d := by simp only [Dev.leapRow, h]

theorem Dev.cx_leapOfs : cx 16 d.leapOfs = d.fld Reg.TIM_LEAP_OFS 15 0 := by
  rw [Dev.leapOfs, cx_sx_16, Dev.fld, bits, Nat.shiftRight_zero]
  rfl

variable {at' : Nat} {del : Bool} (h : d.tim.leapAt = some (at', del))
include h

/-- Where the leap second leaves the offset, so does the row. -/
theorem Dev.leapRow_same (hofs : d.leap.leapOfs = d.leapOfs) : d.leapRow = d.leap := by
  simp only [Dev.leapRow, h]
  exact if_neg (not_not.mpr hofs)

theorem Dev.leapRow_changed (hofs : d.leap.leapOfs ≠ d.leapOfs) :
    d.leapRow = { d.leap with ing := { d.leap.ing with leapAt := some (at', d.leapOfs) } } := by
  simp only [Dev.leapRow, h]
  exact if_pos hofs

theorem Dev.leapRow_dropped (hpend : d.leapPending ≠ some del) :
    d.leapRow = { d with tim := { d.tim with leapAt := none, leapPend := false } } := by
  have hleap : d.leap = { d with tim := { d.tim with leapAt := none, leapPend := false } } := by
    simp only [Dev.leap, h]
    exact if_pos hpend
  rw [Dev.leapRow_same h (by rw [hleap]; rfl), hleap]

theorem Dev.leapRow_early (hpend : d.leapPending = some del) (hdue : d.tim.leapPend = false ∨ d.sec < at') : d.leapRow = d := by
  have hleap : d.leap = d := by
    simp only [Dev.leap, h]
    rw [if_neg (not_not.mpr hpend), if_neg]
    simpa [imp_iff_not_or] using hdue
  rw [Dev.leapRow_same h (by rw [hleap]), hleap]

variable (hpend : d.leapPending = some del) (hset : d.tim.leapPend = true) (hdue : at' ≤ d.sec)
include hpend hset hdue

theorem Dev.leap_due : d.leap.tim = { d.tim with leapAt := none, leapPend := false, leapOcc := some ((if del then at' else at' - 1) + 86400) } ∧
    d.leap.fld Reg.TIM_LEAP_OFS 15 0 = cx 16 (d.leapOfs + (if del then -1 else 1)) ∧ d.leap.flag Reg.TIM_LEAP_CTL 0 = false ∧
    d.leap.flag Reg.TIM_INT_STATUS 6 = true ∧ d.leap.loc = d.loc := by
  have hleap : ∃ body, d.leap =
      (Dev.record { (d.putF Reg.TIM_LEAP_OFS 15 0 (cx 16 (d.leapOfs + (if del then -1 else 1)))).putB Reg.TIM_LEAP_CTL 0 false with
        tim := { d.tim with leapAt := none, leapPend := false, leapOcc := some ((if del then at' else at' - 1) + 86400) } } 0x0305 body).raise
        Reg.TIM_INT_STATUS 6 := by
    simp only [Dev.leap, h]
    rw [if_neg (not_not.mpr hpend), if_pos (by simp [hset, hdue])]
    exact ⟨_, rfl⟩
  obtain ⟨body, hleap⟩ := hleap
  rw [hleap]
  refine ⟨Dev.record_tim _ _ _, ?_, ?_, Dev.flag_raise _ _ _ (by decide), Dev.record_loc _ _ _⟩
  · rw [Dev.fld, Dev.rd_raise_ne _ _ (by decide), Dev.record_rd_ne _ _ _ (by decide)]
    exact (Dev.fld_putF_ne _ _ _ _ _ _ _ _ (by decide) (.inl (by decide))).trans
      ((Dev.fld_putF _ _ _ _ _ (by decide)).trans (Nat.mod_eq_of_lt (cx_lt 16 _)))
  · rw [Dev.flag, Dev.rd_raise_ne _ _ (by decide), Dev.record_rd_ne _ _ _ (by decide)]
    exact Dev.flag_putB_same _ _ _ _ (by decide)

theorem Dev.leap_leapOfs_ne : d.leap.leapOfs ≠ d.leapOfs := by
  obtain ⟨-, hfld, -⟩ := Dev.leap_due h hpend hset hdue
  intro hofs
  rw [← Dev.cx_leapOfs, hofs] at hfld
  obtain ⟨hup, hdown⟩ := cx_16_succ_ne d.leapOfs
  cases del with
  | false => exact hup hfld.symm
  | true => exact hdown hfld.symm

end

section
variable {d : Dev}

/-! The day after a leap second (R122). -/

theorem Dev.leapOccEnd_due {u : Nat} (h : d.tim.leapOcc = some u) (hu : u ≤ d.sec) :
    d.leapOccEnd = { d with tim := { d.tim with leapOcc := none } } := by
  simp only [Dev.leapOccEnd, h]
  exact if_pos hu

theorem Dev.leapOccEnd_still (h : ∀ u, d.tim.leapOcc = some u → d.sec < u) : d.leapOccEnd = d := by
  unfold Dev.leapOccEnd
  split
  case h_1 u hu => exact if_neg (Nat.not_le.mpr (h u hu))
  case h_2 => rfl

/-! The PPS output (R131). -/

theorem Dev.ppsOut_eq (d : Dev) : d.ppsOut = { d with pins := { d.pins with
      ppsOut := decide ((d.tim.lockedOnce = true ∨ d.flag Reg.TIM_PPS_OUT_CTL 0 = true) ∧ d.nsIn < d.fld Reg.TIM_PPS_OUT_CTL 7 1 * 1000000) } } := by
  simp only [Dev.ppsOut, Bool.decide_and, Bool.decide_or, Bool.decide_eq_true]

/-! The snapshot (R125). -/

variable (d)

theorem Dev.rdN_wrN_same (a v : Nat) : (d.wrN a v).rdN a = v % 2 ^ 32 := by rw [Dev.rdN, Dev.wrN, Dev.rd_wr_same, w32_toNat]

theorem Dev.rd_wrN_ne {a b : Nat} (h : b ≠ a) (v : Nat) : (d.wrN a v).rd b = d.rd b := Dev.rd_wr_ne _ h _

theorem Dev.rdN_wrN_ne {a b : Nat} (h : b ≠ a) (v : Nat) : (d.wrN a v).rdN b = d.rdN b := by rw [Dev.rdN, Dev.rd_wrN_ne d h, Dev.rdN]

/-- The registers of the snapshot. -/
def snapRegs : List Nat := [Reg.TIM_OUT_SEC_LO, Reg.TIM_OUT_SEC_HI, Reg.TIM_OUT_NS, Reg.TIM_OUT_FRAC, Reg.TIM_ELAPSED_SEC, Reg.TIM_ELAPSED_NS]

theorem Dev.wrN_besideTxn (a v : Nat) : (d.wrN a v).besideTxn = d.besideTxn := rfl

theorem Dev.timSnap_besideTxn : d.timSnap.besideTxn = d.besideTxn := by
  rw [Dev.timSnap, Dev.wrN_besideTxn, Dev.wrN_besideTxn, Dev.wrN_besideTxn, Dev.wrN_besideTxn, Dev.wrN_besideTxn, Dev.wrN_besideTxn]

theorem Dev.besideTxn_eq {e : Dev} (h : e.besideTxn = d.besideTxn) : e.tim = d.tim ∧ e.loc = d.loc ∧ e.resetCtr = d.resetCtr :=
  ⟨congrArg (·.1) h, congrArg (·.2.1) h, congrArg (·.2.2.2) h⟩

theorem Dev.timSnap_rd_ne {a : Nat} (h : a ∉ snapRegs) : d.timSnap.rd a = d.rd a := by
  simp only [snapRegs, List.mem_cons, List.not_mem_nil, or_false, not_or] at h
  obtain ⟨hlo, hhi, hns, hfrac, hsec, helns⟩ := h
  rw [Dev.timSnap, Dev.rd_wrN_ne _ helns, Dev.rd_wrN_ne _ hsec, Dev.rd_wrN_ne _ hfrac, Dev.rd_wrN_ne _ hns, Dev.rd_wrN_ne _ hhi, Dev.rd_wrN_ne _ hlo]

theorem Dev.timSnap_secs : d.timSnap.rdN Reg.TIM_OUT_SEC_LO = d.sec % 2 ^ 32 ∧ d.timSnap.rdN Reg.TIM_OUT_SEC_HI = d.sec / 2 ^ 32 % 2 ^ 16 := by
  constructor
  · rw [Dev.timSnap, Dev.rdN_wrN_ne _ (by decide), Dev.rdN_wrN_ne _ (by decide), Dev.rdN_wrN_ne _ (by decide), Dev.rdN_wrN_ne _ (by decide),
      Dev.rdN_wrN_ne _ (by decide), Dev.rdN_wrN_same]
  · rw [Dev.timSnap, Dev.rdN_wrN_ne _ (by decide), Dev.rdN_wrN_ne _ (by decide), Dev.rdN_wrN_ne _ (by decide), Dev.rdN_wrN_ne _ (by decide),
      Dev.rdN_wrN_same]
    omega

theorem Dev.timSnap_part : d.timSnap.rdN Reg.TIM_OUT_NS = d.nsIn ∧ d.timSnap.rdN Reg.TIM_OUT_FRAC = d.tim.out % unitNs := by
  have hns : d.nsIn < 2 ^ 32 := (Nat.mod_lt _ (by decide)).trans (by decide)
  have hfrac : d.tim.out % unitNs < 2 ^ 32 := Nat.mod_lt _ (by decide)
  constructor
  · rw [Dev.timSnap, Dev.rdN_wrN_ne _ (by decide), Dev.rdN_wrN_ne _ (by decide), Dev.rdN_wrN_ne _ (by decide), Dev.rdN_wrN_same,
      Nat.mod_eq_of_lt hns]
  · rw [Dev.timSnap, Dev.rdN_wrN_ne _ (by decide), Dev.rdN_wrN_ne _ (by decide), Dev.rdN_wrN_same, Nat.mod_eq_of_lt hfrac]

theorem Dev.timSnap_elapsed : d.timSnap.rdN Reg.TIM_ELAPSED_SEC = d.elapsed / unitSec % 2 ^ 32 ∧
    d.timSnap.rdN Reg.TIM_ELAPSED_NS = d.elapsed / unitNs % 1000000000 := by
  have hns : d.elapsed / unitNs % 1000000000 < 2 ^ 32 := (Nat.mod_lt _ (by decide)).trans (by decide)
  constructor
  · rw [Dev.timSnap, Dev.rdN_wrN_ne _ (by decide), Dev.rdN_wrN_same]
  · rw [Dev.timSnap, Dev.rdN_wrN_same, Nat.mod_eq_of_lt hns]

theorem Dev.regAct_timSnap (i : Iface) (w : Word) : d.regAct i Reg.TIM_SNAP w = if bit w 0 then d.timSnap else d := by
  rw [regAct_eq]
  rfl

end

/-- What a command leaves of the machine that it ends in, in the terms of the statements. -/
theorem Ends.leaves {o : Host.Outcome State Fault Refusal} {s : State} {e : Dev} (h : Ends o { s with dev := e }) :
    EndsWith o (fun t => (∀ a, t.dev.rd a = e.rd a) ∧ t.dev.tim = e.tim ∧ t.dev.net = e.net ∧
      t.dev.loc = e.loc ∧ t.dev.units = e.units ∧ t.ctl = s.ctl) :=
  h.with fun _ _ _ _ _ => ⟨fun _ => rfl, rfl, rfl, rfl, rfl, rfl⟩

theorem timSnap_ends {s : State} {i : Iface} (n : Nat) (v : Word) (h : s.canWrite i Reg.TIM_SNAP) :
    Ends (exec (.timSnap n i v) s) { s with dev := if bit v 0 then (s.dev.tick n).timSnap else s.dev.tick n } := by
  have hr : regAt Reg.TIM_SNAP = some ⟨0x2000C, [], .wo, 0x0, 0x1, 0x1, []⟩ := by decide +kernel
  rw [exec_timSnap]
  exact hostRow_trigger h hr (.inr (.inl rfl)) ⟨rfl, rfl, rfl⟩ (by decide) (fun w => Dev.regAct_timSnap _ i w)
    ((Dev.besideTxn_eq _ (Dev.timSnap_besideTxn _)).2.2.trans (Dev.tick_resetCtr _ _))

theorem leap_ends (s : State) (n : Nat) : Ends (exec (.leap n) s) { s with dev := (s.dev.tick n).leapRow } := by
  rw [exec_leap]
  exact devRow_ends s n Dev.leapRow

/-- Settles O31: the rows of a leap second as `Dev.leapPendStart` and `Dev.leapRow` say, whose offset changes (`Dev.leap_leapOfs_ne`); the snapshot
register by register (`Dev.timSnap_rd_ne`). -/
theorem leapSecondsAndTimeShown : Obligations.LeapSecondsAndTimeShown := by
  unfold Obligations.LeapSecondsAndTimeShown
  refine ⟨?leap, ?snap, ?pps⟩
  case leap =>
    intro s n e
    have hstart := devRow_ends s n Dev.leapPendStart
    have hleap := leap_ends s n
    have hocc := devRow_ends s n Dev.leapOccEnd
    have hlock : e.tim.lockedOnce = s.dev.tim.lockedOnce := Dev.tick_tim_lockedOnce _ _
    have hat : e.tim.leapAt = s.dev.tim.leapAt := Dev.tick_tim_leapAt _ _
    have hpd : e.tim.leapPend = s.dev.tim.leapPend := Dev.tick_tim_leapPend _ _
    have hoc : e.tim.leapOcc = s.dev.tim.leapOcc := Dev.tick_tim_leapOcc _ _
    have hofs : e.leapOfs = s.dev.leapOfs := rfl
    have hloc : e.loc = s.dev.loc := rfl
    rw [exec_leapPendStart, exec_leapOccEnd, ← hlock, ← hat, ← hpd, ← hoc]
    change Ends _ { s with dev := e.leapPendStart } at hstart
    change Ends _ { s with dev := e.leapRow } at hleap
    change Ends _ { s with dev := e.leapOccEnd } at hocc
    clear_value e
    refine ⟨fun del hdel hlk => ⟨fun hdue => ?_, fun hearly => ?_⟩, fun hnone => ?_, fun at' del hsome => ⟨fun hne => ?_, fun hpend hset hdue => ?_,
      fun hpend hearly => ?_⟩, fun hnone => ?_, fun u hu hdue => ?_, fun hstill => ?_⟩
    · rw [Dev.leapPendStart_due hdel hlk hdue] at hstart
      exact hstart
    · rw [Dev.leapPendStart_early hdel hearly] at hstart
      exact hstart
    · rw [Dev.leapPendStart_still hnone] at hstart
      exact hstart
    · rw [Dev.leapRow_dropped hsome hne] at hleap
      exact hleap
    · obtain ⟨htim, hfld, hctl, hint, hkeep⟩ := Dev.leap_due hsome hpend hset hdue
      rw [Dev.leapRow_changed hsome (Dev.leap_leapOfs_ne hsome hpend hset hdue)] at hleap
      rw [← hofs, ← hloc]
      exact hleap.with fun _ _ _ _ _ => ⟨htim, hfld, hctl, hint, rfl, hkeep, rfl⟩
    · rw [Dev.leapRow_early hsome hpend hearly] at hleap
      exact hleap
    · rw [Dev.leapRow_none hnone] at hleap
      exact hleap
    · rw [Dev.leapOccEnd_due hu hdue] at hocc
      exact hocc
    · rw [Dev.leapOccEnd_still hstill] at hocc
      exact hocc
  case snap =>
    intro s n i v hcan e
    have hends := timSnap_ends n v hcan
    change Ends _ { s with dev := if bit v 0 then e.timSnap else e } at hends
    have hrd (a : Nat) : e.rd a = s.dev.rd a := rfl
    have hloc : e.loc = s.dev.loc := rfl
    clear_value e
    refine ⟨fun hbit => ?_, fun hbit => by rwa [hbit, if_neg (by decide)] at hends⟩
    rw [hbit, if_pos rfl] at hends
    obtain ⟨htim, hkeep, -⟩ := Dev.besideTxn_eq e e.timSnap_besideTxn
    obtain ⟨hlo, hhi⟩ := e.timSnap_secs
    obtain ⟨hns, hfrac⟩ := e.timSnap_part
    obtain ⟨hsec, helns⟩ := e.timSnap_elapsed
    obtain ⟨t, ht, hreg, htim', -, hloc', -, hctl⟩ := hends.leaves
    have hnum (a : Nat) : t.dev.rdN a = e.timSnap.rdN a := congrArg BitVec.toNat (hreg a)
    exact ⟨t, ht, (hnum _).trans hlo, (hnum _).trans hhi, (hnum _).trans hns, (hnum _).trans hfrac, (hnum _).trans hsec, (hnum _).trans helns,
      htim'.trans htim, fun a ha => (hreg a).trans ((e.timSnap_rd_ne ha).trans (hrd a)), hloc'.trans (hkeep.trans hloc), hctl⟩
  case pps =>
    intro s n e high
    have hends := devRow_ends s n Dev.ppsOut
    have hlock : e.tim.lockedOnce = s.dev.tim.lockedOnce := Dev.tick_tim_lockedOnce _ _
    have hflag : e.flag Reg.TIM_PPS_OUT_CTL 0 = s.dev.flag Reg.TIM_PPS_OUT_CTL 0 := rfl
    have hwidth : e.fld Reg.TIM_PPS_OUT_CTL 7 1 = s.dev.fld Reg.TIM_PPS_OUT_CTL 7 1 := rfl
    have hhigh := e.ppsOut_eq
    rw [hlock, hflag, hwidth] at hhigh
    change Ends _ { s with dev := e.ppsOut } at hends
    rw [hhigh] at hends
    rw [exec_ppsOutPulse]
    exact hends

end Sys2Proof.Machine

/-! PTP messages sent at their intervals (R87, R90): a frame that enters queue 6 of a port whose frame is still on the wire. -/

namespace Sys2Proof.Machine

/-! An entry put twice. -/

theorem tput_tput {α : Type} (t : List (Nat × α)) (q : Nat) (v w : α) : tput (tput t q v) q w = tput t q w := by
  induction t with
  | nil => simp [tput]
  | cons x r ih =>
    obtain ⟨k, u⟩ := x
    by_cases hlt : q < k
    · simp [tput, hlt]
    · by_cases heq : q = k
      · simp [tput, heq]
      · simp [tput, hlt, heq, ih]

theorem tdel_tput {α : Type} (t : List (Nat × α)) (q : Nat) (v : α) : tdel (tput t q v) q = tdel t q := by
  induction t with
  | nil => simp [tput, tdel]
  | cons x r ih =>
    obtain ⟨k, u⟩ := x
    by_cases hlt : q < k
    · simp [tput, tdel, hlt]
    · by_cases heq : q = k
      · simp [tput, tdel, heq]
      · simp [tput, tdel, hlt, heq, ih]

theorem tset_tset {α : Type} [DecidableEq α] {d : α} (t : List (Nat × α)) (q : Nat) {v : α} (w : α) (h : v ≠ d) :
    tset d (tset d t q v) q w = tset d t q w := by
  unfold tset
  rw [if_neg h, tput_tput, tdel_tput]

section
variable (d : Dev)

@[simp] theorem Dev.port_modPort_same (p : Nat) (f : Port → Port) : (d.modPort p f).port p = f (d.port p) := tget_tset_same _ _ _ _

variable {d} in
theorem Dev.modPort_net_congr {e : Dev} (h : e.net = d.net) (p : Nat) (f : Port → Port) : (e.modPort p f).net = (d.modPort p f).net := by
  unfold Dev.modPort Dev.port
  rw [h]

variable {d} in
theorem Dev.modPort_congr {p : Nat} {f g : Port → Port} (h : f (d.port p) = g (d.port p)) : d.modPort p f = d.modPort p g := by
  unfold Dev.modPort
  rw [h]

theorem Dev.modPort_modPort (p : Nat) (f g : Port → Port) (h : f (d.port p) ≠ Port.start) :
    (d.modPort p f).modPort p g = d.modPort p (fun x => g (f x)) := by
  have hport := d.port_modPort_same p f
  unfold Dev.modPort at hport ⊢
  rw [hport]
  dsimp only
  rw [tset_tset _ _ _ h]

/-! The largest depth of a queue (R592). -/

/-- An address of the register of the largest depth of a queue, on either wing. -/
def depthAddr (q a : Nat) : Prop := a = wingAddr 0 (Reg.QUE_Q_MAX_DEPTH q) ∨ a = wingAddr 1 (Reg.QUE_Q_MAX_DEPTH q)

theorem Dev.wrMax_eq (a v : Nat) : ∃ r h, d.wrMax a v = { d with regs := r, hw := h } := by
  unfold Dev.wrMax
  dsimp only
  split
  · exact ⟨_, _, rfl⟩
  · exact ⟨_, _, rfl⟩

theorem Dev.wrMax_rd_ne {a b : Nat} (v : Nat) (h : b ≠ a) : (d.wrMax a v).rd b = d.rd b := by
  unfold Dev.wrMax
  dsimp only
  split
  · rw [Dev.wrSat, Dev.rd_wr_ne _ h, Dev.rd_note]
  · rw [Dev.rd_note]

theorem Dev.queMax_eq (q n : Nat) : ∃ r h, d.queMax q n = { d with regs := r, hw := h } := by
  obtain ⟨_, _, h0⟩ := d.wrMax_eq (wingAddr 0 (Reg.QUE_Q_MAX_DEPTH q)) n
  obtain ⟨r, h, h1⟩ := (d.wrMax (wingAddr 0 (Reg.QUE_Q_MAX_DEPTH q)) n).wrMax_eq (wingAddr 1 (Reg.QUE_Q_MAX_DEPTH q)) n
  exact ⟨r, h, by rw [Dev.queMax, h1, h0]⟩

theorem Dev.queMax_rest (q n : Nat) : (d.queMax q n).net = d.net ∧ (d.queMax q n).tim = d.tim ∧ (d.queMax q n).loc = d.loc ∧
    (d.queMax q n).units = d.units := by
  obtain ⟨_, _, h⟩ := d.queMax_eq q n
  rw [h]
  exact ⟨rfl, rfl, rfl, rfl⟩

theorem Dev.queMax_rd {q a : Nat} (n : Nat) (h : ¬ depthAddr q a) : (d.queMax q n).rd a = d.rd a := by
  obtain ⟨h0, h1⟩ := not_or.mp h
  rw [Dev.queMax, Dev.wrMax_rd_ne _ _ h1, Dev.wrMax_rd_ne _ _ h0]

/-! A message enters queue 6. -/

/-- A port whose next frame waits: a frame is on the wire, and neither low-power idle nor a fault stops the entry. -/
structure Dev.TxBusy (d : Dev) (p : Nat) : Prop where
  cur : (d.port p).cur ≠ none
  link : (d.port p).link = true
  lpi : (d.port p).lpiAt = none
  role : (d.wing (portOwner p)).role ≠ .faulted

/-- A port with other frames that wait. -/
def Port.withTxq (x : Port) (q : List (Nat × TxFrame)) : Port := { x with txq := q }

/-- A port with a message behind the frames that wait in queue 6. -/
def Port.enqueue (f : TxFrame) (x : Port) : Port := x.withTxq (x.txq ++ [(6, f)])

/-- Frames that wait in queue 6. -/
def Port.waiting6 (x : Port) : Nat := (x.txq.filter (fun x => x.1 == 6)).length

variable {d} {p : Nat}

theorem Port.enqueue_ne_start (f : TxFrame) {x : Port} (h : x.cur ≠ none) : x.enqueue f ≠ Port.start := fun hs => h (congrArg Port.cur hs)

theorem Port.waiting6_enqueue (f : TxFrame) (x : Port) : (x.enqueue f).waiting6 = x.waiting6 + 1 := by
  simp [Port.waiting6, Port.enqueue, Port.withTxq, List.filter_append]

/-- Behind a frame on the wire nothing starts. -/
theorem Dev.txStart_busy (h : d.TxBusy p) : d.txStart p = d := by
  obtain ⟨f, hf⟩ := Option.ne_none_iff_exists'.mp h.cur
  unfold Dev.txStart
  dsimp only
  split
  · rfl
  · rw [if_neg (by simp [h.link]), if_pos (by simp [hf])]

theorem Dev.TxBusy.enqueue {e : Dev} {f : TxFrame} (h : d.TxBusy p) (hunits : e.units = d.units) (hport : e.port p = (d.port p).enqueue f) :
    e.TxBusy p where
  cur := hport ▸ h.cur
  link := hport ▸ h.link
  lpi := hport ▸ h.lpi
  role := by
    rw [Dev.wing, hunits]
    exact h.role

theorem Dev.txPut_busy (h : d.TxBusy p) (hroom : (d.port p).waiting6 < 2) (f : TxFrame) :
    d.txPut p 6 f = (d.modPort p (Port.enqueue f)).queMax (8 * p + 6) ((d.port p).waiting6 + 1) := by
  unfold Dev.txPut
  rw [if_neg]
  · dsimp only
    rw [h.lpi]
    rfl
  · have hfree : d.txRoom p 6 = true := by
      unfold Dev.txRoom
      simp only [Bool.or_eq_true, decide_eq_true_eq]
      exact .inl hroom
    simp [h.role, hfree]

/-- What a message leaves that enters queue 6 behind a frame on the wire. -/
structure Dev.Enqueued (d : Dev) (p : Nat) (l : Port → Port) (e : Dev) : Prop where
  net : e.net = (d.modPort p l).net
  tim : e.tim = d.tim
  loc : e.loc = d.loc
  units : e.units = d.units
  rd : ∀ a, ¬ depthAddr (8 * p + 6) a → e.rd a = d.rd a

theorem Dev.txPtp_busy (h : d.TxBusy p) (hroom : (d.port p).waiting6 < 2) (kind : Nat) (stamp : Int) (b : Bytes)
    (hlen : (padTo 60 b).length + 4 ≤ d.maxFrm p) : d.Enqueued p (Port.enqueue ⟨padTo 60 b, kind, stamp, false, none⟩) (d.txPtp p kind stamp b) := by
  generalize hf : (⟨padTo 60 b, kind, stamp, false, none⟩ : TxFrame) = f
  obtain ⟨hnet, htim, hloc, hunits⟩ := (d.modPort p (Port.enqueue f)).queMax_rest (8 * p + 6) ((d.port p).waiting6 + 1)
  have hrd (a : Nat) (ha : ¬ depthAddr (8 * p + 6) a) := (d.modPort p (Port.enqueue f)).queMax_rd ((d.port p).waiting6 + 1) ha
  have hport : ((d.modPort p (Port.enqueue f)).queMax (8 * p + 6) ((d.port p).waiting6 + 1)).port p = (d.port p).enqueue f := by
    rw [Dev.port, hnet]
    exact d.port_modPort_same p _
  have hbusy := h.enqueue hunits hport
  have hsent : d.txPtp p kind stamp b = (d.modPort p (Port.enqueue f)).queMax (8 * p + 6) ((d.port p).waiting6 + 1) := by
    rw [Dev.txPtp, if_neg (Nat.not_lt.mpr hlen), hf, Dev.txPut_busy h hroom, Dev.txStart_busy hbusy]
  rw [hsent]
  exact ⟨hnet, htim, hloc, hunits, hrd⟩

theorem Dev.Enqueued.port {l : Port → Port} {e : Dev} (h : d.Enqueued p l e) : e.port p = l (d.port p) := by
  rw [Dev.port, h.net]
  exact d.port_modPort_same p l

theorem Dev.Enqueued.maxFrm {l : Port → Port} {e : Dev} (h : d.Enqueued p l e) (hp : p < 8) : e.maxFrm p = d.maxFrm p := by
  rw [Dev.maxFrm, Dev.fld, h.rd, ← Dev.fld, Dev.maxFrm]
  simp only [depthAddr, wingAddr, reduceIte, one_ne_zero, Reg.QUE_Q_MAX_DEPTH, Reg.NET_PORT_MAX_FRM, wingOfs]
  omega

/-- Told by the frames that wait afterwards. -/
theorem Dev.Enqueued.queue {l : Port → Port} {e : Dev} {q : List (Nat × TxFrame)} (h : d.Enqueued p l e) (hl : l (d.port p) = (d.port p).withTxq q) :
    d.Enqueued p (fun x => x.withTxq q) e :=
  { h with net := h.net.trans (congrArg Dev.net (Dev.modPort_congr hl)) }

theorem Ends.enqueued {o : Host.Outcome State Fault Refusal} {s : State} {l : Port → Port} {e : Dev} (h : Ends o { s with dev := e })
    (he : d.Enqueued p l e) : EndsWith o (fun t => d.Enqueued p l t.dev ∧ t.ctl = s.ctl) := by
  obtain ⟨t, ht, hrd, htim, hnet, hloc, hunits, hctl⟩ := h.leaves
  exact ⟨t, ht, ⟨hnet.trans he.net, htim.trans he.tim, hloc.trans he.loc, hunits.trans he.units, fun a ha => (hrd a).trans (he.rd a ha)⟩, hctl⟩

/-- A second message behind the first. -/
theorem Dev.Enqueued.trans {l m : Port → Port} {e g : Dev} (h : d.Enqueued p l e) (hnext : e.Enqueued p m g) (hl : l (d.port p) ≠ Port.start) :
    d.Enqueued p (fun x => m (l x)) g where
  net := by rw [hnext.net, Dev.modPort_net_congr h.net, Dev.modPort_modPort _ _ _ _ hl]
  tim := hnext.tim.trans h.tim
  loc := hnext.loc.trans h.loc
  units := hnext.units.trans h.units
  rd a ha := (hnext.rd a ha).trans (h.rd a ha)

/-- Two messages enter queue 6, empty before, one behind the other. -/
theorem Dev.txPtp_txPtp_busy (hp : p < 8) (h : d.TxBusy p) (hnone : (d.port p).waiting6 = 0) (k₁ k₂ : Nat) (b₁ b₂ : Bytes)
    (hlen₁ : (padTo 60 b₁).length + 4 ≤ d.maxFrm p) (hlen₂ : (padTo 60 b₂).length + 4 ≤ d.maxFrm p) :
    d.Enqueued p (fun x => (x.enqueue ⟨padTo 60 b₁, k₁, 0, false, none⟩).enqueue ⟨padTo 60 b₂, k₂, 0, false, none⟩)
      ((d.txPtp p k₁ 0 b₁).txPtp p k₂ 0 b₂) := by
  have hfirst := Dev.txPtp_busy h (by omega) k₁ 0 b₁ hlen₁
  have hport := hfirst.port
  have hbusy := h.enqueue hfirst.units hport
  have hsecond := Dev.txPtp_busy hbusy (by rw [hport, Port.waiting6_enqueue]; omega) k₂ 0 b₂ (hlen₂.trans_eq (hfirst.maxFrm hp).symm)
  exact hfirst.trans hsecond (Port.enqueue_ne_start _ h.cur)

/-! The sends of a port (R87). -/

/-- The port of a master that counts both sequence numbers on. -/
def PtpPort.nextSync (x : PtpPort) : PtpPort := { x with seqSync := (x.seqSync + 1) % 65536, seqAnnounce := (x.seqAnnounce + 1) % 65536 }

/-- The port that counts the sequence number of its peer-delay requests on. -/
def PtpPort.nextPdelay (x : PtpPort) : PtpPort := { x with seqPdelay := (x.seqPdelay + 1) % 65536, reqAt := none }

theorem Dev.ptpMasterSend_master (hrole : d.ptpRole p = 2) (hlock : d.tim.lockedOnce = true) : d.ptpMasterSend p =
    ((d.modPtp p PtpPort.nextSync).txPtp p 0 0 ((d.modPtp p PtpPort.nextSync).ptpFrame p false false ((d.modPtp p PtpPort.nextSync).announceMsg p))).txPtp
      p 1 0 ((d.modPtp p PtpPort.nextSync).ptpFrame p true false ((d.modPtp p PtpPort.nextSync).syncMsg p)) :=
  if_pos (by simp [hrole, hlock])

theorem Dev.ptpMasterSend_still (h : d.ptpRole p ≠ 2 ∨ d.tim.lockedOnce = false) : d.ptpMasterSend p = d :=
  if_neg (by simpa [imp_iff_not_or] using h)

theorem Dev.pdelaySend_role (hrole : d.ptpRole p = 1 ∨ d.ptpRole p = 2) : d.pdelaySend p =
    (d.modPtp p PtpPort.nextPdelay).txPtp p 2 0 ((d.modPtp p PtpPort.nextPdelay).ptpFrame p true true
      ((d.modPtp p PtpPort.nextPdelay).ptpHdr p 2 54 0 ((d.modPtp p PtpPort.nextPdelay).ptp p).seqPdelay 5 ++ zeros 20)) :=
  if_pos (by simpa using hrole)

theorem Dev.pdelaySend_still (h1 : d.ptpRole p ≠ 1) (h2 : d.ptpRole p ≠ 2) : d.pdelaySend p = d := if_neg (by simp [h1, h2])

theorem Dev.TxBusy.modPtp (h : d.TxBusy p) (f : PtpPort → PtpPort) : (d.modPtp p f).TxBusy p := ⟨h.cur, h.link, h.lpi, h.role⟩

end

theorem ptpMasterSend_ends (s : State) (n : Nat) {p : Nat} (hp : p < 8) :
    Ends (exec (.ptpMasterSend n p) s) { s with dev := (s.dev.tick n).ptpMasterSend p } := by
  rw [exec_ptpMasterSend, decide_eq_true hp]
  exact devRow_ends s n _

theorem pdelayReqSend_ends (s : State) (n : Nat) {p : Nat} (hp : p < 8) :
    Ends (exec (.pdelayReqSend n p) s) { s with dev := (s.dev.tick n).pdelaySend p } := by
  rw [exec_pdelayReqSend, decide_eq_true hp]
  exact devRow_ends s n _

/-- Settles O32: behind a frame on the wire a message enters queue 6 and starts nothing (`Dev.txPtp_busy`), and a second one follows it
(`Dev.txPtp_txPtp_busy`). -/
theorem ptpMessages : Obligations.PtpMessages := by
  unfold Obligations.PtpMessages
  intro s n p hp hcur hlink hlpi hnone hrole e m r ann syn req deep
  have hsend := ptpMasterSend_ends s n hp
  have hreq := pdelayReqSend_ends s n hp
  change Ends _ { s with dev := e.ptpMasterSend p } at hsend
  change Ends _ { s with dev := e.pdelaySend p } at hreq
  have hbusy : e.TxBusy p := ⟨hcur, hlink, hlpi, hrole⟩
  have hport : e.port p = s.dev.port p := rfl
  have hprole : e.ptpRole p = s.dev.ptpRole p := rfl
  have hmax : e.maxFrm p = s.dev.maxFrm p := rfl
  have hlock : e.tim.lockedOnce = s.dev.tim.lockedOnce := Dev.tick_tim_lockedOnce _ _
  have hrd (a : Nat) : e.rd a = s.dev.rd a := rfl
  have hloc : e.loc = s.dev.loc := rfl
  have hunits : e.units = s.dev.units := rfl
  have hempty : (e.port p).waiting6 = 0 := by rw [hport, Port.waiting6, hnone, List.length_nil]
  rw [← hport, ← hprole, ← hmax, ← hlock]
  clear_value e
  refine ⟨fun hmaster hlocked hann hsyn => ?_, fun hstill => ?_, fun hr hlen => ?_, fun h1 h2 => ?_⟩
  · rw [Dev.ptpMasterSend_master hmaster hlocked] at hsend
    have hboth := Dev.txPtp_txPtp_busy hp (hbusy.modPtp PtpPort.nextSync) hempty 0 1 _ _ hann hsyn
    obtain ⟨t, ht, hq, hctl⟩ := hsend.enqueued (hboth.queue (q := (e.port p).txq ++ [_, _]) (congrArg (Port.withTxq _) (List.append_assoc _ _ _)))
    exact ⟨t, ht, hq.net, hq.tim, fun a ha => (hq.rd a ha).trans (hrd a), hq.loc.trans hloc, hq.units.trans hunits, hctl⟩
  · rw [Dev.ptpMasterSend_still hstill] at hsend
    exact hsend
  · rw [Dev.pdelaySend_role hr] at hreq
    have hone := Dev.txPtp_busy (hbusy.modPtp PtpPort.nextPdelay) (hempty.trans_lt (by decide)) 2 0 _ hlen
    obtain ⟨t, ht, hq, hctl⟩ := hreq.enqueued (hone.queue rfl)
    exact ⟨t, ht, hq.net, hq.tim, fun a ha => (hq.rd a ha).trans (hrd a), hq.loc.trans hloc, hq.units.trans hunits, hctl⟩
  · rw [Dev.pdelaySend_still h1 h2] at hreq
    exact hreq

end Sys2Proof.Machine

/-! Snapshots of the corrected words (O17). -/

namespace Sys2Proof.Machine

/-! Requests (R139, R141). -/

section
variable (d : Dev)

theorem Dev.regAct_qSnap (i : Iface) {q : Nat} (hq : q < 4) (w : Word) : d.regAct i (Reg.CNV_Q_SNAP q) w = if bit w 0 then d.snapReq q else d := by
  rw [regAct_eq]
  interval_cases q <;> rfl

/-- A snapshot request of every quadrant. -/
def Dev.snapReqs : Dev := foldUp 4 (fun q d => d.snapReq q) d

theorem Dev.snapReqs_quads : d.snapReqs.loc.quads = (List.range 4).foldl (fun l q => lmod l q (fun u => { u with snap := true })) d.loc.quads := by
  simp [Dev.snapReqs, Dev.snapReq, Dev.modQuad, foldUp, List.range_succ]

theorem Dev.snapReqs_regs : d.snapReqs.regs = d.regs := foldUp_keeps Dev.regs 4 (fun q e => e.snapReq q) (fun _ _ => rfl) d

theorem Dev.regAct_snapAll (i : Iface) (w : Word) : d.regAct i Reg.CNV_SNAP_ALL w = if bit w 0 then d.snapReqs else d := by
  rw [regAct_eq]
  rfl

end

theorem qSnap_row : ∀ q < 4, regAt (Reg.CNV_Q_SNAP q) = some ⟨0x40100, [(0x20, 4)], .wo, 0x0, 0x1, 0x1, []⟩ := by decide +kernel

theorem qSnap_ne : ∀ q < 4, Reg.CNV_Q_SNAP q ≠ Reg.GLB_CTL ∧ Reg.CNV_Q_SNAP q ≠ Reg.GLB_RESET_CTL ∧
    (∀ p < 2, Reg.CNV_Q_SNAP q ≠ Reg.REC_RP_QUOTA p) ∧ ∀ p < 8, Reg.CNV_Q_SNAP q ≠ Reg.TST_PORT_GEN p := by decide

theorem snapAll_row : regAt Reg.CNV_SNAP_ALL = some ⟨0x40014, [], .wo, 0x0, 0x1, 0x1, []⟩ := by decide +kernel

theorem cnvSnap_ends {s : State} {q : Nat} {i : Iface} (n : Nat) (v : Word) (hq : q < 4) (h : s.canWrite i (Reg.CNV_Q_SNAP q)) :
    Ends (exec (.cnvSnap n i q v) s) { s with dev := if bit v 0 then (s.dev.tick n).snapReq q else s.dev.tick n } := by
  rw [exec_cnvSnap, decide_eq_true hq]
  exact hostRow_trigger h (qSnap_row q hq) (.inr (.inl rfl)) ⟨rfl, rfl, rfl⟩ (qSnap_ne q hq) (fun w => Dev.regAct_qSnap _ i hq w) rfl

theorem cnvSnapAll_ends {s : State} {i : Iface} (n : Nat) (v : Word) (h : s.canWrite i Reg.CNV_SNAP_ALL) :
    Ends (exec (.cnvSnapAll n i v) s) { s with dev := if bit v 0 then (s.dev.tick n).snapReqs else s.dev.tick n } := by
  rw [exec_cnvSnapAll]
  exact hostRow_trigger h snapAll_row (.inr (.inl rfl)) ⟨rfl, rfl, rfl⟩ (by decide) (fun w => Dev.regAct_snapAll _ i w) rfl

/-! The latch (R139, R140). -/

section
variable (d : Dev)

/-- The corrected word of a channel copied to its snapshot register. -/
def Dev.snapWord (c : Nat) : Dev := d.wr (Reg.CNV_CH_SNAP c) (w32i (d.chan c).word)

/-- The corrected words of a quadrant copied. -/
def Dev.snapWords (q : Nat) : Dev := (quadChs q).foldl Dev.snapWord d

/-- The latch of a quadrant that asked. -/
def Dev.snapLatched (q : Nat) : Dev := ((d.modQuad q (fun u => { u with snap := false })).snapWords q).incW (Reg.CNV_Q_SNAP_SEQ q) 1

/-- The latch of a quadrant, which does nothing where it did not ask. -/
def Dev.snapTake (q : Nat) : Dev := if (d.quad q).snap then d.snapLatched q else d

theorem Dev.snapLatch_eq : d.snapLatch = foldUp 4 (fun q d => d.snapTake q) d := rfl

theorem Dev.snapWord_rd_same (c : Nat) : (d.snapWord c).rd (Reg.CNV_CH_SNAP c) = w32i ((d.snapWord c).chan c).word := Dev.rd_wr_same _ _ _

theorem Dev.snapWords_loc (q : Nat) : (d.snapWords q).loc = d.loc := foldl_keeps Dev.loc _ Dev.snapWord (fun _ _ => rfl) d

theorem Dev.snapWords_rd_ne {q a : Nat} (h : ∀ c, c / 48 = q → a ≠ Reg.CNV_CH_SNAP c) : (d.snapWords q).rd a = d.rd a :=
  foldl_keeps_mem (f := Dev.snapWord) (Dev.rd · a) (fun _ c hc => Dev.rd_wr_ne _ (h c (Dev.mem_quadChs.mp hc)) _) d

theorem Dev.snapWords_rd {q c : Nat} (hc : c / 48 = q) : (d.snapWords q).rd (Reg.CNV_CH_SNAP c) = w32i (d.chan c).word := by
  have hcopied : (d.snapWords q).rd (Reg.CNV_CH_SNAP c) = w32i ((d.snapWords q).chan c).word := by
    refine foldl_reaches (f := Dev.snapWord) (fun e => e.rd (Reg.CNV_CH_SNAP c) = w32i (e.chan c).word) (Dev.mem_quadChs.mpr hc)
      (fun e => e.snapWord_rd_same c) (fun e y _ he => ?_) d
    obtain rfl | hne := eq_or_ne c y
    · exact e.snapWord_rd_same c
    · exact (Dev.rd_wr_ne _ (by unfold Reg.CNV_CH_SNAP; omega) _).trans he
  rw [hcopied, Dev.chan_congr (d.snapWords_loc q)]

theorem Dev.snapLatched_loc (q : Nat) : (d.snapLatched q).loc = (d.modQuad q (fun u => { u with snap := false })).loc := by
  rw [Dev.snapLatched, Dev.incW, Dev.wrN, Dev.wr_loc, Dev.snapWords_loc]

theorem Dev.snapLatched_rd_ne {q a : Nat} (hseq : a ≠ Reg.CNV_Q_SNAP_SEQ q) (hword : ∀ c, c / 48 = q → a ≠ Reg.CNV_CH_SNAP c) :
    (d.snapLatched q).rd a = d.rd a :=
  (Dev.rd_wrN_ne _ hseq _).trans (Dev.snapWords_rd_ne _ hword)

theorem Dev.snapLatched_word {q c : Nat} (hc : c / 48 = q) : (d.snapLatched q).rd (Reg.CNV_CH_SNAP c) = w32i (d.chan c).word :=
  (Dev.rd_wrN_ne _ (by unfold Reg.CNV_Q_SNAP_SEQ Reg.CNV_CH_SNAP; omega) _).trans (Dev.snapWords_rd _ hc)

theorem Dev.snapLatched_seq (q : Nat) : (d.snapLatched q).rd (Reg.CNV_Q_SNAP_SEQ q) = w32 (d.rdN (Reg.CNV_Q_SNAP_SEQ q) + 1) := by
  rw [Dev.snapLatched, Dev.incW, Dev.wrN, Dev.rd_wr_same, Dev.rdN, Dev.snapWords_rd_ne _ (by unfold Reg.CNV_Q_SNAP_SEQ Reg.CNV_CH_SNAP; omega)]
  rfl

/-- A quadrant that asks is one that the device has. -/
theorem Dev.lt_of_snap {q : Nat} (h : (d.quad q).snap = true) : q < d.loc.quads.length := by
  by_contra hlen
  rw [d.quad_absent hlen] at h
  exact Bool.false_ne_true h

/-- What the latch reads and writes of a quadrant: its state, the channels, its snapshot registers and SNAP_SEQ. -/
structure SnapView where
  quad : Quad
  chans : List (Nat × Chan)
  words : Fin 48 → Word
  seq : Word

/-- The view of quadrant `q`. -/
def Dev.snapView (q : Nat) : SnapView := ⟨d.quad q, d.loc.chans, fun j => d.rd (Reg.CNV_CH_SNAP (48 * q + j)), d.rd (Reg.CNV_Q_SNAP_SEQ q)⟩

/-- The view of a quadrant `q` that asked, after its latch. -/
def SnapView.latched (x : SnapView) (q : Nat) : SnapView :=
  ⟨{ x.quad with snap := false }, x.chans, fun j => w32i (tget Chan.start x.chans (48 * q + j)).word, w32 (x.seq.toNat + 1)⟩

theorem Dev.snapLatched_snapView {q : Nat} (h : (d.quad q).snap = true) : (d.snapLatched q).snapView q = (d.snapView q).latched q := by
  have hquad : (d.snapLatched q).quad q = { d.quad q with snap := false } := by
    rw [Dev.quad, d.snapLatched_loc, ← Dev.quad, d.quad_modQuad_same _ (d.lt_of_snap h)]
  have hword (j : Fin 48) : (d.snapLatched q).rd (Reg.CNV_CH_SNAP (48 * q + j)) = w32i (d.chan (48 * q + j)).word := d.snapLatched_word (by omega)
  simp only [Dev.snapView, SnapView.latched, hquad, d.snapLatched_loc, hword, d.snapLatched_seq]
  rfl

theorem Dev.snapLatched_snapView_ne {i q : Nat} (h : i ≠ q) : (d.snapLatched i).snapView q = d.snapView q := by
  have hquad : (d.snapLatched i).quad q = d.quad q := by
    rw [Dev.quad, d.snapLatched_loc, ← Dev.quad, d.quad_modQuad_ne _ h]
  have hword (j : Fin 48) : (d.snapLatched i).rd (Reg.CNV_CH_SNAP (48 * q + j)) = d.rd (Reg.CNV_CH_SNAP (48 * q + j)) :=
    d.snapLatched_rd_ne (by unfold Reg.CNV_Q_SNAP_SEQ Reg.CNV_CH_SNAP; omega) (by unfold Reg.CNV_CH_SNAP; omega)
  have hseq : (d.snapLatched i).rd (Reg.CNV_Q_SNAP_SEQ q) = d.rd (Reg.CNV_Q_SNAP_SEQ q) :=
    d.snapLatched_rd_ne (by unfold Reg.CNV_Q_SNAP_SEQ; omega) (by unfold Reg.CNV_Q_SNAP_SEQ Reg.CNV_CH_SNAP; omega)
  simp only [Dev.snapView, hquad, d.snapLatched_loc, hword, hseq]
  rfl

/-- The latch of all quadrants serves each apart. -/
theorem Dev.snapLatch_snapView {q : Nat} (hq : q < 4) :
    d.snapLatch.snapView q = if (d.quad q).snap then (d.snapView q).latched q else d.snapView q := by
  have hne (i : Nat) (e : Dev) (h : i ≠ q) : (e.snapTake i).snapView q = e.snapView q := by
    rw [Dev.snapTake, apply_ite (Dev.snapView · q), e.snapLatched_snapView_ne h, ite_self]
  have hsame (e : Dev) : (e.snapTake q).snapView q = if (e.snapView q).quad.snap then (e.snapView q).latched q else e.snapView q := by
    rw [Dev.snapTake, apply_ite (Dev.snapView · q)]
    exact ite_congr rfl e.snapLatched_snapView fun _ => rfl
  rw [d.snapLatch_eq, foldUp_at (g := (Dev.snapView · q)) (F := fun x => if x.quad.snap then x.latched q else x) (fun i _ e => hne i e) hsame, if_pos hq]
  rfl

/-- The wings' units and the acquisition, which a snapshot does not touch. -/
def Dev.besideSnap : Units × Acq := (d.units, d.acq)

theorem Dev.wrN_besideSnap (a v : Nat) : (d.wrN a v).besideSnap = d.besideSnap := rfl

theorem Dev.snapWords_besideSnap (q : Nat) : (d.snapWords q).besideSnap = d.besideSnap := foldl_keeps Dev.besideSnap _ Dev.snapWord (fun _ _ => rfl) d

theorem Dev.snapLatched_besideSnap (q : Nat) : (d.snapLatched q).besideSnap = d.besideSnap := by
  rw [Dev.snapLatched, Dev.incW, Dev.wrN_besideSnap, Dev.snapWords_besideSnap]
  rfl

theorem Dev.snapLatch_besideSnap : d.snapLatch.besideSnap = d.besideSnap := by
  have h (q : Nat) (e : Dev) : (e.snapTake q).besideSnap = e.besideSnap := by
    rw [Dev.snapTake, apply_ite Dev.besideSnap, e.snapLatched_besideSnap q, ite_self]
  rw [d.snapLatch_eq, foldUp_keeps Dev.besideSnap 4 _ h]

/-- A quadrant that asked holds the corrected words of its channels, counts them, and asks no longer. -/
theorem Dev.snapLatch_asked {q : Nat} (hq : q < 4) (h : (d.quad q).snap = true) :
    (∀ j < 48, d.snapLatch.rd (Reg.CNV_CH_SNAP (48 * q + j)) = w32i (d.chan (48 * q + j)).word) ∧
    d.snapLatch.rdN (Reg.CNV_Q_SNAP_SEQ q) = (d.rdN (Reg.CNV_Q_SNAP_SEQ q) + 1) % 2 ^ 32 ∧ (d.snapLatch.quad q).snap = false := by
  have hview := (d.snapLatch_snapView hq).trans (if_pos h)
  have hwords := congrArg SnapView.words hview
  have hseq := congrArg SnapView.seq hview
  have hquad := congrArg SnapView.quad hview
  exact ⟨fun j hj => congrFun hwords ⟨j, hj⟩, (congrArg BitVec.toNat hseq).trans (w32_toNat _), congrArg Quad.snap hquad⟩

theorem Dev.snapLatch_unasked {q : Nat} (hq : q < 4) (h : (d.quad q).snap = false) :
    (∀ j < 48, d.snapLatch.rd (Reg.CNV_CH_SNAP (48 * q + j)) = d.rd (Reg.CNV_CH_SNAP (48 * q + j))) ∧ d.snapLatch.quad q = d.quad q := by
  have hview := (d.snapLatch_snapView hq).trans (if_neg (Bool.not_eq_true _ ▸ h))
  have hwords := congrArg SnapView.words hview
  exact ⟨fun j hj => congrFun hwords ⟨j, hj⟩, congrArg SnapView.quad hview⟩

end

/-- Settles O17: each request acts by bit 0 of its write (`cnvSnap_ends`, `cnvSnapAll_ends`), and the latch serves each quadrant apart
(`Dev.snapLatch_snapView`). -/
theorem snapshots : Obligations.Snapshots := by
  unfold Obligations.Snapshots
  refine ⟨fun s n i v q hq hv => ⟨fun h => ?_, fun h => ?_⟩, fun s n i v q hq hv => ⟨fun h => ?_, fun h => ?_⟩, fun s n hboot => ?_⟩
  · have hends := cnvSnap_ends n v hq h
    rwa [if_pos hv] at hends
  · have hends := cnvSnapAll_ends n v h
    rw [if_pos hv] at hends
    exact hends.with fun _ _ _ _ _ => ⟨Dev.snapReqs_quads _, Dev.snapReqs_regs _, rfl⟩
  · have hends := cnvSnap_ends n v hq h
    rwa [if_neg (ne_true_of_eq_false hv)] at hends
  · have hends := cnvSnapAll_ends n v h
    rwa [if_neg (ne_true_of_eq_false hv)] at hends
  · rw [exec_snapshotLatch]
    have hends := convRow_ends n Dev.snapLatch hboot rfl
    have hasked (q : Nat) := (s.dev.tick n).snapLatch_asked (q := q)
    have hunasked (q : Nat) := (s.dev.tick n).snapLatch_unasked (q := q)
    have hbeside := (s.dev.tick n).snapLatch_besideSnap
    generalize (s.dev.tick n).snapLatch = e at *
    exact hends.with fun _ _ _ _ _ => ⟨hasked, hunasked, congrArg Prod.fst hbeside, congrArg Prod.snd hbeside, rfl⟩

end Sys2Proof.Machine

/-! Injection requests, and reading and consuming results (O18). -/

namespace Sys2Proof.Machine

/-! CK_INJ (R158, R159). -/

section
variable (d : Dev)

theorem Dev.regAct_ckInj (i : Iface) {k : Nat} (hk : k < 16) (w : Word) : d.regAct i (Reg.CNV_CK_INJ k) w = d.ckInject k (bits w 7 0) := by
  rw [regAct_eq]
  interval_cases k <;> rfl

theorem Dev.ckInject_resetCtr (k ch : Nat) : (d.ckInject k ch).resetCtr = d.resetCtr := by
  simp only [Dev.ckInject, apply_ite Dev.resetCtr]
  exact ite_self _

theorem Dev.ckInject_refused {k ch o : Nat} (ho : d.injOutcome k ch = o) (h : 2 ≤ o) :
    d.ckInject k ch = (d.modCk k (fun c => { c with last := o })).raise Reg.CNV_INT_STATUS 3 := by
  simp only [Dev.ckInject, ho, if_pos h, if_neg (show o ≠ 0 by omega)]

theorem Dev.ckInject_merged {k ch : Nat} (ho : d.injOutcome k ch = 1) : d.ckInject k ch = d.modCk k (fun c => { c with last := 1 }) := by
  simp [Dev.ckInject, ho]

theorem Dev.ckInject_accepted {k ch : Nat} (ho : d.injOutcome k ch = 0) :
    d.ckInject k ch = d.modCk k (fun c => { c with last := 0, queue := c.queue ++ [ch] }) := by
  simp [Dev.ckInject, ho]

section
variable {d} {k ch : Nat}

theorem Dev.injOutcome_notServed (h : ch / 12 ≠ k) : d.injOutcome k ch = 3 := if_pos h

variable (hk : ch / 12 = k)
include hk

theorem Dev.injOutcome_disabled (h : d.chHas ch 11 = true) : d.injOutcome k ch = 4 := by simp [Dev.injOutcome, hk, h]

variable (hon : d.chHas ch 11 = false)
include hon

theorem Dev.injOutcome_merged (h : ch ∈ (d.ck k).queue) : d.injOutcome k ch = 1 := by simp [Dev.injOutcome, hk, hon, h]

variable (hnew : ch ∉ (d.ck k).queue)
include hnew

theorem Dev.injOutcome_full (h : 4 ≤ (d.ck k).queue.length) : d.injOutcome k ch = 2 := by simp [Dev.injOutcome, hk, hon, hnew, h]

theorem Dev.injOutcome_accepted (h : (d.ck k).queue.length < 4) : d.injOutcome k ch = 0 := by simp [Dev.injOutcome, hk, hon, hnew, h]

end

end

theorem ckInj_row : ∀ k < 16, regAt (Reg.CNV_CK_INJ k) = some ⟨0x40400, [(0x40, 16)], .wo, 0x0, 0xFF, 0xFF, []⟩ := by decide +kernel

theorem ckInj_ne : ∀ k < 16, Reg.CNV_CK_INJ k ≠ Reg.GLB_CTL ∧ Reg.CNV_CK_INJ k ≠ Reg.GLB_RESET_CTL ∧
    (∀ p < 2, Reg.CNV_CK_INJ k ≠ Reg.REC_RP_QUOTA p) ∧ ∀ p < 8, Reg.CNV_CK_INJ k ≠ Reg.TST_PORT_GEN p := by decide

theorem ckInj_ends {s : State} {k : Nat} {i : Iface} (n : Nat) (v : Word) (hk : k < 16) (h : s.canWrite i (Reg.CNV_CK_INJ k)) :
    Ends (exec (.ckInj n i k v) s) { s with dev := (s.dev.tick n).ckInject k (bits v 7 0) } := by
  rw [exec_ckInj, decide_eq_true hk]
  refine hostRow_act h (ckInj_row k hk) (.inr (.inl rfl)) rfl (ckInj_ne k hk) ?_ (Dev.ckInject_resetCtr _ _ _)
  rw [Dev.regAct_ckInj _ i hk]
  exact congrArg _ (bits_held _ v (m := 0xFF) (by decide +revert))

/-! Reads of a result (R163 to R166, R866). -/

/-- An address in the block of element `k` of an array names that element. -/
theorem elemOf_elem {base stride n k off : Nat} (hk : k < n) (hoff : off < stride) : elemOf base stride n (base + stride * k + off) = k := by
  have hdiv : (base + stride * k + off - base) / stride = k := by
    rw [Nat.add_assoc, Nat.add_sub_cancel_left, Nat.mul_add_div (by omega), Nat.div_eq_of_lt hoff, Nat.add_zero]
  rw [elemOf, hdiv, if_pos]
  simp only [Bool.and_eq_true, decide_eq_true_eq]
  exact ⟨by omega, hk⟩

section
variable (d : Dev)

theorem Dev.latched_latch_same (i : Iface) (a : Nat) (v : Word) : (d.latch i a v).latched i a = v := tget_tset_same _ _ _ _

theorem Dev.latched_latch_ne (i : Iface) {a b : Nat} (h : b ≠ a) (v : Word) : (d.latch i a v).latched i b = d.latched i b :=
  tget_tset_ne _ _ _ (by omega) _

/-- A view holds each of its words. -/
theorem Dev.latched_view (i : Iface) (a : Nat) {n j : Nat} (f : Nat → Word) (h : j < n) : (d.view i a n f).latched i (a + 4 * j) = f j := by
  induction n with
  | zero => omega
  | succ n ih =>
    rw [Dev.view, foldUp]
    obtain rfl | hne := eq_or_ne j n
    · exact Dev.latched_latch_same _ _ _ _
    · rw [Dev.latched_latch_ne _ _ (by omega)]
      exact ih (by omega)

theorem Dev.view_rest (i : Iface) (a n : Nat) (f : Nat → Word) : (d.view i a n f).loc = d.loc ∧ (d.view i a n f).regs = d.regs := by
  rw [Dev.view]
  exact ⟨foldUp_keeps Dev.loc n (fun j e => e.latch i (a + 4 * j) (f j)) (fun _ _ => rfl) d,
    foldUp_keeps Dev.regs n (fun j e => e.latch i (a + 4 * j) (f j)) (fun _ _ => rfl) d⟩

theorem Dev.capture_resStatus (i : Iface) {k : Nat} (hk : k < 16) : d.capture i (Reg.CNV_CK_RES_STATUS k) = some (d.ckCapture i k) := by
  have helem : elemOf (Reg.CNV_CK_RES_STATUS 0) 0x40 16 (Reg.CNV_CK_RES_STATUS k) = k := elemOf_elem (off := 0) hk (by decide)
  rw [Dev.capture, helem]
  exact if_pos rfl

theorem Dev.capture_resConsume (i : Iface) {k : Nat} (hk : k < 16) : d.capture i (Reg.CNV_CK_RES_CONSUME k) = some (d.ckConsume i k) := by
  have helem : elemOf (Reg.CNV_CK_RES_STATUS 0) 0x40 16 (Reg.CNV_CK_RES_CONSUME k) = k := by
    have haddr : Reg.CNV_CK_RES_CONSUME k = Reg.CNV_CK_RES_STATUS 0 + 0x40 * k + 0x18 := by unfold Reg.CNV_CK_RES_CONSUME Reg.CNV_CK_RES_STATUS; omega
    rw [haddr]
    exact elemOf_elem hk (by decide)
  have hne : Reg.CNV_CK_RES_CONSUME k ≠ Reg.CNV_CK_RES_STATUS k := by unfold Reg.CNV_CK_RES_CONSUME Reg.CNV_CK_RES_STATUS; omega
  rw [Dev.capture, helem]
  exact (if_neg hne).trans (if_pos rfl)

theorem rowRead_capture {d e : Dev} {i : Iface} {a : Nat} {v : Word} (ctl : Word) (r : RegRow) (h : d.capture i a = some (v, e)) :
    d.rowRead ctl r i a = (v, e) := by
  simp only [Dev.rowRead, h]

/-- A change of a converter depends on what it makes of that converter alone. -/
theorem Dev.modCk_congr {k : Nat} {f g : Ck → Ck} (h : f (d.ck k) = g (d.ck k)) : d.modCk k f = d.modCk k g := by
  have hlist : lmod d.loc.cks k f = lmod d.loc.cks k g := by
    rw [lmod_eq_modify, lmod_eq_modify]
    refine List.ext_getElem? fun j => ?_
    rw [List.getElem?_modify, List.getElem?_modify]
    split
    case isTrue hj =>
      subst hj
      cases hk : d.loc.cks[k]? with
      | none => rfl
      | some c =>
        have hc : d.ck k = c := by rw [Dev.ck, List.getD_eq_getElem?_getD, hk, Option.getD_some]
        simp [← hc, h]
    case isFalse => rfl
  rw [Dev.modCk, hlist, ← Dev.modCk]

/-- The back buffer promoted, or VALID cleared where there is none. -/
def Ck.consumed (c : Ck) : Ck :=
  match c.back with
  | some r => { c with front := some r, valid := true, back := none }
  | none => { c with valid := false }

theorem Dev.ckConsume_eq (i : Iface) (k : Nat) : d.ckConsume i k = (ckStatus (d.ck k), (d.ckCapture i k).2.modCk k Ck.consumed) := rfl

/-- The words of a result, in the order of its registers. -/
def CkRes.word (r : CkRes) (j : Nat) : Word :=
  if j = 0 then w32i r.ic else if j = 1 then w32i r.qc else if j = 2 then w32i r.id' else if j = 3 then w32i r.qd else w32 r.err

theorem Dev.ckCapture_rest (i : Iface) (k : Nat) : (d.ckCapture i k).2.loc = d.loc ∧ (d.ckCapture i k).2.regs = d.regs := d.view_rest _ _ _ _

theorem Dev.ckCapture_latched (i : Iface) {k j : Nat} {r : CkRes} (h : (d.ck k).front = some r) (hj : j < 5) :
    (d.ckCapture i k).2.latched i (Reg.CNV_CK_RES_IC k + 4 * j) = r.word j := by
  simp only [Dev.ckCapture, h]
  exact Dev.latched_view _ _ _ _ hj

/-- The registers of a result read its words. -/
theorem Dev.ckCapture_view (i : Iface) {k : Nat} {r : CkRes} (h : (d.ck k).front = some r) :
    (d.ckCapture i k).2.latched i (Reg.CNV_CK_RES_IC k) = w32i r.ic ∧ (d.ckCapture i k).2.latched i (Reg.CNV_CK_RES_QC k) = w32i r.qc ∧
    (d.ckCapture i k).2.latched i (Reg.CNV_CK_RES_ID k) = w32i r.id' ∧ (d.ckCapture i k).2.latched i (Reg.CNV_CK_RES_QD k) = w32i r.qd ∧
    (d.ckCapture i k).2.latched i (Reg.CNV_CK_RES_ERR k) = w32 r.err := by
  have hword (j a : Nat) (hj : j < 5) (ha : a = Reg.CNV_CK_RES_IC k + 4 * j) : (d.ckCapture i k).2.latched i a = r.word j := ha ▸ d.ckCapture_latched i h hj
  unfold Reg.CNV_CK_RES_QC Reg.CNV_CK_RES_ID Reg.CNV_CK_RES_QD Reg.CNV_CK_RES_ERR
  refine ⟨hword 0 _ (by decide) rfl, hword 1 _ (by decide) ?_, hword 2 _ (by decide) ?_, hword 3 _ (by decide) ?_, hword 4 _ (by decide) ?_⟩ <;>
    unfold Reg.CNV_CK_RES_IC <;> omega

theorem Ck.consumed_back {c : Ck} {r : CkRes} (h : c.back = some r) : c.consumed = { c with front := some r, valid := true, back := none } := by
  simp only [Ck.consumed, h]

theorem Ck.consumed_none {c : Ck} (h : c.back = none) : c.consumed = { c with valid := false } := by simp only [Ck.consumed, h]

/-- What a converter's state becomes by its result being consumed. -/
theorem Dev.ckConsume_loc (i : Iface) {k : Nat} {f : Ck → Ck} (h : (d.ck k).consumed = f (d.ck k)) : (d.ckConsume i k).2.loc = (d.modCk k f).loc := by
  rw [← d.modCk_congr h, Dev.ckConsume_eq]
  simp only [Dev.modCk, (d.ckCapture_rest i k).1]

theorem Dev.ckConsume_regs (i : Iface) (k : Nat) : (d.ckConsume i k).2.regs = d.regs := (d.ckCapture_rest i k).2

theorem Dev.answer_rest (i : Iface) (v : Word) : (d.answer i v).loc = d.loc ∧ (d.answer i v).regs = d.regs ∧
    ∀ j a, (d.answer i v).latched j a = d.latched j a := by
  unfold Dev.answer
  split
  · exact ⟨rfl, rfl, fun _ _ => rfl⟩
  · exact ⟨rfl, rfl, fun _ _ => rfl⟩

end

theorem resStatus_row : ∀ k < 16, regAt (Reg.CNV_CK_RES_STATUS k) = some ⟨0x40408, [(0x40, 16)], .ro, 0x0, 0x0, 0x0, []⟩ := by decide +kernel

theorem resConsume_row : ∀ k < 16, regAt (Reg.CNV_CK_RES_CONSUME k) = some ⟨0x40420, [(0x40, 16)], .rc, 0x0, 0x0, 0x0, []⟩ := by decide +kernel

/-- A read that captures: the data on the interface that reads, and the machine of the capture but for those data. -/
theorem readRow_capture {s : State} {n : Nat} {i : Iface} {a : Nat} {r : RegRow} {v : Word} {e : Dev} (h : s.canRead a) (hr : regAt a = some r)
    (hcap : (s.dev.tick n).capture i a = some (v, e)) : EndsWith (readRow s n true i a) (fun t =>
      (if i = .spi then t.dev.host.rdataS else t.dev.host.rdataP) = v ∧ t.dev.loc = e.loc ∧ t.dev.regs = e.regs ∧
      ∀ b, t.dev.latched i b = e.latched i b) := by
  obtain ⟨hloc, hregs, hlatch⟩ := e.answer_rest i v
  refine (readRow_ends h hr (rowRead_capture _ r hcap)).with fun _ _ _ _ _ => ⟨?_, hloc, hregs, hlatch i⟩
  cases i <;> rfl

theorem EndsWith.mono {o : Host.Outcome State Fault Refusal} {P Q : State → Prop} (h : EndsWith o P) (hpq : ∀ t, P t → Q t) : EndsWith o Q := by
  obtain ⟨t, ho, hp⟩ := h
  exact ⟨t, ho, hpq t hp⟩

/-- Settles O18: the outcome of a request (`Dev.injOutcome_notServed` to `Dev.injOutcome_accepted`) decides what it leaves (`Dev.ckInject_refused`,
`Dev.ckInject_merged`, `Dev.ckInject_accepted`), and both reads capture (`readRow_capture`), of which RES_CONSUME changes its converter too
(`Dev.ckConsume_loc`). -/
theorem injectedChecksAndResults : Obligations.InjectedChecksAndResults := by
  unfold Obligations.InjectedChecksAndResults
  refine ⟨fun s n k i v hk h => ?requests, fun s n k i hk => ⟨fun h => ?status, fun h => ?consume⟩⟩
  case requests =>
    intro ch put
    have hends := ckInj_ends n v hk h
    have hflag : (s.dev.tick n).chHas ch 11 = s.dev.chHas ch 11 := rfl
    have hck : (s.dev.tick n).ck k = s.dev.ck k := rfl
    rw [← hflag, ← hck]
    generalize s.dev.tick n = d at *
    refine ⟨fun hch => ?_, fun hch hoff => ?_, fun hch hon hin => ?_, fun hch hon hnew hfull => ?_, fun hch hon hnew hroom => ?_⟩
    · rwa [Dev.ckInject_refused _ (Dev.injOutcome_notServed hch) (by decide)] at hends
    · rwa [Dev.ckInject_refused _ (Dev.injOutcome_disabled hch hoff) (by decide)] at hends
    · rwa [Dev.ckInject_merged _ (Dev.injOutcome_merged hch hon hin)] at hends
    · rwa [Dev.ckInject_refused _ (Dev.injOutcome_full hch hon hnew hfull) (by decide)] at hends
    · rwa [Dev.ckInject_accepted _ (Dev.injOutcome_accepted hch hon hnew hroom)] at hends
  case status =>
    rw [exec_resStatusRead, decide_eq_true hk]
    obtain ⟨hloc, hregs⟩ := (s.dev.tick n).ckCapture_rest i k
    have hview (r : CkRes) := (s.dev.tick n).ckCapture_view i (k := k) (r := r)
    refine (readRow_capture h (resStatus_row k hk) (Dev.capture_resStatus _ i hk)).mono fun t ⟨hdata, htloc, htregs, htlatch⟩ => ?_
    simp only [htlatch]
    exact ⟨hdata, htloc.trans hloc, htregs.trans hregs, hview⟩
  case consume =>
    rw [exec_resConsume, decide_eq_true hk]
    refine (readRow_capture h (resConsume_row k hk) (Dev.capture_resConsume _ i hk)).mono fun t ⟨hdata, htloc, htregs, _⟩ => ?_
    exact ⟨hdata, htregs.trans (Dev.ckConsume_regs _ i k), fun r hback => htloc.trans (Dev.ckConsume_loc _ i (Ck.consumed_back hback)),
      fun hnone => htloc.trans (Dev.ckConsume_loc _ i (Ck.consumed_none hnone))⟩

end Sys2Proof.Machine

/-! The FIR banks of a channel position and their coefficients (O19). -/

namespace Sys2Proof.Machine

/-! Writes to the registers of block FLT that act. -/

theorem elemOf_lt (base stride a : Nat) {n : Nat} (h : 0 < n) : elemOf base stride n a < n := by
  unfold elemOf
  split
  case isTrue hin => exact of_decide_eq_true (Bool.and_eq_true_iff.mp hin).2
  case isFalse => exact h

/-- A register of block FLT is none of those that a write treats apart. -/
theorem fltReg_ne {a : Nat} (hlo : 0x80000 ≤ a) (hhi : a < 0xC0000) : a ≠ Reg.GLB_CTL ∧ a ≠ Reg.GLB_RESET_CTL ∧
    (∀ p < 2, a ≠ Reg.REC_RP_QUOTA p) ∧ ∀ p < 8, a ≠ Reg.TST_PORT_GEN p := by
  unfold Reg.GLB_CTL Reg.GLB_RESET_CTL Reg.REC_RP_QUOTA Reg.TST_PORT_GEN
  exact ⟨by omega, by omega, fun _ _ => by omega, fun _ _ => by omega⟩

section
variable (d : Dev)

/-- The writes to a channel's registers of block FLT that act: SWAP and FREEZE_CTL. -/
theorem Dev.actLocal_fltCh {a : Nat} (hlo : 0x81000 ≤ a) (hhi : a < 0x85000) (w : Word) : d.actLocal a w =
    if a = Reg.FLT_CH_SWAP (elemOf (Reg.FLT_CH_SWAP 0) 0x40 256 a) then some (d.firSwap (elemOf (Reg.FLT_CH_SWAP 0) 0x40 256 a) (bits w 0 0))
    else if a = Reg.FLT_CH_FREEZE_CTL (elemOf (Reg.FLT_CH_FREEZE_CTL 0) 0x40 256 a) then
      some (d.freezeCtl (elemOf (Reg.FLT_CH_FREEZE_CTL 0) 0x40 256 a) w)
    else none := by
  have harm := elemOf_lt (Reg.TIM_PPS_TOD_ARM 0) 0x20 a (n := 2) (by decide)
  have hsnap := elemOf_lt (Reg.CNV_Q_SNAP 0) 0x20 a (n := 4) (by decide)
  have hinj := elemOf_lt (Reg.CNV_CK_INJ 0) 0x40 a (n := 16) (by decide)
  unfold Dev.actLocal
  dsimp only
  generalize elemOf (Reg.TIM_PPS_TOD_ARM 0) 0x20 2 a = n at *
  generalize elemOf (Reg.CNV_Q_SNAP 0) 0x20 4 a = q at *
  generalize elemOf (Reg.CNV_CK_INJ 0) 0x40 16 a = k at *
  rw [if_neg (by unfold Reg.TIM_SNAP; omega), if_neg (by unfold Reg.TIM_PPS_TOD_ARM; omega), if_neg (by unfold Reg.CNV_CAL_CTL; omega),
    if_neg (by unfold Reg.CNV_SNAP_ALL; omega), if_neg (by unfold Reg.CNV_Q_SNAP; omega), if_neg (by unfold Reg.CNV_CK_INJ; omega),
    if_neg (by unfold Reg.FLT_COEF_DATA; omega)]
  refine ite_congr rfl (fun _ => rfl) fun _ => ite_congr rfl (fun _ => rfl) fun _ => ?_
  exact if_neg (by unfold Reg.PHS_AO_UNLATCH; omega)

theorem Dev.action_local {a : Nat} (i : Iface) (w : Word) (hlo : 0x20000 ≤ a) (hhi : a < 0x100000) : d.action i a w = d.actLocal a w := by
  rw [Dev.action, if_neg (by omega), if_neg (by omega), if_pos hhi]

theorem Dev.regAct_swap (i : Iface) {c : Nat} (hc : c < 256) (w : Word) : d.regAct i (Reg.FLT_CH_SWAP c) w = d.firSwap c (bits w 0 0) := by
  have helem : elemOf (Reg.FLT_CH_SWAP 0) 0x40 256 (Reg.FLT_CH_SWAP c) = c := elemOf_elem (off := 0) hc (by decide)
  have hlo : 0x81000 ≤ Reg.FLT_CH_SWAP c := by unfold Reg.FLT_CH_SWAP; omega
  have hhi : Reg.FLT_CH_SWAP c < 0x85000 := by unfold Reg.FLT_CH_SWAP; omega
  rw [regAct_eq, Dev.action_local d i w (by omega) (by omega), Dev.actLocal_fltCh d hlo hhi, helem, if_pos rfl, Option.getD_some]

/-! FIR_SWAP (R200). -/

variable {d}

theorem Dev.modChan_congr {n : Nat} {f g : Chan → Chan} (h : f (d.chan n) = g (d.chan n)) : d.modChan n f = d.modChan n g := by
  rw [Dev.modChan, h, ← Dev.modChan]

variable {c target : Nat}

theorem Dev.firSwap_live (hfade : (d.chan c).fade = none) (hlive : target = (d.chan c).live) :
    d.firSwap c target = d.modChan c (fun x => { x with swapLast := 2 }) := by
  unfold Dev.firSwap
  exact Dev.modChan_congr (by simp only [hfade, hlive, if_true])

theorem Dev.firSwap_start (hfade : (d.chan c).fade = none) (hlive : target ≠ (d.chan c).live) : d.firSwap c target =
    d.modChan c (fun x => { x with swapLast := 1, fade := some ⟨target, max 1 (d.fld (Reg.FLT_CH_XF_LEN c) 15 0), 0, some d.tim.clk⟩ }) := by
  unfold Dev.firSwap
  exact Dev.modChan_congr (by simp only [hfade, if_neg hlive])

theorem Dev.firSwap_pend (hfade : (d.chan c).fade ≠ none) : d.firSwap c target =
    d.modChan c (fun x => { x with swapLast := (if x.pend.isSome then 4 else 3), pend := some (target, max 1 (d.fld (Reg.FLT_CH_XF_LEN c) 15 0)) }) := by
  obtain ⟨f, hf⟩ := Option.ne_none_iff_exists'.mp hfade
  unfold Dev.firSwap
  refine Dev.modChan_congr ?_
  simp only [hf]
  split
  · rfl
  · rfl

/-! FADE_DONE (R202, R203). -/

/-- A channel position whose fade has run its length: the incoming bank is LIVE, and a pending request that names the other one starts at the next tick. -/
def Chan.faded (f : Fade) (x : Chan) : Chan :=
  match x.pend with
  | none => { x with live := f.bank, fade := none }
  | some (b, l) =>
    if b = f.bank then { x with live := f.bank, pend := none, fade := none } else { x with live := f.bank, pend := none, fade := some ⟨b, l, 0, some 0⟩ }

theorem Dev.fadeDone_none (h : (d.chan c).fade = none) : d.fadeDone c = d := by simp only [Dev.fadeDone, h]

section
variable {f : Fade} (h : (d.chan c).fade = some f)
include h

theorem Dev.fadeDone_still (hrun : f.waiting ≠ none ∨ f.k < f.len) : d.fadeDone c = d := by
  simp only [Dev.fadeDone, h]
  refine if_neg fun hdone => ?_
  obtain ⟨hbegun, hlen⟩ := Bool.and_eq_true_iff.mp hdone
  exact hrun.elim (· (Option.isNone_iff_eq_none.mp hbegun)) (Nat.not_lt.mpr (of_decide_eq_true hlen))

theorem Dev.fadeDone_due (hbegun : f.waiting = none) (hlen : f.len ≤ f.k) :
    d.fadeDone c = (d.modChan c (Chan.faded f)).raise Reg.FLT_INT_STATUS 1 := by
  simp only [Dev.fadeDone, h, hbegun, Option.isNone_none, Bool.true_and, decide_eq_true hlen, if_true]
  refine congrArg (Dev.raise · _ _) (Dev.modChan_congr ?_)
  unfold Chan.faded
  generalize d.chan c = x
  obtain hp | ⟨⟨b, l⟩, hp⟩ := Option.eq_none_or_eq_some x.pend
  · simp only [hp]
  · simp only [hp]

end

/-! COEF_WRITE and COEF_READ (R204, R243). -/

/-- An entry put in a table is the first of its key. -/
theorem find?_tput {α : Type} (t : List (Nat × α)) (q : Nat) (v : α) : (tput t q v).find? (fun x => x.1 == q) = some (q, v) := by
  induction t with
  | nil => simp [tput]
  | cons x r ih =>
    obtain ⟨k, w⟩ := x
    unfold tput
    split
    case isTrue => simp
    case isFalse =>
      split
      case isTrue => simp
      case isFalse hne => rw [List.find?_cons_of_neg (by simpa using Ne.symm hne), ih]

/-- A machine with a coefficient stored. -/
def Dev.putCoef (d : Dev) (n bank tap : Nat) (v : Int) : Dev := { d with loc := { d.loc with coef := tput d.loc.coef (128 * n + 64 * bank + tap) v } }

theorem Dev.coefOf_putCoef (n bank tap : Nat) (v : Int) : (d.putCoef n bank tap v).coefOf n bank tap = v := by
  simp only [Dev.coefOf, Dev.putCoef, find?_tput, Option.elim]

theorem Dev.nextTap_tap : d.nextTap.fld Reg.FLT_COEF_SEL 21 16 = (d.fld Reg.FLT_COEF_SEL 21 16 + 1) % 64 := by
  rw [Dev.nextTap, Dev.fld_putF _ _ _ _ _ (by decide)]
  exact Nat.mod_mod _ _

theorem Dev.nextTap_sel : d.nextTap.fld Reg.FLT_COEF_SEL 8 0 = d.fld Reg.FLT_COEF_SEL 8 0 :=
  Dev.fld_putF_ne _ _ _ _ _ _ _ _ (by decide) (.inr (.inl (by decide)))

theorem Dev.nextTap_rd_ne {a : Nat} (h : a ≠ Reg.FLT_COEF_SEL) : d.nextTap.rd a = d.rd a := Dev.rd_putF_ne _ h _ _ _

theorem Dev.coefWrite_locked (w : Word) (h : bankLocked (d.chan (d.fld Reg.FLT_COEF_SEL 7 0)) (d.fld Reg.FLT_COEF_SEL 8 8) = true) : d.coefWrite w =
    (d.wrN Reg.FLT_ERR (1 + d.fld Reg.FLT_COEF_SEL 7 0 * 2 ^ 8 + d.fld Reg.FLT_COEF_SEL 21 16 * 2 ^ 16 + d.fld Reg.FLT_COEF_SEL 8 8 * 2 ^ 22)).raise
      Reg.FLT_INT_STATUS 2 := if_pos h

theorem Dev.coefWrite_free (w : Word) (h : bankLocked (d.chan (d.fld Reg.FLT_COEF_SEL 7 0)) (d.fld Reg.FLT_COEF_SEL 8 8) = false) : d.coefWrite w =
    (d.putCoef (d.fld Reg.FLT_COEF_SEL 7 0) (d.fld Reg.FLT_COEF_SEL 8 8) (d.fld Reg.FLT_COEF_SEL 21 16) (sx 24 w.toNat)).nextTap :=
  if_neg (ne_true_of_eq_false h)

theorem Dev.raise_resetCtr (a k : Nat) : (d.raise a k).resetCtr = d.resetCtr := rfl

theorem Dev.coefWrite_resetCtr (w : Word) : (d.coefWrite w).resetCtr = d.resetCtr := by
  cases h : bankLocked (d.chan (d.fld Reg.FLT_COEF_SEL 7 0)) (d.fld Reg.FLT_COEF_SEL 8 8) with
  | false =>
    rw [Dev.coefWrite_free w h, Dev.nextTap, Dev.putF, Dev.wr_resetCtr, Dev.putCoef]
  | true =>
    rw [Dev.coefWrite_locked w h, Dev.raise_resetCtr, Dev.wrN, Dev.wr_resetCtr]

/-- A coefficient is the 24 low bits of its word. -/
theorem sx_24_bits (w : Word) : sx 24 (bits w 23 0) = sx 24 w.toNat := by
  simp only [sx, bits, Nat.shiftRight_zero, Nat.mod_mod]

end

theorem swap_row {c : Nat} (hc : c < 256) : regAt (Reg.FLT_CH_SWAP c) = some ⟨0x8100C, [(0x40, 256)], .wo, 0x0, 0x1, 0x1, []⟩ := by
  have hall : (List.range 256).all (fun c => decide (regAt (Reg.FLT_CH_SWAP c) = some ⟨0x8100C, [(0x40, 256)], .wo, 0x0, 0x1, 0x1, []⟩)) = true := by
    decide +kernel
  exact of_decide_eq_true (List.all_eq_true.mp hall c (List.mem_range.mpr hc))

theorem firSwap_ends {s : State} {c : Nat} {i : Iface} (n : Nat) (v : Word) (hc : c < 256) (h : s.canWrite i (Reg.FLT_CH_SWAP c)) :
    Ends (exec (.firSwap n i c v) s) { s with dev := (s.dev.tick n).firSwap c (bits v 0 0) } := by
  rw [exec_firSwap, decide_eq_true hc]
  refine hostRow_act h (swap_row hc) (.inr (.inl rfl)) rfl (fltReg_ne (by unfold Reg.FLT_CH_SWAP; omega) (by unfold Reg.FLT_CH_SWAP; omega)) ?_ rfl
  rw [Dev.regAct_swap _ i hc]
  exact congrArg _ (bits_held _ v (m := 1) (by decide +revert))

theorem coefData_row : regAt Reg.FLT_COEF_DATA = some ⟨0x80034, [], .rw, 0x0, 0xFFFFFF, 0x0, []⟩ := by decide +kernel

/-- What a write to FLT_COEF_DATA ends in: the action of a word with the 24 low bits of the data. -/
theorem coefWrite_ends {s : State} {i : Iface} (n : Nat) (v : Word) (h : s.canWrite i Reg.FLT_COEF_DATA) :
    ∃ w : Word, sx 24 w.toNat = sx 24 v.toNat ∧ Ends (exec (.coefWrite n i v) s) { s with dev := (s.dev.tick n).coefWrite w } := by
  have hm (old : Word) : RegRow.merge ⟨0x80034, [], .rw, 0x0, 0xFFFFFF, 0x0, []⟩ old v = ((old &&& ~~~ w32 0xFFFFFF) ||| (v &&& w32 0xFFFFFF), false) := rfl
  refine ⟨_, ?_, hostRow_act h coefData_row (.inl rfl) (hm _) (fltReg_ne (by decide) (by decide)) rfl (Dev.coefWrite_resetCtr _)⟩
  rw [← sx_24_bits, bits_held _ _ (fun k _ hk => ⟨by omega, ?_⟩), sx_24_bits]
  interval_cases k <;> rfl

theorem Dev.capture_coefData (d : Dev) (i : Iface) : d.capture i Reg.FLT_COEF_DATA = some d.coefRead := by
  rw [Dev.capture]
  rfl

/-- A row of the running paths that leaves the machine of its tick, whatever its operands. -/
theorem runRow_idle {s : State} {t : Nat} {f : Dev → Dev} (ok : Bool) (hf : f (s.dev.tick t) = s.dev.tick t) :
    Ends (runRow s t ok f) { s with dev := s.dev.tick t } := by
  rw [runRow, hf, ite_self]
  exact Ends.of_done s _

/-- Settles O19: a request to swap starts, notes or pends (`Dev.firSwap_live` to `Dev.firSwap_pend`), the end of a fade leaves `Chan.faded` of its channel, and
a coefficient written or read advances the tap (`Dev.nextTap_tap`) unless its bank is locked (`Dev.coefWrite_locked`, `Dev.coefWrite_free`). -/
theorem firBanks : Obligations.FirBanks := by
  unfold Obligations.FirBanks
  refine ⟨fun s n c i v hc h => ?swap, fun s n c f hc hboot hfade => ?done, fun s n c hfade => ?idle, fun s n i v => ?coef⟩
  case swap =>
    intro len
    have hends := firSwap_ends n v hc h
    refine ⟨fun hfade hlive => ?_, fun hfade hlive => ?_, fun hfade => ?_⟩
    · rwa [Dev.firSwap_live (d := s.dev.tick n) hfade hlive] at hends
    · rwa [Dev.firSwap_start (d := s.dev.tick n) hfade hlive, Dev.tick_clk] at hends
    · rwa [Dev.firSwap_pend (d := s.dev.tick n) hfade] at hends
  case done =>
    have hends := runRow_ends s n (·.fadeDone c) hboot
    rw [exec_fadeDone, decide_eq_true hc]
    have hdue (hbegun : f.waiting = none) (hlen : f.len ≤ f.k) {g : Chan → Chan} (hg : Chan.faded f (s.dev.chan c) = g (s.dev.chan c)) :
        (s.dev.tick n).fadeDone c = ((s.dev.tick n).modChan c g).raise Reg.FLT_INT_STATUS 1 :=
      (Dev.fadeDone_due (d := s.dev.tick n) hfade hbegun hlen).trans (congrArg (Dev.raise · _ _) (Dev.modChan_congr hg))
    refine ⟨fun hbegun hlen hpend => ?_, fun hbegun hlen b l hpend hb => ?_, fun hbegun hlen l hpend => ?_, fun hrun => ?_⟩
    · rwa [hdue hbegun hlen (g := fun x => { x with live := f.bank, fade := none }) (by simp only [Chan.faded, hpend])] at hends
    · rwa [hdue hbegun hlen (g := fun x => { x with live := f.bank, pend := none, fade := some ⟨b, l, 0, some 0⟩ })
        (by simp only [Chan.faded, hpend, if_neg hb])] at hends
    · rwa [hdue hbegun hlen (g := fun x => { x with live := f.bank, pend := none, fade := none }) (by simp only [Chan.faded, hpend, if_true])] at hends
    · exact runRow_still hboot (Dev.fadeDone_still hfade hrun)
  case idle =>
    rw [exec_fadeDone]
    exact runRow_idle _ (Dev.fadeDone_none hfade)
  case coef =>
    intro c b tap
    refine ⟨fun h hlocked => ?_, fun h hfree => ?_, fun h => ?_⟩
    · obtain ⟨w, -, hends⟩ := coefWrite_ends n v h
      rwa [Dev.coefWrite_locked (d := s.dev.tick n) w hlocked] at hends
    · obtain ⟨w, hw, hends⟩ := coefWrite_ends n v h
      rw [Dev.coefWrite_free (d := s.dev.tick n) w hfree] at hends
      refine hends.with fun _ _ _ _ _ => ⟨?_, Dev.nextTap_tap, Dev.nextTap_sel, rfl, fun a ha => Dev.nextTap_rd_ne ha⟩
      exact (Dev.coefOf_putCoef _ _ _ _).trans hw
    · rw [exec_coefRead]
      refine (readRow_capture h coefData_row (Dev.capture_coefData _ i)).mono fun t ⟨hdata, hloc, hregs, _⟩ => ?_
      exact ⟨hdata, (congrArg (bits · 21 16) (Dev.rd_congr hregs _)).trans Dev.nextTap_tap, hloc,
        fun a ha => (Dev.rd_congr hregs a).trans (Dev.nextTap_rd_ne ha)⟩

end Sys2Proof.Machine

/-! Freezes of the DC estimate asked for, released and ended (O20). -/

namespace Sys2Proof.Machine

section
variable {d : Dev}

/-! A write to FREEZE_CTL (R210, R212). -/

theorem Dev.regAct_freezeCtl (i : Iface) {c : Nat} (hc : c < 256) (w : Word) : d.regAct i (Reg.FLT_CH_FREEZE_CTL c) w = d.freezeCtl c w := by
  have helem : elemOf (Reg.FLT_CH_FREEZE_CTL 0) 0x40 256 (Reg.FLT_CH_FREEZE_CTL c) = c := elemOf_elem (off := 0) hc (by decide)
  have hlo : 0x81000 ≤ Reg.FLT_CH_FREEZE_CTL c := by unfold Reg.FLT_CH_FREEZE_CTL; omega
  have hhi : Reg.FLT_CH_FREEZE_CTL c < 0x85000 := by unfold Reg.FLT_CH_FREEZE_CTL; omega
  have hswap (j : Nat) : Reg.FLT_CH_FREEZE_CTL c ≠ Reg.FLT_CH_SWAP j := by unfold Reg.FLT_CH_FREEZE_CTL Reg.FLT_CH_SWAP; omega
  rw [regAct_eq, Dev.action_local d i w (by omega) (by omega), Dev.actLocal_fltCh d hlo hhi, helem, if_neg (hswap _), if_pos rfl, Option.getD_some]

variable {c : Nat}

theorem Dev.freezeCtl_congr {v w : Word} (h0 : bit v 0 = bit w 0) (h1 : bit v 1 = bit w 1) : d.freezeCtl c v = d.freezeCtl c w := by
  simp only [Dev.freezeCtl, h0, h1]

theorem Dev.freezeCtl_resetCtr (w : Word) : (d.freezeCtl c w).resetCtr = d.resetCtr := by
  have hrefused : (d.notHeld c).resetCtr = d.resetCtr := by rw [Dev.notHeld, Dev.raise_resetCtr, Dev.wrN, Dev.wr_resetCtr]
  have hfreeze : (d.hostFreeze c).resetCtr = d.resetCtr := rfl
  have hrelease (e : Dev) : (e.hostRelease c).resetCtr = e.resetCtr := rfl
  simp only [Dev.freezeCtl, apply_ite Dev.resetCtr, hrefused, hrelease, hfreeze, ite_self]

theorem Dev.freezeCtl_notHeld (w : Word) (h : d.flag (Reg.FLT_CH_CFG c) 6 = false) : d.freezeCtl c w = d.notHeld c := if_neg (ne_true_of_eq_false h)

/-- On a channel with HELD each bit of a write to FREEZE_CTL acts. -/
theorem Dev.freezeCtl_held {w : Word} {f r : Bool} (h : d.flag (Reg.FLT_CH_CFG c) 6 = true) (hf : bit w 0 = f) (hr : bit w 1 = r) :
    d.freezeCtl c w = if r then (if f then d.hostFreeze c else d).hostRelease c else if f then d.hostFreeze c else d := by
  simp only [Dev.freezeCtl, h, if_true, hf, hr]

/-! FREEZE_TAIL_END and FREEZE_MAX_END (R211). -/

theorem Dev.freezeTail_none (h : (d.chan c).freeze = none) : d.freezeTail c = d := by simp only [Dev.freezeTail, h]

theorem Dev.freezeMax_none (h : (d.chan c).freeze = none) : d.freezeMax c = d := by simp only [Dev.freezeMax, h]

section
variable {f : Freeze} (h : (d.chan c).freeze = some f)
include h

theorem Dev.freezeTail_eq : d.freezeTail c =
    if f.host = false ∧ (d.chan c).trig = none ∧ d.fld (Reg.FLT_CH_FREEZE_CFG c) 31 16 ≤ f.tail then d.unfreeze c 3 else d := by
  simp [Dev.freezeTail, h, and_assoc]

theorem Dev.freezeMax_eq : d.freezeMax c = if (d.chan c).trig = none ∧ d.rdN Reg.FLT_FREEZE_MAX ≤ f.dur then d.unfreeze c 4 else d := by
  simp [Dev.freezeMax, h]

end

/-- While a trigger waits for its tick, and without a freeze, a freeze does not end. -/
theorem Dev.freezeEnds_still (h : (d.chan c).freeze = none ∨ (d.chan c).trig ≠ none) : d.freezeTail c = d ∧ d.freezeMax c = d := by
  obtain hnone | ⟨f, hf⟩ := Option.eq_none_or_eq_some (d.chan c).freeze
  · exact ⟨Dev.freezeTail_none hnone, Dev.freezeMax_none hnone⟩
  · have htrig := h.resolve_left (by simp [hf])
    rw [Dev.freezeTail_eq hf, Dev.freezeMax_eq hf]
    exact ⟨if_neg fun hend => htrig hend.2.1, if_neg fun hend => htrig hend.1⟩

end

theorem freezeCtl_row {c : Nat} (hc : c < 256) : regAt (Reg.FLT_CH_FREEZE_CTL c) = some ⟨0x81018, [(0x40, 256)], .wo, 0x0, 0x3, 0x3, []⟩ := by
  have hall : (List.range 256).all (fun c => decide (regAt (Reg.FLT_CH_FREEZE_CTL c) = some ⟨0x81018, [(0x40, 256)], .wo, 0x0, 0x3, 0x3, []⟩)) = true := by
    decide +kernel
  exact of_decide_eq_true (List.all_eq_true.mp hall c (List.mem_range.mpr hc))

theorem freezeCtl_ends {s : State} {c : Nat} {i : Iface} (n : Nat) (v : Word) (hc : c < 256) (h : s.canWrite i (Reg.FLT_CH_FREEZE_CTL c)) :
    Ends (hostRow s n (decide (c < 256)) i (Reg.FLT_CH_FREEZE_CTL c) v) { s with dev := (s.dev.tick n).freezeCtl c v } := by
  rw [decide_eq_true hc]
  refine hostRow_act h (freezeCtl_row hc) (.inr (.inl rfl)) rfl
    (fltReg_ne (by unfold Reg.FLT_CH_FREEZE_CTL; omega) (by unfold Reg.FLT_CH_FREEZE_CTL; omega)) ?_ (Dev.freezeCtl_resetCtr v)
  rw [Dev.regAct_freezeCtl i hc]
  exact Dev.freezeCtl_congr (bit_held _ v 3 (by decide)) (bit_held _ v 3 (by decide))

/-- Settles O20: both bits of a write to FREEZE_CTL act on a channel with HELD (`Dev.freezeCtl_held`), and a freeze ends as `Dev.freezeTail_eq` and
`Dev.freezeMax_eq` say. -/
theorem freezes : Obligations.Freezes := by
  unfold Obligations.Freezes
  refine ⟨fun s n c i v hc h => ?ask, fun s n c hstill => ?idle, fun s n c f hc hboot hfreeze htrig => ?ends⟩
  case ask =>
    intro err
    have hfreeze := freezeCtl_ends n (setBits v 0 0 1) hc h
    have hrelease := freezeCtl_ends n (setBits v 1 1 1) hc h
    have hf0 : bit (setBits v 0 0 1) 0 = true := bit_setBits v 0 0 1 0 (by decide)
    have hf1 : bit (setBits v 0 0 1) 1 = bit v 1 := bit_setBits v 0 0 1 1 (by decide)
    have hr0 : bit (setBits v 1 1 1) 0 = bit v 0 := bit_setBits v 1 1 1 0 (by decide)
    have hr1 : bit (setBits v 1 1 1) 1 = true := bit_setBits v 1 1 1 1 (by decide)
    rw [exec_hostFreeze, exec_freezeRelease]
    refine ⟨fun hv hheld => ?_, fun hv hheld => ?_, fun hv hheld => ?_, fun hv hheld => ?_, fun hheld => ?_⟩
    · rw [Dev.freezeCtl_held (d := s.dev.tick n) hheld hf0 (hf1.trans hv)] at hfreeze
      exact hfreeze
    · rw [Dev.freezeCtl_held (d := s.dev.tick n) hheld (hr0.trans hv) hr1] at hrelease
      exact hrelease
    · rw [Dev.freezeCtl_held (d := s.dev.tick n) hheld hf0 (hf1.trans hv)] at hfreeze
      exact hfreeze
    · rw [Dev.freezeCtl_held (d := s.dev.tick n) hheld (hr0.trans hv) hr1] at hrelease
      exact hrelease
    · rw [Dev.freezeCtl_notHeld (d := s.dev.tick n) _ hheld] at hfreeze hrelease
      exact ⟨hfreeze, hrelease⟩
  case idle =>
    obtain ⟨htail, hmax⟩ := Dev.freezeEnds_still (d := s.dev.tick n) hstill
    rw [exec_freezeTailEnd, exec_freezeMaxEnd]
    exact ⟨runRow_idle _ htail, runRow_idle _ hmax⟩
  case ends =>
    intro ended
    have htail := runRow_ends s n (·.freezeTail c) hboot
    have hmax := runRow_ends s n (·.freezeMax c) hboot
    rw [exec_freezeTailEnd, exec_freezeMaxEnd, decide_eq_true hc]
    simp only [Dev.freezeTail_eq (d := s.dev.tick n) hfreeze] at htail
    simp only [Dev.freezeMax_eq (d := s.dev.tick n) hfreeze] at hmax
    refine ⟨fun hhost hend => ?_, fun hwait => ?_, fun hend => ?_, fun hwait => ?_⟩
    · rwa [if_pos ⟨hhost, htrig, hend⟩] at htail
    · rwa [if_neg fun hend => hwait.elim (ne_true_of_eq_false hend.1) (Nat.not_lt.mpr hend.2.2)] at htail
    · rwa [if_pos ⟨htrig, hend⟩] at hmax
    · rwa [if_neg fun hend => Nat.not_lt.mpr hend.2 hwait] at hmax

end Sys2Proof.Machine

/-! The tracker's time limits, and phase resets by pin and by command (O21). -/

namespace Sys2Proof.Machine

/-! The tracker (R216, R218). -/

section
variable (d : Dev)

theorem Dev.trkHoldLimit_eq : d.trkHoldLimit = if d.trkState = 2 ∧ d.fld Reg.FLT_TRK_HOLD_LIM 15 0 ≤ d.loc.holdCnt then d.trkSet 3 else d := by
  simp only [Dev.trkHoldLimit, Bool.and_eq_true, decide_eq_true_eq]

theorem Dev.trkSet_ne {st : Nat} (h : d.trkState ≠ st) : d.trkSet st = (d.putF Reg.FLT_TRK_STATUS 1 0 st).raise Reg.FLT_INT_STATUS 5 := if_neg h

/-- The candidate of higher priority than the selected one that has been valid for 64 flutters. -/
def Dev.trkBetter : Option Nat := (List.range d.trkSel).find? (fun j => decide (64 ≤ tget 0 d.loc.validCnt j))

variable {d}

theorem Dev.trkReturn_still (h : d.trkState ≠ 1 ∨ d.trkBetter = none) : d.trkReturn = d := by
  unfold Dev.trkReturn
  split
  case isTrue hst =>
    have hnone := h.resolve_left (not_not_intro hst)
    unfold Dev.trkBetter at hnone
    rw [hnone]
  case isFalse => rfl

theorem Dev.trkReturn_better {k : Nat} (hst : d.trkState = 1) (h : d.trkBetter = some k) : d.trkReturn = d.trkRef k := by
  unfold Dev.trkBetter at h
  simp only [Dev.trkReturn, if_pos hst, h]

theorem Dev.trkBetter_lt {k : Nat} (h : d.trkBetter = some k) : k < 4 :=
  (List.mem_range.mp (List.mem_of_find?_eq_some h)).trans (bits_lt _ 5 4)

variable (d)

@[simp] theorem Dev.inc_loc (a n : Nat) : (d.inc a n).loc = d.loc := by
  obtain ⟨_, _, h⟩ := d.inc_eq a n
  rw [h]

theorem Dev.trkRef_loc (k : Nat) : (d.trkRef k).loc = d.loc := by
  rw [Dev.trkRef, Dev.trkRecord, Dev.record_loc, Dev.raise_loc, Dev.inc_loc, Dev.putF, Dev.wr_loc]

theorem Dev.trkRef_status (k : Nat) : (d.trkRef k).rd Reg.FLT_TRK_STATUS = (d.putF Reg.FLT_TRK_STATUS 5 4 k).rd Reg.FLT_TRK_STATUS := by
  rw [Dev.trkRef, Dev.trkRecord, Dev.record_rd_ne _ _ _ (by decide), Dev.rd_raise_ne _ _ (by decide), Dev.rd_inc_ne _ _ (by decide)]

theorem Dev.trkRef_trkSel {k : Nat} (h : k < 4) : (d.trkRef k).trkSel = k := by
  rw [Dev.trkSel, Dev.fld, d.trkRef_status, ← Dev.fld, Dev.fld_putF _ _ _ _ _ (by decide)]
  exact Nat.mod_eq_of_lt h

theorem Dev.trkRef_trkState (k : Nat) : (d.trkRef k).trkState = d.trkState := by
  rw [Dev.trkState, Dev.fld, d.trkRef_status, ← Dev.fld, Dev.fld_putF_ne _ _ _ _ _ _ _ _ (by decide) (.inr (.inl (by decide))), Dev.trkState]

theorem Dev.trkRef_told (k : Nat) : (d.trkRef k).flag Reg.FLT_INT_STATUS 6 = true := by
  rw [Dev.trkRef, Dev.trkRecord, Dev.flag, Dev.record_rd_ne _ _ _ (by decide), ← Dev.flag, Dev.flag_raise _ _ _ (by decide)]

end

/-! What a phase reset does not restart (R231). -/

/-- What the parts of a phase reset other than its zeros and its count leave: the counts of the local path, the registers FLT_CTL and FLT_DECSYNC_CNT, the
transaction and the count of entries to RESET. -/
structure ResetView where
  grid : Local
  ctl : Word
  cnt : Word
  txn : Txn
  resets : Nat

/-- The view of a machine; SETTLE, which the reset starts, is not in it. -/
def Dev.besideReset (d : Dev) : ResetView := ⟨{ d.gridParts.1 with settle := [] }, d.rd Reg.FLT_CTL, d.rd Reg.FLT_DECSYNC_CNT, d.txn, d.resetCtr⟩

section
variable (d : Dev)

variable {d} in
theorem Dev.held_of_view {grid : Local} {ctl cnt : Word} {txn : Txn} {resets : Nat} (h : d.besideReset = ⟨grid, ctl, cnt, txn, resets⟩) :
    d.rd Reg.FLT_CTL = ctl ∧ d.txn = txn ∧ d.resetCtr = resets :=
  ⟨congrArg ResetView.ctl h, congrArg ResetView.txn h, congrArg ResetView.resets h⟩

theorem Dev.besideReset_congr {e : Dev} (hgrid : e.gridParts = d.gridParts) (hctl : e.rd Reg.FLT_CTL = d.rd Reg.FLT_CTL)
    (hcnt : e.rd Reg.FLT_DECSYNC_CNT = d.rd Reg.FLT_DECSYNC_CNT) (htxn : e.txn = d.txn) (hctr : e.resetCtr = d.resetCtr) :
    e.besideReset = d.besideReset := by
  rw [Dev.besideReset, hgrid, hctl, hcnt, htxn, hctr, Dev.besideReset]

/-- A register that a phase reset sets without telling: neither FLT_CTL nor FLT_DECSYNC_CNT. -/
def offReset (a : Nat) : Prop := a ≠ Reg.FLT_CTL ∧ a ≠ Reg.FLT_DECSYNC_CNT

theorem offReset_of_lt {a : Nat} (h : a < 0x80000) : offReset a := by
  unfold offReset Reg.FLT_CTL Reg.FLT_DECSYNC_CNT
  omega

theorem offReset_of_gt {a : Nat} (h : 0x8000C ≤ a) : offReset a := by
  unfold offReset Reg.FLT_CTL Reg.FLT_DECSYNC_CNT
  omega

theorem Dev.wr_besideReset {a : Nat} (h : offReset a) (v : Word) : (d.wr a v).besideReset = d.besideReset :=
  d.besideReset_congr rfl (Dev.rd_wr_ne _ h.1.symm _) (Dev.rd_wr_ne _ h.2.symm _) rfl rfl

theorem Dev.putB_besideReset {a : Nat} (h : offReset a) (k : Nat) (b : Bool) : (d.putB a k b).besideReset = d.besideReset := d.wr_besideReset h _

theorem Dev.wrN_besideReset {a : Nat} (h : offReset a) (v : Nat) : (d.wrN a v).besideReset = d.besideReset := d.wr_besideReset h _

theorem Dev.raise_besideReset {a : Nat} (h : offReset a) (k : Nat) : (d.raise a k).besideReset = d.besideReset :=
  d.besideReset_congr rfl (Dev.rd_raise_ne _ _ h.1.symm) (Dev.rd_raise_ne _ _ h.2.symm) rfl rfl

theorem Dev.record_besideReset (typ : Nat) (b : Bytes) : (d.record typ b).besideReset = d.besideReset := by
  have hrest : (d.record typ b).txn = d.txn ∧ (d.record typ b).resetCtr = d.resetCtr := by
    obtain ⟨_, _, _, h⟩ := d.record_eq typ b
    rw [h]
    exact ⟨rfl, rfl⟩
  exact d.besideReset_congr (d.record_gridParts typ b) (d.record_rd_ne typ b (by decide)) (d.record_rd_ne typ b (by decide)) hrest.1 hrest.2

theorem Dev.free_besideReset : d.free.2.besideReset = d.besideReset := rfl

theorem Dev.modCk_besideReset (k : Nat) (f : Ck → Ck) : (d.modCk k f).besideReset = d.besideReset := rfl

theorem Dev.ckPublish_besideReset (k : Nat) (r : CkRes) : (d.ckPublish k r).besideReset = d.besideReset := by
  simp only [Dev.ckPublish, apply_ite Dev.besideReset, Dev.raise_besideReset _ (offReset_of_lt (a := Reg.CNV_INT_STATUS) (by decide)),
    Dev.modCk_besideReset, ite_self]

theorem Dev.ckAbort_besideReset (k : Nat) (r : CkRun) : (d.ckAbort k r).besideReset = d.besideReset := by
  rw [Dev.ckAbort, Dev.ckPublish_besideReset, Dev.free_besideReset, Dev.free_besideReset]

theorem Dev.ckReset_besideReset : d.ckReset.besideReset = d.besideReset := by
  rw [Dev.ckReset_eq]
  refine foldUp_keeps Dev.besideReset 16 _ (fun k e => ?_) d
  rw [Dev.ckBack]
  split <;> split <;> simp only [Dev.ckAbort_besideReset, Dev.modCk_besideReset]

theorem Dev.calExtend_besideReset : d.calExtend.besideReset = d.besideReset := by
  unfold Dev.calExtend
  extract_lets qm
  split
  · rfl
  · rw [Dev.record_besideReset, Dev.free_besideReset]

theorem Dev.chFlag_besideReset {n : Nat} (hn : n < 192) (k : Nat) (b : Bool) : (d.chFlag n k b).besideReset = d.besideReset := by
  have hst : offReset (Reg.CNV_CH_STATUS n) := offReset_of_lt (by unfold Reg.CNV_CH_STATUS; omega)
  have hinv : offReset (Reg.CNV_INVALID (n / 32)) := offReset_of_lt (by unfold Reg.CNV_INVALID; omega)
  rw [Dev.chFlag, Dev.putB_besideReset _ hinv, Dev.putB_besideReset _ hst, Dev.putB_besideReset _ hst]

theorem Dev.vcFlag_besideReset (v k : Nat) (b : Bool) : (d.vcFlag v k b).besideReset = d.besideReset := by
  have hst : offReset (Reg.FLT_VC_STATUS v) := offReset_of_gt (by unfold Reg.FLT_VC_STATUS; omega)
  have hint : offReset Reg.FLT_INT_STATUS := offReset_of_gt (by decide)
  simp only [Dev.vcFlag, apply_ite Dev.besideReset, Dev.raise_besideReset _ hint, Dev.putB_besideReset _ hst, ite_self]

theorem Dev.settleStart_besideReset (n : Nat) : (d.settleStart n).besideReset = d.besideReset := by
  have hset (l : List (Nat × Nat)) : ({ d with loc := { d.loc with settle := l } } : Dev).besideReset = d.besideReset := rfl
  unfold Dev.settleStart
  dsimp only
  split
  case isTrue hn => rw [Dev.chFlag_besideReset _ hn, hset]
  case isFalse => rw [Dev.vcFlag_besideReset, hset]

theorem Dev.settleAll_besideReset : d.settleAll.besideReset = d.besideReset := by
  rw [Dev.settleAll]
  exact foldUp_keeps Dev.besideReset 256 _ (fun n e => e.settleStart_besideReset n) d

/-! SETTLE on every position (R232). -/

@[simp] theorem Dev.vcFlag_loc (v k : Nat) (b : Bool) : (d.vcFlag v k b).loc = d.loc := by
  simp [Dev.vcFlag, apply_ite Dev.loc]

theorem Dev.settleStart_settleOf (n c : Nat) : (d.settleStart n).settleOf c = if c = n then 97 else d.settleOf c := by
  have hloc : (d.settleStart n).loc = { d.loc with settle := tset 0 d.loc.settle n 97 } := by
    simp [Dev.settleStart, apply_ite Dev.loc]
  rw [Dev.settleOf, hloc]
  exact tget_tset 0 d.loc.settle n c 97

theorem Dev.settleAll_settleOf {c : Nat} (h : c < 256) : d.settleAll.settleOf c = 97 := by
  rw [Dev.settleAll, foldUp_at (g := (Dev.settleOf · c)) (F := fun _ => 97) (q := c)
    (fun n _ e hne => (e.settleStart_settleOf n c).trans (if_neg hne.symm)) (fun e => (e.settleStart_settleOf c c).trans (if_pos rfl)), if_pos h]

/-! The phase reset on a request (R230 to R233). -/

/-- A machine that shows an output time as that of the last marked edge. -/
def Dev.syncShow (e : Nat) : Dev :=
  ((d.wrN Reg.FLT_SYNC_SEC_LO (e / unitSec)).wrN Reg.FLT_SYNC_SEC_HI (e / unitSec / 2 ^ 32 % 2 ^ 16)).wrN Reg.FLT_SYNC_NS (e % unitSec / unitNs)

/-- A machine that counts and records a phase reset by a source. -/
def Dev.resetTell (src : Nat) : Dev :=
  let d := d.incW Reg.FLT_DECSYNC_CNT 1
  (d.record 0x0504 (be 1 src ++ zeros 3 ++ be 4 (d.rdN Reg.FLT_DECSYNC_CNT) ++ zeros 8)).raise Reg.FLT_INT_STATUS 0

/-- The machine at the marked edge of a phase reset on a request. -/
def Dev.resetEdge : Dev := d.phaseZero.ckReset.calExtend.settleAll

theorem Dev.phaseReset_some_eq (src : Nat) :
    d.phaseReset (some src) = (d.resetEdge.markedEdge.2.syncShow d.resetEdge.markedEdge.1).resetTell src := by
  simp only [Dev.phaseReset, Dev.resetEdge, Dev.settleAll, Dev.phaseZero, Option.isSome_some, if_true]
  generalize foldUp 256 (fun n d => d.settleStart n) (Dev.calExtend _) = x
  rfl

theorem Dev.resetEdge_besideReset : d.resetEdge.besideReset = d.phaseZero.besideReset := by
  rw [Dev.resetEdge, Dev.settleAll_besideReset, Dev.calExtend_besideReset, Dev.ckReset_besideReset]

theorem Dev.syncShow_besideReset (e : Nat) : (d.syncShow e).besideReset = d.besideReset := by
  rw [Dev.syncShow, Dev.wrN_besideReset _ (offReset_of_gt (by decide)), Dev.wrN_besideReset _ (offReset_of_gt (by decide)),
    Dev.wrN_besideReset _ (offReset_of_gt (by decide))]

theorem Dev.resetTell_besideReset (src : Nat) : (d.resetTell src).besideReset = (d.incW Reg.FLT_DECSYNC_CNT 1).besideReset := by
  rw [Dev.resetTell, Dev.raise_besideReset _ (offReset_of_gt (by decide)), Dev.record_besideReset]

theorem Dev.resetTell_loc (src : Nat) : (d.resetTell src).loc = d.loc := by
  rw [Dev.resetTell, Dev.raise_loc, Dev.record_loc, Dev.incW, Dev.wrN, Dev.wr_loc]

theorem Dev.markedEdge_loc : d.markedEdge.2.loc = d.loc := rfl

theorem Dev.syncShow_loc (e : Nat) : (d.syncShow e).loc = d.loc := rfl

theorem Dev.incW_besideReset : (d.incW Reg.FLT_DECSYNC_CNT 1).besideReset = { d.besideReset with cnt := w32 (d.besideReset.cnt.toNat + 1) } := by
  have hctl : (d.incW Reg.FLT_DECSYNC_CNT 1).rd Reg.FLT_CTL = d.rd Reg.FLT_CTL := Dev.rd_wr_ne _ (by decide) _
  have hcnt : (d.incW Reg.FLT_DECSYNC_CNT 1).rd Reg.FLT_DECSYNC_CNT = w32 (d.rdN Reg.FLT_DECSYNC_CNT + 1) := Dev.rd_wr_same _ _ _
  rw [Dev.besideReset, hctl, hcnt, Dev.incW, Dev.wrN_gridParts, Dev.wrN, Dev.wr_txn, Dev.wr_resetCtr, Dev.besideReset, Dev.rdN]

theorem Dev.phaseZero_rd (a : Nat) : d.phaseZero.rd a = d.rd a := rfl

theorem Dev.phaseReset_besideReset (src : Nat) : (d.phaseReset (some src)).besideReset =
    ⟨{ d.phaseZero.gridParts.1 with settle := [] }, d.rd Reg.FLT_CTL, w32 (d.rdN Reg.FLT_DECSYNC_CNT + 1), d.txn, d.resetCtr⟩ := by
  rw [Dev.phaseReset_some_eq, Dev.resetTell_besideReset, Dev.incW_besideReset, Dev.syncShow_besideReset, Dev.markedEdge, Dev.free_besideReset,
    Dev.resetEdge_besideReset, Dev.besideReset, Dev.phaseZero_rd, Dev.phaseZero_rd, Dev.rdN]
  rfl

/-- What a machine that restarts the local path at a clock tick leaves. -/
structure Dev.GridRestarted (clk cnt : Nat) (e : Dev) : Prop where
  ticks : e.loc.ticks = 0
  cycles : e.loc.cycles = 0
  pos : e.loc.pos = 0
  posLp : e.loc.posLp = 0
  base : e.loc.base = [0, 0, 0, 0, 0]
  edge : e.loc.edge = true
  resetAt : e.loc.resetAt = some clk
  settle : ∀ c < 256, tget 0 e.loc.settle c = 97
  count : e.rdN Reg.FLT_DECSYNC_CNT = (cnt + 1) % 2 ^ 32
  told : e.flag Reg.FLT_INT_STATUS 0 = true

theorem Dev.phaseReset_settle (src : Nat) {c : Nat} (h : c < 256) : (d.phaseReset (some src)).settleOf c = 97 := by
  rw [Dev.phaseReset_some_eq, Dev.settleOf, Dev.resetTell_loc, Dev.syncShow_loc, Dev.markedEdge_loc, ← Dev.settleOf, Dev.resetEdge,
    Dev.settleAll_settleOf _ h]

theorem Dev.phaseReset_told (src : Nat) : (d.phaseReset (some src)).flag Reg.FLT_INT_STATUS 0 = true := by
  rw [Dev.phaseReset_some_eq, Dev.resetTell]
  exact Dev.flag_raise _ _ _ (by decide)

variable {d} in
theorem Dev.GridRestarted.ended {clk cnt : Nat} (h : Dev.GridRestarted clk cnt d) (r : Option Nat) (u p : Nat) (m : List (Nat × Byte)) (x : List Sent) :
    Dev.GridRestarted clk cnt (d.ended r u p m x) :=
  ⟨h.ticks, h.cycles, h.pos, h.posLp, h.base, h.edge, h.resetAt, h.settle, h.count, h.told⟩

/-- The restart as the view of a machine after a phase reset shows it. -/
theorem Dev.gridRestarted_of_view {e : Dev} {ctl cnt : Word} {txn : Txn} {resets : Nat}
    (h : e.besideReset = ⟨{ d.phaseZero.gridParts.1 with settle := [] }, ctl, cnt, txn, resets⟩) (hcnt : cnt = w32 (d.rdN Reg.FLT_DECSYNC_CNT + 1))
    (hsettle : ∀ c < 256, e.settleOf c = 97) (htold : e.flag Reg.FLT_INT_STATUS 0 = true) :
    Dev.GridRestarted d.tim.clk (d.rdN Reg.FLT_DECSYNC_CNT) e := by
  have hloc := congrArg ResetView.grid h
  have hcount : e.rd Reg.FLT_DECSYNC_CNT = cnt := congrArg ResetView.cnt h
  exact ⟨congrArg Local.ticks hloc, congrArg Local.cycles hloc, congrArg Local.pos hloc, congrArg Local.posLp hloc, congrArg Local.base hloc,
    congrArg Local.edge hloc, congrArg Local.resetAt hloc, hsettle, by rw [Dev.rdN, hcount, hcnt, w32_toNat], htold⟩

theorem Dev.phaseReset_restarted (src : Nat) : Dev.GridRestarted d.tim.clk (d.rdN Reg.FLT_DECSYNC_CNT) (d.phaseReset (some src)) :=
  d.gridRestarted_of_view (d.phaseReset_besideReset src) rfl (fun _ hc => d.phaseReset_settle src hc) (d.phaseReset_told src)

/-! Requests for a phase reset (R229). -/

/-- A phase reset was accepted within 1 ms. -/
def Dev.resetSoon : Bool := d.loc.resetAt.any (fun c => decide (d.tim.clk < c + ticksMs 1))

theorem Dev.decsync_eq (src : Nat) : d.decsync src =
    if d.flag Reg.FLT_CTL 0 && !d.resetSoon then d.phaseReset (some src) else d.inc Reg.FLT_DECSYNC_IGN_CNT 1 := by
  unfold Dev.decsync
  extract_lets soon
  have hsoon : soon = d.resetSoon := by
    rw [Dev.resetSoon]
    unfold soon
    split
    case h_1 c hc => rw [hc, Option.any_some]
    case h_2 hn => rw [hn, Option.any_none]
  rw [hsoon]

variable {d}

theorem Dev.decsync_accepted (src : Nat) (hen : d.flag Reg.FLT_CTL 0 = true) (hsoon : d.resetSoon = false) :
    d.decsync src = d.phaseReset (some src) := by
  rw [Dev.decsync_eq, hen, hsoon]
  rfl

theorem Dev.decsync_ignored (src : Nat) (h : d.flag Reg.FLT_CTL 0 = false ∨ d.resetSoon = true) : d.decsync src = d.inc Reg.FLT_DECSYNC_IGN_CNT 1 := by
  rw [Dev.decsync_eq]
  obtain hoff | hsoon := h
  · simp [hoff]
  · simp [hsoon]

variable (d)

/-- A request leaves FLT_CTL, the transaction and the count of resets. -/
theorem Dev.decsync_leaves (src : Nat) : (d.decsync src).rd Reg.FLT_CTL = d.rd Reg.FLT_CTL ∧ (d.decsync src).txn = d.txn ∧
    (d.decsync src).resetCtr = d.resetCtr := by
  rw [Dev.decsync_eq]
  split
  · exact Dev.held_of_view (d.phaseReset_besideReset src)
  · obtain ⟨_, _, h⟩ := d.inc_eq Reg.FLT_DECSYNC_IGN_CNT 1
    refine ⟨Dev.rd_inc_ne _ _ (by decide), ?_, ?_⟩ <;> rw [h]

end

/-- A command that ends in an accepted request leaves the local path restarted. -/
theorem Ends.decsync_restarts {o : Host.Outcome State Fault Refusal} {s : State} {n src : Nat} (h : Ends o { s with dev := (s.dev.tick n).decsync src })
    (hen : s.dev.flag Reg.FLT_CTL 0 = true) (hsoon : (s.dev.tick n).resetSoon = false) :
    EndsWith o (fun t => Dev.GridRestarted (max s.dev.tim.clk n) (s.dev.rdN Reg.FLT_DECSYNC_CNT) t.dev) := by
  have hre := (s.dev.tick n).phaseReset_restarted src
  rw [Dev.tick_clk, Dev.rdN, Dev.tick_rd, ← Dev.rdN] at hre
  rw [Dev.decsync_accepted (d := s.dev.tick n) src hen hsoon] at h
  exact h.with hre.ended

/-! DECSYNC_COMMAND (R21, R229). -/

theorem fltCtl_row : regAt Reg.FLT_CTL = some ⟨0x80000, [], .rws, 0x1, 0x1, 0x2, []⟩ := by decide +kernel

/-- Words that agree in bit 0 do not differ under the mask 1. -/
theorem xor_and_one_eq_zero {v w : Word} (h : bit v 0 = bit w 0) : (v ^^^ w) &&& w32 1 = 0#32 := by
  refine BitVec.eq_of_getLsbD_eq fun k hk => ?_
  rw [BitVec.getLsbD_and, BitVec.getLsbD_xor, BitVec.getLsbD_zero]
  obtain rfl | hpos := Nat.eq_zero_or_pos k
  · rw [show v.getLsbD 0 = w.getLsbD 0 from h, Bool.xor_self, Bool.false_and]
  · have hmask : (w32 1).getLsbD k = false := by
      simp [w32, hpos.ne']
    rw [hmask, Bool.and_false]

/-- Without an open transaction a write to an RWS register is refused for its held bits. -/
theorem Dev.rwsRefused_closed (d : Dev) (i : Iface) (h : d.txn.st ≠ .opened) : ∃ e, d.rwsRefused i = some e := by
  unfold Dev.rwsRefused
  split
  · exact ⟨_, rfl⟩
  · exact ⟨_, if_pos (by simp [h])⟩

/-- A write to FLT_CTL that changes no RWS field, without an open transaction: its acting bit and nothing else (R21). -/
theorem decsyncCommand_ends {s : State} {i : Iface} (n : Nat) {v : Word} (h : s.canWrite i Reg.FLT_CTL) (htxn : s.dev.txn.st ≠ .opened)
    (hv : bit v 0 = s.dev.flag Reg.FLT_CTL 0) : Ends (exec (.decsyncCommand n i v) s) { s with dev := (s.dev.tick n).decsync 1 } := by
  obtain ⟨hctl, htx, hctr⟩ := (s.dev.tick n).decsync_leaves 1
  have hbit : bit (setBits v 1 1 1) 1 = true := bit_setBits v 1 1 1 1 (by decide)
  have hact : (s.dev.tick n).actRws Reg.FLT_CTL (setBits v 1 1 1) = (s.dev.tick n).decsync 1 := by
    rw [Dev.actRws, if_neg (by decide), if_pos rfl, if_pos hbit]
  have hsame : (((s.dev.tick n).decsync 1).rd Reg.FLT_CTL ^^^ setBits v 1 1 1) &&& w32 1 = 0#32 := by
    refine xor_and_one_eq_zero ?_
    rw [hctl, bit_setBits _ _ _ _ _ (by decide)]
    exact hv.symm
  obtain ⟨e, he⟩ := ((s.dev.tick n).decsync 1).rwsRefused_closed i (by rw [htx]; exact htxn)
  rw [exec_decsyncCommand]
  refine hostRow_ends h (by decide) fltCtl_row ?_ hctr
  simp only [Dev.rowWrite, Dev.rwsWrite, hact, he, hsame]
  rfl

/-- Settles O21: the tracker's rows change it only as `Dev.trkHoldLimit_eq` and `Dev.trkReturn_better` say, and both requests restart the local path
(`Dev.phaseReset_restarted`) unless they are ignored (`Dev.decsync_ignored`). -/
theorem trackerAndPhaseReset : Obligations.TrackerAndPhaseReset := by
  unfold Obligations.TrackerAndPhaseReset
  refine ⟨fun s n hboot => ?tracker, fun s n w i v hboot => ?reset⟩
  case tracker =>
    have hlimit := runRow_ends s n Dev.trkHoldLimit hboot
    have hreturn := runRow_ends s n Dev.trkReturn hboot
    rw [exec_trkHoldLimit, exec_trkRefReturn]
    rw [Dev.trkHoldLimit_eq] at hlimit
    refine ⟨fun hst hlim => ?_, fun hwait => ?_, fun k hst hbetter => ?_, fun hwait => ?_⟩
    · have hne : (s.dev.tick n).trkState ≠ 3 := fun h3 => absurd (hst.symm.trans h3) (by decide)
      rw [if_pos ⟨hst, hlim⟩, Dev.trkSet_ne _ hne] at hlimit
      exact hlimit
    · rw [if_neg fun hend => hwait.elim (· hend.1) (Nat.not_lt.mpr hend.2)] at hlimit
      exact hlimit
    · rw [Dev.trkReturn_better (d := s.dev.tick n) hst hbetter] at hreturn
      have hsel := (s.dev.tick n).trkRef_trkSel (Dev.trkBetter_lt hbetter)
      have hstate := ((s.dev.tick n).trkRef_trkState k).trans hst
      have htold := (s.dev.tick n).trkRef_told k
      have hloc := (s.dev.tick n).trkRef_loc k
      generalize (s.dev.tick n).trkRef k = e at *
      exact hreturn.with fun _ _ _ _ _ => ⟨hsel, hstate, htold, hloc⟩
    · exact runRow_still hboot (Dev.trkReturn_still (d := s.dev.tick n) hwait)
  case reset =>
    intro soon reset
    have hsoon : (s.dev.tick n).resetSoon = soon := by
      rw [Dev.resetSoon, Dev.tick_loc, Dev.tick_clk]
      unfold soon
      split
      case h_1 c hc => rw [hc, Option.any_some]
      case h_2 hn => rw [hn, Option.any_none]
    have hpin := runRow_ends s n (fun d => if 200 ≤ w then d.decsync 0 else d) hboot
    have hdone (src : Nat) {o : Host.Outcome State Fault Refusal} (hends : Ends o { s with dev := (s.dev.tick n).decsync src })
        (hen : s.dev.flag Reg.FLT_CTL 0 = true) (hs : soon = false) : EndsWith o reset :=
      (hends.decsync_restarts hen (hsoon.trans hs)).mono fun t h =>
        ⟨h.ticks, h.cycles, h.pos, h.posLp, h.base, h.edge, h.resetAt, h.settle, h.count, h.told⟩
    have hignored (src : Nat) {o : Host.Outcome State Fault Refusal} (hends : Ends o { s with dev := (s.dev.tick n).decsync src })
        (hoff : s.dev.flag Reg.FLT_CTL 0 = false ∨ soon = true) : Ends o { s with dev := (s.dev.tick n).inc Reg.FLT_DECSYNC_IGN_CNT 1 } := by
      rwa [Dev.decsync_ignored (d := s.dev.tick n) src (hoff.imp_right hsoon.trans)] at hends
    rw [exec_decsyncPin]
    refine ⟨fun hw hen hs => ?_, fun hw hoff => ?_, fun hw => ?_, fun h htxn hv hen hs => ?_, fun h htxn hv hoff => ?_⟩
    · rw [if_pos hw] at hpin
      exact hdone 0 hpin hen hs
    · rw [if_pos hw] at hpin
      exact hignored 0 hpin hoff
    · exact runRow_still hboot (if_neg (by omega))
    · exact hdone 1 (decsyncCommand_ends n h htxn hv) hen hs
    · exact hignored 1 (decsyncCommand_ends n h htxn hv) hoff

end Sys2Proof.Machine

/-! The end of a hold of an AO pin, its unlatching, and the view of a phasor (O24). -/

namespace Sys2Proof.Machine

section
variable {d : Dev}

/-! AO_MIN_HOLD_END (R280). -/

theorem Dev.aoHoldEnd_none {a : Nat} (h : (d.ao a).holdTo = none) : d.aoHoldEnd a = d := by simp only [Dev.aoHoldEnd, h]

theorem Dev.aoHoldEnd_over {a x : Nat} (h : (d.ao a).holdTo = some x) (hover : x ≤ d.tim.clk) :
    d.aoHoldEnd a = (d.modAo a (fun p => { p with holdTo := none })).aoStep a := by
  simp only [Dev.aoHoldEnd, h, if_pos hover]

theorem Dev.aoHoldEnd_holds {a x : Nat} (h : (d.ao a).holdTo = some x) (hwait : d.tim.clk < x) : d.aoHoldEnd a = d := by
  simp only [Dev.aoHoldEnd, h, if_neg (Nat.not_le.mpr hwait)]

/-! AO_UNLATCH (R280, R281). -/

/-- The pins that a word names and that have no active source, as a mask. -/
def Dev.unlatchMask (d : Dev) (v : Word) : Nat := sumN ((List.range 16).map (fun a => if bit v a && !d.aoSource a then 2 ^ a else 0))

/-- A write names pins by the low half of its word. -/
theorem Dev.unlatchMask_eq (v : Word) :
    sumN ((List.range 16).map (fun a => if (bits v 15 0).testBit a && !d.aoSource a then 2 ^ a else 0)) = d.unlatchMask v := by
  refine congrArg sumN (List.map_congr_left fun a ha => ?_)
  rw [bits_testBit v (List.mem_range.mp ha), Nat.zero_add]

theorem Dev.aoUnlatch_ignored {v : Word} (h : d.unlatchMask v = 0) : d.aoUnlatch (bits v 15 0) = d := by
  rw [Dev.aoUnlatch, Dev.unlatchMask_eq, if_pos h]

theorem Dev.aoUnlatch_waits {v : Word} (h : d.unlatchMask v ≠ 0) : d.aoUnlatch (bits v 15 0) =
    { d with loc := { d.loc with unlatch := d.loc.unlatch ++ [(d.unlatchMask v, d.tim.clk)] } } := by
  rw [Dev.aoUnlatch, Dev.unlatchMask_eq, if_neg h]

theorem Dev.aoUnlatch_resetCtr (m : Nat) : (d.aoUnlatch m).resetCtr = d.resetCtr := by
  simp only [Dev.aoUnlatch, apply_ite Dev.resetCtr, ite_self]

variable (d) in
theorem Dev.regAct_aoUnlatch (i : Iface) (w : Word) : d.regAct i Reg.PHS_AO_UNLATCH w = d.aoUnlatch (bits w 15 0) := by
  rw [regAct_eq]
  rfl

end

theorem aoUnlatch_row : regAt Reg.PHS_AO_UNLATCH = some ⟨0xC0020, [], .wo, 0x0, 0xFFFF, 0xFFFF, []⟩ := by decide +kernel

theorem aoUnlatch_ends {s : State} {i : Iface} (n : Nat) (v : Word) (h : s.canWrite i Reg.PHS_AO_UNLATCH) :
    Ends (exec (.aoUnlatch n i v) s) { s with dev := (s.dev.tick n).aoUnlatch (bits v 15 0) } := by
  rw [exec_aoUnlatch]
  refine hostRow_act h aoUnlatch_row (.inr (.inl rfl)) rfl (by decide) ?_ (Dev.aoUnlatch_resetCtr _)
  rw [Dev.regAct_aoUnlatch]
  exact congrArg _ (bits_held _ v (m := 0xFFFF) (by decide +revert))

/-! PHS_CH_STATUS_READ (R283, R866). -/

section
variable (d : Dev) (i : Iface)

theorem Dev.capture_phsStatus {c : Nat} (hc : c < 256) : d.capture i (Reg.PHS_CH_STATUS c) = some (d.phsCapture i c) := by
  have helem : elemOf (Reg.PHS_CH_STATUS 0) (Reg.PHS_CH_MAG 1 - Reg.PHS_CH_MAG 0) 256 (Reg.PHS_CH_STATUS c) = c := elemOf_elem (off := 0) hc (by decide)
  have hck := elemOf_lt (Reg.CNV_CK_RES_STATUS 0) 0x40 (Reg.PHS_CH_STATUS c) (n := 16) (by decide)
  rw [Dev.capture, helem]
  generalize elemOf (Reg.CNV_CK_RES_STATUS 0) 0x40 16 (Reg.PHS_CH_STATUS c) = k at *
  rw [if_neg (by unfold Reg.PHS_CH_STATUS Reg.CNV_CK_RES_STATUS; omega), if_neg (by unfold Reg.PHS_CH_STATUS Reg.CNV_CK_RES_CONSUME; omega),
    if_neg (by unfold Reg.PHS_CH_STATUS Reg.FLT_COEF_DATA; omega), if_pos rfl]

theorem Dev.phsCapture_status (c : Nat) : (d.phsCapture i c).1 = d.phsStatus c := rfl

theorem Dev.phsCapture_rest (c : Nat) : (d.phsCapture i c).2.loc = d.loc ∧ (d.phsCapture i c).2.regs = d.regs := d.view_rest _ _ _ _

/-- The words of a delivered phasor, in the order of its registers. -/
def Deliv.word (r : Deliv) (j : Nat) : Word :=
  if j = 0 then w32 r.mag else if j = 1 then w32 r.ang else if j = 2 then w32i r.f
  else if j = 3 then w32 (cx 16 (clampS 16 r.rocof) + (if r.rocof < 0 then 0xFFFF0000 else 0))
  else if j = 4 then w32 (r.time / 1000000000) else if j = 5 then w32 (r.time % 1000000000) else w32 r.tq

theorem Dev.phsCapture_latched {c j : Nat} {r : Deliv} (h : (d.chan c).rpt = some r) (hj : j < 7) :
    (d.phsCapture i c).2.latched i (Reg.PHS_CH_MAG c + 4 * j) = r.word j := by
  simp only [Dev.phsCapture, h]
  rw [Dev.latched_view _ _ _ _ (by omega)]
  interval_cases j <;> rfl

end

theorem phsStatus_row {c : Nat} (hc : c < 256) : regAt (Reg.PHS_CH_STATUS c) = some ⟨0xC2008, [(0x40, 256)], .ro, 0x0, 0x0, 0x0, []⟩ := by
  have hall : (List.range 256).all (fun c => decide (regAt (Reg.PHS_CH_STATUS c) = some ⟨0xC2008, [(0x40, 256)], .ro, 0x0, 0x0, 0x0, []⟩)) = true := by
    decide +kernel
  exact of_decide_eq_true (List.all_eq_true.mp hall c (List.mem_range.mpr hc))

/-- Settles O24: the end of a hold acts once the hold is over (`Dev.aoHoldEnd_over`, `Dev.aoHoldEnd_holds`), the pins without an active source wait to be
unlatched (`Dev.aoUnlatch_waits`), and the read of a status captures the words of its phasor (`Dev.phsCapture_latched`). -/
theorem alarmOutputsAndPhasorView : Obligations.AlarmOutputsAndPhasorView := by
  unfold Obligations.AlarmOutputsAndPhasorView
  refine ⟨fun s n a ha hboot => ?hold, fun s n i v h => ?unlatch, fun s n c i hc h => ?view⟩
  case hold =>
    have hends := runRow_ends s n (·.aoHoldEnd a) hboot
    rw [exec_aoMinHoldEnd, decide_eq_true ha, ← Dev.tick_clk]
    refine ⟨fun x hx => ⟨fun hover => ?_, fun hwait => ?_⟩, fun hnone => ?_⟩
    · rwa [Dev.aoHoldEnd_over (d := s.dev.tick n) hx hover] at hends
    · exact runRow_still hboot (Dev.aoHoldEnd_holds (d := s.dev.tick n) hx hwait)
    · exact runRow_idle _ (Dev.aoHoldEnd_none (d := s.dev.tick n) hnone)
  case unlatch =>
    intro m
    have hends := aoUnlatch_ends n v h
    refine ⟨fun hzero => ?_, fun hsome => ?_⟩
    · rwa [Dev.aoUnlatch_ignored (d := s.dev.tick n) hzero] at hends
    · rwa [Dev.aoUnlatch_waits (d := s.dev.tick n) hsome, Dev.tick_clk] at hends
  case view =>
    rw [exec_phsChStatusRead, decide_eq_true hc]
    obtain ⟨hloc, hregs⟩ := (s.dev.tick n).phsCapture_rest i c
    refine (readRow_capture h (phsStatus_row hc) (Dev.capture_phsStatus _ i hc)).mono fun t ⟨hdata, htloc, htregs, htlatch⟩ => ?_
    refine ⟨hdata, htloc.trans hloc, htregs.trans hregs, fun r hr => ?_⟩
    have hword (j : Nat) (hj : j < 7) : t.dev.latched i (Reg.PHS_CH_MAG c + 4 * j) = r.word j :=
      (htlatch _).trans ((s.dev.tick n).phsCapture_latched i hr hj)
    have hang : Reg.PHS_CH_ANG c = Reg.PHS_CH_MAG c + 4 * 1 := by unfold Reg.PHS_CH_ANG Reg.PHS_CH_MAG; omega
    rw [hang]
    exact ⟨hword 0 (by decide), hword 1 (by decide), hword 2 (by decide), hword 4 (by decide), hword 5 (by decide), hword 6 (by decide)⟩

end Sys2Proof.Machine

/-! The rules of a port that every command about one goes through: its entry in the table, its registers, what is beside it. -/

namespace Sys2Proof.Machine

/-- A row with operands that name nothing, or whose effect leaves the machine of its tick. -/
theorem devRow_idle {s : State} {t : Nat} {f : Dev → Dev} (ok : Bool) (hf : ok = true → f (s.dev.tick t) = s.dev.tick t) :
    Ends (devRow s t ok f) { s with dev := s.dev.tick t } := by
  have h : (if ok then f (s.dev.tick t) else s.dev.tick t) = s.dev.tick t := by
    cases ok
    · rfl
    · exact hf rfl
  rw [devRow, h]
  exact Ends.of_done s _

/-- A row whose operands name a port. -/
theorem portRow_ends {s : State} {t p : Nat} (f : Dev → Dev) (hp : p < 8) :
    Ends (devRow s t (decide (p < 8)) f) { s with dev := f (s.dev.tick t) } := by
  rw [decide_eq_true hp]
  exact devRow_ends s t f

section
variable (d : Dev)

/-! The ports under the shared operations. -/

@[simp] theorem Dev.incW_net (a n : Nat) : (d.incW a n).net = d.net := rfl

@[simp] theorem Dev.inc_net (a n : Nat) : (d.inc a n).net = d.net := by
  obtain ⟨_, _, h⟩ := d.inc_eq a n
  rw [h]

@[simp] theorem Dev.record_net (typ : Nat) (b : Bytes) : (d.record typ b).net = d.net := by
  obtain ⟨_, _, _, h⟩ := d.record_eq typ b
  rw [h]

variable {d} in
/-- What a port is depends on the ports alone. -/
theorem Dev.port_congr {e : Dev} (h : e.net = d.net) (p : Nat) : e.port p = d.port p := by rw [Dev.port, h, Dev.port]

@[simp] theorem Dev.wrN_port (a v p : Nat) : (d.wrN a v).port p = d.port p := rfl
@[simp] theorem Dev.incW_port (a n p : Nat) : (d.incW a n).port p = d.port p := rfl
@[simp] theorem Dev.raise_port (a k p : Nat) : (d.raise a k).port p = d.port p := rfl
@[simp] theorem Dev.emit_port (x : Sent) (p : Nat) : (d.emit x).port p = d.port p := rfl
@[simp] theorem Dev.inc_port (a n p : Nat) : (d.inc a n).port p = d.port p := Dev.port_congr (d.inc_net a n) p
@[simp] theorem Dev.record_port (typ : Nat) (b : Bytes) (p : Nat) : (d.record typ b).port p = d.port p := Dev.port_congr (d.record_net typ b) p

theorem Dev.port_modPort_ne {p q : Nat} (h : q ≠ p) (f : Port → Port) : (d.modPort p f).port q = d.port q := tget_tset_ne _ _ _ h _

@[simp] theorem Dev.modPort_rd (p : Nat) (f : Port → Port) (a : Nat) : (d.modPort p f).rd a = d.rd a := rfl
@[simp] theorem Dev.modPort_rdN (p : Nat) (f : Port → Port) (a : Nat) : (d.modPort p f).rdN a = d.rdN a := rfl

/-! What a command about port `p` leaves alone. -/

/-- The other ports, the time base and the local path. -/
def Dev.besidePort (p : Nat) (d : Dev) : (Nat → Port) × Tim × Local := (fun q => if q = p then Port.start else d.port q, d.tim, d.loc)

variable {d} in
theorem Dev.besidePort_congr {e : Dev} (hnet : e.net = d.net) (htim : e.tim = d.tim) (hloc : e.loc = d.loc) (p : Nat) :
    e.besidePort p = d.besidePort p := by
  unfold Dev.besidePort Dev.port
  rw [hnet, htim, hloc]

variable {d} in
theorem Dev.besidePort_eq {e : Dev} {p : Nat} (h : e.besidePort p = d.besidePort p) :
    (∀ q, q ≠ p → e.port q = d.port q) ∧ e.tim = d.tim ∧ e.loc = d.loc := by
  simp only [Dev.besidePort, Prod.mk.injEq] at h
  obtain ⟨hports, htim, hloc⟩ := h
  refine ⟨fun q hq => ?_, htim, hloc⟩
  simpa only [if_neg hq] using congrFun hports q

@[simp] theorem Dev.modPort_besidePort (p : Nat) (f : Port → Port) : (d.modPort p f).besidePort p = d.besidePort p := by
  have hports : (fun q => if q = p then Port.start else (d.modPort p f).port q) = fun q => if q = p then Port.start else d.port q := by
    funext q
    by_cases hq : q = p
    · rw [if_pos hq, if_pos hq]
    · rw [if_neg hq, if_neg hq, d.port_modPort_ne hq]
  unfold Dev.besidePort
  rw [hports]
  rfl

@[simp] theorem Dev.wrN_besidePort (a v p : Nat) : (d.wrN a v).besidePort p = d.besidePort p := rfl
@[simp] theorem Dev.incW_besidePort (a n p : Nat) : (d.incW a n).besidePort p = d.besidePort p := rfl
@[simp] theorem Dev.raise_besidePort (a k p : Nat) : (d.raise a k).besidePort p = d.besidePort p := rfl
@[simp] theorem Dev.emit_besidePort (x : Sent) (p : Nat) : (d.emit x).besidePort p = d.besidePort p := rfl
@[simp] theorem Dev.inc_besidePort (a n p : Nat) : (d.inc a n).besidePort p = d.besidePort p :=
  Dev.besidePort_congr (d.inc_net a n) (d.inc_tim a n) (d.inc_loc a n) p
@[simp] theorem Dev.record_besidePort (typ : Nat) (b : Bytes) (p : Nat) : (d.record typ b).besidePort p = d.besidePort p :=
  Dev.besidePort_congr (d.record_net typ b) (d.record_tim typ b) (d.record_loc typ b) p

/-! Registers. -/

theorem Dev.incW_rd_ne {a b : Nat} (n : Nat) (h : b ≠ a) : (d.incW a n).rd b = d.rd b := d.rd_wrN_ne h _

theorem Dev.incW_rdN_same (a n : Nat) : (d.incW a n).rdN a = (d.rdN a + n) % 2 ^ 32 := d.rdN_wrN_same a _

/-- A raised bit leaves the other bits of its register, and the other registers. -/
theorem Dev.flag_raise_ne {a b k j : Nat} (hk : k < 32) (h : b ≠ a ∨ j ≠ k) : (d.raise a k).flag b j = d.flag b j :=
  Dev.flag_putB_ne _ a b k j true hk h

variable {d} in
theorem Dev.flag_congr {e : Dev} {a : Nat} (h : e.rd a = d.rd a) (k : Nat) : e.flag a k = d.flag a k := by rw [Dev.flag, h, Dev.flag]

end

/-- No register of a port is the count of lost records. -/
theorem portReg_ne_recLost {a p : Nat} (hp : p < 8) (h : a < 0x101000 + 0x1000 * p) : a ≠ Reg.REC_LOST_CNT := by
  unfold Reg.REC_LOST_CNT
  omega

end Sys2Proof.Machine

/-! Pause holds, low-power idle and PLCA (R315 to R324). -/

namespace Sys2Proof.Machine

section
variable {d : Dev} {p : Nat}

/-- A port with no frame waiting starts none. -/
theorem Dev.txStart_empty (h : (d.port p).txq = []) : d.txStart p = d := if_pos h

/-- A port whose pause hold is over. -/
def Port.unpaused (x : Port) : Port := { x with pauseTo := none }

/-! Pause (R315 to R318). -/

/-- The end of a hold with no frame waiting. -/
theorem Dev.pauseRelease_empty {u : Nat} (h : (d.port p).pauseTo = some u) (hq : (d.port p).txq = []) :
    d.pauseRelease p = (d.incW (Reg.NET_PORT_TX_PAUSED_US p) (d.usSince (d.port p).holdAt)).modPort p Port.unpaused := by
  unfold Dev.pauseRelease
  rw [if_pos (by rw [h]; rfl)]
  refine Dev.txStart_empty ?_
  rw [Dev.port_modPort_same]
  exact hq

theorem Dev.pauseHoldEnd_due {u : Nat} (h : (d.port p).pauseTo = some u) (hdue : u ≤ d.tim.clk) : d.pauseHoldEnd p = d.pauseRelease p := by
  simp only [Dev.pauseHoldEnd, h, if_pos hdue]

theorem Dev.pauseHoldEnd_early {u : Nat} (h : (d.port p).pauseTo = some u) (hearly : d.tim.clk < u) : d.pauseHoldEnd p = d := by
  simp only [Dev.pauseHoldEnd, h, if_neg (Nat.not_le.mpr hearly)]

variable (d p) in
/-- A hold of `held` µs that the watchdog ends: the time in which pause is ignored, the count, the record and the interrupt (R317). -/
def Dev.watchdogTell (held : Nat) : Dev :=
  (((d.modPort p (fun x => { x with ignoreTo := some (d.tim.clk + ticksMs (bits (d.rd (Reg.NET_PORT_PAUSE_CFG p)) 31 16)) })).inc
    (Reg.NET_PORT_PAUSE_WD_CNT p) 1).record 0x0703 (be 1 p ++ zeros 3 ++ be 4 held ++ zeros 8)).raise (Reg.NET_PORT_INT_STATUS p) 3

theorem Dev.watchdogTell_port (held : Nat) : (d.watchdogTell p held).port p =
    { d.port p with ignoreTo := some (d.tim.clk + ticksMs (bits (d.rd (Reg.NET_PORT_PAUSE_CFG p)) 31 16)) } := by simp [Dev.watchdogTell]

theorem Dev.watchdogTell_besidePort (held : Nat) : (d.watchdogTell p held).besidePort p = d.besidePort p := by simp [Dev.watchdogTell]

theorem Dev.watchdogTell_told (held : Nat) : (d.watchdogTell p held).flag (Reg.NET_PORT_INT_STATUS p) 3 = true := Dev.flag_raise _ _ _ (by decide)

theorem Dev.watchdogTell_usSince (held c : Nat) : (d.watchdogTell p held).usSince c = d.usSince c := by
  unfold Dev.usSince
  rw [(Dev.besidePort_eq (d.watchdogTell_besidePort held)).2.1]

theorem Dev.watchdogTell_count (held : Nat) (hp : p < 8) :
    (d.watchdogTell p held).rd (Reg.NET_PORT_PAUSE_WD_CNT p) = (d.inc (Reg.NET_PORT_PAUSE_WD_CNT p) 1).rd (Reg.NET_PORT_PAUSE_WD_CNT p) := by
  have hint : Reg.NET_PORT_PAUSE_WD_CNT p ≠ Reg.NET_PORT_INT_STATUS p := by unfold Reg.NET_PORT_PAUSE_WD_CNT Reg.NET_PORT_INT_STATUS; omega
  have hlost : Reg.NET_PORT_PAUSE_WD_CNT p ≠ Reg.REC_LOST_CNT := portReg_ne_recLost hp (by unfold Reg.NET_PORT_PAUSE_WD_CNT; omega)
  rw [Dev.watchdogTell, Dev.rd_raise_ne _ _ hint, Dev.record_rd_ne _ _ _ hlost]
  exact Dev.rd_inc_congr (d.modPort_rd p _ _) 1

theorem Dev.watchdogTell_paused (held : Nat) (hp : p < 8) :
    (d.watchdogTell p held).rdN (Reg.NET_PORT_TX_PAUSED_US p) = d.rdN (Reg.NET_PORT_TX_PAUSED_US p) := by
  have hint : Reg.NET_PORT_TX_PAUSED_US p ≠ Reg.NET_PORT_INT_STATUS p := by unfold Reg.NET_PORT_TX_PAUSED_US Reg.NET_PORT_INT_STATUS; omega
  have hlost : Reg.NET_PORT_TX_PAUSED_US p ≠ Reg.REC_LOST_CNT := portReg_ne_recLost hp (by unfold Reg.NET_PORT_TX_PAUSED_US; omega)
  have hcnt : Reg.NET_PORT_TX_PAUSED_US p ≠ Reg.NET_PORT_PAUSE_WD_CNT p := by unfold Reg.NET_PORT_TX_PAUSED_US Reg.NET_PORT_PAUSE_WD_CNT; omega
  rw [Dev.rdN, Dev.watchdogTell, Dev.rd_raise_ne _ _ hint, Dev.record_rd_ne _ _ _ hlost, Dev.rd_inc_ne _ _ hcnt, Dev.modPort_rd, Dev.rdN]

/-- The watchdog tells of the hold and releases it (R317). -/
theorem Dev.pauseWatchdog_due {u held : Nat} (h : (d.port p).pauseTo = some u) (hq : (d.port p).txq = []) (hheld : held = d.usSince (d.port p).holdAt)
    (hdue : ticksUs (bits (d.rd (Reg.NET_PORT_PAUSE_CFG p)) 15 0) ≤ d.tim.clk - (d.port p).holdAt) :
    d.pauseWatchdog p = ((d.watchdogTell p held).incW (Reg.NET_PORT_TX_PAUSED_US p) held).modPort p Port.unpaused := by
  have hport := d.watchdogTell_port (p := p) held
  have hrelease := Dev.pauseRelease_empty (d := d.watchdogTell p held) (u := u) (by rw [hport]; exact h) (by rw [hport]; exact hq)
  rw [hport, Dev.watchdogTell_usSince, ← hheld] at hrelease
  rw [← hrelease, hheld]
  exact if_pos (by simp [h, hdue])

/-- What the watchdog leaves of a hold that has lasted its time, with no frame waiting (R317, R330). -/
theorem Dev.pauseWatchdog_leaves {u : Nat} (hp : p < 8) (h : (d.port p).pauseTo = some u) (hq : (d.port p).txq = [])
    (hdue : ticksUs (bits (d.rd (Reg.NET_PORT_PAUSE_CFG p)) 15 0) ≤ d.tim.clk - (d.port p).holdAt) :
    let e := d.pauseWatchdog p
    e.port p = { d.port p with pauseTo := none, ignoreTo := some (d.tim.clk + ticksMs (bits (d.rd (Reg.NET_PORT_PAUSE_CFG p)) 31 16)) } ∧
    e.rd (Reg.NET_PORT_PAUSE_WD_CNT p) = (d.inc (Reg.NET_PORT_PAUSE_WD_CNT p) 1).rd (Reg.NET_PORT_PAUSE_WD_CNT p) ∧
    e.rdN (Reg.NET_PORT_TX_PAUSED_US p) = (d.rdN (Reg.NET_PORT_TX_PAUSED_US p) + d.usSince (d.port p).holdAt) % 2 ^ 32 ∧
    e.flag (Reg.NET_PORT_INT_STATUS p) 3 = true ∧ e.besidePort p = d.besidePort p := by
  intro e
  have hcnt : Reg.NET_PORT_PAUSE_WD_CNT p ≠ Reg.NET_PORT_TX_PAUSED_US p := by unfold Reg.NET_PORT_TX_PAUSED_US Reg.NET_PORT_PAUSE_WD_CNT; omega
  have hint : Reg.NET_PORT_INT_STATUS p ≠ Reg.NET_PORT_TX_PAUSED_US p := by unfold Reg.NET_PORT_TX_PAUSED_US Reg.NET_PORT_INT_STATUS; omega
  have he : e = _ := Dev.pauseWatchdog_due h hq rfl hdue
  rw [he]
  refine ⟨?port, ?count, ?paused, ?told, ?beside⟩
  case port => rw [Dev.port_modPort_same, Dev.incW_port, Dev.watchdogTell_port]; rfl
  case count => rw [Dev.modPort_rd, Dev.incW_rd_ne _ _ hcnt, Dev.watchdogTell_count _ hp]
  case paused => rw [Dev.modPort_rdN, Dev.incW_rdN_same, Dev.watchdogTell_paused _ hp]
  case told => rw [Dev.flag_congr (Dev.modPort_rd _ _ _ _), Dev.flag_congr (Dev.incW_rd_ne _ _ hint), Dev.watchdogTell_told]
  case beside => rw [Dev.modPort_besidePort, Dev.incW_besidePort, Dev.watchdogTell_besidePort]

theorem Dev.pauseWatchdog_early (hearly : d.tim.clk - (d.port p).holdAt < ticksUs (bits (d.rd (Reg.NET_PORT_PAUSE_CFG p)) 15 0)) :
    d.pauseWatchdog p = d := if_neg (by simp [hearly])

theorem Dev.pauseIgnoreEnd_due {u : Nat} (h : (d.port p).ignoreTo = some u) (hdue : u ≤ d.tim.clk) :
    d.pauseIgnoreEnd p = d.modPort p (fun x => { x with ignoreTo := none }) := by simp only [Dev.pauseIgnoreEnd, h, if_pos hdue]

theorem Dev.pauseIgnoreEnd_early {u : Nat} (h : (d.port p).ignoreTo = some u) (hearly : d.tim.clk < u) : d.pauseIgnoreEnd p = d := by
  simp only [Dev.pauseIgnoreEnd, h, if_neg (Nat.not_le.mpr hearly)]

/-! Low-power idle (R319, R321). -/

variable (d p) in
/-- An SGMII port at more than 10 Mb/s that has been empty for its time may enter low-power idle (R319). -/
abbrev Dev.MayIdle : Prop :=
  d.isSgmii p = true ∧ (d.port p).link = true ∧ d.speedCode p ≠ 0 ∧ d.flag (Reg.NET_PORT_CFG p) 7 = true ∧ (d.port p).txq = [] ∧ (d.port p).cur = none ∧
  (d.port p).lpiAt = none ∧ (d.port p).wakeTo = none ∧ ticksUs (d.fld (Reg.NET_PORT_EEE_CFG p) 15 0) ≤ d.tim.clk - (d.port p).emptyAt

variable (d p) in
theorem Dev.lpiEntry_eq : d.lpiEntry p = if d.MayIdle p then
    (d.modPort p (fun x => { x with lpiAt := some d.tim.clk })).incW (Reg.NET_PORT_LPI_ENTRY p) 1 else d := by
  have hiff : ((d.isSgmii p && (d.port p).link && d.speedCode p != 0 && d.flag (Reg.NET_PORT_CFG p) 7 && (d.port p).txq == [] && (d.port p).cur == none &&
      (d.port p).lpiAt.isNone && (d.port p).wakeTo.isNone &&
      decide (ticksUs (d.fld (Reg.NET_PORT_EEE_CFG p) 15 0) ≤ d.tim.clk - (d.port p).emptyAt)) = true) = d.MayIdle p := by
    simp [Dev.MayIdle, and_assoc]
  simp only [Dev.lpiEntry, hiff]

theorem Dev.lpiWake_due {u : Nat} (h : (d.port p).wakeTo = some u) (hq : (d.port p).txq = []) (hdue : u ≤ d.tim.clk) :
    d.lpiWake p = d.modPort p (fun x => { x with wakeTo := none }) := by
  simp only [Dev.lpiWake, h, if_pos hdue]
  refine Dev.txStart_empty ?_
  rw [Dev.port_modPort_same]
  exact hq

theorem Dev.lpiWake_early {u : Nat} (h : (d.port p).wakeTo = some u) (hearly : d.tim.clk < u) : d.lpiWake p = d := by
  simp only [Dev.lpiWake, h, if_neg (Nat.not_le.mpr hearly)]

/-! PLCA (R323, R324). -/

theorem Dev.plcaLost_up (h : (d.port p).plca = true) : d.plcaLost p = d.plcaDown p := if_pos h

theorem Dev.plcaLost_down (h : (d.port p).plca = false) : d.plcaLost p = d := if_neg (by simp [h])

theorem Dev.plcaUp_rises (hp : 4 ≤ p) (hlink : (d.port p).link = true) (hen : d.flag (Reg.NET_PORT_CFG p) 8 = true) (h : (d.port p).plca = false) :
    d.plcaUp p = d.plcaRise p := if_pos (by simp [hp, hlink, hen, h])

theorem Dev.plcaUp_still (h : p < 4 ∨ (d.port p).link = false ∨ (d.port p).plca = true ∨ d.flag (Reg.NET_PORT_CFG p) 8 = false) : d.plcaUp p = d := by
  refine if_neg ?_
  obtain h | h | h | h := h
  · simp [Nat.not_le.mpr h]
  · simp [h]
  · simp [h]
  · simp [h]

variable (d p) in
/-- The BEACON of a coordinator is the one thing that the rise of PLCA leaves beside the port (R323). -/
theorem Dev.plcaRise_eq : ∃ x, d.plcaRise p =
    { d.modPort p (fun y => { y with plca := true, burst := 0, oppAt := d.tim.clk }) with host := { d.host with sent := x } } := by
  unfold Dev.plcaRise
  dsimp only
  split
  · exact ⟨_, rfl⟩
  · exact ⟨d.host.sent, rfl⟩

end

theorem decide_tPort {p : Nat} (hp : p < 8) (h4 : 4 ≤ p) : (decide (4 ≤ p) && decide (p < 8)) = true := by simp [hp, h4]

theorem plcaRise_ends {s : State} {n p : Nat} (h : Ends (exec (.plcaStatusUp n p) s) { s with dev := (s.dev.tick n).plcaRise p }) :
    Ends (exec (.plcaStatusUp n p) s)
      { s with dev := (s.dev.tick n).modPort p (fun y => { y with plca := true, burst := 0, oppAt := (s.dev.tick n).tim.clk }) } := by
  obtain ⟨x, hx⟩ := (s.dev.tick n).plcaRise_eq p
  exact Ends.absorb (t := { s with dev := (s.dev.tick n).modPort p (fun y => { y with plca := true, burst := 0, oppAt := (s.dev.tick n).tim.clk }) })
    h ⟨s.dev.txn.rollback, s.dev.host.summary, s.dev.host.pba, s.dev.host.mem, x, hx⟩

/-- Settles O39: the holds, the ignored time and the wake end once due (`Dev.pauseHoldEnd_due`, `Dev.pauseWatchdog_leaves`, `Dev.pauseIgnoreEnd_due`,
`Dev.lpiWake_due`), low-power idle begins where `Dev.MayIdle`, and PLCA falls and rises (`Dev.plcaLost_up`, `Dev.plcaUp_rises`). -/
theorem pauseIdleAndPlca : Obligations.PauseIdleAndPlca := by
  unfold Obligations.PauseIdleAndPlca
  refine ⟨?pause, ?ignore, ?idle⟩
  case pause =>
    intro s n p u hp hu hq e c held
    have hhold := portRow_ends (s := s) (t := n) (·.pauseHoldEnd p) hp
    have hdog := portRow_ends (s := s) (t := n) (·.pauseWatchdog p) hp
    have hu' : (e.port p).pauseTo = some u := hu
    rw [exec_pauseHoldEnd, exec_pauseWatchdog]
    refine ⟨fun hdue => ?_, fun hearly => ?_, fun hdue => ?_, fun hearly => ?_⟩
    · rwa [Dev.pauseHoldEnd_due hu' hdue, Dev.pauseRelease_empty hu' hq] at hhold
    · rwa [Dev.pauseHoldEnd_early hu' hearly] at hhold
    · obtain ⟨hport, hcnt, hus, htold, hbeside⟩ := Dev.pauseWatchdog_leaves (d := e) hp hu' hq hdue
      exact hdog.with fun _ _ _ _ _ => ⟨hport, hcnt.trans (Dev.rd_inc_congr (s.dev.tick_rd n _) 1), hus, htold, (Dev.besidePort_eq hbeside).1, rfl⟩
    · rwa [Dev.pauseWatchdog_early (d := e) hearly] at hdog
  case ignore =>
    intro s n p u hp hu
    have hends := portRow_ends (s := s) (t := n) (·.pauseIgnoreEnd p) hp
    have hu' : ((s.dev.tick n).port p).ignoreTo = some u := hu
    rw [exec_pauseIgnoreEnd, ← Dev.tick_clk]
    refine ⟨fun hdue => ?_, fun hearly => ?_⟩
    · rwa [Dev.pauseIgnoreEnd_due hu' hdue] at hends
    · rwa [Dev.pauseIgnoreEnd_early hu' hearly] at hends
  case idle =>
    intro s n p hp e x may
    have hentry := portRow_ends (s := s) (t := n) (·.lpiEntry p) hp
    have hwake := portRow_ends (s := s) (t := n) (·.lpiWake p) hp
    rw [Dev.lpiEntry_eq] at hentry
    refine ⟨fun hmay => ?_, fun hmay => ?_, fun u hu hq => ⟨fun hdue => ?_, fun hearly => ?_⟩, fun h4 hon => ?_, fun hoff => ?_, fun h4 hlink hen hoff => ?_,
      fun hstill => ?_⟩
    · have hidle : (s.dev.tick n).MayIdle p := hmay
      rwa [if_pos hidle] at hentry
    · have hidle : ¬ (s.dev.tick n).MayIdle p := hmay
      rwa [if_neg hidle] at hentry
    · rwa [Dev.lpiWake_due (d := s.dev.tick n) hu hq hdue] at hwake
    · rwa [Dev.lpiWake_early (d := s.dev.tick n) hu hearly] at hwake
    · rw [exec_plcaLost, decide_tPort hp h4]
      have hends := devRow_ends s n (·.plcaLost p)
      rwa [Dev.plcaLost_up (d := s.dev.tick n) hon] at hends
    · exact devRow_idle _ fun _ => Dev.plcaLost_down (d := s.dev.tick n) hoff
    · have hends := devRow_ends s n (·.plcaUp p)
      rw [Dev.plcaUp_rises (d := s.dev.tick n) h4 hlink hen hoff, ← decide_tPort hp h4, ← exec_plcaStatusUp] at hends
      exact plcaRise_ends hends
    · exact devRow_idle _ fun _ => Dev.plcaUp_still (d := s.dev.tick n) hstill

end Sys2Proof.Machine

/-! Changes of a port's link (R286 to R288, R921). -/

namespace Sys2Proof.Machine

section
variable {d : Dev} {p : Nat}

/-! What the steps of a change leave of the port: all but the row of its latencies and its PLCA. -/

/-- A port without the row of its latencies and without its PLCA. -/
def Port.core (x : Port) : Port := { x with cond := 0, plca := false, burst := 0, oppAt := 0 }

/-- What no step beside the link itself changes: the machine beside the port, and the core of the port. -/
def Dev.linkView (p : Nat) (d : Dev) : ((Nat → Port) × Tim × Local) × Port := (d.besidePort p, (d.port p).core)

theorem Dev.plcaDown_linkView : (d.plcaDown p).linkView p = d.linkView p := by simp [Dev.linkView, Dev.plcaDown, Port.core]

theorem Dev.plcaRise_linkView : (d.plcaRise p).linkView p = d.linkView p := by
  simp [Dev.linkView, Dev.plcaRise, Port.core, apply_ite (Dev.besidePort p), apply_ite (Dev.port · p)]

theorem Dev.plcaReview_linkView : (d.plcaReview p).linkView p = d.linkView p := by
  unfold Dev.plcaReview
  dsimp only
  split
  · exact Dev.plcaDown_linkView
  · split
    · exact Dev.plcaRise_linkView
    · rfl

theorem Dev.latLoad_linkView : (d.latLoad p).linkView p = d.linkView p := by
  unfold Dev.latLoad
  split
  · rfl
  · simp [Dev.linkView, Dev.latShow, Port.core]

theorem Dev.linkRecord_linkView (up : Bool) : (d.linkRecord p up).linkView p = d.linkView p := by simp [Dev.linkView, Dev.linkRecord]

theorem Dev.advertise_linkView : (d.advertise p).linkView p = d.linkView p := by
  unfold Dev.advertise
  split
  · rfl
  · rfl

theorem Dev.modPort_linkView (f : Port → Port) : (d.modPort p f).linkView p = ((d.linkView p).1, (f (d.port p)).core) := by simp [Dev.linkView]

/-! Registers. -/

theorem Dev.latLoad_rd {a : Nat} (hrx : a ≠ Reg.TIM_PORT_RX_LAT p) (htx : a ≠ Reg.TIM_PORT_TX_LAT p) : (d.latLoad p).rd a = d.rd a := by
  unfold Dev.latLoad
  split
  · rfl
  · rw [Dev.latShow, Dev.rd_wrN_ne _ htx, Dev.rd_wrN_ne _ hrx, Dev.modPort_rd]

theorem Dev.linkRecord_rd {a : Nat} (up : Bool) (hint : a ≠ Reg.NET_PORT_INT_STATUS p) (hlost : a ≠ Reg.REC_LOST_CNT) :
    (d.linkRecord p up).rd a = d.rd a := by rw [Dev.linkRecord, Dev.rd_raise_ne _ _ hint, Dev.record_rd_ne _ _ _ hlost]

theorem Dev.linkRecord_told (up : Bool) : (d.linkRecord p up).flag (Reg.NET_PORT_INT_STATUS p) (if up then 0 else 1) = true := by
  refine Dev.flag_raise _ _ _ ?_
  split <;> decide

theorem Dev.advertise_rd (a : Nat) : (d.advertise p).rd a = d.rd a := by
  unfold Dev.advertise
  split
  · rfl
  · rfl

theorem Dev.plcaRise_rd (a : Nat) : (d.plcaRise p).rd a = d.rd a := by
  obtain ⟨x, hx⟩ := d.plcaRise_eq p
  rw [hx]
  rfl

theorem Dev.plcaReview_rd {a : Nat} (hint : a ≠ Reg.NET_PORT_INT_STATUS p) (hlost : a ≠ Reg.REC_LOST_CNT) : (d.plcaReview p).rd a = d.rd a := by
  unfold Dev.plcaReview
  dsimp only
  split
  · rw [Dev.plcaDown, Dev.rd_raise_ne _ _ hint, Dev.record_rd_ne _ _ _ hlost, Dev.modPort_rd]
  · split
    · exact Dev.plcaRise_rd a
    · rfl

/-- The review of PLCA raises bit 5 of INT_STATUS at most. -/
theorem Dev.plcaReview_flag {k : Nat} (hp : p < 8) (hk : k ≠ 5) :
    (d.plcaReview p).flag (Reg.NET_PORT_INT_STATUS p) k = d.flag (Reg.NET_PORT_INT_STATUS p) k := by
  have hlost : Reg.NET_PORT_INT_STATUS p ≠ Reg.REC_LOST_CNT := portReg_ne_recLost hp (by unfold Reg.NET_PORT_INT_STATUS; omega)
  unfold Dev.plcaReview
  dsimp only
  split
  · rw [Dev.plcaDown, Dev.flag_raise_ne _ (by decide) (.inr hk), Dev.flag_congr (Dev.record_rd_ne _ _ _ hlost), Dev.flag_congr (Dev.modPort_rd _ _ _ _)]
  · split
    · exact Dev.flag_congr (Dev.plcaRise_rd _) k
    · rfl

/-! The steps. -/

/-- A port with what its medium offers. -/
def Port.offered (x : Port) (up : Bool) (speed : Nat) (peer : LinkPeer) : Port :=
  { x with medium := up, speed := speed % 3, half := peer.half, dupErr := false, lpiRx := peer.lpi }

/-- A port whose link comes up at a clock. -/
def Port.linked (x : Port) (clk : Nat) : Port := { x with link := true, emptyAt := clk }

/-- A port whose link goes at a clock: nothing waits, is sent, is held or sleeps. -/
def Port.unlinked (x : Port) (clk : Nat) : Port :=
  { x with link := false, txq := [], cur := none, follow := none, pauseTo := none, lpiAt := none, wakeTo := none, coll := 0, backTo := none, emptyAt := clk }

variable (d p) in
/-- The µs of low-power idle and of a pause hold of a port that the loss of its link ends. -/
def Dev.idleCounts (x : Port) : Dev :=
  let d := if x.lpiAt.isSome then d.incW (Reg.NET_PORT_LPI_US p) (d.usSince (x.lpiAt.getD 0)) else d
  if x.pauseTo.isSome then d.incW (Reg.NET_PORT_TX_PAUSED_US p) (d.usSince x.holdAt) else d

theorem Dev.idleCounts_port (x : Port) (q : Nat) : (d.idleCounts p x).port q = d.port q := by simp [Dev.idleCounts, apply_ite (Dev.port · q)]

theorem Dev.idleCounts_linkView (x : Port) : (d.idleCounts p x).linkView p = d.linkView p := by
  rw [Dev.linkView, Dev.idleCounts_port, Dev.linkView]
  simp [Dev.idleCounts, apply_ite (Dev.besidePort p)]

theorem Dev.idleCounts_rd {a : Nat} (x : Port) (hlpi : a ≠ Reg.NET_PORT_LPI_US p) (hpaused : a ≠ Reg.NET_PORT_TX_PAUSED_US p) :
    (d.idleCounts p x).rd a = d.rd a := by simp [Dev.idleCounts, apply_ite (Dev.rd · a), Dev.incW_rd_ne, hlpi, hpaused]

variable (d p) in
/-- The frames that the loss of the link discards, counted in a loop-back. -/
def Dev.loopDiscards : Dev :=
  if d.portLoop p = 0 then d else d.incW (Reg.TST_PORT_DISC_CNT p) ((d.port p).txq.length + b2n (d.port p).cur.isSome)

variable (d p) in
/-- The link goes (R288, R921). -/
def Dev.linkFalls (x : Port) : Dev :=
  (((d.idleCounts p x).modPort p (·.unlinked (d.idleCounts p x).tim.clk)).inc (Reg.NET_PORT_LINK_DOWN_CNT p) 1).linkRecord p false

variable (d p) in
/-- The link comes up (R288, R328). -/
def Dev.linkRises : Dev := (((d.modPort p (·.linked d.tim.clk)).latLoad p).linkRecord p true).advertise p

variable (d p) in
theorem Dev.relink_eq : d.relink p =
    if (d.dupCheck p).linkWanted p = ((d.dupCheck p).port p).link then (d.dupCheck p).plcaReview p
    else if (d.dupCheck p).linkWanted p then ((d.dupCheck p).linkRises p).plcaReview p
    else (((d.dupCheck p).loopDiscards p).linkFalls p ((d.dupCheck p).port p)).plcaReview p := rfl

theorem Dev.dupCheck_still (h : (d.port p).dupErr = false)
    (hok : (d.port p).medium = false ∨ (d.port p).half = false ∨ d.isSgmii p = false ∨ d.flag (Reg.NET_PORT_CFG p) 0 = false) : d.dupCheck p = d := by
  refine if_pos ?_
  rw [h]
  obtain hok | hok | hok | hok := hok
  · simp [hok]
  · simp [hok]
  · simp [hok]
  · simp [hok]

/-- An attempt in half duplex on an enabled SGMII port whose link is down is refused, and counts (R287). -/
theorem Dev.dupCheck_refused (h : (d.port p).dupErr = false) (hmedium : (d.port p).medium = true) (hhalf : (d.port p).half = true)
    (hsgmii : d.isSgmii p = true) (hen : d.flag (Reg.NET_PORT_CFG p) 0 = true) (hloop : d.portLoop p = 0) (hlink : (d.port p).link = false) :
    d.dupCheck p = (d.modPort p (fun x => { x with dupErr := true })).inc (Reg.NET_PORT_LINK_DOWN_CNT p) 1 := by
  simp [Dev.dupCheck, h, hmedium, hhalf, hsgmii, hen, hloop, hlink, b2n]

theorem Dev.relink_rises (hdup : d.dupCheck p = d) (hwant : d.linkWanted p = true) (hlink : (d.port p).link = false) :
    d.relink p = (d.linkRises p).plcaReview p := by
  rw [Dev.relink_eq, hdup, hwant, hlink, if_neg (by decide), if_pos rfl]

theorem Dev.relink_falls (hdup : d.dupCheck p = d) (hwant : d.linkWanted p = false) (hlink : (d.port p).link = true) (hloop : d.portLoop p = 0) :
    d.relink p = (d.linkFalls p (d.port p)).plcaReview p := by
  rw [Dev.relink_eq, hdup, hwant, hlink, if_neg (by decide), if_neg (by decide), Dev.loopDiscards, if_pos hloop]

theorem Dev.relink_still (hwant : (d.dupCheck p).linkWanted p = false) (hlink : ((d.dupCheck p).port p).link = false) :
    d.relink p = (d.dupCheck p).plcaReview p := by
  rw [Dev.relink_eq, hwant, hlink, if_pos rfl]

/-- A port with its link down and without PLCA has none to review. -/
theorem Dev.plcaReview_unlinked (hlink : (d.port p).link = false) (hplca : (d.port p).plca = false) : d.plcaReview p = d := by
  simp [Dev.plcaReview, hlink, hplca]

/-! What the rise and the fall of the link leave. -/

theorem Dev.linkRises_linkView : (d.linkRises p).linkView p = (d.besidePort p, ((d.port p).linked d.tim.clk).core) := by
  rw [Dev.linkRises, Dev.advertise_linkView, Dev.linkRecord_linkView, Dev.latLoad_linkView, Dev.modPort_linkView]
  rfl

theorem Dev.linkRises_told : (d.linkRises p).flag (Reg.NET_PORT_INT_STATUS p) 0 = true := by
  rw [Dev.linkRises, Dev.flag_congr (Dev.advertise_rd _)]
  exact Dev.linkRecord_told true

theorem Dev.linkFalls_linkView (x : Port) : (d.linkFalls p x).linkView p = (d.besidePort p, ((d.port p).unlinked d.tim.clk).core) := by
  have hview := d.idleCounts_linkView (p := p) x
  have hbeside : (d.idleCounts p x).besidePort p = d.besidePort p := congrArg Prod.fst hview
  rw [Dev.linkFalls, Dev.linkRecord_linkView, Dev.linkView, Dev.inc_besidePort, Dev.modPort_besidePort, hbeside, Dev.inc_port, Dev.port_modPort_same,
    Dev.idleCounts_port, (Dev.besidePort_eq hbeside).2.1]

theorem Dev.linkFalls_told (x : Port) : (d.linkFalls p x).flag (Reg.NET_PORT_INT_STATUS p) 1 = true := Dev.linkRecord_told false

/-- The count of lost links is neither an interrupt, nor a count of µs, nor the count of lost records. -/
theorem linkDown_ne (hp : p < 8) : Reg.NET_PORT_LINK_DOWN_CNT p ≠ Reg.NET_PORT_INT_STATUS p ∧ Reg.NET_PORT_LINK_DOWN_CNT p ≠ Reg.REC_LOST_CNT ∧
    Reg.NET_PORT_LINK_DOWN_CNT p ≠ Reg.NET_PORT_LPI_US p ∧ Reg.NET_PORT_LINK_DOWN_CNT p ≠ Reg.NET_PORT_TX_PAUSED_US p ∧
    Reg.NET_PORT_LINK_DOWN_CNT p ≠ Reg.TIM_PORT_RX_LAT p ∧ Reg.NET_PORT_LINK_DOWN_CNT p ≠ Reg.TIM_PORT_TX_LAT p := by
  unfold Reg.NET_PORT_LINK_DOWN_CNT Reg.NET_PORT_INT_STATUS Reg.REC_LOST_CNT Reg.NET_PORT_LPI_US Reg.NET_PORT_TX_PAUSED_US Reg.TIM_PORT_RX_LAT
    Reg.TIM_PORT_TX_LAT
  omega

theorem Dev.linkFalls_count (hp : p < 8) (x : Port) :
    (d.linkFalls p x).rd (Reg.NET_PORT_LINK_DOWN_CNT p) = (d.inc (Reg.NET_PORT_LINK_DOWN_CNT p) 1).rd (Reg.NET_PORT_LINK_DOWN_CNT p) := by
  obtain ⟨hint, hlost, hlpi, hpaused, -, -⟩ := linkDown_ne hp
  rw [Dev.linkFalls, Dev.linkRecord_rd _ hint hlost]
  exact Dev.rd_inc_congr ((Dev.modPort_rd _ p _ _).trans (Dev.idleCounts_rd x hlpi hpaused)) 1

/-! The command. -/

variable (d p) in
/-- What the medium offers, noted, before the link follows. -/
def Dev.offer (up : Bool) (speed : Nat) (peer : LinkPeer) : Dev := d.modPort p (·.offered up speed peer)

variable {up : Bool} {speed : Nat} {peer : LinkPeer}

theorem Dev.linkChange_eq : d.linkChange p up speed peer =
    if (((d.offer p up speed peer).relink p).port p).link then ((d.offer p up speed peer).relink p).latLoad p else (d.offer p up speed peer).relink p := rfl

theorem Dev.linkChange_linkView : (d.linkChange p up speed peer).linkView p = ((d.offer p up speed peer).relink p).linkView p := by
  rw [Dev.linkChange_eq, apply_ite (Dev.linkView p), Dev.latLoad_linkView, ite_self]

theorem Dev.linkChange_rd {a : Nat} (hrx : a ≠ Reg.TIM_PORT_RX_LAT p) (htx : a ≠ Reg.TIM_PORT_TX_LAT p) :
    (d.linkChange p up speed peer).rd a = ((d.offer p up speed peer).relink p).rd a := by
  rw [Dev.linkChange_eq, apply_ite (Dev.rd · a), Dev.latLoad_rd hrx htx, ite_self]

theorem Dev.linkChange_flag (k : Nat) : (d.linkChange p up speed peer).flag (Reg.NET_PORT_INT_STATUS p) k =
    ((d.offer p up speed peer).relink p).flag (Reg.NET_PORT_INT_STATUS p) k := by
  refine Dev.flag_congr (Dev.linkChange_rd ?_ ?_) k
  · unfold Reg.NET_PORT_INT_STATUS Reg.TIM_PORT_RX_LAT; omega
  · unfold Reg.NET_PORT_INT_STATUS Reg.TIM_PORT_TX_LAT; omega

@[simp] theorem Dev.offer_port : (d.offer p up speed peer).port p = (d.port p).offered up speed peer := d.port_modPort_same p _

theorem Dev.offer_linkWanted : (d.offer p up speed peer).linkWanted p =
    (up && d.flag (Reg.NET_PORT_CFG p) 0 && d.portLoop p == 0 && d.units.repairing != some (portOwner p) && !(d.isSgmii p && peer.half)) := by
  rw [Dev.linkWanted, Dev.offer_port]
  rfl

/-- What the medium offers is no refused attempt unless it is half duplex on an enabled SGMII port (R287). -/
theorem Dev.offer_dupCheck (hok : up = false ∨ peer.half = false ∨ d.isSgmii p = false ∨ d.flag (Reg.NET_PORT_CFG p) 0 = false) :
    (d.offer p up speed peer).dupCheck p = d.offer p up speed peer := by
  refine Dev.dupCheck_still ?_ ?_
  · rw [Dev.offer_port]
    rfl
  · rw [Dev.offer_port]
    exact hok

theorem Dev.offer_besidePort : (d.offer p up speed peer).besidePort p = d.besidePort p := d.modPort_besidePort p _

/-- A link that comes up (R286 to R288). -/
theorem Dev.linkChange_rises (hp : p < 8) (hloop : d.portLoop p = 0) (hduplex : d.isSgmii p = false ∨ peer.half = false)
    (hen : d.flag (Reg.NET_PORT_CFG p) 0 = true) (hwing : d.units.repairing ≠ some (portOwner p)) (hlink : (d.port p).link = false) :
    let e := d.linkChange p true speed peer
    e.linkView p = (d.besidePort p, (((d.port p).offered true speed peer).linked d.tim.clk).core) ∧ e.flag (Reg.NET_PORT_INT_STATUS p) 0 = true := by
  intro e
  have hwant : (d.offer p true speed peer).linkWanted p = true := by
    rw [Dev.offer_linkWanted]
    obtain h | h := hduplex <;> simp [h, hen, hloop, hwing]
  have hdown : ((d.offer p true speed peer).port p).link = false := by rwa [Dev.offer_port]
  have hrelink := Dev.relink_rises (Dev.offer_dupCheck (by tauto)) hwant hdown
  constructor
  · rw [Dev.linkChange_linkView, hrelink, Dev.plcaReview_linkView, Dev.linkRises_linkView, Dev.offer_besidePort, Dev.offer_port]
    rfl
  · rw [Dev.linkChange_flag, hrelink, Dev.plcaReview_flag hp (by decide), Dev.linkRises_told]

/-- A link that goes (R288, R921). -/
theorem Dev.linkChange_falls (hp : p < 8) (hloop : d.portLoop p = 0) (hlink : (d.port p).link = true) :
    let e := d.linkChange p false speed peer
    e.linkView p = (d.besidePort p, (((d.port p).offered false speed peer).unlinked d.tim.clk).core) ∧ e.flag (Reg.NET_PORT_INT_STATUS p) 1 = true ∧
    e.rd (Reg.NET_PORT_LINK_DOWN_CNT p) = (d.inc (Reg.NET_PORT_LINK_DOWN_CNT p) 1).rd (Reg.NET_PORT_LINK_DOWN_CNT p) := by
  intro e
  obtain ⟨hint, hlost, -, -, hrx, htx⟩ := linkDown_ne hp
  have hwant : (d.offer p false speed peer).linkWanted p = false := by rw [Dev.offer_linkWanted]; rfl
  have hup : ((d.offer p false speed peer).port p).link = true := by rwa [Dev.offer_port]
  have hrelink := Dev.relink_falls (Dev.offer_dupCheck (.inl rfl)) hwant hup hloop
  refine ⟨?_, ?_, ?_⟩
  · rw [Dev.linkChange_linkView, hrelink, Dev.plcaReview_linkView, Dev.linkFalls_linkView, Dev.offer_besidePort, Dev.offer_port]
    rfl
  · rw [Dev.linkChange_flag, hrelink, Dev.plcaReview_flag hp (by decide), Dev.linkFalls_told]
  · rw [Dev.linkChange_rd hrx htx, hrelink, Dev.plcaReview_rd hint hlost, Dev.linkFalls_count hp]
    exact Dev.rd_inc_congr (d.modPort_rd p _ _) 1

/-- A medium that comes up on a port that is not enabled (R286). -/
theorem Dev.linkChange_disabled (hen : d.flag (Reg.NET_PORT_CFG p) 0 = false) (hlink : (d.port p).link = false) (hplca : (d.port p).plca = false) :
    d.linkChange p true speed peer = d.offer p true speed peer := by
  have hdup := d.offer_dupCheck (p := p) (up := true) (speed := speed) (peer := peer) (by tauto)
  have hdown : ((d.offer p true speed peer).port p).link = false := by rwa [Dev.offer_port]
  have hwant : (d.offer p true speed peer).linkWanted p = false := by
    rw [Dev.offer_linkWanted, hen]
    rfl
  have hrelink : (d.offer p true speed peer).relink p = d.offer p true speed peer := by
    rw [Dev.relink_still (by rwa [hdup]) (by rwa [hdup]), hdup, Dev.plcaReview_unlinked hdown (by rwa [Dev.offer_port])]
  rw [Dev.linkChange_eq, hrelink, hdown]
  rfl

theorem Dev.isSgmii_congr {e : Dev} (h : e.rd (Reg.NET_PORT_CFG p) = d.rd (Reg.NET_PORT_CFG p)) : e.isSgmii p = d.isSgmii p := by
  unfold Dev.isSgmii Dev.portMode Dev.fld
  rw [h]

theorem Dev.linkWanted_halfDuplex (hsgmii : d.isSgmii p = true) (hhalf : (d.port p).half = true) : d.linkWanted p = false := by
  simp [Dev.linkWanted, hsgmii, hhalf]

/-- Half duplex on an enabled SGMII port whose link is down (R287). -/
theorem Dev.linkChange_halfDuplex {lpi : Bool} (hp : p < 8) (hloop : d.portLoop p = 0) (hsgmii : d.isSgmii p = true)
    (hen : d.flag (Reg.NET_PORT_CFG p) 0 = true) (hlink : (d.port p).link = false) :
    let e := d.linkChange p true speed ⟨true, lpi⟩
    e.linkView p = (d.besidePort p, { (d.port p).offered true speed ⟨true, lpi⟩ with dupErr := true }.core) ∧
    e.rd (Reg.NET_PORT_LINK_DOWN_CNT p) = (d.inc (Reg.NET_PORT_LINK_DOWN_CNT p) 1).rd (Reg.NET_PORT_LINK_DOWN_CNT p) := by
  intro e
  obtain ⟨hint, hlost, -, -, hrx, htx⟩ := linkDown_ne hp
  generalize ho : d.offer p true speed ⟨true, lpi⟩ = o
  have hport : o.port p = (d.port p).offered true speed ⟨true, lpi⟩ := by rw [← ho, Dev.offer_port]
  have hdup : o.dupCheck p = (o.modPort p (fun x => { x with dupErr := true })).inc (Reg.NET_PORT_LINK_DOWN_CNT p) 1 := by
    refine Dev.dupCheck_refused ?_ ?_ ?_ (ho ▸ hsgmii) (ho ▸ hen) (ho ▸ hloop) ?_ <;> rw [hport]
    exacts [rfl, rfl, rfl, hlink]
  have hdown : ((o.dupCheck p).port p).link = false := by
    rw [hdup, Dev.inc_port, Dev.port_modPort_same, hport]
    exact hlink
  have hcfg : (o.dupCheck p).rd (Reg.NET_PORT_CFG p) = d.rd (Reg.NET_PORT_CFG p) := by
    rw [hdup, Dev.rd_inc_ne _ _ (by unfold Reg.NET_PORT_CFG Reg.NET_PORT_LINK_DOWN_CNT; omega), Dev.modPort_rd, ← ho]
    rfl
  have hwant : (o.dupCheck p).linkWanted p = false := by
    refine Dev.linkWanted_halfDuplex ((Dev.isSgmii_congr hcfg).trans hsgmii) ?_
    rw [hdup, Dev.inc_port, Dev.port_modPort_same, hport]
    rfl
  have hrelink := Dev.relink_still hwant hdown
  constructor
  · rw [Dev.linkChange_linkView, ho, hrelink, Dev.plcaReview_linkView, hdup, Dev.linkView, Dev.inc_besidePort, Dev.modPort_besidePort, Dev.inc_port,
      Dev.port_modPort_same, hport, ← ho, Dev.offer_besidePort]
  · rw [Dev.linkChange_rd hrx htx, ho, hrelink, Dev.plcaReview_rd hint hlost, hdup, ← ho]
    exact Dev.rd_inc_congr ((Dev.modPort_rd _ p _ _).trans (d.modPort_rd p _ _)) 1

end

theorem linkChange_ends (s : State) (n : Nat) {p : Nat} (up : Bool) (speed : Nat) (peer : LinkPeer) (hp : p < 8) :
    Ends (exec (.linkChange n p up speed peer) s) { s with dev := (s.dev.tick n).linkChange p up speed peer } := by
  rw [exec_linkChange]
  exact portRow_ends _ hp

/-- A command about a port, told by the core of the port and by what is beside it. -/
theorem Ends.port {o : Host.Outcome State Fault Refusal} {s : State} {d e : Dev} {p : Nat} {x : Port} (h : Ends o { s with dev := e })
    (hview : e.linkView p = (d.besidePort p, x.core)) :
    EndsWith o (fun t => (t.dev.port p).core = x.core ∧ (∀ a, t.dev.rd a = e.rd a) ∧ (∀ q, q ≠ p → t.dev.port q = d.port q) ∧
      t.dev.tim = d.tim ∧ t.dev.loc = d.loc ∧ t.ctl = s.ctl) := by
  obtain ⟨hbeside, hcore⟩ := Prod.mk.inj hview
  obtain ⟨hports, htim, hloc⟩ := Dev.besidePort_eq hbeside
  exact h.with fun _ _ _ _ _ => ⟨hcore, fun _ => rfl, hports, htim, hloc, rfl⟩

/-- Settles O37: a change is told by the machine beside the port and the core of the port (`Dev.linkView`), for a link that rises
(`Dev.linkChange_rises`), falls (`Dev.linkChange_falls`), stays down on a port not enabled (`Dev.linkChange_disabled`) or in half duplex
(`Dev.linkChange_halfDuplex`). -/
theorem linkChanges : Obligations.LinkChanges := by
  unfold Obligations.LinkChanges
  refine ⟨?medium, ?halfDuplex⟩
  case medium =>
    intro s n p speed peer hp hloop hduplex works
    refine ⟨fun hen hwing hlink => ?_, fun hlink => ?_, fun hlink hplca hen => ?_⟩
    · obtain ⟨hview, htold⟩ := Dev.linkChange_rises (d := s.dev.tick n) (speed := speed) hp hloop hduplex hen hwing hlink
      obtain ⟨t, ht, hcore, hrd, hports, htim, hloc, hctl⟩ := (linkChange_ends s n true speed peer hp).port hview
      exact ⟨t, ht, congrArg Port.link hcore, congrArg Port.medium hcore, congrArg Port.lpiRx hcore, (congrArg Port.txq hcore :),
        (Dev.flag_congr (hrd _) 0).trans htold, hports, htim, hloc, hctl⟩
    · obtain ⟨hview, htold, hcnt⟩ := Dev.linkChange_falls (d := s.dev.tick n) (speed := speed) (peer := peer) hp hloop hlink
      obtain ⟨t, ht, hcore, hrd, hports, htim, hloc, hctl⟩ := (linkChange_ends s n false speed peer hp).port hview
      exact ⟨t, ht, congrArg Port.link hcore, congrArg Port.medium hcore, congrArg Port.txq hcore, congrArg Port.cur hcore, congrArg Port.pauseTo hcore,
        congrArg Port.lpiAt hcore, (Dev.flag_congr (hrd _) 1).trans htold, ((hrd _).trans hcnt).trans (Dev.rd_inc_congr (s.dev.tick_rd n _) 1),
        hports, htim, hloc, hctl⟩
    · have hends := linkChange_ends s n true speed peer hp
      rwa [Dev.linkChange_disabled (d := s.dev.tick n) hen hlink hplca] at hends
  case halfDuplex =>
    intro s n p speed lpi hp hloop hsgmii hen hlink
    obtain ⟨hview, hcnt⟩ := Dev.linkChange_halfDuplex (d := s.dev.tick n) (speed := speed) (lpi := lpi) hp hloop hsgmii hen hlink
    obtain ⟨t, ht, hcore, hrd, hports, htim, hloc, hctl⟩ := (linkChange_ends s n true speed ⟨true, lpi⟩ hp).port hview
    exact ⟨t, ht, (congrArg Port.link hcore).trans hlink, congrArg Port.medium hcore, congrArg Port.dupErr hcore,
      ((hrd _).trans hcnt).trans (Dev.rd_inc_congr (s.dev.tick_rd n _) 1), hports, htim, hloc, hctl⟩

end Sys2Proof.Machine

/-! Frames received (R289 to R296, R926). -/

namespace Sys2Proof.Machine

section
variable {d : Dev} {p : Nat}

/-! Counts of a port stand apart from what configures one (R330). -/

/-- An address among the counts of a port. -/
def isPortCount (a : Nat) : Prop := 0x100 ≤ a % 0x1000

theorem Dev.incW_rd_config {a b n : Nat} (ha : isPortCount a) (hb : b % 0x1000 < 0x100) : (d.incW a n).rd b = d.rd b := by
  refine d.incW_rd_ne n ?_
  rintro rfl
  exact absurd hb (Nat.not_lt.mpr ha)

theorem Dev.incW_mac {a n : Nat} (ha : isPortCount a) (q : Nat) : (d.incW a n).mac q = d.mac q := by
  unfold Dev.mac Dev.fld Dev.rdN
  rw [Dev.incW_rd_config ha (by unfold Reg.NET_PORT_MAC_HI; omega), Dev.incW_rd_config ha (by unfold Reg.NET_PORT_MAC_LO; omega)]

theorem Dev.incW_cfg {a n : Nat} (ha : isPortCount a) (q : Nat) : (d.incW a n).rd (Reg.NET_PORT_CFG q) = d.rd (Reg.NET_PORT_CFG q) :=
  Dev.incW_rd_config ha (by unfold Reg.NET_PORT_CFG; omega)

theorem Dev.incW_pairActive {a n : Nat} (ha : isPortCount a) (q : Nat) : (d.incW a n).pairActive q = d.pairActive q := by
  unfold Dev.pairActive
  rw [Dev.flag_congr (Dev.incW_rd_config ha (by decide))]

theorem Dev.incW_accepts {a n : Nat} (ha : isPortCount a) (dst start : Nat) : (d.incW a n).accepts p dst start = d.accepts p dst start := by
  unfold Dev.accepts Dev.mcastThen
  rw [Dev.incW_mac ha, Dev.incW_mac ha, Dev.incW_pairActive ha, Dev.flag_congr (Dev.incW_cfg ha p), Dev.incW_net]

theorem Dev.incW_mbps {a n : Nat} (ha : isPortCount a) : (d.incW a n).mbps p = d.mbps p := by
  unfold Dev.mbps Dev.speedCode Dev.portMode Dev.fld
  rw [Dev.flag_congr (Dev.incW_cfg ha p), Dev.incW_cfg ha, Dev.incW_port]

theorem isPortCount_rxFrm : isPortCount (Reg.NET_PORT_RX_FRM p) := by unfold isPortCount Reg.NET_PORT_RX_FRM; omega
theorem isPortCount_rxPause : isPortCount (Reg.NET_PORT_RX_PAUSE p) := by unfold isPortCount Reg.NET_PORT_RX_PAUSE; omega

/-! The parts of the treatment of a frame (R290). -/

variable (d p) in
/-- A MAC control frame: pause acts, PFC is counted, any other is ignored (R316, R318). -/
def Dev.rxControl (b : Bytes) : Dev :=
  if beAt b 14 2 = 1 then
    if beAt b 0 6 = 0x0180C2000001 || beAt b 0 6 = (d.incW (Reg.NET_PORT_RX_PAUSE p) 1).mac p then
      (d.incW (Reg.NET_PORT_RX_PAUSE p) 1).pauseFrame p (beAt b 16 2)
    else d.incW (Reg.NET_PORT_RX_PAUSE p) 1
  else if beAt b 14 2 = 0x0101 then d.inc (Reg.NET_PORT_RX_PFC_DROP p) 1
  else d

variable (d p) in
/-- Octets in the receive buffer of a port (R926). -/
def Dev.rxHeld : Nat := sumN ((d.net.rxq.filter (fun f => f.port == p)).map (fun f => f.bytes.length + 4))

variable (d p) in
/-- A frame that waits for its release (R296, R297). -/
def Dev.rxKeep (b : Bytes) (sfd : Nat) : Dev :=
  let d := d.inc64 (Reg.NET_PORT_RX_OCT_LO p) (Reg.NET_PORT_RX_OCT_HI p) (b.length + 4)
  { d with net := { d.net with
      rxq := d.net.rxq ++ [⟨d.tim.out, p, b, (d.tim.out : Int) - sfd * d.tim.outIncr - d.rdN (Reg.TIM_PORT_RX_LAT p) * unitNs⟩] } }

variable (d p) in
/-- A frame that is no MAC control frame: the filter, then the buffer (R294, R926). -/
def Dev.rxData (b : Bytes) (sfd : Nat) : Dev :=
  if !d.accepts p (beAt b 0 6) (d.tim.clk - sfd) then d.incW (Reg.NET_PORT_RX_FILTER_DROP p) 1
  else if 65536 < d.rxHeld p + (b.length + 4) then (d.inc (Reg.NET_PORT_RX_OVF_DROP p) 1).raise (Reg.NET_PORT_INT_STATUS p) 2
  else d.rxKeep p b sfd

variable {b : Bytes} {ok : Bool} {sfd : Nat}

/-- The order in which a frame is tried (R290, R291). -/
theorem Dev.frameReceived_eq : d.frameReceived p b ok sfd =
    if !(d.port p).link then d
    else if b.length + 4 ≤ 63 then d.inc (Reg.NET_PORT_RX_RUNT p) 1
    else if d.maxFrm p < b.length + 4 then d.inc (Reg.NET_PORT_RX_OVERSIZE p) 1
    else if !ok then d.inc (Reg.NET_PORT_RX_FCS_ERR p) 1
    else if beAt b 12 2 = 0x8808 then (d.incW (Reg.NET_PORT_RX_FRM p) 1).rxControl p b
    else (d.incW (Reg.NET_PORT_RX_FRM p) 1).rxData p b sfd := rfl

theorem Dev.frameReceived_unlinked (h : (d.port p).link = false) : d.frameReceived p b ok sfd = d := if_pos (by rw [h]; rfl)

section
variable (hlink : (d.port p).link = true)
include hlink

theorem Dev.frameReceived_runt (hlen : b.length + 4 < 64) : d.frameReceived p b ok sfd = d.inc (Reg.NET_PORT_RX_RUNT p) 1 := by
  rw [Dev.frameReceived_eq, hlink, if_neg (by decide), if_pos (by omega)]

variable (hmin : 64 ≤ b.length + 4)
include hmin

theorem Dev.frameReceived_oversize (hlen : d.maxFrm p < b.length + 4) : d.frameReceived p b ok sfd = d.inc (Reg.NET_PORT_RX_OVERSIZE p) 1 := by
  rw [Dev.frameReceived_eq, hlink, if_neg (by decide), if_neg (by omega), if_pos hlen]

variable (hmax : b.length + 4 ≤ d.maxFrm p)
include hmax

theorem Dev.frameReceived_badFcs : d.frameReceived p b false sfd = d.inc (Reg.NET_PORT_RX_FCS_ERR p) 1 := by
  rw [Dev.frameReceived_eq, hlink, if_neg (by decide), if_neg (by omega), if_neg (Nat.not_lt.mpr hmax), if_pos (by decide)]

theorem Dev.frameReceived_good : d.frameReceived p b true sfd =
    if beAt b 12 2 = 0x8808 then (d.incW (Reg.NET_PORT_RX_FRM p) 1).rxControl p b else (d.incW (Reg.NET_PORT_RX_FRM p) 1).rxData p b sfd := by
  rw [Dev.frameReceived_eq, hlink, if_neg (by decide), if_neg (by omega), if_neg (Nat.not_lt.mpr hmax), if_neg (by decide)]

end

/-! A frame that is no MAC control frame. -/

theorem Dev.rxData_rejected (h : d.accepts p (beAt b 0 6) (d.tim.clk - sfd) = false) :
    d.rxData p b sfd = d.incW (Reg.NET_PORT_RX_FILTER_DROP p) 1 := if_pos (by rw [h]; rfl)

theorem Dev.rxData_full (h : d.accepts p (beAt b 0 6) (d.tim.clk - sfd) = true) (hfull : 65536 < d.rxHeld p + (b.length + 4)) :
    d.rxData p b sfd = (d.inc (Reg.NET_PORT_RX_OVF_DROP p) 1).raise (Reg.NET_PORT_INT_STATUS p) 2 := by
  rw [Dev.rxData, h, if_neg (by decide), if_pos hfull]

theorem Dev.rxData_kept (h : d.accepts p (beAt b 0 6) (d.tim.clk - sfd) = true) (hroom : d.rxHeld p + (b.length + 4) ≤ 65536) :
    d.rxData p b sfd = d.rxKeep p b sfd := by
  rw [Dev.rxData, h, if_neg (by decide), if_neg (Nat.not_lt.mpr hroom)]

theorem Dev.rxKeep_rd {a : Nat} (hlo : a ≠ Reg.NET_PORT_RX_OCT_LO p) (hhi : a ≠ Reg.NET_PORT_RX_OCT_HI p) : (d.rxKeep p b sfd).rd a = d.rd a :=
  (Dev.rd_wrN_ne _ hhi _).trans (Dev.rd_wrN_ne _ hlo _)

theorem Dev.rxKeep_net : (d.rxKeep p b sfd).net = { d.net with
    rxq := d.net.rxq ++ [⟨d.tim.out, p, b, (d.tim.out : Int) - sfd * d.tim.outIncr - d.rdN (Reg.TIM_PORT_RX_LAT p) * unitNs⟩] } := by
  have hlat : (d.inc64 (Reg.NET_PORT_RX_OCT_LO p) (Reg.NET_PORT_RX_OCT_HI p) (b.length + 4)).rdN (Reg.TIM_PORT_RX_LAT p) =
      d.rdN (Reg.TIM_PORT_RX_LAT p) := by
    refine (Dev.rdN_wrN_ne _ ?_ _).trans (Dev.rdN_wrN_ne _ ?_ _)
    · unfold Reg.TIM_PORT_RX_LAT Reg.NET_PORT_RX_OCT_HI; omega
    · unfold Reg.TIM_PORT_RX_LAT Reg.NET_PORT_RX_OCT_LO; omega
  rw [← hlat]
  rfl

/-- The low half of the octet count, where it does not wrap. -/
theorem Dev.rxKeep_octets (h : d.rdN (Reg.NET_PORT_RX_OCT_LO p) + (b.length + 4) < 2 ^ 32) :
    (d.rxKeep p b sfd).rdN (Reg.NET_PORT_RX_OCT_LO p) = d.rdN (Reg.NET_PORT_RX_OCT_LO p) + (b.length + 4) := by
  have hne : Reg.NET_PORT_RX_OCT_LO p ≠ Reg.NET_PORT_RX_OCT_HI p := by unfold Reg.NET_PORT_RX_OCT_LO Reg.NET_PORT_RX_OCT_HI; omega
  calc (d.rxKeep p b sfd).rdN (Reg.NET_PORT_RX_OCT_LO p)
      = (d.rd64 (Reg.NET_PORT_RX_OCT_LO p) (Reg.NET_PORT_RX_OCT_HI p) + (b.length + 4)) % 2 ^ 32 :=
        (Dev.rdN_wrN_ne _ hne _).trans (Dev.rdN_wrN_same _ _ _)
    _ = d.rdN (Reg.NET_PORT_RX_OCT_LO p) + (b.length + 4) := by
        unfold Dev.rd64
        omega

/-- What a frame leaves that is counted and waits for its release (R296, R330). -/
theorem Dev.rxKeep_counted :
    let e := (d.incW (Reg.NET_PORT_RX_FRM p) 1).rxKeep p b sfd
    e.net = { d.net with
      rxq := d.net.rxq ++ [⟨d.tim.out, p, b, (d.tim.out : Int) - sfd * d.tim.outIncr - d.rdN (Reg.TIM_PORT_RX_LAT p) * unitNs⟩] } ∧
    e.rdN (Reg.NET_PORT_RX_FRM p) = (d.rdN (Reg.NET_PORT_RX_FRM p) + 1) % 2 ^ 32 ∧
    (d.rdN (Reg.NET_PORT_RX_OCT_LO p) + (b.length + 4) < 2 ^ 32 →
      e.rdN (Reg.NET_PORT_RX_OCT_LO p) = d.rdN (Reg.NET_PORT_RX_OCT_LO p) + (b.length + 4)) := by
  intro e
  have hlat : (d.incW (Reg.NET_PORT_RX_FRM p) 1).rdN (Reg.TIM_PORT_RX_LAT p) = d.rdN (Reg.TIM_PORT_RX_LAT p) :=
    Dev.rdN_wrN_ne _ (by unfold Reg.TIM_PORT_RX_LAT Reg.NET_PORT_RX_FRM; omega) _
  have hoct : (d.incW (Reg.NET_PORT_RX_FRM p) 1).rdN (Reg.NET_PORT_RX_OCT_LO p) = d.rdN (Reg.NET_PORT_RX_OCT_LO p) :=
    Dev.rdN_wrN_ne _ (by unfold Reg.NET_PORT_RX_OCT_LO Reg.NET_PORT_RX_FRM; omega) _
  refine ⟨?_, ?_, fun h => ?_⟩
  · rw [← hlat]
    exact Dev.rxKeep_net
  · rw [Dev.rdN, Dev.rxKeep_rd (by unfold Reg.NET_PORT_RX_OCT_LO Reg.NET_PORT_RX_FRM; omega) (by unfold Reg.NET_PORT_RX_OCT_HI Reg.NET_PORT_RX_FRM; omega),
      ← Dev.rdN, Dev.incW_rdN_same]
  · rw [← hoct]
    exact Dev.rxKeep_octets (hoct ▸ h)

/-! A MAC control frame. -/

theorem Dev.rxControl_pfc (h : beAt b 14 2 = 0x0101) : d.rxControl p b = d.inc (Reg.NET_PORT_RX_PFC_DROP p) 1 := by
  rw [Dev.rxControl, h, if_neg (by decide), if_pos rfl]

theorem Dev.rxControl_pause (h : beAt b 14 2 = 1) (hdst : beAt b 0 6 = 0x0180C2000001 ∨ beAt b 0 6 = d.mac p) :
    d.rxControl p b = (d.incW (Reg.NET_PORT_RX_PAUSE p) 1).pauseFrame p (beAt b 16 2) := by
  rw [Dev.rxControl, if_pos h, if_pos]
  rw [Dev.incW_mac isPortCount_rxPause]
  simpa using hdst

/-- A PAUSE frame where no hold runs and pause is not ignored (R316). -/
theorem Dev.pauseFrame_holds {quanta : Nat} (hen : d.flag (Reg.NET_PORT_CFG p) 6 = true) (hp : p < 4) (hignore : (d.port p).ignoreTo = none)
    (hnone : (d.port p).pauseTo = none) (hq : 0 < quanta) : d.pauseFrame p quanta =
      d.modPort p (fun x => { x with pauseTo := some (d.tim.clk + cdiv (quanta * 204800) (d.mbps p)), holdAt := d.tim.clk }) := by
  rw [Dev.pauseFrame, if_pos (by simp [hen, hp, hignore]), if_neg (by omega)]
  refine Dev.modPort_congr ?_
  rw [hnone]
  rfl

end

theorem frameReceived_ends {s : State} {n p : Nat} {b : Bytes} {ok : Bool} {sfd : Nat} (hp : p < 8) (hloop : s.dev.portLoop p = 0) :
    Ends (exec (.frameReceived n p b ok sfd) s) { s with dev := (s.dev.tick n).frameReceived p b ok sfd } := by
  have hends := portRow_ends (s := s) (t := n) (fun d => if d.portLoop p != 0 then d.loopReceived p b ok else d.frameReceived p b ok sfd) hp
  have hloop' : (s.dev.tick n).portLoop p = 0 := hloop
  have hrow : (if (s.dev.tick n).portLoop p != 0 then (s.dev.tick n).loopReceived p b ok else (s.dev.tick n).frameReceived p b ok sfd) =
      (s.dev.tick n).frameReceived p b ok sfd := if_neg (by simp [hloop'])
  rw [exec_frameReceived]
  rwa [hrow] at hends

/-- Settles O35: the order in which a frame is tried (`Dev.frameReceived_runt` to `Dev.frameReceived_good`), then the filter and the buffer
(`Dev.rxData_rejected` to `Dev.rxData_kept`), or pause and PFC (`Dev.rxControl_pause`, `Dev.rxControl_pfc`). -/
theorem framesReceived : Obligations.FramesReceived := by
  unfold Obligations.FramesReceived
  intro s n p b ok sfd hp hloop e len good held c
  have hends := frameReceived_ends (n := n) (b := b) (ok := ok) (sfd := sfd) hp hloop
  change Ends _ { s with dev := e.frameReceived p b ok sfd } at hends
  have haccept : c.accepts p (beAt b 0 6) (c.tim.clk - sfd) = e.accepts p (beAt b 0 6) (e.tim.clk - sfd) := Dev.incW_accepts isPortCount_rxFrm _ _
  refine ⟨fun hlink => ?_, fun hlink hlen => ?_, fun hlink hmin hlen => ?_, fun hlink hmin hmax hfcs => ?_, fun hgood htype hacc => ?_,
    fun hgood htype hacc hfull => ?_, fun hgood htype hacc hroom => ?_, fun hgood htype hop => ?_,
    fun hgood htype hop hdst hen hp4 hignore hnone hq => ?_⟩
  · rwa [Dev.frameReceived_unlinked (d := e) hlink] at hends
  · rwa [Dev.frameReceived_runt (d := e) hlink hlen] at hends
  · rwa [Dev.frameReceived_oversize (d := e) hlink hmin hlen] at hends
  · subst hfcs
    rwa [Dev.frameReceived_badFcs (d := e) hlink hmin hmax] at hends
  all_goals
    obtain ⟨hlink, hmin, hmax, rfl⟩ := hgood
    rw [Dev.frameReceived_good (d := e) hlink hmin hmax] at hends
  · rwa [if_neg htype, Dev.rxData_rejected (d := c) (haccept.trans hacc)] at hends
  · rwa [if_neg htype, Dev.rxData_full (d := c) (haccept.trans hacc) hfull] at hends
  · rw [if_neg htype, Dev.rxData_kept (d := c) (haccept.trans hacc) hroom] at hends
    obtain ⟨hnet, hfrm, hoct⟩ := e.rxKeep_counted (p := p) (b := b) (sfd := sfd)
    exact hends.with fun _ _ _ _ _ => ⟨hnet, hfrm, hoct, rfl, rfl, rfl⟩
  · rwa [if_pos htype, Dev.rxControl_pfc hop] at hends
  · have hdst' : beAt b 0 6 = 0x0180C2000001 ∨ beAt b 0 6 = c.mac p := by rwa [Dev.incW_mac isPortCount_rxFrm]
    have hmbps : (c.incW (Reg.NET_PORT_RX_PAUSE p) 1).mbps p = s.dev.mbps p :=
      (Dev.incW_mbps isPortCount_rxPause).trans (Dev.incW_mbps isPortCount_rxFrm)
    have hen' : (c.incW (Reg.NET_PORT_RX_PAUSE p) 1).flag (Reg.NET_PORT_CFG p) 6 = true :=
      (Dev.flag_congr ((Dev.incW_cfg isPortCount_rxPause p).trans (Dev.incW_cfg isPortCount_rxFrm p)) 6).trans hen
    rw [if_pos htype, Dev.rxControl_pause (d := c) hop hdst', Dev.pauseFrame_holds hen' hp4 hignore hnone hq, hmbps] at hends
    exact hends

end Sys2Proof.Machine

/-! The merged release and duplicate discard (R297, R300 to R303). -/

namespace Sys2Proof.Machine

section
variable {d : Dev} {mac n : Nat}

/-! Duplicate discard (R302, R303). -/

/-- The discard table `l` with an entry in the place of that of its source, last seen. -/
def Dev.prpPut (d : Dev) (l : List PrpEntry) (y : PrpEntry) : Dev :=
  { d with net := { d.net with prp := l.filter (fun x => x.mac != y.mac) ++ [y] } }

theorem Dev.prpDiscard_first (h : d.net.prp.find? (fun x => x.mac == mac) = none) (hroom : d.net.prp.length < 131072) :
    d.prpDiscard mac n = (true, d.prpPut d.net.prp ⟨mac, n, 1, d.tim.clk⟩) := by
  unfold Dev.prpDiscard
  simp only [h, if_neg (Nat.not_le.mpr hroom)]
  rfl

/-- In a full table the source seen least recently is taken out (R303). -/
theorem Dev.prpDiscard_evicts (h : d.net.prp.find? (fun x => x.mac == mac) = none) (hfull : 131072 ≤ d.net.prp.length) :
    d.prpDiscard mac n = (true, (d.inc Reg.NET_PRP_EVICT_CNT 1).prpPut (d.net.prp.drop 1) ⟨mac, n, 1, d.tim.clk⟩) := by
  have hclk : (d.inc Reg.NET_PRP_EVICT_CNT 1).tim = d.tim := Dev.inc_tim _ _ _
  have hnet : (d.inc Reg.NET_PRP_EVICT_CNT 1).net = d.net := Dev.inc_net _ _ _
  unfold Dev.prpDiscard Dev.prpPut
  simp only [h, if_pos hfull, hclk, hnet]

section
variable {x : PrpEntry} (h : d.net.prp.find? (fun x => x.mac == mac) = some x)
include h

theorem Dev.prpDiscard_ahead (hk : 0 < prpDist n x.high) :
    d.prpDiscard mac n = (true, d.prpPut d.net.prp ⟨mac, n, (x.window <<< (prpDist n x.high).toNat) % 2 ^ 64 + 1, d.tim.clk⟩) := by
  unfold Dev.prpDiscard
  simp only [h, if_pos hk]
  rfl

section
variable (hk : prpDist n x.high ≤ 0) (hlow : -64 < prpDist n x.high)
include hk hlow

theorem Dev.prpDiscard_duplicate (hseen : x.window.testBit (prpDist n x.high).natAbs = true) :
    d.prpDiscard mac n = (false, (d.prpPut d.net.prp { x with seen := d.tim.clk }).incW Reg.NET_PRP_DUP_CNT 1) := by
  unfold Dev.prpDiscard
  simp only [h, if_neg (Int.not_lt.mpr hk), if_pos hlow, hseen, if_true]
  rfl

theorem Dev.prpDiscard_late (hnew : x.window.testBit (prpDist n x.high).natAbs = false) :
    d.prpDiscard mac n = (true, d.prpPut d.net.prp { x with window := x.window + 2 ^ (prpDist n x.high).natAbs, seen := d.tim.clk }) := by
  unfold Dev.prpDiscard
  simp only [h, if_neg (Int.not_lt.mpr hk), if_pos hlow, hnew, Bool.false_eq_true, if_false]
  rfl

end

theorem Dev.prpDiscard_old (hk : prpDist n x.high ≤ -64) :
    d.prpDiscard mac n = (true, (d.prpPut d.net.prp { x with seen := d.tim.clk }).inc Reg.NET_PRP_OLD_CNT 1) := by
  unfold Dev.prpDiscard
  simp only [h, if_neg (show ¬ 0 < prpDist n x.high by omega), if_neg (Int.not_lt.mpr hk)]
  rfl

end

/-! The release (R297, R300, R301). -/

/-- The machine with a frame taken out of the merge. -/
def Dev.unqueued (d : Dev) (f : RxFrame) : Dev := { d with net := { d.net with rxq := d.net.rxq.erase f } }

/-- A trailer that names the other LAN is counted (R301). -/
def Dev.lanCount (d : Dev) (port lan : Nat) : Dev := if lan = 0xA + port % 2 then d else d.inc Reg.NET_PRP_WRONG_LAN_CNT 1

@[simp] theorem Dev.lanCount_net (port lan : Nat) : (d.lanCount port lan).net = d.net := by simp [Dev.lanCount, apply_ite Dev.net]

@[simp] theorem Dev.lanCount_tim (port lan : Nat) : (d.lanCount port lan).tim = d.tim := by simp [Dev.lanCount, apply_ite Dev.tim]

/-- A frame without its trailer. -/
def RxFrame.bare (f : RxFrame) : RxFrame := { f with bytes := f.bytes.take (f.bytes.length - 6) }

theorem Dev.release_early (h : ∀ f, nextRelease d.net.rxq = some f → d.tim.out < f.fin + 500 * unitNs) : d.release = (none, d) := by
  unfold Dev.release
  split
  case h_1 => rfl
  case h_2 f hf => exact if_neg (Nat.not_le.mpr (h f hf))

section
variable {f : RxFrame} (hf : nextRelease d.net.rxq = some f) (hdue : f.fin + 500 * unitNs ≤ d.tim.out)
include hf hdue

theorem Dev.release_plain (h : d.pairActive f.port = false ∨ rctOf f.bytes = none) : d.release = (some f, d.unqueued f) := by
  have hpair : (d.unqueued f).pairActive f.port = d.pairActive f.port := rfl
  unfold Dev.unqueued at hpair
  obtain h | h := h
  · simp only [Dev.release, hf, if_pos hdue, hpair, h, Bool.false_eq_true, if_false]
    rfl
  · simp only [Dev.release, hf, if_pos hdue, h, ite_self]
    rfl

theorem Dev.release_trailer {q lan : Nat} {ok : Bool} {e : Dev} (hactive : d.pairActive f.port = true) (hrct : rctOf f.bytes = some (q, lan))
    (he : ((d.unqueued f).lanCount f.port lan).prpDiscard (beAt f.bytes 6 6) q = (ok, e)) :
    d.release = (if ok then some f.bare else none, e) := by
  have hpair : (d.unqueued f).pairActive f.port = true := hactive
  unfold Dev.unqueued at hpair
  unfold Dev.unqueued Dev.lanCount at he
  simp only [Dev.release, hf, if_pos hdue, hpair, if_true, hrct, he]
  rfl

end

end

/-- What is released goes on to ingress, and the work that it makes is dispatched. -/
def Dev.passOn (d : Dev) (lag : List (Nat × Nat × Nat)) : Option RxFrame → Dev
  | some f => ((d.ingress f).ingressLag lag).lockCheck.dispatchAll
  | none => d

theorem frameRelease_ends {s : State} {r : Release} {x : Option RxFrame} {e : Dev} (hlag : ∀ x ∈ r.lag, x.1 < 2 ∧ x.2.1 < 3)
    (h : (s.dev.tick r.t).release = (x, e)) : Ends (exec (.frameRelease r) s) { s with dev := e.passOn r.lag x } := by
  have hwf : (r.lag.all (fun x => decide (x.1 < 2) && decide (x.2.1 < 3))) = true := by simpa using hlag
  have hends := devRow_ends s r.t (fun (d : Dev) => match d.release with
    | (some f, d) => ((d.ingress f).ingressLag r.lag).lockCheck.dispatchAll
    | (none, d) => d)
  rw [exec_frameRelease, hwf]
  rw [h] at hends
  cases x with
  | some f => exact hends
  | none => exact hends

/-- Settles O36: what duplicate discard answers for a source not seen, ahead, seen, late or old (`Dev.prpDiscard_first` to `Dev.prpDiscard_old`) decides what
the release of a frame with a trailer leaves (`Dev.release_trailer`). -/
theorem mergedRelease : Obligations.MergedRelease := by
  unfold Obligations.MergedRelease
  refine ⟨?release, ?age⟩
  case release =>
    intro s r hlag e
    refine ⟨fun hearly => frameRelease_ends hlag (Dev.release_early (d := e) hearly), ?_⟩
    intro f hf hdue d on
    refine ⟨fun hplain => ?plain, ?trailer⟩
    case plain => exact frameRelease_ends hlag (Dev.release_plain (d := e) hf hdue hplain)
    case trailer =>
      intro q lan hactive hrct c src g
      have hends {ok : Bool} {k : Dev} (h : c.prpDiscard src q = (ok, k)) :
          Ends (exec (.frameRelease r) s) { s with dev := k.passOn r.lag (if ok then some g else none) } :=
        frameRelease_ends hlag (Dev.release_trailer (d := e) hf hdue hactive hrct h)
      have hprp : c.net.prp = s.dev.net.prp := (congrArg Net.prp (Dev.lanCount_net (d := e.unqueued f) f.port lan) :)
      have hclk : c.tim = e.tim := Dev.lanCount_tim (d := e.unqueued f) f.port lan
      rw [← hprp, ← hclk]
      clear_value c
      refine ⟨fun hnew hroom => hends (Dev.prpDiscard_first hnew hroom), fun hnew hfull => hends (Dev.prpDiscard_evicts hnew hfull), ?seen⟩
      intro x hx put
      exact ⟨fun hk => hends (Dev.prpDiscard_ahead hx hk), fun hk hlow hseen => hends (Dev.prpDiscard_duplicate hx hk hlow hseen),
        fun hk hlow hlate => hends (Dev.prpDiscard_late hx hk hlow hlate), fun hk => hends (Dev.prpDiscard_old hx hk)⟩
  case age =>
    intro s n e
    rw [exec_prpAgeOut]
    exact devRow_ends s n Dev.prpAge

end Sys2Proof.Machine

/-! A record made at a time given (R658, R661, R667): what it changes, and what it depends on. -/

namespace Sys2Proof.Machine

section
variable (d : Dev)

@[simp] theorem Dev.inc_evr (a n : Nat) : (d.inc a n).evr = d.evr := by
  obtain ⟨_, _, h⟩ := d.inc_eq a n
  rw [h]

theorem Dev.intake_rd_ne (r : RecIn) {a : Nat} (h : a ≠ Reg.REC_LOST_CNT) : (d.intake r).rd a = d.rd a := by
  have hlost (x : Recorder) : ({ d.inc Reg.REC_LOST_CNT 1 with evr := x } : Dev).rd a = d.rd a := d.rd_inc_ne 1 h
  unfold Dev.intake
  split
  case isTrue =>
    split
    · rfl
    · dsimp only
      split
      · exact hlost _
      · exact hlost _
  case isFalse =>
    dsimp only
    split
    · rfl
    · exact hlost _

theorem Dev.recordAt_eq (typ time tq : Nat) (b : Bytes) : ∃ g h e, d.recordAt typ time tq b = { d with regs := g, hw := h, evr := e } := by
  obtain ⟨_, _, _, h⟩ := d.intake_eq ⟨typ, b, time, tq, none⟩
  unfold Dev.recordAt
  dsimp only
  rw [h]
  split
  · exact ⟨_, _, _, rfl⟩
  · exact ⟨_, _, _, rfl⟩

theorem Dev.recordAt_rd_ne (typ time tq : Nat) (b : Bytes) {a : Nat} (h : a ≠ Reg.REC_LOST_CNT) : (d.recordAt typ time tq b).rd a = d.rd a := by
  have hin := d.intake_rd_ne ⟨typ, b, time, tq, none⟩ h
  unfold Dev.recordAt
  dsimp only
  split
  · exact hin
  · exact hin

variable {d} {e : Dev}

theorem Dev.keepOf_congr (h : e.evr = d.evr) (typ : Nat) : e.keepOf typ = d.keepOf typ := by rw [Dev.keepOf, h, Dev.keepOf]

/-- What the recorder holds after an intake depends on the recorder alone. -/
theorem Dev.intake_evr_congr (h : e.evr = d.evr) (r : RecIn) : (e.intake r).evr = (d.intake r).evr := by
  have hlost : (e.inc Reg.REC_LOST_CNT 1).keepOf r.typ = (d.inc Reg.REC_LOST_CNT 1).keepOf r.typ := Dev.keepOf_congr (by simp [h]) _
  unfold Dev.intake
  simp only [Dev.inc_evr, h, hlost]
  split
  case isTrue =>
    split
    · rfl
    · split
      · rfl
      · rfl
  case isFalse =>
    split
    · rfl
    · rfl

theorem Dev.hasStandby_congr (h : e.units = d.units) : e.hasStandby = d.hasStandby := by
  have hactive : e.active = d.active := by rw [Dev.active, h, Dev.active]
  rw [Dev.hasStandby, Dev.hasStandby, Dev.wing, Dev.wing, hactive, h]

/-- The recorder after a record, from that after its intake. -/
theorem Dev.recordAt_evr (d : Dev) (typ time tq : Nat) (b : Bytes) :
    let r : RecIn := ⟨typ, b, time, tq, none⟩
    let x := (d.intake r).evr
    (d.recordAt typ time tq b).evr = if d.hasStandby then { x with standbyHeld := x.standbyHeld ++ [(d.tim.clk, r)] } else x := by
  obtain ⟨_, _, _, h⟩ := d.intake_eq ⟨typ, b, time, tq, none⟩
  unfold Dev.recordAt
  dsimp only
  rw [h, apply_ite Dev.evr]
  rfl

theorem Dev.recordAt_evr_congr (hevr : e.evr = d.evr) (hunits : e.units = d.units) (htim : e.tim = d.tim) (typ time tq : Nat) (b : Bytes) :
    (e.recordAt typ time tq b).evr = (d.recordAt typ time tq b).evr := by
  rw [Dev.recordAt_evr, Dev.recordAt_evr, Dev.intake_evr_congr hevr, Dev.hasStandby_congr hunits, htim]

end

end Sys2Proof.Machine

/-! Gap markers of the ingress queues (R372, R373). -/

namespace Sys2Proof.Machine

/-- The body of the record of a gap marker (R373). -/
def GapMark.body (m : GapMark) (q : Nat) : Bytes := be 1 q ++ zeros 3 ++ be 4 (min m.count 0xFFFFFFFF) ++ be 8 m.first ++ be 8 m.last ++ zeros 8

/-- The markers of queue `q` are `r`. -/
def Dev.gapsLeft (d : Dev) (q : Nat) (r : List GapMark) : Dev := { d with ing := { d.ing with gaps := tset [] d.ing.gaps (d.gapKey q) r } }

section
variable {d : Dev} {q : Nat}

theorem Dev.gapDequeue_none (h : tget [] d.ing.gaps (d.gapKey q) = []) : d.gapDequeue q = d := by
  rw [Dev.gapDequeue, h]

variable {m : GapMark} {r : List GapMark} (h : tget [] d.ing.gaps (d.gapKey q) = m :: r)
include h

theorem Dev.gapDequeue_oldest : d.gapDequeue q =
    (((d.gapsLeft q r).recordAt 0x0802 m.first d.tq (m.body q)).inc (Reg.ING_DROP_CNT 0) m.count).raise Reg.ING_INT_STATUS 1 := by
  rw [Dev.gapDequeue, h]
  rfl

/-- Beside registers and the recorder, the taking of a marker changes the markers alone. -/
theorem Dev.gapDequeue_eq : ∃ g w x, d.gapDequeue q = { d.gapsLeft q r with regs := g, hw := w, evr := x } := by
  rw [Dev.gapDequeue_oldest h]
  obtain ⟨_, _, _, hrecord⟩ := (d.gapsLeft q r).recordAt_eq 0x0802 m.first d.tq (m.body q)
  obtain ⟨_, _, hinc⟩ := ((d.gapsLeft q r).recordAt 0x0802 m.first d.tq (m.body q)).inc_eq (Reg.ING_DROP_CNT 0) m.count
  rw [hinc, hrecord]
  exact ⟨_, _, _, rfl⟩

theorem Dev.gapDequeue_gaps : tget [] (d.gapDequeue q).ing.gaps (d.gapKey q) = r ∧
    ∀ j, j ≠ d.gapKey q → tget [] (d.gapDequeue q).ing.gaps j = tget [] d.ing.gaps j := by
  obtain ⟨_, _, _, hd⟩ := Dev.gapDequeue_eq h
  rw [hd]
  exact ⟨tget_tset_same _ _ _ _, fun j hj => tget_tset_ne _ _ _ hj _⟩

theorem Dev.gapDequeue_drops : (d.gapDequeue q).rd (Reg.ING_DROP_CNT 0) = (d.inc (Reg.ING_DROP_CNT 0) m.count).rd (Reg.ING_DROP_CNT 0) := by
  have hrd : ((d.gapsLeft q r).recordAt 0x0802 m.first d.tq (m.body q)).rd (Reg.ING_DROP_CNT 0) = d.rd (Reg.ING_DROP_CNT 0) :=
    (d.gapsLeft q r).recordAt_rd_ne _ _ _ _ (by decide)
  rw [Dev.gapDequeue_oldest h, Dev.rd_raise_ne _ _ (by decide)]
  exact Dev.rd_inc_congr hrd _

theorem Dev.gapDequeue_raises : (d.gapDequeue q).flag Reg.ING_INT_STATUS 1 = true := by
  rw [Dev.gapDequeue_oldest h]
  exact Dev.flag_raise _ _ _ (by decide)

theorem Dev.gapDequeue_evr : (d.gapDequeue q).evr = (d.recordAt 0x0802 m.first d.tq (m.body q)).evr := by
  have hrec := Dev.recordAt_evr_congr (d := d) (e := d.gapsLeft q r) rfl rfl rfl 0x0802 m.first d.tq (m.body q)
  have hraise (e : Dev) : (e.raise Reg.ING_INT_STATUS 1).evr = e.evr := rfl
  rw [Dev.gapDequeue_oldest h, hraise, Dev.inc_evr, hrec]

end

theorem gapMarkerDequeue_ends (s : State) (n : Nat) {q : Nat} (hq : q < 4) :
    Ends (exec (.gapMarkerDequeue n q) s) { s with dev := (s.dev.tick n).gapDequeue q } := by
  rw [exec_gapMarkerDequeue, decide_eq_true hq]
  exact devRow_ends s n (fun d => d.gapDequeue q)

end Sys2Proof.Machine

/-! The identity lookup (R336, R337, R382). -/

namespace Sys2Proof.Machine

/-- The value of ING_LOOKUP_RES for what a lookup of an identity finds (R382). -/
def lookupRes (id : Nat) : Option Nat → Nat
  | some k => k + 2 ^ 16 + b2n (inCam id k) * 2 ^ 17 + 2 ^ 18
  | none => 2 ^ 18

section
variable (d : Dev) (v : Word)

theorem Dev.ingLookup_eq : d.ingLookup v =
    let id := d.rdN Reg.ING_LOOKUP_ID_LO + 2 ^ 32 * v.toNat
    (d.wr Reg.ING_LOOKUP_ID_HI v).wrN Reg.ING_LOOKUP_RES (lookupRes id (d.lookup id)) := by
  have hid : (d.wr Reg.ING_LOOKUP_ID_HI v).rd64 Reg.ING_LOOKUP_ID_LO Reg.ING_LOOKUP_ID_HI = d.rdN Reg.ING_LOOKUP_ID_LO + 2 ^ 32 * v.toNat := by
    rw [Dev.rd64, Dev.rdN, Dev.rdN, Dev.rd_wr_ne _ (by decide), Dev.rd_wr_same, Dev.rdN]
  have hlookup (id : Nat) : (d.wr Reg.ING_LOOKUP_ID_HI v).lookup id = d.lookup id := rfl
  unfold Dev.ingLookup
  dsimp only
  rw [hid, hlookup]
  cases d.lookup (d.rdN Reg.ING_LOOKUP_ID_LO + 2 ^ 32 * v.toNat) with
  | some k => rfl
  | none => rfl

theorem Dev.ingLookup_res : (d.ingLookup v).rd Reg.ING_LOOKUP_RES =
    let id := d.rdN Reg.ING_LOOKUP_ID_LO + 2 ^ 32 * v.toNat
    w32 (lookupRes id (d.lookup id)) := by
  rw [Dev.ingLookup_eq]
  exact Dev.rd_wr_same _ _ _

theorem Dev.ingLookup_found {k : Nat} (h : d.lookup (d.rdN Reg.ING_LOOKUP_ID_LO + 2 ^ 32 * v.toNat) = some k) :
    (d.ingLookup v).rd Reg.ING_LOOKUP_RES =
      w32 (k + 2 ^ 16 + b2n (inCam (d.rdN Reg.ING_LOOKUP_ID_LO + 2 ^ 32 * v.toNat) k) * 2 ^ 17 + 2 ^ 18) := by
  rw [Dev.ingLookup_res]
  dsimp only
  rw [h, lookupRes]

theorem Dev.ingLookup_absent (h : d.lookup (d.rdN Reg.ING_LOOKUP_ID_LO + 2 ^ 32 * v.toNat) = none) :
    (d.ingLookup v).rd Reg.ING_LOOKUP_RES = w32 (2 ^ 18) := by
  rw [Dev.ingLookup_res]
  dsimp only
  rw [h, lookupRes]

theorem Dev.ingLookup_id : (d.ingLookup v).rd Reg.ING_LOOKUP_ID_HI = v := by
  rw [Dev.ingLookup_eq]
  exact (Dev.rd_wrN_ne _ (by decide) _).trans (Dev.rd_wr_same _ _ _)

theorem Dev.ingLookup_rd_ne {a : Nat} (hid : a ≠ Reg.ING_LOOKUP_ID_HI) (hres : a ≠ Reg.ING_LOOKUP_RES) : (d.ingLookup v).rd a = d.rd a := by
  rw [Dev.ingLookup_eq]
  exact (Dev.rd_wrN_ne _ hres _).trans (Dev.rd_wr_ne _ hid _)

theorem Dev.regAct_ingLookup (i : Iface) : d.regAct i Reg.ING_LOOKUP_ID_HI v = d.ingLookup v := by
  rw [regAct_eq]
  rfl

end

theorem ingLookup_ends {s : State} {i : Iface} (n : Nat) (v : Word) (h : s.canWrite i Reg.ING_LOOKUP_ID_HI) :
    Ends (exec (.ingLookup n i v) s) { s with dev := (s.dev.tick n).ingLookup v } := by
  have hr : regAt Reg.ING_LOOKUP_ID_HI = some ⟨0x180064, [], .rw, 0x0, 0xFFFFFFFF, 0x0, []⟩ := by decide +kernel
  have hwhole (old : Word) : (old &&& ~~~ w32 0xFFFFFFFF) ||| (v &&& w32 0xFFFFFFFF) = v := by
    have hones : w32 0xFFFFFFFF = BitVec.allOnes 32 := rfl
    rw [hones, BitVec.not_allOnes, BitVec.and_zero, BitVec.zero_or, BitVec.and_allOnes]
  have hm (old : Word) := (RegRow.IsPlainRw.merge (r := ⟨0x180064, [], .rw, 0x0, 0xFFFFFFFF, 0x0, []⟩) ⟨rfl, rfl, rfl⟩ old v).trans
    (congrArg (·, false) (hwhole old))
  exact hostRow_act h hr (.inl rfl) (hm _) (by decide) (Dev.regAct_ingLookup _ v i) rfl

end Sys2Proof.Machine

/-! The keys derived (R353, R355, R500). -/

namespace Sys2Proof.Machine

theorem Dev.deriveKeys_point {d : Dev} {k : Nat} {b : Bytes} (h : d.recs 0x0801 = [⟨0x0801, k, b⟩]) (hv : beAt b 8 2 % 2 = 1) :
    tget [] d.deriveKeys.ing.keys k = d.derivePoint b := by
  have hkeys : d.deriveKeys.ing.keys = tput [] k (d.derivePoint b) := by
    simp [Dev.deriveKeys, h, hv]
  rw [hkeys, tget_tput, if_pos rfl]

end Sys2Proof.Machine

/-! The closing of a slot (R399). -/

namespace Sys2Proof.Machine

/-- A slot as it is once it has closed (R399, R434). -/
def Dev.shut (d : Dev) (x : Slot9) : Slot9 := { x with opened := false, closeAt := slotNs d.rate d.wbSeq, closeWb := d.wbSeq }

/-- The enabled entries that a slot lacks (R399). -/
def Dev.lacking (d : Dev) (y : Slot9) : Nat := (d.enabledEntries.filter (fun k => (y.get k).isNone)).length

/-- The entries of a closed slot counted, and the interrupt where more than ALN_MISS_THR are missing (R399). -/
def Dev.slotCounted (d : Dev) (y : Slot9) : Dev :=
  let e := (d.wrN Reg.ALN_LAST_PRESENT y.recs.length).wrN Reg.ALN_LAST_MISSING (d.lacking y)
  if e.rdN Reg.ALN_MISS_THR < d.lacking y then e.raise Reg.ALN_INT_STATUS 5 else e

/-- A closed slot becomes the last closed one and enters the slow window (R399, R405). -/
def Dev.slowEnter (d : Dev) (y : Slot9) (n : Nat) : Dev := { d with roost := { d.roost with closed := some n, slow := d.roost.slow ++ [y] } }

section
variable (d : Dev)

theorem Dev.slotCounted_eq (y : Slot9) : ∃ r h, d.slotCounted y = { d with regs := r, hw := h } := by
  unfold Dev.slotCounted
  dsimp only
  split
  · exact ⟨_, _, rfl⟩
  · exact ⟨_, _, rfl⟩

theorem Dev.slotCounted_rd {a : Nat} (y : Slot9) (h : a ≠ Reg.ALN_INT_STATUS) : (d.slotCounted y).rd a =
    ((d.wrN Reg.ALN_LAST_PRESENT y.recs.length).wrN Reg.ALN_LAST_MISSING (d.lacking y)).rd a := by
  unfold Dev.slotCounted
  dsimp only
  split
  · exact Dev.rd_raise_ne _ _ h
  · rfl

theorem Dev.slotCounted_present (y : Slot9) : (d.slotCounted y).rdN Reg.ALN_LAST_PRESENT = y.recs.length % 2 ^ 32 := by
  rw [Dev.rdN, d.slotCounted_rd y (by decide), ← Dev.rdN, Dev.rdN_wrN_ne _ (by decide), Dev.rdN_wrN_same]

theorem Dev.slotCounted_missing (y : Slot9) : (d.slotCounted y).rdN Reg.ALN_LAST_MISSING = d.lacking y % 2 ^ 32 := by
  rw [Dev.rdN, d.slotCounted_rd y (by decide), ← Dev.rdN, Dev.rdN_wrN_same]

theorem Dev.shut_recs (x : Slot9) : (d.shut x).recs = x.recs := rfl

theorem Dev.lacking_shut (x : Slot9) : d.lacking (d.shut x) = d.lacking x := rfl

theorem Dev.modSlot_eq (n : Nat) (f : Slot9 → Slot9) : ∃ r, d.modSlot n f = { d with roost := { d.roost with ring := r } } := by
  unfold Dev.modSlot
  split
  · exact ⟨_, rfl⟩
  · exact ⟨_, rfl⟩

theorem Dev.modSlot_lacking (n : Nat) (f : Slot9 → Slot9) (y : Slot9) : (d.modSlot n f).lacking y = d.lacking y := by
  obtain ⟨_, h⟩ := d.modSlot_eq n f
  rw [h]
  rfl

/-- What is made for the host's ring joins what waits for it; nothing else changes (R420, R422). -/
theorem Dev.exportMake_eq (y : Slot9) (slow : Bool) : ∃ x, (x = d.roost.exports ∨ ∃ b, x = d.roost.exports ++ [(slow, y.n, b)]) ∧
    d.exportMake y slow = { d with roost := { d.roost with exports := x } } := by
  unfold Dev.exportMake
  generalize (d.flag Reg.ALN_EXP_CFG (if slow then 1 else 0) && d.rdN Reg.ALN_EXP_SIZE != 0) = made
  cases made with
  | true => exact ⟨_, .inr ⟨_, rfl⟩, rfl⟩
  | false => exact ⟨_, .inl rfl, rfl⟩

theorem Dev.exportMake_rd (y : Slot9) (slow : Bool) (a : Nat) : (d.exportMake y slow).rd a = d.rd a := by
  obtain ⟨_, -, h⟩ := d.exportMake_eq y slow
  rw [h]
  rfl

theorem Dev.slowEnter_rd (y : Slot9) (n a : Nat) : (d.slowEnter y n).rd a = d.rd a := rfl

variable {d} {n : Nat} {x : Slot9}

theorem Dev.slotClose_eq (h : d.slot n = some x) :
    let y := d.shut x
    d.slotClose n = (((d.modSlot n (fun _ => y)).slotCounted y).slowEnter y n).exportMake y false := by
  rw [Dev.slotClose, h]
  rfl

theorem Dev.slotClose_rd (h : d.slot n = some x) (a : Nat) : (d.slotClose n).rd a = ((d.modSlot n (fun _ => d.shut x)).slotCounted (d.shut x)).rd a := by
  rw [Dev.slotClose_eq h, Dev.exportMake_rd]
  exact Dev.slowEnter_rd _ _ _ _

theorem Dev.slotClose_counts (h : d.slot n = some x) :
    (d.slotClose n).rdN Reg.ALN_LAST_PRESENT = x.recs.length % 2 ^ 32 ∧ (d.slotClose n).rdN Reg.ALN_LAST_MISSING = d.lacking x % 2 ^ 32 := by
  constructor
  · rw [Dev.rdN, Dev.slotClose_rd h, ← Dev.rdN, Dev.slotCounted_present, Dev.shut_recs]
  · rw [Dev.rdN, Dev.slotClose_rd h, ← Dev.rdN, Dev.slotCounted_missing, Dev.modSlot_lacking, Dev.lacking_shut]

/-- Beside registers, the closing of a slot freezes it in the ring, makes it the last closed, adds it to the slow window, and may
add an entry to those that wait for the host's ring. -/
theorem Dev.slotClose_beside (h : d.slot n = some x) :
    let y := d.shut x
    let o := (d.modSlot n (fun _ => y)).roost
    ∃ g w v, (v = d.roost.exports ∨ ∃ b, v = d.roost.exports ++ [(false, x.n, b)]) ∧
      d.slotClose n = { d with regs := g, hw := w, roost := { o with closed := some n, slow := o.slow ++ [y], exports := v } } := by
  intro y o
  obtain ⟨_, hmod⟩ := d.modSlot_eq n (fun _ => y)
  obtain ⟨g, w, hcount⟩ := (d.modSlot n (fun _ => y)).slotCounted_eq y
  obtain ⟨v, hv, hmake⟩ := (((d.modSlot n (fun _ => y)).slotCounted y).slowEnter y n).exportMake_eq y false
  refine ⟨g, w, v, ?exports, ?closed⟩
  case exports =>
    rw [hcount, hmod] at hv
    exact hv
  case closed =>
    rw [Dev.slotClose_eq h, hmake, hcount]
    simp only [o, hmod]
    rfl

end

end Sys2Proof.Machine

/-! The statement about ingress and slots. -/

namespace Sys2Proof.Machine

/-- Settles O46: the oldest gap marker as `Dev.gapDequeue_oldest` takes it, the lookup as `Dev.ingLookup_eq` answers it, a derived key
(`Dev.deriveKeys_point`), and the parts of the machine that the closing of a slot changes (`Dev.slotClose_beside`, `Dev.slotClose_counts`). -/
theorem ingressAndSlots : Obligations.IngressAndSlots := by
  unfold Obligations.IngressAndSlots
  refine ⟨?gap, ?lookup, ?keys, ?point, ?close⟩
  case gap =>
    intro s n q hq e k
    have hends := gapMarkerDequeue_ends s n hq
    refine ⟨fun hnone => ?_, fun m r hgaps => ?_⟩
    · rwa [Dev.gapDequeue_none (d := e) hnone] at hends
    · obtain ⟨hleft, hother⟩ := Dev.gapDequeue_gaps (d := e) hgaps
      have hdrops := (Dev.gapDequeue_drops (d := e) hgaps).trans (Dev.rd_inc_congr (s.dev.tick_rd n _) _)
      obtain ⟨_, _, _, hbeside⟩ := Dev.gapDequeue_eq (d := e) hgaps
      have hroost : (e.gapDequeue q).roost = s.dev.roost := (congrArg Dev.roost hbeside :)
      have hloc : (e.gapDequeue q).loc = s.dev.loc := (congrArg Dev.loc hbeside :)
      exact hends.with fun _ _ _ _ _ => ⟨hleft, hother, hdrops, Dev.gapDequeue_raises (d := e) hgaps, Dev.gapDequeue_evr (d := e) hgaps, hroost, hloc, rfl⟩
  case lookup =>
    intro s n i v h
    have hing : ((s.dev.tick n).ingLookup v).ing = s.dev.ing := (congrArg Dev.ing ((s.dev.tick n).ingLookup_eq v) :)
    exact (ingLookup_ends n v h).with fun _ _ _ _ _ => ⟨fun _ hk => (s.dev.tick n).ingLookup_found v hk, fun hnone => (s.dev.tick n).ingLookup_absent v hnone,
      (s.dev.tick n).ingLookup_id v, fun _ hid hres => (s.dev.tick n).ingLookup_rd_ne v hid hres, hing, rfl⟩
  case keys =>
    intro s n
    rw [exec_keysDerived]
    exact devRow_ends s n (fun d => d.deriveKeys.putB Reg.ING_STATUS 2 true)
  case point => exact fun d k b h hv => Dev.deriveKeys_point h hv
  case close =>
    intro d n x h y c
    obtain ⟨hpresent, hmissing⟩ := Dev.slotClose_counts h
    obtain ⟨_, _, v, hexports, hc⟩ := Dev.slotClose_beside h
    have hroost := congrArg Dev.roost hc
    refine ⟨(congrArg Roost.closed hroost :), (congrArg Roost.slow hroost :), (congrArg Roost.ring hroost :), hpresent, hmissing, ?_,
      (congrArg Dev.loc hc :), (congrArg Dev.isl hc :)⟩
    rwa [show c.roost.exports = v from (congrArg Roost.exports hroost :)]

end Sys2Proof.Machine

/-! Status reads that capture a view (O45). -/

namespace Sys2Proof.Machine

/-! What a read that captures a view leaves alone (R866). -/

/-- A machine that differs from another at most in what the host interfaces hold. -/
def Dev.HostOnly (d e : Dev) : Prop := ∃ o, e = { d with host := o }

section
variable {d e : Dev} {i : Iface}

theorem Dev.HostOnly.refl (d : Dev) : d.HostOnly d := ⟨d.host, rfl⟩

theorem Dev.HostOnly.latch (h : d.HostOnly e) (i : Iface) (a : Nat) (v : Word) : d.HostOnly (e.latch i a v) := by
  obtain ⟨_, rfl⟩ := h
  exact ⟨_, rfl⟩

theorem Dev.HostOnly.view (h : d.HostOnly e) (i : Iface) (a n : Nat) (f : Nat → Word) : d.HostOnly (e.view i a n f) :=
  foldUp_invariant d.HostOnly n (fun _ _ h => h.latch i _ _) h

theorem Dev.latched_latch (d : Dev) (i : Iface) (a b : Nat) (v : Word) : (d.latch i a v).latched i b = if b = a then v else d.latched i b := by
  split
  case isTrue h => rw [h, d.latched_latch_same]
  case isFalse h => exact d.latched_latch_ne i h v

/-- A view holds nothing outside its words. -/
theorem Dev.latched_view_ne {a b n : Nat} (f : Nat → Word) (h : b < a ∨ a + 4 * n ≤ b) : (d.view i a n f).latched i b = d.latched i b := by
  rw [Dev.view]
  induction n with
  | zero => rfl
  | succ n ih => rw [foldUp, Dev.latched_latch_ne _ i (by omega), ih (by omega)]

/-- A word of a view, by its address. -/
theorem Dev.latched_view_at {a b n j : Nat} (f : Nat → Word) (hb : b = a + 4 * j) (h : j < n) : (d.view i a n f).latched i b = f j :=
  hb ▸ d.latched_view i a f h

end

/-- The word that an interface was answered last. -/
def State.answered (s : State) (i : Iface) : Word := if i = .spi then s.dev.host.rdataS else s.dev.host.rdataP

/-- A state whose registers, roost, island groups, keys, units, local path, recorder and GLB_CTL are those of another. -/
def State.Keeps (t s : State) : Prop :=
  t.dev.regs = s.dev.regs ∧ t.dev.roost = s.dev.roost ∧ t.dev.isl = s.dev.isl ∧ t.dev.key = s.dev.key ∧ t.dev.units = s.dev.units ∧
    t.dev.loc = s.dev.loc ∧ t.dev.evr = s.dev.evr ∧ t.ctl = s.ctl

/-- A read that is no access error is of a register. -/
theorem canRead_reg {s : State} {a : Nat} (h : s.canRead a) : ∃ r, regAt a = some r := by
  obtain ⟨-, h, -⟩ := h
  refine Option.ne_none_iff_exists'.mp fun hnone => ?_
  unfold readRefused at h
  rw [hnone] at h
  split at h <;> simp at h

section
variable {s : State} {n : Nat} {i : Iface} {a : Nat} {x : Word × Dev}

/-- A read that captures: its data on the interface, and beside them the machine of the capture. -/
theorem readRow_captures (h : s.canRead a) (hcap : (s.dev.tick n).capture i a = some x) : EndsWith (readRow s n true i a) (fun t =>
    t.answered i = x.1 ∧ (∀ b, t.dev.latched i b = x.2.latched i b) ∧ t.ctl = s.ctl ∧ ∃ o m, t.dev = { x.2 with host := o, txn := m }) := by
  obtain ⟨r, hr⟩ := canRead_reg h
  refine (readRow_ends h hr (rowRead_capture s.ctl r hcap)).with fun _ _ _ _ _ => ?_
  cases i
  · exact ⟨rfl, fun _ => rfl, rfl, _, _, rfl⟩
  · exact ⟨rfl, fun _ => rfl, rfl, _, _, rfl⟩

/-- A read that captures a view and changes nothing beside what is held for the interfaces. -/
theorem readRow_views (h : s.canRead a) (hcap : (s.dev.tick n).capture i a = some x) (hrest : (s.dev.tick n).HostOnly x.2) :
    EndsWith (readRow s n true i a) (fun t =>
      t.answered i = x.1 ∧ (∀ b, t.dev.latched i b = x.2.latched i b) ∧ t.dev.osc = s.dev.osc ∧ t.Keeps s) := by
  obtain ⟨_, hrest⟩ := hrest
  refine (readRow_captures h hcap).mono fun t ⟨hdata, hlatch, hctl, _, _, ht⟩ => ?_
  unfold State.Keeps
  rw [hrest] at ht
  refine ⟨hdata, hlatch, ?_⟩
  rw [ht]
  exact ⟨rfl, rfl, rfl, rfl, rfl, rfl, rfl, rfl, hctl⟩

end

/-! The entry window (R434). -/

section
variable (d : Dev) (i : Iface)

/-- The slot that the entry window selects. -/
def Dev.entSlot : Nat := d.roost.opened.getD 0 - d.fld Reg.ALN_ENT_SEL 27 24

theorem Dev.capture_entStatus : d.capture i Reg.ALN_ENT_STATUS = some (d.entCapture i) := rfl

theorem Dev.entCapture_hostOnly : d.HostOnly (d.entCapture i).2 := (((HostOnly.refl d).latch ..).latch ..).view ..

theorem Dev.entCapture_none (h : d.slot d.entSlot = none) : (d.entCapture i).1 = 0 := by
  unfold Dev.entSlot at h
  simp only [Dev.entCapture, h]

theorem Dev.entCapture_some {x : Slot9} (h : d.slot d.entSlot = some x) : (d.entCapture i).1 =
    w32 (b2n (x.get (d.fld Reg.ALN_ENT_SEL 16 0)).isSome + 2 * b2n x.opened + 4 * b2n (x.early.contains (d.fld Reg.ALN_ENT_SEL 16 0)) +
      8 * b2n (d.roost.slow.any (fun y => y.n == d.entSlot && y.late.contains (d.fld Reg.ALN_ENT_SEL 16 0)))) := by
  unfold Dev.entSlot at h ⊢
  simp only [Dev.entCapture, h]

theorem Dev.entCapture_seq : (d.entCapture i).2.latched i Reg.ALN_ENT_SEQ_LO = w32 d.entSlot ∧
    (d.entCapture i).2.latched i Reg.ALN_ENT_SEQ_HI = w32 (d.entSlot / 2 ^ 32) := by
  unfold Dev.entCapture
  rw [Dev.latched_view_ne _ (by decide), Dev.latched_view_ne _ (by decide)]
  simp [Dev.latched_latch, Reg.ALN_ENT_SEQ_LO, Reg.ALN_ENT_SEQ_HI, Dev.entSlot]

theorem Dev.entCapture_data {j : Nat} (hj : j < 8) : (d.entCapture i).2.latched i (Reg.ALN_ENT_DATA j) =
    w32 (beAt (((d.slot d.entSlot).bind (fun x => x.get (d.fld Reg.ALN_ENT_SEL 16 0))).getD missing) (4 * j) 4) :=
  Dev.latched_view_at _ (by unfold Reg.ALN_ENT_DATA; omega) hj

/-! The selected signal and the selected island group (R470, R518). -/

theorem Dev.capture_sigStatus : d.capture i Reg.OSC_SIG_STATUS = some (d.sigCapture i) := rfl

theorem Dev.sigCapture_hostOnly : d.HostOnly (d.sigCapture i).2 := (HostOnly.refl d).view ..

theorem Dev.sigCapture_data {j : Nat} (hj : j < 8) : (d.sigCapture i).2.latched i (Reg.OSC_SIG_DATA j) = d.sigView j :=
  Dev.latched_view_at _ (by unfold Reg.OSC_SIG_DATA; omega) hj

theorem Dev.capture_grpStatus : d.capture i Reg.ISL_GRP_STATUS = some (d.grpCapture i) := rfl

theorem Dev.grpCapture_hostOnly : d.HostOnly (d.grpCapture i).2 := (HostOnly.refl d).view ..

theorem Dev.grpCapture_data {j : Nat} (hj : j < 17) : (d.grpCapture i).2.latched i (Reg.ISL_GRP_DATA j) = d.grpView j :=
  Dev.latched_view_at _ (by unfold Reg.ISL_GRP_DATA; omega) hj

/-! Trackers (R454, R469, R471, R472). -/

variable {k : Nat}

theorem Dev.capture_trkStatus (hk : k < 16) : d.capture i (Reg.OSC_TRK_STATUS k) = some (d.trkCapture i k) := by
  interval_cases k <;> rfl

theorem Dev.capture_shapePart (hk : k < 16) : d.capture i (Reg.OSC_TRK_SHAPE_PART k) = some (d.shapePart i k) := by
  interval_cases k <;> rfl

/-- A tracker with its mode shape pinned for an interface (R471). -/
def OscTrk.pinned (i : Iface) (x : OscTrk) : OscTrk := if i = .pcie then { x with pinP := x.shapeView } else { x with pinS := x.shapeView }

theorem OscTrk.pinned_shape (x : OscTrk) : (if i = .pcie then (x.pinned i).pinP else (x.pinned i).pinS) = x.shapeView := by cases i <;> rfl

/-- The damping word of a tracker (R472). -/
def OscTrk.dampWord (x : OscTrk) (win : Nat) : Word :=
  w32 (cx 16 (clampS 16 x.zeta) + 65536 * b2n (x.dampOk win) + 2 ^ 17 * b2n (x.ests.head?.elim false (·.above))
    + 2 ^ 18 * b2n (x.ests.head?.elim false (·.growing)) + 2 ^ 19 * x.ests.length)

/-- The results of a tracker held for an interface (R471). -/
def Dev.trkView (d : Dev) (i : Iface) (k : Nat) : Dev :=
  let x := d.oscTrk k
  ((((d.latch i (Reg.OSC_TRK_FREQ k) (w32i x.freq)).latch i (Reg.OSC_TRK_DAMP k) (x.dampWord d.oscWin)).latch i (Reg.OSC_TRK_AMP k)
    (w32 (min x.aMode 0xFFFFFFFF))).latch i (Reg.OSC_TRK_AMP_MAX k) (w32 (min x.aMax 0xFFFFFFFF))).view i (Reg.OSC_TRK_LAMBDA_RT k 0) 4
    (fun j => w32 (min (x.lam.getD j 0) 0xFFFFFFFF))

theorem Dev.trkCapture_eq (k : Nat) : d.trkCapture i k = ((d.trkView i k).trkStatus k, (d.trkView i k).modTrk k (OscTrk.pinned i)) := rfl

theorem Dev.trkView_hostOnly (k : Nat) : d.HostOnly (d.trkView i k) := (((((HostOnly.refl d).latch ..).latch ..).latch ..).latch ..).view ..

theorem Dev.trkCapture_status (k : Nat) : (d.trkCapture i k).1 = d.trkStatus k := by
  obtain ⟨_, h⟩ := d.trkView_hostOnly i k
  rw [Dev.trkCapture_eq, h]
  rfl

theorem Dev.trkCapture_hostOnly (k : Nat) : (d.modTrk k (OscTrk.pinned i)).HostOnly (d.trkCapture i k).2 := by
  obtain ⟨o, h⟩ := d.trkView_hostOnly i k
  rw [Dev.trkCapture_eq, h]
  exact ⟨o, rfl⟩

theorem Dev.modTrk_latched (k : Nat) (f : OscTrk → OscTrk) (a : Nat) : (d.modTrk k f).latched i a = d.latched i a := rfl

theorem Dev.trkCapture_latched (k a : Nat) : (d.trkCapture i k).2.latched i a = (d.trkView i k).latched i a := by
  rw [Dev.trkCapture_eq, Dev.modTrk_latched]

theorem Dev.trkView_words (k : Nat) : (d.trkView i k).latched i (Reg.OSC_TRK_FREQ k) = w32i (d.oscTrk k).freq ∧
    (d.trkView i k).latched i (Reg.OSC_TRK_AMP k) = w32 (min (d.oscTrk k).aMode 0xFFFFFFFF) ∧
    (d.trkView i k).latched i (Reg.OSC_TRK_AMP_MAX k) = w32 (min (d.oscTrk k).aMax 0xFFFFFFFF) ∧
    (d.trkView i k).latched i (Reg.OSC_TRK_DAMP k) = (d.oscTrk k).dampWord d.oscWin := by
  unfold Dev.trkView Reg.OSC_TRK_FREQ Reg.OSC_TRK_DAMP Reg.OSC_TRK_AMP Reg.OSC_TRK_AMP_MAX Reg.OSC_TRK_LAMBDA_RT
  dsimp only
  refine ⟨?_, ?_, ?_, ?_⟩ <;> rw [Dev.latched_view_ne _ (by omega)] <;> simp [Dev.latched_latch]

theorem Dev.trkView_lambda (k : Nat) {j : Nat} (hj : j < 4) :
    (d.trkView i k).latched i (Reg.OSC_TRK_LAMBDA_RT k j) = w32 (min ((d.oscTrk k).lam.getD j 0) 0xFFFFFFFF) := by
  have hword : Reg.OSC_TRK_LAMBDA_RT k j = Reg.OSC_TRK_LAMBDA_RT k 0 + 4 * j := by unfold Reg.OSC_TRK_LAMBDA_RT; omega
  unfold Dev.trkView
  dsimp only
  rw [hword, Dev.latched_view _ _ _ _ hj]

theorem Dev.oscTrk_modTrk_same (k : Nat) (f : OscTrk → OscTrk) : (d.modTrk k f).oscTrk k = f (d.oscTrk k) := tget_tset_same _ _ _ _

theorem Dev.oscTrk_modTrk_ne {j : Nat} (h : j ≠ k) (f : OscTrk → OscTrk) : (d.modTrk k f).oscTrk j = d.oscTrk j := tget_tset_ne _ _ _ h _

end

/-- A field of a word made of a number. -/
theorem bits_w32 (v : Nat) {hi lo : Nat} (h : hi < 32) : bits (w32 v) hi lo = v / 2 ^ lo % 2 ^ (hi + 1 - lo) := by
  refine Nat.eq_of_testBit_eq fun j => ?_
  rw [← Nat.shiftRight_eq_div_pow]
  simp only [bits, w32_toNat, Nat.testBit_mod_two_pow, Nat.testBit_shiftRight]
  by_cases hj : j < hi + 1 - lo
  · have : lo + j < 32 := by omega
    simp [hj, this]
  · simp [hj]

theorem bit_w32 {v k : Nat} {b : Bool} (hk : k < 32) (h : v / 2 ^ k % 2 = b2n b) : bit (w32 v) k = b := by
  rw [bit, w32, BitVec.getLsbD_ofNat, decide_eq_true hk, Bool.true_and, Nat.testBit_eq_decide_div_mod_eq, h]
  cases b <;> rfl

theorem b2n_lt_two (b : Bool) : b2n b < 2 := by cases b <;> decide

/-- ZETA and its validity in the damping word. -/
theorem OscTrk.dampWord_fields (x : OscTrk) (win : Nat) :
    bits (x.dampWord win) 15 0 = cx 16 (clampS 16 x.zeta) ∧ bit (x.dampWord win) 16 = x.dampOk win := by
  have hz := cx_lt 16 (clampS 16 x.zeta)
  unfold OscTrk.dampWord
  constructor
  · rw [bits_w32 _ (by decide)]
    omega
  · have hok := b2n_lt_two (x.dampOk win)
    refine bit_w32 (by decide) ?_
    omega

/-! Command groups (R519). -/

section
variable (d : Dev) (i : Iface)

theorem Dev.capture_cgStatus {c : Nat} (hc : c < 1024) : d.capture i (Reg.ISL_CG_STATUS c) = some (d.cgCapture i c) := by
  have helem : elemOf (Reg.ISL_CG_STATUS 0) 0x10 1024 (Reg.ISL_CG_STATUS c) = c := elemOf_elem (off := 0) hc (by decide)
  have hck := elemOf_lt (Reg.CNV_CK_RES_STATUS 0) 0x40 (Reg.ISL_CG_STATUS c) (n := 16) (by decide)
  have hphs := elemOf_lt (Reg.PHS_CH_STATUS 0) (Reg.PHS_CH_MAG 1 - Reg.PHS_CH_MAG 0) (Reg.ISL_CG_STATUS c) (n := 256) (by decide)
  have htrk := elemOf_lt (Reg.OSC_TRK_STATUS 0) 0x100 (Reg.ISL_CG_STATUS c) (n := 16) (by decide)
  have hpart := elemOf_lt (Reg.OSC_TRK_SHAPE_PART 0) 0x100 (Reg.ISL_CG_STATUS c) (n := 16) (by decide)
  have hfar {b : Nat} (hb : b < 0x244000) : Reg.ISL_CG_STATUS c ≠ b := by unfold Reg.ISL_CG_STATUS; omega
  rw [Dev.capture, helem]
  unfold Reg.CNV_CK_RES_STATUS Reg.CNV_CK_RES_CONSUME Reg.PHS_CH_STATUS Reg.OSC_TRK_STATUS Reg.OSC_TRK_SHAPE_PART at *
  rw [if_neg (hfar (by omega)), if_neg (hfar (by omega)), if_neg (hfar (by decide)), if_neg (hfar (by omega)), if_neg (hfar (by decide)),
    if_neg (hfar (by decide)), if_neg (hfar (by omega)), if_neg (hfar (by omega)), if_neg (hfar (by decide)), if_pos rfl]

theorem Dev.cgCapture_hostOnly (c : Nat) : d.HostOnly (d.cgCapture i c).2 := (((HostOnly.refl d).latch ..).latch ..).latch ..

theorem Dev.cgCapture_words (c : Nat) : (d.cgCapture i c).2.latched i (Reg.ISL_CG_LAST_SEQ c) = w32 (d.cmdGrp c).lastSeq ∧
    (d.cgCapture i c).2.latched i (Reg.ISL_CG_UNACK c) = w32 (d.cmdGrp c).unack ∧
    (d.cgCapture i c).2.latched i (Reg.ISL_CG_SENT_CNT c) = w32 (d.cmdGrp c).sent := by
  simp [Dev.cgCapture, Dev.latched_latch, Reg.ISL_CG_LAST_SEQ, Reg.ISL_CG_UNACK, Reg.ISL_CG_SENT_CNT]

/-! The selected key slot (R708). -/

/-- The key in the selected slot. -/
def Dev.keySel : Option KeySlot := slotOf d.key.force (d.fld Reg.KEY_SLOT_SEL 7 0)

theorem Dev.capture_keyInfo : d.capture i Reg.KEY_SLOT_INFO = some (d.keyCapture i) := rfl

theorem Dev.keyCapture_hostOnly : d.HostOnly (d.keyCapture i).2 := (((((HostOnly.refl d).latch ..).latch ..).latch ..).latch ..).view ..

/-- The bits of KEY_SLOT_INFO beside the key: a trust root in use, and a slot below 3. -/
def Dev.keyMarks : Nat :=
  b2n (d.rootsInUse.contains (d.fld Reg.KEY_SLOT_SEL 7 0)) * 128 + b2n (decide (d.fld Reg.KEY_SLOT_SEL 7 0 < 3)) * 256

theorem Dev.keyMarks_mod : d.keyMarks % 128 = 0 := by unfold Dev.keyMarks; omega

theorem Dev.keyCapture_absent (h : d.keySel = none) : bit (d.keyCapture i).1 6 = false := by
  have hinfo : (d.keyCapture i).1 = w32 (0 + d.keyMarks) := by
    unfold Dev.keySel at h
    simp only [Dev.keyCapture, h, Nat.add_assoc, Dev.keyMarks]
  have := d.keyMarks_mod
  rw [hinfo]
  exact bit_w32 (by decide) (by rw [b2n_false]; omega)

theorem Dev.keyCapture_present {x : KeySlot} (h : d.keySel = some x) (htyp : x.typ < 8) (huse : x.use < 8) :
    bit (d.keyCapture i).1 6 = true ∧ bits (d.keyCapture i).1 2 0 = x.typ ∧ bits (d.keyCapture i).1 5 3 = x.use := by
  have hinfo : (d.keyCapture i).1 = w32 (x.typ + x.use * 8 + 64 + d.keyMarks) := by
    unfold Dev.keySel at h
    simp only [Dev.keyCapture, h, Nat.add_assoc, Dev.keyMarks]
  have := d.keyMarks_mod
  rw [hinfo, bits_w32 _ (by decide), bits_w32 _ (by decide)]
  exact ⟨bit_w32 (by decide) (by rw [b2n_true]; omega), by omega, by omega⟩

/-- The words held for the selected key; those of an empty slot are 0. -/
theorem Dev.keyCapture_words : (d.keyCapture i).2.latched i Reg.KEY_SLOT_ID = w32 ((d.keySel.map (·.id)).getD 0) ∧
    (d.keyCapture i).2.latched i Reg.KEY_SLOT_KCV = w32 ((d.keySel.map (·.kcv)).getD 0) ∧
    (d.keyCapture i).2.latched i Reg.KEY_SLOT_CTR_LO = w32 ((d.keySel.map (·.ctr)).getD 0) ∧
    (d.keyCapture i).2.latched i Reg.KEY_SLOT_CTR_HI = w32 ((d.keySel.map (·.ctr)).getD 0 / 2 ^ 32) := by
  dsimp only [Dev.keyCapture]
  rw [← Dev.keySel]
  refine ⟨?_, ?_, ?_, ?_⟩ <;> rw [Dev.latched_view_ne _ (by decide)] <;>
    simp only [Dev.latched_latch, Reg.KEY_SLOT_ID, Reg.KEY_SLOT_KCV, Reg.KEY_SLOT_CTR_LO, Reg.KEY_SLOT_CTR_HI] <;> cases d.keySel <;> rfl

theorem Dev.keyCapture_public {x : KeySlot} {j : Nat} (h : d.keySel = some x) (hj : j < 16) :
    (d.keyCapture i).2.latched i (Reg.KEY_SLOT_PUB j) = if x.typ = 4 then wordOf x.material j else 0 := by
  unfold Dev.keySel at h
  simp only [Dev.keyCapture, h, Option.getD_some]
  rw [Dev.latched_view_at _ (by unfold Reg.KEY_SLOT_PUB; omega) hj]

/-! The selected output (R750). -/

theorem Dev.capture_outStatus : d.capture i Reg.WNG_OUT_STATUS = some (d.outCapture i) := rfl

theorem Dev.outCapture_hostOnly : d.HostOnly (d.outCapture i).2 := ((HostOnly.refl d).latch ..).latch ..

theorem Dev.outCapture_status : let o := d.fld Reg.WNG_OUT_SEL 11 0
    bit (d.outCapture i).1 0 = decide (16 ≤ o ∧ o < 2176 ∧ o ≠ 2167) ∧ bit (d.outCapture i).1 1 = decide (tget 0 d.units.outSeq o ≠ 0) := by
  intro o
  have hdefined : (decide (16 ≤ o) && decide (o < 2176) && o != 2167) = decide (16 ≤ o ∧ o < 2176 ∧ o ≠ 2167) := Bool.eq_iff_iff.mpr (by simp [and_assoc])
  have hused : (tget 0 d.units.outSeq o != 0) = decide (tget 0 d.units.outSeq o ≠ 0) := Bool.eq_iff_iff.mpr (by simp)
  have hstatus : (d.outCapture i).1 = w32 (b2n (decide (16 ≤ o) && decide (o < 2176) && o != 2167) + 2 * b2n (tget 0 d.units.outSeq o != 0)) := rfl
  have := b2n_lt_two (decide (16 ≤ o ∧ o < 2176 ∧ o ≠ 2167))
  have := b2n_lt_two (decide (tget 0 d.units.outSeq o ≠ 0))
  rw [hstatus, hdefined, hused]
  exact ⟨bit_w32 (by decide) (by omega), bit_w32 (by decide) (by omega)⟩

theorem Dev.outCapture_seq : let q := tget 0 d.units.outSeq (d.fld Reg.WNG_OUT_SEL 11 0)
    (d.outCapture i).2.latched i Reg.WNG_OUT_SEQ_LO = w32 (q - 1) ∧ (d.outCapture i).2.latched i Reg.WNG_OUT_SEQ_HI = w32 ((q - 1) / 2 ^ 32) := by
  simp [Dev.outCapture, Dev.latched_latch, Reg.WNG_OUT_SEQ_LO, Reg.WNG_OUT_SEQ_HI]

end

/-- Settles O45: each status answers and captures by the lemmas of its `capture`, and its read changes nothing else (`readRow_views`); a tracker's read also
pins its shape (`Dev.trkCapture_hostOnly`, `OscTrk.pinned_shape`), and that of SHAPE_PART moves the position alone. -/
theorem readViews : Obligations.ReadViews := by
  unfold Obligations.ReadViews
  intro s n i e got same
  refine ⟨fun h => ?entry, fun h => ?signal, fun h => ?island, fun k hk h => ?tracker, fun k hk h => ?shape, fun c hc h => ?command, fun h => ?key, fun h => ?output⟩
  case entry =>
    rw [exec_alnEntStatusRead]
    refine (readRow_views h (e.capture_entStatus i) (e.entCapture_hostOnly i)).mono fun t ⟨hdata, hlatch, _, hkeeps⟩ => ?_
    obtain ⟨hlo, hhi⟩ := e.entCapture_seq i
    exact ⟨fun hnone => hdata.trans (e.entCapture_none i hnone), fun x hx => hdata.trans (e.entCapture_some i hx), (hlatch _).trans hlo, (hlatch _).trans hhi,
      fun j hj => (hlatch _).trans (e.entCapture_data i hj), hkeeps⟩
  case signal =>
    rw [exec_oscSigStatusRead]
    exact (readRow_views h (e.capture_sigStatus i) (e.sigCapture_hostOnly i)).mono fun t ⟨hdata, hlatch, hosc, hkeeps⟩ =>
      ⟨hdata, fun j hj => (hlatch _).trans (e.sigCapture_data i hj), hosc, hkeeps⟩
  case island =>
    rw [exec_islGrpStatusRead]
    exact (readRow_views h (e.capture_grpStatus i) (e.grpCapture_hostOnly i)).mono fun t ⟨hdata, hlatch, hosc, hkeeps⟩ =>
      ⟨hdata, fun j hj => (hlatch _).trans (e.grpCapture_data i hj), hosc, hkeeps⟩
  case tracker =>
    rw [exec_oscTrkStatusRead, decide_eq_true hk]
    refine (readRow_captures h (e.capture_trkStatus i hk)).mono fun t ⟨hdata, hlatch, hctl, _, _, ht⟩ => ?_
    have hword (a : Nat) : t.dev.latched i a = (e.trkView i k).latched i a := (hlatch a).trans (e.trkCapture_latched i k a)
    obtain ⟨hfreq, hamp, hmax, hdamp⟩ := e.trkView_words i k
    obtain ⟨hzeta, hok⟩ := (e.oscTrk k).dampWord_fields e.oscWin
    obtain ⟨_, hrest⟩ := e.trkCapture_hostOnly i k
    rw [hrest] at ht
    have htrk (j : Nat) : t.dev.oscTrk j = (e.modTrk k (OscTrk.pinned i)).oscTrk j := by rw [ht]; rfl
    have hkeeps : t.Keeps s := by
      unfold State.Keeps
      rw [ht]
      exact ⟨rfl, rfl, rfl, rfl, rfl, rfl, rfl, hctl⟩
    intro x
    rw [hword, hword, hword, hword, hdamp, htrk k, e.oscTrk_modTrk_same]
    exact ⟨hdata.trans (e.trkCapture_status i k), hfreq, hamp, hmax, hzeta, hok, fun j hj => (hword _).trans (e.trkView_lambda i k hj),
      fun j _ hj => (htrk j).trans (e.oscTrk_modTrk_ne hj _), x.pinned_shape i, hkeeps⟩
  case shape =>
    rw [exec_shapePartRead, decide_eq_true hk]
    refine (readRow_captures h (e.capture_shapePart i hk)).mono fun t ⟨hdata, hlatch, hctl, _, _, ht⟩ => ?_
    have hrd (a : Nat) : t.dev.rd a = (e.shapePart i k).2.rd a := by rw [ht]; rfl
    intro p
    refine ⟨hdata, ?_, fun a ha => (hrd a).trans (Dev.rd_putF_ne e ha _ _ _), ?_, hctl⟩
    · rw [Dev.fld, hrd, ← Dev.fld]
      exact Dev.fld_putF e _ 11 0 _ (by decide)
    · rw [ht]
      rfl
  case command =>
    rw [exec_islCgStatusRead, decide_eq_true hc]
    obtain ⟨hseq, hunack, hsent⟩ := e.cgCapture_words i c
    exact (readRow_views h (e.capture_cgStatus i hc) (e.cgCapture_hostOnly i c)).mono fun t ⟨hdata, hlatch, _, hkeeps⟩ =>
      ⟨hdata, (hlatch _).trans hseq, (hlatch _).trans hunack, (hlatch _).trans hsent, hkeeps⟩
  case key =>
    rw [exec_keySlotInfoRead]
    refine (readRow_views h (e.capture_keyInfo i) (e.keyCapture_hostOnly i)).mono fun t ⟨hdata, hlatch, _, hkeeps⟩ => ?_
    obtain ⟨hid, hkcv, hlo, hhi⟩ := e.keyCapture_words i
    have hgot : got t = (e.keyCapture i).1 := hdata
    intro k
    rw [hgot]
    exact ⟨fun hnone => e.keyCapture_absent i hnone, fun x hx => e.keyCapture_present i hx, (hlatch _).trans hid, (hlatch _).trans hkcv, (hlatch _).trans hlo,
      (hlatch _).trans hhi, fun x j hx hj => (hlatch _).trans (e.keyCapture_public i hx hj), hkeeps⟩
  case output =>
    rw [exec_wngOutStatusRead]
    refine (readRow_views h (e.capture_outStatus i) (e.outCapture_hostOnly i)).mono fun t ⟨hdata, hlatch, _, hkeeps⟩ => ?_
    obtain ⟨hdefined, hused⟩ := e.outCapture_status i
    obtain ⟨hlo, hhi⟩ := e.outCapture_seq i
    have hgot : got t = (e.outCapture i).1 := hdata
    rw [hgot]
    exact ⟨hdefined, hused, (hlatch _).trans hlo, (hlatch _).trans hhi, hkeeps⟩

end Sys2Proof.Machine

/-! Outputs as they are sent (O47). -/

namespace Sys2Proof.Machine

/-! What sending an output leaves alone (R292, R715, R729). -/

/-- The roost, the local path and the island groups, which no sending changes. -/
def Dev.besideSending (d : Dev) : Roost × Local × Isl := (d.roost, d.loc, d.isl)

section
variable (d : Dev)

@[simp] theorem Dev.wr_besideSending (a : Nat) (v : Word) : (d.wr a v).besideSending = d.besideSending := rfl
@[simp] theorem Dev.wrN_besideSending (a v : Nat) : (d.wrN a v).besideSending = d.besideSending := rfl
@[simp] theorem Dev.incW_besideSending (a n : Nat) : (d.incW a n).besideSending = d.besideSending := rfl
@[simp] theorem Dev.raise_besideSending (a k : Nat) : (d.raise a k).besideSending = d.besideSending := rfl
@[simp] theorem Dev.emit_besideSending (x : Sent) : (d.emit x).besideSending = d.besideSending := rfl
@[simp] theorem Dev.modPort_besideSending (p : Nat) (f : Port → Port) : (d.modPort p f).besideSending = d.besideSending := rfl

@[simp] theorem Dev.inc_besideSending (a n : Nat) : (d.inc a n).besideSending = d.besideSending := by
  obtain ⟨_, _, h⟩ := d.inc_eq a n
  rw [h]
  rfl

@[simp] theorem Dev.record_besideSending (typ : Nat) (b : Bytes) : (d.record typ b).besideSending = d.besideSending := by
  obtain ⟨_, _, _, h⟩ := d.record_eq typ b
  rw [h]
  rfl

@[simp] theorem Dev.queMax_besideSending (q n : Nat) : (d.queMax q n).besideSending = d.besideSending := by
  obtain ⟨_, _, h⟩ := d.queMax_eq q n
  rw [h]
  rfl

@[simp] theorem Dev.txRefuse_besideSending (p q src len : Nat) : (d.txRefuse p q src len).besideSending = d.besideSending := by simp [Dev.txRefuse]

@[simp] theorem Dev.txPut_besideSending (p q : Nat) (f : TxFrame) : (d.txPut p q f).besideSending = d.besideSending := by
  unfold Dev.txPut
  split
  · rfl
  · dsimp only
    split <;> simp

@[simp] theorem Dev.plcaStart_besideSending (p : Nat) : (d.plcaStart p).besideSending = d.besideSending := by
  unfold Dev.plcaStart
  dsimp only
  split
  · rfl
  · split <;> simp

theorem Dev.ptpDepart_besideSending (p kind : Nat) (stamp : Int) (b : Bytes) : (d.ptpDepart p kind stamp b).2.2.besideSending = d.besideSending := by
  unfold Dev.ptpDepart
  dsimp only
  split
  · rfl
  · split <;> split <;> rfl

@[simp] theorem Dev.txWire_besideSending (p : Nat) (f : TxFrame) : (d.txWire p f).besideSending = d.besideSending := by
  unfold Dev.txWire
  split
  · rfl
  · exact d.ptpDepart_besideSending p f.ptp f.stamp f.bytes

@[simp] theorem Dev.txStart_besideSending (p : Nat) : (d.txStart p).besideSending = d.besideSending := by
  unfold Dev.txStart
  dsimp only
  split
  · rfl
  · split
    · split <;> simp
    · split
      · rfl
      · split <;> simp

@[simp] theorem Dev.txList_besideSending (p q : Nat) (job : Bool) (l : List Bytes) : (d.txList p q job l).besideSending = d.besideSending := by
  induction l generalizing d with
  | nil => rfl
  | cons b r ih => simp [Dev.txList, ih]

@[simp] theorem Dev.txPair_besideSending (p q : Nat) (job : Bool) (l : List Bytes) : (d.txPair p q job l).besideSending = d.besideSending := by
  induction l generalizing d with
  | nil => rfl
  | cons b r ih =>
    simp only [Dev.txPair, ih, Dev.txPut_besideSending]
    rfl

@[simp] theorem Dev.txSend_besideSending (p q src : Nat) (job : Bool) (l : List Bytes) : (d.txSend p q src job l).besideSending = d.besideSending := by
  unfold Dev.txSend
  dsimp only
  split <;> split <;> simp

@[simp] theorem Dev.ozSend_besideSending (lane typ : Nat) (b : Bytes) : (d.ozSend lane typ b).2.besideSending = d.besideSending := rfl

theorem Dev.mirror_besideSending (x : Out) : (d.mirror x).besideSending = d.besideSending := by
  unfold Dev.mirror
  exact foldUp_keeps Dev.besideSending _ _ (by intros; rfl) d

/-- The acts of an output that sends frames and notes what it sent in registers. -/
def Act.Sends : Act → Prop
  | .send .. | .set .. | .count _ => True
  | _ => False

variable {d}

theorem Dev.act_besideSending {a : Act} (h : a.Sends) : (d.act a).besideSending = d.besideSending := by
  cases a with
  | send p q src job fs => exact d.txSend_besideSending p q src job fs
  | set reg v => rfl
  | count reg => rfl
  | _ => exact h.elim

theorem Dev.gatePass_besideSending (o seq : Nat) : (d.gatePass o seq).besideSending = d.besideSending := by
  unfold Dev.gatePass
  split <;> rfl

theorem Dev.pass_besideSending {x : Out} (h : ∀ a ∈ x.acts, a.Sends) : (d.pass x).besideSending = d.besideSending :=
  (foldl_keeps_mem Dev.besideSending (fun _ a ha => Dev.act_besideSending (h a ha)) _).trans (Dev.gatePass_besideSending x.o x.seq)

theorem Dev.present_besideSending {x : Out} (h : ∀ a ∈ x.acts, a.Sends) : (d.present x).2.besideSending = d.besideSending := by
  unfold Dev.present
  split
  · split
    · exact d.mirror_besideSending x
    · exact Dev.pass_besideSending h
  · split <;> rfl

end

end Sys2Proof.Machine

/-! GOOSE retransmission (R426, R427). -/

namespace Sys2Proof.Machine

section
variable (d : Dev) (g : Nat)

theorem Dev.toPorts_sends {mask q src : Nat} {mk : Nat → Bytes} {a : Act} (h : a ∈ d.toPorts mask q src mk) : a.Sends := by
  obtain ⟨p, -, rfl⟩ := List.mem_map.mp h
  trivial

theorem Dev.gooseSend_besideSending : (d.gooseSend g).besideSending = d.besideSending := by
  refine Dev.present_besideSending fun a ha => ?_
  rcases List.mem_append.mp ha with hsend | hnote
  · exact d.toPorts_sends hsend
  · simp only [List.mem_cons, List.not_mem_nil, or_false] at hnote
    rcases hnote with rfl | rfl | rfl <;> trivial

theorem Dev.gooseOf_modGoose_same (f : Goose → Goose) : (d.modGoose g f).gooseOf g = f (d.gooseOf g) := tget_tset_same _ _ _ _

theorem Dev.gooseOf_modGoose_ne {k : Nat} (h : k ≠ g) (f : Goose → Goose) : (d.modGoose g f).gooseOf k = d.gooseOf k := tget_tset_ne _ _ _ h _

/-- A block has a repeat to send: it has published, is enabled, its time has come, and its unit speaks (R427, R429). -/
def Dev.gooseDue : Prop :=
  (d.gooseOf g).live = true ∧ d.flag (Reg.ALN_GO_CFG g) 0 = true ∧ (d.gooseOf g).due ≤ d.tim.clk ∧ d.speaks = true

/-- The interval that follows the next repeat of a block, in ms (R427). -/
def Dev.gooseGap : Nat :=
  min (if (d.gooseOf g).sq = 0 then (d.gooseOf g).gap else 2 * (d.gooseOf g).gap) (d.fld (Reg.ALN_GO_CFG g) 31 16)

/-- A block with its next repeat counted and timed. -/
def Dev.gooseNext (x : Goose) : Goose :=
  { x with sq := (x.sq + 1) % 2 ^ 32, gap := d.gooseGap g, due := d.tim.clk + ticksMs (d.gooseGap g) }

variable {d} {g}

theorem Dev.gooseRepeat_idle (h : ¬ d.gooseDue g) : d.gooseRepeat g = d := by
  simp only [Dev.gooseDue] at h
  simp only [Dev.gooseRepeat, Bool.and_eq_true, decide_eq_true_eq, and_assoc, if_neg h]

theorem Dev.gooseRepeat_due (h : d.gooseDue g) : d.gooseRepeat g = (d.modGoose g (d.gooseNext g)).gooseSend g := by
  simp only [Dev.gooseDue] at h
  simp only [Dev.gooseRepeat, Bool.and_eq_true, decide_eq_true_eq, and_assoc, if_pos h]
  rfl

/-- A repeat counts and times its block, and changes neither another block nor the local path nor the island groups. -/
theorem Dev.gooseRepeat_leaves (h : d.gooseDue g) : (d.gooseRepeat g).gooseOf g = d.gooseNext g (d.gooseOf g) ∧
    (∀ k, k ≠ g → (d.gooseRepeat g).gooseOf k = d.gooseOf k) ∧ (d.gooseRepeat g).loc = d.loc ∧ (d.gooseRepeat g).isl = d.isl := by
  have hsent := (d.modGoose g (d.gooseNext g)).gooseSend_besideSending g
  rw [← Dev.gooseRepeat_due h] at hsent
  simp only [Dev.besideSending, Prod.mk.injEq] at hsent
  obtain ⟨hroost, hloc, hisl⟩ := hsent
  have hblock (k : Nat) : (d.gooseRepeat g).gooseOf k = (d.modGoose g (d.gooseNext g)).gooseOf k := by rw [Dev.gooseOf, hroost, ← Dev.gooseOf]
  exact ⟨(hblock g).trans (d.gooseOf_modGoose_same g _), fun k hk => (hblock k).trans (d.gooseOf_modGoose_ne g hk _), hloc, hisl⟩

end

end Sys2Proof.Machine

/-! C37.118 commands (R416, R418, R419). -/

namespace Sys2Proof.Machine

section
variable {d : Dev} {c : Nat}

theorem Dev.c37Command_disabled (h : d.flag (Reg.ALN_STR_CFG c) 0 = false) (cmd : Nat) : d.c37Command c cmd = d := by
  simp [Dev.c37Command, h]

/-- What a command of an enabled stream brings about, beside its count (R418). -/
def Dev.c37Act (d : Dev) (c : Nat) : Nat → Dev
  | 1 => d.modStr c (fun x => { x with dataOn := false })
  | 2 => d.modStr c (fun x => { x with dataOn := true })
  | 3 => d.sendStored c 1 1
  | 4 => d.sendStored c 3 2
  | 5 => d.sendStored c 3 3
  | _ => d

theorem Dev.c37Command_enabled (h : d.flag (Reg.ALN_STR_CFG c) 0 = true) {cmd : Nat} (hlo : 1 ≤ cmd) (hhi : cmd ≤ 5) :
    d.c37Command c cmd = (d.c37Act c cmd).incW (Reg.ALN_STR_CMD_CNT c) 1 := by
  rw [Dev.c37Command, if_pos h]
  interval_cases cmd <;> rfl

variable {typ nibble : Nat}

/-- Without a stored frame, or while the unit does not speak, nothing is sent. -/
theorem Dev.sendStored_silent (h : d.recOf 0x0903 (c * 256 + typ) = none ∨ d.speaks = false) : d.sendStored c typ nibble = d := by
  unfold Dev.sendStored
  split
  · rfl
  case _ r hr =>
    obtain hnone | hquiet := h
    · simp [hnone] at hr
    · simp [hquiet]

/-- A stored frame as it is sent: with SYNC, time and check sum of the moment (R419). -/
def Dev.storedFrame (d : Dev) (c nibble : Nat) (r : Bytes) : Bytes :=
  let sync := be 1 0xAA ++ be 1 (nibble * 16 + (if d.flag (Reg.ALN_STR_CFG c) 2 then 2 else 1))
  let f := patch (patch ((r.drop 4).take (beAt r 2 2)) 0 sync) 6 (d.socFrac d.ns d.tq (beAt ((d.recOf 0x0901 c).getD []) 8 4))
  withChk (f.take (f.length - 2))

theorem Dev.sendStored_udp {r : Bytes} (hr : d.recOf 0x0903 (c * 256 + typ) = some r) (hs : d.speaks = true)
    (hudp : d.flag (Reg.ALN_STR_CFG c) 1 = false) :
    d.sendStored c typ nibble = (d.udpStream c 4 (d.storedFrame c nibble r)).foldl (fun (d : Dev) a => d.act a) d := by
  simp [Dev.sendStored, hr, hs, hudp, Dev.storedFrame]

theorem Dev.sendStored_unconnected (htcp : d.flag (Reg.ALN_STR_CFG c) 1 = true) (hconn : (d.str c).conn = none) :
    d.sendStored c typ nibble = d := by
  unfold Dev.sendStored
  split
  · rfl
  · simp [htcp, hconn]

end

/-- A command to a stream. -/
theorem c37_ends (s : State) (n : Nat) {c : Nat} (hc : c < 64) (cmd : Nat) :
    Ends (devRow s n (decide (c < 64)) (fun (d : Dev) => d.c37Command c cmd)) { s with dev := (s.dev.tick n).c37Command c cmd } := by
  rw [decide_eq_true hc]
  exact devRow_ends s n _

/-- Settles O47: a command is ignored or acts and is counted (`Dev.c37Command_disabled`, `Dev.c37Command_enabled`), a stored frame is sent or not
(`Dev.sendStored_silent`, `Dev.sendStored_udp`, `Dev.sendStored_unconnected`), and a repeat of GOOSE is `Dev.gooseRepeat_leaves`. -/
theorem streamCommands : Obligations.StreamCommands := by
  unfold Obligations.StreamCommands
  refine ⟨fun s n c hc => ?commands, fun s n g hg => ?goose⟩
  case commands =>
    intro e counted en stored
    have hacts (cmd : Nat) := c37_ends s n hc cmd
    refine ⟨fun hoff => ?disabled, fun hon => ?enabled⟩
    case disabled =>
      have hstill (cmd : Nat) : Ends (devRow s n (decide (c < 64)) (fun (d : Dev) => d.c37Command c cmd)) { s with dev := e } := by
        have := hacts cmd
        rwa [Dev.c37Command_disabled (d := e) hoff] at this
      intro o ho
      simp only [exec_c37CmdDataOff, exec_c37CmdDataOn, exec_c37CmdHeader, exec_c37CmdCfg1, exec_c37CmdCfg2, List.mem_cons, List.not_mem_nil, or_false] at ho
      rcases ho with rfl | rfl | rfl | rfl | rfl
      all_goals exact hstill _
    case enabled =>
      have hcounted {cmd : Nat} (hlo : 1 ≤ cmd) (hhi : cmd ≤ 5) :
          Ends (devRow s n (decide (c < 64)) (fun (d : Dev) => d.c37Command c cmd)) (counted (e.c37Act c cmd)) := by
        have := hacts cmd
        rwa [Dev.c37Command_enabled (d := e) hon hlo hhi] at this
      have hstored {typ nibble : Nat} {o : Host.Outcome State Fault Refusal} (ho : Ends o (counted (e.sendStored c typ nibble))) : stored typ nibble o := by
        refine ⟨fun hsilent => ?_, fun r hr hspeaks hudp => ?_, fun _ htcp hconn => ?_⟩
        · rwa [Dev.sendStored_silent (d := e) hsilent] at ho
        · rwa [Dev.sendStored_udp (d := e) hr hspeaks hudp] at ho
        · rwa [Dev.sendStored_unconnected (d := e) htcp hconn] at ho
      rw [exec_c37CmdDataOff, exec_c37CmdDataOn, exec_c37CmdHeader, exec_c37CmdCfg1, exec_c37CmdCfg2]
      exact ⟨hcounted (by decide) (by decide), hcounted (by decide) (by decide), hstored (hcounted (cmd := 3) (by decide) (by decide)),
        hstored (hcounted (cmd := 4) (by decide) (by decide)), hstored (hcounted (cmd := 5) (by decide) (by decide))⟩
  case goose =>
    intro e x due
    have hends := devRow_ends s n (fun (d : Dev) => d.gooseRepeat g)
    rw [exec_gooseRetransmit, decide_eq_true hg]
    refine ⟨fun hidle => ?_, fun hdue => ?_⟩
    · rwa [Dev.gooseRepeat_idle (d := e) hidle] at hends
    · obtain ⟨hblock, hothers, hloc, hisl⟩ := Dev.gooseRepeat_leaves (d := e) hdue
      obtain ⟨hlive, -⟩ := hdue
      refine hends.with fun _ _ _ _ _ => ?_
      intro gap y
      have hy : y = e.gooseNext g x := hblock
      rw [hy]
      exact ⟨rfl, rfl, rfl, hlive, rfl, rfl, fun k _ hk => hothers k hk, hloc, hisl, rfl⟩

end Sys2Proof.Machine

/-! Host operations on command groups and unlatches (R489, R497). -/

namespace Sys2Proof.Machine

section
variable (d : Dev)

/-- The host engine tells the result of an operation, with its interrupt (R497). -/
def Dev.hostTell (x : Nat) : Dev := ({ d with isl := { d.isl with host := { d.isl.host with last := x } } }).raise Reg.ISL_INT_STATUS 5

theorem Dev.hostTell_isl (x : Nat) : (d.hostTell x).isl = { d.isl with host := { d.isl.host with last := x } } := rfl

theorem Dev.hostTell_told (x : Nat) : (d.hostTell x).flag Reg.ISL_INT_STATUS 5 = true := Dev.flag_raise _ _ _ (by decide)

/-- An operation names a group that is not in force, or a curtailment beyond 10,000 (R497). -/
def Dev.hostBad (op : Nat) (v : Word) : Prop := d.cmdRec (bits v 9 0) = none ∨ (op = 2 ∧ 10000 < bits v 31 16)

/-- A write of ISL_HOST_CMD is told by its fields of group, OP and setpoint. -/
theorem Dev.hostCmd_congr {v w : Word} (hgroup : bits w 9 0 = bits v 9 0) (hop : bits w 14 12 = bits v 14 12) (hset : bits w 31 16 = bits v 31 16) :
    d.hostCmd w = d.hostCmd v := by
  rw [Dev.hostCmd, hgroup, hop, hset, ← Dev.hostCmd]

/-- A write of ISL_UNLATCH is told by its group. -/
theorem Dev.islUnlatch_congr {v w : Word} (hgroup : bits w 9 0 = bits v 9 0) : d.islUnlatch w = d.islUnlatch v := by
  rw [Dev.islUnlatch, hgroup, ← Dev.islUnlatch]

theorem Dev.hostCmd_eq (v : Word) : ∃ g h x, d.hostCmd v = { d with regs := g, hw := h, isl := x } := by
  unfold Dev.hostCmd
  dsimp only
  split
  · exact ⟨_, _, _, rfl⟩
  · split
    · exact ⟨_, _, _, rfl⟩
    · exact ⟨_, _, _, rfl⟩

theorem Dev.regAct_hostCmd (i : Iface) (w : Word) : d.regAct i Reg.ISL_HOST_CMD w = d.hostCmd w := by
  rw [regAct_eq]
  rfl

theorem Dev.regAct_islUnlatch (i : Iface) (w : Word) : d.regAct i Reg.ISL_UNLATCH w = d.islUnlatch w := by
  rw [regAct_eq]
  rfl

variable {d} {op : Nat} (v : Word)

theorem Dev.hostCmd_busy (h : d.isl.host.pend ≠ none) : d.hostCmd v = d.hostTell 3 := if_pos (Option.isSome_iff_ne_none.mpr h)

theorem Dev.hostCmd_free (h : d.isl.host.pend = none) : d.hostCmd v =
    if (d.cmdRec (bits v 9 0)).isNone || bits v 14 12 = 0 || 5 < bits v 14 12 || (bits v 14 12 = 2 && 10000 < bits v 31 16) then d.hostTell 2
    else { d with isl := { d.isl with host := { d.isl.host with pend := some (bits v 9 0, bits v 14 12, bits v 31 16, d.tim.clk) } } } :=
  if_neg (by rw [h]; decide)

/-- A defined operation that finds none pending is refused or waits for its boundary (R497). -/
theorem Dev.hostCmd_op (hlo : 1 ≤ op) (hhi : op ≤ 5) (h : d.isl.host.pend = none) :
    (d.hostBad op v → d.hostCmd (setBits v 14 12 op) = d.hostTell 2) ∧
    (¬ d.hostBad op v → d.hostCmd (setBits v 14 12 op) =
      { d with isl := { d.isl with host := { d.isl.host with pend := some (bits v 9 0, op, bits v 31 16, d.tim.clk) } } }) := by
  have hop : bits (setBits v 14 12 op) 14 12 = op := (bits_setBits v 14 12 op (by decide)).trans (Nat.mod_eq_of_lt (by omega))
  have hgroup : bits (setBits v 14 12 op) 9 0 = bits v 9 0 := bits_setBits_ne v 14 12 9 0 op (by decide) (.inl (by decide))
  have hset : bits (setBits v 14 12 op) 31 16 = bits v 31 16 := bits_setBits_ne v 14 12 31 16 op (by decide) (.inr (by decide))
  have hbad : (((d.cmdRec (bits v 9 0)).isNone || decide (op = 0) || decide (5 < op) || (decide (op = 2) && decide (10000 < bits v 31 16))) = true) ↔
      d.hostBad op v := by
    simp [Dev.hostBad, show op ≠ 0 by omega, show ¬ 5 < op by omega]
  rw [Dev.hostCmd_free _ h, hop, hgroup, hset]
  exact ⟨fun hb => if_pos (hbad.mpr hb), fun hb => if_neg (hbad.not.mpr hb)⟩

end

theorem hostCmd_row : regAt Reg.ISL_HOST_CMD = some ⟨0x240300, [], .wo, 0x0, 0xFFFF73FF, 0xFFFF73FF, []⟩ := by decide +kernel

theorem islUnlatch_row : regAt Reg.ISL_UNLATCH = some ⟨0x240308, [], .wo, 0x0, 0x3FF, 0x3FF, []⟩ := by decide +kernel

theorem hostCmd_ends {s : State} {i : Iface} (n : Nat) (w : Word) (h : s.canWrite i Reg.ISL_HOST_CMD) :
    Ends (hostRow s n true i Reg.ISL_HOST_CMD w) { s with dev := (s.dev.tick n).hostCmd w } := by
  obtain ⟨_, _, _, hrest⟩ := (s.dev.tick n).hostCmd_eq w
  refine hostRow_act h hostCmd_row (.inr (.inl rfl)) rfl (by decide) ?_ (by rw [hrest]; rfl)
  rw [Dev.regAct_hostCmd]
  have hkept {hi lo : Nat} := bits_held (s.dev.rd (s.dev.copy Reg.ISL_HOST_CMD)) w (m := 0xFFFF73FF) (hi := hi) (lo := lo)
  exact Dev.hostCmd_congr _ (hkept (by decide)) (hkept (by decide)) (hkept (by decide))

theorem islUnlatch_ends {s : State} {i : Iface} (n : Nat) (v : Word) (h : s.canWrite i Reg.ISL_UNLATCH) :
    Ends (exec (.islUnlatch n i v) s) { s with dev := (s.dev.tick n).islUnlatch v } := by
  rw [exec_islUnlatch]
  refine hostRow_act h islUnlatch_row (.inr (.inl rfl)) rfl (by decide) ?_ rfl
  rw [Dev.regAct_islUnlatch]
  exact Dev.islUnlatch_congr _ (bits_held _ v (m := 0x3FF) (by decide +revert))

/-- An operation of the host on a command group: it waits for its boundary, or is refused and what waits stays (R497). -/
theorem hostOp_endsWith {s : State} {i : Iface} (n : Nat) (v : Word) {op : Nat} (hlo : 1 ≤ op) (hhi : op ≤ 5) (h : s.canWrite i Reg.ISL_HOST_CMD) :
    let x := s.dev.isl.host
    EndsWith (hostRow s n true i Reg.ISL_HOST_CMD (setBits v 14 12 op)) (fun t =>
      (x.pend = none → ¬ s.dev.hostBad op v →
        t.dev.isl = { s.dev.isl with host := { x with pend := some (bits v 9 0, op, bits v 31 16, max s.dev.tim.clk n) } }) ∧
      (x.pend = none → s.dev.hostBad op v → t.dev.isl = { s.dev.isl with host := { x with last := 2 } } ∧ t.dev.flag Reg.ISL_INT_STATUS 5 = true) ∧
      (x.pend ≠ none → t.dev.isl = { s.dev.isl with host := { x with last := 3 } } ∧ t.dev.flag Reg.ISL_INT_STATUS 5 = true) ∧
      t.dev.roost = s.dev.roost ∧ t.dev.units = s.dev.units ∧ t.dev.loc = s.dev.loc ∧ t.ctl = s.ctl) := by
  intro x
  have hwaits (hp : x.pend = none) := Dev.hostCmd_op (d := s.dev.tick n) v hlo hhi hp
  obtain ⟨_, _, _, hrest⟩ := (s.dev.tick n).hostCmd_eq (setBits v 14 12 op)
  refine (hostCmd_ends n (setBits v 14 12 op) h).with fun _ _ _ _ _ => ⟨fun hp hgood => ?waits, fun hp hbad => ?refused, fun hp => ?busy, ?_, ?_, ?_, rfl⟩
  case waits =>
    rw [(hwaits hp).2 hgood, Dev.tick_clk]
    rfl
  case refused =>
    rw [(hwaits hp).1 hbad]
    exact ⟨Dev.hostTell_isl _ _, Dev.hostTell_told _ _⟩
  case busy =>
    rw [Dev.hostCmd_busy (d := s.dev.tick n) _ hp]
    exact ⟨Dev.hostTell_isl _ _, Dev.hostTell_told _ _⟩
  all_goals
    rw [hrest]
    rfl

end Sys2Proof.Machine

/-! Repeats of a command and the end of its acknowledgement (R504, R513, R514). -/

namespace Sys2Proof.Machine

section
variable (d : Dev) (c : Nat)

theorem Dev.cmdGrp_modCmd_same (f : CmdGrp → CmdGrp) : (d.modCmd c f).cmdGrp c = f (d.cmdGrp c) := tget_tset_same _ _ _ _

theorem Dev.cmdGrp_modCmd_ne {k : Nat} (h : k ≠ c) (f : CmdGrp → CmdGrp) : (d.modCmd c f).cmdGrp k = d.cmdGrp k := tget_tset_ne _ _ _ h _

/-- What a record adds to the recorder does not depend on the island engine. -/
theorem Dev.record_evr_modCmd (f : CmdGrp → CmdGrp) (typ : Nat) (b : Bytes) : ((d.modCmd c f).record typ b).evr = (d.record typ b).evr :=
  Dev.recordAt_evr_congr (d := d) (e := d.modCmd c f) rfl rfl rfl typ d.time d.tq b

/-- The body of CMD_ACK (R514). -/
def CmdAck.body (a : CmdAck) (c k o m : Nat) : Bytes := be 2 c ++ be 1 a.typ ++ zeros 1 ++ be 4 a.seq ++ be 4 k ++ be 4 o ++ be 4 m ++ zeros 4

/-- The counts of an acknowledgement written, with the interrupt for members that did not follow (R514). -/
def Dev.ackTell (a : CmdAck) (k o m : Nat) : Dev :=
  let e := (d.record 0x0B02 (a.body c k o m)).modCmd c (fun x => { x with unack := o + m })
  if o + m = 0 then e else e.raise Reg.ISL_INT_STATUS 4

theorem Dev.ackTell_eq (a : CmdAck) (k o m : Nat) :
    ∃ g h e, d.ackTell c a k o m = { d.modCmd c (fun x => { x with unack := o + m }) with regs := g, hw := h, evr := e } := by
  unfold Dev.ackTell
  obtain ⟨_, _, _, h⟩ := d.record_eq 0x0B02 (a.body c k o m)
  rw [h]
  dsimp only
  split
  · exact ⟨_, _, _, rfl⟩
  · exact ⟨_, _, _, rfl⟩

theorem Dev.ackTell_evr (a : CmdAck) (k o m : Nat) : (d.ackTell c a k o m).evr = (d.record 0x0B02 (a.body c k o m)).evr := by
  rw [Dev.ackTell, apply_ite Dev.evr]
  exact ite_self _

theorem Dev.ackTell_told (a : CmdAck) (k : Nat) {o m : Nat} (h : 0 < o + m) : (d.ackTell c a k o m).flag Reg.ISL_INT_STATUS 4 = true := by
  rw [Dev.ackTell, if_neg (by omega)]
  exact Dev.flag_raise _ _ _ (by decide)

/-- A command group of which no acknowledgement is counted any more. -/
def Dev.ackStop : Dev := d.modCmd c (fun x => { x with ack := none })

variable {d} {c} {a : CmdAck}

theorem Dev.ackEnd_counted (h : (d.cmdGrp c).ack = some a) {k o m : Nat} (hc : a.counts = some (k, o, m)) : d.ackEnd c = (d.ackStop c).ackTell c a k o m := by
  rw [Dev.ackEnd, h]
  dsimp only
  rw [hc]
  rfl

/-- Where no slot was counted, the counts are free. -/
theorem Dev.ackEnd_uncounted (h : (d.cmdGrp c).ack = some a) (hc : a.counts = none) :
    ∃ k o m, d.ackEnd c = (d.ackStop c).free.2.ackTell c a k o m := by
  rw [Dev.ackEnd, h]
  dsimp only
  rw [hc]
  exact ⟨_, _, _, rfl⟩

/-- The end of an acknowledgement stops its counting and sets what did not follow, in its group alone. -/
theorem Dev.ackEnd_eq (h : (d.cmdGrp c).ack = some a) : ∃ u f g w e, (∀ k o m, a.counts = some (k, o, m) → u = o + m) ∧
    d.ackEnd c = { (d.ackStop c).modCmd c (fun x => { x with unack := u }) with freeCtr := f, regs := g, hw := w, evr := e } := by
  cases hc : a.counts with
  | some q =>
    obtain ⟨k, o, m⟩ := q
    obtain ⟨g, w, e, htell⟩ := (d.ackStop c).ackTell_eq c a k o m
    refine ⟨o + m, d.freeCtr, g, w, e, fun _ _ _ hq => ?_, ?_⟩
    · cases hq
      rfl
    · rw [Dev.ackEnd_counted h hc, htell]
      rfl
  | none =>
    obtain ⟨k, o, m, hend⟩ := Dev.ackEnd_uncounted h hc
    obtain ⟨g, w, e, htell⟩ := (d.ackStop c).free.2.ackTell_eq c a k o m
    refine ⟨o + m, d.freeCtr + 1, g, w, e, fun _ _ _ hq => (nomatch hq), ?_⟩
    rw [hend, htell]
    rfl

/-- The command groups after the end of an acknowledgement, and what it leaves. -/
theorem Dev.ackEnd_leaves (h : (d.cmdGrp c).ack = some a) :
    (∃ u, (∀ k o m, a.counts = some (k, o, m) → u = o + m) ∧ (d.ackEnd c).cmdGrp c = { d.cmdGrp c with ack := none, unack := u }) ∧
    (∀ k, k ≠ c → (d.ackEnd c).cmdGrp k = d.cmdGrp k) ∧ (d.ackEnd c).loc = d.loc ∧ (d.ackEnd c).units = d.units := by
  obtain ⟨u, _, _, _, _, hu, hend⟩ := Dev.ackEnd_eq h
  have hgroup (k : Nat) : (d.ackEnd c).cmdGrp k = ((d.ackStop c).modCmd c (fun x => { x with unack := u })).cmdGrp k := by
    rw [hend]
    rfl
  refine ⟨⟨u, hu, ?_⟩, fun k hk => ?_, ?_, ?_⟩
  · rw [hgroup, Dev.cmdGrp_modCmd_same, Dev.ackStop, Dev.cmdGrp_modCmd_same]
  · rw [hgroup, Dev.cmdGrp_modCmd_ne _ _ hk, Dev.ackStop, Dev.cmdGrp_modCmd_ne _ _ hk]
  · rw [hend]
    rfl
  · rw [hend]
    rfl

theorem Dev.ackTimer_idle (h : (d.cmdGrp c).ack = none) : d.ackTimer c = d := by rw [Dev.ackTimer, h]

theorem Dev.ackTimer_early (h : (d.cmdGrp c).ack = some a) (ht : d.tim.clk < a.until') : d.ackTimer c = d := by
  rw [Dev.ackTimer, h]
  exact if_neg (Nat.not_le.mpr ht)

theorem Dev.ackTimer_due (h : (d.cmdGrp c).ack = some a) (ht : a.until' ≤ d.tim.clk) : d.ackTimer c = d.ackEnd c := by
  rw [Dev.ackTimer, h]
  exact if_pos ht

/-- The repeat of a command group that is due (R504). -/
def Dev.repDue (d : Dev) (c : Nat) : Option CmdRep := (d.cmdGrp c).reps.find? (fun r => decide (r.next ≤ d.tim.clk))

variable {r : CmdRep}

theorem Dev.cmdRepeat_idle (h : d.repDue c = none) : d.cmdRepeat c = d := by
  unfold Dev.repDue at h
  rw [Dev.cmdRepeat, h]

/-- A repeat is dropped where the unit does not speak, or under another claim. -/
theorem Dev.cmdRepeat_dropped (h : d.repDue c = some r) (hd : d.speaks = false ∨ r.claim ≠ d.units.claim) :
    d.cmdRepeat c = d.modCmd c (fun y => { y with reps := (d.cmdGrp c).reps.erase r }) := by
  unfold Dev.repDue at h
  have hsends : ¬ (d.speaks && decide (r.claim = d.units.claim)) = true := by
    simp only [Bool.and_eq_true, decide_eq_true_eq, not_and_or, Bool.not_eq_true]
    exact hd
  rw [Dev.cmdRepeat, h]
  exact if_neg hsends

/-- The repeats of a command group once one of them is sent (R504). -/
def Dev.repsAfter (d : Dev) (c : Nat) (r : CmdRep) : List CmdRep :=
  let rest := (d.cmdGrp c).reps.erase r
  if r.left ≤ 1 then rest else rest ++ [{ r with left := r.left - 1, next := r.next + ticksMs (beAt ((d.recOf 0x0B04 c).getD []) 4 2) }]

theorem Dev.cmdRepeat_sent (h : d.repDue c = some r) (hs : d.speaks = true) (hc : r.claim = d.units.claim) :
    d.cmdRepeat c = (r.acts.foldl (fun (d : Dev) a => d.act a) d).modCmd c (fun y => { y with reps := d.repsAfter c r }) := by
  unfold Dev.repDue at h
  rw [Dev.cmdRepeat, h]
  exact if_pos (by rw [hs, decide_eq_true hc]; rfl)

end

theorem commandRepeat_ends (s : State) (n : Nat) {c : Nat} (hc : c < 1024) :
    Ends (exec (.commandRepeat n c) s) { s with dev := (s.dev.tick n).cmdRepeat c } := by
  rw [exec_commandRepeat, decide_eq_true hc]
  exact devRow_ends s n (fun (d : Dev) => d.cmdRepeat c)

theorem cmdAckEnd_ends (s : State) (n : Nat) {c : Nat} (hc : c < 1024) :
    Ends (exec (.cmdAckEnd n c) s) { s with dev := (s.dev.tick n).ackTimer c } := by
  rw [exec_cmdAckEnd, decide_eq_true hc]
  exact devRow_ends s n (fun (d : Dev) => d.ackTimer c)

/-- Settles O48: an operation of the host waits or is refused (`hostOp_endsWith`), an unlatch waits, a repeat is sent or dropped
(`Dev.cmdRepeat_sent`, `Dev.cmdRepeat_dropped`), and the end of an acknowledgement writes its counts (`Dev.ackEnd_leaves`, `Dev.ackTell_evr`). -/
theorem scaleCommands : Obligations.ScaleCommands := by
  unfold Obligations.ScaleCommands
  refine ⟨fun s n i v h p hp => ?hostOp, fun s n i v h => ?unlatch, fun s n c hc => ?group⟩
  case hostOp =>
    simp only [exec_hostCmdTrip, exec_hostCmdCurtail, exec_hostCmdHold, exec_hostCmdClear, exec_hostCmdRelease, List.mem_cons, List.not_mem_nil,
      or_false] at hp
    rcases hp with rfl | rfl | rfl | rfl | rfl
    all_goals exact hostOp_endsWith n v (by decide) (by decide) h
  case unlatch =>
    refine (islUnlatch_ends n v h).with fun _ _ _ _ _ => ⟨?_, rfl, rfl, rfl⟩
    rw [← Dev.tick_clk]
    rfl
  case group =>
    intro e x due
    have hrepeat := commandRepeat_ends s n hc
    have hack := cmdAckEnd_ends s n hc
    refine ⟨fun hnone => ?idle, fun r hr => ⟨fun hdrop => ?dropped, fun hspeaks hclaim => ?sent⟩, fun hnone => ?uncounted,
      fun a ha => ⟨fun hearly => ?early, fun hdue => ?ended⟩⟩
    case idle => rwa [Dev.cmdRepeat_idle (d := e) hnone] at hrepeat
    case dropped => rwa [Dev.cmdRepeat_dropped (d := e) hr hdrop] at hrepeat
    case sent => rwa [Dev.cmdRepeat_sent (d := e) hr hspeaks hclaim] at hrepeat
    case uncounted => rwa [Dev.ackTimer_idle (d := e) hnone] at hack
    case early => rwa [Dev.ackTimer_early (d := e) ha hearly] at hack
    case ended =>
      rw [Dev.ackTimer_due (d := e) ha hdue] at hack
      obtain ⟨⟨u, hu, hgroup⟩, hothers, hloc, hunits⟩ := Dev.ackEnd_leaves (d := e) ha
      refine hack.with fun _ _ _ _ _ => ⟨(congrArg CmdGrp.ack hgroup :), (congrArg CmdGrp.seq hgroup :), (congrArg CmdGrp.reps hgroup :),
        fun k o m hcounts => ⟨(congrArg CmdGrp.unack hgroup :).trans (hu k o m hcounts), fun hmiss => ?_, ?_⟩, hothers, hloc, hunits, rfl⟩
      · rw [Dev.ackEnd_counted (d := e) ha hcounts]
        exact Dev.ackTell_told _ _ _ _ hmiss
      · rw [Dev.ackEnd_counted (d := e) ha hcounts]
        exact (Dev.ackTell_evr _ _ _ _ _ _).trans (Dev.record_evr_modCmd _ _ _ _ _)

end Sys2Proof.Machine

/-! What every command keeps: the queue, and GLB_CTL but for a register write or a reset (O1 to O6). -/

namespace Sys2Proof.Machine

/-! A property of the queue and of GLB_CTL that register writes and resets keep, every command keeps. -/

section
variable {P : State → Prop} (hsame : ∀ s t : State, t.pending = s.pending → t.ctl = s.ctl → P s → P t)
  (hwrite : ∀ (s : State) (i : Iface) (en a : Nat) (v : Word), P s → P (s.write i en a v).2)

include hsame in
theorem read_carries (s : State) (i : Iface) (en a : Nat) (h : P s) : P (s.read i en a).2.2 :=
  hsame s _ (read_keeps s i en a).1 (read_keeps s i en a).2 h

include hsame hwrite in
/-- A frame of the SPI port makes one register access at most (R827, R830). -/
theorem spiFrame_carries (s : State) (b : Bytes) (late : Bool) (h : P s) : P (s.spiFrame b late) := by
  have dev (t : State) (d : Dev) (ht : P t) : P { t with dev := d } := hsame t _ rfl rfl ht
  unfold State.spiFrame
  split
  · exact h
  split
  · unfold State.spiWrite
    split
    · exact dev _ _ h
    · exact dev _ _ (hwrite _ _ _ _ _ h)
  split
  · unfold State.spiRead
    dsimp only
    split
    · exact dev _ _ h
    split
    · exact dev _ _ h
    · exact dev _ _ (read_carries hsame _ _ _ _ h)
  split <;> exact dev _ _ h

include hsame in
theorem doneS_carries (s : State) {t : State} (h : P t) : EndsWith (doneS s t) P := ⟨_, rfl, hsame t _ rfl rfl h⟩

include hsame hwrite in
theorem exec_carries (hreset : ∀ s t : State, t.pending = s.pending → t.ctl = 0 → P s → P t) (c : Instr) (s : State) (h : P s) :
    EndsWith (exec c s) P := by
  have hat (n : Nat) : P (s.at n) := hsame s _ rfl rfl h
  have hdone {t : State} (ht : P t) : EndsWith (doneS s t) P := doneS_carries hsame s ht
  rcases exec_kind c s with ⟨n, ok, f, e⟩ | ⟨n, ok, f, e⟩ | ⟨n, ok, f, e⟩ | ⟨n, ok, i, a, v, -, e⟩ | ⟨n, ok, i, a, e⟩ | hraw
  · rw [e]
    exact ⟨_, rfl, hsame s _ rfl rfl h⟩
  · rw [e]
    exact ⟨_, rfl, hsame s _ rfl rfl h⟩
  · refine ⟨_, e, ?_⟩
    by_cases hc : (if ok then f (s.dev.tick n) else s.dev.tick n).resetCtr = s.dev.resetCtr
    · exact hsame s _ rfl (if_pos hc) h
    · exact hreset s _ rfl (if_neg hc) h
  · rw [e, hostRow]
    refine hdone ?_
    split
    · exact hwrite _ _ _ _ _ (hat n)
    · exact hat n
  · rw [e, readRow]
    refine hdone ?_
    split
    · exact read_carries hsame _ _ _ _ (hat n)
    · exact hat n
  · cases c
    case registerWrite n i en a v =>
      rw [exec_registerWrite]
      split
      · exact hdone (hwrite _ _ _ _ _ (hat n))
      · exact hdone (hat n)
    case rcRead n i en a =>
      rw [exec_rcRead]
      split
      · exact hdone (read_carries hsame _ _ _ _ (hat n))
      · exact hdone (hat n)
    case latchedRead n i en a =>
      rw [exec_latchedRead]
      split
      · exact hdone (read_carries hsame _ _ _ _ (hat n))
      · exact hdone (hat n)
    case glbCtlWrite n i v => exact hdone (hwrite _ _ _ _ _ (hat n))
    case spiWriteFrame n b => exact hdone (spiFrame_carries hsame hwrite _ _ _ (hat n))
    case spiReadFrame n b late => exact hdone (spiFrame_carries hsame hwrite _ _ _ (hat n))
    case pcieLoop n i v k => exact hdone (hsame ((s.at n).write i 15 Reg.TST_PCIE_LB v).2 _ rfl rfl (hwrite _ _ _ _ _ (hat n)))
    all_goals exact absurd hraw Bool.false_ne_true

end

theorem exec_pending (c : Instr) (s : State) : EndsWith (exec c s) (fun t => t.pending = s.pending) :=
  exec_carries (P := fun t => t.pending = s.pending) (fun _ _ hq _ h => hq.trans h) (fun _ _ _ _ _ h => (write_pending _ _ _ _ _).trans h)
    (fun _ _ hq _ h => hq.trans h) c s rfl

theorem exec_locks (c : Instr) (s : State) (h : s.locksOk) : EndsWith (exec c s) State.locksOk :=
  exec_carries (fun _ t _ hctl h => by rwa [State.locksOk, hctl]) (fun _ _ _ _ _ h => write_locks _ _ _ _ _ h) (fun _ t _ hctl _ => by rw [State.locksOk, hctl]; decide) c s h

theorem step_nil {s : State} (h : s.pending = []) : step s = .next s := by rw [step, h]

theorem step_cons {s : State} {c : Instr} {rest : List Instr} (h : s.pending = c :: rest) : step s = exec c { s with pending := rest } := by
  rw [step, h]

/-- A step keeps what every command keeps and a shorter queue does not end. -/
theorem step_next (s : State) : ∃ t, step s = .next t := by
  cases h : s.pending with
  | nil => exact ⟨s, step_nil h⟩
  | cons c rest =>
    obtain ⟨t, ht, -⟩ := exec_pending c { s with pending := rest }
    exact ⟨t, (step_cons h).trans ht⟩

theorem run_succ_next {M : Host.Core} (k : Nat) {s t : M.State} (h : M.step s = .next t) : M.run (k + 1) s = M.run k t := by
  rw [Host.Core.run, h]

theorem runsSafely (s : State) : s.runsSafely := by
  intro k
  induction k generalizing s with
  | zero => exact ⟨s, rfl⟩
  | succ k ih =>
    obtain ⟨t, ht⟩ := step_next s
    obtain ⟨u, hu⟩ := ih t
    exact ⟨u, (run_succ_next (M := Sys2Proof.core) k ht).trans hu⟩

/-- Settles O1: the two arms of `step`. -/
theorem stepTakesTheFront : Obligations.StepTakesTheFront := ⟨fun _ _ _ h => step_cons h, fun _ h => step_nil h⟩

/-- Settles O2: each kind of row answers a next state with the queue as it was (`exec_carries`), and a run is steps that each do. -/
theorem everyCommandAnswersANextState : Obligations.EveryCommandAnswersANextState := ⟨exec_pending, runsSafely⟩

/-- Settles O3: a register write keeps the locks exclusive (`write_locks`), a reset clears them, and no other command touches them (`exec_carries`). -/
theorem locksAreNeverBothSet : Obligations.LocksAreNeverBothSet := by
  intro s t h hstep
  cases hq : s.pending with
  | nil =>
    rw [step_nil hq] at hstep
    cases hstep
    exact h
  | cons c rest =>
    obtain ⟨u, hu, hlocks⟩ := exec_locks c { s with pending := rest } h
    rw [step_cons hq, hu] at hstep
    cases hstep
    exact hlocks

/-- Settles O4: the state after reset, evaluated. -/
theorem locksAtReset : Obligations.LocksAtReset := by
  unfold Obligations.LocksAtReset
  exact ⟨by decide, rfl, rfl, by decide +kernel⟩

/-! Commands other than a register write. -/

/-- GLB_CTL is as it was, or the module has been reset and it is 0 (R839, R868). -/
def CtlKept (s t : State) : Prop := t.ctl = s.ctl ∨ (t.ctl = 0 ∧ t.dev.resetCtr ≠ s.dev.resetCtr)

theorem CtlKept.same {s t : State} (h : t.ctl = s.ctl) : CtlKept s t := .inl h

/-- A write to any register but GLB_CTL sets no lock. -/
theorem write_ctlKept (s : State) (i : Iface) (en : Nat) {a : Nat} (v : Word) (ha : a ≠ Reg.GLB_CTL) : CtlKept s (s.write i en a v).2 := by
  rcases write_cases s i en a v with h | h | ⟨k, -, -, h⟩ | ⟨h, -⟩ | ⟨r, -, -, h⟩
  · exact .same (by simp only [h])
  · exact .same (by simp only [h])
  · exact .same (by simp only [h])
  · exact absurd h ha
  · rw [congrArg Prod.snd h]
    exact rowPut_ctl s r i en a v

theorem CtlKept.modDev {s t : State} {d : Dev} (h : CtlKept s t) (hd : d.resetCtr = t.dev.resetCtr) : CtlKept s { t with dev := d } := by
  rwa [CtlKept, hd]

theorem CtlKept.doneS {s t : State} (n : Nat) (h : CtlKept (s.at n) t) : EndsWith (doneS s t) (CtlKept s) := by
  obtain ⟨r, u, p, m, x, e⟩ := doneS_eq s t
  exact ⟨_, e, h⟩

theorem CtlKept.done (s : State) (d : Dev) : EndsWith (done s d) (CtlKept s) := ⟨_, rfl, .inl rfl⟩

theorem hostRow_ctlKept (s : State) (n : Nat) (ok : Bool) (i : Iface) {a : Nat} (v : Word) (ha : a ≠ Reg.GLB_CTL) :
    EndsWith (hostRow s n ok i a v) (CtlKept s) := by
  refine CtlKept.doneS n ?_
  split
  · exact write_ctlKept _ _ _ _ ha
  · exact .inl rfl

theorem read_ctlKept (s : State) (n : Nat) (i : Iface) (en a : Nat) : EndsWith (doneS s ((s.at n).read i en a).2.2) (CtlKept s) :=
  CtlKept.doneS n (.inl (read_keeps _ _ _ _).2)

theorem resetRow_ctlKept (s : State) (n : Nat) (ok : Bool) (f : Dev → Dev) : EndsWith (resetRow s n ok f) (CtlKept s) := by
  obtain ⟨r, u, p, m, x, e⟩ := doneReset_eq s (if ok then f (s.dev.tick n) else s.dev.tick n)
  refine ⟨_, e, ?_⟩
  by_cases hc : (if ok then f (s.dev.tick n) else s.dev.tick n).resetCtr = s.dev.resetCtr
  · exact .inl (if_pos hc)
  · exact .inr ⟨if_neg hc, hc⟩

@[simp] theorem Dev.pcieErrors_resetCtr (d : Dev) (n : Nat) : (d.pcieErrors n).resetCtr = d.resetCtr := by
  unfold Dev.pcieErrors
  split
  · rfl
  · obtain ⟨_, _, h⟩ := d.inc_eq Reg.TST_PCIE_ERR_CNT n
    rw [h]

/-- Settles O5: of the kinds of rows (`exec_kind`) only a write to GLB_CTL sets a lock. -/
theorem onlyWritesChangeTheLocks : Obligations.OnlyWritesChangeTheLocks := by
  intro c s t hexec hwrite hctl hspiW hspiR
  suffices h : EndsWith (exec c s) (CtlKept s) by
    obtain ⟨u, hu, hkept⟩ := h
    rw [hexec] at hu
    cases hu
    exact hkept
  rcases exec_kind c s with ⟨n, ok, f, e⟩ | ⟨n, ok, f, e⟩ | ⟨n, ok, f, e⟩ | ⟨n, ok, i, a, v, ha, e⟩ | ⟨n, ok, i, a, e⟩ | hraw
  · rw [e]
    exact CtlKept.done _ _
  · rw [e]
    exact CtlKept.done _ _
  · rw [e]
    exact resetRow_ctlKept _ _ _ _
  · rw [e]
    exact hostRow_ctlKept _ _ _ _ _ ha
  · rw [e, readRow]
    split
    · exact read_ctlKept _ _ _ _ _
    · exact CtlKept.doneS n (.inl rfl)
  · cases c
    case registerWrite n i en a v => exact absurd rfl (hwrite n i en a v)
    case glbCtlWrite n i v => exact absurd rfl (hctl n i v)
    case spiWriteFrame n b => exact absurd rfl (hspiW n b)
    case spiReadFrame n b late => exact absurd rfl (hspiR n b late)
    case rcRead n i en a =>
      rw [exec_rcRead]
      split
      · exact read_ctlKept _ _ _ _ _
      · exact CtlKept.doneS n (.inl rfl)
    case latchedRead n i en a =>
      rw [exec_latchedRead]
      split
      · exact read_ctlKept _ _ _ _ _
      · exact CtlKept.doneS n (.inl rfl)
    case pcieLoop n i v k =>
      rw [exec_pcieLoop]
      have h := write_ctlKept (s.at n) i 15 (a := Reg.TST_PCIE_LB) v (by decide)
      exact CtlKept.doneS n (h.modDev (Dev.pcieErrors_resetCtr _ k))
    all_goals exact absurd hraw Bool.false_ne_true

end Sys2Proof.Machine

/-! GLB_CTL, access errors, GLB_RESET_CTL, a field whose code is not defined, and the frames of the SPI port (O6, O7, O10, O11, O13). -/

namespace Sys2Proof.Machine

/-! GLB_CTL (R870). -/

theorem writeRefused_glbCtl (d : Dev) (ctl : Word) (i : Iface) : d.writeRefused ctl i 15 Reg.GLB_CTL = 0 := by
  have hview : d.viewRo Reg.GLB_CTL = false := rfl
  have hreg : (regAt Reg.GLB_CTL).isNone = false := by decide +kernel
  have hlow : ¬ 0x10000 ≤ Reg.GLB_CTL := by decide
  have hword : (Reg.GLB_CTL % 4 != 0) = false := by decide
  simp only [Dev.writeRefused, hview, hreg, hlow, hword, bne_self_eq_false, Bool.false_and, Bool.or_false, Bool.false_eq_true, decide_false, if_false]

theorem write_glbCtl (s : State) (i : Iface) (v : Word) (hb : s.dev.boot ≠ 0) : s.write i 15 Reg.GLB_CTL v = s.ctlWrite i 15 Reg.GLB_CTL v := by
  have hm : isMsix i Reg.GLB_CTL = false := by cases i <;> rfl
  simp only [State.write, hb, hm, writeRefused_glbCtl, ne_eq, not_true_eq_false, Bool.false_eq_true, if_false, if_true]

theorem glbCtlWrite_eq (s : State) (n : Nat) (i : Iface) (v : Word) (hb : s.dev.boot ≠ 0) :
    exec (.glbCtlWrite n i v) s = doneS s ((s.at n).ctlWrite i 15 Reg.GLB_CTL v).2 := by
  rw [exec_glbCtlWrite, hostRow, if_pos rfl, write_glbCtl (s.at n) i v hb]

theorem rowGet_cause (s : State) (r : RegRow) (i : Iface) (a : Nat) : (s.rowGet r i a).1 = 0 := by
  rw [State.rowGet]
  split <;> rfl

/-- The cause with which a read is an access error does not depend on GLB_CTL. -/
theorem read_cause (s : State) (i : Iface) (en a : Nat) :
    (s.read i en a).1 = if s.dev.boot = 0 then 0 else if isMsix i a then 0 else readRefused en a := by
  unfold State.read
  dsimp only
  split
  · rfl
  split
  · rfl
  split
  · rfl
  · next hcause =>
    rw [not_not.mp hcause]
    cases regAt a with
    | none => rfl
    | some r => exact rowGet_cause s r i a

/-- Settles O6: nothing refuses a write of GLB_CTL as a whole (`writeRefused_glbCtl`), and the cause of a read does not ask for it (`read_cause`). -/
theorem glbCtlWrite : Obligations.GlbCtlWrite := by
  refine ⟨fun s n i v hb => ?_, fun s w i en a => by rw [read_cause, read_cause]⟩
  rw [glbCtlWrite_eq s n i v hb, State.ctlWrite]
  refine ⟨fun h => ?_, fun h => ?_⟩
  · rw [if_neg h]
    exact Ends.of_doneS s _
  · rw [if_pos h]
    exact Ends.of_doneS s _

/-! Access errors (R862). -/

section
variable (d : Dev)

theorem Dev.rd_incS_same (a n : Nat) : (d.incS a n).rd a = w32 (min (d.rdN a + n) 0xFFFFFFFF) := by
  rw [Dev.incS, Dev.wrSat, Dev.rd_wr_same]

/-- An access error raised and counted, before it is captured. -/
def Dev.accCounted : Dev := (d.raise Reg.GLB_INT_STATUS 1).incS Reg.GLB_ACC_ERR_CNT 1

theorem Dev.accCounted_rd {a : Nat} (hi : a ≠ Reg.GLB_INT_STATUS) (hc : a ≠ Reg.GLB_ACC_ERR_CNT) : d.accCounted.rd a = d.rd a := by
  rw [Dev.accCounted, Dev.incS_rd_ne _ _ hc, Dev.rd_raise_ne _ _ hi]

theorem Dev.accCounted_raised : d.accCounted.flag Reg.GLB_INT_STATUS 1 = true := by
  rw [Dev.accCounted, Dev.flag_congr (Dev.incS_rd_ne _ _ (by decide)), Dev.flag_raise _ _ _ (by decide)]

theorem Dev.accCounted_count : d.accCounted.rdN Reg.GLB_ACC_ERR_CNT = min (d.rdN Reg.GLB_ACC_ERR_CNT + 1) 0xFFFFFFFF := by
  rw [Dev.rdN, Dev.accCounted, Dev.rd_incS_same, Dev.rdN, Dev.rd_raise_ne _ _ (by decide), w32_toNat, ← Dev.rdN]
  omega

variable (cause : Nat) (w : Bool) (i : Iface) (en a : Nat) (v : Word)

theorem Dev.accErr_overflow (h : d.flag Reg.GLB_ACC_ERR_INFO 7 = true) :
    d.accErr cause w i en a v = d.accCounted.putB Reg.GLB_ACC_ERR_INFO 6 true := by
  have hc : d.accCounted.flag Reg.GLB_ACC_ERR_INFO 7 = true := by rw [Dev.flag_congr (d.accCounted_rd (by decide) (by decide)), h]
  exact if_pos hc

theorem Dev.accErr_captured (h : d.flag Reg.GLB_ACC_ERR_INFO 7 = false) : d.accErr cause w i en a v =
    ((d.accCounted.wrN Reg.GLB_ACC_ERR_INFO (cause + b2n w * 16 + (if i = .spi then 32 else 0) + 128 + en % 16 * 256)).wrN Reg.GLB_ACC_ERR_ADDR
      (a % 2 ^ 24)).wr Reg.GLB_ACC_ERR_DATA (if w then v else 0) := by
  have hc : d.accCounted.flag Reg.GLB_ACC_ERR_INFO 7 = false := by rw [Dev.flag_congr (d.accCounted_rd (by decide) (by decide)), h]
  exact if_neg (ne_true_of_eq_false hc)

/-- What an access error leaves of the registers: its interrupt and its count, whatever else it records. -/
theorem Dev.accErr_rd_counted {b : Nat} (hinfo : b ≠ Reg.GLB_ACC_ERR_INFO) (haddr : b ≠ Reg.GLB_ACC_ERR_ADDR) (hdata : b ≠ Reg.GLB_ACC_ERR_DATA) :
    (d.accErr cause w i en a v).rd b = d.accCounted.rd b := by
  cases h : d.flag Reg.GLB_ACC_ERR_INFO 7 with
  | true => rw [d.accErr_overflow _ _ _ _ _ _ h, Dev.putB, Dev.rd_putF_ne _ hinfo]
  | false => rw [d.accErr_captured _ _ _ _ _ _ h, Dev.rd_wr_ne _ hdata, Dev.rd_wrN_ne _ haddr, Dev.rd_wrN_ne _ hinfo]

theorem Dev.accErr_raised : (d.accErr cause w i en a v).flag Reg.GLB_INT_STATUS 1 = true := by
  rw [Dev.flag_congr (d.accErr_rd_counted _ _ _ _ _ _ (by decide) (by decide) (by decide)), d.accCounted_raised]

theorem Dev.accErr_count : (d.accErr cause w i en a v).rdN Reg.GLB_ACC_ERR_CNT = min (d.rdN Reg.GLB_ACC_ERR_CNT + 1) 0xFFFFFFFF := by
  rw [Dev.rdN, d.accErr_rd_counted _ _ _ _ _ _ (by decide) (by decide) (by decide), ← Dev.rdN, d.accCounted_count]

theorem Dev.accErr_info (hcause : cause < 16) (h : d.flag Reg.GLB_ACC_ERR_INFO 7 = false) : (d.accErr cause w i en a v).rdN Reg.GLB_ACC_ERR_INFO =
    cause + b2n w * 16 + (if i = .spi then 32 else 0) + 128 + en % 16 * 256 := by
  have hw := b2n_lt_two w
  rw [d.accErr_captured _ _ _ _ _ _ h, Dev.rdN, Dev.rd_wr_ne _ (by decide), Dev.rd_wrN_ne _ (by decide), Dev.wrN, Dev.rd_wr_same, w32_toNat]
  split <;> omega

theorem Dev.accErr_cause (hcause : cause < 16) (h : d.flag Reg.GLB_ACC_ERR_INFO 7 = false) :
    (d.accErr cause w i en a v).fld Reg.GLB_ACC_ERR_INFO 3 0 = cause := by
  have hinfo := d.accErr_info cause w i en a v hcause h
  rw [Dev.fld, bits, Nat.shiftRight_zero, ← Dev.rdN, hinfo]
  split <;> omega

theorem Dev.accErr_addr (h : d.flag Reg.GLB_ACC_ERR_INFO 7 = false) : (d.accErr cause w i en a v).rdN Reg.GLB_ACC_ERR_ADDR = a % 2 ^ 24 := by
  rw [d.accErr_captured _ _ _ _ _ _ h, Dev.rdN, Dev.rd_wr_ne _ (by decide), Dev.wrN, Dev.rd_wr_same, w32_toNat]
  omega

theorem Dev.accErr_data (h : d.flag Reg.GLB_ACC_ERR_INFO 7 = false) : (d.accErr cause w i en a v).rd Reg.GLB_ACC_ERR_DATA = if w then v else 0 := by
  rw [d.accErr_captured _ _ _ _ _ _ h, Dev.rd_wr_same]

end

/-- VALID and OVERFLOW cleared (R862). -/
def Dev.accErrCleared (d : Dev) : Dev := (d.putB Reg.GLB_ACC_ERR_INFO 7 false).putB Reg.GLB_ACC_ERR_INFO 6 false

theorem Dev.accErrCleared_rd (d : Dev) {a : Nat} (h : a ≠ Reg.GLB_ACC_ERR_INFO) : d.accErrCleared.rd a = d.rd a := by
  rw [Dev.accErrCleared, Dev.putB, Dev.rd_putF_ne _ h, Dev.putB, Dev.rd_putF_ne _ h]

theorem Dev.regAct_accErrClr (d : Dev) (i : Iface) (w : Word) : d.regAct i Reg.GLB_ACC_ERR_CLR w = if bit w 0 then d.accErrCleared else d := by
  rw [regAct_eq]
  rfl

theorem accErrClr_ends {s : State} {i : Iface} (n : Nat) (v : Word) (h : s.canWrite i Reg.GLB_ACC_ERR_CLR) :
    Ends (exec (.accErrClr n i v) s) { s with dev := if bit v 0 then (s.dev.tick n).accErrCleared else s.dev.tick n } := by
  rw [exec_accErrClr]
  exact hostRow_trigger (r := ⟨0x30, [], .wo, 0, 1, 1, []⟩) h (by decide +kernel) (.inr (.inl rfl)) ⟨rfl, rfl, rfl⟩ (by decide)
    (Dev.regAct_accErrClr _ i) rfl

/-- Settles O7: an access error is one that is captured or one that finds VALID set (`accErr_captured`, `accErr_overflow`). -/
theorem accessErrorCapture : Obligations.AccessErrorCapture := by
  refine ⟨fun d cause w i en a v hcause => ?_, fun s n i v hcan hv => ?_⟩
  · refine ⟨d.accErr_raised _ _ _ _ _ _, d.accErr_count _ _ _ _ _ _,
      fun h => ⟨d.accErr_info _ _ _ _ _ _ hcause h, d.accErr_addr _ _ _ _ _ _ h, d.accErr_data _ _ _ _ _ _ h⟩, fun h => ?_,
      fun b hb => d.rd_accErr_ne _ _ _ _ _ _ hb⟩
    rw [d.accErr_overflow _ _ _ _ _ _ h]
    refine ⟨?_, ?_, ?_⟩
    · rw [Dev.putB, Dev.rd_putF_same, d.accCounted_rd (by decide) (by decide)]
      rfl
    · rw [Dev.putB, Dev.rd_putF_ne _ (by decide), d.accCounted_rd (by decide) (by decide)]
    · rw [Dev.putB, Dev.rd_putF_ne _ (by decide), d.accCounted_rd (by decide) (by decide)]
  · have hends := accErrClr_ends n v hcan
    rw [if_pos hv] at hends
    refine hends.with fun r u p m x => ⟨?_, ?_, fun k h6 h7 => ?_, fun b hb => Dev.accErrCleared_rd _ hb, rfl, rfl, rfl⟩
    · rw [Dev.flag, Dev.ended_rd, ← Dev.flag, Dev.accErrCleared, Dev.flag_putB_ne _ _ _ _ _ _ (by decide) (by decide), Dev.flag_putB_same _ _ _ _ (by decide)]
    · exact Dev.flag_putB_same _ _ _ _ (by decide)
    · rw [Dev.flag, Dev.ended_rd, ← Dev.flag, Dev.accErrCleared, Dev.flag_putB_ne _ _ _ _ _ _ (by decide) (.inr h6),
        Dev.flag_putB_ne _ _ _ _ _ _ (by decide) (.inr h7)]
      rfl

/-! GLB_RESET_CTL (R840). -/

theorem resetCtl_row : regAt Reg.GLB_RESET_CTL = some ⟨0x2008, [], .wo, 0x0, 0xFFFF0001, 0xFFFF0001, []⟩ := by decide +kernel

/-- A write that lacks the key, or RESET 1. -/
theorem rowWrite_badKey (d : Dev) (r : RegRow) (i : Iface) {v : Word} (hacc : r.acc = .wo) (h : ¬ (bits v 31 16 = 0xA5C3 ∧ bit v 0 = true)) :
    d.rowWrite r i Reg.GLB_RESET_CTL v = (9, d) := by
  have hkey : (bits v 31 16 == 0xA5C3 && bit v 0) = false := by
    rw [Bool.eq_false_iff]
    simpa using h
  simp only [Dev.rowWrite, hacc, hkey, Bool.not_false, Bool.and_true, decide_true, if_true]

/-- A write of the key with RESET 1, whatever its other bits. -/
theorem rowWrite_goodKey (d : Dev) (i : Iface) {v : Word} (hkey : bits v 31 16 = 0xA5C3) (hbit : bit v 0 = true) :
    d.rowWrite ⟨0x2008, [], .wo, 0x0, 0xFFFF0001, 0xFFFF0001, []⟩ i Reg.GLB_RESET_CTL v = (0, d.moduleReset 2) := by
  have hgen (w : Word) : d.genLenBad Reg.GLB_RESET_CTL w = false := by
    rw [Dev.genLenBad, List.any_eq_false]
    intro p _
    have hp : Reg.GLB_RESET_CTL ≠ Reg.TST_PORT_GEN p := by unfold Reg.GLB_RESET_CTL Reg.TST_PORT_GEN; omega
    simp [hp]
  have hquota (w : Word) : (List.range 2).any (fun p => Reg.GLB_RESET_CTL == Reg.REC_RP_QUOTA p && d.quotaBad p w) = false := by
    rw [List.any_eq_false]
    intro p _
    have hp : Reg.GLB_RESET_CTL ≠ Reg.REC_RP_QUOTA p := by unfold Reg.GLB_RESET_CTL Reg.REC_RP_QUOTA; omega
    simp [hp]
  have hact (w : Word) : d.regAct i Reg.GLB_RESET_CTL w = d.moduleReset 2 := by
    rw [regAct_eq]
    rfl
  have hint : intVector Reg.GLB_RESET_CTL = none := by decide +kernel
  simp [Dev.rowWrite, RegRow.merge, hgen, hquota, hkey, hbit, hact, Dev.intAgain, hint]

/-- Settles O13: the row of GLB_RESET_CTL with its key (`rowWrite_goodKey`) and without (`rowWrite_badKey`). -/
theorem badResetKey : Obligations.BadResetKey := by
  intro s n i v hcan
  rw [exec_registerWrite_word s n i v (by decide)]
  refine ⟨fun hkey hbit => ?_, fun h => ?_⟩
  · have he := (s.dev.tick n).moduleReset_restarted (cause := 2) (by decide)
    have hctr : ((s.dev.tick n).moduleReset 2).resetCtr ≠ s.dev.resetCtr := by
      rw [he.resets, Dev.tick_resetCtr]
      omega
    have hwrite := write_granted (s := s.at n) v ((at_canWrite s n i _).mpr hcan) (by decide) resetCtl_row
    simp only [State.at_dev, rowWrite_goodKey _ i hkey hbit, if_true, Dev.tick_resetCtr, if_neg hctr] at hwrite
    have hends : Ends (hostRow s n true i Reg.GLB_RESET_CTL v) { s with dev := (s.dev.tick n).moduleReset 2, ctl := 0 } := by
      simp only [hostRow, if_true, hwrite]
      exact Ends.of_doneS s _
    exact hends.with fun _ _ _ _ _ => ⟨he.boot, rfl, he.resets, he.cfg⟩
  · exact hostRow_accErr hcan (by decide) resetCtl_row (rowWrite_badKey _ _ i rfl h) (by decide)

/-! A field whose code is not defined (R861). -/

/-- A granted write that is performed in part: what its row makes, and the access error. -/
theorem hostRow_partly {s : State} {n : Nat} {i : Iface} {a k : Nat} {v : Word} {r : RegRow} {d : Dev} (h : s.canWrite i a) (ha : a ≠ Reg.GLB_CTL)
    (hr : regAt a = some r) (hw : (s.dev.tick n).rowWrite r i a v = (k, d)) (hk : k ≠ 0) (hc : d.resetCtr = s.dev.resetCtr) :
    Ends (hostRow s n true i a v) { s with dev := d.accErr k true i 15 a v } := by
  obtain ⟨g, w, he⟩ := d.accErr_eq k true i 15 a v
  have hc' : (d.accErr k true i 15 a v).resetCtr = s.dev.resetCtr := by rw [he]; exact hc
  have hx := write_granted (s := s.at n) v ((at_canWrite s n i a).mpr h) ha hr
  simp only [State.at_dev, hw, if_neg hk, hc', Dev.tick_resetCtr, if_true, State.at_ctl] at hx
  have e : hostRow s n true i a v = doneS s { s with dev := d.accErr k true i 15 a v } := by
    simp only [hostRow, if_true, hx]
    rfl
  rw [e]
  exact Ends.of_doneS s _

/-- The row of TIM_PPS_OUT_CTL: WIDTH from 1 to 100 (R125). -/
def ppsOutRow : RegRow := ⟨0x20048, [], .rw, 100, 0xFF, 0, [⟨7, 1, [(1, 100)]⟩]⟩

theorem ppsOutCtl_row : regAt Reg.TIM_PPS_OUT_CTL = some ppsOutRow := by decide +kernel

theorem ppsOutRow_merge_good {v : Word} (old : Word) (h1 : 1 ≤ bits v 7 1) (h2 : bits v 7 1 ≤ 100) :
    ppsOutRow.merge old v = ((old &&& ~~~ w32 0xFF) ||| (v &&& w32 0xFF), false) := by
  have hok : FieldRange.ok ⟨7, 1, [(1, 100)]⟩ v = true := by simp [FieldRange.ok, h1, h2]
  simp [RegRow.merge, ppsOutRow, hok]

theorem ppsOutRow_merge_bad {v : Word} (old : Word) (h : bits v 7 1 = 0 ∨ 100 < bits v 7 1) :
    ppsOutRow.merge old v = (setBits ((old &&& ~~~ w32 0xFF) ||| (v &&& w32 0xFF)) 7 1 (bits old 7 1), true) := by
  have hok : FieldRange.ok ⟨7, 1, [(1, 100)]⟩ v = false := by
    simp only [FieldRange.ok, List.any_cons, List.any_nil, Bool.or_false, Bool.and_eq_false_iff, decide_eq_false_iff_not]
    omega
  simp [RegRow.merge, ppsOutRow, hok]

theorem ppsOutCtl_ne : Reg.TIM_PPS_OUT_CTL ≠ Reg.GLB_CTL ∧ Reg.TIM_PPS_OUT_CTL ≠ Reg.GLB_RESET_CTL ∧
    (∀ p < 2, Reg.TIM_PPS_OUT_CTL ≠ Reg.REC_RP_QUOTA p) ∧ ∀ p < 8, Reg.TIM_PPS_OUT_CTL ≠ Reg.TST_PORT_GEN p := by decide

theorem Dev.regAct_ppsOutCtl (d : Dev) (i : Iface) (w : Word) : d.regAct i Reg.TIM_PPS_OUT_CTL w = d.wr Reg.TIM_PPS_OUT_CTL w := by
  rw [regAct_holdsOnly d i (by decide +kernel)]
  rfl

theorem rowWrite_ppsOut_bad (d : Dev) (i : Iface) {v : Word} (h : bits v 7 1 = 0 ∨ 100 < bits v 7 1) : d.rowWrite ppsOutRow i Reg.TIM_PPS_OUT_CTL v =
    (10, d.wr Reg.TIM_PPS_OUT_CTL (setBits ((d.rd Reg.TIM_PPS_OUT_CTL &&& ~~~ w32 0xFF) ||| (v &&& w32 0xFF)) 7 1 (d.fld Reg.TIM_PPS_OUT_CTL 7 1))) := by
  have hacc : ppsOutRow.acc = .rw := rfl
  have hgen (w : Word) : d.genLenBad Reg.TIM_PPS_OUT_CTL w = false := by
    rw [Dev.genLenBad, List.any_eq_false]
    intro p hp
    have hp : Reg.TIM_PPS_OUT_CTL ≠ Reg.TST_PORT_GEN p := ppsOutCtl_ne.2.2.2 p (List.mem_range.mp hp)
    simp [hp]
  have hint : intVector Reg.TIM_PPS_OUT_CTL = none := by decide +kernel
  have hcopy : d.copy Reg.TIM_PPS_OUT_CTL = Reg.TIM_PPS_OUT_CTL := if_neg (by decide)
  simp [Dev.rowWrite, hacc, hcopy, ppsOutRow_merge_bad _ h, hgen, ppsOutCtl_ne.2.1, Dev.regAct_ppsOutCtl, Dev.intAgain, hint, Dev.fld]

/-- Settles O10: the row of TIM_PPS_OUT_CTL merged with the data, WIDTH in its range (`ppsOutRow_merge_good`) and not (`ppsOutRow_merge_bad`). -/
theorem badCodeKeepsTheField : Obligations.BadCodeKeepsTheField := by
  intro s n i v hcan
  rw [exec_registerWrite_word s n i v (by decide)]
  refine ⟨fun h1 h2 => ?_, fun h => ?_⟩
  · have hends := hostRow_act (t := n) hcan ppsOutCtl_row (.inl rfl) (ppsOutRow_merge_good _ h1 h2) ppsOutCtl_ne (Dev.regAct_ppsOutCtl _ i _) rfl
    refine hends.with fun _ _ _ _ _ => ⟨?_, ?_, fun b hb => Dev.rd_wr_ne _ hb _⟩
    · rw [Dev.fld, Dev.ended_rd, Dev.rd_wr_same, bits_held _ _ (by decide +revert)]
    · rw [Dev.flag, Dev.ended_rd, Dev.rd_wr_same, bit_held _ _ _ (by decide)]
      rfl
  · have hends := hostRow_partly (n := n) hcan ppsOutCtl_ne.1 ppsOutCtl_row (rowWrite_ppsOut_bad _ i h) (by decide) rfl
    have hctl (x : Dev) : (x.accErr 10 true i 15 Reg.TIM_PPS_OUT_CTL v).rd Reg.TIM_PPS_OUT_CTL = x.rd Reg.TIM_PPS_OUT_CTL :=
      x.rd_accErr_ne _ _ _ _ _ _ (by decide)
    refine hends.with fun _ _ _ _ _ => ⟨?_, ?_, ?_, fun hvalid => ?_, fun b hb herr => ?_⟩
    · rw [Dev.fld, Dev.ended_rd, hctl, Dev.rd_wr_same, bits_setBits _ _ _ _ (by decide), Nat.mod_eq_of_lt (by exact bits_lt _ _ _)]
      rfl
    · rw [Dev.flag, Dev.ended_rd, hctl, Dev.rd_wr_same, bit_setBits _ _ _ _ _ (by decide), bit_held _ _ _ (by decide)]
      rfl
    · rw [Dev.rdN, Dev.ended_rd, ← Dev.rdN, Dev.accErr_count, Dev.rdN, Dev.rd_wr_ne _ (by decide)]
      rfl
    · rw [Dev.fld, Dev.ended_rd, ← Dev.fld]
      refine Dev.accErr_cause _ _ _ _ _ _ _ (by decide) ?_
      rw [Dev.flag, Dev.rd_wr_ne _ (by decide)]
      exact hvalid
    · rw [Dev.ended_rd, Dev.rd_accErr_ne _ _ _ _ _ _ _ herr, Dev.rd_wr_ne _ hb]
      rfl

/-! Frames of the SPI port (R827 to R830, R917). -/

section
variable {s : State} {b : List Byte} {late : Bool}

theorem spiFrame_write (hb : s.dev.boot ≠ 0) (hlen : b.length = 11) (hop : byteAt b 0 = 2) : s.spiFrame b late = s.spiWrite b := by
  simp [State.spiFrame, hb, hlen, hop]

theorem spiFrame_read (hb : s.dev.boot ≠ 0) (hlen : b.length = 13) (hop : byteAt b 0 = 3) : s.spiFrame b late = s.spiRead b late := by
  simp [State.spiFrame, hb, hlen, hop]

theorem spiFrame_length (hb : s.dev.boot ≠ 0) (h11 : b.length ≠ 11) (h13 : b.length ≠ 13) :
    s.spiFrame b late = { s with dev := s.dev.spiError.spiSend [] } := by
  simp [State.spiFrame, hb, h11, h13]

theorem spiWrite_good (hcrc : byteAt b 8 = crc8 (b.take 8)) : s.spiWrite b =
    let w := s.write .spi 15 (beAt b 1 3) (w32 (beAt b 4 4))
    { w.2 with dev := w.2.dev.spiSend (spiStatus (w.1 == 0 || w.1 == 10) false (w.1 != 0) false) } := by
  simp [State.spiWrite, hcrc]

theorem spiWrite_bad (hcrc : byteAt b 8 ≠ crc8 (b.take 8)) : s.spiWrite b = { s with dev := s.dev.spiError.spiSend [0xA2] } := by
  simp [State.spiWrite, hcrc]
  rfl

theorem spiRead_bad (hcrc : byteAt b 4 ≠ crc8 (b.take 4)) : s.spiRead b late = { s with dev := s.dev.spiError.spiSend [0, 0, 0, 0, 0, 0xA2] } := by
  simp [State.spiRead, hcrc]
  rfl

theorem spiRead_late (hcrc : byteAt b 4 = crc8 (b.take 4)) (hlate : late = true) (hwing : s.dev.fromWing0 (beAt b 1 3) = true)
    (href : readRefused 15 (beAt b 1 3) = 0) : s.spiRead b late = { s with dev := s.dev.spiSend [0, 0, 0, 0, 0, 0xA8] } := by
  simp [State.spiRead, hcrc, hlate, hwing, href]
  rfl

theorem spiRead_good (hcrc : byteAt b 4 = crc8 (b.take 4))
    (h : late = false ∨ s.dev.fromWing0 (beAt b 1 3) = false ∨ readRefused 15 (beAt b 1 3) ≠ 0) : s.spiRead b late =
    let r := s.read .spi 15 (beAt b 1 3)
    { r.2.2 with dev := r.2.2.dev.spiSend (be 4 r.2.1.toNat ++ be 1 (crc8 (be 4 r.2.1.toNat)) ++ spiStatus (r.1 == 0) false (r.1 != 0) false) } := by
  have hserved : (late && s.dev.fromWing0 (beAt b 1 3) && readRefused 15 (beAt b 1 3) == 0) = false := by
    rcases h with h | h | h <;> simp [h]
  simp only [State.spiRead, hcrc, bne_self_eq_false, hserved, Bool.false_eq_true, if_false]

end

/-- Settles O11: each kind of frame, by its length, its first byte and its CRC. -/
theorem spiFrames : Obligations.SpiFrames := by
  intro s n b late hb
  have hb' : (s.at n).dev.boot ≠ 0 := hb
  refine ⟨fun hlen hop hcrc => ?_, fun hlen hop hcrc => ?_, fun hlen hop hcrc h => ?_, fun hlen hop hcrc hlate hwing href => ?_, fun hlen hop hcrc => ?_,
    fun h11 h13 => ?_⟩
  · rw [exec_spiWriteFrame, spiFrame_write hb' hlen hop, spiWrite_good hcrc]
    exact Ends.of_doneS s _
  · rw [exec_spiWriteFrame, spiFrame_write hb' hlen hop, spiWrite_bad hcrc]
    exact Ends.of_doneS s _
  · rw [exec_spiReadFrame, spiFrame_read hb' hlen hop, spiRead_good (s := s.at n) hcrc h]
    exact Ends.of_doneS s _
  · rw [exec_spiReadFrame, spiFrame_read hb' hlen hop, spiRead_late (s := s.at n) hcrc hlate hwing href]
    exact Ends.of_doneS s _
  · rw [exec_spiReadFrame, spiFrame_read hb' hlen hop, spiRead_bad hcrc]
    exact Ends.of_doneS s _
  · rw [exec_spiWriteFrame, spiFrame_length hb' h11 h13]
    exact Ends.of_doneS s _

end Sys2Proof.Machine

/-! The machine without its registers and its records; wings, the change of STATE, the entry to SAFE and the fault of a wing (R712, R717, R718, R758, R759; O43). -/

namespace Sys2Proof.Machine

/-! What registers and records leave. -/

/-- The machine but for its registers with the marks of the tick, and the recorder. -/
def Dev.besideRecs (d : Dev) : Dev := { d with regs := [], hw := ⟨0, []⟩, evr := State.reset.dev.evr }

section
variable (d : Dev)

@[simp] theorem Dev.wr_besideRecs (a : Nat) (v : Word) : (d.wr a v).besideRecs = d.besideRecs := rfl
@[simp] theorem Dev.wrN_besideRecs (a v : Nat) : (d.wrN a v).besideRecs = d.besideRecs := rfl
@[simp] theorem Dev.wrSat_besideRecs (a v : Nat) : (d.wrSat a v).besideRecs = d.besideRecs := rfl
@[simp] theorem Dev.putF_besideRecs (a hi lo v : Nat) : (d.putF a hi lo v).besideRecs = d.besideRecs := rfl
@[simp] theorem Dev.putB_besideRecs (a k : Nat) (b : Bool) : (d.putB a k b).besideRecs = d.besideRecs := rfl
@[simp] theorem Dev.raise_besideRecs (a k : Nat) : (d.raise a k).besideRecs = d.besideRecs := rfl
@[simp] theorem Dev.incW_besideRecs (a n : Nat) : (d.incW a n).besideRecs = d.besideRecs := rfl
@[simp] theorem Dev.incS_besideRecs (a n : Nat) : (d.incS a n).besideRecs = d.besideRecs := rfl

@[simp] theorem Dev.inc_besideRecs (a n : Nat) : (d.inc a n).besideRecs = d.besideRecs := by
  obtain ⟨_, _, h⟩ := d.inc_eq a n
  rw [h]
  rfl

@[simp] theorem Dev.record_besideRecs (typ : Nat) (b : Bytes) : (d.record typ b).besideRecs = d.besideRecs := by
  obtain ⟨_, _, _, h⟩ := d.record_eq typ b
  rw [h]
  rfl

@[simp] theorem Dev.recordLocal_besideRecs (w typ : Nat) (b : Bytes) : (d.recordLocal w typ b).besideRecs = d.besideRecs := by
  obtain ⟨_, _, _, h⟩ := d.recordLocal_eq w typ b
  rw [h]
  rfl

@[simp] theorem Dev.setBoot_besideRecs (b : Nat) : (d.setBoot b).besideRecs = d.besideRecs := by
  simp [Dev.setBoot, apply_ite Dev.besideRecs]

@[simp] theorem Dev.reviewRun_besideRecs : d.reviewRun.besideRecs = d.besideRecs := by simp [Dev.reviewRun, apply_ite Dev.besideRecs]

variable {d} {e : Dev} (h : e.besideRecs = d.besideRecs)
include h

theorem Dev.units_of_recs : e.units = d.units := (congrArg Dev.units h :)
theorem Dev.tim_of_recs : e.tim = d.tim := (congrArg Dev.tim h :)
theorem Dev.loc_of_recs : e.loc = d.loc := (congrArg Dev.loc h :)
theorem Dev.nv_of_recs : e.nv = d.nv := (congrArg Dev.nv h :)
theorem Dev.txn_of_recs : e.txn = d.txn := (congrArg Dev.txn h :)
theorem Dev.resetCtr_of_recs : e.resetCtr = d.resetCtr := (congrArg Dev.resetCtr h :)

end

/-! A wing changed. -/

section
variable (d : Dev)

@[simp] theorem Dev.wing_modWing_same (w : Nat) (f : Wing → Wing) : (d.modWing w f).wing w = f (d.wing w) := by
  by_cases h : w = 0 <;> simp [Dev.modWing, Dev.wing, h]

theorem Dev.wing_modWing_ne {w v : Nat} (f : Wing → Wing) (hw : w < 2) (hv : v < 2) (h : v ≠ w) : (d.modWing w f).wing v = d.wing v := by
  by_cases h0 : w = 0
  · have hv0 : v ≠ 0 := by omega
    simp [Dev.modWing, Dev.wing, h0, hv0]
  · have hv0 : v = 0 := by omega
    simp [Dev.modWing, Dev.wing, h0, hv0]

theorem Dev.modWing_eq (w : Nat) (f : Wing → Wing) : ∃ x y, d.modWing w f = { d with units := { d.units with w0 := x, w1 := y } } := by
  unfold Dev.modWing
  split
  · exact ⟨_, d.units.w1, rfl⟩
  · exact ⟨d.units.w0, _, rfl⟩

@[simp] theorem Dev.modWing_rd (w : Nat) (f : Wing → Wing) (a : Nat) : (d.modWing w f).rd a = d.rd a := by
  obtain ⟨_, _, h⟩ := d.modWing_eq w f
  rw [h]
  rfl

variable {d} in
/-- A wing is told by the units alone. -/
theorem Dev.wing_congr {e : Dev} (h : e.units = d.units) (w : Nat) : e.wing w = d.wing w := by rw [Dev.wing, Dev.wing, h]

/-! What a change of STATE and the entry to SAFE write. -/

/-- The registers that a change of STATE to RUN, DEGRADED or SAFE, the entry to SAFE and a record write. -/
def safeRegs : List Nat :=
  [Reg.GLB_BOOT_STATE, Reg.GLB_STATE_TIME 5, Reg.GLB_STATE_TIME 6, Reg.GLB_STATE_TIME 7, Reg.GLB_INT_STATUS, Reg.SAF_SAFE_CAUSE, Reg.SAF_INT_STATUS,
    Reg.REC_LOST_CNT]

theorem Dev.setBoot_rd_off {b a : Nat} (hb : b = 5 ∨ b = 6 ∨ b = 7) (ha : a ∉ safeRegs) : (d.setBoot b).rd a = d.rd a := by
  simp only [safeRegs, List.mem_cons, List.not_mem_nil, or_false, not_or] at ha
  obtain ⟨h0, h5, h6, h7, hi, -⟩ := ha
  refine d.setBoot_rd b h0 ?_ hi
  rcases hb with rfl | rfl | rfl <;> assumption

theorem Dev.reviewRun_rd {a : Nat} (ha : a ∉ safeRegs) : d.reviewRun.rd a = d.rd a := by
  rw [Dev.reviewRun]
  split
  · exact d.setBoot_rd_off (.inr (.inl rfl)) ha
  split
  · exact d.setBoot_rd_off (.inl rfl) ha
  · rfl

/-- The review of RUN leaves SAFE. -/
theorem Dev.reviewRun_safe (h : d.boot = 7) : d.reviewRun = d := by simp [Dev.reviewRun, h]

@[simp] theorem Dev.reviewRun_units : d.reviewRun.units = d.units := Dev.units_of_recs d.reviewRun_besideRecs

/-- The machine but for its registers, the recorder, the causes present for safety objects, the pins released and the takeover that is due. -/
def Dev.besideSafe : Dev :=
  { d.besideRecs with saf := { d.saf with present := [] }, pins := { d.pins with aoReleased := 0 }, units := { d.units with due := none } }

variable {d} in
theorem Dev.besideSafe_congr {e : Dev} (h : e.besideRecs = d.besideRecs) : e.besideSafe = d.besideSafe :=
  (congrArg Dev.besideSafe h :)

theorem Dev.enterSafe_within (c : Nat) (h : d.boot = 7) : d.enterSafe c = d := if_pos h

/-- What the entry to SAFE records, ahead of the objects that it forces and the pins that it releases (R758). -/
def Dev.safeTold (cause : Nat) : Dev :=
  let e := ((d.setBoot 7).wrN Reg.SAF_SAFE_CAUSE cause).raise Reg.SAF_INT_STATUS 0
  let e : Dev := { e with units := { e.units with due := none } }
  e.record 0x1301 (be 1 cause ++ zeros 7 ++ be 8 e.wbSeq)

theorem Dev.enterSafe_beyond (c : Nat) (h : d.boot ≠ 7) : d.enterSafe c =
    ((d.safeTold c).safetyObjects.foldl (fun (d : Dev) k => d.causePresent k 4 true) (d.safeTold c)).aoRelease
      (((d.safeTold c).safetyObjects.foldl (fun (d : Dev) k => d.causePresent k 4 true) (d.safeTold c)).rdN Reg.SAF_AO_SAFETY) := if_neg h

theorem Dev.safeTold_besideSafe (c : Nat) : (d.safeTold c).besideSafe = d.besideSafe := by
  rw [Dev.safeTold]
  refine (Dev.besideSafe_congr (Dev.record_besideRecs _ _ _)).trans ?_
  have h : (((d.setBoot 7).wrN Reg.SAF_SAFE_CAUSE c).raise Reg.SAF_INT_STATUS 0).besideSafe = d.besideSafe :=
    Dev.besideSafe_congr (d.setBoot_besideRecs 7)
  exact h

/-- The entry to SAFE, by an observation that neither the causes present nor the pins change. -/
theorem Dev.enterSafe_told {β : Type} (g : Dev → β) (c : Nat) (h : d.boot ≠ 7) (hsaf : ∀ (e : Dev) x, g { e with saf := x } = g e)
    (hpins : ∀ (e : Dev) x, g { e with pins := x } = g e) : g (d.enterSafe c) = g (d.safeTold c) := by
  rw [d.enterSafe_beyond c h, Dev.aoRelease, hpins]
  exact foldl_keeps g _ _ (fun e x => hsaf e _) _

theorem Dev.aoRelease_besideSafe (m : Nat) : (d.aoRelease m).besideSafe = d.besideSafe := rfl

theorem Dev.enterSafe_besideSafe (c : Nat) : (d.enterSafe c).besideSafe = d.besideSafe := by
  by_cases h : d.boot = 7
  · rw [d.enterSafe_within c h]
  · rw [d.enterSafe_beyond c h, Dev.aoRelease_besideSafe]
    have hfold := foldl_keeps Dev.besideSafe (d.safeTold c).safetyObjects (fun (d : Dev) k => d.causePresent k 4 true) (fun _ _ => rfl) (d.safeTold c)
    exact hfold.trans (d.safeTold_besideSafe c)

theorem Dev.enterSafe_units (c : Nat) : (d.enterSafe c).units = if d.boot = 7 then d.units else { d.units with due := none } := by
  by_cases h : d.boot = 7
  · rw [d.enterSafe_within c h, if_pos h]
  · rw [d.enterSafe_told Dev.units c h (fun _ _ => rfl) (fun _ _ => rfl), if_neg h, Dev.safeTold]
    refine (Dev.units_of_recs (Dev.record_besideRecs _ _ _)).trans ?_
    exact congrArg (fun u : Units => { u with due := none }) (Dev.units_of_recs (d.setBoot_besideRecs 7))

theorem Dev.enterSafe_rd (c : Nat) {a : Nat} (ha : a ∉ safeRegs) : (d.enterSafe c).rd a = d.rd a := by
  by_cases h : d.boot = 7
  · rw [d.enterSafe_within c h]
  · rw [d.enterSafe_told (Dev.rd · a) c h (fun _ _ => rfl) (fun _ _ => rfl), ← d.setBoot_rd_off (b := 7) (.inr (.inr rfl)) ha, Dev.safeTold]
    simp only [safeRegs, List.mem_cons, List.not_mem_nil, or_false, not_or] at ha
    obtain ⟨-, -, -, -, -, hcause, hint, hlost⟩ := ha
    rw [Dev.record_rd_ne _ _ _ hlost]
    exact (Dev.rd_raise_ne _ _ hint).trans (Dev.rd_wrN_ne _ hcause _)

theorem Dev.enterSafe_boot (c : Nat) : (d.enterSafe c).boot = 7 := by
  by_cases h : d.boot = 7
  · rw [d.enterSafe_within c h, h]
  · rw [d.enterSafe_told Dev.boot c h (fun _ _ => rfl) (fun _ _ => rfl), Dev.boot, Dev.fld, Dev.safeTold, Dev.record_rd_ne _ _ _ (by decide)]
    refine Eq.trans ?_ (d.setBoot_boot (b := 7) (by decide))
    exact congrArg (bits · 2 0) ((Dev.rd_raise_ne _ _ (by decide)).trans (Dev.rd_wrN_ne _ (by decide) _))

/-- The entry to SAFE shows its cause, with the interrupt (R758). -/
theorem Dev.enterSafe_cause {c : Nat} (hc : c < 2 ^ 32) (h : d.boot ≠ 7) :
    (d.enterSafe c).rdN Reg.SAF_SAFE_CAUSE = c ∧ (d.enterSafe c).flag Reg.SAF_INT_STATUS 0 = true := by
  constructor
  · rw [d.enterSafe_told (Dev.rdN · Reg.SAF_SAFE_CAUSE) c h (fun _ _ => rfl) (fun _ _ => rfl), Dev.rdN, Dev.safeTold, Dev.record_rd_ne _ _ _ (by decide)]
    refine (congrArg BitVec.toNat (Dev.rd_raise_ne _ _ (by decide))).trans ?_
    rw [Dev.wrN, Dev.rd_wr_same, w32_toNat, Nat.mod_eq_of_lt hc]
  · rw [d.enterSafe_told (Dev.flag · Reg.SAF_INT_STATUS 0) c h (fun _ _ => rfl) (fun _ _ => rfl), Dev.safeTold,
      Dev.flag, Dev.record_rd_ne _ _ _ (by decide)]
    exact Dev.flag_raise _ _ _ (by decide)

end

/-! A wing is faulted. -/

/-- What the fault of a wing leaves: the machine but for its registers, the recorder, what the entry to SAFE changes, the wings and the redundancy. -/
def Dev.besideFault (d : Dev) : Dev :=
  { d.besideSafe with
    units := { d.units with due := none, w0 := State.reset.dev.units.w0, w1 := State.reset.dev.units.w1, redundant := false, matching := 0 } }

theorem Dev.besideFault_congr {d e : Dev} (h : e.besideSafe = d.besideSafe) : e.besideFault = d.besideFault := (congrArg Dev.besideFault h :)

/-- The machine `e` is `d` with wing `w` faulted. -/
structure Dev.WingFaulted (d e : Dev) (w cause : Nat) : Prop where
  wing : e.wing w = { d.wing w with role := .faulted, cause := cause }
  other : d.units.holder.isSome = true → e.wing (1 - w) = d.wing (1 - w)
  single : e.units.redundant = false
  told : e.flag Reg.WNG_INT_STATUS 1 = true
  regs : ∀ a, a ≠ Reg.WNG_INT_STATUS → a ∉ safeRegs → e.rd a = d.rd a
  rest : e.besideFault = d.besideFault

section
variable {d e : Dev} {w cause : Nat}

theorem Dev.WingFaulted.holder (h : d.WingFaulted e w cause) : e.units.holder = d.units.holder := congrArg (·.units.holder) h.rest
theorem Dev.WingFaulted.claim (h : d.WingFaulted e w cause) : e.units.claim = d.units.claim := congrArg (·.units.claim) h.rest

/-- What follows the fault, as long as it leaves the wings and writes no register but those of the entry to SAFE. -/
theorem Dev.WingFaulted.then (h : d.WingFaulted e w cause) {f : Dev} (hw : f.units = { e.units with due := f.units.due })
    (hrd : ∀ a ∉ safeRegs, f.rd a = e.rd a) (hrest : f.besideFault = e.besideFault) : d.WingFaulted f w cause := by
  have hwing (v : Nat) : f.wing v = e.wing v := by rw [Dev.wing, hw]; rfl
  refine ⟨(hwing w).trans h.wing, fun hh => (hwing _).trans (h.other hh), ?_, ?_, fun a ha hs => (hrd a hs).trans (h.regs a ha hs), hrest.trans h.rest⟩
  · rw [hw]
    exact h.single
  · rw [Dev.flag, hrd _ (by decide), ← Dev.flag, h.told]

theorem Dev.WingFaulted.reviewRun (h : d.WingFaulted e w cause) : d.WingFaulted e.reviewRun w cause :=
  h.then (by rw [e.reviewRun_units]) (fun _ ha => e.reviewRun_rd ha) (Dev.besideFault_congr (Dev.besideSafe_congr e.reviewRun_besideRecs))

theorem Dev.WingFaulted.enterSafe (h : d.WingFaulted e w cause) (c : Nat) : d.WingFaulted (e.enterSafe c) w cause := by
  refine h.then ?_ (fun _ ha => e.enterSafe_rd c ha) (Dev.besideFault_congr (e.enterSafe_besideSafe c))
  rw [e.enterSafe_units]
  split <;> rfl

theorem Dev.WingFaulted.due (h : d.WingFaulted e w cause) (u : Option Due) : d.WingFaulted { e with units := { e.units with due := u } } w cause :=
  h.then rfl (fun _ _ => rfl) rfl

/-- Before the first claim the other wing becomes the active one. -/
theorem Dev.WingFaulted.succeed (h : d.WingFaulted e w cause) (hw : w < 2) (hh : d.units.holder.isSome = false) (f : Wing → Wing) :
    d.WingFaulted (e.modWing (1 - w) f) w cause := by
  obtain ⟨x, y, hmod⟩ := e.modWing_eq (1 - w) f
  refine ⟨(e.wing_modWing_ne f (by omega) hw (by omega)).trans h.wing, fun hs => ?_, ?_, ?_, fun a ha hs => ?_, ?_⟩
  · rw [hh] at hs
    cases hs
  · rw [hmod]
    exact h.single
  · rw [Dev.flag, Dev.modWing_rd, ← Dev.flag, h.told]
  · rw [Dev.modWing_rd, h.regs a ha hs]
  · rw [hmod]
    exact h.rest

end

section
variable (d : Dev) (w cause : Nat)

/-- The wing is marked faulted, and the fault recorded (R749). -/
def Dev.wingMarked : Dev :=
  let e := d.modWing w (fun x => { x with role := .faulted, cause := cause })
  ({ e with units := { e.units with redundant := false, matching := 0 } } : Dev).faultRecord w cause

theorem Dev.wingMarked_besideRecs : (d.wingMarked w cause).besideRecs =
    ({ d.modWing w (fun x => { x with role := .faulted, cause := cause }) with
      units := { (d.modWing w (fun x => { x with role := .faulted, cause := cause })).units with redundant := false, matching := 0 } } : Dev).besideRecs :=
  Dev.record_besideRecs _ _ _

theorem Dev.wingMarked_faulted (hw : w < 2) : d.WingFaulted (d.wingMarked w cause) w cause := by
  have hunits := Dev.units_of_recs (d.wingMarked_besideRecs w cause)
  have hwing (v : Nat) : (d.wingMarked w cause).wing v = (d.modWing w (fun x => { x with role := .faulted, cause := cause })).wing v := by
    rw [Dev.wing_congr hunits]
    rfl
  obtain ⟨x, y, hmod⟩ := d.modWing_eq w (fun x => { x with role := .faulted, cause := cause })
  refine ⟨?_, fun _ => ?_, congrArg Units.redundant hunits, Dev.flag_raise _ _ _ (by decide), fun a ha hs => ?_, ?_⟩
  · rw [hwing, Dev.wing_modWing_same]
  · rw [hwing, Dev.wing_modWing_ne _ _ hw (by omega) (by omega)]
  · have hlost : a ≠ Reg.REC_LOST_CNT := fun hl => hs (by rw [hl]; decide)
    rw [Dev.wingMarked, Dev.faultRecord, Dev.rd_raise_ne _ _ ha, Dev.record_rd_ne _ _ _ hlost, hmod]
    rfl
  · refine (Dev.besideFault_congr (Dev.besideSafe_congr (d.wingMarked_besideRecs w cause))).trans ?_
    rw [hmod]
    rfl

variable {d w} in
/-- The fault of a wing: marked and recorded, then the takeover made due or the entry to SAFE (R712, R718, R722, R758). -/
theorem Dev.wingFaultAt_eq (b : Bool) (h : (d.wing w).role ≠ .faulted) : d.wingFaultAt w cause b =
    (if w = d.active then
      if (d.wing (1 - w)).role = .standby then
        if d.units.holder.isSome then
          { d.wingMarked w cause with units := { (d.wingMarked w cause).units with
              due := some ⟨cause, w, false, if b then none else some ((d.wingMarked w cause).tim.clk + ticksUs 10)⟩ } }
        else (d.wingMarked w cause).modWing (1 - w) (fun x => { x with role := .active })
      else if (d.wingMarked w cause).twinSpeaks then d.wingMarked w cause
      else (d.wingMarked w cause).enterSafe 1
    else if (d.wingMarked w cause).units.due.isSome then
      (if (d.wingMarked w cause).twinSpeaks then { d.wingMarked w cause with units := { (d.wingMarked w cause).units with due := none } }
        else (d.wingMarked w cause).enterSafe 1)
    else d.wingMarked w cause).reviewRun := if_neg h

variable {d w} in
theorem Dev.wingFaultAt_still (b : Bool) (h : (d.wing w).role = .faulted) : d.wingFaultAt w cause b = d := if_pos h

variable {d w} in
theorem Dev.wingFaultAt_faulted (b : Bool) (hw : w < 2) (h : (d.wing w).role ≠ .faulted) : d.WingFaulted (d.wingFaultAt w cause b) w cause := by
  have hm := d.wingMarked_faulted w cause hw
  rw [Dev.wingFaultAt_eq cause b h]
  refine Dev.WingFaulted.reviewRun ?_
  split
  · split
    · split
      · exact hm.due _
      · next hh => exact hm.succeed hw (Bool.eq_false_iff.mpr hh) _
    split
    · exact hm
    · exact hm.enterSafe 1
  split
  · split
    · exact hm.due _
    · exact hm.enterSafe 1
  · exact hm

theorem Dev.wingMarked_due : (d.wingMarked w cause).units.due = d.units.due := by
  rw [Dev.units_of_recs (d.wingMarked_besideRecs w cause)]
  obtain ⟨x, y, hmod⟩ := d.modWing_eq w (fun x => { x with role := .faulted, cause := cause })
  rw [hmod]

theorem Dev.wingMarked_tim : (d.wingMarked w cause).tim = d.tim := by
  obtain ⟨x, y, hmod⟩ := d.modWing_eq w (fun x => { x with role := .faulted, cause := cause })
  rw [Dev.tim_of_recs (d.wingMarked_besideRecs w cause), hmod]

theorem Dev.wingMarked_twinSpeaks : (d.wingMarked w cause).twinSpeaks = d.twinSpeaks := by
  rw [Dev.twinSpeaks, Dev.twinReady, Dev.units_of_recs (d.wingMarked_besideRecs w cause)]
  obtain ⟨x, y, hmod⟩ := d.modWing_eq w (fun x => { x with role := .faulted, cause := cause })
  rw [hmod]
  rfl

end

section
variable {d : Dev} {w : Nat} (cause : Nat)

theorem Dev.active_holder (h : d.units.holder = some w) : d.active = w := by rw [Dev.active, h]

/-- The holder is faulted and the other wing can take over: a takeover is due, no sooner than 10 µs later (R722). -/
theorem Dev.wingFault_due (h : (d.wing w).role ≠ .faulted) (hh : d.units.holder = some w) (ho : (d.wing (1 - w)).role = .standby) :
    (d.wingFault w cause).units.due = some ⟨cause, w, false, some (d.tim.clk + ticksUs 10)⟩ := by
  rw [Dev.wingFault, Dev.wingFaultAt_eq cause false h, if_pos (Dev.active_holder hh).symm, if_pos ho, if_pos (by rw [hh]; rfl), Dev.reviewRun_units,
    Dev.wingMarked_tim]
  rfl

/-- The holder is faulted and no unit can take over (R712, R758). -/
theorem Dev.wingFault_safe (h : (d.wing w).role ≠ .faulted) (hh : d.units.holder = some w) (ho : (d.wing (1 - w)).role ≠ .standby)
    (ht : d.twinSpeaks = false) : (d.wingFault w cause).boot = 7 := by
  have hboot := (d.wingMarked w cause).enterSafe_boot 1
  rw [Dev.wingFault, Dev.wingFaultAt_eq cause false h, if_pos (Dev.active_holder hh).symm, if_neg ho, Dev.wingMarked_twinSpeaks, ht,
    if_neg Bool.false_ne_true, Dev.reviewRun_safe _ hboot, hboot]

/-- The wing that was to take over is faulted before it has (R722, R758). -/
theorem Dev.wingFault_safe_due (hw : w < 2) (h : (d.wing w).role ≠ .faulted) (hh : d.units.holder = some (1 - w)) (hdue : d.units.due.isSome = true)
    (ht : d.twinSpeaks = false) : (d.wingFault w cause).boot = 7 := by
  have hboot := (d.wingMarked w cause).enterSafe_boot 1
  rw [Dev.wingFault, Dev.wingFaultAt_eq cause false h, Dev.active_holder hh, if_neg (by omega), Dev.wingMarked_due, if_pos hdue, Dev.wingMarked_twinSpeaks,
    ht, if_neg Bool.false_ne_true, Dev.reviewRun_safe _ hboot, hboot]

end

/-- Settles O43: the fault of a wing by either command (`Dev.wingFaultAt_faulted`), with the takeover it makes due or the entry to SAFE. -/
theorem wingFaults : Obligations.WingFaults := by
  intro s n w cause o hw ho e
  have hends : Ends o { s with dev := e.wingFault w cause } := by
    rcases ho with ⟨rfl, rfl⟩ | ⟨rfl, rfl⟩
    · rw [exec_lockstepMismatch, decide_eq_true hw]
      exact devRow_ends s n _
    · rw [exec_journalDramUe, decide_eq_true hw]
      exact devRow_ends s n _
  refine ⟨fun h => ?_, fun h => ?_⟩
  · rwa [Dev.wingFault, Dev.wingFaultAt_still cause false (d := e) h] at hends
  · have hf := Dev.wingFaultAt_faulted (d := e) cause false hw h
    exact hends.with fun _ _ _ _ _ => ⟨congrArg Wing.role hf.wing, congrArg Wing.cause hf.wing, hf.told, hf.holder, hf.claim, hf.single, hf.other,
      fun hh hs => Dev.wingFault_due (d := e) cause h hh hs, fun hh hs ht => Dev.wingFault_safe (d := e) cause h hh hs ht,
      fun hh hd ht => Dev.wingFault_safe_due (d := e) cause hw h hh hd ht, rfl⟩

end Sys2Proof.Machine

/-! TJ_MAX and the dispatch decision that ends it (R536, R550; O44). -/

namespace Sys2Proof.Machine

/-- The machine after reset with wing 0 active and a clock noted on it for an item that no longer waits. -/
def staleSince : State := { State.reset with dev := { State.reset.dev.modWing 0 (fun w => { w with role := .active }) with
  sch := { State.reset.dev.sch with w0 := { WSched.start with since := [(0, 0)] } } } }

theorem staleSince_cold : staleSince.dev.flag Reg.PWR_STATUS 4 = false := by decide +kernel

theorem staleSince_idle : ∀ w < 2, (staleSince.dev.ws w).crit = [] ∧ (staleSince.dev.ws w).wait = [] := by decide +kernel

/-- The decision of wing 0 notes the clocks anew, of no item. -/
theorem staleSince_tjMax : (((staleSince.dev.tick 0).tjMax 0 1050).dispatchAll).sch.w0.since = [] := by decide +kernel

/-- Refutes O44: the clause of TJ_MAX, by a machine in which no work waits but a clock is still noted for an item. TJ_MAX ends with a dispatch decision of
both wings, and the decision of the active wing drops that clock (`Dev.noteSince`), so the schedulers are not as before. -/
theorem not_powerAndWear : ¬ Obligations.PowerAndWear := by
  rintro ⟨-, htj, -, -⟩
  obtain ⟨t, ht, -, -, hsch, -, -⟩ := (htj staleSince 0 0 1050 (by decide) staleSince_idle).1 staleSince_cold (by decide)
  obtain ⟨r, u, p, m, x, h⟩ := devRow_ends staleSince 0 fun d => (d.tjMax 0 1050).dispatchAll
  rw [exec_tjMax, show decide (0 < 9) = true from rfl, h, Host.Outcome.next.injEq] at ht
  have hnone : t.dev.sch.w0.since = [] := ht ▸ staleSince_tjMax
  rw [hsch] at hnone
  exact List.cons_ne_nil _ _ hnone

end Sys2Proof.Machine

/-! The queue fabric: what each operation does to its queue and leaves of the machine (chapter 13; O40, O41). -/

namespace Sys2Proof.Machine

/-- The machine but for its registers, the recorder and the queue fabric. -/
def Dev.besideQue (d : Dev) : Dev := { d.besideRecs with que := State.reset.dev.que }

theorem Dev.besideQue_congr {d e : Dev} (h : e.besideRecs = d.besideRecs) : e.besideQue = d.besideQue := (congrArg Dev.besideQue h :)

theorem Dev.que_of_recs {d e : Dev} (h : e.besideRecs = d.besideRecs) : e.que = d.que := (congrArg Dev.que h :)

/-- A queue is told by the queue fabric alone. -/
theorem Dev.queue_congr {d e : Dev} (h : e.que = d.que) (w q : Nat) : e.queue w q = d.queue w q := by rw [Dev.queue, Dev.queue, h]

section
variable (d : Dev) (w q : Nat)

@[simp] theorem Dev.queue_modQueue_same (f : Queue → Queue) : (d.modQueue w q f).queue w q = f (d.queue w q) := tget_tset_same _ _ _ _

theorem Dev.queue_modQueue_ne {w' q' : Nat} (hq : q < 512) (hq' : q' < 512) (h : (w', q') ≠ (w, q)) (f : Queue → Queue) :
    (d.modQueue w q f).queue w' q' = d.queue w' q' := by
  refine tget_tset_ne _ _ _ (fun he => h ?_) _
  rw [Prod.mk.injEq]
  omega

/-- A queue changed is told by what it becomes. -/
theorem Dev.modQueue_congr {f g : Queue → Queue} (h : f (d.queue w q) = g (d.queue w q)) : d.modQueue w q f = d.modQueue w q g := by
  rw [Dev.modQueue, h, Dev.modQueue]

@[simp] theorem Dev.wrMax_besideRecs (a v : Nat) : (d.wrMax a v).besideRecs = d.besideRecs := by
  obtain ⟨_, _, h⟩ := d.wrMax_eq a v
  rw [h]
  rfl

@[simp] theorem Dev.qNote_besideRecs : (d.qNote w q).besideRecs = d.besideRecs := d.wrMax_besideRecs _ _

end

/-- The machine `e` is `d`, registers and records aside, with queue q of a wing at `x`. -/
structure Dev.QueueSet (d e : Dev) (w q : Nat) (x : Queue) : Prop where
  same : e.queue w q = x
  other : ∀ w' q', w' < 2 → q' < 512 → (w', q') ≠ (w, q) → e.queue w' q' = d.queue w' q'
  rest : e.besideQue = d.besideQue

section
variable {d e : Dev} {w q : Nat} {x : Queue}

theorem Dev.QueueSet.refl (d : Dev) (w q : Nat) : d.QueueSet d w q (d.queue w q) := ⟨rfl, fun _ _ _ _ _ => rfl, rfl⟩

/-- What writes registers and records is no change to a queue. -/
theorem Dev.QueueSet.recs (h : d.QueueSet e w q x) {f : Dev} (hf : f.besideRecs = e.besideRecs) : d.QueueSet f w q x :=
  ⟨(Dev.queue_congr (Dev.que_of_recs hf) w q).trans h.same,
    fun w' q' hw hq hne => (Dev.queue_congr (Dev.que_of_recs hf) w' q').trans (h.other w' q' hw hq hne), (Dev.besideQue_congr hf).trans h.rest⟩

theorem Dev.QueueSet.modQueue (h : d.QueueSet e w q x) (hq : q < 512) (f : Queue → Queue) : d.QueueSet (e.modQueue w q f) w q (f x) :=
  ⟨by rw [Dev.queue_modQueue_same, h.same], fun w' q' hw hq' hne => (e.queue_modQueue_ne w q hq hq' hne f).trans (h.other w' q' hw hq' hne), h.rest⟩

theorem Dev.QueueSet.units (h : d.QueueSet e w q x) : e.units = d.units := (congrArg Dev.units h.rest :)
theorem Dev.QueueSet.loc (h : d.QueueSet e w q x) : e.loc = d.loc := (congrArg Dev.loc h.rest :)
theorem Dev.QueueSet.ing (h : d.QueueSet e w q x) : e.ing = d.ing := (congrArg Dev.ing h.rest :)

/-- What a push answers besides its queue. -/
theorem Dev.QueueSet.ends {s : State} {n : Nat} {o : Host.Outcome State Fault Refusal} (h : (s.dev.tick n).QueueSet e w q x)
    (ho : Ends o { s with dev := e }) : EndsWith o (fun t => t.dev.queue w q = x ∧
      (∀ w' q', w' < 2 → q' < 512 → (w', q') ≠ (w, q) → t.dev.queue w' q' = s.dev.queue w' q') ∧ t.dev.units = s.dev.units ∧ t.dev.loc = s.dev.loc ∧
      t.dev.ing = s.dev.ing ∧ t.ctl = s.ctl) :=
  ho.with fun _ _ _ _ _ => ⟨h.same, h.other, h.units, h.loc, h.ing, rfl⟩

end

/-! An item that is not admitted (R573, R574). -/

/-- The items of a queue after one more is dropped: it joins the marker at the tail, or a new marker is put there. -/
def Queue.dropped (x : Queue) (stamp : Nat) : List QItem :=
  match x.items.getLast? with
  | some m => if m.gap then x.items.dropLast ++ [{ m with words := gapWords (m.gapOf.1 + 1) m.gapOf.2.1 stamp }] else x.items ++ [gapItem 1 stamp stamp]
  | none => x.items ++ [gapItem 1 stamp stamp]

theorem Queue.dropped_joins {x : Queue} {m : QItem} (h : x.items.getLast? = some m) (hm : m.gap = true) (stamp : Nat) :
    x.dropped stamp = x.items.dropLast ++ [{ m with words := gapWords (m.gapOf.1 + 1) m.gapOf.2.1 stamp }] := by
  simp [Queue.dropped, h, hm]

theorem Queue.dropped_marks {x : Queue} (h : ∀ m, x.items.getLast? = some m → m.gap = false) (stamp : Nat) :
    x.dropped stamp = x.items ++ [gapItem 1 stamp stamp] := by
  unfold Queue.dropped
  split
  · next m hm => rw [h m hm, if_neg Bool.false_ne_true]
  · rfl

section
variable (d : Dev) (w q stamp : Nat)

/-- A new marker at the tail, with its count and its interrupt. -/
def Dev.qMarked : Dev :=
  (((d.modQueue w q (fun x => { x with items := x.items ++ [gapItem 1 stamp stamp] })).inc (wingAddr w (Reg.QUE_Q_GAP_CNT q)) 1).raise
    (wingAddr w Reg.QUE_INT_STATUS) 0).qNote w q

theorem Dev.queue_inc (w' q' a n : Nat) : (d.inc a n).queue w' q' = d.queue w' q' := Dev.queue_congr (Dev.que_of_recs (d.inc_besideRecs a n)) w' q'

theorem Dev.qDrop_joins {m : QItem} (h : (d.queue w q).items.getLast? = some m) (hm : m.gap = true) : d.qDrop w q stamp =
    (d.inc (wingAddr w (Reg.QUE_Q_DROP_CNT q)) 1).modQueue w q (fun x => { x with items := x.dropped stamp }) := by
  unfold Dev.qDrop
  simp only [Dev.queue_inc, h, hm, if_true]
  refine Dev.modQueue_congr _ _ _ ?_
  rw [Dev.queue_inc, Queue.dropped_joins h hm, hm]

theorem Dev.qDrop_marks (h : ∀ m, (d.queue w q).items.getLast? = some m → m.gap = false) :
    d.qDrop w q stamp = (d.inc (wingAddr w (Reg.QUE_Q_DROP_CNT q)) 1).qMarked w q stamp := by
  unfold Dev.qDrop
  simp only [Dev.queue_inc]
  split
  · next m hm => rw [h m hm, if_neg Bool.false_ne_true, Dev.qMarked]
  · rfl

theorem Dev.qMarked_set (hq : q < 512) : d.QueueSet (d.qMarked w q stamp) w q
    { d.queue w q with items := (d.queue w q).items ++ [gapItem 1 stamp stamp] } := by
  refine Dev.QueueSet.recs ((Dev.QueueSet.refl d w q).modQueue hq (fun x => { x with items := x.items ++ [gapItem 1 stamp stamp] })) ?_
  simp only [Dev.qMarked, Dev.qNote_besideRecs, Dev.raise_besideRecs, Dev.inc_besideRecs]

theorem Dev.qMarked_told : (d.qMarked w q stamp).flag (wingAddr w Reg.QUE_INT_STATUS) 0 = true := by
  rw [Dev.qMarked, Dev.flag, Dev.qNote, Dev.wrMax_rd_ne _ _ (by unfold wingAddr Reg.QUE_INT_STATUS Reg.QUE_Q_MAX_DEPTH wingOfs; split <;> omega), ← Dev.flag]
  exact Dev.flag_raise _ _ _ (by decide)

theorem Dev.qMarked_dropCnt : (d.qMarked w q stamp).rd (wingAddr w (Reg.QUE_Q_DROP_CNT q)) = d.rd (wingAddr w (Reg.QUE_Q_DROP_CNT q)) := by
  have hint : wingAddr w (Reg.QUE_Q_DROP_CNT q) ≠ wingAddr w Reg.QUE_INT_STATUS := by
    unfold wingAddr Reg.QUE_INT_STATUS Reg.QUE_Q_DROP_CNT wingOfs
    split <;> omega
  have hmax : wingAddr w (Reg.QUE_Q_DROP_CNT q) ≠ wingAddr w (Reg.QUE_Q_MAX_DEPTH q) := by
    unfold wingAddr Reg.QUE_Q_MAX_DEPTH Reg.QUE_Q_DROP_CNT wingOfs
    split <;> omega
  have hgap : wingAddr w (Reg.QUE_Q_DROP_CNT q) ≠ wingAddr w (Reg.QUE_Q_GAP_CNT q) := by
    unfold wingAddr Reg.QUE_Q_GAP_CNT Reg.QUE_Q_DROP_CNT wingOfs
    split <;> omega
  rw [Dev.qMarked, Dev.qNote, Dev.wrMax_rd_ne _ _ hmax, Dev.rd_raise_ne _ _ hint, Dev.rd_inc_ne _ _ hgap]
  rfl

theorem Dev.qDrop_set (hq : q < 512) : d.QueueSet (d.qDrop w q stamp) w q { d.queue w q with items := (d.queue w q).dropped stamp } := by
  have hinc := (Dev.QueueSet.refl d w q).recs (d.inc_besideRecs (wingAddr w (Reg.QUE_Q_DROP_CNT q)) 1)
  by_cases h : ∃ m, (d.queue w q).items.getLast? = some m ∧ m.gap = true
  · obtain ⟨m, hlast, hm⟩ := h
    rw [Dev.qDrop_joins d w q stamp hlast hm]
    exact hinc.modQueue hq _
  · have hno : ∀ m, (d.queue w q).items.getLast? = some m → m.gap = false := fun m hlast => Bool.eq_false_iff.mpr fun hm => h ⟨m, hlast, hm⟩
    rw [Dev.qDrop_marks d w q stamp hno, Queue.dropped_marks hno]
    obtain ⟨hsame, hother, hrest⟩ := (d.inc (wingAddr w (Reg.QUE_Q_DROP_CNT q)) 1).qMarked_set w q stamp hq
    refine ⟨hsame.trans (by rw [Dev.queue_inc]), fun w' q' hw hq' hne => (hother w' q' hw hq' hne).trans (hinc.other w' q' hw hq' hne),
      hrest.trans hinc.rest⟩

theorem Dev.qDrop_told (h : ∀ m, (d.queue w q).items.getLast? = some m → m.gap = false) :
    (d.qDrop w q stamp).flag (wingAddr w Reg.QUE_INT_STATUS) 0 = true := by
  rw [Dev.qDrop_marks d w q stamp h, Dev.qMarked_told]

theorem Dev.qDrop_dropCnt : (d.qDrop w q stamp).rd (wingAddr w (Reg.QUE_Q_DROP_CNT q)) =
    (d.inc (wingAddr w (Reg.QUE_Q_DROP_CNT q)) 1).rd (wingAddr w (Reg.QUE_Q_DROP_CNT q)) := by
  by_cases h : ∃ m, (d.queue w q).items.getLast? = some m ∧ m.gap = true
  · obtain ⟨m, hlast, hm⟩ := h
    rw [Dev.qDrop_joins d w q stamp hlast hm]
    rfl
  · rw [Dev.qDrop_marks d w q stamp fun m hlast => Bool.eq_false_iff.mpr fun hm => h ⟨m, hlast, hm⟩, Dev.qMarked_dropCnt]

end

/-! The first word of an item, by the mode of its queue (R570, R572, R575, R576). -/

section
variable (d : Dev) (w q len pool : Nat) (stamp : Option Nat) (ws : List (BitVec 64))

/-- The item that a push brings. -/
def Dev.qItem : QItem := ⟨false, len, ws.take len, 0, stamp.getD d.ns, pool % 4, false⟩

/-- An item admitted at the tail. -/
def Dev.qPut : Dev := (d.modQueue w q (fun x => { x with items := x.items ++ [d.qItem len pool stamp ws], skip := 0 })).qNote w q

/-- An item dropped, with the words of it that follow. -/
def Dev.qDropped : Dev := (d.qDrop w q (stamp.getD d.ns)).modQueue w q (fun x => { x with skip := len - ws.length })

/-- There is a slot for an item with one free for a gap marker. -/
def Dev.qFits : Prop := (d.queue w q).occ + 1 ≤ d.fld (Reg.QUE_Q_CAP q) 16 0 - 1

/-- The virtual depth of a queue now, and whether it is below its cap. -/
def Dev.qVdepth : VDepth := (d.queue w q).vdepth.serve (d.qServPs q) d.tim.out
def Dev.qRoom : Prop := (d.qVdepth w q).n < d.fld (Reg.QUE_Q_VCAP q) 16 0

variable {d w q len pool stamp ws}

theorem Dev.qPush_disabled (h : d.qEn q = false) : d.qPush w q len pool stamp ws = (false, d) := by simp [Dev.qPush, h]

theorem Dev.qPush_credit (h : d.qEn q = true) (hc : d.qCredit q = true) (hfree : tget 0 (d.queue w q).used (pool % 4) < d.pool q pool) :
    d.qPush w q len pool stamp ws = (false, (d.qPut w q len pool stamp ws).modQueue w q
      (fun x => { x with used := tset 0 x.used (pool % 4) (tget 0 x.used (pool % 4) + 1) })) := by
  simp [Dev.qPush, h, hc, hfree, Dev.qPut, Dev.qItem]

theorem Dev.qPush_noCredit (h : d.qEn q = true) (hc : d.qCredit q = true) (hfree : d.pool q pool ≤ tget 0 (d.queue w q).used (pool % 4)) :
    d.qPush w q len pool stamp ws = (false, d.modQueue w q (fun x => { x with skip := len - ws.length })) := by
  simp [Dev.qPush, h, hc, Nat.not_lt.mpr hfree]

theorem Dev.qPush_admitted (h : d.qEn q = true) (hc : d.qCredit q = false) (hv : d.qVserv q = false) (hfits : d.qFits w q) :
    d.qPush w q len pool stamp ws = (false, (d.qPut w q len pool stamp ws).modQueue w q (fun x => { x with vdepth := x.vdepth })) := by
  have hfits : (d.queue w q).occ + 1 ≤ d.fld (Reg.QUE_Q_CAP q) 16 0 - 1 := hfits
  simp only [Dev.qPush, h, hc, hv, hfits]
  rfl

theorem Dev.qPush_serviced (h : d.qEn q = true) (hc : d.qCredit q = false) (hv : d.qVserv q = true) (hfits : d.qFits w q) (hroom : d.qRoom w q) :
    d.qPush w q len pool stamp ws = (false, (d.qPut w q len pool stamp ws).modQueue w q
      (fun x => { x with vdepth := (d.qVdepth w q).push d.tim.out })) := by
  have hfits : (d.queue w q).occ + 1 ≤ d.fld (Reg.QUE_Q_CAP q) 16 0 - 1 := hfits
  have hroom : ((d.queue w q).vdepth.serve (d.qServPs q) d.tim.out).n < d.fld (Reg.QUE_Q_VCAP q) 16 0 := hroom
  simp only [Dev.qPush, h, hc, hv, hfits, hroom]
  rfl

/-- An item is dropped for want of a slot, or of room in the virtual depth; a wing fault where the virtual depth had room (R575). -/
theorem Dev.qPush_dropped (h : d.qEn q = true) (hc : d.qCredit q = false)
    (hno : (d.qVserv q = false ∧ ¬ d.qFits w q) ∨ (d.qVserv q = true ∧ ¬ d.qRoom w q)) :
    d.qPush w q len pool stamp ws = (false, d.qDropped w q len stamp ws) := by
  unfold Dev.qFits Dev.qRoom Dev.qVdepth at hno
  rcases hno with ⟨hv, hfits⟩ | ⟨hv, hroom⟩
  · simp [Dev.qPush, h, hc, hv, hfits, Dev.qDropped]
  · simp [Dev.qPush, h, hc, hv, hroom, Dev.qDropped]

theorem Dev.qPush_fault (h : d.qEn q = true) (hc : d.qCredit q = false) (hv : d.qVserv q = true) (hfits : ¬ d.qFits w q) (hroom : d.qRoom w q) :
    d.qPush w q len pool stamp ws = (true, d.qDropped w q len stamp ws) := by
  unfold Dev.qFits at hfits
  unfold Dev.qRoom Dev.qVdepth at hroom
  simp [Dev.qPush, h, hc, hv, hfits, hroom, Dev.qDropped]

theorem Dev.qPut_set (hq : q < 512) : d.QueueSet (d.qPut w q len pool stamp ws) w q
    { d.queue w q with items := (d.queue w q).items ++ [d.qItem len pool stamp ws], skip := 0 } :=
  ((Dev.QueueSet.refl d w q).modQueue hq _).recs (Dev.qNote_besideRecs _ w q)

theorem Dev.qDropped_set (hq : q < 512) : d.QueueSet (d.qDropped w q len stamp ws) w q
    { d.queue w q with items := (d.queue w q).dropped (stamp.getD d.ns), skip := len - ws.length } :=
  (d.qDrop_set w q (stamp.getD d.ns) hq).modQueue hq _

theorem Dev.qDropped_dropCnt : (d.qDropped w q len stamp ws).rd (wingAddr w (Reg.QUE_Q_DROP_CNT q)) =
    (d.inc (wingAddr w (Reg.QUE_Q_DROP_CNT q)) 1).rd (wingAddr w (Reg.QUE_Q_DROP_CNT q)) := d.qDrop_dropCnt w q _

/-- A queue `x` of which the machine `f` shows that an item was dropped: it joined the marker at the tail, or has a new one with the interrupt (R573). -/
def Dev.ShowsDrop (x : Queue) (f : Dev) (w q stamp rest : Nat) : Prop :=
  (∀ m, x.items.getLast? = some m → m.gap = true →
    (f.queue w q).items = x.items.dropLast ++ [{ m with words := gapWords (m.gapOf.1 + 1) m.gapOf.2.1 stamp }]) ∧
  ((∀ m, x.items.getLast? = some m → m.gap = false) →
    (f.queue w q).items = x.items ++ [gapItem 1 stamp stamp] ∧ f.flag (wingAddr w Reg.QUE_INT_STATUS) 0 = true) ∧
  (f.queue w q).skip = rest

theorem Dev.qDropped_shows (hq : q < 512) :
    Dev.ShowsDrop (d.queue w q) (d.qDropped w q len stamp ws) w q (stamp.getD d.ns) (len - ws.length) := by
  have hsame := (d.qDropped_set (len := len) (stamp := stamp) (ws := ws) (w := w) hq).same
  refine ⟨fun m hlast hm => ?_, fun h => ⟨?_, d.qDrop_told w q _ h⟩, ?_⟩
  · rw [hsame, ← Queue.dropped_joins hlast hm]
  · rw [hsame, ← Queue.dropped_marks h]
  · rw [hsame]

/-- What a push that drops its item answers. -/
theorem Dev.QueueSet.ends_dropped {s : State} {n a k rest : Nat} {v : Word} {e : Dev} {x y : Queue} {o : Host.Outcome State Fault Refusal}
    (h : (s.dev.tick n).QueueSet e w q y) (hx : Dev.ShowsDrop x e w q k rest) (hcnt : e.rd a = v) (ho : Ends o { s with dev := e }) :
    EndsWith o (fun t => Dev.ShowsDrop x t.dev w q k rest ∧ t.dev.rd a = v ∧
      (∀ w' q', w' < 2 → q' < 512 → (w', q') ≠ (w, q) → t.dev.queue w' q' = s.dev.queue w' q') ∧ t.dev.units = s.dev.units ∧ t.dev.loc = s.dev.loc ∧
      t.dev.ing = s.dev.ing ∧ t.ctl = s.ctl) :=
  ho.with fun _ _ _ _ _ => ⟨hx, hcnt, h.other, h.units, h.loc, h.ing, rfl⟩

/-- The fault of a wing leaves the queues and what they show. -/
theorem Dev.wingFault_shows {x : Queue} {k c rest : Nat} (hw : w < 2) (h : Dev.ShowsDrop x d w q k rest) :
    Dev.ShowsDrop x (d.wingFault w c) w q k rest := by
  by_cases hr : (d.wing w).role = .faulted
  · rwa [Dev.wingFault, Dev.wingFaultAt_still c false hr]
  have hf : d.WingFaulted (d.wingFault w c) w c := Dev.wingFaultAt_faulted c false hw hr
  have hqueue : (d.wingFault w c).queue w q = d.queue w q := Dev.queue_congr (congrArg Dev.que hf.rest :) w q
  have hint : wingAddr w Reg.QUE_INT_STATUS ≠ Reg.WNG_INT_STATUS ∧ wingAddr w Reg.QUE_INT_STATUS ∉ safeRegs := by
    obtain rfl | rfl : w = 0 ∨ w = 1 := by omega
    · decide
    · decide
  obtain ⟨hjoins, hmarks, hskip⟩ := h
  unfold Dev.ShowsDrop
  rw [hqueue, Dev.flag, hf.regs _ hint.1 hint.2, ← Dev.flag]
  exact ⟨hjoins, hmarks, hskip⟩

theorem Dev.wingFault_role {c : Nat} (hw : w < 2) :
    ((d.wingFault w c).wing w).role = .faulted ∧ ((d.wing w).role ≠ .faulted → ((d.wingFault w c).wing w).cause = c) := by
  by_cases hr : (d.wing w).role = .faulted
  · rw [Dev.wingFault, Dev.wingFaultAt_still c false hr]
    exact ⟨hr, fun h => absurd hr h⟩
  · have hf : d.WingFaulted (d.wingFault w c) w c := Dev.wingFaultAt_faulted c false hw hr
    exact ⟨congrArg Wing.role hf.wing, fun _ => congrArg Wing.cause hf.wing⟩

/-- What a push that faults its wing answers. -/
theorem Dev.QueueSet.ends_fault {s : State} {n k rest : Nat} {e : Dev} {x y : Queue} {o : Host.Outcome State Fault Refusal} (hw : w < 2)
    (h : (s.dev.tick n).QueueSet e w q y) (hx : Dev.ShowsDrop x e w q k rest) (ho : Ends o { s with dev := e.wingFault w 5 }) :
    EndsWith o (fun t => Dev.ShowsDrop x t.dev w q k rest ∧ (t.dev.wing w).role = .faulted ∧
      ((s.dev.wing w).role ≠ .faulted → (t.dev.wing w).cause = 5) ∧ t.ctl = s.ctl) := by
  have hshows := Dev.wingFault_shows (c := 5) hw hx
  obtain ⟨hrole, hcause⟩ := Dev.wingFault_role (d := e) (c := 5) hw
  rw [Dev.wing_congr h.units] at hcause
  generalize e.wingFault w 5 = f at *
  exact ho.with fun _ _ _ _ _ => ⟨hshows, hrole, hcause, rfl⟩

end

/-- A count under the clock's advance. -/
theorem Dev.rd_inc_tick (d : Dev) (n a k : Nat) : ((d.tick n).inc a k).rd a = (d.inc a k).rd a := by
  have hn : (d.tick n).rdN a = d.rdN a := rfl
  unfold Dev.inc
  simp only [hn]
  split
  · rw [Dev.wrN, Dev.rd_wr_same, Dev.wrN, Dev.rd_wr_same]
  · rw [Dev.rd_wr_same, Dev.rd_wr_same]

/-! Words that follow the first of an item (R570, R578, R579). -/

section
variable {d : Dev} {w q : Nat} {ws : List (BitVec 64)}

theorem Dev.qMore_skips (h : ws.length < (d.queue w q).skip) : d.qMore w q ws = d.modQueue w q (fun y => { y with skip := y.skip - ws.length }) := by
  have h0 : (d.queue w q).skip ≠ 0 := by omega
  simp only [Dev.qMore, bne_iff_ne, ne_eq, h0, not_false_eq_true, if_true]
  exact Dev.modQueue_congr _ _ _ (if_neg (by omega))

/-- The end word of an item that was dropped or ended: its slot is free, and in credit mode its credit returns. -/
theorem Dev.qMore_ends (h0 : 0 < (d.queue w q).skip) (h : (d.queue w q).skip ≤ ws.length) : d.qMore w q ws =
    d.modQueue w q (fun y => { (match y.held with | some k => if d.qCredit q then y.credit k else y | none => y) with skip := 0, held := none }) := by
  have h0 : (d.queue w q).skip ≠ 0 := by omega
  simp only [Dev.qMore, bne_iff_ne, ne_eq, h0, not_false_eq_true, if_true]
  exact Dev.modQueue_congr _ _ _ (if_pos h)

theorem Dev.qMore_writes {m : QItem} (h0 : (d.queue w q).skip = 0) (hm : (d.queue w q).items.getLast? = some m) (h : m.words.length < m.len) :
    d.qMore w q ws = (d.modQueue w q (fun x => { x with items := x.items.dropLast ++ [{ m with words := (m.words ++ ws).take m.len }] })).qNote w q := by
  have hpart : m.whole = false := by simp [QItem.whole, h]
  simp [Dev.qMore, h0, hm, hpart]

end

/-- The row of the first word of an item. -/
theorem queuePush_head {s : State} {n w q len pool : Nat} {stamp : Option Nat} {ws : List (BitVec 64)} {f : Bool} {e : Dev} (hw : w < 2) (hq : q < 512)
    (h : (s.dev.tick n).qPush w q len pool stamp ws = (f, e)) :
    Ends (exec (.queuePush n w q (some (len, pool, stamp)) ws) s) { s with dev := if f then e.wingFault w 5 else e } := by
  have hends := devRow_ends s n fun d => if (d.qPush w q len pool stamp ws).1 then (d.qPush w q len pool stamp ws).2.wingFault w 5
    else (d.qPush w q len pool stamp ws).2
  rw [h] at hends
  rw [exec_queuePush, decide_eq_true hw, decide_eq_true hq]
  exact hends

theorem queuePush_kept {s : State} {n w q len pool : Nat} {stamp : Option Nat} {ws : List (BitVec 64)} {e : Dev} (hw : w < 2) (hq : q < 512)
    (h : (s.dev.tick n).qPush w q len pool stamp ws = (false, e)) :
    Ends (exec (.queuePush n w q (some (len, pool, stamp)) ws) s) { s with dev := e } := queuePush_head hw hq h

theorem queuePush_faults {s : State} {n w q len pool : Nat} {stamp : Option Nat} {ws : List (BitVec 64)} {e : Dev} (hw : w < 2) (hq : q < 512)
    (h : (s.dev.tick n).qPush w q len pool stamp ws = (true, e)) :
    Ends (exec (.queuePush n w q (some (len, pool, stamp)) ws) s) { s with dev := e.wingFault w 5 } := queuePush_head hw hq h

theorem queuePush_more {s : State} {n w q : Nat} {ws : List (BitVec 64)} (hw : w < 2) (hq : q < 512) :
    Ends (exec (.queuePush n w q none ws) s) { s with dev := (s.dev.tick n).qMore w q ws } := by
  rw [exec_queuePush, decide_eq_true hw, decide_eq_true hq]
  exact devRow_ends s n fun d => d.qMore w q ws

/-- Settles O40: the push of a first word by the mode of its queue (`Dev.qPush_disabled` to `Dev.qPush_fault`) and of later words (`Dev.qMore_skips`,
`Dev.qMore_ends`, `Dev.qMore_writes`). -/
theorem queuePushes : Obligations.QueuePushes := by
  refine ⟨?first, ?more⟩
  case first =>
    intro s n w q len pool stamp ws hw hq e x st item o fits vd room dropped frame
    have hqueue : e.queue w q = x := rfl
    refine ⟨fun hen => ?_, fun hen hc hfree => ?_, fun hen hc hfree => ?_, fun hen hc hv hfits => ?_, fun hen hc hv hfits hroom => ?_,
      fun hen hc hno => ?_, fun hen hc hv hfits hroom => ?_⟩
    · exact queuePush_kept hw hq (Dev.qPush_disabled (d := e) hen)
    · have hset := (e.qPut_set (w := w) (len := len) (pool := pool) (stamp := stamp) (ws := ws) hq).modQueue hq
        (fun x => { x with used := tset 0 x.used (pool % 4) (tget 0 x.used (pool % 4) + 1) })
      exact hset.ends (queuePush_kept hw hq (Dev.qPush_credit (d := e) hen hc hfree))
    · exact queuePush_kept hw hq (Dev.qPush_noCredit (d := e) hen hc hfree)
    · have hset := (e.qPut_set (w := w) (len := len) (pool := pool) (stamp := stamp) (ws := ws) hq).modQueue hq (fun x => { x with vdepth := x.vdepth })
      exact hset.ends (queuePush_kept hw hq (Dev.qPush_admitted (d := e) hen hc hv hfits))
    · have hset := (e.qPut_set (w := w) (len := len) (pool := pool) (stamp := stamp) (ws := ws) hq).modQueue hq
        (fun x => { x with vdepth := (e.qVdepth w q).push e.tim.out })
      exact hset.ends (queuePush_kept hw hq (Dev.qPush_serviced (d := e) hen hc hv hfits hroom))
    · have hset := e.qDropped_set (w := w) (len := len) (stamp := stamp) (ws := ws) hq
      have hcnt := (e.qDropped_dropCnt (w := w) (q := q) (len := len) (stamp := stamp) (ws := ws)).trans (s.dev.rd_inc_tick n _ 1)
      exact hset.ends_dropped (e.qDropped_shows hq) hcnt (queuePush_kept hw hq (Dev.qPush_dropped (d := e) hen hc hno))
    · have hset := e.qDropped_set (w := w) (len := len) (stamp := stamp) (ws := ws) hq
      exact hset.ends_fault hw (e.qDropped_shows hq) (queuePush_faults hw hq (Dev.qPush_fault (d := e) hen hc hv hfits hroom))
  case more =>
    intro s n w q ws m hw hq
    have hends := queuePush_more (s := s) (n := n) (ws := ws) hw hq
    refine ⟨fun h => ?_, fun h0 h hheld => ?_, fun k h0 h hheld hc => ?_, fun h0 hm h => ?_⟩
    · rwa [Dev.qMore_skips (d := s.dev.tick n) h] at hends
    · rw [Dev.qMore_ends (d := s.dev.tick n) h0 h] at hends
      rwa [Dev.modQueue_congr (s.dev.tick n) w q (g := fun y => { y with skip := 0, held := none })] at hends
      rcases hheld with hnone | hc
      · have hnone : ((s.dev.tick n).queue w q).held = none := hnone
        rw [hnone]
      · have hc : (s.dev.tick n).qCredit q = false := hc
        rw [hc]
        cases ((s.dev.tick n).queue w q).held <;> rfl
    · rw [Dev.qMore_ends (d := s.dev.tick n) h0 h] at hends
      rwa [Dev.modQueue_congr (s.dev.tick n) w q (g := fun y => { y with skip := 0, held := none, used := tset 0 y.used k (tget 0 y.used k - 1) })] at hends
      have hc : (s.dev.tick n).qCredit q = true := hc
      have hheld : ((s.dev.tick n).queue w q).held = some k := hheld
      rw [hheld, hc]
      rfl
    · rw [Dev.qMore_writes (d := s.dev.tick n) h0 hm h] at hends
      have hset := ((Dev.QueueSet.refl (s.dev.tick n) w q).modQueue hq
        (fun x => { x with items := x.items.dropLast ++ [{ m with words := (m.words ++ ws).take m.len }] })).recs (Dev.qNote_besideRecs _ w q)
      exact (hset.ends hends).mono fun _ ⟨hsame, _, hunits, _, _, hctl⟩ => ⟨congrArg Queue.items hsame, hunits, hctl⟩

end Sys2Proof.Machine

/-! Pops, QUE_CMD, the scrubber and the virtual service tick (R571, R576 to R580, R583, R585, R591, R593; O41). -/

namespace Sys2Proof.Machine

/-! Pops (R571, R576, R577, R580). -/

section
variable {d : Dev} {w q n : Nat}

theorem Dev.qCe_none (d : Dev) (w q : Nat) : d.qCe w q 0 = d := rfl

theorem Dev.qCredit_setPop (d : Dev) (v q : Nat) (p : Option PopOut) : (d.setPop v p).qCredit q = d.qCredit q := by
  unfold Dev.setPop
  split <;> rfl

theorem Dev.qPop_hidden (h67 : q ≠ 67) (ha : (d.queue w q).abort = false) (h : ∀ i, (d.queue w q).items.head? = some i → i.visible (d.qCt q) = false) :
    d.qPop w q n 0 false = (false, d.setPop w none) := by
  rw [Dev.qPop, if_neg h67]
  simp only [Dev.qCe_none, ha, Bool.false_eq_true, if_false]
  cases hi : (d.queue w q).items with
  | nil => rfl
  | cons i r => simp [h i (by rw [hi]; rfl)]

theorem Dev.qPop_abort (h67 : q ≠ 67) (ha : (d.queue w q).abort = true) : d.qPop w q n 0 false =
    (false, (d.modQueue w q (fun y => { y with abort := false })).setPop w (some ⟨false, [], false, true⟩)) := by
  rw [Dev.qPop, if_neg h67]
  simp [Dev.qCe_none, ha]

/-- A pop of the visible head item: the item keeps its unread rest, or leaves with its last word, in credit mode with its credit. -/
theorem Dev.qPop_reads {i : QItem} {r : List QItem} (h67 : q ≠ 67) (ha : (d.queue w q).abort = false) (hi : (d.queue w q).items = i :: r)
    (hv : i.visible (d.qCt q) = true) :
    d.qPop w q n 0 false = (false, (d.setPop w (some ⟨i.gap, (i.words.drop i.read).take n, i.err, false⟩)).modQueue w q (fun y =>
      if i.read + ((i.words.drop i.read).take n).length < i.len then { y with items := { i with read := i.read + ((i.words.drop i.read).take n).length } :: r }
      else { if d.qCredit q then y.credit i.pool else y with items := r })) := by
  rw [Dev.qPop, if_neg h67]
  simp only [Dev.qCe_none, ha, Bool.false_eq_true, if_false, hi, hv, Bool.not_true, Dev.qCredit_setPop]
  by_cases hlt : i.read + ((i.words.drop i.read).take n).length < i.len
  · simp only [hlt, if_true]
  · simp only [hlt, if_false]

theorem Dev.qPop_noFrame (h : d.hostFrames w = []) : d.qPop w 67 n 0 false = (false, d.setPop w none) := by
  rw [Dev.qPop, if_pos rfl]
  simp [Dev.qCe_none, h]

theorem Dev.qPop_frame {f : Bytes} {r : List Bytes} (h : d.hostFrames w = f :: r) : d.qPop w 67 n 0 false =
    (false, ({ d with ing := { d.ing with hostq := d.ing.hostq.erase (w, f) } }).setPop w
      (some ⟨false, (List.range (cdiv f.length 8)).map (fun j => BitVec.ofNat 64 (leAt f (8 * j) 8)), false, false⟩)) := by
  rw [Dev.qPop, if_pos rfl]
  simp [Dev.qCe_none, h]

/-- The row of a pop without a wing fault. -/
theorem queuePop_ends {s : State} {t m : Nat} {e : Dev} (hw : w < 2) (hq : q < 512) (h : (s.dev.tick t).qPop w q m 0 false = (false, e)) :
    Ends (exec (.queuePop t w q m 0 false) s) { s with dev := e } := by
  have hends := devRow_ends s t fun d => if (d.qPop w q m 0 false).1 then (d.qPop w q m 0 false).2.wingFault w 5 else (d.qPop w q m 0 false).2
  rw [h] at hends
  rw [exec_queuePop, decide_eq_true hw, decide_eq_true hq]
  exact hends

end

/-! LAST of QUE_CMD_STATUS (R583). -/

section
variable (d : Dev) (v : Nat)

theorem Dev.qLast_besideRecs : (d.qLast v).besideRecs = d.besideRecs := by
  by_cases h : v = 0
  · simp [Dev.qLast, foldUp, h]
  · simp [Dev.qLast, foldUp, h]

theorem Dev.qLast_status {w : Nat} (hw : w < 2) (hv : v < 2 ^ 32) : (d.qLast v).rdN (wingAddr w Reg.QUE_CMD_STATUS) = v := by
  have h01 : wingAddr 0 Reg.QUE_CMD_STATUS ≠ wingAddr 1 Reg.QUE_CMD_STATUS := by decide
  have hint : ∀ j < 2, ∀ k < 2, wingAddr j Reg.QUE_CMD_STATUS ≠ wingAddr k Reg.QUE_INT_STATUS := by decide
  have hkeep (e : Dev) (j k : Nat) (hj : j < 2) (hk : k < 2) :
      (if v = 0 then e else e.raise (wingAddr k Reg.QUE_INT_STATUS) 3).rdN (wingAddr j Reg.QUE_CMD_STATUS) = e.rdN (wingAddr j Reg.QUE_CMD_STATUS) := by
    split
    · rfl
    · rw [Dev.rdN, Dev.rd_raise_ne _ _ (hint j hj k hk), Dev.rdN]
  simp only [Dev.qLast, foldUp]
  obtain rfl | rfl : w = 0 ∨ w = 1 := by omega
  · rw [hkeep _ 0 1 (by decide) (by decide), Dev.rdN_wrN_ne _ h01, hkeep _ 0 0 (by decide) (by decide), Dev.rdN_wrN_same, Nat.mod_eq_of_lt hv]
  · rw [hkeep _ 1 1 (by decide) (by decide), Dev.rdN_wrN_same, Nat.mod_eq_of_lt hv]

variable {v} in
/-- A refusal raises CMD_REFUSED on both wings. -/
theorem Dev.qLast_told {w : Nat} (hw : w < 2) (hv : v ≠ 0) : (d.qLast v).flag (wingAddr w Reg.QUE_INT_STATUS) 3 = true := by
  simp only [Dev.qLast, foldUp, if_neg hv]
  obtain rfl | rfl : w = 0 ∨ w = 1 := by omega
  · rw [Dev.flag, Dev.rd_raise_ne _ _ (by decide), Dev.rd_wrN_ne _ (by decide), ← Dev.flag]
    exact Dev.flag_raise _ _ _ (by decide)
  · exact Dev.flag_raise _ _ _ (by decide)

end

/-! Items that end before their pop (R576, R578, R579). -/

section
variable (x : Queue) (credit : Bool) (i : QItem)

theorem Queue.ended_items : (x.ended credit i).items = x.items := by
  unfold Queue.ended
  split
  · rfl
  split <;> rfl

theorem Queue.ended_vdepth : (x.ended credit i).vdepth = x.vdepth := by
  unfold Queue.ended
  split
  · rfl
  split <;> rfl

variable {i} in
theorem Queue.ended_whole (h : i.whole = true) : x.ended credit i = if credit then x.credit i.pool else x := by simp [Queue.ended, h]

theorem Queue.ended_used (k : Nat) : tget 0 (x.ended true i).used k = tget 0 x.used k - if i.whole = true ∧ i.pool = k then 1 else 0 := by
  by_cases h : i.whole = true
  · rw [Queue.ended_whole x true h, if_pos rfl, Queue.credit, tget_tset]
    by_cases hk : i.pool = k
    · simp [h, hk]
    · simp [hk, Ne.symm hk]
  · have h : i.whole = false := Bool.eq_false_iff.mpr h
    simp [Queue.ended, h]

/-- A queue whose items all end. -/
def Queue.allEnded (l : List QItem) : Queue := l.foldl (fun y i => y.ended credit i) x

theorem Queue.allEnded_items (l : List QItem) : (x.allEnded credit l).items = x.items :=
  foldl_keeps Queue.items l _ (fun y i => y.ended_items credit i) x

theorem Queue.allEnded_vdepth (l : List QItem) : (x.allEnded credit l).vdepth = x.vdepth :=
  foldl_keeps Queue.vdepth l _ (fun y i => y.ended_vdepth credit i) x

/-- Whole items leave no slot held. -/
theorem Queue.allEnded_held (l : List QItem) (h : l.all QItem.whole = true) :
    (x.allEnded credit l).held = x.held ∧ (x.allEnded credit l).skip = x.skip := by
  induction l generalizing x with
  | nil => exact ⟨rfl, rfl⟩
  | cons i l ih =>
    rw [List.all_cons, Bool.and_eq_true] at h
    have hi : (x.ended credit i).held = x.held ∧ (x.ended credit i).skip = x.skip := by
      rw [x.ended_whole credit h.1]
      split <;> exact ⟨rfl, rfl⟩
    exact ⟨(ih _ h.2).1.trans hi.1, (ih _ h.2).2.trans hi.2⟩

/-- Whole items return their credits. -/
theorem Queue.allEnded_used (l : List QItem) (k : Nat) :
    tget 0 (x.allEnded true l).used k = tget 0 x.used k - (l.filter (fun i => i.whole && i.pool == k)).length := by
  induction l generalizing x with
  | nil => rfl
  | cons i l ih =>
    have hstep : tget 0 (x.allEnded true (i :: l)).used k = tget 0 (x.ended true i).used k - (l.filter (fun i => i.whole && i.pool == k)).length := ih _
    rw [hstep, Queue.ended_used, List.filter_cons, Nat.sub_sub]
    by_cases h : i.whole = true ∧ i.pool = k
    · simp [h, Nat.add_comm]
    · have hf : (i.whole && i.pool == k) = false := by simpa using h
      simp [hf, h]

end

/-! FLUSH and DROP_REM on a wing. -/

section
variable (d : Dev) (w q : Nat)

/-- A queue flushed. -/
def Queue.flushed (x : Queue) (credit : Bool) (ct : Nat) : Queue :=
  Queue.allEnded { x with items := [], abort := x.abort || (ct != 0 && x.items.any (fun i => i.read != 0)) } credit x.items

theorem Dev.qFlushWing_queue : (d.qFlushWing w q).queue w q = (d.queue w q).flushed (d.qCredit q) (d.qCt q) := by
  have hcfg : Reg.QUE_Q_CFG q ≠ wingAddr w (Reg.QUE_Q_FLUSH_CNT q) := by
    unfold wingAddr Reg.QUE_Q_CFG Reg.QUE_Q_FLUSH_CNT wingOfs
    split <;> omega
  rw [Dev.qFlushWing, Dev.queue_modQueue_same, Dev.queue_inc, Dev.qCredit, Dev.flag, Dev.qCt, Dev.fld, Dev.rd_inc_ne _ _ hcfg]
  rfl

theorem Dev.qFlushWing_queue_ne {v : Nat} (hq : q < 512) (h : v ≠ w) : (d.qFlushWing w q).queue v q = d.queue v q := by
  rw [Dev.qFlushWing, Dev.queue_modQueue_ne _ _ _ hq hq (fun he => h (congrArg Prod.fst he)), Dev.queue_inc]

theorem Dev.qFlushWing_besideQue : (d.qFlushWing w q).besideQue = d.besideQue := by
  obtain ⟨_, _, h⟩ := d.inc_eq (wingAddr w (Reg.QUE_Q_FLUSH_CNT q)) ((d.queue w q).items.filter QItem.whole).length
  rw [Dev.qFlushWing, h]
  rfl

theorem Dev.qFlush_besideQue : (foldUp 2 (fun w (d : Dev) => d.qFlushWing w q) d).besideQue = d.besideQue := by
  simp only [foldUp, Dev.qFlushWing_besideQue]

theorem Dev.qFlushWing_cfg : (d.qFlushWing w q).rd (Reg.QUE_Q_CFG q) = d.rd (Reg.QUE_Q_CFG q) := by
  refine Dev.rd_inc_ne _ _ ?_
  unfold wingAddr Reg.QUE_Q_CFG Reg.QUE_Q_FLUSH_CNT wingOfs
  split <;> omega

/-- A flush reaches both wings. -/
theorem Dev.qFlush_queue {v : Nat} (hv : v < 2) (hq : q < 512) :
    (foldUp 2 (fun w (d : Dev) => d.qFlushWing w q) d).queue v q = (d.queue v q).flushed (d.qCredit q) (d.qCt q) := by
  simp only [foldUp]
  obtain rfl | rfl : v = 0 ∨ v = 1 := by omega
  · rw [Dev.qFlushWing_queue_ne _ _ _ hq (by decide), Dev.qFlushWing_queue]
  · rw [Dev.qFlushWing_queue, Dev.qFlushWing_queue_ne _ _ _ hq (by decide), Dev.qCredit, Dev.flag, Dev.qCt, Dev.fld, Dev.qFlushWing_cfg]
    rfl

theorem Dev.qDropRem_items : ((d.qDropRem w q).queue w q).items = (d.queue w q).items.drop 1 := by
  unfold Dev.qDropRem
  cases h : (d.queue w q).items with
  | nil => exact h
  | cons i r =>
    simp only [Dev.queue_modQueue_same, Queue.ended_items]
    rfl

theorem Dev.qDropRem_queue_ne {v : Nat} (hq : q < 512) (h : v ≠ w) : (d.qDropRem w q).queue v q = d.queue v q := by
  unfold Dev.qDropRem
  split
  · rfl
  · simp only [Dev.queue_modQueue_ne _ _ _ hq hq (fun he => h (congrArg Prod.fst he)), Dev.queue_inc]

theorem Dev.qDropRem_besideQue : (d.qDropRem w q).besideQue = d.besideQue := by
  unfold Dev.qDropRem
  split
  · rfl
  · obtain ⟨_, _, h⟩ := d.inc_eq (wingAddr w (Reg.QUE_Q_FLUSH_CNT q)) 1
    rw [h]
    rfl

theorem Dev.qDropRems_besideQue (seen : Nat → Bool) :
    (foldUp 2 (fun w (d : Dev) => if seen w then d.qDropRem w q else d) d).besideQue = d.besideQue := by
  simp only [foldUp, apply_ite Dev.besideQue, Dev.qDropRem_besideQue, ite_self]

variable {w q} in
/-- DROP_REM discards the head item on the wings that show it. -/
theorem Dev.qDropRems_items (hq : q < 512) (seen : Nat → Bool) (hw : w < 2) :
    ((foldUp 2 (fun w (d : Dev) => if seen w then d.qDropRem w q else d) d).queue w q).items =
      if seen w then (d.queue w q).items.drop 1 else (d.queue w q).items := by
  have hne (e : Dev) (u v : Nat) (h : v ≠ u) : (if seen u then e.qDropRem u q else e).queue v q = e.queue v q := by
    split
    · exact e.qDropRem_queue_ne u q hq h
    · rfl
  have hsame (e : Dev) (u : Nat) : ((if seen u then e.qDropRem u q else e).queue u q).items =
      if seen u then (e.queue u q).items.drop 1 else (e.queue u q).items := by
    split
    · exact e.qDropRem_items u q
    · rfl
  simp only [foldUp]
  obtain rfl | rfl : w = 0 ∨ w = 1 := by omega
  · rw [hne _ 1 0 (by decide), hsame]
  · rw [hsame, hne _ 0 1 (by decide)]

end

/-! A write of QUE_CMD (R583, R593). -/

section
variable (d : Dev) (v : Word)

/-- The head item of a queue is seen by its consumer. -/
def Dev.qSeen (d : Dev) (q w : Nat) : Bool := match (d.queue w q).items with | i :: _ => i.visible (d.qCt q) | [] => false

/-- QUE_CMD by its fields, queue and OP. -/
def Dev.queOp (q op : Nat) : Dev :=
  if (op != 1 && op != 2) || !d.qOn q then d.qLast 2
  else if op = 1 then
    if d.qAcc q then d.qLast 1
    else if q < 192 then
      (foldUp 2 (fun w (e : Dev) => e.inc (wingAddr w (Reg.QUE_Q_FLUSH_CNT q)) (d.devItems w q)) (d.qFlushDevice q)).qLast 0
    else (foldUp 2 (fun w (d : Dev) => d.qFlushWing w q) d).qLast 0
  else if !d.flag (Reg.QUE_Q_CFG q) 4 then d.qLast 3
  else if d.qSeen q d.active then (foldUp 2 (fun w (e : Dev) => if d.qSeen q w then e.qDropRem w q else e) d).qLast 0 else d.qLast 4

theorem Dev.queCmd_eq : d.queCmd v = d.queOp (bits v 8 0) (bits v 13 12) := rfl

variable (q : Nat)

theorem Dev.queOp_off {op : Nat} (h : d.qOn q = false) : d.queOp q op = d.qLast 2 := by simp [Dev.queOp, h]

theorem Dev.queOp_accepted (h : d.qOn q = true) (ha : d.qAcc q = true) : d.queOp q 1 = d.qLast 1 := by simp [Dev.queOp, h, ha]

theorem Dev.queOp_flushDevice (h : d.qOn q = true) (ha : d.qAcc q = false) (hq : q < 192) : d.queOp q 1 =
    (foldUp 2 (fun w (e : Dev) => e.inc (wingAddr w (Reg.QUE_Q_FLUSH_CNT q)) (d.devItems w q)) (d.qFlushDevice q)).qLast 0 := by
  simp [Dev.queOp, h, ha, hq]

theorem Dev.queOp_flush (h : d.qOn q = true) (ha : d.qAcc q = false) (hq : 192 ≤ q) : d.queOp q 1 =
    (foldUp 2 (fun w (d : Dev) => d.qFlushWing w q) d).qLast 0 := by
  simp [Dev.queOp, h, ha, Nat.not_lt.mpr hq]

theorem Dev.queOp_kept (h : d.qOn q = true) (hf : d.flag (Reg.QUE_Q_CFG q) 4 = false) : d.queOp q 2 = d.qLast 3 := by simp [Dev.queOp, h, hf]

theorem Dev.queOp_unseen (h : d.qOn q = true) (hf : d.flag (Reg.QUE_Q_CFG q) 4 = true) (hs : d.qSeen q d.active = false) : d.queOp q 2 = d.qLast 4 := by
  simp [Dev.queOp, h, hf, hs]

theorem Dev.queOp_dropRem (h : d.qOn q = true) (hf : d.flag (Reg.QUE_Q_CFG q) 4 = true) (hs : d.qSeen q d.active = true) : d.queOp q 2 =
    (foldUp 2 (fun w (e : Dev) => if d.qSeen q w then e.qDropRem w q else e) d).qLast 0 := by
  simp [Dev.queOp, h, hf, hs]

end

theorem queCmd_row : regAt Reg.QUE_CMD = some ⟨0x2C0020, [], .wo, 0x0, 0x31FF, 0x31FF, []⟩ := by decide +kernel

theorem Dev.regAct_queCmd (d : Dev) (i : Iface) (v : Word) : d.regAct i Reg.QUE_CMD v = d.queCmd v := by
  rw [regAct_eq]
  rfl

/-- A write of QUE_CMD with an OP. -/
theorem queCmd_ends {s : State} {i : Iface} {v : Word} {op : Nat} {e : Dev} (n : Nat) (h : s.canWrite i Reg.QUE_CMD) (hop : op = 1 ∨ op = 2)
    (he : (s.dev.tick n).queOp (bits v 8 0) op = e) (hc : e.resetCtr = s.dev.resetCtr) :
    Ends (hostRow s n true i Reg.QUE_CMD (setBits v 13 12 op)) { s with dev := e } := by
  refine hostRow_act h queCmd_row (.inr (.inl rfl)) rfl (by decide) ?_ hc
  have hkept {hi lo : Nat} := bits_held (s.dev.rd (s.dev.copy Reg.QUE_CMD)) (setBits v 13 12 op) (m := 0x31FF) (hi := hi) (lo := lo)
  have hq := (hkept (hi := 8) (lo := 0) (by decide)).trans (bits_setBits_ne v 13 12 8 0 op (by decide) (by decide))
  have hbits := (hkept (hi := 13) (lo := 12) (by decide)).trans (bits_setBits v 13 12 op (by decide))
  rw [Nat.mod_eq_of_lt (by omega)] at hbits
  rw [Dev.regAct_queCmd, Dev.queCmd_eq, ← he]
  exact congrArg₂ (s.dev.tick n).queOp hq hbits

theorem Dev.qLast_resetCtr (d : Dev) (v : Nat) : (d.qLast v).resetCtr = d.resetCtr := Dev.resetCtr_of_recs (d.qLast_besideRecs v)

/-- A write of QUE_CMD that is refused with a code, or that changes nothing. -/
theorem queCmd_refused {s : State} {i : Iface} {v : Word} {op k : Nat} (n : Nat) (h : s.canWrite i Reg.QUE_CMD) (hop : op = 1 ∨ op = 2) (hk : k < 5)
    (h0 : k ≠ 0) (he : (s.dev.tick n).queOp (bits v 8 0) op = (s.dev.tick n).qLast k) :
    EndsWith (hostRow s n true i Reg.QUE_CMD (setBits v 13 12 op)) (fun t => t.dev.que = s.dev.que ∧
      ∀ w < 2, t.dev.rdN (wingAddr w Reg.QUE_CMD_STATUS) = k ∧ t.dev.flag (wingAddr w Reg.QUE_INT_STATUS) 3 = true) :=
  (queCmd_ends n h hop he (Dev.qLast_resetCtr _ k)).with fun _ _ _ _ _ => ⟨(Dev.que_of_recs ((s.dev.tick n).qLast_besideRecs k) :),
    fun _ hw => ⟨Dev.qLast_status _ _ hw (by omega), Dev.qLast_told _ hw h0⟩⟩

/-- What a flush of a queue of the image leaves, told of the machine `e` after it. -/
theorem Dev.flush_ends {s : State} {o : Host.Outcome State Fault Refusal} {d e : Dev} {q : Nat} (ho : Ends o { s with dev := e.qLast 0 })
    (hq : ∀ w < 2, e.queue w q = (d.queue w q).flushed (d.qCredit q) (d.qCt q)) (hrest : e.besideQue = d.besideQue) :
    EndsWith o (fun t =>
      (∀ w < 2, (t.dev.queue w q).items = [] ∧
        ((d.queue w q).items.all QItem.whole = true → (t.dev.queue w q).held = (d.queue w q).held ∧ (t.dev.queue w q).skip = (d.queue w q).skip) ∧
        (d.qCredit q = true → ∀ k, tget 0 (t.dev.queue w q).used k =
          tget 0 (d.queue w q).used k - ((d.queue w q).items.filter (fun x => x.whole && x.pool == k)).length) ∧
        t.dev.rdN (wingAddr w Reg.QUE_CMD_STATUS) = 0 ∧ (t.dev.queue w q).vdepth = (d.queue w q).vdepth) ∧
      t.dev.units = d.units ∧ t.dev.loc = d.loc ∧ t.ctl = s.ctl) := by
  have hrecs := e.qLast_besideRecs 0
  have hstatus (w : Nat) (hw : w < 2) := e.qLast_status 0 hw (by decide)
  generalize e.qLast 0 = f at *
  have hqueue (w : Nat) (hw : w < 2) := (Dev.queue_congr (Dev.que_of_recs hrecs) w q).trans (hq w hw)
  have hall := (Dev.besideQue_congr hrecs).trans hrest
  refine ho.with fun _ _ _ _ _ => ⟨fun w hw => ?_, (congrArg Dev.units hall :), (congrArg Dev.loc hall :), rfl⟩
  show (f.queue w q).items = [] ∧ (_ → (f.queue w q).held = _ ∧ (f.queue w q).skip = _) ∧ (_ → ∀ k, tget 0 (f.queue w q).used k = _) ∧
    f.rdN _ = 0 ∧ (f.queue w q).vdepth = _
  rw [hqueue w hw, Queue.flushed]
  exact ⟨Queue.allEnded_items _ _ _, Queue.allEnded_held _ _ _, fun hc => hc ▸ Queue.allEnded_used _ _, hstatus w hw, Queue.allEnded_vdepth _ _ _⟩


/-- A machine that differs in registers, records and queues alone has reset as often. -/
theorem Dev.resetCtr_of_que {d e : Dev} (h : e.besideQue = d.besideQue) (v : Nat) : (e.qLast v).resetCtr = d.resetCtr :=
  (e.qLast_resetCtr v).trans (congrArg Dev.resetCtr h :)

/-- What DROP_REM that is taken leaves. -/
theorem dropRem_ends {s : State} {i : Iface} {v : Word} (n : Nat) (h : s.canWrite i Reg.QUE_CMD) (hq : bits v 8 0 < 512)
    (he : (s.dev.tick n).queOp (bits v 8 0) 2 = (foldUp 2 (fun w (e : Dev) => if (s.dev.tick n).qSeen (bits v 8 0) w then e.qDropRem w (bits v 8 0) else e)
      (s.dev.tick n)).qLast 0) :
    EndsWith (hostRow s n true i Reg.QUE_CMD (setBits v 13 12 2)) (fun t => ∀ w < 2,
      (t.dev.queue w (bits v 8 0)).items = (if (s.dev.tick n).qSeen (bits v 8 0) w then (s.dev.queue w (bits v 8 0)).items.drop 1
        else (s.dev.queue w (bits v 8 0)).items) ∧ t.dev.rdN (wingAddr w Reg.QUE_CMD_STATUS) = 0) := by
  have hrest := (s.dev.tick n).qDropRems_besideQue (bits v 8 0) ((s.dev.tick n).qSeen (bits v 8 0))
  have hends := queCmd_ends n h (.inr rfl) he (Dev.resetCtr_of_que hrest 0)
  have hitems (w : Nat) (hw : w < 2) := (s.dev.tick n).qDropRems_items hq ((s.dev.tick n).qSeen (bits v 8 0)) hw
  generalize foldUp 2 (fun w (e : Dev) => if (s.dev.tick n).qSeen (bits v 8 0) w then e.qDropRem w (bits v 8 0) else e) (s.dev.tick n) = e at *
  have hque := Dev.queue_congr (Dev.que_of_recs (e.qLast_besideRecs 0))
  exact hends.with fun _ _ _ _ _ => fun w hw => ⟨(congrArg Queue.items (hque w _)).trans (hitems w hw), Dev.qLast_status _ _ hw (by decide)⟩

theorem Dev.qFlushDevice_resetCtr (d : Dev) {q : Nat} (hq : 64 ≤ q) : (d.qFlushDevice q).resetCtr = d.resetCtr := by
  rw [Dev.qFlushDevice, if_neg (by omega)]
  split
  · rfl
  split <;> rfl

/-- A command of QUE_CMD that is taken, by what it leaves besides registers and records. -/
theorem Dev.taken_ends {s : State} {o : Host.Outcome State Fault Refusal} {e f : Dev} (ho : Ends o { s with dev := f.qLast 0 })
    (hrecs : f.besideRecs = e.besideRecs) : EndsWith o (fun t => t.dev.ing = e.ing ∧ t.dev.roost = e.roost ∧
      ∀ w < 2, t.dev.rdN (wingAddr w Reg.QUE_CMD_STATUS) = 0) := by
  have hall := (f.qLast_besideRecs 0).trans hrecs
  have hstatus (w : Nat) (hw : w < 2) := f.qLast_status 0 hw (by decide)
  generalize f.qLast 0 = g at *
  exact ho.with fun _ _ _ _ _ => ⟨(congrArg Dev.ing hall :), (congrArg Dev.roost hall :), hstatus⟩

/-- A flush of a queue of the device, by what it leaves besides registers. -/
theorem flushDevice_ends {s : State} {i : Iface} {v : Word} (n : Nat) (h : s.canWrite i Reg.QUE_CMD) (hq : 64 ≤ bits v 8 0 ∧ bits v 8 0 < 69) :
    EndsWith (hostRow s n true i Reg.QUE_CMD (setBits v 13 12 1)) (fun t =>
      t.dev.ing = ((s.dev.tick n).qFlushDevice (bits v 8 0)).ing ∧ t.dev.roost = ((s.dev.tick n).qFlushDevice (bits v 8 0)).roost ∧
      ∀ w < 2, t.dev.rdN (wingAddr w Reg.QUE_CMD_STATUS) = 0) := by
  have hon : (s.dev.tick n).qOn (bits v 8 0) = true := by simp [Dev.qOn, hq.2]
  have hacc : (s.dev.tick n).qAcc (bits v 8 0) = false := by
    simp [Dev.qAcc, show ¬ bits v 8 0 < 64 by omega, show bits v 8 0 < 128 by omega]
  have hop := (s.dev.tick n).queOp_flushDevice (bits v 8 0) hon hacc (by omega)
  have hctr := (s.dev.tick n).qFlushDevice_resetCtr hq.1
  generalize (s.dev.tick n).qFlushDevice (bits v 8 0) = e at *
  have hrecs : (foldUp 2 (fun w (e : Dev) => e.inc (wingAddr w (Reg.QUE_Q_FLUSH_CNT (bits v 8 0))) ((s.dev.tick n).devItems w (bits v 8 0))) e).besideRecs =
      e.besideRecs := by
    simp only [foldUp, Dev.inc_besideRecs]
  generalize foldUp 2 (fun w (e : Dev) => e.inc (wingAddr w (Reg.QUE_Q_FLUSH_CNT (bits v 8 0))) ((s.dev.tick n).devItems w (bits v 8 0))) e = f at *
  have hc : (f.qLast 0).resetCtr = s.dev.resetCtr := ((f.qLast_resetCtr 0).trans (Dev.resetCtr_of_recs hrecs)).trans hctr
  exact Dev.taken_ends (queCmd_ends n h (.inl rfl) hop hc) hrecs

theorem Dev.qFlushDevice_host (d : Dev) : (d.qFlushDevice 67).ing.hostq = [] := rfl
theorem Dev.qFlushDevice_early (d : Dev) : (d.qFlushDevice 68).roost.early = [] := rfl

/-- The service of a virtual depth on both wings. -/
theorem Dev.qService_queue (d : Dev) {q k : Nat} (h : 192 ≤ q) (hq : q < 512) (hk : k < 2) :
    (d.qService q).queue k q = { d.queue k q with vdepth := (d.queue k q).vdepth.serve (d.qServPs q) d.tim.out } := by
  rw [Dev.qService, if_neg (by simp; omega), if_neg (by omega)]
  simp only [foldUp]
  obtain rfl | rfl : k = 0 ∨ k = 1 := by omega
  · rw [Dev.queue_modQueue_ne _ _ _ hq hq (by simp), Dev.queue_modQueue_same]
  · rw [Dev.queue_modQueue_same, Dev.queue_modQueue_ne _ _ _ hq hq (by simp)]
    rfl

theorem Dev.qService_image (d : Dev) {q : Nat} (h : 192 ≤ q) : (d.qService q).regs = d.regs ∧ (d.qService q).units = d.units := by
  rw [Dev.qService, if_neg (by simp; omega), if_neg (by omega)]
  exact ⟨rfl, rfl⟩

theorem virtualServiceTick_ends (s : State) (n : Nat) {q : Nat} (hq : q < 512) :
    Ends (exec (.virtualServiceTick n q) s) { s with dev := (s.dev.tick n).qService q } := by
  rw [exec_virtualServiceTick, decide_eq_true hq]
  exact devRow_ends s n _

theorem qOn_image {d : Dev} {q : Nat} (h : 192 ≤ q) : d.qOn q = d.qEn q := by
  simp [Dev.qOn, show ¬ q < 69 by omega, show ¬ q < 128 by omega, show ¬ q < 192 by omega]

/-- Settles O41: one rule for each outcome of a pop (`Dev.qPop_hidden` to `Dev.qPop_frame`) and of QUE_CMD (`Dev.queOp_off` to `Dev.queOp_dropRem`). -/
theorem queuePopsAndCommands : Obligations.QueuePopsAndCommands := by
  refine ⟨?pop, ?hostPop, ?command, ?service⟩
  case pop =>
    intro s n w q m hw hq h67 e x ct
    refine ⟨fun ha hi => ?_, fun ha => ?_, ?_⟩
    · exact queuePop_ends hw hq (Dev.qPop_hidden (d := e) h67 ha hi)
    · exact queuePop_ends hw hq (Dev.qPop_abort (d := e) h67 ha)
    intro i r ha hi hv got
    have hends := queuePop_ends (s := s) (t := n) (m := m) hw hq (Dev.qPop_reads (d := e) h67 ha hi hv)
    refine ⟨fun hlast hc => ?_, ?_⟩
    · rwa [Dev.modQueue_congr (g := fun y => { y with items := r })] at hends
      rw [if_neg (Nat.not_lt.mpr hlast), if_neg (by rw [show e.qCredit q = false from hc]; decide)]
    intro gone
    refine ⟨fun hlast hc => ?_, fun hmore => ?_⟩
    · rwa [Dev.modQueue_congr (g := gone)] at hends
      rw [if_neg (Nat.not_lt.mpr hlast), if_pos (show e.qCredit q = true from hc)]
      rfl
    · rwa [Dev.modQueue_congr (g := fun y => { y with items := { i with read := i.read + got.length } :: r })] at hends
      rw [if_pos hmore]
  case hostPop =>
    intro s n w m hw e
    exact ⟨fun h => queuePop_ends hw (by decide) (Dev.qPop_noFrame (d := e) h), fun f r h => queuePop_ends hw (by decide) (Dev.qPop_frame (d := e) h)⟩
  case command =>
    intro s n i v hcan q seen
    have hq : q < 512 := bits_lt v 8 0
    have hseen (w : Nat) : (s.dev.tick n).qSeen q w = seen w := rfl
    rw [exec_queueFlush, exec_queueDropRem]
    refine ⟨fun h192 hen ha => ?_, fun h67 => ?_, fun h68 => ?_, fun hon ha => ?_, fun hoff o ho => ?_, fun hon hf => ?_, fun hon hf hs => ?_,
      fun hon hf hs => ?_⟩
    · have hop := (s.dev.tick n).queOp_flush q ((qOn_image h192).trans hen) ha h192
      have hrest := (s.dev.tick n).qFlush_besideQue q
      have hends := queCmd_ends n hcan (.inl rfl) hop (Dev.resetCtr_of_que hrest 0)
      exact Dev.flush_ends (d := s.dev.tick n) hends (fun w hw => Dev.qFlush_queue _ q hw hq) hrest
    · refine (flushDevice_ends n hcan (by omega)).mono fun t ⟨hing, _, hstatus⟩ => ⟨?_, hstatus⟩
      rw [hing, show bits v 8 0 = 67 from h67, Dev.qFlushDevice_host]
    · refine (flushDevice_ends n hcan (by omega)).mono fun t ⟨_, hroost, hstatus⟩ => ⟨?_, hstatus⟩
      rw [hroost, show bits v 8 0 = 68 from h68, Dev.qFlushDevice_early]
    · exact queCmd_refused n hcan (.inl rfl) (by decide) (by decide) ((s.dev.tick n).queOp_accepted q hon ha)
    · rcases ho with rfl | rfl
      · exact queCmd_refused n hcan (.inl rfl) (by decide) (by decide) ((s.dev.tick n).queOp_off q hoff)
      · exact queCmd_refused n hcan (.inr rfl) (by decide) (by decide) ((s.dev.tick n).queOp_off q hoff)
    · exact (queCmd_refused n hcan (.inr rfl) (by decide) (by decide) ((s.dev.tick n).queOp_kept q hon hf)).mono
        fun _ ⟨hque, htold⟩ => ⟨hque, fun w hw => (htold w hw).1⟩
    · exact (queCmd_refused n hcan (.inr rfl) (by decide) (by decide) ((s.dev.tick n).queOp_unseen q hon hf hs)).mono
        fun _ ⟨hque, htold⟩ => ⟨hque, fun w hw => (htold w hw).1⟩
    · exact (dropRem_ends n hcan hq ((s.dev.tick n).queOp_dropRem q hon hf hs)).mono fun _ h w hw => ⟨(h w hw).1, (h w hw).2⟩
  case service =>
    intro s n w q hw
    refine ⟨?_, fun h hq => ?_, fun h hq => ?_, fun h => ?_⟩
    · rw [exec_scrubPass, decide_eq_true hw]
      exact devRow_ends s n fun d => d.incW (wingAddr w Reg.QUE_SCRUB_PASS) 1
    · obtain ⟨hregs, hunits⟩ := (s.dev.tick n).qService_image h
      exact (virtualServiceTick_ends s n hq).with fun _ _ _ _ _ => ⟨fun k hk => (s.dev.tick n).qService_queue h hq hk, hregs, hunits, rfl⟩
    · have hends := virtualServiceTick_ends s n (q := q) (by omega)
      rwa [Dev.qService, if_pos (by simp; omega)] at hends
    · have hends := virtualServiceTick_ends s n (q := q) (by omega)
      rwa [Dev.qService, if_neg (by simp; omega), if_pos (by omega)] at hends

end Sys2Proof.Machine

/-! The event bus, the pattern units and the acquisition stream (R595 to R616; O25). -/

namespace Sys2Proof.Machine

/-! Bits of a number by addition and subtraction of powers of two. -/

theorem testBit_add_two_pow {x n : Nat} (h : x.testBit n = false) (k : Nat) : (x + 2 ^ n).testBit k = (x.testBit k || decide (k = n)) := by
  rcases Nat.lt_trichotomy k n with hk | rfl | hk
  · rw [Nat.add_comm, Nat.testBit_two_pow_add_gt hk, decide_eq_false (by omega), Bool.or_false]
  · rw [Nat.add_comm, Nat.testBit_two_pow_add_eq, h, decide_eq_true rfl]
    rfl
  · obtain ⟨j, rfl⟩ := Nat.exists_eq_add_of_lt hk
    have heven : x / 2 ^ n % 2 = 0 := by simpa [Nat.testBit_eq_decide_div_mod_eq] using h
    have hdiv (y : Nat) : y.testBit (n + j + 1) = (y / 2 ^ n / 2).testBit j := by
      rw [Nat.div_div_eq_div_mul, ← Nat.pow_succ, Nat.testBit_div_two_pow]
      exact congrArg y.testBit (by omega)
    rw [hdiv, hdiv, Nat.add_div_right _ (Nat.two_pow_pos n), show (x / 2 ^ n).succ / 2 = x / 2 ^ n / 2 by omega, decide_eq_false (by omega), Bool.or_false]

theorem testBit_sub_two_pow {x n : Nat} (h : x.testBit n = true) (k : Nat) : (x - 2 ^ n).testBit k = (x.testBit k && decide (k ≠ n)) := by
  have hle : 2 ^ n ≤ x := Nat.ge_two_pow_of_testBit h
  have hclear : (x - 2 ^ n).testBit n = false := by
    have hflip := Nat.testBit_two_pow_add_eq (x - 2 ^ n) n
    rw [Nat.add_sub_cancel' hle, h] at hflip
    simpa using hflip.symm
  have hadd := testBit_add_two_pow hclear k
  rw [Nat.sub_add_cancel hle] at hadd
  by_cases hk : k = n
  · rw [hk, hclear]
    simp
  · rw [hadd]
    simp [hk]

/-- The number whose bits below `n` are those with a property. -/
def maskOn (n : Nat) (p : Nat → Bool) : Nat := sumN (((List.range n).filter p).map (2 ^ ·))

theorem maskOn_succ (n : Nat) (p : Nat → Bool) : maskOn (n + 1) p = maskOn n p + if p n then 2 ^ n else 0 := by
  rw [maskOn, List.range_succ, List.filter_append, List.map_append, sumN_append]
  by_cases h : p n = true <;> simp [maskOn, h, sumN]

/-- Bits that are clear, set by addition. -/
theorem testBit_add_maskOn {n b : Nat} {p : Nat → Bool} (h : ∀ k < n, p k = true → b.testBit k = false) (k : Nat) :
    (b + maskOn n p).testBit k = (b.testBit k || (decide (k < n) && p k)) := by
  induction n generalizing k with
  | zero => simp [maskOn, sumN]
  | succ n ih =>
    have ih := ih fun k hk => h k (by omega)
    rw [maskOn_succ, ← Nat.add_assoc]
    by_cases hn : p n = true
    · have hclear : (b + maskOn n p).testBit n = false := by simp [ih, h n (by omega) hn]
      rw [if_pos hn, testBit_add_two_pow hclear, ih]
      rcases Nat.lt_trichotomy k n with hk | rfl | hk
      · simp [hk, hk.ne, Nat.lt_succ_of_lt hk]
      · simp [hn]
      · simp [Nat.not_lt.mpr hk.le, hk.ne', show ¬ k < n + 1 by omega]
    · rw [if_neg hn, Nat.add_zero, ih]
      rcases Nat.lt_trichotomy k n with hk | rfl | hk
      · simp [hk, Nat.lt_succ_of_lt hk]
      · simp [hn]
      · simp [Nat.not_lt.mpr hk.le, show ¬ k < n + 1 by omega]

/-- Bits that are set, cleared by subtraction. -/
theorem testBit_sub_maskOn {n b : Nat} {p : Nat → Bool} (h : ∀ k < n, p k = true → b.testBit k = true) (k : Nat) :
    (b - maskOn n p).testBit k = (b.testBit k && !(decide (k < n) && p k)) := by
  induction n generalizing k with
  | zero => simp [maskOn, sumN]
  | succ n ih =>
    have ih := ih fun k hk => h k (by omega)
    rw [maskOn_succ, ← Nat.sub_sub]
    by_cases hn : p n = true
    · have hset : (b - maskOn n p).testBit n = true := by simp [ih, h n (by omega) hn]
      rw [if_pos hn, testBit_sub_two_pow hset, ih]
      rcases Nat.lt_trichotomy k n with hk | rfl | hk
      · simp [hk, hk.ne, Nat.lt_succ_of_lt hk]
      · simp [hn]
      · simp [Nat.not_lt.mpr hk.le, hk.ne', show ¬ k < n + 1 by omega]
    · rw [if_neg hn, Nat.sub_zero, ih]
      rcases Nat.lt_trichotomy k n with hk | rfl | hk
      · simp [hk, Nat.lt_succ_of_lt hk]
      · simp [hn]
      · simp [Nat.not_lt.mpr hk.le, show ¬ k < n + 1 by omega]

/-! Changes of the bus (R595). -/

section
variable (d : Dev)

/-- The event bus, and the registers of the digital inputs. -/
def Dev.busView : Nat × (Fin 64 → Word) := (d.acq.bus, fun k => d.rd (Reg.ACQ_DI_CFG k))

variable {d} in
theorem Dev.busView_congr {e : Dev} (hb : e.acq.bus = d.acq.bus) (hr : ∀ k : Fin 64, e.rd (Reg.ACQ_DI_CFG k) = d.rd (Reg.ACQ_DI_CFG k)) :
    e.busView = d.busView := Prod.ext hb (funext hr)

@[simp] theorem Dev.inc_busView {a : Nat} (n : Nat) (h : ∀ k : Fin 64, Reg.ACQ_DI_CFG k ≠ a) : (d.inc a n).busView = d.busView := by
  refine Dev.busView_congr ?_ fun k => Dev.rd_inc_ne _ _ (h k)
  obtain ⟨_, _, he⟩ := d.inc_eq a n
  rw [he]

theorem Dev.raise_busView {a : Nat} (k : Nat) (h : ∀ k : Fin 64, Reg.ACQ_DI_CFG k ≠ a) : (d.raise a k).busView = d.busView :=
  Dev.busView_congr rfl fun k => Dev.rd_raise_ne _ _ (h k)

@[simp] theorem Dev.raiseAcq_busView (k : Nat) : (d.raise Reg.ACQ_INT_STATUS k).busView = d.busView := d.raise_busView k (by decide)

@[simp] theorem Dev.modPat_busView (u : Nat) (f : PatUnit → PatUnit) : (d.modPat u f).busView = d.busView := rfl

@[simp] theorem Dev.acqLose_busView (kind time : Nat) : (d.acqLose kind time).busView = d.busView := by
  rw [Dev.acqLose, Dev.inc_busView _ _ (by decide)]
  rfl

@[simp] theorem Dev.acqGap_busView (t clk : Nat) : (d.acqGap t clk).busView = d.busView := by
  unfold Dev.acqGap
  dsimp only
  split <;> rfl

@[simp] theorem acqRoom_busView (fuel : Nat) : (acqRoom d fuel).busView = d.busView := by
  induction fuel generalizing d with
  | zero => rfl
  | succ fuel ih =>
    unfold acqRoom
    split
    · rfl
    split
    · rfl
    · rw [ih]
      rfl

@[simp] theorem Dev.acqAdd_busView (kind : Nat) (e : AcqEntry) : (d.acqAdd kind e).1.busView = d.busView := by
  unfold Dev.acqAdd
  split
  · rfl
  split
  · exact d.acqLose_busView _ _
  dsimp only
  split
  · rw [Dev.acqLose_busView, Dev.raiseAcq_busView, Dev.inc_busView _ _ (by decide)]
    rfl
  · rw [acqRoom_busView]
    exact d.acqGap_busView e.time e.clk

@[simp] theorem Dev.patMatch_busView (u time : Nat) : (d.patMatch u time).busView = d.busView := by
  have hmarks (e : Dev) (l : List (Nat × Nat)) : ({ e with acq := { e.acq with marks := l } } : Dev).busView = e.busView := rfl
  simp [Dev.patMatch, apply_ite Dev.busView, hmarks]

@[simp] theorem Dev.patStep_busView (u time rose fell bus : Nat) : (d.patStep u time rose fell bus).busView = d.busView := by
  simp [Dev.patStep, apply_ite Dev.busView]

@[simp] theorem Dev.freezeTrig_busView (n cause : Nat) : (d.freezeTrig n cause).busView = d.busView := by
  unfold Dev.freezeTrig
  split <;> rfl

/-- The bus after changes of signals: for each, the last that differs from the bus. -/
def busAfter (bus : Nat) (ch : List (Nat × Bool)) : Nat :=
  let ch : List (Nat × Bool) := (List.range 512).filterMap (fun s => ch.reverse.find? (fun c => c.1 == s))
  bus + sumN ((ch.filter (·.2)).map (fun c => 2 ^ c.1)) - sumN ((ch.filter (fun c => !c.2)).map (fun c => 2 ^ c.1))

theorem Dev.busPublish_busView (time : Nat) (changes : List (Nat × Bool)) : (d.busPublish time changes).busView =
    (if changes.filter (fun c => d.acq.bus.testBit c.1 != c.2) = [] then d.acq.bus
      else busAfter d.acq.bus (changes.filter (fun c => d.acq.bus.testBit c.1 != c.2)), d.busView.2) := by
  unfold Dev.busPublish
  dsimp only
  split
  · rfl
  · rw [foldUp_keeps Dev.busView 16 _ (fun u e => by simp), foldl_keeps Dev.busView _ _ (fun e c => by simp [apply_ite Dev.busView]),
      foldl_keeps Dev.busView _ _ (fun e p => by simp [apply_ite Dev.busView])]
    rfl

theorem Dev.busFlush_cfg : d.busFlush.busView.2 = d.busView.2 := by
  rw [Dev.busFlush, Dev.busPublish_busView]
  rfl

theorem Dev.busFlush_bus (h : d.acq.todo = []) : d.busFlush.acq.bus = d.acq.bus := by
  have hview := congrArg Prod.fst (Dev.busPublish_busView ({ d with acq := { d.acq with todo := [] } }) d.acq.todoAt d.acq.todo)
  rw [h] at hview
  unfold Dev.busFlush
  rw [h]
  exact hview

end

/-- Changes whose level is told by their signal: one for each signal that has any, in order. -/
theorem lastChanges {ch : List (Nat × Bool)} {f : Nat → Bool} (h : ∀ c ∈ ch, c.2 = f c.1) (l : List Nat) :
    l.filterMap (fun s => ch.reverse.find? (fun c => c.1 == s)) = (l.filter (fun s => ch.any (fun c => c.1 == s))).map (fun s => (s, f s)) := by
  induction l with
  | nil => rfl
  | cons s l ih =>
    rw [List.filterMap_cons, List.filter_cons]
    cases hs : ch.reverse.find? (fun c => c.1 == s) with
    | none =>
      have hany : ch.any (fun c => c.1 == s) = false := by simpa using hs
      rw [hany, if_neg Bool.false_ne_true]
      exact ih
    | some c =>
      have hc := List.find?_some hs
      have hmem := List.mem_reverse.mp (List.mem_of_find?_eq_some hs)
      have hany : ch.any (fun c => c.1 == s) = true := List.any_eq_true.mpr ⟨c, hmem, hc⟩
      rw [hany, if_pos rfl, List.map_cons, ← ih]
      have hcs : c.1 = s := by simpa using hc
      exact congrArg (· :: _) (Prod.ext hcs ((h c hmem).trans (by rw [hcs])))

/-- The bus after changes that all differ from it: the signals changed have their new levels, the others keep theirs. -/
theorem busAfter_testBit {bus : Nat} {ch : List (Nat × Bool)} {f : Nat → Bool} (h : ∀ c ∈ ch, c.2 = f c.1)
    (hdiff : ∀ c ∈ ch, bus.testBit c.1 = !c.2) (hlt : ∀ c ∈ ch, c.1 < 512) (k : Nat) :
    (busAfter bus ch).testBit k = if ch.any (fun c => c.1 == k) then f k else bus.testBit k := by
  have hwas {k : Nat} (hk : ch.any (fun c => c.1 == k) = true) : bus.testBit k = !f k ∧ k < 512 := by
    obtain ⟨c, hc, hck⟩ := List.any_eq_true.mp hk
    have hck : c.1 = k := by simpa using hck
    rw [← hck, ← h c hc]
    exact ⟨hdiff c hc, hlt c hc⟩
  have hrose : sumN (((((List.range 512).filter (fun s => ch.any (fun c => c.1 == s))).map (fun s => (s, f s))).filter (·.2)).map (fun c => 2 ^ c.1)) =
      maskOn 512 (fun s => f s && ch.any (fun c => c.1 == s)) := by
    rw [List.filter_map, List.map_map, List.filter_filter]
    rfl
  have hfell : sumN (((((List.range 512).filter (fun s => ch.any (fun c => c.1 == s))).map (fun s => (s, f s))).filter (fun c => !c.2)).map (fun c => 2 ^ c.1)) =
      maskOn 512 (fun s => !f s && ch.any (fun c => c.1 == s)) := by
    rw [List.filter_map, List.map_map, List.filter_filter]
    rfl
  have hadd := testBit_add_maskOn (n := 512) (b := bus) (p := fun s => f s && ch.any (fun c => c.1 == s)) fun k _ hk => by
    rw [Bool.and_eq_true] at hk
    rw [(hwas hk.2).1, hk.1]
    rfl
  have hsub := testBit_sub_maskOn (n := 512) (b := bus + maskOn 512 (fun s => f s && ch.any (fun c => c.1 == s)))
    (p := fun s => !f s && ch.any (fun c => c.1 == s)) fun k _ hk => by
      rw [Bool.and_eq_true] at hk
      rw [hadd, (hwas hk.2).1, hk.1]
      rfl
  unfold busAfter
  simp only [lastChanges h, hrose, hfell, hsub, hadd]
  cases hk : ch.any (fun c => c.1 == k) with
  | false => simp
  | true =>
    rw [(hwas hk).1, decide_eq_true (hwas hk).2]
    cases f k <;> rfl

/-- Changes published, each told by its signal: the bus has their levels, and keeps the other signals. -/
theorem Dev.busPublish_testBit (d : Dev) (time : Nat) {ch : List (Nat × Bool)} {f : Nat → Bool} (h : ∀ c ∈ ch, c.2 = f c.1) (hlt : ∀ c ∈ ch, c.1 < 512)
    (k : Nat) : (d.busPublish time ch).acq.bus.testBit k = if ch.any (fun c => c.1 == k) then f k else d.acq.bus.testBit k := by
  have hview : (d.busPublish time ch).acq.bus = _ := congrArg Prod.fst (d.busPublish_busView time ch)
  have hmem {c : Nat × Bool} (hc : c ∈ ch.filter (fun c => d.acq.bus.testBit c.1 != c.2)) : c ∈ ch ∧ d.acq.bus.testBit c.1 = !c.2 := by
    rw [List.mem_filter] at hc
    exact ⟨hc.1, Bool.eq_not_iff.mpr (by simpa using hc.2)⟩
  have hsame (hno : (ch.filter (fun c => d.acq.bus.testBit c.1 != c.2)).any (fun c => c.1 == k) = false) :
      d.acq.bus.testBit k = if ch.any (fun c => c.1 == k) then f k else d.acq.bus.testBit k := by
    split
    · next hk =>
      obtain ⟨c, hc, hck⟩ := List.any_eq_true.mp hk
      have hck : c.1 = k := by simpa using hck
      by_contra hne
      have hin : c ∈ ch.filter (fun c => d.acq.bus.testBit c.1 != c.2) := List.mem_filter.mpr ⟨hc, by rw [hck, h c hc, hck]; simpa using hne⟩
      exact List.any_eq_false.mp hno c hin (beq_iff_eq.mpr hck)
    · rfl
  rw [hview]
  split
  · next hnil => exact hsame (by rw [hnil]; rfl)
  · rw [busAfter_testBit (f := f) (fun c hc => h c (hmem hc).1) (fun c hc => (hmem hc).2) fun c hc => hlt c (hmem hc).1]
    cases hk : (ch.filter (fun c => d.acq.bus.testBit c.1 != c.2)).any (fun c => c.1 == k) with
    | false => exact hsame hk
    | true =>
      obtain ⟨c, hc, hck⟩ := List.any_eq_true.mp hk
      rw [if_pos rfl, if_pos (List.any_eq_true.mpr ⟨c, (hmem hc).1, hck⟩)]

/-- DI_CHANGE on the bus (R596): the signals of the mask have the levels of their inputs. -/
theorem Dev.diChange_testBit (d : Dev) (mask levels k : Nat) : (d.diChange mask levels).acq.bus.testBit k =
    if decide (k < 64) && mask.testBit k then levels.testBit k != d.flag (Reg.ACQ_DI_CFG k) 16 else d.busFlush.acq.bus.testBit k := by
  unfold Dev.diChange
  have hcfg {k : Nat} (hk : k < 64) : d.busFlush.flag (Reg.ACQ_DI_CFG k) 16 = d.flag (Reg.ACQ_DI_CFG k) 16 :=
    congrArg (bit · 16) (congrFun d.busFlush_cfg ⟨k, hk⟩)
  have hchange (c : Nat × Bool) (hc : c ∈ ((List.range 64).filter (fun k => mask.testBit k)).map
      (fun k => (k, levels.testBit k != d.busFlush.flag (Reg.ACQ_DI_CFG k) 16))) :
      c.2 = (levels.testBit c.1 != d.flag (Reg.ACQ_DI_CFG c.1) 16) ∧ c.1 < 64 := by
    obtain ⟨j, hj, rfl⟩ := List.mem_map.mp hc
    have hj : j < 64 := List.mem_range.mp (List.mem_filter.mp hj).1
    exact ⟨by rw [hcfg hj], hj⟩
  rw [Dev.busPublish_testBit (f := fun k => levels.testBit k != d.flag (Reg.ACQ_DI_CFG k) 16) _ _ (fun c hc => (hchange c hc).1) fun c hc => Nat.lt_trans (hchange c hc).2 (by decide)]
  congr 1
  simp [List.any_map, List.any_filter, Function.comp_def]

end Sys2Proof.Machine

namespace Sys2Proof.Machine

/-! The acquisition stream: an entry produced, and the gap record that comes before it (R607, R613, R614). -/

theorem ofLe_le (n v : Nat) : ofLe (le n v) = v % 256 ^ n := by
  induction n generalizing v with
  | zero => rw [Nat.pow_zero, Nat.mod_one]; rfl
  | succ n ih =>
    rw [le, ofLe, ih, BitVec.toNat_ofNat, show 256 ^ (n + 1) = 256 * 256 ^ n from Nat.pow_succ', Nat.mod_mul]

/-- A number read inside the first of two byte strings. -/
theorem leAt_append {a : Bytes} (b : Bytes) {off n : Nat} (h : off + n ≤ a.length) : leAt (a ++ b) off n = leAt a off n := by
  rw [leAt, leAt, List.drop_append_of_le_length (by omega), List.take_append_of_le_length (by simp; omega)]

theorem leAt_append_le (a : Bytes) (n v : Nat) : leAt (a ++ le n v) a.length n = v % 256 ^ n := by
  rw [leAt, List.drop_append_of_le_length (le_refl _), List.drop_length, List.nil_append, List.take_of_length_le (by simp), ofLe_le]

section
variable (d : Dev)

/-- The bytes of a gap record: what a pause lost, from its first loss to the entry after it. -/
def Dev.gapBytes (c m w first to' : Nat) : Bytes :=
  le 1 4 ++ le 1 d.acqFlags ++ zeros 2 ++ zeros 4 ++ le 8 first ++ le 8 to' ++ le 4 (min c 0xFFFFFFFF) ++ le 2 (min m 65535) ++ le 2 (min w 65535)

theorem Dev.gapBytes_kind (c m w first to' : Nat) : byteAt (d.gapBytes c m w first to') 0 = 4 := rfl

theorem Dev.gapBytes_from (c m w first to' : Nat) : leAt (d.gapBytes c m w first to') 8 8 = first % 2 ^ 64 := by
  have h := leAt_append_le (le 1 4 ++ le 1 d.acqFlags ++ zeros 2 ++ zeros 4) 8 first
  rw [show (le 1 4 ++ le 1 d.acqFlags ++ zeros 2 ++ zeros 4).length = 8 by simp] at h
  rw [Dev.gapBytes, leAt_append _ (by simp), leAt_append _ (by simp), leAt_append _ (by simp), leAt_append _ (by simp), h]
  rfl

theorem Dev.gapBytes_to (c m w first to' : Nat) : leAt (d.gapBytes c m w first to') 16 8 = to' % 2 ^ 64 := by
  have h := leAt_append_le (le 1 4 ++ le 1 d.acqFlags ++ zeros 2 ++ zeros 4 ++ le 8 first) 8 to'
  rw [show (le 1 4 ++ le 1 d.acqFlags ++ zeros 2 ++ zeros 4 ++ le 8 first).length = 16 by simp] at h
  rw [Dev.gapBytes, leAt_append _ (by simp), leAt_append _ (by simp), leAt_append _ (by simp), h]
  rfl

theorem Dev.acqGap_lost {c m w first : Nat} (hl : d.acq.lost = (c, m, w, first)) (h : 0 < c + m + w) (t clk : Nat) : d.acqGap t clk =
    { d with acq := { d.acq with
        lost := (0, 0, 0, 0), gapClk := some clk, ring := acqInsert ⟨d.gapBytes c m w first t, t, clk, clk, true, false, none⟩ d.acq.ring } } := by
  unfold Dev.acqGap
  rw [hl]
  exact if_neg (by omega)

/-- The machine with an entry at its place in the stream, behind a gap record where a pause lost any. -/
def Dev.acqPut (e : AcqEntry) : Dev :=
  let d := d.acqGap e.time e.clk
  { d with acq := { d.acq with ring := acqInsert e d.acq.ring } }

variable {d} in
/-- An entry is produced while the stream runs and has room. -/
theorem Dev.acqAdd_produced (k : Nat) {e : AcqEntry} (hon : d.acqOn = true) (hp : d.acq.paused = false)
    (hroom : d.acqUnsent + 32 + e.bytes.length ≤ lookback - 16 * 1048576) : ∃ fuel, d.acqAdd k e = (acqRoom (d.acqPut e) fuel, true) := by
  have hfree : ¬ lookback - 16 * 1048576 < (d.acqGap e.time e.clk).acqUnsent + e.bytes.length := by
    have := acqGap_unsent d e.time e.clk
    omega
  unfold Dev.acqAdd
  rw [hon, hp, if_neg (by decide), if_neg (by decide), if_neg hfree]
  exact ⟨_, rfl⟩

theorem mem_acqInsert {e : AcqEntry} {l : List AcqEntry} {x : AcqEntry} : x ∈ acqInsert e l ↔ x = e ∨ x ∈ l := by
  have at' (k : Nat) : x ∈ l.take k ++ e :: l.drop k ↔ x = e ∨ x ∈ l := by
    conv_rhs => rw [← List.take_append_drop k l]
    simp only [List.mem_append, List.mem_cons]
    tauto
  exact at' _

/-- Making room leaves the entries that are not finished. -/
theorem mem_acqRoom {x : AcqEntry} (hx : x.finished = false) (fuel : Nat) (h : x ∈ d.acq.ring) : x ∈ (acqRoom d fuel).acq.ring := by
  induction fuel generalizing d with
  | zero => exact h
  | succ fuel ih =>
    unfold acqRoom
    split
    · exact h
    split
    · exact h
    · next e he =>
      refine ih _ ((List.mem_erase_of_ne fun hxe => ?_).mpr h)
      have hfin := List.find?_some he
      rw [← hxe, hx] at hfin
      exact Bool.false_ne_true hfin

/-- What making room, and an entry put at its place, leave of the machine. -/
def Dev.besideRing : Dev := { d with acq := { d.acq with ring := [], overClk := none } }

theorem acqRoom_besideRing (fuel : Nat) : (acqRoom d fuel).besideRing = d.besideRing := by
  induction fuel generalizing d with
  | zero => rfl
  | succ fuel ih =>
    unfold acqRoom
    split
    · rfl
    split
    · rfl
    · exact ih _

/-- The machine but for the ring and what a gap record settles. -/
def Dev.besideGap : Dev := { d.besideRing with acq := { d.besideRing.acq with lost := (0, 0, 0, 0), gapClk := none } }

theorem Dev.acqPut_besideGap (e : AcqEntry) : (d.acqPut e).besideGap = d.besideGap := by
  unfold Dev.acqPut Dev.acqGap
  dsimp only
  split <;> rfl

theorem acqRoom_besideGap (fuel : Nat) : (acqRoom d fuel).besideGap = d.besideGap :=
  congrArg (fun e : Dev => { e with acq := { e.acq with lost := (0, 0, 0, 0), gapClk := none } }) (acqRoom_besideRing d fuel)

end

/-- The first entry after a pause that lost any (R614): its gap record joins the ring before it. -/
theorem Dev.acqAdd_gap {d : Dev} {c m w f : Nat} (k : Nat) (e : AcqEntry) (hon : d.acqOn = true) (hp : d.acq.paused = false)
    (hl : d.acq.lost = (c, m, w, f)) (h : 0 < c + m + w) (hroom : d.acqUnsent + 32 + e.bytes.length ≤ lookback - 16 * 1048576) :
    (d.acqAdd k e).2 = true ∧ (d.acqAdd k e).1.acq.lost = (0, 0, 0, 0) ∧ (d.acqAdd k e).1.acq.gapClk = some e.clk ∧
      ⟨d.gapBytes c m w f e.time, e.time, e.clk, e.clk, true, false, none⟩ ∈ (d.acqAdd k e).1.acq.ring := by
  obtain ⟨fuel, hadd⟩ := Dev.acqAdd_produced k hon hp hroom
  have hput : (d.acqPut e).acq.lost = (0, 0, 0, 0) ∧ (d.acqPut e).acq.gapClk = some e.clk ∧
      ⟨d.gapBytes c m w f e.time, e.time, e.clk, e.clk, true, false, none⟩ ∈ (d.acqPut e).acq.ring := by
    rw [Dev.acqPut, d.acqGap_lost hl h]
    exact ⟨rfl, rfl, mem_acqInsert.mpr (.inr (mem_acqInsert.mpr (.inl rfl)))⟩
  have hroomed := acqRoom_besideRing (d.acqPut e) fuel
  rw [hadd]
  exact ⟨rfl, (congrArg (·.acq.lost) hroomed :).trans hput.1, (congrArg (·.acq.gapClk) hroomed :).trans hput.2.1, mem_acqRoom _ rfl fuel hput.2.2⟩

/-! Waveform blocks (R615 to R617). -/

section
variable (d : Dev) (g : Nat)

/-- Samples of a block of a wave group. -/
def Dev.waveLen : Nat := 256 * d.fld (Reg.ACQ_WG_CFG g) 15 12

/-- A wave group whose block is taken. -/
def Dev.waveTaken : Dev :=
  let w := tget WaveGrp.start d.acq.groups g
  { d with acq := { d.acq with groups := tset WaveGrp.start d.acq.groups g { w with got := (w.got.reverse.drop (d.waveLen g)).reverse } } }

/-- The job of a block at the engines of both wings. -/
def Dev.waveHanded (j : CmpJob) : Dev :=
  let d := { d with acq := { d.acq with groups := tmod WaveGrp.start d.acq.groups g (fun w => { w with blocks := w.blocks + 1 }) } }
  { d with cmp := { d.cmp with
      nextJob := j.no + 1
      w0 := { d.cmp.w0 with waitAcq := d.cmp.w0.waitAcq ++ [j] }
      w1 := { d.cmp.w1 with waitAcq := d.cmp.w1.waitAcq ++ [j] } } }

theorem Dev.waveBlock_short (h : d.waveLen g = 0 ∨ (tget WaveGrp.start d.acq.groups g).got.length < d.waveLen g) : d.waveBlock g = d := by
  unfold Dev.waveBlock
  exact if_pos (by simpa [Dev.waveLen] using h)

/-- The block that a wave group has gathered: for each sample its time, its clock, whether it is suspect, and its words. -/
def Dev.waveSamples : List (Nat × Nat × Bool × List Int) := (tget WaveGrp.start d.acq.groups g).got.reverse.take (d.waveLen g)

/-- The words of a block, channel by channel. -/
def Dev.waveInput : Bytes :=
  ((List.range (d.fld (Reg.ACQ_WG_CFG g) 11 8)).map (fun c => ((d.waveSamples g).map (fun s => le 4 (cx 32 (s.2.2.2.getD c 0)))).flatten)).flatten

/-- The header of a block (R615). -/
def Dev.waveHeader : Bytes :=
  let blk := d.waveSamples g
  let first := blk.head?.getD (0, 0, false, [])
  let last := blk.getLast?.getD (0, 0, false, [])
  let marks := (d.acq.marks.filter (fun m => decide (first.2.1 ≤ m.1) && decide (m.1 ≤ last.2.1))).map (·.2)
  le 1 5 ++ le 1 (2 * b2n (blk.any (fun s => s.2.2.1)) + d.acqFlags) ++ le 1 g ++ le 1 (d.fld (Reg.ACQ_WG_CFG g) 11 8) ++ zeros 4 ++ le 8 first.1
    ++ le 4 (last.1 - first.1) ++ le 2 (sumN ((List.range 16).map (fun u => if marks.contains u then 2 ^ u else 0)))
    ++ le 1 (d.fld (Reg.ACQ_WG_CFG g) 2 1 + 4 * d.fld (Reg.ACQ_WG_CFG g) 7 3) ++ le 1 (d.fld (Reg.ACQ_WG_CFG g) 15 12)
    ++ le 4 ((tget WaveGrp.start d.acq.groups g).blocks + 1) ++ zeros 4

/-- The entry of a block in the stream, and its job at the engines. -/
def Dev.waveEntry : AcqEntry :=
  let first := (d.waveSamples g).head?.getD (0, 0, false, [])
  let last := (d.waveSamples g).getLast?.getD (0, 0, false, [])
  ⟨d.waveHeader g ++ d.waveInput g, last.1, last.2.1, first.2.1, false, false, some d.cmp.nextJob⟩

def Dev.waveJob (level : Nat) : CmpJob :=
  ⟨0, d.cmp.nextJob, 1, 1, level, d.fld (Reg.ACQ_WG_CFG g) 11 8, (tget WaveGrp.start d.acq.groups g).blocks + 1, d.waveInput g,
    0, 0, 0, 0, false⟩

/-- A full block: its entry in the stream, and its job where that was produced. -/
theorem Dev.waveBlock_full (h0 : 0 < d.waveLen g) (h : d.waveLen g ≤ (tget WaveGrp.start d.acq.groups g).got.length) :
    d.waveBlock g = if ((d.waveTaken g).acqAdd 2 (d.waveEntry g)).2 then ((d.waveTaken g).acqAdd 2 (d.waveEntry g)).1.waveHanded g
        (d.waveJob g (((d.waveTaken g).acqAdd 2 (d.waveEntry g)).1.fld (Reg.ACQ_WG_CFG g) 19 16))
      else ((d.waveTaken g).acqAdd 2 (d.waveEntry g)).1 := by
  have hno : ¬ (decide (d.waveLen g = 0) || decide ((tget WaveGrp.start d.acq.groups g).got.length < d.waveLen g)) = true := by simpa using ⟨h0.ne', h⟩
  unfold Dev.waveBlock
  exact (if_neg hno).trans rfl

theorem length_flatten_const {α β : Type} (l : List α) (f : α → List β) {n : Nat} (h : ∀ x ∈ l, (f x).length = n) :
    (l.map f).flatten.length = l.length * n := by
  have hmap : l.map (List.length ∘ f) = l.map (fun _ => n) := List.map_congr_left h
  rw [List.length_flatten, List.map_map, hmap, List.map_const', List.sum_replicate, smul_eq_mul]

theorem Dev.waveEntry_length (h : d.waveLen g ≤ (tget WaveGrp.start d.acq.groups g).got.length) :
    (d.waveEntry g).bytes.length = 32 + 4 * d.fld (Reg.ACQ_WG_CFG g) 11 8 * d.waveLen g := by
  have hsamples : (d.waveSamples g).length = d.waveLen g := by simp [Dev.waveSamples, h]
  have hinput : (d.waveInput g).length = d.fld (Reg.ACQ_WG_CFG g) 11 8 * (d.waveLen g * 4) := by
    rw [Dev.waveInput, length_flatten_const (n := d.waveLen g * 4) _ _ fun c _ => ?_, List.length_range]
    rw [length_flatten_const (n := 4) _ _ fun s _ => length_le _ _, hsamples]
  have hheader : (d.waveHeader g).length = 32 := by simp [Dev.waveHeader]
  rw [show (d.waveEntry g).bytes = d.waveHeader g ++ d.waveInput g from rfl, List.length_append, hheader, hinput]
  ring

variable {d g} in
/-- A full block is handed to the engines while the stream has room for it. -/
theorem Dev.waveBlock_handed (h0 : 0 < d.waveLen g) (h : d.waveLen g ≤ (tget WaveGrp.start d.acq.groups g).got.length) (hon : d.acqOn = true)
    (hp : d.acq.paused = false) (hroom : d.acqUnsent + 64 + 4 * d.fld (Reg.ACQ_WG_CFG g) 11 8 * d.waveLen g ≤ lookback - 16 * 1048576) :
    ∃ e : Dev, ∃ l, e.besideGap = (d.waveTaken g).besideGap ∧ d.waveBlock g = e.waveHanded g (d.waveJob g l) := by
  have hlen := d.waveEntry_length g h
  obtain ⟨fuel, hadd⟩ := Dev.acqAdd_produced (d := d.waveTaken g) 2 (e := d.waveEntry g) hon hp
    (by rw [show (d.waveTaken g).acqUnsent = d.acqUnsent from rfl, hlen]; omega)
  rw [d.waveBlock_full g h0 h, hadd]
  exact ⟨_, _, (acqRoom_besideGap _ fuel).trans (Dev.acqPut_besideGap _ _), if_pos rfl⟩

/-- What the engines and the group hold after a block is handed over. -/
theorem Dev.waveHanded_shows {e : Dev} (l : Nat) (h : e.besideGap = (d.waveTaken g).besideGap) :
    let f := e.waveHanded g (d.waveJob g l)
    let w := tget WaveGrp.start d.acq.groups g
    f.cmp.nextJob = d.cmp.nextJob + 1 ∧ (tget WaveGrp.start f.acq.groups g).blocks = w.blocks + 1 ∧
      (tget WaveGrp.start f.acq.groups g).got.length = w.got.length - d.waveLen g ∧
      f.cmp.w0.waitAcq.length = d.cmp.w0.waitAcq.length + 1 ∧ f.cmp.w1.waitAcq.length = d.cmp.w1.waitAcq.length + 1 := by
  have hcmp : e.cmp = d.cmp := (congrArg Dev.cmp h :)
  have hgroups : e.acq.groups = (d.waveTaken g).acq.groups := (congrArg (·.acq.groups) h :)
  have hgroup : tget WaveGrp.start (e.waveHanded g (d.waveJob g l)).acq.groups g =
      { tget WaveGrp.start d.acq.groups g with
        got := ((tget WaveGrp.start d.acq.groups g).got.reverse.drop (d.waveLen g)).reverse, blocks := (tget WaveGrp.start d.acq.groups g).blocks + 1 } := by
    have htaken : tget WaveGrp.start (d.waveTaken g).acq.groups g = _ := tget_tset_same _ _ _ _
    have hmod : tget WaveGrp.start (e.waveHanded g (d.waveJob g l)).acq.groups g = _ := tget_tset_same _ _ _ _
    rw [hmod, hgroups, htaken]
  refine ⟨rfl, ?_, ?_, ?_, ?_⟩
  · rw [hgroup]
  · rw [hgroup]
    simp
  · show (e.cmp.w0.waitAcq ++ [_]).length = _
    rw [hcmp, List.length_append]
    rfl
  · show (e.cmp.w1.waitAcq ++ [_]).length = _
    rw [hcmp, List.length_append]
    rfl

end

/-! The host ring (R610 to R612). -/

section
variable (d : Dev)

/-- The machine with the entries passed over at the head of the unsent stretch. -/
def Dev.acqSkipped : Dev := { d with acq := { d.acq with ring := acqSkip d d.acq.ring } }

theorem Dev.acqCopy_none (h : (acqSkip d d.acq.ring).find? (fun e => !e.finished) = none) : d.acqCopy = d.acqSkipped := by
  unfold Dev.acqCopy
  simp only [h]
  rfl

/-- The next chosen entry written to the host ring behind its gate. -/
def Dev.acqSent (e : AcqEntry) : Dev :=
  let size := d.rdN Reg.ACQ_RING_SIZE
  let head := d.rdN Reg.ACQ_RING_HEAD
  let d := d.gatePass 2162 d.acq.seq
  let d := d.ringWrite (d.rd64 Reg.ACQ_RING_BASE_LO Reg.ACQ_RING_BASE_HI) size head (patch e.bytes 4 (le 4 d.acq.seq))
  let d := d.wrN Reg.ACQ_RING_HEAD ((head + e.bytes.length) % size)
  let i := d.acq.ring.findIdx (fun e => !e.finished)
  { d with acq := { d.acq with seq := d.acq.seq + 1, ring := lmod d.acq.ring i (fun e => { e with finished := true }) } }

variable {d} in
theorem Dev.acqCopy_sent {e : AcqEntry} (h : (acqSkip d d.acq.ring).find? (fun e => !e.finished) = some e) (hc : d.acqChosen e = true) (hj : e.job = none)
    (hd : d.dma = true) (hs : 0 < d.rdN Reg.ACQ_RING_SIZE)
    (hr : e.bytes.length ≤ ringRoom (d.rdN Reg.ACQ_RING_SIZE) (d.rdN Reg.ACQ_RING_HEAD) d.acq.tail) (hg : d.gateOpen d.active 2162 d.acq.seq = true) :
    d.acqCopy = d.acqSkipped.acqSent e := by
  have hall : (d.acqSkipped.acqChosen e && e.job.isNone && d.acqSkipped.dma && 0 < d.acqSkipped.rdN Reg.ACQ_RING_SIZE &&
      decide (e.bytes.length ≤ ringRoom (d.acqSkipped.rdN Reg.ACQ_RING_SIZE) (d.acqSkipped.rdN Reg.ACQ_RING_HEAD) d.acqSkipped.acq.tail) &&
      d.acqSkipped.gateOpen d.acqSkipped.active 2162 d.acqSkipped.acq.seq) = true := by
    rw [show d.acqSkipped.acqChosen e = true from hc, show d.acqSkipped.dma = true from hd,
      show d.acqSkipped.gateOpen d.acqSkipped.active 2162 d.acqSkipped.acq.seq = true from hg, hj]
    simpa using ⟨hs, hr⟩
  unfold Dev.acqCopy
  simp only [h]
  exact if_pos hall

theorem Dev.ringWrite_eq (base size head : Nat) (b : Bytes) : ∃ m, d.ringWrite base size head b = { d with host := { d.host with mem := m } } := by
  have hdma (e : Dev) (a : Nat) (b : Bytes) : ∃ m, e.dmaWrite a b = { e with host := { e.host with mem := m } } := by
    unfold Dev.dmaWrite
    split
    · exact ⟨_, rfl⟩
    · exact ⟨e.host.mem, rfl⟩
  unfold Dev.ringWrite
  dsimp only
  split
  · exact hdma d _ _
  · obtain ⟨m, h⟩ := hdma d (base + head) (b.take (size - head % size))
    obtain ⟨m', h'⟩ := hdma (d.dmaWrite (base + head) (b.take (size - head % size))) base (b.drop (size - head % size))
    exact ⟨m', by rw [h', h]⟩

theorem Dev.gatePass_seq {o : Nat} (h : 16 ≤ o) (n : Nat) : tget 0 (d.gatePass o n).units.outSeq o = n + 1 := by
  rw [Dev.gatePass, if_neg (by omega)]
  exact tget_tset_same 0 d.units.outSeq o (n + 1)

/-- An entry sent has its SEQ, which the gate holds, and moves HEAD on (R610, R612). -/
theorem Dev.acqSent_shows (e : AcqEntry) : (d.acqSent e).acq.seq = d.acq.seq + 1 ∧ tget 0 (d.acqSent e).units.outSeq 2162 = d.acq.seq + 1 ∧
    (d.acqSent e).rd Reg.ACQ_RING_HEAD = w32 ((d.rdN Reg.ACQ_RING_HEAD + e.bytes.length) % d.rdN Reg.ACQ_RING_SIZE) := by
  obtain ⟨m, h⟩ := (d.gatePass 2162 d.acq.seq).ringWrite_eq ((d.gatePass 2162 d.acq.seq).rd64 Reg.ACQ_RING_BASE_LO Reg.ACQ_RING_BASE_HI)
    (d.rdN Reg.ACQ_RING_SIZE) (d.rdN Reg.ACQ_RING_HEAD) (patch e.bytes 4 (le 4 (d.gatePass 2162 d.acq.seq).acq.seq))
  unfold Dev.acqSent
  simp only [h]
  exact ⟨rfl, d.gatePass_seq (by decide) d.acq.seq, Dev.rd_wr_same _ _ _⟩

end

/-! The rows. -/

theorem upRow_ends (s : State) (t : Nat) (f : Dev → Dev) (h : 1 ≤ s.dev.boot) : Ends (upRow s t true f) { s with dev := f (s.dev.tick t) } := by
  rw [upRow, decide_eq_true h]
  exact devRow_ends s t f

theorem devRow_off (s : State) (t : Nat) (f : Dev → Dev) : Ends (devRow s t false f) { s with dev := s.dev.tick t } := Ends.of_done s _

/-- A row whose effect is nothing on this machine, served or not. -/
theorem upRow_still (s : State) (t : Nat) (ok : Bool) (f : Dev → Dev) (h : f (s.dev.tick t) = s.dev.tick t) :
    Ends (upRow s t ok f) { s with dev := s.dev.tick t } := by
  rw [upRow]
  cases ok && decide (1 ≤ s.dev.boot) with
  | false => exact devRow_off s t f
  | true =>
    have hends := devRow_ends s t f
    rwa [h] at hends

theorem Dev.holdoffEnd_none {d : Dev} {u : Nat} (h : (d.pat u).markAt = none) : d.holdoffEnd u = d := by simp only [Dev.holdoffEnd, h]

theorem Dev.holdoffEnd_some {d : Dev} {u c : Nat} (h : (d.pat u).markAt = some c) : d.holdoffEnd u =
    if c + ticksUs (d.rdN (Reg.ACQ_PU_HOLDOFF u)) ≤ d.tim.clk then d.modPat u (fun p => { p with markAt := none, prevSupp := p.supp, supp := 0 }) else d := by
  simp only [Dev.holdoffEnd, h]

/-- A granted write to a register every bit of which is written and none of which has an undefined code: its action on the whole word. -/
theorem hostRow_word {s : State} {n : Nat} {i : Iface} {a : Nat} {v : Word} {r : RegRow} {e : Dev} (h : s.canWrite i a) (hr : regAt a = some r)
    (hrow : (r.acc = .rw ∨ r.acc = .wo ∨ r.acc = .w1s) ∧ r.wmask = 0xFFFFFFFF ∧ r.act = 0 ∧ r.ranges = [])
    (ha : a ≠ Reg.GLB_CTL ∧ a ≠ Reg.GLB_RESET_CTL ∧ (∀ p < 2, a ≠ Reg.REC_RP_QUOTA p) ∧ ∀ p < 8, a ≠ Reg.TST_PORT_GEN p)
    (hact : (s.dev.tick n).regAct i a v = e) (hc : e.resetCtr = s.dev.resetCtr) : Ends (hostRow s n true i a v) { s with dev := e } := by
  obtain ⟨hacc, hmask, hbits, hranges⟩ := hrow
  have hm (old : Word) : r.merge old v = (v, false) := by
    have hones : w32 0xFFFFFFFF = BitVec.allOnes 32 := rfl
    have hheld : r.merge old v = ((old &&& ~~~ w32 0xFFFFFFFF) ||| (v &&& w32 0xFFFFFFFF), false) := by simp [RegRow.merge, hmask, hbits, hranges]
    rw [hheld, hones, BitVec.not_allOnes, BitVec.and_zero, BitVec.zero_or, BitVec.and_allOnes]
  exact hostRow_act h hr hacc (hm _) ha hact hc

theorem acqRingTail_row : regAt Reg.ACQ_RING_TAIL = some ⟨0x30002C, [], .rw, 0x0, 0xFFFFFFFF, 0x0, []⟩ := by decide +kernel

theorem Dev.regAct_acqRingTail (d : Dev) (i : Iface) (v : Word) : d.regAct i Reg.ACQ_RING_TAIL v = d.acqTailWrite v := by
  rw [regAct_eq]
  rfl

/-- Settles O25: DI_CHANGE on the bus (`Dev.diChange_testBit`), the holdoff, the host ring (`Dev.acqCopy_sent`, `Dev.acqSent_shows`), the gap record
(`Dev.acqAdd_gap`) and the blocks (`Dev.waveBlock_handed`). -/
theorem acquisition : Obligations.Acquisition := by
  refine ⟨?bus, ?mismatch, ?noHoldoff, ?holdoff, ?copy, ?resume, ?gap, ?noResume, ?block, ?tail⟩
  case bus =>
    intro s n m l hb hm
    have hends := upRow_ends s n (fun d => d.diChange m l) hb
    rw [exec_diChange, decide_eq_true hm]
    have hbit := (s.dev.tick n).diChange_testBit m l
    generalize (s.dev.tick n).diChange m l = e at *
    refine hends.with fun _ _ _ _ _ => ⟨fun k hk => ?_, fun ht k hk => ?_⟩
    · have hk64 : k < 64 := Nat.lt_of_not_le fun h => by
        rw [Nat.testBit_lt_two_pow (Nat.lt_of_lt_of_le hm (Nat.pow_le_pow_right (by decide) h))] at hk
        cases hk
      exact (hbit k).trans (if_pos (by rw [decide_eq_true hk64, hk]; rfl))
    · refine (hbit k).trans ((if_neg (by rw [hk, Bool.and_false]; decide)).trans ?_)
      rw [(s.dev.tick n).busFlush_bus ht]
      rfl
  case mismatch =>
    intro s n k hb hk
    rw [exec_diMismatch, decide_eq_true hk]
    exact upRow_ends s n (fun d => d.diMismatch) hb
  case noHoldoff =>
    intro s n u h
    rw [exec_holdoffEnd]
    exact upRow_still s n _ (fun d => d.holdoffEnd u) (Dev.holdoffEnd_none (d := s.dev.tick n) h)
  case holdoff =>
    intro s n u c hb hu hc due
    have hends := upRow_ends s n (fun d => d.holdoffEnd u) hb
    rw [Dev.holdoffEnd_some (d := s.dev.tick n) hc, Dev.tick_clk] at hends
    rw [exec_holdoffEnd, decide_eq_true hu]
    refine ⟨fun h => ?_, fun h => ?_⟩
    · rwa [if_pos (show c + ticksUs ((s.dev.tick n).rdN (Reg.ACQ_PU_HOLDOFF u)) ≤ _ from h)] at hends
    · rwa [if_neg (show ¬ c + ticksUs ((s.dev.tick n).rdN (Reg.ACQ_PU_HOLDOFF u)) ≤ _ from Nat.not_le.mpr h)] at hends
  case copy =>
    intro s n
    have hends := devRow_ends s n fun d => d.acqCopy
    refine ⟨fun h => ?_, fun e he hc hj hd hs hr hg => ?_⟩
    · rw [Dev.acqCopy_none (s.dev.tick n) h] at hends
      exact hends.with fun _ _ _ _ _ => ⟨rfl, rfl⟩
    · rw [Dev.acqCopy_sent (d := s.dev.tick n) he hc hj hd hs hr hg] at hends
      have hshows := (s.dev.tick n).acqSkipped.acqSent_shows e
      generalize (s.dev.tick n).acqSkipped.acqSent e = f at *
      obtain ⟨hseq, hout, hhead⟩ := hshows
      refine hends.with fun _ _ _ _ _ => ⟨hseq, hout, ?_⟩
      have hlt : (s.dev.rdN Reg.ACQ_RING_HEAD + e.bytes.length) % s.dev.rdN Reg.ACQ_RING_SIZE < 2 ^ 32 :=
        Nat.lt_trans (Nat.mod_lt _ hs) (BitVec.isLt _)
      exact (congrArg BitVec.toNat hhead).trans ((w32_toNat _).trans (Nat.mod_eq_of_lt hlt))
  case resume =>
    intro s n hp hu
    have hends := devRow_ends s n fun d => d.acqResume
    have hgo : ((s.dev.tick n).acq.paused && decide ((s.dev.tick n).acqUnsent ≤ (s.dev.tick n).rdN Reg.ACQ_RESUME_MB * 1048576)) = true := by
      rw [show (s.dev.tick n).acq.paused = true from hp, Bool.true_and]
      exact decide_eq_true hu
    rwa [Dev.acqResume, if_pos hgo] at hends
  case gap =>
    intro d k e c m w f hon hp hl h hroom
    obtain ⟨hok, hlost, hclk, hmem⟩ := Dev.acqAdd_gap k e hon hp hl h hroom
    exact ⟨hok, hlost, hclk, _, hmem, rfl, rfl, d.gapBytes_kind .., d.gapBytes_from .., d.gapBytes_to ..⟩
  case noResume =>
    intro s n h
    have hends := devRow_ends s n fun d => d.acqResume
    have hno : ((s.dev.tick n).acq.paused && decide ((s.dev.tick n).acqUnsent ≤ (s.dev.tick n).rdN Reg.ACQ_RESUME_MB * 1048576)) = false := by
      rcases h with hp | hu
      · rw [show (s.dev.tick n).acq.paused = false from hp, Bool.false_and]
      · rw [decide_eq_false (show ¬ (s.dev.tick n).acqUnsent ≤ (s.dev.tick n).rdN Reg.ACQ_RESUME_MB * 1048576 from Nat.not_le.mpr hu), Bool.and_false]
    rwa [Dev.acqResume, hno, if_neg Bool.false_ne_true] at hends
  case block =>
    intro s n g hg w k
    have hends := devRow_ends s n fun d => d.waveBlock g
    rw [exec_waveBlock, decide_eq_true hg]
    refine ⟨fun h => ?_, fun h0 hlen hon hp hroom => ?_⟩
    · rwa [Dev.waveBlock_short (s.dev.tick n) g h] at hends
    · obtain ⟨e, l, hrest, heq⟩ := Dev.waveBlock_handed (d := s.dev.tick n) (g := g) h0 hlen hon hp hroom
      have hshows := (s.dev.tick n).waveHanded_shows g l hrest
      rw [heq] at hends
      generalize e.waveHanded g _ = f at *
      exact hends.with fun _ _ _ _ _ => hshows
  case tail =>
    intro s n i v h
    have hends := hostRow_word (e := (s.dev.tick n).acqTailWrite v) h acqRingTail_row ⟨.inl rfl, rfl, rfl, rfl⟩ (by decide)
      ((s.dev.tick n).regAct_acqRingTail i v) rfl
    rw [Dev.acqTailWrite, Dev.tick_clk] at hends
    rw [exec_acqRingTailWrite]
    exact hends

end Sys2Proof.Machine

/-! Compression jobs: taking, ending, completing (R639 to R652; O26). -/

namespace Sys2Proof.Machine

/-- The entries that are held, the next SQ_INDEX out, and the count of jobs of an engine. -/
def Dev.jobView (d : Dev) (w e : Nat) : List (Nat × (Nat × Nat × Nat × Nat)) × Nat × Word :=
  (d.cmp.entries, d.cmp.nextOut, d.rd (wingAddr w (Reg.CMP_E_JOBS e)))

section
variable (d : Dev)

theorem Dev.jobView_congr {d e : Dev} {w k : Nat} (hc : e.cmp = d.cmp) (hr : e.rd (wingAddr w (Reg.CMP_E_JOBS k)) = d.rd (wingAddr w (Reg.CMP_E_JOBS k))) :
    e.jobView w k = d.jobView w k := by rw [Dev.jobView, Dev.jobView, hc, hr]

theorem Dev.wrN_jobView {w k a : Nat} (h : wingAddr w (Reg.CMP_E_JOBS k) ≠ a) (v : Nat) : (d.wrN a v).jobView w k = d.jobView w k :=
  Dev.jobView_congr rfl (Dev.rd_wrN_ne _ h _)

theorem Dev.inc_jobView {w k a : Nat} (h : wingAddr w (Reg.CMP_E_JOBS k) ≠ a) (n : Nat) : (d.inc a n).jobView w k = d.jobView w k :=
  Dev.jobView_congr (congrArg Dev.cmp (d.inc_besideRecs a n) :) (Dev.rd_inc_ne _ _ h)

theorem Dev.inc64_jobView {w k a b : Nat} (ha : wingAddr w (Reg.CMP_E_JOBS k) ≠ a) (hb : wingAddr w (Reg.CMP_E_JOBS k) ≠ b) (n : Nat) :
    (d.inc64 a b n).jobView w k = d.jobView w k := by
  rw [Dev.inc64, Dev.wr64, Dev.wrN_jobView _ hb, Dev.wrN_jobView _ ha]

theorem Dev.raise_jobView {w k a : Nat} (h : wingAddr w (Reg.CMP_E_JOBS k) ≠ a) (n : Nat) : (d.raise a n).jobView w k = d.jobView w k :=
  Dev.jobView_congr rfl (Dev.rd_raise_ne _ _ h)

theorem Dev.putB_jobView {w k a : Nat} (h : wingAddr w (Reg.CMP_E_JOBS k) ≠ a) (n : Nat) (b : Bool) : (d.putB a n b).jobView w k = d.jobView w k :=
  Dev.jobView_congr rfl (Dev.rd_wr_ne _ h _)

theorem Dev.recordLocal_rd_ne (w typ : Nat) (b : Bytes) {a : Nat} (h : a ≠ Reg.REC_LOST_CNT) : (d.recordLocal w typ b).rd a = d.rd a := by
  unfold Dev.recordLocal
  dsimp only
  split <;> exact d.intake_rd_ne _ h

theorem Dev.recordLocal_jobView {w k : Nat} (h : wingAddr w (Reg.CMP_E_JOBS k) ≠ Reg.REC_LOST_CNT) (v typ : Nat) (b : Bytes) :
    (d.recordLocal v typ b).jobView w k = d.jobView w k :=
  Dev.jobView_congr (congrArg Dev.cmp (d.recordLocal_besideRecs v typ b) :) (d.recordLocal_rd_ne v typ b h)

theorem Dev.modCmpW_eq (w : Nat) (f : CmpWing → CmpWing) : ∃ x y, d.modCmpW w f = { d with cmp := { d.cmp with w0 := x, w1 := y } } := by
  unfold Dev.modCmpW
  split
  · exact ⟨_, d.cmp.w1, rfl⟩
  · exact ⟨d.cmp.w0, _, rfl⟩

@[simp] theorem Dev.modCmpW_jobView (v w k : Nat) (f : CmpWing → CmpWing) : (d.modCmpW v f).jobView w k = d.jobView w k := by
  obtain ⟨_, _, h⟩ := d.modCmpW_eq v f
  rw [h]
  rfl

/-- What the start of jobs leaves: all but the engines and the queues of jobs. -/
def Dev.besideEngines : Dev := { d with cmp := { d.cmp with w0 := State.reset.dev.cmp.w0, w1 := State.reset.dev.cmp.w1, waitHost := [] } }

@[simp] theorem Dev.modCmpW_besideEngines (w : Nat) (f : CmpWing → CmpWing) : (d.modCmpW w f).besideEngines = d.besideEngines := by
  obtain ⟨_, _, h⟩ := d.modCmpW_eq w f
  rw [h]
  rfl

theorem Dev.cmpStartE_besideEngines (w e : Nat) : (d.cmpStartE w e).besideEngines = d.besideEngines := by
  unfold Dev.cmpStartE
  dsimp only
  split
  · rfl
  split
  · simp
  · simp
  · split
    · simp only [Dev.modCmpW_besideEngines]
      rfl
    · rfl
  · rfl

theorem Dev.cmpStart_besideEngines : d.cmpStart.besideEngines = d.besideEngines := by
  simp only [Dev.cmpStart, Dev.cmpStartE_besideEngines]

theorem Dev.cmpStart_jobView (w k : Nat) : d.cmpStart.jobView w k = d.jobView w k := by
  have h := d.cmpStart_besideEngines
  generalize d.cmpStart = e at *
  exact Prod.ext (congrArg (·.cmp.entries) h :) (Prod.ext (congrArg (·.cmp.nextOut) h :) (congrArg (Dev.rd · (wingAddr w (Reg.CMP_E_JOBS k))) h :))

end

/-! CMP_JOB_TAKE (R650). -/

section
variable (d : Dev)

/-- The host path has a descriptor to take and room for its entry. -/
def Dev.cmpMayTake : Bool :=
  d.cmpHostRuns && d.dma && d.fld Reg.CMP_SQ_HEAD 11 0 ≠ d.fld Reg.CMP_SQ_TAIL 11 0 &&
    decide (d.cmp.sqIndex - d.cmp.nextOut < ringRoom (d.fld Reg.CMP_CQ_SIZE 12 0) (d.fld Reg.CMP_CQ_HEAD 11 0) (d.fld Reg.CMP_CQ_TAIL 11 0))

/-- The machine with a job taken from the descriptor ring, before an engine takes it. -/
def Dev.cmpTaken (j : CmpJob) : Dev :=
  let e : Dev := { d with cmp := { d.cmp with sqIndex := d.cmp.sqIndex + 1, waitHost := d.cmp.waitHost ++ [j] } }
  (e.wrBoth Reg.CMP_SQ_TAIL ((d.fld Reg.CMP_SQ_TAIL 11 0 + 1) % d.fld Reg.CMP_SQ_SIZE 12 0)).wrBoth Reg.CMP_HOST_IDX e.cmp.sqIndex

theorem Dev.cmpTake_none (h : d.cmpMayTake = false) : d.cmpTake = d := if_neg (Bool.eq_false_iff.mp h)

theorem Dev.cmpTake_takes (h : d.cmpMayTake = true) : ∃ j, d.cmpTake = (d.cmpTaken j).cmpStart := ⟨_, if_pos h⟩

/-- A job taken has the next SQ_INDEX, and SQ_TAIL moves on. -/
theorem Dev.cmpTaken_shows (j : CmpJob) : (d.cmpTaken j).cmpStart.cmp.sqIndex = d.cmp.sqIndex + 1 ∧ (d.cmpTaken j).cmpStart.cmp.nextOut = d.cmp.nextOut ∧
    (d.cmpTaken j).cmpStart.rd Reg.CMP_SQ_TAIL = w32 ((d.fld Reg.CMP_SQ_TAIL 11 0 + 1) % d.fld Reg.CMP_SQ_SIZE 12 0) := by
  have h := (d.cmpTaken j).cmpStart_besideEngines
  have hrd : (d.cmpTaken j).rd Reg.CMP_SQ_TAIL = w32 ((d.fld Reg.CMP_SQ_TAIL 11 0 + 1) % d.fld Reg.CMP_SQ_SIZE 12 0) := by
    rw [Dev.cmpTaken, Dev.wrBoth, Dev.rd_wrN_ne _ (by decide), Dev.rd_wrN_ne _ (by decide), Dev.wrBoth, Dev.rd_wrN_ne _ (by decide)]
    exact Dev.rd_wr_same _ _ _
  generalize (d.cmpTaken j).cmpStart = e at *
  exact ⟨(congrArg (·.cmp.sqIndex) h :), (congrArg (·.cmp.nextOut) h :), (congrArg (Dev.rd · Reg.CMP_SQ_TAIL) h :).trans hrd⟩

end

/-! CMP_JOB_DONE (R639, R643, R652), in its parts. -/

/-- The registers of a wing that the end of a job counts in, but for its count of jobs. -/
def jobRegs (w e : Nat) : List Nat :=
  [Reg.CMP_E_IN_LO e, Reg.CMP_E_IN_HI e, Reg.CMP_E_OUT_LO e, Reg.CMP_E_OUT_HI e, Reg.CMP_E_NOT_SMALLER_CNT e, Reg.CMP_E_OUT_FULL_CNT e,
    Reg.CMP_BAD_DESC_CNT, Reg.CMP_INT_STATUS, Reg.CMP_E_VERIFY_FAIL_CNT e, Reg.CMP_STATUS].map (wingAddr w)

theorem jobs_notin_jobRegs (w e : Nat) : ∀ a ∈ jobRegs w e, wingAddr w (Reg.CMP_E_JOBS e) ≠ a := by
  simp only [jobRegs, List.map_cons, List.map_nil, List.mem_cons, List.not_mem_nil, or_false, forall_eq_or_imp, forall_eq]
  unfold wingAddr Reg.CMP_E_JOBS Reg.CMP_E_IN_LO Reg.CMP_E_IN_HI Reg.CMP_E_OUT_LO Reg.CMP_E_OUT_HI Reg.CMP_E_NOT_SMALLER_CNT Reg.CMP_E_OUT_FULL_CNT
    Reg.CMP_BAD_DESC_CNT Reg.CMP_INT_STATUS Reg.CMP_E_VERIFY_FAIL_CNT Reg.CMP_STATUS
  split <;> omega

section
variable (d : Dev) (w e : Nat) (j : CmpJob) (at' : Nat) (r : Nat × Bytes × Nat × Nat)

/-- The engine is idle, and its job counted. -/
def Dev.jobFreed : Dev :=
  (d.modCmpW w (fun c => c.modEng e (fun g => { g with job := none, busy := g.busy + (d.tim.clk - at') }))).incW (wingAddr w (Reg.CMP_E_JOBS e)) 1

/-- What the result of a job counts. -/
def Dev.jobCounted : Dev :=
  if r.1 = 0 then
    (d.inc64 (wingAddr w (Reg.CMP_E_IN_LO e)) (wingAddr w (Reg.CMP_E_IN_HI e)) r.2.2.2).inc64 (wingAddr w (Reg.CMP_E_OUT_LO e))
      (wingAddr w (Reg.CMP_E_OUT_HI e)) r.2.1.length
  else if r.1 = 1 then d.inc (wingAddr w (Reg.CMP_E_NOT_SMALLER_CNT e)) 1
  else if r.1 = 2 then d.inc (wingAddr w (Reg.CMP_E_OUT_FULL_CNT e)) 1
  else if r.1 = 4 then (d.inc (wingAddr w Reg.CMP_BAD_DESC_CNT) 1).raise (wingAddr w Reg.CMP_INT_STATUS) 3
  else d

/-- A result that fails its verification takes the engine out of service (R643). -/
def Dev.jobVerified : Dev :=
  if r.1 = 3 then
    let d := d.modCmpW w (fun c => c.modEng e (fun g => { g with fault := true }))
    let d := d.recordLocal w 0x0F01 (be 1 w ++ be 1 e ++ be 1 j.src ++ zeros 1 ++ be 4 j.index ++ zeros 8)
    (((d.inc (wingAddr w (Reg.CMP_E_VERIFY_FAIL_CNT e)) 1).putB (wingAddr w Reg.CMP_STATUS) e false).raise (wingAddr w Reg.CMP_INT_STATUS) 1).raise
      (wingAddr w Reg.CMP_INT_STATUS) 2
  else d

/-- The result of a host job: its bytes in host memory, and its entry held. -/
def Dev.jobEntered : Dev :=
  let d := if r.1 = 0 then d.dmaWrite j.dst r.2.1 else if r.1 = 8 then d.dstOpen j else d
  { d with cmp := { d.cmp with entries := d.cmp.entries ++ [(j.no, (r.2.2.1, r.2.2.2, r.1, e + 2 * w))] } }

/-- The result of a device job: returned by the active wing, held by the standby while it is owed. -/
def Dev.jobReturned : Dev :=
  let out := if r.1 = 0 then some r.2.1 else none
  if w = d.active then { (d.cmpReturn j out) with cmp := { (d.cmpReturn j out).cmp with early := d.cmp.early.filter (fun x => x.1.no != j.no) } }
  else if d.cmpOwed j then { d with cmp := { d.cmp with early := d.cmp.early ++ [(j, out)] } }
  else d

/-- The machine before what comes of the result. -/
def Dev.jobEnded : Dev := (((d.jobFreed w e at').jobCounted w e r).jobVerified w e j r)

variable {d w e j at'} in
theorem Dev.cmpDone_some {v k : Bool} (h : ((d.cmpW w).eng e).job = some (j, at')) : d.cmpDone w e v k =
    ((if j.src = 2 then (d.jobEnded w e j at' (jobResult j v k)).jobEntered w e j (jobResult j v k)
      else (d.jobEnded w e j at' (jobResult j v k)).jobReturned w j (jobResult j v k)).cmpStart, (jobResult j v k).1 == 3 && j.src != 2) := by
  unfold Dev.cmpDone
  rw [h]
  rfl

theorem Dev.cmpDone_none {v k : Bool} (h : ((d.cmpW w).eng e).job = none) : d.cmpDone w e v k = (d, false) := by
  unfold Dev.cmpDone
  rw [h]

theorem Dev.jobFreed_jobView : (d.jobFreed w e at').jobView w e =
    (d.cmp.entries, d.cmp.nextOut, w32 (d.rdN (wingAddr w (Reg.CMP_E_JOBS e)) + 1)) := by
  obtain ⟨x, y, h⟩ := d.modCmpW_eq w (fun c => c.modEng e (fun g => { g with job := none, busy := g.busy + (d.tim.clk - at') }))
  rw [Dev.jobFreed, h]
  exact Prod.ext rfl (Prod.ext rfl (Dev.rd_wr_same _ _ _))

theorem Dev.jobCounted_jobView : (d.jobCounted w e r).jobView w e = d.jobView w e := by
  have hne := jobs_notin_jobRegs w e
  simp only [jobRegs, List.map_cons, List.map_nil, List.mem_cons, List.not_mem_nil, or_false, forall_eq_or_imp, forall_eq] at hne
  obtain ⟨hil, hih, hol, hoh, hsmall, hfull, hdesc, hint, -, -⟩ := hne
  unfold Dev.jobCounted
  split
  · rw [Dev.inc64_jobView _ hol hoh, Dev.inc64_jobView _ hil hih]
  split
  · exact d.inc_jobView hsmall 1
  split
  · exact d.inc_jobView hfull 1
  split
  · rw [Dev.raise_jobView _ hint, Dev.inc_jobView _ hdesc]
  · rfl

theorem Dev.jobVerified_jobView : (d.jobVerified w e j r).jobView w e = d.jobView w e := by
  have hne := jobs_notin_jobRegs w e
  simp only [jobRegs, List.map_cons, List.map_nil, List.mem_cons, List.not_mem_nil, or_false, forall_eq_or_imp, forall_eq] at hne
  obtain ⟨-, -, -, -, -, -, -, hint, hfail, hstatus⟩ := hne
  have hlost : wingAddr w (Reg.CMP_E_JOBS e) ≠ Reg.REC_LOST_CNT := by
    unfold wingAddr Reg.CMP_E_JOBS Reg.REC_LOST_CNT wingOfs
    split <;> omega
  unfold Dev.jobVerified
  split
  · rw [Dev.raise_jobView _ hint, Dev.raise_jobView _ hint, Dev.putB_jobView _ hstatus, Dev.inc_jobView _ hfail, Dev.recordLocal_jobView _ hlost,
      Dev.modCmpW_jobView]
  · rfl

theorem Dev.jobEnded_jobView : (d.jobEnded w e j at' r).jobView w e =
    (d.cmp.entries, d.cmp.nextOut, w32 (d.rdN (wingAddr w (Reg.CMP_E_JOBS e)) + 1)) := by
  rw [Dev.jobEnded, Dev.jobVerified_jobView, Dev.jobCounted_jobView, Dev.jobFreed_jobView]

theorem Dev.dmaWrite_jobView (a : Nat) (b : Bytes) : (d.dmaWrite a b).jobView w e = d.jobView w e := by
  unfold Dev.dmaWrite
  split <;> rfl

theorem Dev.jobEntered_jobView : (d.jobEntered w e j r).jobView w e =
    ((d.jobView w e).1 ++ [(j.no, (r.2.2.1, r.2.2.2, r.1, e + 2 * w))], (d.jobView w e).2) := by
  have hmem : (if r.1 = 0 then d.dmaWrite j.dst r.2.1 else if r.1 = 8 then d.dstOpen j else d).jobView w e = d.jobView w e := by
    split
    · exact d.dmaWrite_jobView w e _ _
    split
    · exact Dev.dmaWrite_jobView d.free.2 w e _ _
    · rfl
  rw [← hmem]
  rfl

theorem Dev.waveReturn_jobView (no : Nat) (out : Option Bytes) : (d.waveReturn no out).jobView w e = d.jobView w e := by
  have hint : wingAddr w (Reg.CMP_E_JOBS e) ≠ Reg.ACQ_INT_STATUS := by
    unfold wingAddr Reg.CMP_E_JOBS Reg.ACQ_INT_STATUS wingOfs
    split <;> omega
  have hraw (g : Nat) (hg : g < 256) : wingAddr w (Reg.CMP_E_JOBS e) ≠ Reg.ACQ_WG_RAW_CNT g := by
    unfold wingAddr Reg.CMP_E_JOBS Reg.ACQ_WG_RAW_CNT wingOfs
    split <;> omega
  unfold Dev.waveReturn
  split
  · rfl
  · dsimp only
    split
    · rw [Dev.raise_jobView _ hint, Dev.inc_jobView _ (hraw _ (BitVec.isLt _))]
      rfl
    · rfl

theorem Dev.cmpReturn_jobView (out : Option Bytes) : (d.cmpReturn j out).jobView w e = d.jobView w e := by
  unfold Dev.cmpReturn
  split
  · exact d.waveReturn_jobView w e _ _
  split <;> rfl

theorem Dev.jobReturned_jobView : (d.jobReturned w j r).jobView w e = d.jobView w e := by
  unfold Dev.jobReturned
  dsimp only
  split
  · exact d.cmpReturn_jobView w e j _
  split <;> rfl

end

/-! CMP_COMPLETION_WRITE (R651, R652). -/

section
variable (d : Dev)

/-- The entry of the next SQ_INDEX may be written. -/
def Dev.cmpMayWrite : Bool :=
  ringSizeOk (d.fld Reg.CMP_CQ_SIZE 12 0) && d.dma &&
    0 < ringRoom (d.fld Reg.CMP_CQ_SIZE 12 0) (d.fld Reg.CMP_CQ_HEAD 11 0) (d.fld Reg.CMP_CQ_TAIL 11 0) && d.gateOpen d.active 2164 d.cmp.nextOut

/-- The machine with an entry of the completion ring written. -/
def Dev.cmpWritten (x : Nat × Nat × Nat × Nat) : Dev :=
  let i := d.cmp.nextOut
  let n := d.fld Reg.CMP_CQ_SIZE 12 0
  let head := d.fld Reg.CMP_CQ_HEAD 11 0
  let d := d.gatePass 2164 i
  let b := le 4 i ++ le 4 x.1 ++ le 4 x.2.1 ++ le 1 x.2.2.1 ++ le 1 x.2.2.2 ++ zeros 1 ++ le 1 (b2n d.cmp.phase)
  let d := d.dmaWrite (d.rd64 Reg.CMP_CQ_BASE_LO Reg.CMP_CQ_BASE_HI + 16 * head) b
  let ph := if head + 1 = n then !d.cmp.phase else d.cmp.phase
  let d := { d with cmp := { d.cmp with nextOut := i + 1, entries := d.cmp.entries.filter (fun x => x.1 != i), phase := ph } }
  (d.wrBoth Reg.CMP_CQ_HEAD ((head + 1) % n)).raise (wingAddr d.active Reg.CMP_INT_STATUS) 0

variable {d} in
theorem Dev.cmpEntry_none (h : d.cmp.entries.find? (fun x => x.1 == d.cmp.nextOut) = none) : d.cmpEntry = d := by
  unfold Dev.cmpEntry
  simp only [h]

variable {d} in
theorem Dev.cmpEntry_written {x : Nat × Nat × Nat × Nat × Nat} (h : d.cmp.entries.find? (fun x => x.1 == d.cmp.nextOut) = some x)
    (hw : d.cmpMayWrite = true) : d.cmpEntry = d.cmpWritten x.2 := by
  unfold Dev.cmpEntry
  simp only [h]
  exact if_pos hw

theorem Dev.dmaWrite_eq (a : Nat) (b : Bytes) : ∃ m, d.dmaWrite a b = { d with host := { d.host with mem := m } } := by
  unfold Dev.dmaWrite
  split
  · exact ⟨_, rfl⟩
  · exact ⟨d.host.mem, rfl⟩

/-- An entry written passes its gate, moves CQ_HEAD on and is held no more. -/
theorem Dev.cmpWritten_shows (x : Nat × Nat × Nat × Nat) : (d.cmpWritten x).cmp.nextOut = d.cmp.nextOut + 1 ∧
    tget 0 (d.cmpWritten x).units.outSeq 2164 = d.cmp.nextOut + 1 ∧
    (d.cmpWritten x).rd Reg.CMP_CQ_HEAD = w32 ((d.fld Reg.CMP_CQ_HEAD 11 0 + 1) % d.fld Reg.CMP_CQ_SIZE 12 0) ∧
    ∀ y ∈ (d.cmpWritten x).cmp.entries, y.1 ≠ d.cmp.nextOut := by
  obtain ⟨m, h⟩ := (d.gatePass 2164 d.cmp.nextOut).dmaWrite_eq
    ((d.gatePass 2164 d.cmp.nextOut).rd64 Reg.CMP_CQ_BASE_LO Reg.CMP_CQ_BASE_HI + 16 * d.fld Reg.CMP_CQ_HEAD 11 0)
    (le 4 d.cmp.nextOut ++ le 4 x.1 ++ le 4 x.2.1 ++ le 1 x.2.2.1 ++ le 1 x.2.2.2 ++ zeros 1 ++ le 1 (b2n (d.gatePass 2164 d.cmp.nextOut).cmp.phase))
  have hint : ∀ v : Nat, Reg.CMP_CQ_HEAD ≠ wingAddr v Reg.CMP_INT_STATUS := fun v => by
    unfold wingAddr Reg.CMP_CQ_HEAD Reg.CMP_INT_STATUS wingOfs
    split <;> omega
  unfold Dev.cmpWritten
  simp only [h]
  refine ⟨rfl, d.gatePass_seq (by decide) d.cmp.nextOut, ?_, fun y hy => ?_⟩
  · rw [Dev.rd_raise_ne _ _ (hint _), Dev.wrBoth, Dev.rd_wrN_ne _ (by decide)]
    exact Dev.rd_wr_same _ _ _
  · have hy : y ∈ (d.gatePass 2164 d.cmp.nextOut).cmp.entries.filter (fun x => x.1 != d.cmp.nextOut) := hy
    simpa using (List.mem_filter.mp hy).2

end

/-- The row of the end of a job that faults no wing. -/
theorem cmpJobDone_ends {s : State} {n w e : Nat} {v k : Bool} {d : Dev} (hw : w < 2) (he : e < 2) (h : (s.dev.tick n).cmpDone w e v k = (d, false)) :
    Ends (exec (.cmpJobDone n w e v k) s) { s with dev := d } := by
  have hends := devRow_ends s n fun d => if (d.cmpDone w e v k).2 then (d.cmpDone w e v k).1.wingFault w 7 else (d.cmpDone w e v k).1
  rw [h] at hends
  rw [exec_cmpJobDone, decide_eq_true hw, decide_eq_true he]
  exact hends

/-- What the end of a job shows of its engine and its entry. -/
theorem Ends.jobView {o : Host.Outcome State Fault Refusal} {s : State} {d : Dev} {w e m : Nat} {l : List (Nat × (Nat × Nat × Nat × Nat))} {k : Nat}
    (ho : Ends o { s with dev := d }) (h : d.jobView w e = (l, m, w32 k)) : EndsWith o (fun t => t.dev.cmp.entries = l ∧ t.dev.cmp.nextOut = m ∧
      t.dev.rdN (wingAddr w (Reg.CMP_E_JOBS e)) = k % 2 ^ 32) := by
  obtain ⟨hl, hm, hk⟩ : d.cmp.entries = l ∧ d.cmp.nextOut = m ∧ d.rd (wingAddr w (Reg.CMP_E_JOBS e)) = w32 k := by
    simpa [Dev.jobView] using h
  exact ho.with fun _ _ _ _ _ => ⟨hl, hm, (congrArg BitVec.toNat hk).trans (w32_toNat k)⟩

theorem w32_index {v n : Nat} (h : n < 2 ^ 13) (hv : v < n) : (w32 v).toNat = v := by
  rw [w32_toNat, Nat.mod_eq_of_lt (by omega)]

/-- Settles O26: CMP_JOB_TAKE (`Dev.cmpTaken_shows`), CMP_JOB_DONE in its parts (`Dev.cmpDone_some`, `Dev.jobEnded_jobView`) and CMP_COMPLETION_WRITE
(`Dev.cmpWritten_shows`). -/
theorem compressionJobs : Obligations.CompressionJobs := by
  have hring (n : Nat) (h : ringSizeOk n = true) : 0 < n := Nat.pos_of_ne_zero fun h0 => by
    rw [h0] at h
    exact absurd h (by decide)
  refine ⟨?take, ?done, ?write⟩
  case take =>
    intro s n tail room
    have hends := devRow_ends s n fun d => d.cmpTake
    refine ⟨fun hr hd hne hroom => ?_, fun h => ?_⟩
    · have hgo : (s.dev.tick n).cmpMayTake = true := by
        rw [Dev.cmpMayTake, show (s.dev.tick n).cmpHostRuns = true from hr, show (s.dev.tick n).dma = true from hd]
        rw [Bool.true_and, Bool.true_and, Bool.and_eq_true]
        exact ⟨decide_eq_true hne, decide_eq_true hroom⟩
      obtain ⟨j, hj⟩ := (s.dev.tick n).cmpTake_takes hgo
      have hshows := (s.dev.tick n).cmpTaken_shows j
      rw [hj] at hends
      generalize ((s.dev.tick n).cmpTaken j).cmpStart = e at *
      obtain ⟨hindex, hout, htail⟩ := hshows
      refine hends.with fun _ _ _ _ _ => ⟨hindex, hout, (congrArg BitVec.toNat htail).trans ?_⟩
      have hsize : 0 < s.dev.fld Reg.CMP_SQ_SIZE 12 0 := hring _ (by
        rw [Dev.cmpHostRuns, Bool.and_eq_true, Bool.and_eq_true] at hr
        exact hr.1.2)
      exact w32_index (bits_lt _ 12 0) (Nat.mod_lt _ hsize)
    · have hno : (s.dev.tick n).cmpMayTake = false := by
        rw [Dev.cmpMayTake, Bool.and_eq_false_iff, Bool.and_eq_false_iff, Bool.and_eq_false_iff]
        rcases h with h | h | h | h
        · exact .inl (.inl (.inl h))
        · exact .inl (.inl (.inr h))
        · exact .inl (.inr (decide_eq_false (not_not_intro h)))
        · exact .inr (decide_eq_false (Nat.not_lt.mpr h))
      rwa [Dev.cmpTake_none _ hno] at hends
  case done =>
    intro s n w e v k hw he
    refine ⟨fun h => ?_, ?_, fun j at' h hsrc hst => ?_⟩
    · exact cmpJobDone_ends hw he (Dev.cmpDone_none (s.dev.tick n) w e h)
    · intro j at' h hsrc r
      have hdone := Dev.cmpDone_some (d := s.dev.tick n) (v := v) (k := k) h
      rw [if_pos hsrc, show ((jobResult j v k).1 == 3 && j.src != 2) = false by simp [hsrc]] at hdone
      refine (cmpJobDone_ends hw he hdone).jobView ?_
      rw [Dev.cmpStart_jobView, Dev.jobEntered_jobView, Dev.jobEnded_jobView]
      rfl
    · have hdone := Dev.cmpDone_some (d := s.dev.tick n) (v := v) (k := k) h
      rw [if_neg hsrc, show ((jobResult j v k).1 == 3 && j.src != 2) = false by simp [hst]] at hdone
      refine (cmpJobDone_ends hw he hdone).jobView ?_
      rw [Dev.cmpStart_jobView, Dev.jobReturned_jobView, Dev.jobEnded_jobView]
      rfl
  case write =>
    intro s n
    have hends := devRow_ends s n fun d => d.cmpEntry
    refine ⟨fun h => ?_, fun x h hsize hd hroom hg => ?_⟩
    · rwa [Dev.cmpEntry_none (d := s.dev.tick n) h] at hends
    · have hgo : (s.dev.tick n).cmpMayWrite = true := by
        rw [Dev.cmpMayWrite, show ringSizeOk ((s.dev.tick n).fld Reg.CMP_CQ_SIZE 12 0) = true from hsize, show (s.dev.tick n).dma = true from hd,
          show (s.dev.tick n).gateOpen (s.dev.tick n).active 2164 (s.dev.tick n).cmp.nextOut = true from hg, Bool.and_true]
        exact decide_eq_true hroom
      rw [Dev.cmpEntry_written (d := s.dev.tick n) h hgo] at hends
      have hshows := (s.dev.tick n).cmpWritten_shows x.2
      generalize (s.dev.tick n).cmpWritten x.2 = e at *
      obtain ⟨hnext, hout, hhead, hentries⟩ := hshows
      exact hends.with fun _ _ _ _ _ => ⟨hnext, hout,
        (congrArg BitVec.toNat hhead).trans (w32_index (bits_lt _ 12 0) (Nat.mod_lt _ (hring _ hsize))), hentries⟩

end Sys2Proof.Machine

/-! The rings of the event recorder (R661 to R671; O49). -/

namespace Sys2Proof.Machine

/-- The machine but for its registers and the marks of the tick. -/
def Dev.besideRegs (d : Dev) : Dev := { d with regs := [], hw := ⟨0, []⟩ }

section
variable (d : Dev)

@[simp] theorem Dev.wr_besideRegs (a : Nat) (v : Word) : (d.wr a v).besideRegs = d.besideRegs := rfl
@[simp] theorem Dev.wrN_besideRegs (a v : Nat) : (d.wrN a v).besideRegs = d.besideRegs := rfl
@[simp] theorem Dev.wrSat_besideRegs (a v : Nat) : (d.wrSat a v).besideRegs = d.besideRegs := rfl
@[simp] theorem Dev.wr64_besideRegs (a b v : Nat) : (d.wr64 a b v).besideRegs = d.besideRegs := rfl
@[simp] theorem Dev.raise_besideRegs (a k : Nat) : (d.raise a k).besideRegs = d.besideRegs := rfl

@[simp] theorem Dev.inc_besideRegs (a n : Nat) : (d.inc a n).besideRegs = d.besideRegs := by
  obtain ⟨_, _, h⟩ := d.inc_eq a n
  rw [h]
  rfl

end

/-- What a count reads after it. -/
theorem Dev.rd_inc_same (d : Dev) (a n : Nat) :
    (d.inc a n).rd a = if d.rdN a + n < 2 ^ 32 then w32 (d.rdN a + n) else Config.countPast a := by
  unfold Dev.inc
  dsimp only
  split
  · exact Dev.rd_wr_same _ _ _
  · exact Dev.rd_wr_same _ _ _

/-! Sequence (R662, R665, R670, R671). -/

section
variable (d : Dev) (r : RecIn)

/-- A keep record that draws on the budget, and finds it spent. -/
def Dev.recSkips : Bool := d.keepOf r.typ && !keepFixed.contains r.typ && min d.evr.budget (d.fld Reg.REC_CTL 15 8) == 0

/-- FLAGS of a record. -/
def Dev.recFlags : Nat := b2n (d.keepOf r.typ) + 2 * b2n (d.recSkips r) + (match r.wing with | some w => 4 + 8 * (w % 2) | none => 0)

/-- The budget after a record (R671). -/
def Dev.recBudget : Nat :=
  if d.keepOf r.typ && !keepFixed.contains r.typ then min d.evr.budget (d.fld Reg.REC_CTL 15 8) - 1 else min d.evr.budget (d.fld Reg.REC_CTL 15 8)

theorem Dev.seqFloor_eq (n : Nat) : ∃ f, d.seqFloor n = { d with nv := { d.nv with seqFloor := f } } := by
  unfold Dev.seqFloor
  split
  · exact ⟨_, rfl⟩
  · exact ⟨d.nv.seqFloor, rfl⟩

/-- A record sequenced: the machine but for its registers and the SEQ floor. -/
theorem Dev.sequence_eq : ∃ f, (d.sequence r).besideRegs = { d.besideRegs with
    nv := { d.nv with seqFloor := f }
    evr := { d.evr with nextSeq := d.evr.nextSeq + 1, budget := d.recBudget r, mirroring := d.evr.mirroring ++ [⟨d.evr.nextSeq, d.recFlags r, r⟩] } } := by
  obtain ⟨f, hf⟩ := d.seqFloor_eq (d.evr.nextSeq + 1)
  obtain ⟨g, k, hinc⟩ := ({ d with nv := { d.nv with seqFloor := f } } : Dev).inc_eq Reg.REC_NV_SKIP_CNT 1
  refine ⟨f, ?_⟩
  unfold Dev.sequence
  simp only [hf, hinc]
  split <;> rfl

end

/-! The DRAM ring (R669). -/

/-- The machine but for its registers, the DRAM ring and the holds of its ports. -/
def Dev.besideDram (d : Dev) : Dev :=
  { d.besideRegs with evr := { d.evr with dram := ⟨[], []⟩, holdFull0 := false, holdFull1 := false } }

theorem Dev.holdFull_besideDram (d : Dev) : d.holdFull.besideDram = d.besideDram := by
  unfold Dev.holdFull
  dsimp only
  split <;> rfl

theorem evict_besideDram (d : Dev) (fuel need : Nat) : (evict d fuel need).besideDram = d.besideDram := by
  induction fuel generalizing d with
  | zero => rfl
  | succ fuel ih =>
    unfold evict
    split
    · rfl
    dsimp only
    split
    · exact d.holdFull_besideDram
    · rw [ih]
      exact d.holdFull_besideDram

theorem evict_fits {d : Dev} {need : Nat} (fuel : Nat) (h : d.evr.dram.fill + need ≤ dramBytes) : evict d (fuel + 1) need = d := if_pos h

section
variable (d : Dev) (x : Stored) (q : List Stored)

/-- The standby's copies without that of a record. -/
def Dev.standbyWithout : List (Nat × RecIn) :=
  match d.evr.standbyHeld.findIdx? (fun y => y.2.typ == x.r.typ && y.2.time == x.r.time && y.2.body == x.r.body) with
  | some j => d.evr.standbyHeld.eraseIdx j
  | none => d.evr.standbyHeld

/-- The machine `d`, with room made, and the oldest sequenced record readable. -/
def Dev.madeReadable : Dev :=
  { d with evr := { d.evr with
      mirroring := q, mirrorNext := x.seq + 1, standbyHeld := d.standbyWithout x, dram := ⟨d.evr.dram.held ++ [x], d.evr.dram.lost⟩
      keepPending := if x.flags % 4 == 1 then d.evr.keepPending ++ [x] else d.evr.keepPending } }

theorem Dev.recRegs_besideRegs : d.recRegs.besideRegs = d.besideRegs := by
  simp only [Dev.recRegs, Dev.wrSat_besideRegs]
  split
  · rw [Dev.wr64_besideRegs]
    split <;> rfl
  · split <;> rfl

variable {d x q}

theorem Dev.readable_none (h : d.evr.mirroring = []) : d.readable = d := by
  unfold Dev.readable
  rw [h]

theorem Dev.readable_closed (h : d.evr.mirroring = x :: q) (hg : d.gateOpen d.active 2163 x.seq = false) : d.readable = d := by
  unfold Dev.readable
  simp only [h]
  exact if_neg (Bool.eq_false_iff.mp hg)

theorem Dev.readable_open (h : d.evr.mirroring = x :: q) (hg : d.gateOpen d.active 2163 x.seq = true) : ∃ fuel, d.readable =
    ((evict (d.gatePass 2163 x.seq) (fuel + 1) x.size).madeReadable x q).recRegs := by
  unfold Dev.readable
  simp only [h]
  exact ⟨_, if_pos hg⟩

end

/-! The intake, and the keep ring (R661, R670). -/

section
variable {d : Dev}

theorem Dev.intakeTake_none (h : d.evr.ready = false ∨ d.evr.intake = []) : d.intakeTake = d := by
  unfold Dev.intakeTake
  rcases h with h | h <;> simp [h]

theorem Dev.intakeTake_record {r : RecIn} {q : List Intake} (h : d.evr.ready = true) (hi : d.evr.intake = .record r :: q) :
    d.intakeTake = ({ d with evr := { d.evr with intake := q } } : Dev).sequence r := by
  unfold Dev.intakeTake
  simp only [h, hi, if_true]

theorem Dev.intakeTake_gap {c k f l : Nat} {q : List Intake} (h : d.evr.ready = true) (hi : d.evr.intake = .gap c k f l :: q) :
    d.intakeTake = (({ d with evr := { d.evr with intake := q } } : Dev).sequence
      ⟨0x0002, be 4 (min c 0xFFFFFFFF) ++ be 4 (min k 0xFFFFFFFF) ++ be 8 f, l, d.tq, none⟩).raise Reg.REC_INT_STATUS 0 := by
  unfold Dev.intakeTake
  simp only [h, hi, if_true]

/-- A record appended to a copy of the keep ring is its last; with room, the others are kept. -/
theorem RecRing.put_last (g : RecRing) (x : Stored) : (g.put x).held.getLast? = some x := by simp [RecRing.put]

theorem RecRing.put_fits {g : RecRing} {x : Stored} (h : g.fill + x.size ≤ keepBytes) : g.put x = ⟨g.held ++ [x], g.lost⟩ := by
  have hkept : evictKeep g.held g.lost x.size = (g.held, g.lost) := by
    cases hh : g.held with
    | nil => rfl
    | cons s r =>
      rw [RecRing.fill, hh] at h
      exact if_pos h
  rw [RecRing.put, hkept]

/-- Both copies of the keep ring after a write, each where it takes the record. -/
def NvDie.keepPut (n : NvDie) (x : Stored) (okA okB : Bool) : NvDie :=
  { n with keep := if okA then n.keep.put x else n.keep, keepB := if okB then n.keepB.put x else n.keepB }

theorem Dev.keepWrite_none (okA okB : Bool) (h : d.evr.keepPending = []) : d.keepWrite okA okB = d := by
  unfold Dev.keepWrite
  rw [h]

/-- The keep record at the head taken, with what the copies that fail show. -/
def Dev.keepTold (d : Dev) (q : List Stored) (okA okB : Bool) : Dev :=
  let d := { d with evr := { d.evr with keepPending := q, nvOk := okA && okB } }
  if okA && okB then d else (d.inc Reg.REC_NV_ERR_CNT (b2n (!okA) + b2n (!okB))).raise Reg.REC_INT_STATUS 4

theorem Dev.keepTold_besideRegs (q : List Stored) (okA okB : Bool) :
    (d.keepTold q okA okB).besideRegs = { d.besideRegs with evr := { d.evr with keepPending := q, nvOk := okA && okB } } := by
  unfold Dev.keepTold
  dsimp only
  split
  · rfl
  · rw [Dev.raise_besideRegs, Dev.inc_besideRegs]
    rfl

theorem Dev.keepTold_shows (q : List Stored) (okA okB : Bool) : ((okA && okB) = false → (d.keepTold q okA okB).flag Reg.REC_INT_STATUS 4 = true) ∧
    (d.keepTold q okA okB).rd Reg.REC_NV_ERR_CNT = if okA && okB then d.rd Reg.REC_NV_ERR_CNT else
      (d.inc Reg.REC_NV_ERR_CNT (b2n (!okA) + b2n (!okB))).rd Reg.REC_NV_ERR_CNT := by
  unfold Dev.keepTold
  dsimp only
  by_cases hok : (okA && okB) = true
  · rw [if_pos hok, if_pos hok]
    exact ⟨fun h => absurd h (by rw [hok]; decide), rfl⟩
  · rw [if_neg hok, if_neg hok, Dev.rd_raise_ne _ _ (by decide), Dev.rd_inc_same, Dev.rd_inc_same]
    exact ⟨fun _ => Dev.flag_raise _ _ _ (by decide), rfl⟩

/-- A keep record written to the copies that take it. -/
theorem Dev.keepWrite_some {x : Stored} {q : List Stored} (okA okB : Bool) (h : d.evr.keepPending = x :: q) :
    d.keepWrite okA okB = { d.keepTold q okA okB with nv := d.nv.keepPut x okA okB } := by
  have hput (e : Dev) (he : e.nv = d.nv) : (if okA || okB then
      { e with nv := { e.nv with keep := if okA then e.nv.keep.put x else e.nv.keep, keepB := if okB then e.nv.keepB.put x else e.nv.keepB } } else e) =
      { e with nv := d.nv.keepPut x okA okB } := by
    rw [← he]
    cases okA
    · cases okB <;> rfl
    · rfl
  have hnv : (d.keepTold q okA okB).nv = d.nv := (congrArg Dev.nv (d.keepTold_besideRegs q okA okB) :)
  unfold Dev.keepWrite
  rw [h]
  exact hput _ hnv

end

/-- Settles O49: the intake (`Dev.sequence_eq`), the mirrored ring (`Dev.readable_open`, `evict_besideDram`) and the keep ring (`Dev.keepWrite_some`). -/
theorem recorderRings : Obligations.RecorderRings := by
  refine ⟨?rings, ?keep⟩
  case rings =>
    intro s n e
    have htake := devRow_ends s n fun d => d.intakeTake
    have hread := devRow_ends s n fun d => d.readable
    refine ⟨fun h => ?_, fun r q hr hi => ?_, fun c kc f l q hr hi => ?_, fun h => ?_, fun x q h => ⟨fun hg => ?_, fun hg => ?_⟩, ?_, ?_⟩
    · rwa [Dev.intakeTake_none (d := s.dev.tick n) h] at htake
    · have hseq := ({ e with evr := { e.evr with intake := q } } : Dev).sequence_eq r
      rw [Dev.intakeTake_record (d := s.dev.tick n) hr hi] at htake
      generalize ({ e with evr := { e.evr with intake := q } } : Dev).sequence r = f at *
      obtain ⟨m, hf⟩ := hseq
      have hevr : f.evr = _ := (congrArg Dev.evr hf :)
      have hnv : f.nv = _ := (congrArg Dev.nv hf :)
      exact htake.with fun _ _ _ _ _ => ⟨(congrArg Recorder.intake hevr :), (congrArg Recorder.nextSeq hevr :), (congrArg Recorder.mirroring hevr :),
        (congrArg Recorder.dram hevr :), (congrArg NvDie.keep hnv :), (congrArg NvDie.keepB hnv :), (congrArg Dev.loc hf :), rfl⟩
    · have hseq := ({ e with evr := { e.evr with intake := q } } : Dev).sequence_eq
        ⟨0x0002, be 4 (min c 0xFFFFFFFF) ++ be 4 (min kc 0xFFFFFFFF) ++ be 8 f, l, e.tq, none⟩
      rw [Dev.intakeTake_gap (d := s.dev.tick n) hr hi] at htake
      generalize ({ e with evr := { e.evr with intake := q } } : Dev).sequence _ = g at *
      obtain ⟨m, hg⟩ := hseq
      have hevr : g.evr = _ := (congrArg Dev.evr hg :)
      refine htake.with fun _ _ _ _ _ => ⟨(congrArg Recorder.intake hevr :), (congrArg Recorder.nextSeq hevr :), Dev.flag_raise _ _ _ (by decide), ?_, rfl⟩
      refine (congrArg (fun r : Recorder => r.mirroring.map (·.r)) hevr :).trans ?_
      exact List.map_append
    · rwa [Dev.readable_none (d := s.dev.tick n) h] at hread
    · rwa [Dev.readable_closed (d := s.dev.tick n) h hg] at hread
    · obtain ⟨fuel, hopen⟩ := Dev.readable_open (d := s.dev.tick n) h hg
      have hroom := evict_besideDram (e.gatePass 2163 x.seq) (fuel + 1) x.size
      have hfits : s.dev.evr.dram.fill + x.size ≤ dramBytes → evict (e.gatePass 2163 x.seq) (fuel + 1) x.size = e.gatePass 2163 x.seq :=
        evict_fits (d := e.gatePass 2163 x.seq) fuel
      rw [hopen] at hread
      generalize evict (e.gatePass 2163 x.seq) (fuel + 1) x.size = f at *
      have hregs := (f.madeReadable x q).recRegs_besideRegs
      generalize (f.madeReadable x q).recRegs = g at *
      have hevr : g.evr = (f.madeReadable x q).evr := (congrArg Dev.evr hregs :)
      have hunits : g.units = (e.gatePass 2163 x.seq).units := (congrArg Dev.units hregs :).trans (congrArg Dev.units hroom :)
      have hseq : tget 0 g.units.outSeq 2163 = x.seq + 1 := by rw [hunits, e.gatePass_seq (by decide) x.seq]
      have hkeep : f.evr.keepPending = s.dev.evr.keepPending := (congrArg (·.evr.keepPending) hroom :)
      have hpending : g.evr.keepPending = if x.flags % 4 = 1 then s.dev.evr.keepPending ++ [x] else s.dev.evr.keepPending := by
        rw [hevr, ← hkeep]
        exact if_congr beq_iff_eq rfl rfl
      have hlast : g.evr.dram.held.getLast? = some x := by
        rw [hevr]
        exact List.getLast?_concat
      have hheld : s.dev.evr.dram.fill + x.size ≤ dramBytes → g.evr.dram.held = s.dev.evr.dram.held ++ [x] ∧ g.evr.dram.lost = s.dev.evr.dram.lost := by
        intro hfit
        rw [hevr, hfits hfit]
        exact ⟨rfl, rfl⟩
      exact hread.with fun _ _ _ _ _ => ⟨(congrArg Recorder.mirroring hevr :), (congrArg Recorder.mirrorNext hevr :), hlast, hheld, hpending, hseq,
        (congrArg Dev.nv hregs :).trans (congrArg Dev.nv hroom :), (congrArg Dev.loc hregs :).trans (congrArg Dev.loc hroom :), rfl⟩
    · exact devRow_ends s n fun d => d.mirrorTimeout
    · exact devRow_ends s n fun d => d.budgetRefill
  case keep =>
    intro s n okA okB
    have hends := devRow_ends s n fun d => d.keepWrite okA okB
    refine ⟨fun h => ?_, fun x q h => ?_⟩
    · rwa [Dev.keepWrite_none (d := s.dev.tick n) okA okB h] at hends
    · rw [Dev.keepWrite_some (d := s.dev.tick n) okA okB h] at hends
      have hg := (s.dev.tick n).keepTold_besideRegs q okA okB
      obtain ⟨hflag, hcnt⟩ := (s.dev.tick n).keepTold_shows q okA okB
      rw [Dev.rd_inc_tick] at hcnt
      generalize (s.dev.tick n).keepTold q okA okB = g at *
      have hevr : g.evr = _ := (congrArg Dev.evr hg :)
      exact hends.with fun _ _ _ _ _ => ⟨(congrArg Recorder.keepPending hevr :), (congrArg Recorder.nvOk hevr :), (congrArg Recorder.dram hevr :), rfl,
        fun g => ⟨g.put_last x, RecRing.put_fits⟩, hflag, hcnt, rfl⟩

end Sys2Proof.Machine

/-! The read ports of the event recorder (R674, R675, R679, R680; O50). -/

namespace Sys2Proof.Machine

/-! A capture of a read port. -/

section
variable (d : Dev) (i : Iface) {p : Nat}

theorem Dev.capture_rpStatus (hp : p < 2) : d.capture i (Reg.REC_RP_STATUS p) = some (d.rpCapture i p false) := by
  obtain rfl | rfl : p = 0 ∨ p = 1 := by omega
  · rfl
  · rfl

theorem Dev.capture_rpConsume (hp : p < 2) : d.capture i (Reg.REC_RP_CONSUME p) = some (d.rpCapture i p true) := by
  obtain rfl | rfl : p = 0 ∨ p = 1 := by omega
  · rfl
  · rfl

theorem Dev.cur_setCur_same (p n : Nat) : (d.setCur p n).cur p = n := by
  by_cases h : p = 0 <;> simp [Dev.setCur, Dev.cur, h]

theorem Dev.cur_setCur_other (hp : p < 2) (n : Nat) : (d.setCur p n).cur (1 - p) = d.cur (1 - p) := by
  obtain rfl | rfl : p = 0 ∨ p = 1 := by omega
  · rfl
  · rfl

theorem Dev.setCur_eq (p n : Nat) : ∃ x y, d.setCur p n = { d with evr := { d.evr with cur0 := x, cur1 := y } } := by
  unfold Dev.setCur
  split
  · exact ⟨_, d.evr.cur1, rfl⟩
  · exact ⟨d.evr.cur0, _, rfl⟩

/-- What a port that finds a record leaves: its view, and the cursor. -/
def Dev.rpTaken (p : Nat) (x : Stored) (consume : Bool) : Dev :=
  if consume then (d.view i (Reg.REC_RP_DATA p 0) 262 (wordOf x.bytes)).setCur p (x.seq + 1) else d.view i (Reg.REC_RP_DATA p 0) 262 (wordOf x.bytes)

/-- What a port that finds records lost leaves. -/
def Dev.rpStale (p m : Nat) : Dev :=
  (((d.view i (Reg.REC_RP_DATA p 0) 262 (fun _ => 0)).setCur p m).wrSat (Reg.REC_RP_SKIP p) (m - d.cur p)).raise Reg.REC_INT_STATUS 1

variable {d i} in
theorem Dev.rpCapture_ok {x : Stored} {consume : Bool} (h : Machine.capture (d.portRing p) (d.cur p) = .ok x) :
    bits (d.rpCapture i p consume).1 1 0 = 0 ∧ (d.rpCapture i p consume).2 = d.rpTaken i p x consume := by
  unfold Dev.rpCapture
  rw [h]
  refine ⟨?_, rfl⟩
  rw [bits_w32 _ (by decide)]
  omega

variable {d i} in
theorem Dev.rpCapture_notYet {consume : Bool} (h : Machine.capture (d.portRing p) (d.cur p) = .notYet) : d.rpCapture i p consume = (1, d) := by
  unfold Dev.rpCapture
  rw [h]

variable {d i} in
theorem Dev.rpCapture_stale {m : Nat} {consume : Bool} (h : Machine.capture (d.portRing p) (d.cur p) = .stale m) :
    d.rpCapture i p consume = (2, d.rpStale i p m) := by
  unfold Dev.rpCapture
  rw [h]
  rfl

theorem Dev.rpTaken_shows (hp : p < 2) (x : Stored) (consume : Bool) :
    (∀ j < 262, (d.rpTaken i p x consume).latched i (Reg.REC_RP_DATA p j) = wordOf x.bytes j) ∧
    (d.rpTaken i p x consume).cur p = (if consume then x.seq + 1 else d.cur p) ∧ (d.rpTaken i p x consume).cur (1 - p) = d.cur (1 - p) ∧
    (d.rpTaken i p x consume).evr.dram = d.evr.dram ∧ (d.rpTaken i p x consume).nv = d.nv ∧ (d.rpTaken i p x consume).regs = d.regs := by
  obtain ⟨o, hview⟩ := (HostOnly.refl d).view i (Reg.REC_RP_DATA p 0) 262 (wordOf x.bytes)
  have hword (j : Nat) (hj : j < 262) : (d.view i (Reg.REC_RP_DATA p 0) 262 (wordOf x.bytes)).latched i (Reg.REC_RP_DATA p j) = wordOf x.bytes j :=
    d.latched_view_at _ (by unfold Reg.REC_RP_DATA; omega) hj
  unfold Dev.rpTaken
  generalize d.view i (Reg.REC_RP_DATA p 0) 262 (wordOf x.bytes) = e at *
  cases consume
  · exact ⟨hword, by rw [hview]; rfl, by rw [hview]; rfl, by rw [hview]; rfl, by rw [hview]; rfl, by rw [hview]; rfl⟩
  · obtain ⟨y, z, hcur⟩ := e.setCur_eq p (x.seq + 1)
    refine ⟨fun j hj => ?_, e.cur_setCur_same p _, (e.cur_setCur_other hp _).trans (by rw [hview]; rfl), ?_, ?_, ?_⟩
    · rw [← hword j hj, if_pos rfl, hcur]
      rfl
    all_goals rw [if_pos rfl, hcur, hview]

theorem Dev.rpStale_shows (hp : p < 2) (m : Nat) : (d.rpStale i p m).cur p = m ∧ (d.rpStale i p m).flag Reg.REC_INT_STATUS 1 = true ∧
    (d.rpStale i p m).rd (Reg.REC_RP_SKIP p) = w32 (min (m - d.cur p) 0xFFFFFFFF) ∧ (d.rpStale i p m).evr.dram = d.evr.dram := by
  obtain ⟨o, hview⟩ := (HostOnly.refl d).view i (Reg.REC_RP_DATA p 0) 262 (fun _ => 0)
  have hskip : Reg.REC_RP_SKIP p ≠ Reg.REC_INT_STATUS := by
    unfold Reg.REC_RP_SKIP Reg.REC_INT_STATUS
    omega
  unfold Dev.rpStale
  generalize d.view i (Reg.REC_RP_DATA p 0) 262 (fun _ => 0) = e at *
  obtain ⟨y, z, hcur⟩ := e.setCur_eq p m
  refine ⟨e.cur_setCur_same p m, Dev.flag_raise _ _ _ (by decide), ?_, ?_⟩
  · rw [Dev.rd_raise_ne _ _ hskip]
    exact Dev.rd_wr_same _ _ _
  · rw [show ((((e.setCur p m).wrSat (Reg.REC_RP_SKIP p) (m - d.cur p)).raise Reg.REC_INT_STATUS 1).evr) = (e.setCur p m).evr from rfl, hcur, hview]

end

/-- A read that captures: its data, what is held for the interfaces, and beside them the machine of the capture. -/
theorem readRow_got {s : State} {n : Nat} {i : Iface} {a : Nat} {x : Word × Dev} (h : s.canRead a) (hcap : (s.dev.tick n).capture i a = some x) :
    EndsWith (readRow s n true i a) (fun t => (if i = .spi then t.dev.host.rdataS else t.dev.host.rdataP) = x.1 ∧
      t.dev.host.latch = x.2.host.latch ∧ t.dev.evr = x.2.evr ∧ t.dev.nv = x.2.nv ∧ t.dev.regs = x.2.regs ∧ t.ctl = s.ctl) := by
  obtain ⟨r, hr⟩ := canRead_reg h
  refine (readRow_ends h hr (rowRead_capture s.ctl r hcap)).with fun _ _ _ _ _ => ?_
  cases i
  · exact ⟨rfl, rfl, rfl, rfl, rfl, rfl⟩
  · exact ⟨rfl, rfl, rfl, rfl, rfl, rfl⟩

/-! The cursor and the quota of a port (R679, R680). -/

section
variable (d : Dev) (i : Iface) {p : Nat} (v : Word)

theorem rpCurHi_row : ∀ p < 2, regAt (Reg.REC_RP_CUR_HI p) = some ⟨0x38100C, [(0x1000, 2)], .rw, 0x0, 0xFFFFFFFF, 0x0, []⟩ := by decide +kernel

theorem rpCurHi_ne : ∀ p < 2, Reg.REC_RP_CUR_HI p ≠ Reg.GLB_CTL ∧ Reg.REC_RP_CUR_HI p ≠ Reg.GLB_RESET_CTL ∧
    (∀ k < 2, Reg.REC_RP_CUR_HI p ≠ Reg.REC_RP_QUOTA k) ∧ ∀ k < 8, Reg.REC_RP_CUR_HI p ≠ Reg.TST_PORT_GEN k := by decide +kernel

theorem Dev.regAct_rpCurHi (hp : p < 2) : d.regAct i (Reg.REC_RP_CUR_HI p) v = (d.wr (Reg.REC_RP_CUR_HI p) v).cursorWrite p v := by
  obtain rfl | rfl : p = 0 ∨ p = 1 := by omega
  · rw [regAct_eq]
    rfl
  · rw [regAct_eq]
    rfl

/-- The row of REC_RP_QUOTA: seven bits, no code of which is refused by the row. -/
def quotaRow : RegRow := ⟨0x381004, [(0x1000, 2)], .rw, 0x10, 0x7F, 0x0, []⟩

theorem rpQuota_row : ∀ p < 2, regAt (Reg.REC_RP_QUOTA p) = some quotaRow := by decide +kernel

theorem Dev.regAct_rpQuota (hp : p < 2) : d.regAct i (Reg.REC_RP_QUOTA p) v = d.quotaWrite p v := by
  obtain rfl | rfl : p = 0 ∨ p = 1 := by omega
  · rw [regAct_eq]
    rfl
  · rw [regAct_eq]
    rfl

theorem rpQuota_plain : ∀ p < 2, intVector (Reg.REC_RP_QUOTA p) = none ∧ Reg.REC_RP_QUOTA p ≠ Reg.GLB_RESET_CTL ∧ Reg.REC_RP_QUOTA p ≠ Reg.GLB_CTL ∧
    ∀ k < 8, Reg.REC_RP_QUOTA p ≠ Reg.TST_PORT_GEN k := by decide +kernel

/-- A quota is told by the low seven bits of its word. -/
theorem Dev.quotaBad_congr {v w : Word} (h : w.toNat % 128 = v.toNat % 128) (p : Nat) : d.quotaBad p w = d.quotaBad p v := by
  rw [Dev.quotaBad, h, Dev.quotaBad]

theorem Dev.quotaWrite_congr {v w : Word} (h : w.toNat % 128 = v.toNat % 128) (p : Nat) : d.quotaWrite p w = d.quotaWrite p v := by
  rw [Dev.quotaWrite, d.quotaBad_congr h, h, Dev.quotaWrite]

theorem rowWrite_quota (hp : p < 2) : d.rowWrite quotaRow i (Reg.REC_RP_QUOTA p) v = (if d.quotaBad p v then 10 else 0, d.quotaWrite p v) := by
  obtain ⟨hint, hreset, -, hgen⟩ := rpQuota_plain p hp
  have hlow (old : Word) : ((old &&& ~~~ w32 0x7F) ||| (v &&& w32 0x7F)).toNat % 128 = v.toNat % 128 := by
    have h := bits_held old v (m := 0x7F) (hi := 6) (lo := 0) (by decide)
    simpa [bits] using h
  have hlen (w : Word) : d.genLenBad (Reg.REC_RP_QUOTA p) w = false := by
    simp only [Dev.genLenBad, List.any_eq_false, List.mem_range]
    intro k hk
    simp [hgen k hk]
  have hany (w : Word) : (List.range 2).any (fun k => Reg.REC_RP_QUOTA p == Reg.REC_RP_QUOTA k && d.quotaBad k w) = d.quotaBad p w := by
    obtain rfl | rfl : p = 0 ∨ p = 1 := by omega
    · simp [List.range, List.range.loop, Reg.REC_RP_QUOTA]
    · simp [List.range, List.range.loop, Reg.REC_RP_QUOTA]
  have hagain (e f : Dev) : e.intAgain f (Reg.REC_RP_QUOTA p) = e := by simp only [Dev.intAgain, hint]
  have hacc : quotaRow.acc = .rw := rfl
  have hmerge (old : Word) : quotaRow.merge old v = ((old &&& ~~~ w32 0x7F) ||| (v &&& w32 0x7F), false) := rfl
  simp only [Dev.rowWrite, hacc, hmerge, hlen, Bool.false_eq_true, if_false, Bool.false_or, decide_false, Bool.false_and, hany, hagain, hreset,
    Dev.regAct_rpQuota d i _ hp, d.quotaBad_congr (hlow _), d.quotaWrite_congr (hlow _)]

end

/-- A cursor write sets the cursor from both halves. -/
theorem Dev.cursorWrite_shows (d : Dev) {p : Nat} (hp : p < 2) (v : Word) :
    let e := (d.wr (Reg.REC_RP_CUR_HI p) v).cursorWrite p v
    e.cur p = d.rdN (Reg.REC_RP_CUR_LO p) + 2 ^ 32 * v.toNat ∧ e.cur (1 - p) = d.cur (1 - p) ∧ e.evr.dram = d.evr.dram ∧
      (∀ a, a ≠ Reg.REC_RP_CUR_HI p → e.rd a = d.rd a) ∧ e.resetCtr = d.resetCtr := by
  have hlo : (d.wr (Reg.REC_RP_CUR_HI p) v).rd (Reg.REC_RP_CUR_LO p) = d.rd (Reg.REC_RP_CUR_LO p) :=
    Dev.rd_wr_ne _ (by unfold Reg.REC_RP_CUR_LO Reg.REC_RP_CUR_HI; omega) _
  have hother (a : Nat) (ha : a ≠ Reg.REC_RP_CUR_HI p) := Dev.rd_wr_ne d ha v
  unfold Dev.cursorWrite
  rw [hlo]
  generalize hk : (d.rd (Reg.REC_RP_CUR_LO p)).toNat + 2 ^ 32 * v.toNat = k
  obtain ⟨x, y, hcur⟩ := (d.wr (Reg.REC_RP_CUR_HI p) v).setCur_eq p k
  exact ⟨(Dev.cur_setCur_same _ p k).trans hk.symm, Dev.cur_setCur_other _ hp k, by rw [hcur]; rfl, fun a ha => by rw [hcur]; exact hother a ha,
    by rw [hcur]; rfl⟩

theorem Dev.quotaBad_iff (d : Dev) (p : Nat) (v : Word) : d.quotaBad p v = false ↔
    1 ≤ v.toNat % 128 ∧ v.toNat % 128 ≤ 64 ∧ v.toNat % 128 + d.fld (Reg.REC_RP_QUOTA (1 - p)) 6 0 ≤ 128 := by
  simp only [Dev.quotaBad, Bool.or_eq_false_iff, decide_eq_false_iff_not]
  omega

/-- A quota that is taken. -/
theorem recQuota_good {s : State} {n p : Nat} {i : Iface} {v : Word} (hp : p < 2) (h : s.canWrite i (Reg.REC_RP_QUOTA p))
    (hq : (s.dev.tick n).quotaBad p v = false) :
    Ends (hostRow s n true i (Reg.REC_RP_QUOTA p) v) { s with dev := (s.dev.tick n).wrN (Reg.REC_RP_QUOTA p) (v.toNat % 128) } := by
  refine hostRow_ends h (rpQuota_plain p hp).2.2.1 (rpQuota_row p hp) ?_ rfl
  rw [rowWrite_quota _ i v hp, hq, Dev.quotaWrite, hq]
  rfl

/-- A quota that is refused: its interrupt, and the access error. -/
theorem recQuota_bad {s : State} {n p : Nat} {i : Iface} {v : Word} (hp : p < 2) (h : s.canWrite i (Reg.REC_RP_QUOTA p))
    (hq : (s.dev.tick n).quotaBad p v = true) : Ends (hostRow s n true i (Reg.REC_RP_QUOTA p) v)
      { s with dev := ((s.dev.tick n).raise Reg.REC_INT_STATUS 5).accErr 10 true i 15 (Reg.REC_RP_QUOTA p) v } := by
  refine hostRow_partly h (rpQuota_plain p hp).2.2.1 (rpQuota_row p hp) ?_ (by decide) rfl
  rw [rowWrite_quota _ i v hp, hq, Dev.quotaWrite, hq]
  rfl

/-- Settles O50: the capture of a port by what it finds (`Dev.rpTaken_shows`, `Dev.rpCapture_notYet`, `Dev.rpStale_shows`), the cursor
(`Dev.cursorWrite_shows`) and the quota (`rowWrite_quota`). -/
theorem recorderPorts : Obligations.RecorderPorts := by
  intro s n p i hp got c
  refine ⟨fun consume o ho hcan => ?capture, fun v h => ?cursor, ?quota⟩
  case capture =>
    have hgot : EndsWith o (fun t => got t = ((s.dev.tick n).rpCapture i p consume).1 ∧
        t.dev.host.latch = ((s.dev.tick n).rpCapture i p consume).2.host.latch ∧ t.dev.evr = ((s.dev.tick n).rpCapture i p consume).2.evr ∧
        t.dev.nv = ((s.dev.tick n).rpCapture i p consume).2.nv ∧ t.dev.regs = ((s.dev.tick n).rpCapture i p consume).2.regs ∧ t.ctl = s.ctl) := by
      rw [ho]
      cases consume
      · rw [if_neg Bool.false_ne_true, exec_recRpStatusRead, decide_eq_true hp]
        exact readRow_got hcan ((s.dev.tick n).capture_rpStatus i hp)
      · rw [if_pos rfl, exec_recRpConsume, decide_eq_true hp]
        exact readRow_got hcan ((s.dev.tick n).capture_rpConsume i hp)
    refine ⟨fun x hx => ?_, fun hx => ?_, fun m hm => ?_⟩
    · obtain ⟨hst, hdev⟩ := Dev.rpCapture_ok (d := s.dev.tick n) (i := i) (consume := consume) hx
      obtain ⟨hdata, hcur, hcur', hdram, hnv, hregs⟩ := (s.dev.tick n).rpTaken_shows i hp x consume
      rw [hdev] at hgot
      generalize (s.dev.tick n).rpTaken i p x consume = e at *
      refine hgot.mono fun t ⟨hword, hlatch, hevr, hnv', hregs', hctl⟩ => ⟨by rw [hword, hst], fun j hj => ?_, ?_, ?_, ?_, ?_, ?_, hctl⟩
      · rw [← hdata j hj, Dev.latched, Dev.latched, hlatch]
      · rw [Dev.cur, hevr, ← Dev.cur, hcur]
        rfl
      · rw [Dev.cur, hevr, ← Dev.cur, hcur']
        rfl
      · rw [hevr, hdram]
        rfl
      · rw [hnv', hnv]
        rfl
      · rw [hregs', hregs]
        rfl
    · rw [Dev.rpCapture_notYet (d := s.dev.tick n) hx] at hgot
      exact hgot.mono fun t ⟨hword, hlatch, hevr, _, hregs, hctl⟩ => ⟨hword, hevr, hlatch, hregs, hctl⟩
    · obtain ⟨hcur, hflag, hskip, hdram⟩ := (s.dev.tick n).rpStale_shows i hp m
      rw [Dev.rpCapture_stale (d := s.dev.tick n) hm] at hgot
      generalize (s.dev.tick n).rpStale i p m = e at *
      refine hgot.mono fun t ⟨hword, _, hevr, _, hregs, hctl⟩ => ⟨hword, ?_, ?_, ?_, ?_, hctl⟩
      · rw [Dev.cur, hevr, ← Dev.cur, hcur]
      · rw [Dev.flag, Dev.rd_congr hregs, ← Dev.flag, hflag]
      · rw [Dev.rd_congr hregs, hskip]
        rfl
      · rw [hevr, hdram]
        rfl
  case cursor =>
    obtain ⟨hcur, hother, hdram, hrd, hctr⟩ := (s.dev.tick n).cursorWrite_shows hp v
    have hends := hostRow_word h (rpCurHi_row p hp) ⟨.inl rfl, rfl, rfl, rfl⟩ (rpCurHi_ne p hp) ((s.dev.tick n).regAct_rpCurHi i v hp) hctr
    generalize ((s.dev.tick n).wr (Reg.REC_RP_CUR_HI p) v).cursorWrite p v = e at *
    rw [exec_recCursorWrite, decide_eq_true hp]
    exact hends.with fun _ _ _ _ _ => ⟨hcur, hother, hdram, hrd, rfl⟩
  case quota =>
    intro v h q good
    rw [exec_recQuotaWrite, decide_eq_true hp]
    have hiff := (s.dev.tick n).quotaBad_iff p v
    refine ⟨fun hgood => ?_, fun hbad => ?_⟩
    · refine (recQuota_good hp h (hiff.mpr hgood)).with fun _ _ _ _ _ => ⟨?_, fun a ha => Dev.rd_wrN_ne _ ha _, rfl, rfl⟩
      exact (Dev.rdN_wrN_same _ _ _).trans (Nat.mod_eq_of_lt (Nat.lt_trans (Nat.mod_lt _ (by decide)) (by decide)))
    · have hq : (s.dev.tick n).quotaBad p v = true := by
        by_contra hno
        exact hbad (hiff.mp (Bool.eq_false_iff.mpr hno))
      have hends := recQuota_bad hp h hq
      obtain ⟨g, k, hacc⟩ := ((s.dev.tick n).raise Reg.REC_INT_STATUS 5).accErr_eq 10 true i 15 (Reg.REC_RP_QUOTA p) v
      have hint : Reg.REC_INT_STATUS ∉ errRegs := by decide
      have hquota : ∀ p < 2, Reg.REC_RP_QUOTA p ∉ errRegs ∧ Reg.REC_RP_QUOTA p ≠ Reg.REC_INT_STATUS := by decide
      refine hends.with fun _ _ _ _ _ => ⟨?_, ?_, ?_, rfl⟩
      · exact (Dev.rd_accErr_ne _ _ _ _ _ _ _ (hquota p hp).1).trans (Dev.rd_raise_ne _ _ (hquota p hp).2)
      · exact (congrArg (bit · 5) (Dev.rd_accErr_ne _ _ _ _ _ _ _ hint)).trans (Dev.flag_raise _ _ _ (by decide))
      · exact (congrArg Dev.evr hacc :)

end Sys2Proof.Machine

/-! Key messages (R693 to R698, R703, R707; O51). -/

namespace Sys2Proof.Machine

/-- A granted write to a register of which some bits are written or act: the action decides by those bits of the word (R18). -/
theorem hostRow_masked {s : State} {n m : Nat} {i : Iface} {a : Nat} {v : Word} {r : RegRow} {e : Dev} (h : s.canWrite i a) (hr : regAt a = some r)
    (hacc : r.acc = .rw ∨ r.acc = .wo ∨ r.acc = .w1s) (hrow : r.wmask ||| r.act = m ∧ r.ranges = [])
    (ha : a ≠ Reg.GLB_CTL ∧ a ≠ Reg.GLB_RESET_CTL ∧ (∀ p < 2, a ≠ Reg.REC_RP_QUOTA p) ∧ ∀ p < 8, a ≠ Reg.TST_PORT_GEN p)
    (hact : ∀ w, (∀ k < 32, m.testBit k = true → bit w k = bit v k) → (s.dev.tick n).regAct i a w = e) (hc : e.resetCtr = s.dev.resetCtr) :
    Ends (hostRow s n true i a v) { s with dev := e } := by
  obtain ⟨hmask, hranges⟩ := hrow
  have hm (old : Word) : r.merge old v = ((old &&& ~~~ w32 m) ||| (v &&& w32 m), false) := by simp [RegRow.merge, hmask, hranges]
  exact hostRow_act h hr hacc (hm _) ha (hact _ fun k hk hmk => (bit_held _ v m hk).trans (if_pos hmk)) hc

/-- An observation that no step below a bound changes. -/
theorem foldUp_keeps_below {α β : Type} {g : α → β} {n : Nat} {f : Nat → α → α} (h : ∀ i < n, ∀ a, g (f i a) = g a) (a : α) : g (foldUp n f a) = g a := by
  induction n with
  | zero => rfl
  | succ n ih => rw [foldUp, h n (Nat.lt_succ_self _), ih fun i hi => h i (Nat.lt_succ_of_lt hi)]

section
variable {d e : Dev} (h : e.besideRegs = d.besideRegs)
include h

theorem Dev.key_of_regs : e.key = d.key := (congrArg Dev.key h :)
theorem Dev.resetCtr_of_regs : e.resetCtr = d.resetCtr := (congrArg Dev.resetCtr h :)

end

/-! The message and its status. -/

section
variable (d : Dev)

/-- The message that KEY_MSG_DATA holds. -/
def Dev.keyMsg : Bytes := (List.range 128).flatMap (fun j => be 4 (d.rdN (Reg.KEY_MSG_DATA j)))

/-- The RESULT of the checks of that message. -/
def Dev.keyRes : Nat := d.keyCheckMsg d.keyMsg (d.fld Reg.KEY_MSG_LEN 9 0)

theorem Dev.keyRes_busy (h : d.key.stage ≠ 0) : d.keyRes = 15 := by rw [Dev.keyRes, Dev.keyCheckMsg, if_pos h]

theorem Dev.keyClear_besideRegs : d.keyClear.besideRegs = d.besideRegs := foldUp_keeps Dev.besideRegs 128 _ (fun _ e => e.wrN_besideRegs _ _) d

theorem Dev.keyClear_rd_ne {a : Nat} (h : ∀ j < 128, a ≠ Reg.KEY_MSG_DATA j) : d.keyClear.rd a = d.rd a :=
  foldUp_keeps_below (g := fun e : Dev => e.rd a) (fun j hj _ => Dev.rd_wrN_ne _ (h j hj) _) d

theorem Dev.keyClear_rd {j : Nat} (h : j < 128) : d.keyClear.rd (Reg.KEY_MSG_DATA j) = 0 := by
  have hne : ∀ k < 128, ∀ e : Dev, k ≠ j → (e.wrN (Reg.KEY_MSG_DATA k) 0).rd (Reg.KEY_MSG_DATA j) = e.rd (Reg.KEY_MSG_DATA j) := by
    intro k _ e hk
    refine Dev.rd_wrN_ne _ ?_ _
    unfold Reg.KEY_MSG_DATA
    omega
  have hat := foldUp_at (g := fun e : Dev => e.rd (Reg.KEY_MSG_DATA j)) (F := fun _ => 0) hne (fun e => Dev.rd_wr_same _ _ _) d
  exact hat.trans (if_pos h)

@[simp] theorem Dev.keyResult_besideRegs (res : Nat) : (d.keyResult res).besideRegs = d.besideRegs := rfl

theorem Dev.keyResult_shows (res : Nat) : (d.keyResult res).fld Reg.KEY_MSG_STATUS 4 0 = res % 32 ∧
    (d.keyResult res).flag Reg.KEY_MSG_STATUS 8 = (d.key.stage != 0) := by
  refine ⟨?_, Dev.flag_putB_same _ _ _ _ (by decide)⟩
  exact (Dev.fld_putF_ne _ _ _ _ _ _ _ _ (by decide) (.inr (.inl (by decide)))).trans (Dev.fld_putF _ _ _ _ _ (by decide))

theorem Dev.keyRefuse_shows (b : Bytes) (res : Nat) : (d.keyRefuse b res).besideRecs = d.besideRecs ∧
    (d.keyRefuse b res).fld Reg.KEY_MSG_STATUS 4 0 = res % 32 ∧ (d.keyRefuse b res).rd Reg.KEY_REFUSE_CNT = (d.inc Reg.KEY_REFUSE_CNT 1).rd Reg.KEY_REFUSE_CNT ∧
    (d.keyRefuse b res).flag Reg.KEY_INT_STATUS 1 = true := by
  have hinc : ((d.keyResult res).inc Reg.KEY_REFUSE_CNT 1).rd Reg.KEY_REFUSE_CNT = (d.inc Reg.KEY_REFUSE_CNT 1).rd Reg.KEY_REFUSE_CNT := by
    have hne : Reg.KEY_REFUSE_CNT ≠ Reg.KEY_MSG_STATUS := by decide
    have hrd : (d.keyResult res).rdN Reg.KEY_REFUSE_CNT = d.rdN Reg.KEY_REFUSE_CNT :=
      congrArg BitVec.toNat ((Dev.rd_putF_ne _ hne _ _ _).trans (Dev.rd_putF_ne _ hne _ _ _))
    rw [Dev.rd_inc_same, Dev.rd_inc_same, hrd]
  have hrd (a : Nat) (h : a ≠ Reg.REC_LOST_CNT) (hi : a ≠ Reg.KEY_INT_STATUS) : (d.keyRefuse b res).rd a = ((d.keyResult res).inc Reg.KEY_REFUSE_CNT 1).rd a :=
    (Dev.rd_raise_ne _ _ hi).trans (Dev.record_rd_ne _ _ _ h)
  refine ⟨by simp [Dev.keyRefuse, Dev.keyResult], ?_, (hrd _ (by decide) (by decide)).trans hinc, Dev.flag_raise _ _ _ (by decide)⟩
  exact (congrArg (bits · 4 0) ((hrd _ (by decide) (by decide)).trans (Dev.rd_inc_ne _ 1 (by decide)))).trans (d.keyResult_shows res).1

/-! A message submitted (R694, R695). -/

theorem Dev.setFuses_eq (f : Fuses) : ∃ g, d.setFuses f = { d with key := { d.key with fuses := f }, nv := { d.nv with fuses := g } } ∧ (d.key.test = true → g = d.nv.fuses) := by
  by_cases h : d.key.test = true
  · exact ⟨d.nv.fuses, if_pos h, fun _ => rfl⟩
  · exact ⟨f, if_neg h, fun ht => absurd ht h⟩

theorem Dev.keySubmit_refused (h : d.keyRes ≠ 0) :
    d.keySubmit = (d.putF Reg.KEY_MSG_STATUS 23 16 (byteAt d.keyMsg 2)).keyRefuse d.keyMsg d.keyRes := if_pos h

theorem Dev.keySubmit_taken (h : d.keyRes = 0) : ∃ x f g, d.keySubmit = ({ d.putF Reg.KEY_MSG_STATUS 23 16 x with
    key := { d.key with stage := 1, msg := d.keyMsg, next := d.keyArea d.keyMsg, fuses := f }, nv := { d.nv with fuses := g } } : Dev).keyResult 0 := by
  refine ⟨byteAt d.keyMsg 2, ?_⟩
  unfold Dev.keySubmit
  refine (fun ⟨f, g, hf⟩ => ⟨f, g, (if_neg (not_not.mpr h)).trans hf⟩ : (∃ f g, _) → _) ?_
  dsimp only
  split
  · obtain ⟨g, hg, -⟩ := ({ d.putF Reg.KEY_MSG_STATUS 23 16 (byteAt d.keyMsg 2) with
      key := { d.key with stage := 1, msg := d.keyMsg, next := d.keyArea d.keyMsg } } : Dev).setFuses_eq { d.key.fuses with count := d.key.fuses.count + 1 }
    exact ⟨_, g, congrArg (Dev.keyResult · 0) hg⟩
  · exact ⟨d.key.fuses, d.nv.fuses, rfl⟩

theorem Dev.keySubmit_taken_shows (h : d.keyRes = 0) : (∃ f g, d.keySubmit.besideRegs = { d.besideRegs with
      key := { d.key with stage := 1, msg := d.keyMsg, next := d.keyArea d.keyMsg, fuses := f }, nv := { d.nv with fuses := g } }) ∧
    d.keySubmit.fld Reg.KEY_MSG_STATUS 4 0 = 0 ∧ d.keySubmit.flag Reg.KEY_MSG_STATUS 8 = true := by
  obtain ⟨x, f, g, hsub⟩ := d.keySubmit_taken h
  rw [hsub]
  exact ⟨⟨f, g, rfl⟩, Dev.keyResult_shows _ 0⟩

theorem Dev.keySubmit_refused_shows (h : d.keyRes ≠ 0) : d.keySubmit.besideRecs = d.besideRecs ∧ d.keySubmit.fld Reg.KEY_MSG_STATUS 4 0 = d.keyRes % 32 ∧
    d.keySubmit.rd Reg.KEY_REFUSE_CNT = (d.inc Reg.KEY_REFUSE_CNT 1).rd Reg.KEY_REFUSE_CNT ∧ d.keySubmit.flag Reg.KEY_INT_STATUS 1 = true := by
  rw [d.keySubmit_refused h]
  obtain ⟨hrecs, hfld, hcnt, hflag⟩ := (d.putF Reg.KEY_MSG_STATUS 23 16 (byteAt d.keyMsg 2)).keyRefuse_shows d.keyMsg d.keyRes
  refine ⟨hrecs, hfld, hcnt.trans ?_, hflag⟩
  rw [Dev.rd_inc_same, Dev.rd_inc_same, Dev.rdN, Dev.rdN, Dev.rd_putF_ne _ (by decide)]

/-! The store of a message, and the change that takes effect (R695 to R698). -/

/-- The machine with the stored change in force. -/
def Dev.keyInForce : Dev := { d with key := { d.key with stage := 0, force := keyLoad d.key.fuses d.key.test d.key.store } }

theorem Dev.keyApply_shows : d.keyApply.besideRecs = d.keyInForce.besideRecs ∧ d.keyApply.fld Reg.KEY_MSG_STATUS 4 0 = 2 ∧
    d.keyApply.flag Reg.KEY_INT_STATUS 0 = true := by
  generalize he : ((d.keyInForce.keyResult 2).incW Reg.KEY_UPDATE_CNT 1).raise Reg.KEY_INT_STATUS 0 = e
  have hrecs : e.besideRecs = d.keyInForce.besideRecs := by
    rw [← he]
    simp [Dev.keyResult]
  have hflag : e.flag Reg.KEY_INT_STATUS 0 = true := he ▸ Dev.flag_raise _ _ _ (by decide)
  have hfld : e.fld Reg.KEY_MSG_STATUS 4 0 = 2 := by
    rw [← he]
    exact (congrArg (bits · 4 0) ((Dev.rd_raise_ne _ _ (by decide)).trans (Dev.rd_wrN_ne _ (by decide) _))).trans (d.keyInForce.keyResult_shows 2).1
  have hrecord (f : Dev) (typ : Nat) (b : Bytes) (hf : f = e ∨ f = e.raise Reg.KEY_INT_STATUS 2) : (f.record typ b).besideRecs = d.keyInForce.besideRecs ∧
      (f.record typ b).fld Reg.KEY_MSG_STATUS 4 0 = 2 ∧ (f.record typ b).flag Reg.KEY_INT_STATUS 0 = true := by
    have hrd (a : Nat) (ha : a ≠ Reg.REC_LOST_CNT) := f.record_rd_ne typ b ha
    rw [Dev.fld, hrd _ (by decide), Dev.flag, hrd _ (by decide), Dev.record_besideRecs]
    obtain rfl | rfl := hf
    · exact ⟨hrecs, hfld, hflag⟩
    · exact ⟨hrecs, (congrArg (bits · 4 0) (Dev.rd_raise_ne _ _ (by decide))).trans hfld, (Dev.flag_raise_ne _ (by decide) (.inr (by decide))).trans hflag⟩
  unfold Dev.keyApply
  dsimp only
  rw [show ({ d with key := { d.key with stage := 0, force := keyLoad d.key.fuses d.key.test d.key.store } } : Dev) = d.keyInForce from rfl, he]
  split
  · exact hrecord _ _ _ (.inl rfl)
  split
  · refine hrecord _ _ _ ?_
    split
    · exact .inr rfl
    · exact .inl rfl
  · exact hrecord _ _ _ (.inl rfl)

theorem Dev.keyStoreDone_off {okA okB : Bool} (h : d.key.stage ≠ 1 ∨ d.pfHeld = true) : d.keyStoreDone okA okB = d := if_pos (by simpa using h)

/-- The device whose store failed, the message no longer in progress. -/
def Dev.keyDropped : Dev := { d with key := { d.key with stage := 0 } }

theorem Dev.keyStoreDone_failed {okA okB : Bool} (hs : d.key.stage = 1) (hp : d.pfHeld = false) (hok : (okA && okB) = false) : d.keyStoreDone okA okB =
    ((d.keyDropped.keyRefuse d.key.msg 17).record 0x1106
      (be 1 (b2n okA) ++ be 1 (byteAt d.key.msg 1) ++ zeros 2 ++ (d.key.msg.drop 24).take 8 ++ zeros 4)).raise Reg.KEY_INT_STATUS 3 := by
  unfold Dev.keyStoreDone
  rw [if_neg (by simp [hs, hp])]
  exact if_pos (by simp [hok])

theorem Dev.keyStoreDone_failed_shows {okA okB : Bool} (hs : d.key.stage = 1) (hp : d.pfHeld = false) (hok : (okA && okB) = false) :
    let e := d.keyStoreDone okA okB
    e.besideRecs = d.keyDropped.besideRecs ∧ e.fld Reg.KEY_MSG_STATUS 4 0 = 17 ∧ e.flag Reg.KEY_INT_STATUS 3 = true := by
  dsimp only
  rw [d.keyStoreDone_failed hs hp hok]
  obtain ⟨hrecs, hfld, -, -⟩ := d.keyDropped.keyRefuse_shows d.key.msg 17
  refine ⟨(Dev.raise_besideRecs _ _ _).trans ((Dev.record_besideRecs _ _ _).trans hrecs), ?_, Dev.flag_raise _ _ _ (by decide)⟩
  exact (congrArg (bits · 4 0) ((Dev.rd_raise_ne _ _ (by decide)).trans (Dev.record_rd_ne _ _ _ (by decide)))).trans hfld

/-- The device whose store was good, the change not yet in force: the fuses `f` and `g` of the store at work and of the nonvolatile die, and whether an authority
was rotated. -/
def Dev.keyKept (f g : Fuses) (rot : Bool) : Dev :=
  let n := d.keyBlob d.key.msg d.nv.keys
  { d with
    key := { d.key with fuses := f, stage := 2, store := d.key.next, storedAt := d.tim.clk, rot := rot }
    nv := { d.nv with fuses := g, keys := if d.key.test then d.nv.keys else n, keysB := if d.key.test then d.nv.keysB else n } }

theorem Dev.keyBlob_congr {e : Dev} (hf : e.key.fuses.devId = d.key.fuses.devId) (hk : e.key.force = d.key.force) (b : Bytes) (a : KeyArea) :
    e.keyBlob b a = d.keyBlob b a := by
  simp only [Dev.keyBlob, storageKey, Dev.keyPut, Dev.keyData, hf, hk]

/-- What follows the change of the fuses where a store was good. -/
def Dev.keyStored (b : Bytes) (rot : Bool) : Dev :=
  let n := d.keyBlob b d.nv.keys
  let e : Dev := if d.key.test then d else { d with nv := { d.nv with keys := n, keysB := n } }
  let e : Dev := { e with key := { e.key with stage := 2, store := e.key.next, storedAt := e.tim.clk, rot := rot } }
  let e := e.keyResult 1
  if e.boot = 2 then e.keyApply else e

theorem Dev.keyStored_eq {f g : Fuses} (rot : Bool) (hid : f.devId = d.key.fuses.devId) :
    ({ d with key := { d.key with fuses := f }, nv := { d.nv with fuses := g } } : Dev).keyStored d.key.msg rot =
      if d.boot = 2 then ((d.keyKept f g rot).keyResult 1).keyApply else (d.keyKept f g rot).keyResult 1 := by
  have hblob := d.keyBlob_congr (e := { d with key := { d.key with fuses := f }, nv := { d.nv with fuses := g } }) hid rfl d.key.msg d.nv.keys
  have hboot : ((d.keyKept f g rot).keyResult 1).boot = d.boot :=
    congrArg (bits · 2 0) ((Dev.rd_putF_ne _ (by decide) _ _ _).trans (Dev.rd_putF_ne (d.keyKept f g rot) (by decide) _ _ _))
  rw [← hboot]
  unfold Dev.keyStored Dev.keyKept
  dsimp only
  rw [hblob]
  by_cases ht : d.key.test = true
  · simp only [ht, if_true]
  · simp only [Bool.not_eq_true] at ht
    simp only [ht, Bool.false_eq_true, if_false]

/-- The change of the fuses that a good store makes (R691, R706). -/
def Dev.keyFused : Dev :=
  let f := d.key.fuses
  let b := d.key.msg
  let a := byteAt b 5 % 2
  if byteAt b 1 = 5 then d.setFuses { f with owned := true, hashes := (List.range 8).map (fun i => (i, (b.drop (40 + 32 * i)).take 32)) }
  else if byteAt b 1 == 3 && d.isRotation b then d.setFuses { f with revoke := f.revoke ||| 2 ^ (4 * a + (f.active a).getD 0) }
  else d

theorem Dev.keyStoreDone_stored (hs : d.key.stage = 1) (hp : d.pfHeld = false) : d.keyStoreDone true true =
    d.keyFused.keyStored d.key.msg (byteAt d.key.msg 1 == 3 && d.isRotation d.key.msg) := by
  unfold Dev.keyStoreDone
  rw [if_neg (by simp [hs, hp])]
  exact if_neg (by decide)

theorem Dev.setFuses_stored (f : Fuses) (rot : Bool) (hid : f.devId = d.key.fuses.devId) : ∃ f' g, (d.setFuses f).keyStored d.key.msg rot =
    if d.boot = 2 then ((d.keyKept f' g rot).keyResult 1).keyApply else (d.keyKept f' g rot).keyResult 1 := by
  obtain ⟨g, hg, -⟩ := d.setFuses_eq f
  exact ⟨f, g, hg ▸ d.keyStored_eq rot hid⟩

theorem Dev.keyFused_stored (rot : Bool) : ∃ f g, d.keyFused.keyStored d.key.msg rot =
    if d.boot = 2 then ((d.keyKept f g rot).keyResult 1).keyApply else (d.keyKept f g rot).keyResult 1 := by
  rw [Dev.keyFused]
  split
  · exact d.setFuses_stored _ rot rfl
  split
  · exact d.setFuses_stored _ rot rfl
  · exact ⟨d.key.fuses, d.nv.fuses, d.keyStored_eq _ rfl⟩

/-- Both copies of a good store, but for the test root (R696, R703). -/
theorem Dev.keyKept_copies {x : Dev} {f g : Fuses} {rot : Bool} (h : x.nv = (d.keyKept f g rot).nv) :
    (d.key.test = false → x.nv.keys = d.keyBlob d.key.msg d.nv.keys ∧ x.nv.keysB = x.nv.keys) ∧
    (d.key.test = true → x.nv.keys = d.nv.keys ∧ x.nv.keysB = d.nv.keysB) := by
  have hkeys : x.nv.keys = if d.key.test then d.nv.keys else d.keyBlob d.key.msg d.nv.keys := congrArg NvDie.keys h
  have hkeysB : x.nv.keysB = if d.key.test then d.nv.keysB else d.keyBlob d.key.msg d.nv.keys := congrArg NvDie.keysB h
  refine ⟨fun ht => ?_, fun ht => ?_⟩
  · rw [ht] at hkeys hkeysB
    exact ⟨hkeys, hkeysB.trans hkeys.symm⟩
  · rw [ht] at hkeys hkeysB
    exact ⟨hkeys, hkeysB⟩

/-- A good store outside pupa. -/
theorem Dev.keyStoreDone_later (hs : d.key.stage = 1) (hp : d.pfHeld = false) (hb : d.boot ≠ 2) : ∃ f g rot,
    (d.keyStoreDone true true).besideRecs = (d.keyKept f g rot).besideRecs ∧ (d.keyStoreDone true true).fld Reg.KEY_MSG_STATUS 4 0 = 1 := by
  obtain ⟨f, g, h⟩ := d.keyFused_stored (byteAt d.key.msg 1 == 3 && d.isRotation d.key.msg)
  rw [d.keyStoreDone_stored hs hp, h, if_neg hb]
  exact ⟨f, g, _, rfl, (Dev.keyResult_shows _ 1).1⟩

/-- A good store in pupa: the change is in force. -/
theorem Dev.keyStoreDone_atOnce (hs : d.key.stage = 1) (hp : d.pfHeld = false) (hb : d.boot = 2) : ∃ f g rot,
    (d.keyStoreDone true true).besideRecs = (d.keyKept f g rot).keyInForce.besideRecs ∧ (d.keyStoreDone true true).fld Reg.KEY_MSG_STATUS 4 0 = 2 ∧
    (d.keyStoreDone true true).flag Reg.KEY_INT_STATUS 0 = true := by
  obtain ⟨f, g, h⟩ := d.keyFused_stored (byteAt d.key.msg 1 == 3 && d.isRotation d.key.msg)
  rw [d.keyStoreDone_stored hs hp, h, if_pos hb]
  exact ⟨f, g, _, Dev.keyApply_shows _⟩

end

theorem keyMsgCtl_row : regAt Reg.KEY_MSG_CTL = some ⟨0x3C0030, [], .wo, 0x0, 0x3, 0x3, []⟩ := by decide +kernel

theorem Dev.regAct_keyMsgCtl (d : Dev) (i : Iface) (v : Word) : d.regAct i Reg.KEY_MSG_CTL v = d.keyCtl v := by
  rw [regAct_eq]
  rfl

/-- A granted write of KEY_MSG_CTL. -/
theorem keyMsgCtl_ends {s : State} {n : Nat} {i : Iface} {v : Word} {e : Dev} (h : s.canWrite i Reg.KEY_MSG_CTL)
    (he : ∀ w, bit w 0 = bit v 0 → bit w 1 = bit v 1 → (s.dev.tick n).keyCtl w = e) (hc : e.resetCtr = s.dev.resetCtr) :
    Ends (hostRow s n true i Reg.KEY_MSG_CTL v) { s with dev := e } := by
  refine hostRow_masked (m := 3) h keyMsgCtl_row (.inr (.inl rfl)) ⟨rfl, rfl⟩ (by decide) (fun w hw => ?_) hc
  rw [Dev.regAct_keyMsgCtl]
  exact he w (hw 0 (by decide) (by decide)) (hw 1 (by decide) (by decide))

theorem Dev.keyCtl_eq (d : Dev) {w : Word} {x y : Bool} (h0 : (bit w 0 && !d.pfHeld) = x) (h1 : bit w 1 = y) :
    d.keyCtl w = (if y then (if x then d.keySubmit else d).keyClear else if x then d.keySubmit else d) := by
  rw [Dev.keyCtl, h0, h1]

/-- A message that is started, cleared after it or not. -/
theorem keyMessage_ends {s : State} {n : Nat} {i : Iface} (v : Word) (h : s.canWrite i Reg.KEY_MSG_CTL) (hp : s.dev.pfHeld = false)
    (hc : (s.dev.tick n).keySubmit.resetCtr = s.dev.resetCtr) : ∃ e, Ends (hostRow s n true i Reg.KEY_MSG_CTL (setBits v 0 0 1)) { s with dev := e } ∧
      e.besideRegs = (s.dev.tick n).keySubmit.besideRegs ∧ ∀ a, (∀ j < 128, a ≠ Reg.KEY_MSG_DATA j) → e.rd a = (s.dev.tick n).keySubmit.rd a := by
  have h0 (w : Word) (hw : bit w 0 = bit (setBits v 0 0 1) 0) : (bit w 0 && !(s.dev.tick n).pfHeld) = true := by
    rw [hw, show (s.dev.tick n).pfHeld = false from hp, bit_setBits _ _ _ _ _ (by decide)]
    rfl
  by_cases h1 : bit (setBits v 0 0 1) 1 = true
  · refine ⟨(s.dev.tick n).keySubmit.keyClear, keyMsgCtl_ends h (fun w hw0 hw1 => ?_) ?_, Dev.keyClear_besideRegs _, fun a ha => Dev.keyClear_rd_ne _ ha⟩
    · rw [Dev.keyCtl_eq _ (h0 w hw0) (hw1.trans h1), if_pos rfl, if_pos rfl]
    · exact (Dev.resetCtr_of_regs (Dev.keyClear_besideRegs _)).trans hc
  · refine ⟨(s.dev.tick n).keySubmit, keyMsgCtl_ends h (fun w hw0 hw1 => ?_) hc, rfl, fun _ _ => rfl⟩
    rw [Dev.keyCtl_eq _ (h0 w hw0) (hw1.trans (Bool.eq_false_iff.mpr h1)), if_neg Bool.false_ne_true, if_pos rfl]

/-- Settles O51: a message refused (`Dev.keySubmit_refused`), taken (`Dev.keySubmit_taken`) and stored (`Dev.keyStoreDone_failed`, `Dev.keyFused_stored`). -/
theorem keyMessages : Obligations.KeyMessages := by
  refine ⟨fun s n i v o h hp ho => ?start, fun s n i v h h0 => ?clear, fun s n i v h hp h1 => ?held, fun s n okA okB => ?store⟩
  case start =>
    replace ho : o = hostRow s n true i Reg.KEY_MSG_CTL (setBits v 0 0 1) := by
      simp only [exec_keyInstall, exec_keyDelete, exec_keyAuthority, exec_keyOwn, List.mem_cons, List.not_mem_nil, or_false, or_self] at ho
      exact ho
    intro b res
    refine ⟨fun hs => s.dev.keyRes_busy hs, ?_⟩
    rw [ho]
    by_cases hres : s.dev.keyRes = 0
    · obtain ⟨⟨f, g, hregs⟩, hfld, hflag⟩ := (s.dev.tick n).keySubmit_taken_shows hres
      obtain ⟨e, hends, hbeside, hrd⟩ := keyMessage_ends (n := n) v h hp (congrArg Dev.resetCtr hregs :)
      generalize (s.dev.tick n).keySubmit = m at *
      replace hbeside := hbeside.trans hregs
      have hkey : e.key = { s.dev.key with stage := 1, msg := s.dev.keyMsg, next := s.dev.keyArea s.dev.keyMsg, fuses := f } := (congrArg Dev.key hbeside :)
      have hnv : e.nv = { s.dev.nv with fuses := g } := (congrArg Dev.nv hbeside :)
      have hstatus := hrd Reg.KEY_MSG_STATUS (by unfold Reg.KEY_MSG_STATUS Reg.KEY_MSG_DATA; omega)
      refine hends.with fun _ _ _ _ _ => ⟨fun hne => absurd hres hne, fun _ => ?_, (congrArg Dev.loc hbeside :), (congrArg Dev.units hbeside :), rfl⟩
      have hforce : e.key.force = s.dev.key.force := by rw [hkey]
      have hstore : e.key.store = s.dev.key.store := by rw [hkey]
      have hkeys : e.nv.keys = s.dev.nv.keys := by rw [hnv]
      exact ⟨congrArg KeySt.stage hkey, congrArg KeySt.msg hkey, congrArg KeySt.next hkey, hforce, hstore, hkeys, (congrArg (bits · 4 0) hstatus).trans hfld,
        (congrArg (bit · 8) hstatus).trans hflag⟩
    · obtain ⟨hrecs, hfld, hcnt, hflag⟩ := (s.dev.tick n).keySubmit_refused_shows hres
      obtain ⟨e, hends, hbeside, hrd⟩ := keyMessage_ends (n := n) v h hp (congrArg Dev.resetCtr hrecs :)
      generalize (s.dev.tick n).keySubmit = m at *
      replace hrecs : e.besideRecs = (s.dev.tick n).besideRecs := (congrArg Dev.besideRecs hbeside :).trans hrecs
      have hnv : e.nv = s.dev.nv := Dev.nv_of_recs (d := s.dev.tick n) hrecs
      have hloc : e.loc = s.dev.loc := Dev.loc_of_recs (d := s.dev.tick n) hrecs
      have hunits : e.units = s.dev.units := Dev.units_of_recs (d := s.dev.tick n) hrecs
      have hstatus := hrd Reg.KEY_MSG_STATUS (by unfold Reg.KEY_MSG_STATUS Reg.KEY_MSG_DATA; omega)
      have hint := hrd Reg.KEY_INT_STATUS (by unfold Reg.KEY_INT_STATUS Reg.KEY_MSG_DATA; omega)
      have hrefuse := hrd Reg.KEY_REFUSE_CNT (by unfold Reg.KEY_REFUSE_CNT Reg.KEY_MSG_DATA; omega)
      refine hends.with fun _ _ _ _ _ => ⟨fun _ => ?_, fun h0 => absurd h0 hres, hloc, hunits, rfl⟩
      exact ⟨(congrArg Dev.key hrecs :), congrArg NvDie.keys hnv, congrArg NvDie.keysB hnv, congrArg NvDie.fuses hnv, (congrArg (bits · 4 0) hstatus).trans hfld,
        (hrefuse.trans hcnt).trans (Dev.rd_inc_tick _ _ _ _),
        (congrArg (bit · 1) hint).trans hflag⟩
  case clear =>
    have hclear : Ends (exec (.keyMsgClear n i v) s) { s with dev := (s.dev.tick n).keyClear } := by
      refine keyMsgCtl_ends h (fun w hw0 hw1 => ?_) (Dev.resetCtr_of_regs (d := s.dev.tick n) (s.dev.tick n).keyClear_besideRegs)
      have hstart : (bit w 0 && !(s.dev.tick n).pfHeld) = false := by
        rw [hw0, bit_setBits _ _ _ _ _ (by decide), if_neg (by decide), h0]
        rfl
      have hclr : bit w 1 = true := by
        rw [hw1, bit_setBits _ _ _ _ _ (by decide)]
        rfl
      rw [Dev.keyCtl_eq _ hstart hclr, if_pos rfl, if_neg Bool.false_ne_true]
    have hkey := Dev.key_of_regs (s.dev.tick n).keyClear_besideRegs
    have hdata (j : Nat) (hj : j < 128) := (s.dev.tick n).keyClear_rd hj
    have hrd (a : Nat) (ha : ∀ j < 128, a ≠ Reg.KEY_MSG_DATA j) := (s.dev.tick n).keyClear_rd_ne ha
    generalize (s.dev.tick n).keyClear = e at *
    exact hclear.with fun _ _ _ _ _ => ⟨hdata, hkey, hrd, rfl⟩
  case held =>
    refine keyMsgCtl_ends h (fun w hw0 hw1 => ?_) rfl
    have hstart : (bit w 0 && !(s.dev.tick n).pfHeld) = false := by rw [show (s.dev.tick n).pfHeld = true from hp, Bool.not_true, Bool.and_false]
    have hclr : bit w 1 = false := by rw [hw1, bit_setBits _ _ _ _ _ (by decide), if_neg (by decide), h1]
    rw [Dev.keyCtl_eq _ hstart hclr, if_neg Bool.false_ne_true, if_neg Bool.false_ne_true]
  case store =>
    intro e
    have hdone := devRow_ends s n (fun d => d.keyStoreDone okA okB)
    rw [exec_keyStoreDone]
    refine ⟨fun h => (e.keyStoreDone_off h) ▸ hdone, fun hs hp hok => ?_, fun hs hp hA hB => ?_⟩
    · obtain ⟨hrecs, hfld, hflag⟩ := (s.dev.tick n).keyStoreDone_failed_shows hs hp hok
      generalize (s.dev.tick n).keyStoreDone okA okB = f at *
      have hkey : f.key = { s.dev.key with stage := 0 } := (congrArg Dev.key hrecs :)
      have hnv : f.nv = s.dev.nv := Dev.nv_of_recs (d := (s.dev.tick n).keyDropped) hrecs
      exact hdone.with fun _ _ _ _ _ => ⟨hkey, congrArg NvDie.keys hnv, congrArg NvDie.fuses hnv, hfld, hflag, rfl⟩
    · subst hA hB
      by_cases hb : s.dev.boot = 2
      · obtain ⟨f, g, rot, hrecs, hfld, hflag⟩ := (s.dev.tick n).keyStoreDone_atOnce hs hp hb
        generalize (s.dev.tick n).keyStoreDone true true = x at *
        have hkey : x.key = ((s.dev.tick n).keyKept f g rot).keyInForce.key := (congrArg Dev.key hrecs :)
        obtain ⟨hsecret, htest⟩ := (s.dev.tick n).keyKept_copies (x := x) (f := f) (g := g) (rot := rot) (congrArg Dev.nv hrecs :)
        have hforce : x.key.force = keyLoad x.key.fuses s.dev.key.test s.dev.key.next := by
          rw [hkey]
          rfl
        exact hdone.with fun _ _ _ _ _ => ⟨congrArg KeySt.store hkey, hsecret, htest, fun h2 => absurd hb h2,
          fun _ => ⟨congrArg KeySt.stage hkey, hforce, hfld, hflag⟩, rfl⟩
      · obtain ⟨f, g, rot, hrecs, hfld⟩ := (s.dev.tick n).keyStoreDone_later hs hp hb
        generalize (s.dev.tick n).keyStoreDone true true = x at *
        have hkey : x.key = ((s.dev.tick n).keyKept f g rot).key := (congrArg Dev.key hrecs :)
        obtain ⟨hsecret, htest⟩ := (s.dev.tick n).keyKept_copies (x := x) (f := f) (g := g) (rot := rot) (congrArg Dev.nv hrecs :)
        have hforce : x.key.force = s.dev.key.force := by
          rw [hkey]
          rfl
        exact hdone.with fun _ _ _ _ _ => ⟨congrArg KeySt.store hkey, hsecret, htest,
          fun _ => ⟨congrArg KeySt.stage hkey, congrArg KeySt.storedAt hkey, hforce, hfld⟩, fun h2 => absurd h2 hb, rfl⟩

end Sys2Proof.Machine

/-! Host rings (R832 to R838, R842; O16): a dispatch decision writes the schedulers and registers above those of GLB, and a ring changes by itself. -/

namespace Sys2Proof.Machine

/-! What a dispatch decision leaves. -/

/-- The machine but for its schedulers, with the registers of GLB alone. -/
def Dev.besideSch (d : Dev) : Dev × (Nat → Word) :=
  ({ d with regs := [], hw := ⟨0, []⟩, sch := State.reset.dev.sch }, fun a => if a < 0x10000 then d.rd a else 0)

theorem wingAddr_ge {a b : Nat} (w : Nat) (h : b ≤ a) : b ≤ wingAddr w a := by
  unfold wingAddr
  split
  · exact h
  · exact Nat.le_add_right_of_le h

section
variable (d : Dev)

theorem Dev.besideSch_of {e : Dev} (h : ({ e with regs := [], hw := ⟨0, []⟩, sch := State.reset.dev.sch } : Dev) =
    { d with regs := [], hw := ⟨0, []⟩, sch := State.reset.dev.sch })
    (hrd : ∀ a < 0x10000, e.rd a = d.rd a) : e.besideSch = d.besideSch := by
  refine Prod.ext h (funext fun a => ?_)
  by_cases ha : a < 0x10000
  · simp only [Dev.besideSch, ha, if_true, hrd a ha]
  · simp only [Dev.besideSch, ha, if_false]

theorem Dev.inc_besideSch {a : Nat} (h : 0x10000 ≤ a) (n : Nat) : (d.inc a n).besideSch = d.besideSch := by
  refine Dev.besideSch_of d ?_ fun b hb => Dev.rd_inc_ne d n (show b ≠ a by omega)
  obtain ⟨_, _, hinc⟩ := d.inc_eq a n
  rw [hinc]

theorem Dev.raise_besideSch {a : Nat} (h : 0x10000 ≤ a) (k : Nat) : (d.raise a k).besideSch = d.besideSch :=
  Dev.besideSch_of d rfl fun b hb => Dev.rd_raise_ne d k (show b ≠ a by omega)

theorem Dev.wrMax_besideSch {a : Nat} (h : 0x10000 ≤ a) (v : Nat) : (d.wrMax a v).besideSch = d.besideSch := by
  refine Dev.besideSch_of d ?_ fun b hb => Dev.wrMax_rd_ne d v (show b ≠ a by omega)
  obtain ⟨_, _, hmax⟩ := d.wrMax_eq a v
  rw [hmax]

@[simp] theorem Dev.modWs_besideSch (w : Nat) (f : WSched → WSched) : (d.modWs w f).besideSch = d.besideSch := by
  unfold Dev.modWs
  split <;> rfl

theorem Dev.noteDepth_besideSch (w c : Nat) : (d.noteDepth w c).besideSch = d.besideSch := by
  rw [Dev.noteDepth, Dev.modWs_besideSch]
  refine Dev.wrMax_besideSch _ (wingAddr_ge w ?_) _
  unfold Reg.SCH_CLASS_MAX_DEPTH
  omega

theorem Dev.listEnter_besideSch (w : Nat) (i : Item) : (d.listEnter w i).besideSch = d.besideSch := by
  rw [Dev.listEnter, Dev.wrMax_besideSch, Dev.noteDepth_besideSch, Dev.modWs_besideSch]
  refine wingAddr_ge w ?_
  unfold Reg.QUE_Q_MAX_DEPTH
  omega

theorem Dev.startItem_besideSch (w core : Nat) (i : Item) : (d.startItem w core i).besideSch = d.besideSch := by
  rw [Dev.startItem, Dev.modWs_besideSch, Dev.inc_besideSch]
  refine wingAddr_ge w ?_
  unfold Reg.SCH_WAIT_HIST
  omega

theorem Dev.dispatchCrit_besideSch (w fuel : Nat) : (d.dispatchCrit w fuel).besideSch = d.besideSch := by
  induction fuel generalizing d with
  | zero => rfl
  | succ fuel ih =>
    unfold Dev.dispatchCrit
    split
    · rw [ih, Dev.startItem_besideSch, Dev.modWs_besideSch]
    · rfl

theorem Dev.rounds_besideSch (w fuel : Nat) : (d.rounds w fuel).besideSch = d.besideSch := by
  induction fuel generalizing d with
  | zero => rfl
  | succ fuel ih =>
    unfold Dev.rounds
    dsimp only
    split
    · rfl
    split
    · rw [ih, Dev.modWs_besideSch]
    generalize (if (d.ws w).began then tget 0 (d.ws w).deficit (d.ws w).turn else _) = dfc
    split
    · split
      · rw [ih, Dev.startItem_besideSch, Dev.modWs_besideSch, Dev.modWs_besideSch]
      · rw [ih, Dev.modWs_besideSch, Dev.modWs_besideSch]
    · rw [ih, Dev.modWs_besideSch, Dev.modWs_besideSch]

theorem Dev.dispatch_besideSch (w : Nat) : (d.dispatch w).besideSch = d.besideSch := by
  unfold Dev.dispatch
  split
  · rw [Dev.boundDeficits, Dev.modWs_besideSch, Dev.noteSince, Dev.modWs_besideSch, Dev.rounds_besideSch, Dev.dispatchCrit_besideSch, Dev.noteSince,
      Dev.modWs_besideSch, Dev.noteDepth_besideSch]
  · rfl

theorem Dev.dispatchAll_besideSch : d.dispatchAll.besideSch = d.besideSch := by rw [Dev.dispatchAll, Dev.dispatch_besideSch, Dev.dispatch_besideSch]

variable {d} {e : Dev} (h : e.besideSch = d.besideSch)
include h

theorem Dev.host_of_sch : e.host = d.host := (congrArg (fun x => x.1.host) h :)
theorem Dev.rd_of_sch {a : Nat} (ha : a < 0x10000) : e.rd a = d.rd a := by simpa only [Dev.besideSch, ha, if_true] using congrFun (congrArg Prod.snd h) a

end

/-! A ring changed. -/

section
variable (d : Dev)

@[simp] theorem Dev.ring_modRing_same (r : Nat) (f : HostRing → HostRing) : (d.modRing r f).ring r = f (d.ring r) := tget_tset_same _ _ _ _

variable {d} in
theorem Dev.ring_congr {e : Dev} (h : e.host = d.host) (r : Nat) : e.ring r = d.ring r := by rw [Dev.ring, Dev.ring, h]

@[simp] theorem Dev.ringMsg_rd (r a : Nat) : (d.ringMsg r).rd a = d.rd a := by
  unfold Dev.ringMsg
  split
  · rfl
  · obtain ⟨_, _, _, h⟩ := msix_eq { d with host := { d.host with ringSent := d.host.ringSent ||| 2 ^ r } } r
    rw [h]
    rfl

theorem Dev.ringMsg_eq (r : Nat) : ∃ x p m z, d.ringMsg r = { d with host := { d.host with ringSent := x, pba := p, mem := m, sent := z } } := by
  unfold Dev.ringMsg
  split
  · exact ⟨_, _, _, _, rfl⟩
  · obtain ⟨_, _, _, h⟩ := msix_eq { d with host := { d.host with ringSent := d.host.ringSent ||| 2 ^ r } } r
    exact ⟨_, _, _, _, h⟩

theorem Dev.hostItem_besideSch (r : Nat) (x : HostTaken) : (d.hostItem r x).besideSch = d.besideSch := by
  rw [Dev.hostItem, Dev.dispatch_besideSch, Dev.listEnter_besideSch]
  rfl

/-- An accepted descriptor changes its own ring at most, and there the entry of its index. -/
theorem Dev.hostAccept_besideSch (r : Nat) (x : HostTaken) : (d.hostAccept r x).besideSch = d.besideSch ∨
    ∃ e, (d.hostAccept r x).besideSch = (d.hostDone r x.idx e false).besideSch := by
  unfold Dev.hostAccept
  dsimp only
  split
  · exact .inl (d.hostItem_besideSch r x)
  · exact .inr ⟨_, Dev.raise_besideSch _ (wingAddr_ge _ (by decide)) _⟩

theorem Dev.hostAccept_shows (r : Nat) (x : HostTaken) :
    ((d.hostAccept r x).ring r).next = (d.ring r).next ∧ ((d.hostAccept r x).ring r).restored = (d.ring r).restored ∧
    (∀ y ∈ ((d.hostAccept r x).ring r).taken, ∃ z ∈ (d.ring r).taken, y.idx = z.idx ∧ y.acked = z.acked) ∧
    ∀ a < 0x10000, (d.hostAccept r x).rd a = d.rd a := by
  obtain h | ⟨e, h⟩ := d.hostAccept_besideSch r x
  · rw [Dev.ring_congr (Dev.host_of_sch h)]
    exact ⟨rfl, rfl, fun y hy => ⟨y, hy, rfl, rfl⟩, fun a ha => Dev.rd_of_sch h ha⟩
  · rw [Dev.ring_congr (Dev.host_of_sch h), Dev.hostDone, Dev.ring_modRing_same]
    refine ⟨rfl, rfl, fun y hy => ?_, fun a ha => Dev.rd_of_sch h ha⟩
    obtain ⟨z, hz, rfl⟩ := List.mem_map.mp hy
    refine ⟨z, hz, ?_⟩
    split
    · exact ⟨rfl, rfl⟩
    · exact ⟨rfl, rfl⟩

/-! A descriptor taken (R833). -/

/-- The ring takes no descriptor now: it waits for credit, room or the limit, or power fails. -/
def Dev.hrWaits (r : Nat) : Bool := d.waitCredit r || !d.cqRoom r || d.waitLimit r || d.pins.pwrfailLow

theorem Dev.hostTake_none {r : Nat} (h : d.hrNext r = none) : d.hostTake r = d := by simp only [Dev.hostTake, h]

theorem Dev.hostTake_waits {r : Nat} (h : d.hrWaits r = true) : d.hostTake r = d := by
  unfold Dev.hostTake
  split
  · rfl
  · exact if_pos h

variable {d} in
theorem Dev.hrWaits_false {r : Nat} (hc : d.waitCredit r = false) (hq : d.cqRoom r = true) (hl : d.waitLimit r = false) (hp : d.pins.pwrfailLow = false) :
    d.hrWaits r = false := by rw [Dev.hrWaits, hc, hq, hl, hp]; rfl

variable {d} in
theorem Dev.hrWaits_true {r : Nat} (h : d.waitCredit r = true ∨ d.cqRoom r = false ∨ d.waitLimit r = true ∨ d.pins.pwrfailLow = true) :
    d.hrWaits r = true := by
  simp only [Dev.hrWaits, Bool.or_eq_true, Bool.not_eq_true']
  tauto

/-- The ring with the descriptor that it takes. -/
def HostRing.take (g : HostRing) (b a : Bytes) : HostRing :=
  { g with next := g.next + 1, taken := g.taken ++ [⟨g.next, b, a, g.restored != [], none⟩], restored := g.restored.drop 1 }

theorem HostRing.take_fresh {g : HostRing} (b a : Bytes) (h : g.restored = []) :
    g.take b a = { g with next := g.next + 1, taken := g.taken ++ [⟨g.next, b, a, false, none⟩] } := by
  obtain ⟨next, taken, phase, restored⟩ := g
  obtain rfl : restored = [] := h
  rfl

variable {d} in
theorem Dev.modRing_congr {r : Nat} {f g : HostRing → HostRing} (h : f (d.ring r) = g (d.ring r)) : d.modRing r f = d.modRing r g := by
  rw [Dev.modRing, Dev.modRing, h]

theorem Dev.hostTake_takes {r : Nat} {b a : Bytes} (hn : d.hrNext r = some (b, a)) (hw : d.hrWaits r = false) : d.hostTake r =
    if ((d.ring r).restored != []) = true then (d.modRing r (·.take b a)).hostAccept r ⟨(d.ring r).next, b, a, (d.ring r).restored != [], none⟩
    else (d.modRing r (·.take b a)).wrN (Reg.GLB_HR_SQ_TAIL r) ((d.fld (Reg.GLB_HR_SQ_TAIL r) 11 0 + 1) % d.sqSize r) := by
  unfold Dev.hostTake
  rw [hn]
  exact if_neg (Bool.eq_false_iff.mp hw)

/-! A descriptor acknowledged, and its entry emitted (R834 to R836). -/

/-- A ring with the descriptors of an index acknowledged. -/
def HostRing.ack (g : HostRing) (i : Nat) : HostRing := { g with taken := g.taken.map (fun y => if y.idx = i then { y with acked := true } else y) }

theorem HostRing.ack_taken {g : HostRing} {i : Nat} {y : HostTaken} (hy : y ∈ (g.ack i).taken) (h : y.idx = i) : y.acked = true := by
  obtain ⟨u, -, rfl⟩ := List.mem_map.mp hy
  split at h
  · rw [if_pos ‹_›]
  · exact absurd h ‹_›

/-- The machine with a descriptor acknowledged and SQ_ACK moved on. -/
def Dev.hostMarked (r : Nat) (x : HostTaken) : Dev :=
  (d.modRing r (·.ack x.idx)).wrN (Reg.GLB_HR_SQ_ACK r) (if d.sqSize r = 0 then 0 else (d.fld (Reg.GLB_HR_SQ_ACK r) 11 0 + 1) % d.sqSize r)

/-- The machine with that descriptor refused, or its item made. -/
def Dev.hostAcked (r : Nat) (x : HostTaken) : Dev := (d.hostMarked r x).hostAccept r x

theorem Dev.hostAck_still {r : Nat} (h : d.pfHeld = true ∨ (d.ring r).taken.find? (fun x => !x.acked) = none) : d.hostAck r = d := by
  unfold Dev.hostAck
  split
  · rfl
  · rename_i x hx
    exact if_pos (h.resolve_right (by simp [hx]))

theorem Dev.hostAck_acks {r : Nat} {x : HostTaken} (h : d.pfHeld = false) (hx : (d.ring r).taken.find? (fun x => !x.acked) = some x) :
    d.hostAck r = if (d.hostAcked r x).flag (Reg.GLB_HR_CTL r) 1 then (d.hostAcked r x).ringMsg r else d.hostAcked r x := by
  unfold Dev.hostAck
  rw [hx]
  exact if_neg (Bool.eq_false_iff.mp h)

theorem Dev.sqAck_lt (r : Nat) : (if d.sqSize r = 0 then 0 else (d.fld (Reg.GLB_HR_SQ_ACK r) 11 0 + 1) % d.sqSize r) < 2 ^ 32 := by
  have hsize : d.sqSize r < 2 ^ 13 := Nat.mod_lt _ (by decide)
  split
  · decide
  · have := Nat.mod_lt (d.fld (Reg.GLB_HR_SQ_ACK r) 11 0 + 1) (Nat.pos_of_ne_zero ‹_›)
    omega

theorem Dev.hostAcked_shows {r : Nat} (hr : r < 8) (x : HostTaken) :
    (d.hostAcked r x).rdN (Reg.GLB_HR_SQ_ACK r) = (if d.sqSize r = 0 then 0 else (d.fld (Reg.GLB_HR_SQ_ACK r) 11 0 + 1) % d.sqSize r) ∧
    (∀ y ∈ ((d.hostAcked r x).ring r).taken, y.idx = x.idx → y.acked = true) ∧ ((d.hostAcked r x).ring r).next = (d.ring r).next := by
  have hring : (d.hostMarked r x).ring r = (d.ring r).ack x.idx := d.ring_modRing_same r (·.ack x.idx)
  have hack : (d.hostMarked r x).rdN (Reg.GLB_HR_SQ_ACK r) = _ := Dev.rdN_wrN_same _ _ _
  obtain ⟨hnext, -, htaken, hrd⟩ := (d.hostMarked r x).hostAccept_shows r x
  rw [hring] at hnext htaken
  refine ⟨?_, fun y hy hidx => ?_, hnext⟩
  · have hlt : Reg.GLB_HR_SQ_ACK r < 0x10000 := by
      unfold Reg.GLB_HR_SQ_ACK
      omega
    exact (congrArg BitVec.toNat (hrd _ hlt)).trans (hack.trans (Nat.mod_eq_of_lt (d.sqAck_lt r)))
  · obtain ⟨z, hz, hi, ha⟩ := htaken y hy
    exact ha.trans (HostRing.ack_taken hz (hi.symm.trans hidx))

theorem Dev.hostAck_shows {r : Nat} {x : HostTaken} (hr : r < 8) (h : d.pfHeld = false) (hx : (d.ring r).taken.find? (fun x => !x.acked) = some x) :
    (d.hostAck r).rdN (Reg.GLB_HR_SQ_ACK r) = (if d.sqSize r = 0 then 0 else (d.fld (Reg.GLB_HR_SQ_ACK r) 11 0 + 1) % d.sqSize r) ∧
    (∀ y ∈ ((d.hostAck r).ring r).taken, y.idx = x.idx → y.acked = true) ∧ ((d.hostAck r).ring r).next = (d.ring r).next := by
  have hshows := d.hostAcked_shows hr x
  rw [d.hostAck_acks h hx]
  split
  · have hmsg := (d.hostAcked r x).ringMsg_rd r
    obtain ⟨_, _, _, _, heq⟩ := (d.hostAcked r x).ringMsg_eq r
    rw [Dev.rdN, hmsg, ← Dev.rdN]
    rw [heq]
    exact hshows
  · exact hshows

/-- May the entry of a descriptor pass and be written now? -/
def Dev.hrMayPass (r : Nat) (x : HostTaken) : Bool :=
  x.acked && d.hrRuns r && d.dma && 0 < ringRoom (d.cqSize r) (d.fld (Reg.GLB_HR_CQ_HEAD r) 11 0) (d.fld (Reg.GLB_HR_CQ_TAIL r) 11 0) &&
    d.gateOpen d.active (2168 + r) x.idx

variable {d} in
theorem Dev.hrMayPass_true {r : Nat} {x : HostTaken} (ha : x.acked = true) (hr : d.hrRuns r = true) (hd : d.dma = true)
    (hroom : 0 < ringRoom (d.cqSize r) (d.fld (Reg.GLB_HR_CQ_HEAD r) 11 0) (d.fld (Reg.GLB_HR_CQ_TAIL r) 11 0))
    (hg : d.gateOpen d.active (2168 + r) x.idx = true) : d.hrMayPass r x = true := by simp only [Dev.hrMayPass, ha, hr, hd, hroom, hg, decide_true, Bool.and_self]

variable {d} in
theorem Dev.hrMayPass_false {r : Nat} {x : HostTaken} (h : x.acked = false ∨ d.hrRuns r = false ∨ d.dma = false ∨
    d.gateOpen d.active (2168 + r) x.idx = false ∨ ringRoom (d.cqSize r) (d.fld (Reg.GLB_HR_CQ_HEAD r) 11 0) (d.fld (Reg.GLB_HR_CQ_TAIL r) 11 0) = 0) :
    d.hrMayPass r x = false := by
  simp only [Dev.hrMayPass, Bool.and_eq_false_iff, decide_eq_false_iff_not, not_lt, Nat.le_zero]
  tauto

variable {d} in
/-- A ring that runs has a completion ring. -/
theorem Dev.cqSize_pos {r : Nat} (h : d.hrRuns r = true) : 0 < d.cqSize r := by
  have hok : hrSizeOk (d.cqSize r) = true := (Bool.and_eq_true_iff.mp h).2
  refine Nat.pos_of_ne_zero fun h0 => ?_
  rw [h0] at hok
  exact absurd hok (by decide)

/-- A ring without its oldest descriptor, PHASE as the wrap asks for. -/
def HostRing.emit (g : HostRing) (wraps : Bool) : HostRing := { g with taken := g.taken.drop 1, phase := if wraps then !g.phase else g.phase }

/-- The machine with the entry of its ring's oldest descriptor passed and written to host memory. -/
def Dev.hostSent (r : Nat) (x : HostTaken) (e : Bytes) (ne : Bool) : Dev :=
  (d.gatePass (2168 + r) x.idx).dmaWrite
    ((d.gatePass (2168 + r) x.idx).rd64 (Reg.GLB_HR_CQ_BASE_LO r) (Reg.GLB_HR_CQ_BASE_HI r) + 32 * d.fld (Reg.GLB_HR_CQ_HEAD r) 11 0)
    (e ++ le 8 x.idx ++ zeros 7 ++ le 1 (b2n (d.ring r).phase + 2 * b2n ne))

/-- The machine with the ring moved on past that descriptor. -/
def Dev.hostPassed (r : Nat) (x : HostTaken) (e : Bytes) (ne : Bool) : Dev :=
  ((d.hostSent r x e ne).modRing r (·.emit (d.fld (Reg.GLB_HR_CQ_HEAD r) 11 0 + 1 = d.cqSize r))).wrN (Reg.GLB_HR_CQ_HEAD r)
    ((d.fld (Reg.GLB_HR_CQ_HEAD r) 11 0 + 1) % d.cqSize r)

theorem Dev.hostSent_shows (r : Nat) (x : HostTaken) (e : Bytes) (ne : Bool) : (d.hostSent r x e ne).ring r = d.ring r ∧
    tget 0 (d.hostSent r x e ne).units.outSeq (2168 + r) = x.idx + 1 := by
  have hseq := d.gatePass_seq (show 16 ≤ 2168 + r by omega) x.idx
  have hhost : (d.gatePass (2168 + r) x.idx).host = d.host := by
    unfold Dev.gatePass
    split <;> rfl
  unfold Dev.hostSent
  generalize d.gatePass (2168 + r) x.idx = f at *
  obtain ⟨m, hm⟩ := f.dmaWrite_eq (f.rd64 (Reg.GLB_HR_CQ_BASE_LO r) (Reg.GLB_HR_CQ_BASE_HI r) + 32 * d.fld (Reg.GLB_HR_CQ_HEAD r) 11 0)
    (e ++ le 8 x.idx ++ zeros 7 ++ le 1 (b2n (d.ring r).phase + 2 * b2n ne))
  rw [hm]
  refine ⟨?_, hseq⟩
  show tget HostRing.start f.host.rings r = d.ring r
  rw [hhost, Dev.ring]

theorem Dev.hostEntry_empty {r : Nat} (h : (d.ring r).taken = []) : d.hostEntry r = d := by simp only [Dev.hostEntry, h]

theorem Dev.hostEntry_still {r : Nat} {x : HostTaken} {l : List HostTaken} (hl : (d.ring r).taken = x :: l) (h : x.entry = none ∨ d.hrMayPass r x = false) :
    d.hostEntry r = d := by
  unfold Dev.hostEntry
  rw [hl]
  dsimp only
  split
  · rfl
  · rename_i y hy
    exact if_neg (Bool.eq_false_iff.mp (h.resolve_left (by simp [hy])))

theorem Dev.hostEntry_passes {r : Nat} {x : HostTaken} {l : List HostTaken} {e : Bytes} {ne : Bool} (hl : (d.ring r).taken = x :: l)
    (he : x.entry = some (e, ne)) (h : d.hrMayPass r x = true) : d.hostEntry r = (d.hostPassed r x e ne).ringMsg r := by
  have hwraps (g : HostRing) : g.emit (decide (d.fld (Reg.GLB_HR_CQ_HEAD r) 11 0 + 1 = d.cqSize r)) =
      { g with taken := g.taken.drop 1, phase := if d.fld (Reg.GLB_HR_CQ_HEAD r) 11 0 + 1 = d.cqSize r then !g.phase else g.phase } := by
    simp only [HostRing.emit, decide_eq_true_eq]
  unfold Dev.hostEntry Dev.hostPassed Dev.hostSent
  rw [hl]
  dsimp only
  rw [he]
  simp only [hwraps]
  exact if_pos h

theorem Dev.hostPassed_shows {r : Nat} {x : HostTaken} {l : List HostTaken} (e : Bytes) (ne : Bool) (hl : (d.ring r).taken = x :: l) (hn : 0 < d.cqSize r) :
    (d.hostPassed r x e ne).rdN (Reg.GLB_HR_CQ_HEAD r) = (d.fld (Reg.GLB_HR_CQ_HEAD r) 11 0 + 1) % d.cqSize r ∧ ((d.hostPassed r x e ne).ring r).taken = l ∧
    ((d.hostPassed r x e ne).ring r).phase = (if d.fld (Reg.GLB_HR_CQ_HEAD r) 11 0 + 1 = d.cqSize r then !(d.ring r).phase else (d.ring r).phase) ∧
    tget 0 (d.hostPassed r x e ne).units.outSeq (2168 + r) = x.idx + 1 := by
  have hlt : (d.fld (Reg.GLB_HR_CQ_HEAD r) 11 0 + 1) % d.cqSize r < 2 ^ 32 :=
    Nat.lt_trans (Nat.mod_lt _ hn) (Nat.lt_trans (show d.cqSize r < 2 ^ 13 from Nat.mod_lt _ (by decide)) (by decide))
  obtain ⟨hring, hseq⟩ := d.hostSent_shows r x e ne
  have hmoved : (d.hostPassed r x e ne).ring r = (d.ring r).emit (d.fld (Reg.GLB_HR_CQ_HEAD r) 11 0 + 1 = d.cqSize r) :=
    ((d.hostSent r x e ne).ring_modRing_same r (·.emit _)).trans (congrArg (HostRing.emit · _) hring)
  refine ⟨(Dev.rdN_wrN_same _ _ _).trans (Nat.mod_eq_of_lt hlt), ?_, ?_, hseq⟩
  · rw [hmoved, HostRing.emit, hl]
    rfl
  · rw [hmoved, HostRing.emit]
    simp only [decide_eq_true_eq]

end

/-! A ring enabled (R838). -/

/-- The row of GLB_HR_CTL. -/
def hrCtlRow : RegRow := ⟨0x2100, [(0x40, 8)], .rw, 0x0, 0x3, 0x0, []⟩

theorem hrCtl_row {r : Nat} (hr : r < 8) : regAt (Reg.GLB_HR_CTL r) = some hrCtlRow := by
  have hrows : ∀ r < 8, regAt (Reg.GLB_HR_CTL r) = some ⟨0x2100, [(0x40, 8)], .rw, 0x0, 0x3, 0x0, []⟩ := by decide +kernel
  exact hrows r hr

theorem hrCtl_ne {r : Nat} (hr : r < 8) : Reg.GLB_HR_CTL r ≠ Reg.GLB_CTL ∧ Reg.GLB_HR_CTL r ≠ Reg.GLB_RESET_CTL ∧
    (∀ p < 2, Reg.GLB_HR_CTL r ≠ Reg.REC_RP_QUOTA p) ∧ ∀ p < 8, Reg.GLB_HR_CTL r ≠ Reg.TST_PORT_GEN p := by
  have hall : ∀ r < 8, Reg.GLB_HR_CTL r ≠ Reg.GLB_CTL ∧ Reg.GLB_HR_CTL r ≠ Reg.GLB_RESET_CTL ∧
      (∀ p < 2, Reg.GLB_HR_CTL r ≠ Reg.REC_RP_QUOTA p) ∧ ∀ p < 8, Reg.GLB_HR_CTL r ≠ Reg.TST_PORT_GEN p := by decide
  exact hall r hr

theorem Dev.regAct_hrCtl (d : Dev) (i : Iface) {r : Nat} (hr : r < 8) (v : Word) :
    d.regAct i (Reg.GLB_HR_CTL r) v = (d.wr (Reg.GLB_HR_CTL r) v).hostEnable r (d.flag (Reg.GLB_HR_CTL r) 0) := by
  have hlt : Reg.GLB_HR_CTL r < 0x10000 := by
    unfold Reg.GLB_HR_CTL
    omega
  have helem : ∀ r < 8, elemOf (Reg.GLB_HR_CTL 0) 0x40 8 (Reg.GLB_HR_CTL r) = r := by decide
  rw [Dev.regAct, if_pos hlt, Dev.actGlb]
  simp only [helem r hr, if_true, Option.getD_some]

theorem Dev.hostEnable_shows (d : Dev) (r : Nat) (v : Word) (hv : bit v 0 = true) :
    let e := (d.wr (Reg.GLB_HR_CTL r) v).hostEnable r false
    e.flag (Reg.GLB_HR_CTL r) 0 = true ∧ e.rdN (Reg.GLB_HR_CQ_HEAD r) = 0 ∧ (e.ring r).phase = true ∧ (e.ring r).next = (d.ring r).next ∧
      (e.ring r).taken = (d.ring r).taken ∧ e.resetCtr = d.resetCtr := by
  have hctl : (d.wr (Reg.GLB_HR_CTL r) v).rd (Reg.GLB_HR_CTL r) = v := Dev.rd_wr_same _ _ _
  have hflag : (d.wr (Reg.GLB_HR_CTL r) v).flag (Reg.GLB_HR_CTL r) 0 = true := (congrArg (bit · 0) hctl).trans hv
  have hne : Reg.GLB_HR_CTL r ≠ Reg.GLB_HR_CQ_HEAD r := by
    unfold Reg.GLB_HR_CTL Reg.GLB_HR_CQ_HEAD
    omega
  have hring := ((d.wr (Reg.GLB_HR_CTL r) v).wrN (Reg.GLB_HR_CQ_HEAD r) 0).ring_modRing_same r (fun g => { g with phase := true })
  dsimp only
  rw [Dev.hostEnable, hflag, if_pos (show (!false && true) = true from rfl), hring]
  exact ⟨(congrArg (bit · 0) (Dev.rd_wrN_ne _ hne 0)).trans hflag, Dev.rdN_wrN_same _ _ 0, rfl, rfl, rfl, rfl⟩

/-- Settles O16: the descriptor taken (`Dev.hostTake_takes`), acknowledged (`Dev.hostAck_shows`) and completed (`Dev.hostPassed_shows`), and the ring enabled
(`Dev.hostEnable_shows`). -/
theorem hostRings : Obligations.HostRings := by
  have htake (s : State) (n r : Nat) (hr : r < 8) : Ends (exec (.hostRingTake n r) s) { s with dev := (s.dev.tick n).hostTake r } := by
    rw [exec_hostRingTake, decide_eq_true hr]
    exact devRow_ends s n (·.hostTake r)
  have hack (s : State) (n r : Nat) (hr : r < 8) : Ends (exec (.hostRingAck n r) s) { s with dev := ((s.dev.tick n).hostAck r).dispatchAll } := by
    rw [exec_hostRingAck, decide_eq_true hr]
    exact devRow_ends s n (fun d => (d.hostAck r).dispatchAll)
  have hentry (s : State) (n r : Nat) (hr : r < 8) : Ends (exec (.hostRingCompletion n r) s) { s with dev := (s.dev.tick n).hostEntry r } := by
    rw [exec_hostRingCompletion, decide_eq_true hr]
    exact devRow_ends s n (·.hostEntry r)
  refine ⟨fun s n r hr hn => ?none, fun s n r b a hr hn => ⟨fun hrest hc hq hl hp => ?fresh, fun x l hrest hc hq hl hp => ?restored, fun hw => ?waits⟩,
    fun s n r x hr hx hp => ?acks, fun s n r hr h => ?still, fun s n r hr hl => ?empty, fun s n r x l hr hl => ⟨fun h => ?keeps, ?emits⟩,
    fun s n r i v hr h hoff hon => ?enable⟩
  case none => exact (s.dev.tick n).hostTake_none hn ▸ htake s n r hr
  case fresh =>
    have hw : (s.dev.tick n).hrWaits r = false := Dev.hrWaits_false hc hq hl hp
    have hends := htake s n r hr
    have hring : (s.dev.tick n).modRing r (·.take b a) =
        (s.dev.tick n).modRing r (fun g => { g with next := g.next + 1, taken := g.taken ++ [⟨g.next, b, a, false, none⟩] }) :=
      Dev.modRing_congr (HostRing.take_fresh b a hrest)
    rw [Dev.hostTake_takes (s.dev.tick n) hn hw, if_neg (by rw [show ((s.dev.tick n).ring r).restored = [] from hrest]; decide), hring] at hends
    exact hends
  case restored =>
    have hw : (s.dev.tick n).hrWaits r = false := Dev.hrWaits_false hc hq hl hp
    have hends := htake s n r hr
    have hlt : Reg.GLB_HR_SQ_TAIL r < 0x10000 := by
      unfold Reg.GLB_HR_SQ_TAIL
      omega
    have hold : ((s.dev.tick n).ring r).restored = x :: l := hrest
    rw [Dev.hostTake_takes (s.dev.tick n) hn hw, if_pos (by rw [hold]; rfl)] at hends
    obtain ⟨hnext, hleft, -, hrd⟩ := ((s.dev.tick n).modRing r (·.take b a)).hostAccept_shows r
      ⟨((s.dev.tick n).ring r).next, b, a, ((s.dev.tick n).ring r).restored != [], none⟩
    rw [Dev.ring_modRing_same, HostRing.take] at hnext hleft
    replace hleft := hleft.trans (congrArg (List.drop 1) hold)
    have htail := hrd _ hlt
    generalize Dev.hostAccept _ _ _ = f at *
    exact hends.with fun _ _ _ _ _ => ⟨hnext, hleft, htail⟩
  case waits =>
    have hw' : (s.dev.tick n).hrWaits r = true := Dev.hrWaits_true hw
    exact (s.dev.tick n).hostTake_waits hw' ▸ htake s n r hr
  case acks =>
    obtain ⟨hsq, htaken, hnext⟩ := (s.dev.tick n).hostAck_shows hr hp hx
    have hends := hack s n r hr
    have hview := ((s.dev.tick n).hostAck r).dispatchAll_besideSch
    generalize ((s.dev.tick n).hostAck r).dispatchAll = f at *
    have hring := Dev.ring_congr (Dev.host_of_sch hview) r
    have hlt : Reg.GLB_HR_SQ_ACK r < 0x10000 := by
      unfold Reg.GLB_HR_SQ_ACK
      omega
    have hrd := congrArg BitVec.toNat (Dev.rd_of_sch hview hlt)
    generalize (s.dev.tick n).hostAck r = g at *
    rw [← hring] at htaken hnext
    exact hends.with fun _ _ _ _ _ => ⟨hrd.trans hsq, htaken, hnext⟩
  case still =>
    have hends := hack s n r hr
    rw [(s.dev.tick n).hostAck_still h] at hends
    have hview := (s.dev.tick n).dispatchAll_besideSch
    generalize (s.dev.tick n).dispatchAll = f at *
    have hlt : Reg.GLB_HR_SQ_ACK r < 0x10000 := by
      unfold Reg.GLB_HR_SQ_ACK
      omega
    have hrings : f.host.rings = s.dev.host.rings := congrArg HostIf.rings (Dev.host_of_sch (d := s.dev.tick n) hview)
    have hrd := Dev.rd_of_sch hview hlt
    exact hends.with fun _ _ _ _ _ => ⟨hrings, hrd⟩
  case empty => exact (s.dev.tick n).hostEntry_empty hl ▸ hentry s n r hr
  case keeps =>
    have hstill : x.entry = none ∨ (s.dev.tick n).hrMayPass r x = false := h.imp_right fun h => Dev.hrMayPass_false h
    exact (s.dev.tick n).hostEntry_still hl hstill ▸ hentry s n r hr
  case emits =>
    rintro ⟨e, ne⟩ he hacked hruns hdma hroom hgate
    have hpass : (s.dev.tick n).hrMayPass r x = true := Dev.hrMayPass_true hacked hruns hdma hroom hgate
    obtain ⟨hhead, htaken, hphase, hseq⟩ := (s.dev.tick n).hostPassed_shows e ne hl (Dev.cqSize_pos hruns)
    have hends := hentry s n r hr
    rw [Dev.hostEntry_passes (s.dev.tick n) hl he hpass] at hends
    generalize (s.dev.tick n).hostPassed r x e ne = f at *
    obtain ⟨_, _, _, _, hmsg⟩ := f.ringMsg_eq r
    rw [hmsg] at hends
    exact hends.with fun _ _ _ _ _ => ⟨hhead, htaken, hphase, hseq⟩
  case enable =>
    have hheld (old : Word) : (hrCtlRow).merge old v = ((old &&& ~~~ w32 3) ||| (v &&& w32 3), false) := rfl
    have hbit : bit ((s.dev.rd (s.dev.copy (Reg.GLB_HR_CTL r)) &&& ~~~ w32 3) ||| (v &&& w32 3)) 0 = true :=
      (bit_held _ v 3 (by decide)).trans hon
    generalize hw : (s.dev.rd (s.dev.copy (Reg.GLB_HR_CTL r)) &&& ~~~ w32 3) ||| (v &&& w32 3) = w at *
    obtain ⟨hflag, hhead, hphase, hnext, htaken, hctr⟩ := (s.dev.tick n).hostEnable_shows r w hbit
    have hact : (s.dev.tick n).regAct i (Reg.GLB_HR_CTL r) w = ((s.dev.tick n).wr (Reg.GLB_HR_CTL r) w).hostEnable r false := by
      rw [Dev.regAct_hrCtl _ i hr, show (s.dev.tick n).flag (Reg.GLB_HR_CTL r) 0 = false from hoff]
    have hends := hostRow_act h (hrCtl_row hr) (.inl rfl) ((hheld _).trans (by rw [hw])) (hrCtl_ne hr) hact hctr
    rw [exec_hostRingEnable, decide_eq_true hr]
    generalize ((s.dev.tick n).wr (Reg.GLB_HR_CTL r) w).hostEnable r false = f at *
    exact hends.with fun _ _ _ _ _ => ⟨hflag, hhead, hphase, hnext, htaken⟩

end Sys2Proof.Machine

/-! What sending frames leaves (R292, R305, R309): the machine but for its ports, the recorder, what is sent and the sequences of the pairs, and the registers of
the device below those of the ports, of the wings and of safety. -/

namespace Sys2Proof.Machine

/-- A register that sending a frame may write: of the network, of the queues, of the recorder, of the tests. -/
def txReg (a : Nat) : Bool := decide (0x100000 ≤ a) && (decide (a < 0x400000) || decide (0x480000 ≤ a))

theorem txReg_iff {a : Nat} : txReg a = true ↔ 0x100000 ≤ a ∧ (a < 0x400000 ∨ 0x480000 ≤ a) := by simp [txReg]

/-- The machine but for what sending a frame changes. -/
def Dev.besideTx (d : Dev) : Dev × (Nat → Word) :=
  ({ d with
      regs := [], hw := ⟨0, []⟩, evr := State.reset.dev.evr, net := State.reset.dev.net, tim := { d.tim with ports := [] }
      host := { d.host with sent := [] }, units := { d.units with outSeq := [] } },
    fun a => if txReg a then 0 else d.rd a)

/-- The registers and the recorder changed. -/
def Dev.told (d : Dev) (g : List (Nat × Word)) (k : HwCycle) (e : Recorder) : Dev := { d with regs := g, hw := k, evr := e }

section
variable (d : Dev)

theorem Dev.besideTx_told {e : Dev} (h : ∃ g k r, e = d.told g k r) (hrd : ∀ a, txReg a = false → e.rd a = d.rd a) : e.besideTx = d.besideTx := by
  obtain ⟨g, k, r, rfl⟩ := h
  refine Prod.ext rfl (funext fun a => ?_)
  cases ha : txReg a
  · simp only [Dev.besideTx, ha, Bool.false_eq_true, if_false, hrd a ha]
  · simp only [Dev.besideTx, ha, if_true]

variable {d} {a : Nat} (ha : txReg a = true)
include ha

theorem ne_of_txReg {b : Nat} (hb : txReg b = false) : b ≠ a := by
  rintro rfl
  rw [ha] at hb
  cases hb

theorem Dev.wr_besideTx (v : Word) : (d.wr a v).besideTx = d.besideTx :=
  Dev.besideTx_told d ⟨_, _, _, rfl⟩ fun _ hb => Dev.rd_wr_ne d (ne_of_txReg ha hb) v

theorem Dev.wrN_besideTx (v : Nat) : (d.wrN a v).besideTx = d.besideTx := Dev.wr_besideTx ha _

theorem Dev.incW_besideTx (n : Nat) : (d.incW a n).besideTx = d.besideTx := Dev.wrN_besideTx ha _

theorem Dev.raise_besideTx (k : Nat) : (d.raise a k).besideTx = d.besideTx :=
  Dev.besideTx_told d ⟨_, _, _, rfl⟩ fun _ hb => Dev.rd_raise_ne d k (ne_of_txReg ha hb)

theorem Dev.inc_besideTx (n : Nat) : (d.inc a n).besideTx = d.besideTx := by
  obtain ⟨g, k, h⟩ := d.inc_eq a n
  exact Dev.besideTx_told d ⟨g, k, d.evr, h⟩ fun _ hb => Dev.rd_inc_ne d n (ne_of_txReg ha hb)

end

section
variable (d : Dev)

@[simp] theorem Dev.record_besideTx (typ : Nat) (b : Bytes) : (d.record typ b).besideTx = d.besideTx :=
  Dev.besideTx_told d (d.record_eq typ b) fun _ hb => Dev.record_rd_ne d typ b (ne_of_txReg (by decide) hb)

@[simp] theorem Dev.modPort_besideTx (p : Nat) (f : Port → Port) : (d.modPort p f).besideTx = d.besideTx := rfl
@[simp] theorem Dev.emit_besideTx (x : Sent) : (d.emit x).besideTx = d.besideTx := rfl

@[simp] theorem Dev.seqHeld_besideTx (l : List (Nat × Nat)) : ({ d with units := { d.units with outSeq := l } } : Dev).besideTx = d.besideTx := rfl

theorem txReg_wingAddr {a : Nat} (w : Nat) (h : txReg a = true) : txReg (wingAddr w a) = true := by
  unfold wingAddr wingOfs
  split
  · exact h
  · rw [txReg_iff] at h ⊢
    omega

theorem Dev.wrMax_besideTx {a : Nat} (ha : txReg a = true) (v : Nat) : (d.wrMax a v).besideTx = d.besideTx := by
  obtain ⟨g, k, h⟩ := d.wrMax_eq a v
  exact Dev.besideTx_told d ⟨g, k, d.evr, h⟩ fun _ hb => Dev.wrMax_rd_ne d v (ne_of_txReg ha hb)

theorem Dev.queMax_besideTx {q : Nat} (hq : q < 64) (n : Nat) : (d.queMax q n).besideTx = d.besideTx := by
  have hreg : txReg (Reg.QUE_Q_MAX_DEPTH q) = true := txReg_iff.mpr (by unfold Reg.QUE_Q_MAX_DEPTH; omega)
  rw [Dev.queMax, Dev.wrMax_besideTx _ (txReg_wingAddr 1 hreg), Dev.wrMax_besideTx _ (txReg_wingAddr 0 hreg)]

variable {p q : Nat} (hp : p < 8)
include hp

theorem Dev.txRefuse_besideTx (src len : Nat) : (d.txRefuse p q src len).besideTx = d.besideTx := by
  rw [Dev.txRefuse, Dev.raise_besideTx (txReg_iff.mpr (by unfold Reg.NET_PORT_INT_STATUS; omega)), Dev.record_besideTx,
    Dev.inc_besideTx (txReg_iff.mpr (by unfold Reg.NET_PORT_TX_REFUSED; omega))]

theorem Dev.txPut_besideTx (hq : q < 8) (f : TxFrame) : (d.txPut p q f).besideTx = d.besideTx := by
  have hmax (e : Dev) (n : Nat) : (e.queMax (8 * p + q) n).besideTx = e.besideTx := e.queMax_besideTx (by omega) n
  unfold Dev.txPut
  split
  · rfl
  · dsimp only
    rw [hmax, Dev.modPort_besideTx]
    split
    · exact (Dev.incW_besideTx (txReg_iff.mpr (by unfold Reg.NET_PORT_LPI_US; omega)) _).trans (d.modPort_besideTx _ _)
    · rfl

omit hp in
theorem Dev.plcaStart_besideTx : (d.plcaStart p).besideTx = d.besideTx := by
  unfold Dev.plcaStart
  dsimp only
  split
  · rfl
  · split <;> rfl

omit hp in
theorem Dev.ptpDepart_besideTx (kind : Nat) (stamp : Int) (b : Bytes) : (d.ptpDepart p kind stamp b).2.2.besideTx = d.besideTx := by
  unfold Dev.ptpDepart
  dsimp only
  split
  · rfl
  · split <;> split <;> rfl

omit hp in
theorem Dev.txWire_besideTx (f : TxFrame) : (d.txWire p f).besideTx = d.besideTx := by
  unfold Dev.txWire
  split
  · rfl
  · exact d.ptpDepart_besideTx f.ptp f.stamp f.bytes

theorem Dev.txStart_besideTx : (d.txStart p).besideTx = d.besideTx := by
  have hdisc : txReg (Reg.TST_PORT_DISC_CNT p) = true := txReg_iff.mpr (by unfold Reg.TST_PORT_DISC_CNT; omega)
  unfold Dev.txStart
  dsimp only
  split
  · rfl
  split
  · rw [Dev.modPort_besideTx]
    split
    · rfl
    · exact Dev.incW_besideTx hdisc _
  split
  · rfl
  split
  · rfl
  · rw [Dev.txWire_besideTx, Dev.plcaStart_besideTx, Dev.modPort_besideTx]

theorem Dev.txList_besideTx (hq : q < 8) (job : Bool) (l : List Bytes) : (d.txList p q job l).besideTx = d.besideTx := by
  induction l generalizing d with
  | nil => rfl
  | cons b r ih => rw [Dev.txList, ih, Dev.txPut_besideTx _ hp hq]

theorem Dev.txPair_besideTx (hq : q < 8) (job : Bool) (l : List Bytes) : (d.txPair p q job l).besideTx = d.besideTx := by
  have hseq : txReg (prpSeqReg p) = true := by
    unfold prpSeqReg
    split <;> decide
  have ha : lanA p < 8 ∧ lanA p + 1 < 8 := by
    unfold lanA
    omega
  induction l generalizing d with
  | nil => rfl
  | cons b r ih =>
    rw [Dev.txPair, ih, Dev.txPut_besideTx _ ha.2 hq, Dev.txPut_besideTx _ ha.1 hq]
    exact (Dev.seqHeld_besideTx _ _).trans (Dev.wrN_besideTx hseq _)

theorem Dev.txSend_besideTx (hq : q < 8) (src : Nat) (job : Bool) (l : List Bytes) : (d.txSend p q src job l).besideTx = d.besideTx := by
  have ha : lanA p < 8 ∧ lanA p + 1 < 8 := by
    unfold lanA
    omega
  unfold Dev.txSend
  dsimp only
  split
  · split
    · rw [Dev.txRefuse_besideTx _ ha.2, Dev.txRefuse_besideTx _ ha.1]
    · rw [Dev.txStart_besideTx _ ha.2, Dev.txStart_besideTx _ ha.1, Dev.txPair_besideTx _ hp hq]
  · split
    · exact d.txRefuse_besideTx hp src _
    · rw [Dev.txStart_besideTx _ hp, Dev.txList_besideTx _ hp hq]

end

/-- Frames sent to the ports of a mask. -/
theorem Dev.toPorts_besideTx (d e : Dev) {mask q src : Nat} (hq : q < 8) (mk : Nat → Bytes) :
    ((d.toPorts mask q src mk).foldl (fun (e : Dev) a => e.act a) e).besideTx = e.besideTx := by
  refine foldl_keeps_mem Dev.besideTx (fun e a ha => ?_) e
  obtain ⟨p, hp, rfl⟩ := List.mem_map.mp ha
  exact e.txSend_besideTx (List.mem_range.mp (List.mem_of_mem_filter hp)) hq src false _

section
variable {d e : Dev} (h : e.besideTx = d.besideTx)
include h

theorem Dev.rd_of_tx {a : Nat} (ha : txReg a = false) : e.rd a = d.rd a := by
  simpa only [Dev.besideTx, ha, Bool.false_eq_true, if_false] using congrFun (congrArg Prod.snd h) a

end

end Sys2Proof.Machine

/-! Heartbeats of the wings, and the takeover (R711, R712, R717, R722; O52). -/

namespace Sys2Proof.Machine

/-! The steps of a takeover, and what each leaves. -/

/-- What a takeover settles first and no later step of it changes. -/
structure Dev.Seat where
  holder : Option Nat
  claim : Nat
  w0 : Wing
  w1 : Wing
  due : Option Due
  epoch : Nat
  keyStage : Nat
  txnSt : TxnSt

/-- The claim, the wings and the takeover that is due, with the states of the keys and of the transaction. -/
def Dev.seat (d : Dev) : Dev.Seat :=
  ⟨d.units.holder, d.units.claim, d.units.w0, d.units.w1, d.units.due, d.nv.claimEpoch, d.key.stage, d.txn.st⟩

section
variable (d : Dev)

variable {d} in
theorem Dev.seat_of_recs {e : Dev} (h : e.besideRecs = d.besideRecs) : e.seat = d.seat := (congrArg Dev.seat h :)

variable {d} in
theorem Dev.seat_of_sch {e : Dev} (h : e.besideSch = d.besideSch) : e.seat = d.seat := (congrArg (fun x => x.1.seat) h :)

variable {d} in
theorem Dev.seat_of_tx {e : Dev} (h : e.besideTx = d.besideTx) : e.seat = d.seat := (congrArg (fun x => x.1.seat) h :)

theorem Dev.dmaWrite_seat (a : Nat) (b : Bytes) : (d.dmaWrite a b).seat = d.seat := by
  obtain ⟨m, h⟩ := d.dmaWrite_eq a b
  rw [h]
  rfl

theorem Dev.counted_seat (a n b k : Nat) : ((d.inc a n).raise b k).seat = d.seat := Dev.seat_of_recs (by simp)

theorem Dev.waveReturn_seat (no : Nat) (out : Option Bytes) : (d.waveReturn no out).seat = d.seat := by
  unfold Dev.waveReturn
  split
  · rfl
  · dsimp only
    split
    · exact (Dev.counted_seat _ _ _ _ _).trans rfl
    · rfl

theorem Dev.cmpReturn_seat (j : CmpJob) (out : Option Bytes) : (d.cmpReturn j out).seat = d.seat := by
  unfold Dev.cmpReturn
  split
  · exact d.waveReturn_seat j.no out
  split <;> rfl

theorem Dev.cmpTakeover_seat (w : Nat) : (d.cmpTakeover w).seat = d.seat := by
  unfold Dev.cmpTakeover
  dsimp only
  refine (foldl_keeps Dev.seat _ (fun (e : Dev) (x : CmpJob × Option Bytes) => e.cmpReturn x.1 x.2) (fun e x => e.cmpReturn_seat x.1 x.2) _).trans ?_
  have hlost (e : Dev) (n : Nat) : (if 0 < n then (e.inc (wingAddr w Reg.CMP_HOST_ABORT_CNT) n).raise (wingAddr w Reg.CMP_INT_STATUS) 4 else e).seat = e.seat := by
    split
    · exact (Dev.counted_seat _ _ _ _ _).trans rfl
    · rfl
  rw [hlost]
  refine (foldUp_keeps Dev.seat _ _ ?_ _).trans ?_
  · exact fun _ _ => rfl
  exact foldl_keeps Dev.seat _ (fun (e : Dev) j => e.dstOpen j) (fun e j => Dev.dmaWrite_seat _ _ _) d

theorem Dev.hostAccept_seat (r : Nat) (x : HostTaken) : (d.hostAccept r x).seat = d.seat := by
  obtain h | ⟨e, h⟩ := d.hostAccept_besideSch r x
  · exact Dev.seat_of_sch h
  · exact (Dev.seat_of_sch h).trans rfl

theorem Dev.modWs_seat (w : Nat) (f : WSched → WSched) : (d.modWs w f).seat = d.seat := Dev.seat_of_sch (d.modWs_besideSch w f)

theorem Dev.hostReplay_seat : d.hostReplay.seat = d.seat := by
  unfold Dev.hostReplay
  dsimp only
  refine (foldUp_keeps Dev.seat 8 _ (fun r e => ?_) _).trans ((Dev.modWs_seat _ _ _).trans (Dev.modWs_seat _ _ _))
  exact foldl_keeps Dev.seat _ (fun (e : Dev) x => e.hostAccept r x) (fun e x => e.hostAccept_seat r x) _

/-- A beacon leaves, or none does. -/
theorem Dev.beaconSend_besideTx : ∃ n, d.beaconSend.besideTx = ({ d with units := { d.units with beaconSeq := n } } : Dev).besideTx := by
  unfold Dev.beaconSend
  split
  · exact ⟨_, Dev.toPorts_besideTx _ _ (by decide) _⟩
  · exact ⟨d.units.beaconSeq, rfl⟩

theorem Dev.beaconSend_seat : d.beaconSend.seat = d.seat := by
  obtain ⟨n, h⟩ := d.beaconSend_besideTx
  exact (Dev.seat_of_tx h).trans rfl

theorem Dev.beaconSend_rd {a : Nat} (ha : txReg a = false) : d.beaconSend.rd a = d.rd a := by
  obtain ⟨n, h⟩ := d.beaconSend_besideTx
  exact (Dev.rd_of_tx h ha).trans rfl

/-! The takeover that is due (R722 to R724). -/

/-- The machine with the takeover taken up: no takeover is due, and a wing claims. -/
def Dev.claimed (w : Nat) : Dev :=
  ({ d with units := { d.units with due := none, switchReq := false, redundant := false, matching := 0 } } : Dev).claimBy w

/-- The other wing, where it was active, goes to RESYNC and stands down, and the recorder continues. -/
def Dev.seized (w : Nat) : Dev :=
  let e := ((d.claimed w).modWing (1 - w) (fun x => if x.role = .active then { x with role := .resync } else x)).recTakeover
  if ((d.claimed w).wing (1 - w)).role == .active then e.wingStandsDown d.units.claim else e

/-- The work of compression and of the host rings, and the keys, go on at the new wing. -/
def Dev.workSeized (w : Nat) : Dev := (d.cmpTakeover w).hostReplay.keyTakeover

/-- The record of a takeover, with its count and its interrupt. -/
def Dev.takeoverNoted (old : Nat) (u : Due) : Dev :=
  ((d.record 0x1201 (be 4 old ++ be 4 d.units.claim ++ be 1 u.cause ++ be 1 (b2n u.twin) ++ zeros 6 ++ be 8 d.wbSeq)).inc Reg.WNG_TAKEOVER_CNT 1).raise
    Reg.WNG_INT_STATUS 0

/-- The outputs that were held, and the work that is ready, at the new wing. -/
def Dev.outputsSeized (w : Nat) : Dev := d.reassert.flushOuts.performReady (d.reassert.flushOuts.ws w).early.length

variable {d}

theorem Dev.takeoverNow_eq {u : Due} (hu : d.units.due = some u) (ht : u.twin = false) :
    d.takeoverNow = ((((d.seized (1 - u.old)).outputsSeized (1 - u.old)).workSeized (1 - u.old)).takeoverNoted d.units.claim u).txnTakeover.beaconSend.reviewRun := by
  have hw : d.takeoverWing u = 1 - u.old := by rw [Dev.takeoverWing, ht]; rfl
  unfold Dev.takeoverNow Dev.takeoverNoted Dev.workSeized Dev.outputsSeized Dev.seized Dev.claimed
  rw [hu]
  dsimp only
  simp only [hw, ht, Bool.not_false, Bool.true_and, Bool.false_eq_true, if_false]

/-- The wings at a takeover, the wing that was active in RESYNC. -/
def Dev.seizedWings (d : Dev) (w : Nat) : Dev := (d.claimed w).modWing (1 - w) (fun x => if x.role = .active then { x with role := .resync } else x)

/-- What a takeover settles first, with the state of its outputs, its work and its keys. -/
def Dev.seatWork (d : Dev) : Dev.Seat × Isl × Sched × List Out × KeySt × Txn := (d.seat, d.isl, d.sch, d.units.outs, d.key, d.txn)

theorem Dev.seatWork_of_recs {e : Dev} (h : e.besideRecs = d.besideRecs) : e.seatWork = d.seatWork := (congrArg Dev.seatWork h :)

theorem Dev.wingStandsDown_seatWork (old : Nat) : (d.wingStandsDown old).seatWork = d.seatWork := by
  have hraise : ((d.record 0x1204 (be 4 old ++ be 4 d.units.claim ++ zeros 8)).raise Reg.WNG_INT_STATUS 3).seatWork = d.seatWork :=
    Dev.seatWork_of_recs (by simp)
  exact hraise

theorem Dev.seized_seatWork (w : Nat) : (d.seized w).seatWork = (d.seizedWings w).seatWork := by
  have hrec : (d.seizedWings w).recTakeover.seatWork = (d.seizedWings w).seatWork := by
    unfold Dev.recTakeover
    split <;> rfl
  unfold Dev.seized
  dsimp only
  split
  · exact (Dev.wingStandsDown_seatWork _).trans hrec
  · exact hrec

theorem Dev.seizedWings_work (w : Nat) : (d.seizedWings w).isl = d.isl ∧ (d.seizedWings w).sch = d.sch ∧ (d.seizedWings w).units.outs = d.units.outs ∧
    (d.seizedWings w).key = d.key ∧ (d.seizedWings w).txn = d.txn := by
  obtain ⟨x, y, h⟩ := (d.claimed w).modWing_eq (1 - w) (fun x => if x.role = .active then { x with role := .resync } else x)
  obtain ⟨x', y', h'⟩ := Dev.modWing_eq { d with
    units := { d.units with due := none, switchReq := false, redundant := false, matching := 0 }
    nv := { d.nv with claimEpoch := (max d.units.highest d.nv.claimEpoch + 1) % 2 ^ 28 } } w (fun x => { x with role := .active })
  rw [Dev.seizedWings, h, Dev.claimed, Dev.claimBy]
  dsimp only
  rw [h']
  exact ⟨rfl, rfl, rfl, rfl, rfl⟩

theorem Dev.outputsSeized_idle {w : Nat} (hc : d.isl.cmds = []) (ho : d.units.outs = []) (h0 : d.sch.w0.early = []) (h1 : d.sch.w1.early = []) :
    d.outputsSeized w = { d with units := { d.units with outs := [] } } := by
  have hre : d.reassert = d := by simp only [Dev.reassert, hc, List.foldl_nil]
  have hflush : d.flushOuts = { d with units := { d.units with outs := [] } } := by
    simp only [Dev.flushOuts, ho, List.foldl_nil]
  have hearly : (d.flushOuts.ws w).early = [] := by
    rw [hflush, Dev.ws]
    split
    · exact h0
    · exact h1
  rw [Dev.outputsSeized, hre, hearly, hflush, List.length_nil, Dev.performReady]

theorem Dev.workSeized_seat {w : Nat} (h : d.key.stage = 0) : (d.workSeized w).seat = d.seat := by
  have hseat : (d.cmpTakeover w).hostReplay.seat = d.seat := (Dev.hostReplay_seat _).trans (d.cmpTakeover_seat w)
  unfold Dev.workSeized
  generalize (d.cmpTakeover w).hostReplay = e at *
  have hstage : e.key.stage = 0 := (congrArg Dev.Seat.keyStage hseat).trans h
  have hkeys : e.keyTakeover = e := by simp [Dev.keyTakeover, hstage]
  rw [hkeys, hseat]

theorem Dev.takeoverNoted_besideRecs (old : Nat) (u : Due) : (d.takeoverNoted old u).besideRecs = d.besideRecs := by simp [Dev.takeoverNoted]

/-- A takeover of this module's other wing with no output held, no command, no ready work and no change of keys or configuration in progress (R712, R722). -/
theorem Dev.takeoverNow_shows {u : Due} (hu : d.units.due = some u) (ht : u.twin = false) (hc : d.isl.cmds = []) (ho : d.units.outs = [])
    (h0 : d.sch.w0.early = []) (h1 : d.sch.w1.early = []) (hk : d.key.stage = 0) (hx : d.txn.st = .idle) :
    d.takeoverNow.seat = (d.seizedWings (1 - u.old)).seat ∧ d.takeoverNow.flag Reg.WNG_INT_STATUS 0 = true := by
  obtain ⟨hisl, hsch, houts, hkey, htxn⟩ := d.seizedWings_work (1 - u.old)
  have hwork := d.seized_seatWork (1 - u.old)
  rw [Dev.takeoverNow_eq hu ht]
  generalize d.seized (1 - u.old) = e at *
  simp only [Dev.seatWork, Prod.mk.injEq] at hwork
  obtain ⟨hseat, hisl', hsch', houts', hkey', htxn'⟩ := hwork
  have hout : e.outputsSeized (1 - u.old) = { e with units := { e.units with outs := [] } } :=
    Dev.outputsSeized_idle (by rw [hisl', hisl, hc]) (by rw [houts', houts, ho]) (by rw [hsch', hsch, h0]) (by rw [hsch', hsch, h1])
  have hw : ((e.outputsSeized (1 - u.old)).workSeized (1 - u.old)).seat = e.seat := by
    rw [hout]
    exact Dev.workSeized_seat (by rw [hkey', hkey, hk])
  generalize (e.outputsSeized (1 - u.old)).workSeized (1 - u.old) = f at *
  have hnoted := Dev.seat_of_recs (f.takeoverNoted_besideRecs d.units.claim u)
  have hflag : (f.takeoverNoted d.units.claim u).flag Reg.WNG_INT_STATUS 0 = true := Dev.flag_raise _ _ _ (by decide)
  generalize f.takeoverNoted d.units.claim u = g at *
  have hall : g.seat = (d.seizedWings (1 - u.old)).seat := hnoted.trans (hw.trans hseat)
  have hst : g.txn.st = .idle := by
    have h : g.txn.st = (d.seizedWings (1 - u.old)).txn.st := congrArg Dev.Seat.txnSt hall
    rw [h, htxn, hx]
  have hquiet : g.txnTakeover = g := by simp [Dev.txnTakeover, hst]
  rw [hquiet]
  refine ⟨((Dev.seat_of_recs (Dev.reviewRun_besideRecs _)).trans g.beaconSend_seat).trans hall, ?_⟩
  rw [Dev.flag, Dev.reviewRun_rd _ (by decide), g.beaconSend_rd (by decide)]
  exact hflag

/-- The epoch of the next claim (R711). -/
def Dev.nextEpoch (d : Dev) : Nat := (max d.units.highest d.nv.claimEpoch + 1) % 2 ^ 28

/-- The machine whose takeover is taken up, its epoch stored. -/
def Dev.epochStored (d : Dev) : Dev :=
  { d with units := { d.units with due := none, switchReq := false, redundant := false, matching := 0 }, nv := { d.nv with claimEpoch := d.nextEpoch } }

theorem Dev.claimed_eq (w : Nat) : ∃ x y, d.claimed w = { d.epochStored with
      units := { d.epochStored.units with
        w0 := x, w1 := y, holder := some w, claim := d.nextEpoch * 16 + d.twinId * 2 + w, highest := d.nextEpoch, twinRole := .active } } ∧
    (if w = 0 then x else y).role = .active := by
  obtain ⟨x, y, h⟩ := d.epochStored.modWing_eq w (fun x => { x with role := .active })
  have hwing := d.epochStored.wing_modWing_same w (fun x => { x with role := .active })
  rw [h] at hwing
  have hclaim : d.claimed w = { d.epochStored.modWing w (fun x => { x with role := .active }) with
      units := { (d.epochStored.modWing w (fun x => { x with role := .active })).units with
        holder := some w, claim := d.nextEpoch * 16 + (d.epochStored.modWing w (fun x => { x with role := .active })).twinId * 2 + w
        highest := d.nextEpoch, twinRole := .active } } := rfl
  refine ⟨x, y, by rw [hclaim, h]; rfl, ?_⟩
  exact congrArg Wing.role hwing

theorem Dev.seizedWings_shows {w : Nat} (hw : w < 2) : (d.seizedWings w).units.holder = some w ∧
    (d.seizedWings w).units.claim = d.nextEpoch * 16 + d.twinId * 2 + w ∧ (d.seizedWings w).nv.claimEpoch = d.nextEpoch ∧
    (d.seizedWings w).units.due = none ∧ ((d.seizedWings w).wing w).role = .active ∧ ((d.seizedWings w).wing (1 - w)).role ≠ .active := by
  obtain ⟨x, y, h, hrole⟩ := d.claimed_eq w
  have hown := (d.claimed w).wing_modWing_ne (w := 1 - w) (v := w) (fun x => if x.role = .active then { x with role := .resync } else x) (by omega) hw (by omega)
  have hother := (d.claimed w).wing_modWing_same (1 - w) (fun x => if x.role = .active then { x with role := .resync } else x)
  obtain ⟨x', y', h'⟩ := (d.claimed w).modWing_eq (1 - w) (fun x => if x.role = .active then { x with role := .resync } else x)
  have hactive : ((d.claimed w).wing w).role = .active := by
    rw [h]
    exact hrole
  refine ⟨?_, ?_, ?_, ?_, ?_, ?_⟩
  · rw [Dev.seizedWings, h', h]
  · rw [Dev.seizedWings, h', h]
  · rw [Dev.seizedWings, h', h]
    rfl
  · rw [Dev.seizedWings, h', h]
    rfl
  · exact (congrArg Wing.role hown).trans hactive
  · rw [Dev.seizedWings, hother]
    split
    · exact fun hr => by cases hr
    · assumption

end

end Sys2Proof.Machine

/-! Heartbeats, clocks and digests of the wings (R716 to R722, R758; O52). -/

namespace Sys2Proof.Machine

section
variable (d : Dev)

theorem Dev.incF_rd_ne {a b : Nat} (h : b ≠ a) (hi lo : Nat) : (d.incF a hi lo).rd b = d.rd b := Dev.rd_putF_ne d h _ _ _

theorem Dev.modWing_holder (w : Nat) (f : Wing → Wing) : (d.modWing w f).units.holder = d.units.holder := by
  obtain ⟨x, y, h⟩ := d.modWing_eq w f
  rw [h]

theorem Dev.modWing_due (w : Nat) (f : Wing → Wing) : (d.modWing w f).units.due = d.units.due := by
  obtain ⟨x, y, h⟩ := d.modWing_eq w f
  rw [h]

/-- The active wing stays where no role changes. -/
theorem Dev.modWing_active (w : Nat) {f : Wing → Wing} (hf : ∀ x, (f x).role = x.role) : (d.modWing w f).active = d.active := by
  unfold Dev.modWing
  split
  · simp only [Dev.active, hf]
  · rfl

/-! A heartbeat that is missed (R717). -/

/-- A wing with a heartbeat missed on its paths. -/
def Wing.miss (x : Wing) (link arb : Bool) : Wing :=
  { x with missLink := if link then x.missLink + 1 else x.missLink, missArb := if arb then x.missArb + 1 else x.missArb }

/-- The machine with a missed heartbeat counted. -/
def Dev.missed (w : Nat) (link arb : Bool) : Dev := (d.incF Reg.WNG_HB_MISS_CNT 15 0).modWing w (·.miss link arb)

variable {d} {w : Nat} {link arb : Bool}

theorem Dev.heartbeatMiss_off (h : (d.wing w).role = .faulted ∨ (link = false ∧ arb = false)) : d.heartbeatMiss w link arb = d := by
  refine if_pos ?_
  rcases h with h | ⟨rfl, rfl⟩
  · simp [h]
  · simp

theorem Dev.missed_wing : (d.missed w link arb).wing w = (d.wing w).miss link arb := (Dev.wing_modWing_same _ w _).trans rfl

theorem Dev.missed_other (hw : w < 2) : (d.missed w link arb).wing (1 - w) = d.wing (1 - w) :=
  (Dev.wing_modWing_ne _ _ hw (by omega) (by omega)).trans rfl

theorem Dev.missed_holder : (d.missed w link arb).units.holder = d.units.holder := (Dev.modWing_holder _ w _).trans rfl

theorem Dev.missed_active : (d.missed w link arb).active = d.active := (Dev.modWing_active _ w (f := (·.miss link arb)) (fun _ => rfl)).trans rfl

/-- What a missed heartbeat brings about: the third to the arbiter, the third over the link alone, or nothing more. -/
theorem Dev.heartbeatMiss_eq (hw : w < 2) (h : (d.wing w).role ≠ .faulted) (hp : (link || arb) = true) : d.heartbeatMiss w link arb =
    if 3 ≤ ((d.wing w).miss link arb).missArb then (d.missed w link arb).pathLost w
    else if 3 ≤ ((d.wing w).miss link arb).missLink && ((d.wing w).miss link arb).missArb = 0 && (d.wing (1 - w)).missArb = 0 && (d.wing (1 - w)).arbPath &&
        (d.wing (1 - w)).role != .faulted then (d.missed w link arb).wingFault (1 - d.active) 1
    else d.missed w link arb := by
  have hoff : ¬ ((d.wing w).role = .faulted || !(link || arb)) = true := by simp [h, hp]
  rw [← Dev.missed_wing, ← Dev.missed_other (link := link) (arb := arb) hw, ← Dev.missed_active (w := w) (link := link) (arb := arb)]
  exact if_neg hoff

/-- The last path of a wing to the arbiter is lost, the other wing still there (R717). -/
theorem Dev.pathLost_fault (hw : w < 2) (h : (d.wing w).role ≠ .faulted) (ho : (d.wing (1 - w)).arbPath = true) :
    ((d.pathLost w).wing w).role = .faulted ∧ ((d.pathLost w).wing w).cause = 1 ∧ ((d.pathLost w).wing w).arbPath = false ∧
    (d.pathLost w).units.holder = d.units.holder := by
  have hwing := d.wing_modWing_same w (fun x => { x with arbPath := false })
  have hother := d.wing_modWing_ne (v := 1 - w) (fun x => { x with arbPath := false }) hw (by omega) (by omega)
  have hholder := d.modWing_holder w (fun x => { x with arbPath := false })
  unfold Dev.pathLost
  dsimp only
  generalize d.modWing w (fun x => { x with arbPath := false }) = e at *
  rw [if_pos (by rw [hother, ho])]
  have hf := Dev.wingFaultAt_faulted (d := e) 1 false hw (by rw [hwing]; exact h)
  rw [Dev.wingFault]
  refine ⟨congrArg Wing.role hf.wing, congrArg Wing.cause hf.wing, (congrArg Wing.arbPath hf.wing).trans ?_, hf.holder.trans hholder⟩
  rw [hwing]

/-- The last path to the arbiter of both wings is lost: the entry to SAFE (R717, R758). -/
theorem Dev.pathLost_safe (hw : w < 2) (ho : (d.wing (1 - w)).arbPath = false) :
    ((d.pathLost w).wing w).role = .faulted ∧ ((d.pathLost w).wing w).cause = 1 ∧ (d.pathLost w).boot = 7 ∧ (d.pathLost w).units.holder = d.units.holder := by
  have hother := d.wing_modWing_ne (v := 1 - w) (fun x => { x with arbPath := false }) hw (by omega) (by omega)
  have hholder := d.modWing_holder w (fun x => { x with arbPath := false })
  unfold Dev.pathLost
  dsimp only
  generalize d.modWing w (fun x => { x with arbPath := false }) = e at *
  rw [if_neg (by rw [hother, ho]; decide)]
  have hwing := e.wing_modWing_same w (fun x => { x with role := .faulted, cause := 1 })
  have hholder' := (e.modWing_holder w (fun x => { x with role := .faulted, cause := 1 })).trans hholder
  generalize e.modWing w (fun x => { x with role := .faulted, cause := 1 }) = f at *
  have hboot := (f.faultRecord w 1).enterSafe_boot 4
  have hunits : (f.faultRecord w 1).units = f.units := Dev.units_of_recs (by simp [Dev.faultRecord])
  have hsafe := (f.faultRecord w 1).enterSafe_units 4
  rw [hunits] at hsafe
  rw [Dev.reviewRun_safe _ hboot]
  generalize (f.faultRecord w 1).enterSafe 4 = g at *
  have hg : g.wing w = f.wing w ∧ g.units.holder = f.units.holder := by
    by_cases hb : (f.faultRecord w 1).boot = 7
    · rw [if_pos hb] at hsafe
      exact ⟨Dev.wing_congr hsafe w, congrArg Units.holder hsafe⟩
    · rw [if_neg hb] at hsafe
      refine ⟨?_, (congrArg Units.holder hsafe :)⟩
      rw [Dev.wing, hsafe]
      rfl
  rw [hg.1, hwing]
  exact ⟨rfl, rfl, hboot, hg.2.trans hholder'⟩

theorem Dev.recordAt_besideRecs (d : Dev) (typ time tq : Nat) (b : Bytes) : (d.recordAt typ time tq b).besideRecs = d.besideRecs := by
  obtain ⟨_, _, _, h⟩ := d.recordAt_eq typ time tq b
  rw [h]
  rfl

/-! Clocks (R758). -/

theorem Dev.clockLoss_one (hw : w < 2) : ∃ n c, d.clockLoss (w == 0) (w == 1) = ({ d with freeCtr := n } : Dev).wingFault w c := by
  obtain rfl | rfl : w = 0 ∨ w = 1 := by omega
  · exact ⟨_, _, rfl⟩
  · exact ⟨_, _, rfl⟩

theorem Dev.clockLoss_both : d.clockLoss true true = (d.enterSafe 3).reviewRun := rfl

/-! The attribution of a mismatch (R721). -/

/-- The machine with the oldest mismatch attributed, ahead of the faults. -/
def Dev.attribNoted (d : Dev) (a : Attrib) (r : List Attrib) (w keep : Nat) : Dev :=
  let e := ({ d with units := { d.units with attrib := r } } : Dev).attribRecord a w
  a.differ.foldl (fun (e' : Dev) x =>
    let flag := if keep = 0 then x.2 else !x.2
    if !flag && e.safetyObjects.contains x.1 then e'.causePresent x.1 (if a.flutter then 2 else 1) true else e') e

theorem Dev.attribNoted_units (a : Attrib) (r : List Attrib) (w keep : Nat) : (d.attribNoted a r w keep).units = { d.units with attrib := r } := by
  unfold Dev.attribNoted
  dsimp only
  refine (foldl_keeps Dev.units _ _ (fun e x => ?_) _).trans ?_
  · rw [apply_ite Dev.units]
    exact ite_self e.units
  · unfold Dev.attribRecord
    split
    · exact Dev.units_of_recs (d := { d with units := { d.units with attrib := r } }) (Dev.recordAt_besideRecs _ _ _ _ _)
    · exact Dev.units_of_recs (d := { d with units := { d.units with attrib := r } }) (Dev.recordAt_besideRecs _ _ _ _ _)

/-- The oldest mismatch attributed, with the faults that it tells (R721). -/
def Dev.attribFaults (d : Dev) (f0 f1 : Bool) : Dev :=
  match d.units.attrib with
  | [] => d
  | a :: r =>
    let act := d.active
    let failAct := if act = 0 then f0 else f1
    let failSby := if act = 0 then f1 else f0
    let e := d.attribNoted a r (if failAct then act else 1 - act) (if failAct then 1 - act else act)
    let e := if failSby || !failAct then e.wingFault (1 - act) 4 else e
    if failAct then e.wingFault act 4 else e

theorem digestAttribution_row (s : State) (n : Nat) (f0 f1 : Bool) : exec (.digestAttribution n f0 f1) s = devRow s n true (·.attribFaults f0 f1) := rfl

theorem Dev.attribFaults_none {f0 f1 : Bool} (h : d.units.attrib = []) : d.attribFaults f0 f1 = d := by simp only [Dev.attribFaults, h]

/-- The faults that an attribution tells, wing 0 the active one. -/
theorem Dev.attribFaults_eq {a : Attrib} {r : List Attrib} {f0 f1 : Bool} (h : d.units.attrib = a :: r) (hh : d.units.holder = some 0) : ∃ w keep,
    d.attribFaults f0 f1 = (let e := if f1 || !f0 then (d.attribNoted a r w keep).wingFault 1 4 else d.attribNoted a r w keep
      if f0 then e.wingFault 0 4 else e) := by
  have hact : d.active = 0 := Dev.active_holder hh
  refine ⟨if f0 then 0 else 1, if f0 then 1 else 0, ?_⟩
  unfold Dev.attribFaults
  rw [h]
  dsimp only
  rw [hact]
  rfl

end

section
variable {s : State} {n w : Nat} {link arb : Bool}

theorem Dev.WingFaulted.attrib {d e : Dev} {c : Nat} (h : d.WingFaulted e w c) : e.units.attrib = d.units.attrib := congrArg (·.units.attrib) h.rest

theorem Dev.takeoverDue_early {d : Dev} {u : Due} {c : Nat} (h : d.units.due = some u) (hc : u.at' = some c) (hlt : d.tim.clk < c) : d.takeoverDue = d := by
  simp only [Dev.takeoverDue, h, hc, if_neg (Nat.not_le.mpr hlt)]

theorem Dev.takeoverDue_now {d : Dev} {u : Due} {c : Nat} (h : d.units.due = some u) (hc : u.at' = some c) (hle : c ≤ d.tim.clk) :
    d.takeoverDue = d.takeoverNow := by
  simp only [Dev.takeoverDue, h, hc, if_pos hle]

theorem heartbeatMiss_ends (hw : w < 2) : Ends (exec (.heartbeatMiss n w link arb) s) { s with dev := (s.dev.tick n).heartbeatMiss w link arb } := by
  rw [exec_heartbeatMiss, decide_eq_true hw]
  exact devRow_ends s n (·.heartbeatMiss w link arb)

/-- The faults of an attribution: wing 0 where its test fails, wing 1 where its own does or neither does (R721). -/
theorem Dev.attribFaults_shows {d : Dev} {a : Attrib} {r : List Attrib} {f0 f1 : Bool} (h : d.units.attrib = a :: r) (h0 : d.units.w0.role = .active)
    (h1 : d.units.w1.role = .standby) (hh : d.units.holder = some 0) :
    (d.attribFaults f0 f1).units.attrib = r ∧ ((d.attribFaults f0 f1).units.w0.role = .faulted ↔ f0 = true) ∧
    ((d.attribFaults f0 f1).units.w1.role = .faulted ↔ (f1 = true ∨ f0 = false)) ∧ (f0 = true → (d.attribFaults f0 f1).units.w0.cause = 4) ∧
    (f1 = true ∨ f0 = false → (d.attribFaults f0 f1).units.w1.cause = 4) := by
  obtain ⟨w, keep, heq⟩ := Dev.attribFaults_eq (f0 := f0) (f1 := f1) h hh
  have hunits := d.attribNoted_units a r w keep
  rw [heq]
  generalize d.attribNoted a r w keep = e at *
  have e0 : (e.wing 0).role = .active := by rw [Dev.wing, hunits]; exact h0
  have e1 : (e.wing 1).role = .standby := by rw [Dev.wing, hunits]; exact h1
  have eh : e.units.holder.isSome = true := by rw [hunits, hh]; rfl
  have ea : e.units.attrib = r := by rw [hunits]
  cases f0
  · have hf := Dev.wingFaultAt_faulted (d := e) (w := 1) 4 false (by decide) (by rw [e1]; decide)
    have hw0 : (e.wingFault 1 4).units.w0.role = .active := (congrArg Wing.role (hf.other eh)).trans e0
    have hw1 : (e.wingFault 1 4).units.w1.role = .faulted := congrArg Wing.role hf.wing
    simp only [Bool.not_false, Bool.or_true, if_true, Bool.false_eq_true, if_false, hw0, hw1, or_true, iff_false, IsEmpty.forall_iff, true_and]
    exact ⟨hf.attrib.trans ea, by decide, fun _ => congrArg Wing.cause hf.wing⟩
  cases f1
  · have hf := Dev.wingFaultAt_faulted (d := e) (w := 0) 4 false (by decide) (by rw [e0]; decide)
    have hw0 : (e.wingFault 0 4).units.w0.role = .faulted := congrArg Wing.role hf.wing
    have hw1 : (e.wingFault 0 4).units.w1.role = .standby := (congrArg Wing.role (hf.other eh)).trans e1
    simp only [Bool.not_true, Bool.or_false, if_true, Bool.false_eq_true, if_false, hw0, hw1, true_and]
    exact ⟨hf.attrib.trans ea, by decide, fun _ => congrArg Wing.cause hf.wing, by simp⟩
  · have hf := Dev.wingFaultAt_faulted (d := e) (w := 1) 4 false (by decide) (by rw [e1]; decide)
    have g0 : ((e.wingFault 1 4).wing 0).role = .active := (congrArg Wing.role (hf.other eh)).trans e0
    have gh : (e.wingFault 1 4).units.holder.isSome = true := (congrArg Option.isSome hf.holder).trans eh
    have hg := Dev.wingFaultAt_faulted (d := e.wingFault 1 4) (w := 0) 4 false (by decide) (by rw [g0]; decide)
    have hw0 : ((e.wingFault 1 4).wingFault 0 4).units.w0.role = .faulted := congrArg Wing.role hg.wing
    have hw1 : ((e.wingFault 1 4).wingFault 0 4).wing 1 = { e.wing 1 with role := .faulted, cause := 4 } := (hg.other gh).trans hf.wing
    have hr1 : ((e.wingFault 1 4).wingFault 0 4).units.w1.role = .faulted := congrArg Wing.role hw1
    simp only [Bool.not_true, Bool.or_false, if_true, hw0, hr1, true_or, true_and]
    exact ⟨(hg.attrib.trans hf.attrib).trans ea, fun _ => congrArg Wing.cause hg.wing, fun _ => congrArg Wing.cause hw1⟩

end

/-- Settles O52: heartbeats missed (`Dev.heartbeatMiss_eq`), the takeover that is due (`Dev.takeoverNow_shows`), clocks lost and mismatches attributed
(`Dev.attribFaults_shows`). -/
theorem heartbeatsAndTakeover : Obligations.HeartbeatsAndTakeover := by
  refine ⟨fun s n w link arb hw => ?heart, fun s n => ?takeover, fun s n w hw => ?clock, fun s n f0 f1 => ?attrib⟩
  case heart =>
    intro e x
    have hmiss := heartbeatMiss_ends (s := s) (n := n) (link := link) (arb := arb) hw
    refine ⟨?_, fun h => ?_, fun hr ha hm => ?_, fun hr ha hm ho => ?_, fun hr ha hm ho => ?_, fun hr hr' hl ha hm hn hn' ho => ?_⟩
    · rw [exec_wingHeartbeat, decide_eq_true hw]
      exact devRow_ends s n (·.wingHeartbeat w link arb)
    · rwa [Dev.heartbeatMiss_off (d := s.dev.tick n) h] at hmiss
    · subst ha
      have heq := Dev.heartbeatMiss_eq (d := s.dev.tick n) (link := link) hw hr (Bool.or_true link)
      have hcount : ((s.dev.wing w).miss link true).missArb = (s.dev.wing w).missArb + 1 := rfl
      have hfew : (s.dev.wing w).missArb < 2 := hm
      have hboot : ((s.dev.tick n).missed w link true).boot = s.dev.boot :=
        congrArg (bits · 2 0) ((Dev.modWing_rd _ _ _ _).trans ((s.dev.tick n).incF_rd_ne (by decide) _ _))
      have hdue : ((s.dev.tick n).missed w link true).units.due = s.dev.units.due := (Dev.modWing_due _ _ _).trans rfl
      have hwing : ((s.dev.tick n).missed w link true).wing w = (s.dev.wing w).miss link true := Dev.missed_wing
      have hother : ((s.dev.tick n).missed w link true).wing (1 - w) = s.dev.wing (1 - w) := Dev.missed_other hw
      have hholder : ((s.dev.tick n).missed w link true).units.holder = s.dev.units.holder := Dev.missed_holder
      rw [if_neg (by rw [show (s.dev.tick n).wing w = s.dev.wing w from rfl, hcount]; omega),
        if_neg (by rw [show (s.dev.tick n).wing w = s.dev.wing w from rfl, hcount]; simp)] at heq
      rw [heq] at hmiss
      generalize (s.dev.tick n).missed w link true = f at *
      exact hmiss.with fun _ _ _ _ _ => ⟨hwing, hother, hdue, hholder, hboot, rfl⟩
    · subst ha
      have heq := Dev.heartbeatMiss_eq (d := s.dev.tick n) (link := link) hw hr (Bool.or_true link)
      have hwing : ((s.dev.tick n).missed w link true).wing w = (s.dev.wing w).miss link true := Dev.missed_wing
      have hother : ((s.dev.tick n).missed w link true).wing (1 - w) = s.dev.wing (1 - w) := Dev.missed_other hw
      have hholder : ((s.dev.tick n).missed w link true).units.holder = s.dev.units.holder := Dev.missed_holder
      rw [if_pos (show 3 ≤ (((s.dev.tick n).wing w).miss link true).missArb from Nat.succ_le_succ hm)] at heq
      rw [heq] at hmiss
      obtain ⟨hrole, hcause, hpath, hh⟩ := Dev.pathLost_fault (d := (s.dev.tick n).missed w link true) hw (by rw [hwing]; exact hr) (by rw [hother]; exact ho)
      generalize ((s.dev.tick n).missed w link true).pathLost w = f at *
      replace hh := hh.trans hholder
      exact hmiss.with fun _ _ _ _ _ => ⟨hrole, hcause, hpath, hh, rfl⟩
    · subst ha
      have heq := Dev.heartbeatMiss_eq (d := s.dev.tick n) (link := link) hw hr (Bool.or_true link)
      have hother : ((s.dev.tick n).missed w link true).wing (1 - w) = s.dev.wing (1 - w) := Dev.missed_other hw
      have hholder : ((s.dev.tick n).missed w link true).units.holder = s.dev.units.holder := Dev.missed_holder
      rw [if_pos (show 3 ≤ (((s.dev.tick n).wing w).miss link true).missArb from Nat.succ_le_succ hm)] at heq
      rw [heq] at hmiss
      obtain ⟨hrole, hcause, hboot, hh⟩ := Dev.pathLost_safe (d := (s.dev.tick n).missed w link true) hw (by rw [hother]; exact ho)
      generalize ((s.dev.tick n).missed w link true).pathLost w = f at *
      replace hh := hh.trans hholder
      exact hmiss.with fun _ _ _ _ _ => ⟨hrole, hcause, hboot, hh, rfl⟩
    · subst hl ha
      have heq := Dev.heartbeatMiss_eq (d := s.dev.tick n) (link := true) (arb := false) hw hr rfl
      have hcount : ((s.dev.wing w).miss true false).missArb = 0 := hn
      have hlink : 3 ≤ ((s.dev.wing w).miss true false).missLink := Nat.succ_le_succ hm
      have hwing : ((s.dev.tick n).missed w true false).wing w = (s.dev.wing w).miss true false := Dev.missed_wing
      have hother : ((s.dev.tick n).missed w true false).wing (1 - w) = s.dev.wing (1 - w) := Dev.missed_other hw
      have hholder : ((s.dev.tick n).missed w true false).units.holder = s.dev.units.holder := Dev.missed_holder
      rw [show (s.dev.tick n).wing w = s.dev.wing w from rfl, show (s.dev.tick n).wing (1 - w) = s.dev.wing (1 - w) from rfl, hcount, if_neg (by decide),
        if_pos (by simp [hlink, hn', ho, hr'])] at heq
      rw [heq] at hmiss
      have hup : (((s.dev.tick n).missed w true false).wing (1 - s.dev.active)).role ≠ .faulted := by
        obtain hsame | hsame : 1 - s.dev.active = w ∨ 1 - s.dev.active = 1 - w := by omega
        · rw [hsame, hwing]
          exact hr
        · rw [hsame, hother]
          exact hr'
      have hf := Dev.wingFaultAt_faulted (d := (s.dev.tick n).missed w true false) (w := 1 - s.dev.active) 1 false (by omega) hup
      change Ends _ { s with dev := ((s.dev.tick n).missed w true false).wingFaultAt (1 - s.dev.active) 1 false } at hmiss
      generalize ((s.dev.tick n).missed w true false).wingFaultAt (1 - s.dev.active) 1 false = f at *
      have hh := hf.holder.trans hholder
      exact hmiss.with fun _ _ _ _ _ => ⟨congrArg Wing.role hf.wing, congrArg Wing.cause hf.wing, hh, rfl⟩
  case takeover =>
    intro e
    have hends := devRow_ends s n (·.takeoverDue)
    rw [exec_takeover]
    refine ⟨fun hd => ?_, fun u c hd hc hlt => ?_, fun u c hd hc hle ht hold houts hcmds h0 h1 hx hk => ?_⟩
    · rwa [show (s.dev.tick n).takeoverDue = s.dev.tick n by simp only [Dev.takeoverDue, show (s.dev.tick n).units.due = none from hd]] at hends
    · rwa [Dev.takeoverDue_early (d := s.dev.tick n) hd hc hlt] at hends
    · obtain ⟨hseat, hflag⟩ := Dev.takeoverNow_shows (d := s.dev.tick n) hd ht hcmds houts h0 h1 hk hx
      obtain ⟨hholder, hclaim, hepoch, hdue, hnew, hother⟩ := (s.dev.tick n).seizedWings_shows (show 1 - u.old < 2 by omega)
      rw [Dev.takeoverDue_now (d := s.dev.tick n) hd hc hle] at hends
      generalize (s.dev.tick n).takeoverNow = f at *
      generalize (s.dev.tick n).seizedWings (1 - u.old) = g at *
      have hwing (v : Nat) : f.wing v = g.wing v := congrArg (fun z : Dev.Seat => if v = 0 then z.w0 else z.w1) hseat
      rw [← hwing] at hnew hother
      rw [show 1 - (1 - u.old) = u.old by omega] at hother
      exact hends.with fun _ _ _ _ _ => ⟨(congrArg Dev.Seat.holder hseat).trans hholder, (congrArg Dev.Seat.claim hseat).trans hclaim,
        (congrArg Dev.Seat.epoch hseat).trans hepoch, hnew, hother, (congrArg Dev.Seat.due hseat).trans hdue, hflag, rfl⟩
  case clock =>
    have hends (a b : Bool) : Ends (exec (.clockLoss n a b) s) { s with dev := (s.dev.tick n).clockLoss a b } := devRow_ends s n (·.clockLoss a b)
    refine ⟨hends false false, fun hr => ?_, fun hb => ?_⟩
    · obtain ⟨k, c, heq⟩ := Dev.clockLoss_one (d := s.dev.tick n) hw
      have hone := hends (w == 0) (w == 1)
      have hf := Dev.wingFaultAt_faulted (d := { s.dev.tick n with freeCtr := k }) c false hw hr
      rw [heq, Dev.wingFault] at hone
      generalize ({ s.dev.tick n with freeCtr := k } : Dev).wingFaultAt w c false = f at *
      exact hone.with fun _ _ _ _ _ => ⟨congrArg Wing.role hf.wing, rfl⟩
    · have hboth := hends true true
      have hboot := (s.dev.tick n).enterSafe_boot 3
      obtain ⟨hcause, hflag⟩ := (s.dev.tick n).enterSafe_cause (c := 3) (by decide) hb
      rw [Dev.clockLoss_both, Dev.reviewRun_safe _ hboot] at hboth
      generalize (s.dev.tick n).enterSafe 3 = f at *
      exact hboth.with fun _ _ _ _ _ => ⟨hboot, hcause, hflag, rfl⟩
  case attrib =>
    have hends := devRow_ends s n (·.attribFaults f0 f1)
    rw [digestAttribution_row]
    refine ⟨fun h => (Dev.attribFaults_none (d := s.dev.tick n) h) ▸ hends, fun a r ha h0 h1 hh => ?_⟩
    obtain ⟨hrest, hw0, hw1, hc0, hc1⟩ := Dev.attribFaults_shows (d := s.dev.tick n) (f0 := f0) (f1 := f1) ha h0 h1 hh
    generalize (s.dev.tick n).attribFaults f0 f1 = e at *
    exact hends.with fun _ _ _ _ _ => ⟨hrest, hw0, hw1, hc0, hc1, rfl⟩

end Sys2Proof.Machine

/-! SWITCH and REPAIR, and the way back to standby (R738 to R741, R751; O53). -/

namespace Sys2Proof.Machine

/-! What a change of a link leaves (R288, R873). -/

/-- The machine but for what a change of a link and the end of a loop-back of a port change, with the registers of the wings and of safety. -/
def Dev.besideLink (d : Dev) : Dev × (Nat → Word) :=
  ({ d.besideTx.1 with tst := State.reset.dev.tst }, fun a => if 0x400000 ≤ a ∧ a < 0x480000 then d.rd a else 0)

section
variable {d e : Dev}

theorem Dev.besideLink_of (h : e.besideTx.1 = d.besideTx.1) (hrd : ∀ a, 0x400000 ≤ a → a < 0x480000 → e.rd a = d.rd a) : e.besideLink = d.besideLink := by
  refine Prod.ext (congrArg (fun f : Dev => { f with tst := State.reset.dev.tst }) h) (funext fun a => ?_)
  by_cases ha : 0x400000 ≤ a ∧ a < 0x480000
  · simp only [Dev.besideLink, ha, and_self, if_true, hrd a ha.1 ha.2]
  · simp only [Dev.besideLink, ha, if_false]

theorem Dev.besideLink_of_tx (h : e.besideTx = d.besideTx) : e.besideLink = d.besideLink :=
  Dev.besideLink_of (congrArg Prod.fst h) fun a h0 h1 => Dev.rd_of_tx h (by
    rw [← Bool.not_eq_true, txReg_iff]
    omega)

variable (d)

theorem Dev.wrN_besideLink {a : Nat} (ha : a < 0x400000) (v : Nat) : (d.wrN a v).besideLink = d.besideLink :=
  Dev.besideLink_of rfl fun _ h0 _ => Dev.rd_wrN_ne d (by omega) v

@[simp] theorem Dev.modPort_besideLink (p : Nat) (f : Port → Port) : (d.modPort p f).besideLink = d.besideLink := rfl
@[simp] theorem Dev.emit_besideLink (x : Sent) : (d.emit x).besideLink = d.besideLink := rfl
@[simp] theorem Dev.record_besideLink (typ : Nat) (b : Bytes) : (d.record typ b).besideLink = d.besideLink := Dev.besideLink_of_tx (d.record_besideTx typ b)

theorem Dev.inc_besideLink {a : Nat} (ha : txReg a = true) (n : Nat) : (d.inc a n).besideLink = d.besideLink := Dev.besideLink_of_tx (Dev.inc_besideTx ha n)
theorem Dev.incW_besideLink {a : Nat} (ha : txReg a = true) (n : Nat) : (d.incW a n).besideLink = d.besideLink := Dev.besideLink_of_tx (Dev.incW_besideTx ha n)
theorem Dev.raise_besideLink {a : Nat} (ha : txReg a = true) (k : Nat) : (d.raise a k).besideLink = d.besideLink := Dev.besideLink_of_tx (Dev.raise_besideTx ha k)

variable {p : Nat} (hp : p < 8)
include hp

theorem txReg_netInt : txReg (Reg.NET_PORT_INT_STATUS p) = true := txReg_iff.mpr (by unfold Reg.NET_PORT_INT_STATUS; omega)
theorem txReg_linkDown : txReg (Reg.NET_PORT_LINK_DOWN_CNT p) = true := txReg_iff.mpr (by unfold Reg.NET_PORT_LINK_DOWN_CNT; omega)

theorem Dev.dupCheck_besideLink : (d.dupCheck p).besideLink = d.besideLink := by
  unfold Dev.dupCheck
  dsimp only
  split
  · rfl
  · exact (Dev.inc_besideLink _ (txReg_linkDown hp) _).trans (d.modPort_besideLink p _)

theorem Dev.plcaReview_besideLink : (d.plcaReview p).besideLink = d.besideLink := by
  unfold Dev.plcaReview
  dsimp only
  split
  · rw [Dev.plcaDown, Dev.raise_besideLink _ (txReg_netInt hp), Dev.record_besideLink, Dev.modPort_besideLink]
  split
  · unfold Dev.plcaRise
    dsimp only
    split
    · rfl
    · rfl
  · rfl

theorem Dev.latLoad_besideLink : (d.latLoad p).besideLink = d.besideLink := by
  unfold Dev.latLoad
  split
  · rfl
  · rw [Dev.latShow, Dev.wrN_besideLink _ (by unfold Reg.TIM_PORT_TX_LAT; omega), Dev.wrN_besideLink _ (by unfold Reg.TIM_PORT_RX_LAT; omega),
      Dev.modPort_besideLink]

theorem Dev.linkRecord_besideLink (up : Bool) : (d.linkRecord p up).besideLink = d.besideLink := by
  rw [Dev.linkRecord, Dev.raise_besideLink _ (txReg_netInt hp), Dev.record_besideLink]

theorem Dev.linkRises_besideLink : (d.linkRises p).besideLink = d.besideLink := by
  have hadv (f : Dev) : (f.advertise p).besideLink = f.besideLink := by
    unfold Dev.advertise
    split <;> rfl
  rw [Dev.linkRises, hadv, Dev.linkRecord_besideLink _ hp, Dev.latLoad_besideLink _ hp, Dev.modPort_besideLink]

theorem Dev.idleCounts_besideLink (x : Port) : (d.idleCounts p x).besideLink = d.besideLink := by
  have hlpi : txReg (Reg.NET_PORT_LPI_US p) = true := txReg_iff.mpr (by unfold Reg.NET_PORT_LPI_US; omega)
  have hpaused : txReg (Reg.NET_PORT_TX_PAUSED_US p) = true := txReg_iff.mpr (by unfold Reg.NET_PORT_TX_PAUSED_US; omega)
  simp [Dev.idleCounts, apply_ite Dev.besideLink, Dev.incW_besideLink, hlpi, hpaused]

theorem Dev.linkFalls_besideLink (x : Port) : (d.linkFalls p x).besideLink = d.besideLink := by
  rw [Dev.linkFalls, Dev.linkRecord_besideLink _ hp, Dev.inc_besideLink _ (txReg_linkDown hp), Dev.modPort_besideLink, Dev.idleCounts_besideLink _ hp]

theorem Dev.loopDiscards_besideLink : (d.loopDiscards p).besideLink = d.besideLink := by
  unfold Dev.loopDiscards
  split
  · rfl
  · exact Dev.incW_besideLink _ (txReg_iff.mpr (by unfold Reg.TST_PORT_DISC_CNT; omega)) _

theorem Dev.relink_besideLink : (d.relink p).besideLink = d.besideLink := by
  rw [Dev.relink_eq]
  split
  · rw [Dev.plcaReview_besideLink _ hp, Dev.dupCheck_besideLink _ hp]
  split
  · rw [Dev.plcaReview_besideLink _ hp, Dev.linkRises_besideLink _ hp, Dev.dupCheck_besideLink _ hp]
  · rw [Dev.plcaReview_besideLink _ hp, Dev.linkFalls_besideLink _ hp, Dev.loopDiscards_besideLink _ hp, Dev.dupCheck_besideLink _ hp]

theorem Dev.loopEnd_besideLink : (d.loopEnd 0 p 2).besideLink = d.besideLink := by
  unfold Dev.loopEnd
  dsimp only
  split
  · rfl
  · rw [if_neg (by decide), Dev.loopFinish, if_pos rfl, Dev.relink_besideLink _ hp]
    have hset (f : Dev) (g : Option LoopGen) : (f.setGen p g).besideLink = f.besideLink := rfl
    rw [hset, Dev.loopRecord, Dev.record_besideLink]
    rfl

omit hp
omit p

theorem Dev.relinkWing_besideLink (w : Nat) : (d.relinkWing w).besideLink = d.besideLink := by
  refine foldUp_keeps_below (g := Dev.besideLink) (fun p hp e => ?_) d
  split
  · exact e.relink_besideLink hp
  · rfl

theorem Dev.loopsOfWing_besideLink (w : Nat) : (d.loopsOfWing w).besideLink = d.besideLink := by
  refine foldUp_keeps_below (g := Dev.besideLink) (fun p hp e => ?_) d
  split
  · exact e.loopEnd_besideLink hp
  · rfl

variable {d}

theorem Dev.units_of_link (h : e.besideLink = d.besideLink) : { e.units with outSeq := [] } = { d.units with outSeq := [] } :=
  (congrArg (fun x => x.1.units) h :)

end

/-! REPAIR and SWITCH (R740, R873). -/

section
variable (d : Dev)

theorem Dev.endpointReset_units (flr : Bool) : (d.endpointReset flr).units = d.units := by
  unfold Dev.endpointReset
  dsimp only
  split <;> rfl

theorem Dev.endpointReset_resetCtr (flr : Bool) : (d.endpointReset flr).resetCtr = d.resetCtr := by
  unfold Dev.endpointReset
  dsimp only
  split <;> rfl

/-- A machine in which the self-test of a die runs, or of none, with the holder and its claim as before. -/
def Dev.Repairs (e : Dev) (r : Option Nat) : Prop :=
  e.units.repairing = r ∧ e.units.holder = d.units.holder ∧ e.units.claim = d.units.claim ∧ e.resetCtr = d.resetCtr

variable {d} {r : Option Nat}

theorem Dev.Repairs.link {e f : Dev} (h : d.Repairs e r) (hf : f.besideLink = e.besideLink) : d.Repairs f r := by
  obtain ⟨hr, hh, hc, hk⟩ := h
  exact ⟨(congrArg (fun x => x.1.units.repairing) hf :).trans hr, (congrArg (fun x => x.1.units.holder) hf :).trans hh,
    (congrArg (fun x => x.1.units.claim) hf :).trans hc, (congrArg (fun x => x.1.resetCtr) hf :).trans hk⟩

variable (d) in
/-- The die that REPAIR takes: the faulted one, wing 0 first. -/
def Dev.repairDie : Option Nat := if d.units.w0.role = .faulted then some 0 else if d.units.w1.role = .faulted then some 1 else none

theorem Dev.repairDie_none (h : d.repairDie = none) : d.units.w0.role ≠ .faulted ∧ d.units.w1.role ≠ .faulted := by
  unfold Dev.repairDie at h
  by_cases h0 : d.units.w0.role = .faulted
  · simp [h0] at h
  · by_cases h1 : d.units.w1.role = .faulted
    · simp [h0, h1] at h
    · exact ⟨h0, h1⟩

theorem Dev.repair_none (h : d.repairDie = none) : d.repair = d := by
  unfold Dev.repairDie at h
  simp only [Dev.repair, h]

theorem Dev.repair_repairs {w : Nat} (h : d.repairDie = some w) : d.Repairs d.repair (some w) := by
  unfold Dev.repairDie at h
  simp only [Dev.repair, h]
  refine Dev.Repairs.link ?_ (Dev.relinkWing_besideLink _ w)
  obtain ⟨x, y, heq⟩ := ({ d with units := { d.units with repairing := some w } } : Dev).modWing_eq w (fun x => { x with missLink := 0, missArb := 0 })
  rw [heq]
  exact ⟨rfl, rfl, rfl, rfl⟩

theorem Dev.wngCtl_repair {v : Word} (hr : bit v 2 = true) (hs : bit v 3 = false) : d.wngCtl v = d.repair := by simp [Dev.wngCtl, hr, hs]
theorem Dev.wngCtl_switch {v : Word} (hr : bit v 2 = false) (hs : bit v 3 = true) : d.wngCtl v = d.wingSwitch := by simp [Dev.wngCtl, hr, hs]

theorem Dev.wngWrite_repair_none {v : Word} (hr : bit v 2 = true) (hs : bit v 3 = false) (h : d.repairDie = none) (hn : d.units.repairing = none) :
    d.wngWrite v = d := by
  simp [Dev.wngWrite, Dev.wngCtl_repair hr hs, Dev.repair_none h, hn]

theorem Dev.wngWrite_repair {w : Nat} {v : Word} (hr : bit v 2 = true) (hs : bit v 3 = false) (h : d.repairDie = some w) (hn : d.units.repairing = none) :
    d.Repairs (d.wngWrite v) (some w) := by
  have hrep := Dev.repair_repairs h
  have hlast := hrep.link (Dev.loopsOfWing_besideLink _ w)
  have heq : d.wngWrite v = if w = 0 then (d.repair.loopsOfWing w).endpointReset false else d.repair.loopsOfWing w := by
    rw [Dev.wngWrite, Dev.wngCtl_repair hr hs]
    simp [hn, hrep.1]
  rw [heq]
  split
  · rw [Dev.Repairs, Dev.endpointReset_units, Dev.endpointReset_resetCtr]
    exact hlast
  · exact hlast

theorem Dev.wngWrite_switch {v : Word} (hr : bit v 2 = false) (hs : bit v 3 = true) : d.wngWrite v =
    { d with units := { d.units with switchReq := d.units.switchReq || (d.hasStandby && d.units.redundant) } } := by
  have heq : d.wingSwitch = { d with units := { d.units with switchReq := d.units.switchReq || (d.hasStandby && d.units.redundant) } } := by
    unfold Dev.wingSwitch
    split
    · simp only [*, Bool.or_true]
    · simp only [*, Bool.or_false]
  rw [Dev.wngWrite, Dev.wngCtl_switch hr hs, heq]
  dsimp only
  cases hn : d.units.repairing <;> simp

end

/-- The row of WNG_CTL. -/
def wngCtlRow : RegRow := ⟨0x400000, [], .rws, 0x0, 0x3, 0xC, []⟩

theorem windowOf_wngCtl (d : Dev) : d.windowOf Reg.WNG_CTL = none := rfl

/-- A write of WNG_CTL by a host command leaves time, the quadrants and the wings as its acting bits leave them. -/
theorem wngCtl_endsWith {s : State} {i : Iface} (n : Nat) (v : Word) (h : s.canWrite i Reg.WNG_CTL)
    (hc : ((s.dev.tick n).wngWrite v).resetCtr = s.dev.resetCtr) :
    EndsWith (hostRow s n true i Reg.WNG_CTL v) (fun t =>
      t.dev.units = ((s.dev.tick n).wngWrite v).units ∧ t.dev.loc = ((s.dev.tick n).wngWrite v).loc ∧ t.ctl = s.ctl) := by
  have hr : regAt Reg.WNG_CTL = some wngCtlRow := by decide +kernel
  have hact : (s.dev.tick n).actRws Reg.WNG_CTL v = (s.dev.tick n).wngWrite v := by
    rw [Dev.actRws, if_neg (by decide), if_neg (by decide), if_pos rfl]
  obtain ⟨hkept, hctl, -⟩ := write_rws (s := s.at n) v ((at_canWrite s n i _).mpr h) (by decide) hr rfl (windowOf_wngCtl _)
    (by rw [State.at_dev, hact]; exact hc)
  rw [State.at_dev, hact] at hkept
  have hends := Ends.of_doneS s ((s.at n).write i 15 Reg.WNG_CTL v).2
  generalize (s.dev.tick n).wngWrite v = e at *
  exact hends.with fun _ _ _ _ _ => ⟨congrArg (·.2.2.1) hkept, congrArg (·.2.1) hkept, hctl⟩

/-! The self-test of a repaired die, and convergence (R739, R741). -/

section
variable {d : Dev} {w : Nat}

/-- A wing whose die has passed its self-test after a repair. -/
def Wing.retested (x : Wing) : Wing := { x with role := .resync, cause := 0, arbPath := true, missLink := 0, missArb := 0 }

variable (d w) in
/-- The machine in which the repaired die runs again. -/
def Dev.dieRuns : Dev := ({ d with units := { d.units with repairing := none } } : Dev).modWing w Wing.retested

variable (d w) in
/-- The machine whose repaired die has passed: the die is to be brought back. -/
def Dev.testPassed : Dev :=
  let x := ({ d.dieRuns w with ing := { (d.dieRuns w).ing with lag := (d.dieRuns w).ing.lag.filter (· != w) } } : Dev).modWs w (fun _ => WSched.start)
  { x.wrN Reg.WNG_RESYNC_PROG 0 with units := { x.units with resyncAt := x.tim.clk } }

theorem Dev.wingTested_pass (h : d.units.repairing = some w) : d.wingTested w true = ((d.testPassed w).relinkWing w).reviewRun := by
  rw [Dev.wingTested, if_pos h]
  rfl

theorem Dev.modWs_eq (f : WSched → WSched) : ∃ x, d.modWs w f = { d with sch := x } := by
  unfold Dev.modWs
  split <;> exact ⟨_, rfl⟩

theorem Dev.dieRuns_eq : ∃ x y, d.dieRuns w = { d with units := { d.units with repairing := none, w0 := x, w1 := y } } :=
  ({ d with units := { d.units with repairing := none } } : Dev).modWing_eq w Wing.retested

theorem Dev.testPassed_units : (d.testPassed w).units = { (d.dieRuns w).units with resyncAt := d.tim.clk } := by
  unfold Dev.testPassed
  obtain ⟨x, y, hx⟩ := d.dieRuns_eq (w := w)
  rw [hx]
  dsimp only
  obtain ⟨z, hz⟩ := ({ d with units := { d.units with repairing := none, w0 := x, w1 := y }, ing := { d.ing with lag := d.ing.lag.filter (· != w) } } : Dev).modWs_eq
    (w := w) (fun _ => WSched.start)
  rw [hz]

theorem Dev.testPassed_prog : (d.testPassed w).rd Reg.WNG_RESYNC_PROG = 0 := Dev.rd_wr_same (Dev.modWs _ _ _) Reg.WNG_RESYNC_PROG 0

theorem Dev.wingTested_passes (hw : w < 2) (h : d.units.repairing = some w) :
    (d.wingTested w true).units.repairing = none ∧ (d.wingTested w true).wing (1 - w) = d.wing (1 - w) ∧
    (d.wingTested w true).units.holder = d.units.holder ∧ (d.wingTested w true).wing w = (d.wing w).retested ∧
    (d.wingTested w true).units.resyncAt = d.tim.clk ∧ (d.wingTested w true).rd Reg.WNG_RESYNC_PROG = 0 := by
  have hlink := Dev.relinkWing_besideLink (d.testPassed w) w
  have hunits := (Dev.units_of_link hlink).trans (congrArg (fun u : Units => { u with outSeq := [] }) Dev.testPassed_units)
  have hprog : ((d.testPassed w).relinkWing w).rd Reg.WNG_RESYNC_PROG = 0 := (congrFun (congrArg Prod.snd hlink) Reg.WNG_RESYNC_PROG :).trans Dev.testPassed_prog
  have hother : (d.dieRuns w).wing (1 - w) = d.wing (1 - w) := Dev.wing_modWing_ne _ _ hw (show 1 - w < 2 by omega) (by omega)
  have hsame : (d.dieRuns w).wing w = (d.wing w).retested := Dev.wing_modWing_same _ w _
  have hholder : (d.dieRuns w).units.holder = d.units.holder := Dev.modWing_holder _ w _
  have hrep : (d.dieRuns w).units.repairing = none := by
    obtain ⟨_, _, heq⟩ := d.dieRuns_eq (w := w)
    rw [heq]
  rw [Dev.wingTested_pass h, Dev.reviewRun_rd _ (by decide), Dev.wing_congr (Dev.reviewRun_units _), Dev.wing_congr (Dev.reviewRun_units _), Dev.reviewRun_units]
  generalize (d.testPassed w).relinkWing w = f at *
  generalize d.dieRuns w = g at *
  have hwing (v : Nat) : f.wing v = g.wing v := (congrArg (fun u : Units => if v = 0 then u.w0 else u.w1) hunits :)
  rw [hwing, hwing, hother, hsame]
  exact ⟨(congrArg Units.repairing hunits :).trans hrep, rfl, (congrArg Units.holder hunits :).trans hholder, rfl,
    (congrArg Units.resyncAt hunits :), hprog⟩

theorem Dev.faultRecord_units (c : Nat) : (d.faultRecord w c).units = d.units := Dev.units_of_recs (by simp [Dev.faultRecord])

theorem Dev.faultRecord_told (c : Nat) : (d.faultRecord w c).flag Reg.WNG_INT_STATUS 1 = true := Dev.flag_raise _ _ _ (by decide)

theorem Dev.wingTested_fails (hw : w < 2) (h : d.units.repairing = some w) :
    (d.wingTested w false).units.repairing = none ∧ (d.wingTested w false).wing (1 - w) = d.wing (1 - w) ∧
    (d.wingTested w false).units.holder = d.units.holder ∧ (d.wingTested w false).wing w = { d.wing w with cause := 8 } ∧
    (d.wingTested w false).flag Reg.WNG_INT_STATUS 1 = true := by
  have heq : d.wingTested w false =
      (({ d with units := { d.units with repairing := none } } : Dev).modWing w (fun x => { x with cause := 8 })).faultRecord w 8 := by
    rw [Dev.wingTested, if_pos h]
    rfl
  rw [heq, Dev.wing_congr (Dev.faultRecord_units 8), Dev.wing_congr (Dev.faultRecord_units 8), Dev.faultRecord_units, Dev.modWing_holder,
    Dev.wing_modWing_same, Dev.wing_modWing_ne _ _ hw (show 1 - w < 2 by omega) (by omega)]
  obtain ⟨_, _, hmod⟩ := Dev.modWing_eq ({ d with units := { d.units with repairing := none } }) w (fun x => { x with cause := 8 })
  exact ⟨by rw [hmod], rfl, rfl, rfl, Dev.faultRecord_told 8⟩

/-! Convergence. -/

theorem Dev.causeGone_units (c : Nat) : (d.causeGone c).units = d.units := by
  refine (foldl_keeps Dev.units _ _ ?_ d :)
  exact fun _ _ => rfl

variable (d w) in
/-- The record of a unit that has converged, with its interrupt. -/
def Dev.convergeNote (twin : Bool) : Dev :=
  (d.record 0x1205 (be 1 w ++ be 1 (b2n twin) ++ zeros 2 ++ be 4 (min 0xFFFFFFFF ((d.tim.clk - d.units.resyncAt) / ticksMs 1)) ++ be 8 d.wbSeq)).raise
    Reg.WNG_INT_STATUS 4

theorem Dev.convergeNote_units (twin : Bool) : (d.convergeNote w twin).units = d.units := Dev.units_of_recs (by simp [Dev.convergeNote])

theorem Dev.syncWs_units : (d.syncWs w).units = d.units := by
  unfold Dev.syncWs
  dsimp only
  obtain ⟨x, hx⟩ := d.modWs_eq (w := w) (fun _ => { WSched.start with
    crit := ((d.ws d.active).cores.map (·.2.item)).filter (fun i => i.cls == 0) ++ (d.ws d.active).crit
    wait := ((d.ws d.active).cores.map (·.2.item)).filter (fun i => i.cls != 0) ++ (d.ws d.active).wait
    deficit := (d.ws d.active).deficit, aff := (d.ws d.active).aff, impatient := (d.ws d.active).impatient, since := (d.ws d.active).since
    turn := (d.ws d.active).turn, began := (d.ws d.active).began })
  rw [hx]

theorem Dev.dispatch_units : (d.dispatch w).units = d.units := (congrArg (fun x => x.1.units) (d.dispatch_besideSch w) :)

variable (d w) in
/-- The machine with wing `w` the standby that has the active wing's state. -/
def Dev.joined : Dev :=
  let x := (d.syncWs w).modWing w (fun x => { x with role := .standby })
  { x with units := { x.units with matching := 0, redundant := false, stoodDown := false } }

theorem Dev.converge_wing (h : (d.wing w).role = .resync) : (d.converge w false).units = (d.joined w).units := by
  have heq : d.converge w false = (((((d.joined w).causeGone 1).causeGone 2).convergeNote w false).dispatch w).reviewRun := by
    rw [Dev.converge, if_neg (by decide), if_pos h]
    rfl
  rw [heq, Dev.reviewRun_units, Dev.dispatch_units, Dev.convergeNote_units, Dev.causeGone_units, Dev.causeGone_units]

theorem Dev.converge_far (h : (d.wing w).role ≠ .resync) : d.converge w false = d := by rw [Dev.converge, if_neg (by decide), if_neg h]
theorem Dev.converge_noTwin (h : d.units.twinRole ≠ .resync) : d.converge w true = d := by rw [Dev.converge, if_pos rfl, if_neg h]

theorem Dev.joined_shows (hw : w < 2) : ((d.joined w).wing w).role = .standby ∧ (d.joined w).wing (1 - w) = d.wing (1 - w) ∧
    (d.joined w).units.holder = d.units.holder := by
  have hsync := Dev.syncWs_units (d := d) (w := w)
  unfold Dev.joined
  generalize d.syncWs w = e at *
  have hsame := e.wing_modWing_same w (fun x => { x with role := .standby })
  have hother := e.wing_modWing_ne (fun x => { x with role := .standby }) hw (show 1 - w < 2 by omega) (by omega)
  have hholder := e.modWing_holder w (fun x => { x with role := .standby })
  rw [Dev.wing_congr hsync] at hother
  rw [hsync] at hholder
  exact ⟨congrArg Wing.role hsame, hother, hholder⟩

theorem Dev.converge_twin (h : d.units.twinRole = .resync) :
    (d.converge w true).units = { d.units with twinRole := .standby, stoodDown := false } ∧ (d.converge w true).flag Reg.WNG_INT_STATUS 4 = true := by
  have heq : d.converge w true =
      (({ d with units := { d.units with twinRole := .standby, stoodDown := false } } : Dev).convergeNote d.active true).reviewRun := by
    rw [Dev.converge, if_pos rfl, if_pos h]
    rfl
  rw [heq, Dev.reviewRun_units, Dev.convergeNote_units, Dev.flag_congr (Dev.reviewRun_rd _ (by decide))]
  exact ⟨rfl, Dev.flag_raise _ _ _ (by decide)⟩

/-! A slice of the self-test of the standby (R738). -/

theorem Dev.ozSend_eq (l typ : Nat) (b : Bytes) : ∃ x y z, (d.ozSend l typ b).2 = ({ d with units := { d.units with lane0 := x, lane1 := y } } : Dev).emit z := by
  by_cases h : l = 0
  · simp only [Dev.ozSend, if_pos h]
    exact ⟨_, d.units.lane1, _, rfl⟩
  · simp only [Dev.ozSend, if_neg h]
    exact ⟨d.units.lane0, _, _, rfl⟩

variable (d) in
/-- The failed slices of this pass, with the present one. -/
def Dev.sliceFails (failed : Bool) : Nat := (if d.units.slice = 0 then 0 else d.units.sliceFail) + b2n failed

variable (d) in
/-- The machine with the slice counted and its number published. -/
def Dev.sliceCounted (failed : Bool) : Dev :=
  ({ d with units := { d.units with
    slice := if d.units.slice = 899 then 0 else d.units.slice + 1, sliceFail := d.sliceFails failed
    passAt := if d.units.slice = 899 then some d.tim.clk else d.units.passAt } } : Dev).wrN Reg.WNG_HEALTH (d.units.slice + 65536 * d.sliceFails failed)

variable (d) in
/-- The slice told to the recorder, and to the twin while the link is up. -/
def Dev.sliceTold (b : Bytes) : Dev :=
  let d := d.recordLocal (1 - d.active) 0x1206 b
  if d.ozUp then (d.ozSend d.ozLane 6 b).2 else d

theorem Dev.selftestSlice_eq (failed : Bool) (h : d.hasStandby = true) : ∃ b, d.selftestSlice failed =
    if failed then (((d.sliceCounted failed).sliceTold b).raise Reg.WNG_INT_STATUS 6).wingFault (1 - d.active) 8 else (d.sliceCounted failed).sliceTold b := by
  refine ⟨be 1 (1 - d.active) ++ be 1 d.twinId ++ be 2 d.units.slice ++ be 2 (d.sliceFails failed) ++ zeros 2 ++ be 4 (d.sliceCounted failed).selftestAge ++ zeros 4, ?_⟩
  rw [Dev.selftestSlice, if_pos h]
  rfl

theorem Dev.sliceTold_units (b : Bytes) : (d.sliceTold b).units.slice = d.units.slice ∧ (d.sliceTold b).units.sliceFail = d.units.sliceFail ∧
    (d.sliceTold b).units.passAt = d.units.passAt ∧ ∀ w, (d.sliceTold b).wing w = d.wing w := by
  have hunits : (d.recordLocal (1 - d.active) 0x1206 b).units = d.units := Dev.units_of_recs (d.recordLocal_besideRecs _ _ _)
  unfold Dev.sliceTold
  dsimp only
  rw [← hunits]
  split
  · generalize d.recordLocal (1 - d.active) 0x1206 b = e at *
    obtain ⟨x, y, z, hsend⟩ := e.ozSend_eq e.ozLane 6 b
    rw [hsend]
    exact ⟨rfl, rfl, rfl, fun w => (Dev.wing_congr hunits w :)⟩
  · exact ⟨rfl, rfl, rfl, Dev.wing_congr hunits⟩

theorem Dev.sliceTold_rd (b : Bytes) {a : Nat} (h : a ≠ Reg.REC_LOST_CNT) : (d.sliceTold b).rd a = d.rd a := by
  unfold Dev.sliceTold
  dsimp only
  split
  · exact d.recordLocal_rd_ne _ _ b h
  · exact d.recordLocal_rd_ne _ _ b h

/-- What a slice of the standby's self-test shows. -/
theorem Dev.selftestSlice_shows (failed : Bool) (h : d.hasStandby = true) (hs : d.units.slice < 900) :
    (d.selftestSlice failed).units.slice = (d.units.slice + 1) % 900 ∧ (d.selftestSlice failed).units.sliceFail = d.sliceFails failed ∧
    (d.selftestSlice failed).rd Reg.WNG_HEALTH = w32 (d.units.slice + 65536 * d.sliceFails failed) ∧
    (d.units.slice = 899 → (d.selftestSlice failed).units.passAt = some d.tim.clk) ∧
    (failed = true → ((d.selftestSlice failed).wing (1 - d.active)).role = .faulted ∧ ((d.selftestSlice failed).wing (1 - d.active)).cause = 8) ∧
    (failed = false → (d.selftestSlice failed).wing (1 - d.active) = d.wing (1 - d.active)) := by
  obtain ⟨b, heq⟩ := d.selftestSlice_eq failed h
  obtain ⟨hslice, hfail, hpass, hwing⟩ := (d.sliceCounted failed).sliceTold_units b
  have hhealth : ((d.sliceCounted failed).sliceTold b).rd Reg.WNG_HEALTH = w32 (d.units.slice + 65536 * d.sliceFails failed) :=
    ((d.sliceCounted failed).sliceTold_rd b (by decide)).trans (Dev.rd_wr_same _ _ _)
  have hnext : (if d.units.slice = 899 then 0 else d.units.slice + 1) = (d.units.slice + 1) % 900 := by
    split <;> omega
  replace hslice : ((d.sliceCounted failed).sliceTold b).units.slice = (d.units.slice + 1) % 900 := hslice.trans hnext
  replace hfail : ((d.sliceCounted failed).sliceTold b).units.sliceFail = d.sliceFails failed := hfail
  replace hpass : d.units.slice = 899 → ((d.sliceCounted failed).sliceTold b).units.passAt = some d.tim.clk := fun hl => hpass.trans (if_pos hl)
  replace hwing : ((d.sliceCounted failed).sliceTold b).wing (1 - d.active) = d.wing (1 - d.active) := hwing _
  rw [heq]
  generalize (d.sliceCounted failed).sliceTold b = e at *
  cases failed with
  | false =>
    rw [if_neg (by decide)]
    exact ⟨hslice, hfail, hhealth, hpass, fun hf => absurd hf (by decide), fun _ => hwing⟩
  | true =>
    rw [if_pos rfl]
    have hrole : (e.wing (1 - d.active)).role ≠ .faulted := by
      rw [hwing, of_decide_eq_true h]
      decide
    have hf := Dev.wingFaultAt_faulted (d := e.raise Reg.WNG_INT_STATUS 6) (w := 1 - d.active) 8 false (by omega) hrole
    rw [Dev.wingFault]
    generalize (e.raise Reg.WNG_INT_STATUS 6).wingFaultAt (1 - d.active) 8 false = f at *
    refine ⟨(congrArg (·.units.slice) hf.rest :).trans hslice, (congrArg (·.units.sliceFail) hf.rest :).trans hfail,
      (hf.regs _ (by decide) (by decide)).trans ((Dev.rd_raise_ne _ _ (by decide)).trans hhealth),
      fun hl => (congrArg (·.units.passAt) hf.rest :).trans (hpass hl), fun _ => ⟨congrArg Wing.role hf.wing, congrArg Wing.cause hf.wing⟩,
      fun h => absurd h (by decide)⟩

end

/-! The statement. -/

/-- Settles O53: SWITCH and REPAIR act in their write, and the other commands by what the retest, convergence and a slice show. -/
theorem repairAndResynchronisation : Obligations.RepairAndResynchronisation := by
  refine ⟨fun s n i v hc => ⟨fun h2 => ?switch, fun h3 hn => ?repair⟩, fun s n w pass hw => ⟨fun h => ?other, fun h => ?tested⟩, fun s n k => ?frame,
    fun s n w hw => ⟨fun h => ?far, fun h => ?wing, fun h => ?twin, fun h => ?noTwin⟩, fun s n failed => ⟨fun h => ?alone, fun h hs => ?slice⟩⟩
  case switch =>
    have h2' : bit (setBits v 3 3 1) 2 = false := by rw [bit_setBits _ _ _ _ _ (by decide), ← h2]; rfl
    have h3' : bit (setBits v 3 3 1) 3 = true := by rw [bit_setBits _ _ _ _ _ (by decide)]; rfl
    have heq := Dev.wngWrite_switch (d := s.dev.tick n) h2' h3'
    have hends := wngCtl_endsWith n (setBits v 3 3 1) hc (by rw [heq]; rfl)
    rw [exec_wingSwitch]
    rw [heq] at hends
    exact hends
  case repair =>
    have h2' : bit (setBits v 2 2 1) 2 = true := by rw [bit_setBits _ _ _ _ _ (by decide)]; rfl
    have h3' : bit (setBits v 2 2 1) 3 = false := by rw [bit_setBits _ _ _ _ _ (by decide), ← h3]; rfl
    rw [exec_wingRepair]
    cases hdie : (s.dev.tick n).repairDie with
    | none =>
      have heq := Dev.wngWrite_repair_none (d := s.dev.tick n) h2' h3' hdie hn
      have hends := wngCtl_endsWith n (setBits v 2 2 1) hc (by rw [heq]; rfl)
      rw [heq] at hends
      obtain ⟨h0, h1⟩ := Dev.repairDie_none hdie
      refine hends.mono fun t ht => ?_
      obtain ⟨hunits, -, hctl⟩ := ht
      exact ⟨fun h => absurd h h0, fun _ h => absurd h h1, fun _ _ => hunits, congrArg Units.holder hunits, congrArg Units.claim hunits, hctl⟩
    | some w =>
      obtain ⟨hrep, hholder, hclaim, hctr⟩ := Dev.wngWrite_repair (d := s.dev.tick n) h2' h3' hdie hn
      have hends := wngCtl_endsWith n (setBits v 2 2 1) hc hctr
      refine hends.mono fun t ht => ?_
      obtain ⟨hunits, -, hctl⟩ := ht
      rw [← hunits] at hrep hholder hclaim
      refine ⟨fun h => ?_, fun h h' => ?_, fun h h' => ?_, hholder, hclaim, hctl⟩
      · rw [hrep, ← hdie]
        exact if_pos h
      · rw [hrep, ← hdie]
        exact (if_neg h).trans (if_pos h')
      · exact absurd (((if_neg h).trans (if_neg h')).symm.trans hdie) (by simp)
  case other =>
    have hends := devRow_ends s n (·.wingTested w pass)
    rw [exec_wingSelftestDone, decide_eq_true hw]
    rwa [show (s.dev.tick n).wingTested w pass = s.dev.tick n from if_neg h] at hends
  case tested =>
    have hends := devRow_ends s n (·.wingTested w pass)
    rw [exec_wingSelftestDone, decide_eq_true hw]
    cases pass with
    | true =>
      obtain ⟨hrep, hother, hholder, hwing, hat, hprog⟩ := Dev.wingTested_passes (d := s.dev.tick n) hw h
      generalize (s.dev.tick n).wingTested w true = f at *
      rw [Dev.tick_clk] at hat
      exact hends.with fun _ _ _ _ _ => ⟨hrep, hother, hholder, fun _ => ⟨congrArg Wing.role hwing, congrArg Wing.cause hwing, congrArg Wing.arbPath hwing, hat,
        congrArg BitVec.toNat hprog⟩, fun h => absurd h (by decide), rfl⟩
    | false =>
      obtain ⟨hrep, hother, hholder, hwing, htold⟩ := Dev.wingTested_fails (d := s.dev.tick n) hw h
      generalize (s.dev.tick n).wingTested w false = f at *
      exact hends.with fun _ _ _ _ _ => ⟨hrep, hother, hholder, fun h => absurd h (by decide),
        fun _ => ⟨(congrArg Wing.role hwing :), (congrArg Wing.cause hwing :), htold⟩, rfl⟩
  case frame =>
    have hends := devRow_ends s n (·.resyncFrame k)
    rw [exec_resyncFrame]
    intro any
    have hif : (s.dev.tick n).resyncFrame k = if any then (s.dev.tick n).wrN Reg.WNG_RESYNC_PROG (min 1000 k) else s.dev.tick n := by
      unfold Dev.resyncFrame
      refine if_congr ?_ rfl rfl
      simp [any, or_assoc]
    refine ⟨fun h => ?_, fun h => ?_⟩
    · rwa [hif, if_pos h] at hends
    · rwa [hif, if_neg h] at hends
  case far =>
    have hends := devRow_ends s n (·.converge w false)
    rw [exec_resyncConverge, decide_eq_true hw]
    rwa [Dev.converge_far (d := s.dev.tick n) h] at hends
  case wing =>
    have hends := devRow_ends s n (·.converge w false)
    rw [exec_resyncConverge, decide_eq_true hw]
    have hunits := Dev.converge_wing (d := s.dev.tick n) h
    obtain ⟨hrole, hother, hholder⟩ := Dev.joined_shows (d := s.dev.tick n) hw
    have hcount : ((s.dev.tick n).joined w).units.matching = 0 ∧ ((s.dev.tick n).joined w).units.redundant = false := ⟨rfl, rfl⟩
    generalize (s.dev.tick n).converge w false = f at *
    generalize (s.dev.tick n).joined w = g at *
    rw [← Dev.wing_congr hunits] at hrole hother
    rw [← hunits] at hholder hcount
    exact hends.with fun _ _ _ _ _ => ⟨hrole, hother, hcount.1, hcount.2, hholder, rfl⟩
  case twin =>
    have hends := devRow_ends s n (·.converge w true)
    rw [exec_resyncConverge, decide_eq_true hw]
    obtain ⟨hunits, htold⟩ := Dev.converge_twin (d := s.dev.tick n) (w := w) h
    generalize (s.dev.tick n).converge w true = f at *
    exact hends.with fun _ _ _ _ _ => ⟨hunits, htold, rfl⟩
  case noTwin =>
    have hends := devRow_ends s n (·.converge w true)
    rw [exec_resyncConverge, decide_eq_true hw]
    rwa [Dev.converge_noTwin (d := s.dev.tick n) h] at hends
  case alone =>
    have hends := devRow_ends s n (·.selftestSlice failed)
    rw [exec_selftestSlice]
    have heq : (s.dev.tick n).selftestSlice failed = s.dev.tick n := if_neg (Bool.eq_false_iff.mp h)
    rwa [heq] at hends
  case slice =>
    have hends := devRow_ends s n (·.selftestSlice failed)
    rw [exec_selftestSlice]
    obtain ⟨hslice, hfail, hhealth, hpass, hfault, hkeep⟩ := Dev.selftestSlice_shows (d := s.dev.tick n) failed h hs
    generalize (s.dev.tick n).selftestSlice failed = f at *
    rw [Dev.tick_clk] at hpass
    exact hends.with fun _ _ _ _ _ => ⟨hslice, hfail, hhealth, hpass, hfault, hkeep, rfl⟩

end Sys2Proof.Machine

/-! The Oznis link of twins, mirrored outputs and claim beacons (R726 to R736, R742 to R745; O54). -/

namespace Sys2Proof.Machine

/-! A frame received. -/

section
variable (d : Dev)

/-- The machine that has seen a higher claim than its own: its module resynchronises. -/
def Dev.twinResync : Dev := { d with units := { d.units with twinRole := .resync, stoodDown := true, resyncAt := d.tim.clk, twinCurrent := false } }

theorem Dev.standDown_units (claim source : Nat) : (d.standDown claim source).units = d.twinResync.units := by
  have hrecs : ((d.record 0x1204 (be 4 d.units.claim ++ be 4 claim ++ be 1 source ++ zeros 7)).raise Reg.WNG_INT_STATUS 3).besideRecs = d.besideRecs := by simp
  have hunits := Dev.units_of_recs hrecs
  have htim := Dev.tim_of_recs hrecs
  unfold Dev.standDown
  generalize (d.record 0x1204 (be 4 d.units.claim ++ be 4 claim ++ be 1 source ++ zeros 7)).raise Reg.WNG_INT_STATUS 3 = e at *
  dsimp only
  rw [Dev.reviewRun_units]
  dsimp only
  rw [hunits, htim]
  rfl

/-- The machine that has heard of a claim. -/
def Dev.heardClaim (claim : Nat) : Dev := { d with units := { d.units with highest := max d.units.highest (claim / 16) } }

theorem Dev.seeClaim_units (claim source : Nat) : (d.seeClaim claim source).units =
    if d.activeTwin && decide (d.units.claim < claim) then (d.heardClaim claim).twinResync.units else (d.heardClaim claim).units := by
  unfold Dev.seeClaim
  exact (apply_ite Dev.units _ _ _).trans (if_congr Iff.rfl ((d.heardClaim claim).standDown_units claim source) rfl)

theorem Dev.seeClaim_standby {claim source : Nat} (h : d.activeTwin = false) : d.seeClaim claim source = d.heardClaim claim := by
  unfold Dev.seeClaim
  refine if_neg fun hs => ?_
  have hactive : d.activeTwin = true := (Bool.and_eq_true_iff.mp hs).1
  rw [h] at hactive
  exact absurd hactive (by decide)

/-- The machine that a valid frame of the Oznis link leaves. -/
def Dev.ozHeard (l : Nat) (b : Bytes) : Dev :=
  let d := d.incW (Reg.WNG_LANE_RX_CNT l) 1
  { d with units := { d.units with peerClaim := beAt b 12 4, peerSeen := true } }

variable {d} {l typ : Nat} {b : Bytes}

theorem Dev.ozReceive_valid (h : ozValid b typ) :
    d.ozReceive l b = (some (typ, byteAt b 6, beAt b 8 4, ozLoad b), (d.ozHeard l b).seeClaim (beAt b 12 4) 1) := by
  obtain ⟨hlen, hmax, hcrc, hmagic, hver, htyp⟩ := h
  unfold Dev.ozReceive
  dsimp only
  rw [if_neg (by simp [hcrc]; omega), if_neg (by simp [hmagic, hver, hlen]; omega), htyp]
  rfl

/-- A valid frame yields its type, its flags, its LINK_SEQ and its payload. -/
theorem Dev.ozReceive_yields (h : ozValid b typ) {r : Dev} (hr : (d.ozReceive l b).2 = r) :
    d.ozReceive l b = (some (typ, byteAt b 6, beAt b 8 4, ozLoad b), r) := by rw [← hr, Dev.ozReceive_valid h]

theorem Dev.ozReceive_bad (hcrc : crc32c (b.take (b.length - 4)) ≠ beAt b (b.length - 4) 4) :
    d.ozReceive l b = (none, (d.incW (Reg.WNG_LANE_RX_CNT l) 1).inc (Reg.WNG_LANE_CRC_ERR l) 1) := by
  unfold Dev.ozReceive
  dsimp only
  rw [if_pos (by simp [hcrc])]

/-- What a valid frame shows of the claim of the other module, and what it leaves. -/
theorem Dev.ozReceive_units (h : ozValid b typ) : (d.ozReceive l b).2.units.peerClaim = beAt b 12 4 ∧ (d.ozReceive l b).2.units.lane0 = d.units.lane0 ∧
    (d.ozReceive l b).2.units.lane1 = d.units.lane1 := by
  rw [Dev.ozReceive_valid h, Dev.seeClaim_units]
  split
  · exact ⟨rfl, rfl, rfl⟩
  · exact ⟨rfl, rfl, rfl⟩

theorem Dev.ozReceive_standby (h : ozValid b typ) (ha : d.activeTwin = false) : (d.ozReceive l b).2 = (d.ozHeard l b).heardClaim (beAt b 12 4) := by
  rw [Dev.ozReceive_valid h]
  exact Dev.seeClaim_standby _ ha

end

/-! Lanes and heartbeats. -/

section
variable (d : Dev) {l : Nat}

theorem Dev.lane_congr {e : Dev} (h0 : e.units.lane0 = d.units.lane0) (h1 : e.units.lane1 = d.units.lane1) (l : Nat) : e.lane l = d.lane l := by
  rw [Dev.lane, Dev.lane, h0, h1]

@[simp] theorem Dev.lane_modLane_same (f : Lane → Lane) : (d.modLane l f).lane l = f (d.lane l) := by
  by_cases h : l = 0 <;> simp [Dev.modLane, Dev.lane, h]

theorem Dev.lane_modLane_other (f : Lane → Lane) (hl : l < 2) : (d.modLane l f).lane (1 - l) = d.lane (1 - l) := by
  by_cases h : l = 0
  · simp [Dev.modLane, Dev.lane, h]
  · have h1 : 1 - l = 0 := by omega
    simp [Dev.modLane, Dev.lane, h, h1]

theorem Dev.modLane_eq (f : Lane → Lane) : ∃ x y, d.modLane l f = { d with units := { d.units with lane0 := x, lane1 := y } } := by
  unfold Dev.modLane
  split
  · exact ⟨_, d.units.lane1, rfl⟩
  · exact ⟨d.units.lane0, _, rfl⟩

theorem Dev.laneRecord_units (up : Bool) : (d.laneRecord l up).units = d.units := Dev.units_of_recs (by simp [Dev.laneRecord])

/-- A frame takes the next LINK_SEQ of its lane, and changes of the units that lane alone. -/
theorem Dev.ozSend_lanes (typ : Nat) (b : Bytes) (hl : l < 2) :
    (d.ozSend l typ b).2.lane l = { d.lane l with seq := ((d.lane l).seq + 1) % 2 ^ 32 } ∧ (d.ozSend l typ b).2.lane (1 - l) = d.lane (1 - l) ∧
    (d.ozSend l typ b).1 = ((d.lane l).seq + 1) % 2 ^ 32 := by
  by_cases h : l = 0
  · subst h
    exact ⟨rfl, rfl, rfl⟩
  · obtain rfl : l = 1 := by omega
    exact ⟨rfl, rfl, rfl⟩

theorem Dev.reviewDone_eq : ∃ x y, d.reviewDone = { d with units := { d.units with doneSeq := x, leaving := y } } := ⟨_, _, rfl⟩

theorem Dev.sendHeartbeat_shows (hl : l < 2) :
    (d.sendHeartbeat l).lane l = { d.lane l with seq := ((d.lane l).seq + 1) % 2 ^ 32 } ∧ (d.sendHeartbeat l).lane (1 - l) = d.lane (1 - l) ∧
    (d.sendHeartbeat l).regs = d.regs ∧ (d.sendHeartbeat l).units.outSeq = d.units.outSeq := by
  obtain ⟨x, y, hdone⟩ := d.reviewDone_eq
  unfold Dev.sendHeartbeat
  dsimp only
  obtain ⟨hown, hother, -⟩ := d.reviewDone.ozSend_lanes 1 d.reviewDone.heartbeatBytes hl
  obtain ⟨u, v, z, hsend⟩ := d.reviewDone.ozSend_eq l 1 d.reviewDone.heartbeatBytes
  have hlane (v : Nat) : d.reviewDone.lane v = d.lane v := by
    rw [hdone]
    rfl
  rw [hlane] at hother
  rw [hlane l] at hown
  refine ⟨hown, hother, ?_, ?_⟩
  · rw [hsend, hdone]
    rfl
  · rw [hsend, hdone]
    rfl

/-! A heartbeat of the twin (R726, R745). -/

/-- The role that a byte of a heartbeat names. -/
def roleOf (n : Nat) : Role := match n with | 0 => .active | 1 => .standby | 2 => .resync | _ => .faulted

/-- The lane on which a heartbeat has come: it is up and misses none. -/
def Dev.laneHeard (l : Nat) : Dev :=
  (if (d.lane l).up then d else (d.modLane l (fun x => { x with up := true })).laneRecord l true).modLane l (fun x => { x with missed := 0 })

/-- What a heartbeat tells of the twin. -/
def Dev.twinTold (flags : Nat) (p : Bytes) (peerOk : Bool) : Dev :=
  { d with units := { d.units with
    peerRole := roleOf (byteAt p 16), peerState := byteAt p 17, peerInstar := beAt p 8 4, highest := max d.units.highest (beAt p 12 4 % 2 ^ 28), peerLost := false
    peerOk := peerOk && !flags.testBit 3, heldFrames := d.units.heldFrames.filter (fun h => decide (beAt p 20 4 < h.linkSeq)) } }

/-- The pair after a heartbeat: converged where the twin has become its standby. -/
def Dev.twinConverged (old role : Role) : Dev :=
  if d.reviewPair.units.paired && d.reviewPair.activeTwin && old = .resync && role = .standby then
    { d.reviewPair with units := { d.reviewPair.units with twinCurrent := true } } else d.reviewPair

/-- The role of this module after a heartbeat: it resynchronises where the link has come up. -/
def Dev.twinReturns (wasUp : Bool) : Dev :=
  if !wasUp && d.running && d.units.twinRole != .active then { d with units := { d.units with twinRole := .resync, resyncAt := d.tim.clk } } else d

theorem Dev.takeHeartbeat_eq (l flags : Nat) (p : Bytes) (peerOk : Bool) : d.takeHeartbeat l flags p peerOk =
    ((((d.laneHeard l).twinTold flags p peerOk).twinConverged (d.laneHeard l).units.peerRole (roleOf (byteAt p 16))).twinReturns d.ozUp).reviewRun := rfl

/-- The lanes, and what the device shows of its twin. -/
def Dev.twinView : Lane × Lane × Role × Nat × Nat × Nat × Bool :=
  (d.units.lane0, d.units.lane1, d.units.peerRole, d.units.peerState, d.units.peerInstar, d.units.peerClaim, d.units.peerLost)

theorem Dev.twinConverged_twinView (old role : Role) : (d.twinConverged old role).twinView = d.twinView := by
  unfold Dev.twinConverged
  split <;> rfl

theorem Dev.twinReturns_twinView (wasUp : Bool) : (d.twinReturns wasUp).twinView = d.twinView := by
  unfold Dev.twinReturns
  split <;> rfl

theorem Dev.takeHeartbeat_twinView (l flags : Nat) (p : Bytes) (peerOk : Bool) :
    (d.takeHeartbeat l flags p peerOk).twinView = ((d.laneHeard l).twinTold flags p peerOk).twinView := by
  have hrun (e : Dev) : e.reviewRun.twinView = e.twinView := by rw [Dev.twinView, Dev.reviewRun_units, Dev.twinView]
  rw [Dev.takeHeartbeat_eq, hrun, Dev.twinReturns_twinView, Dev.twinConverged_twinView]

theorem Dev.laneHeard_shows : ((d.laneHeard l).lane l).up = true ∧ ((d.laneHeard l).lane l).missed = 0 ∧
    (d.laneHeard l).units.peerClaim = d.units.peerClaim := by
  unfold Dev.laneHeard
  rw [Dev.lane_modLane_same]
  obtain ⟨x, y, h⟩ := Dev.modLane_eq (l := l) (if (d.lane l).up then d else (d.modLane l (fun x => { x with up := true })).laneRecord l true)
    (fun x => { x with missed := 0 })
  rw [h]
  by_cases hup : (d.lane l).up = true
  · rw [if_pos hup]
    exact ⟨hup, rfl, rfl⟩
  · rw [if_neg hup]
    have hrec := (d.modLane l (fun x => { x with up := true })).laneRecord_units (l := l) true
    obtain ⟨x', y', h'⟩ := Dev.modLane_eq (l := l) d (fun x => { x with up := true })
    refine ⟨?_, rfl, ?_⟩
    · rw [Dev.lane_congr _ (congrArg Units.lane0 hrec) (congrArg Units.lane1 hrec), Dev.lane_modLane_same]
    · refine (congrArg Units.peerClaim hrec :).trans ?_
      rw [h']

/-! A heartbeat missed (R742). -/

/-- The machine that has counted a heartbeat missed on a lane. -/
def Dev.laneMissed (l : Nat) : Dev :=
  ((d.inc (Reg.WNG_LANE_HB_MISS l) 1).incF Reg.WNG_HB_MISS_CNT 31 16).modLane l (fun x => { x with missed := x.missed + 1 })

/-- A lane goes down for the pair. -/
def Dev.laneFalls (l : Nat) : Dev := ((d.modLane l (fun x => { x with up := false })).laneRecord l false).reviewPair

theorem Dev.oznisMiss_eq (l : Nat) : d.oznisMiss l =
    (if (((d.laneMissed l).lane l).up && decide (3 ≤ ((d.laneMissed l).lane l).missed)) = true then (d.laneMissed l).laneFalls l else d.laneMissed l).twinFailure := rfl

theorem Dev.twinFailure_lane (v : Nat) : d.twinFailure.lane v = d.lane v := by
  unfold Dev.twinFailure
  split
  · dsimp only
    by_cases h : d.units.twinRole = .standby
    · simp only [Dev.lane, Dev.reviewRun_units, if_pos h]
    · simp only [Dev.lane, Dev.reviewRun_units, if_neg h]
  · rfl

theorem Dev.inc_units (a n : Nat) : (d.inc a n).units = d.units := Dev.units_of_recs (d.inc_besideRecs a n)

theorem Dev.laneMissed_shows (hl : l < 2) : (d.laneMissed l).lane l = { d.lane l with missed := (d.lane l).missed + 1 } ∧
    (d.laneMissed l).lane (1 - l) = d.lane (1 - l) := by
  have hunits : ((d.inc (Reg.WNG_LANE_HB_MISS l) 1).incF Reg.WNG_HB_MISS_CNT 31 16).units = d.units := (d.inc_units _ _ :)
  have hlane (v : Nat) := Dev.lane_congr d (e := (d.inc (Reg.WNG_LANE_HB_MISS l) 1).incF Reg.WNG_HB_MISS_CNT 31 16) (congrArg Units.lane0 hunits)
    (congrArg Units.lane1 hunits) v
  rw [Dev.laneMissed, Dev.lane_modLane_same, Dev.lane_modLane_other _ _ hl, hlane, hlane]
  exact ⟨rfl, rfl⟩

theorem Dev.laneFalls_shows (hl : l < 2) : (d.laneFalls l).lane l = { d.lane l with up := false } ∧ (d.laneFalls l).lane (1 - l) = d.lane (1 - l) := by
  have hrec := (d.modLane l (fun x => { x with up := false })).laneRecord_units (l := l) false
  have hlane (v : Nat) : (d.laneFalls l).lane v = (d.modLane l (fun x => { x with up := false })).lane v :=
    (Dev.lane_congr _ (congrArg Units.lane0 hrec) (congrArg Units.lane1 hrec) v :)
  rw [hlane, hlane, Dev.lane_modLane_same, Dev.lane_modLane_other _ _ hl]
  exact ⟨rfl, rfl⟩

theorem Dev.oznisMiss_shows (hl : l < 2) : ((d.oznisMiss l).lane l).up = ((d.lane l).up && decide ((d.lane l).missed < 2)) ∧
    ((d.oznisMiss l).lane l).missed = (d.lane l).missed + 1 ∧ (d.oznisMiss l).lane (1 - l) = d.lane (1 - l) := by
  obtain ⟨hmiss, hother⟩ := d.laneMissed_shows hl
  obtain ⟨hfall, hother'⟩ := (d.laneMissed l).laneFalls_shows hl
  rw [Dev.oznisMiss_eq, Dev.twinFailure_lane, Dev.twinFailure_lane]
  by_cases hdown : (((d.laneMissed l).lane l).up && decide (3 ≤ ((d.laneMissed l).lane l).missed)) = true
  · rw [if_pos hdown, hfall, hother', hother, hmiss]
    rw [hmiss] at hdown
    have hmissed := of_decide_eq_true (Bool.and_eq_true_iff.mp hdown).2
    dsimp only at hmissed
    exact ⟨by simp; omega, rfl, rfl⟩
  · rw [if_neg hdown, hother, hmiss]
    rw [hmiss] at hdown
    refine ⟨?_, rfl, rfl⟩
    dsimp only at hdown ⊢
    cases hup : (d.lane l).up
    · rfl
    · rw [hup] at hdown
      simp at hdown ⊢
      omega

end

/-! Mirrored outputs (R729, R742). -/

section
variable {d : Dev} {o : OzOut} {x : Out}

theorem sibling_self (o : OzOut) : o.sibling o = false := by simp [OzOut.sibling]

theorem Dev.readyMirrored_passed (hu : d.units.unacked = [(o, x)]) (hp : o.passed = true) :
    d.readyMirrored o 2 = { d with units := { d.units with unacked := [] } } := by
  simp [Dev.readyMirrored, hu, hp, Dev.drainMirrored]

theorem nextMirrored_one (hp : o.passed = false) (hr : o.ready ≠ 0) : nextMirrored [] [(o, x)] = some (o, x) := by
  simp [nextMirrored, hp, hr]

theorem Dev.drainMirrored_one (hu : d.units.unacked = [(o, x)]) (hp : o.passed = false) (hr : o.ready ≠ 0) : Dev.drainMirrored 1 d =
    ({ d with units := { d.units with unacked := if o.ready = 2 ∨ o.again = true then [] else [({ o with passed := true }, x)] } } : Dev).passMirrored o x := by
  simp only [Dev.drainMirrored, hu, nextMirrored_one hp hr]
  by_cases h : o.ready = 2 ∨ o.again = true
  · simp [h]
  · simp [h]

theorem Dev.readyMirrored_one (why : Nat) (hu : d.units.unacked = [(o, x)]) (hp : o.passed = false) (hw : why ≠ 0) : d.readyMirrored o why =
    ({ d with units := { d.units with unacked :=
      if why = 2 ∨ o.again = true then [] else [({ o with ready := why, passed := true }, x)] } } : Dev).passMirrored o x := by
  have hlist : d.readyMirrored o why = Dev.drainMirrored 1 { d with units := { d.units with unacked := [({ o with ready := why }, x)] } } := by
    simp [Dev.readyMirrored, hu, hp, sibling_self]
  rw [hlist, Dev.drainMirrored_one (o := { o with ready := why }) (x := x) rfl hp hw]
  rfl

theorem Dev.readyMirrored_acked (hu : d.units.unacked = [(o, x)]) : d.readyMirrored o 2 =
    if o.passed then { d with units := { d.units with unacked := [] } } else ({ d with units := { d.units with unacked := [] } } : Dev).passMirrored o x := by
  cases hp : o.passed with
  | true => exact Dev.readyMirrored_passed hu hp
  | false =>
    rw [Dev.readyMirrored_one 2 hu hp (by decide), if_pos (.inl rfl)]
    exact (if_neg (by decide)).symm

end

/-! Beacons (R733, R734, R736). -/

section
variable {d : Dev}

theorem Dev.tick_beaconBytes (n : Nat) (b : Bytes) : (d.tick n).beaconBytes b = d.beaconBytes b := by
  have hkey : (d.tick n).pairKey = d.pairKey := rfl
  rw [Dev.beaconBytes, hkey, Dev.beaconBytes]

theorem Dev.beaconReceived_bad {b : Bytes} (hf : d.flag Reg.WNG_CTL 1 = true) (hlen : b.length = 40) (hver : byteAt b 0 = 1)
    (hb : d.beaconBytes (b.take 24) ≠ b) : d.beaconReceived b = d.inc Reg.WNG_BEACON_BAD_CNT 1 := by
  rw [Dev.beaconReceived, if_pos (by simp [hf, hlen, hver]), if_pos (by simpa using hb)]

theorem Dev.beaconReceived_good {b : Bytes} (hf : d.flag Reg.WNG_CTL 1 = true) (hlen : b.length = 40) (hver : byteAt b 0 = 1)
    (hb : d.beaconBytes (b.take 24) = b) (ht : beAt b 4 4 / 2 % 2 ≠ d.twinId) :
    d.beaconReceived b = ({ d with units := { d.units with lastBeacon := some d.tim.clk } } : Dev).seeClaim (beAt b 4 4) 2 := by
  rw [Dev.beaconReceived, if_pos (by simp [hf, hlen, hver]), if_neg (by simpa using hb)]
  dsimp only
  rw [if_neg ht]

/-- What a correct beacon of the twin shows. -/
theorem Dev.beaconReceived_shows {b : Bytes} (hf : d.flag Reg.WNG_CTL 1 = true) (hlen : b.length = 40) (hver : byteAt b 0 = 1)
    (hb : d.beaconBytes (b.take 24) = b) (ht : beAt b 4 4 / 2 % 2 ≠ d.twinId) :
    (d.beaconReceived b).units.lastBeacon = some d.tim.clk ∧ (d.beaconReceived b).units.highest = max d.units.highest (beAt b 4 4 / 16) ∧
    (d.activeTwin = true → d.units.claim < beAt b 4 4 → (d.beaconReceived b).units.twinRole = .resync ∧ (d.beaconReceived b).units.stoodDown = true) := by
  rw [Dev.beaconReceived_good hf hlen hver hb ht, Dev.seeClaim_units]
  split
  case isTrue => exact ⟨rfl, rfl, fun _ _ => ⟨rfl, rfl⟩⟩
  case isFalse h => exact ⟨rfl, rfl, fun ha hc => absurd (Bool.and_eq_true_iff.mpr ⟨ha, decide_eq_true hc⟩) h⟩

theorem Dev.flushOuts_none (h : d.units.outs = []) : d.flushOuts = d := by
  simp only [Dev.flushOuts, h, List.foldl_nil]
  rw [← h]

theorem Dev.beaconSend_shows (ha : d.activeTwin = true) (hf : d.flag Reg.WNG_CTL 1 = true) : d.beaconSend.units.beaconSeq = (d.units.beaconSeq + 1) % 2 ^ 32 ∧
    d.beaconSend.units.claim = d.units.claim ∧ d.beaconSend.loc = d.loc := by
  have hsent : d.beaconSend.besideTx = ({ d with units := { d.units with beaconSeq := (d.units.beaconSeq + 1) % 2 ^ 32 } } : Dev).besideTx := by
    unfold Dev.beaconSend
    rw [if_pos (by simp [ha, hf])]
    exact Dev.toPorts_besideTx _ _ (by decide) _
  exact ⟨(congrArg (fun x => x.1.units.beaconSeq) hsent :), (congrArg (fun x => x.1.units.claim) hsent :), (congrArg (fun x => x.1.loc) hsent :)⟩

theorem Dev.beaconSend_off (h : d.activeTwin = false ∨ d.flag Reg.WNG_CTL 1 = false) : d.beaconSend = d := by
  refine if_neg fun hs => ?_
  obtain ⟨ha, hf⟩ := Bool.and_eq_true_iff.mp hs
  rw [ha, hf] at h
  simp at h

theorem Dev.twinBClaim_claims (ht : d.twinId = 1) (hl : d.tim.lockedOnce = true) (hr : d.running = true) (hh : d.units.holder = none)
    (hat : d.units.runAt + ticksMs 20 ≤ d.tim.clk) (hp : d.units.peerClaim = 0) (hb : d.units.lastBeacon = none) :
    d.twinBClaim = d.firstClaim.beaconSend := if_pos (by simp [ht, hl, hr, hh, hat, hp, hb])

theorem Dev.twinBClaim_early (h : d.tim.clk < d.units.runAt + ticksMs 20) : d.twinBClaim = d := if_neg (by simp; omega)

/-- The first claim of a machine of which nothing waits at a gate. -/
theorem Dev.firstClaim_seat (hh : d.units.holder = none) (ho : d.units.outs = []) : d.firstClaim.seat.holder = some d.active ∧
    d.firstClaim.seat.claim = d.nextEpoch * 16 + d.twinId * 2 + d.active ∧ d.firstClaim.seat.epoch = d.nextEpoch := by
  obtain ⟨x, y, h⟩ := ({ d with nv := { d.nv with claimEpoch := d.nextEpoch } } : Dev).modWing_eq d.active (fun x => { x with role := .active })
  have heq : d.claimBy d.active = { d with
      nv := { d.nv with claimEpoch := d.nextEpoch }, units := { d.units with
        w0 := x, w1 := y, holder := some d.active, claim := d.nextEpoch * 16 + d.twinId * 2 + d.active, highest := d.nextEpoch, twinRole := .active } } := by
    rw [Dev.claimBy, ← Dev.nextEpoch]
    dsimp only
    rw [h]
    rfl
  rw [Dev.firstClaim, hh, if_neg (by decide), heq, Dev.flushOuts_none (by exact ho)]
  exact ⟨rfl, rfl, rfl⟩

end

/-! The commands of a lane. -/

section
variable {d : Dev} {l : Nat} {b : Bytes}

theorem Dev.oznisHeartbeat_valid (peer : Bool) (h : ozValid b 1) :
    d.oznisHeartbeat l (some b) peer = (d.ozReceive l b).2.takeHeartbeat l (byteAt b 6) (ozLoad b) peer := by
  generalize hr : (d.ozReceive l b).2 = r
  simp only [Dev.oznisHeartbeat, Dev.ozReceive_yields h hr]

theorem Dev.healthFrame_valid (h : ozValid b 6) : d.healthFrame l b =
    { (d.ozReceive l b).2 with units := { (d.ozReceive l b).2.units with peerHealth := ozLoad b } } := by
  generalize hr : (d.ozReceive l b).2 = r
  simp only [Dev.healthFrame, Dev.ozReceive_yields h hr]

theorem Dev.reportFrame_valid (h : ozValid b 9) (hl : (d.ozReceive l b).2.tim.lockedOnce = true) (ha : (d.ozReceive l b).2.activeTwin = false) :
    d.reportFrame l b =
      let p := ozLoad b
      let r := (d.ozReceive l b).2
      let k := fit 32 (p.drop 16)
      let e := r.place (beAt p 0 2) (beAt p 8 8) (slotNs r.rate (beAt p 8 8) + beAt k 30 2 * 32000) k none
      e.2.pointPlaced (beAt p 0 2) e.1 := by
  generalize hr : (d.ozReceive l b).2 = r at *
  simp only [Dev.reportFrame, Dev.ozReceive_yields h hr, hl, ha]
  rfl

theorem Dev.outputAck_none (h : ozValid b 4) (hf : (d.ozReceive l b).2.units.unacked.find? (fun x => x.1.linkSeq == beAt (ozLoad b) 0 4) = none) :
    d.outputAck l b = (d.ozReceive l b).2 := by
  generalize hr : (d.ozReceive l b).2 = r at *
  simp only [Dev.outputAck, Dev.ozReceive_yields h hr, hf]

theorem Dev.outputAck_some {o : OzOut} {x : Out} (h : ozValid b 4)
    (hf : (d.ozReceive l b).2.units.unacked.find? (fun x => x.1.linkSeq == beAt (ozLoad b) 0 4) = some (o, x)) :
    d.outputAck l b = (d.ozReceive l b).2.readyMirrored o 2 := by
  generalize hr : (d.ozReceive l b).2 = r at *
  simp only [Dev.outputAck, Dev.ozReceive_yields h hr, hf]

/-- The standby twin with a mirrored output taken. -/
def Dev.outputTaken (d : Dev) (n : Nat) (p : Bytes) : Dev :=
  { d with units := { d.units with
    outSeq := tset 0 d.units.outSeq (beAt p 0 2) (max (tget 0 d.units.outSeq (beAt p 0 2)) (beAt p 8 8 + 1))
    outs := d.units.outs.filter (fun x => !(x.o == beAt p 0 2 && decide (x.seq ≤ beAt p 8 8)))
    heldFrames :=
      if beAt p 16 4 = 0 || d.units.heldFrames.any (fun h => h.out == beAt p 0 2 && h.seq == beAt p 8 8 && h.frag == byteAt p 2) then d.units.heldFrames
      else d.units.heldFrames ++ [({ out := beAt p 0 2, seq := beAt p 8 8, linkSeq := n, frag := byteAt p 2, bytes := (p.drop 24).take (beAt p 16 4) } : Held)] } }

theorem Dev.outputFrame_valid (h : ozValid b 3) (ha : d.activeTwin = false) : ∃ m : Nat, d.outputFrame l b =
    ((((d.ozHeard l b).heardClaim (beAt b 12 4)).outputTaken (beAt b 8 4) (ozLoad b)).ozSend l 4 (be 4 m ++ zeros 4)).2 := by
  refine ⟨beAt b 8 4, ?_⟩
  simp only [Dev.outputFrame, Dev.ozReceive_yields h (Dev.ozReceive_standby h ha)]
  exact if_neg (show ¬ d.activeTwin = true by rw [ha]; decide)

/-- What a mirrored output leaves at the standby twin. -/
theorem Dev.outputFrame_shows (h : ozValid b 3) (ha : d.activeTwin = false) (hl : l < 2) :
    tget 0 (d.outputFrame l b).units.outSeq (beAt (ozLoad b) 0 2) = max (tget 0 d.units.outSeq (beAt (ozLoad b) 0 2)) (beAt (ozLoad b) 8 8 + 1) ∧
    (∀ k, k ≠ beAt (ozLoad b) 0 2 → tget 0 (d.outputFrame l b).units.outSeq k = tget 0 d.units.outSeq k) ∧
    (d.outputFrame l b).units.outs = d.units.outs.filter (fun x => !(x.o == beAt (ozLoad b) 0 2 && decide (x.seq ≤ beAt (ozLoad b) 8 8))) ∧
    ((d.outputFrame l b).lane l).seq = ((d.lane l).seq + 1) % 2 ^ 32 := by
  obtain ⟨m, heq⟩ := Dev.outputFrame_valid (l := l) h ha
  obtain ⟨hlane, -, -⟩ := (((d.ozHeard l b).heardClaim (beAt b 12 4)).outputTaken (beAt b 8 4) (ozLoad b)).ozSend_lanes 4 (be 4 m ++ zeros 4) hl
  obtain ⟨u, v, z, hsend⟩ := (((d.ozHeard l b).heardClaim (beAt b 12 4)).outputTaken (beAt b 8 4) (ozLoad b)).ozSend_eq l 4 (be 4 m ++ zeros 4)
  rw [heq]
  refine ⟨?_, fun k hk => ?_, ?_, ?_⟩
  · rw [hsend]
    exact tget_tset_same _ _ _ _
  · rw [hsend]
    exact tget_tset_ne 0 0 _ hk _
  · rw [hsend]
    rfl
  · exact congrArg Lane.seq hlane

/-- A frame with a bad CRC only counts. -/
theorem Dev.badCrc_counts (peer : Bool) (hcrc : crc32c (b.take (b.length - 4)) ≠ beAt b (b.length - 4) 4) :
    d.oznisHeartbeat l (some b) peer = (d.incW (Reg.WNG_LANE_RX_CNT l) 1).inc (Reg.WNG_LANE_CRC_ERR l) 1 ∧
    d.outputFrame l b = (d.incW (Reg.WNG_LANE_RX_CNT l) 1).inc (Reg.WNG_LANE_CRC_ERR l) 1 ∧
    d.outputAck l b = (d.incW (Reg.WNG_LANE_RX_CNT l) 1).inc (Reg.WNG_LANE_CRC_ERR l) 1 ∧
    d.reportFrame l b = (d.incW (Reg.WNG_LANE_RX_CNT l) 1).inc (Reg.WNG_LANE_CRC_ERR l) 1 ∧
    d.healthFrame l b = (d.incW (Reg.WNG_LANE_RX_CNT l) 1).inc (Reg.WNG_LANE_CRC_ERR l) 1 := by
  simp only [Dev.oznisHeartbeat, Dev.outputFrame, Dev.outputAck, Dev.reportFrame, Dev.healthFrame, Dev.ozReceive_bad hcrc, and_self]

end

/-! Retransmission. -/

section
variable {d : Dev} {o : OzOut} {x : Out} {k : Nat}

variable (d) in
/-- A frame not acknowledged in 20 µs. -/
def Dev.lateFrame (k : Nat) (y : OzOut × Out) : Bool := y.1.linkSeq == k && decide (y.1.at' + ticksUs 20 ≤ d.tim.clk)

theorem Dev.oznisRetransmit_none (h : d.units.unacked.find? (fun y => d.lateFrame k y && !y.1.again) = none) : d.oznisRetransmit k = d := by
  have hfind : d.units.unacked.find? (fun x => x.1.linkSeq == k && !x.1.again && decide (x.1.at' + ticksUs 20 ≤ d.tim.clk)) = none := by
    rw [← h]
    congr 1
    funext y
    rw [Dev.lateFrame, Bool.and_right_comm]
  simp only [Dev.oznisRetransmit, hfind]

theorem Dev.ackTimeout_none (h : d.units.unacked.find? (fun y => d.lateFrame k y && y.1.ready == 0) = none) : d.ackTimeout k = d := by
  have hfind : d.units.unacked.find? (fun x => x.1.linkSeq == k && x.1.ready == 0 && decide (x.1.at' + ticksUs 20 ≤ d.tim.clk)) = none := by
    rw [← h]
    congr 1
    funext y
    rw [Dev.lateFrame, Bool.and_right_comm]
  simp only [Dev.ackTimeout, hfind]

theorem Dev.ackTimeout_one (hu : d.units.unacked = [(o, x)]) (hl : d.lateFrame k (o, x) = true) (hp : o.passed = false) (hr : o.ready = 0) :
    d.ackTimeout k = (({ d with units := { d.units with
      unacked := if o.again then [] else [({ o with ready := 1, passed := true }, x)], twinCurrent := false } } : Dev).raise Reg.WNG_INT_STATUS 7).passMirrored o x := by
  obtain ⟨hseq, hat⟩ := Bool.and_eq_true_iff.mp hl
  dsimp only at hseq hat
  have heq : d.ackTimeout k = (({ d with units := { d.units with twinCurrent := false } } : Dev).raise Reg.WNG_INT_STATUS 7).readyMirrored o 1 := by
    simp only [Dev.ackTimeout, hu, List.find?_cons, hseq, hat, hr]
    rfl
  have hpass := Dev.readyMirrored_one (d := ({ d with units := { d.units with twinCurrent := false } } : Dev).raise Reg.WNG_INT_STATUS 7) (o := o) (x := x) 1 hu hp
    (by decide)
  simp only [show ¬ (1 = 2) by decide, false_or] at hpass
  exact heq.trans hpass

theorem Dev.oznisRetransmit_one (hu : d.units.unacked = [(o, x)]) (hl : d.lateFrame k (o, x) = true) (ha : o.again = false) (hp : o.passed = false)
    (hup : (d.lane (1 - o.lane)).up = true) :
    (d.oznisRetransmit k).units.unacked = [({ o with linkSeq := ((d.lane (1 - o.lane)).seq + 1) % 2 ^ 32, lane := 1 - o.lane, again := true }, x)] ∧
    ((d.oznisRetransmit k).lane (1 - o.lane)).seq = ((d.lane (1 - o.lane)).seq + 1) % 2 ^ 32 := by
  obtain ⟨hseq, hat⟩ := Bool.and_eq_true_iff.mp hl
  dsimp only at hseq hat
  have hl2 : 1 - o.lane < 2 := by omega
  obtain ⟨hlane, -, hn⟩ := (d.inc (Reg.WNG_LANE_RETX_CNT (1 - o.lane)) 1).ozSend_lanes 3 (x.part o.frag o.frags) hl2
  obtain ⟨u, v, z, hsend⟩ := (d.inc (Reg.WNG_LANE_RETX_CNT (1 - o.lane)) 1).ozSend_eq (1 - o.lane) 3 (x.part o.frag o.frags)
  have hunits := d.inc_units (Reg.WNG_LANE_RETX_CNT (1 - o.lane)) 1
  rw [Dev.lane_congr d (congrArg Units.lane0 hunits) (congrArg Units.lane1 hunits)] at hlane hn
  have heq : d.oznisRetransmit k =
      let r := (d.inc (Reg.WNG_LANE_RETX_CNT (1 - o.lane)) 1).ozSend (1 - o.lane) 3 (x.part o.frag o.frags)
      { r.2 with units := { r.2.units with unacked := r.2.units.unacked.filterMap (fun y =>
        if y.1 = o then (if o.passed then none else some ({ o with linkSeq := r.1, lane := 1 - o.lane, again := true }, y.2)) else some y) } } := by
    simp only [Dev.oznisRetransmit, hu, List.find?_cons, hseq, hat, ha]
    exact if_pos hup
  have hwait : ((d.inc (Reg.WNG_LANE_RETX_CNT (1 - o.lane)) 1).ozSend (1 - o.lane) 3 (x.part o.frag o.frags)).2.units.unacked = [(o, x)] := by
    rw [hsend]
    exact (congrArg Units.unacked hunits).trans hu
  rw [heq]
  generalize (d.inc (Reg.WNG_LANE_RETX_CNT (1 - o.lane)) 1).ozSend (1 - o.lane) 3 (x.part o.frag o.frags) = r at *
  refine ⟨?_, congrArg Lane.seq hlane⟩
  simp [hwait, hp, hn]

end

/-! The statement. -/

/-- What a heartbeat of the twin shows. -/
theorem Dev.oznisHeartbeat_shows {d : Dev} {l : Nat} {b : Bytes} (peer : Bool) (h : ozValid b 1) :
    ((d.oznisHeartbeat l (some b) peer).lane l).up = true ∧ ((d.oznisHeartbeat l (some b) peer).lane l).missed = 0 ∧
    (d.oznisHeartbeat l (some b) peer).units.peerState = byteAt (ozLoad b) 17 ∧ (d.oznisHeartbeat l (some b) peer).units.peerInstar = beAt (ozLoad b) 8 4 ∧
    (d.oznisHeartbeat l (some b) peer).units.peerClaim = beAt b 12 4 ∧ (d.oznisHeartbeat l (some b) peer).units.peerLost = false ∧
    (d.oznisHeartbeat l (some b) peer).units.peerRole = roleOf (byteAt (ozLoad b) 16) := by
  rw [Dev.oznisHeartbeat_valid peer h]
  have hclaim := (Dev.ozReceive_units (d := d) (l := l) h).1
  generalize (d.ozReceive l b).2 = r at *
  have hview := r.takeHeartbeat_twinView l (byteAt b 6) (ozLoad b) peer
  obtain ⟨hup, hmiss, hpc⟩ := r.laneHeard_shows (l := l)
  have hlane : (r.takeHeartbeat l (byteAt b 6) (ozLoad b) peer).lane l = (r.laneHeard l).lane l :=
    Dev.lane_congr _ (congrArg (·.1) hview) (congrArg (·.2.1) hview) l
  generalize r.takeHeartbeat l (byteAt b 6) (ozLoad b) peer = f at *
  rw [hlane]
  exact ⟨hup, hmiss, congrArg (·.2.2.2.1) hview, congrArg (·.2.2.2.2.1) hview, ((congrArg (·.2.2.2.2.2.1) hview).trans hpc).trans hclaim,
    congrArg (·.2.2.2.2.2.2) hview, congrArg (·.2.2.1) hview⟩

/-- Settles O54: a frame of the link by what it yields and the claim it shows, and the mirrored outputs by the one that waits. -/
theorem twinLink : Obligations.TwinLink := by
  refine ⟨fun s n l peer hl hmode => ?lanes, fun s n k => ?frames⟩
  case lanes =>
    intro e
    have hmode' : ((e.loop 1 l).mode != 0) = false := by rw [show (e.loop 1 l).mode = 0 from hmode]; rfl
    have hbeat (rx : Option Bytes) : Ends (exec (.oznisHeartbeat n l rx peer) s) { s with dev := e.oznisHeartbeat l rx peer } := by
      have hends := devRow_ends s n (fun d => if (d.loop 1 l).mode != 0 then (match rx with | some b => d.ozPatternReceived l b | none => d.ozPatternSend l)
        else d.oznisHeartbeat l rx peer)
      rw [exec_oznisHeartbeat, decide_eq_true hl]
      rwa [if_neg (by rw [hmode']; decide)] at hends
    have hrow (f : Dev → Dev) : Ends (devRow s n (decide (l < 2)) f) { s with dev := f e } := by
      rw [decide_eq_true hl]
      exact devRow_ends s n f
    refine ⟨?_, ?_, fun b hb => ?_, fun b _ hcrc o ho => ?_, fun b => ?_⟩
    · obtain ⟨hown, hother, hregs, hseq⟩ := e.sendHeartbeat_shows hl
      have hends := hbeat none
      change Ends _ { s with dev := e.sendHeartbeat l } at hends
      generalize e.sendHeartbeat l = f at *
      exact hends.with fun _ _ _ _ _ => ⟨(congrArg Lane.seq hown :), (congrArg Lane.up hown :), hother, hregs, hseq, rfl⟩
    · have hends := hrow (fun d => if (d.loop 1 l).mode != 0 then d else d.oznisMiss l)
      rw [if_neg (by rw [hmode']; decide)] at hends
      obtain ⟨hup, hmiss, hother⟩ := e.oznisMiss_shows hl
      rw [exec_oznisHeartbeatMiss]
      generalize e.oznisMiss l = f at *
      exact hends.with fun _ _ _ _ _ => ⟨hup, hmiss, hother, rfl⟩
    · obtain ⟨hup, hmiss, hst, hin, hclaim, hlost, hrole⟩ := Dev.oznisHeartbeat_shows (d := e) (l := l) peer hb
      have hends := hbeat (some b)
      generalize e.oznisHeartbeat l (some b) peer = f at *
      exact hends.with fun _ _ _ _ _ => ⟨hup, hmiss, hst, hin, hclaim, hlost, fun h => hrole.trans (by rw [h]; rfl),
        fun h => hrole.trans (by rw [h]; rfl), fun h => hrole.trans (by rw [h]; rfl), rfl⟩
    · obtain ⟨h1, h2, h3, h4, h5⟩ := Dev.badCrc_counts (d := e) (l := l) peer hcrc
      simp only [List.mem_cons, List.not_mem_nil, or_false] at ho
      obtain rfl | rfl | rfl | rfl | rfl := ho
      · exact h1 ▸ hbeat (some b)
      · exact h2 ▸ hrow (·.outputFrame l b)
      · exact h3 ▸ hrow (·.outputAck l b)
      · exact h4 ▸ hrow (·.reportFrame l b)
      · exact h5 ▸ hrow (·.healthFrame l b)
    · intro r p
      refine ⟨fun hb => ?_, fun hb hlk ha => ?_, fun hb ha => ?_, fun hb hno => ?_, fun hb o x hu hq => ?_⟩
      · exact Dev.healthFrame_valid (d := e) (l := l) hb ▸ hrow (·.healthFrame l b)
      · have hends := hrow (·.reportFrame l b)
        rw [exec_reportFrame]
        rwa [Dev.reportFrame_valid (d := e) (l := l) hb hlk ha] at hends
      · obtain ⟨hsame, hne, houts, hlane⟩ := Dev.outputFrame_shows (d := e) (l := l) hb ha hl
        have hends := hrow (·.outputFrame l b)
        rw [exec_outputFrame]
        generalize e.outputFrame l b = f at *
        exact hends.with fun _ _ _ _ _ => ⟨hsame, hne, houts, hlane, rfl⟩
      · have hfind : r.units.unacked.find? (fun x => x.1.linkSeq == beAt (ozLoad b) 0 4) = none := by
          rw [List.find?_eq_none]
          intro y hy
          simpa using hno y hy
        have hends := hrow (·.outputAck l b)
        rw [exec_outputAck]
        rwa [Dev.outputAck_none hb hfind] at hends
      · have hfind : r.units.unacked.find? (fun x => x.1.linkSeq == beAt (ozLoad b) 0 4) = some (o, x) := by
          rw [hu, List.find?_cons_of_pos (by simpa using hq)]
        have hends := hrow (·.outputAck l b)
        rw [exec_outputAck]
        rw [Dev.outputAck_some hb hfind, show (e.ozReceive l b).2 = r from rfl, Dev.readyMirrored_acked (d := r) (x := x) hu] at hends
        exact hends
  case frames =>
    intro e late
    have hre := devRow_ends s n (·.oznisRetransmit k)
    have hack := devRow_ends s n (·.ackTimeout k)
    have hbeacon := devRow_ends s n (·.beaconSend)
    have hclaim := devRow_ends s n (·.twinBClaim)
    rw [exec_oznisRetransmit, exec_outputAckTimeout, exec_beaconSend, exec_twinBClaimWait]
    refine ⟨fun h => ⟨?_, ?_⟩, fun o x hu hlate hlane => ⟨fun hp hr => ?_, fun hr => ?_, fun ha => ?_, fun ha hp hup => ?_⟩, fun ha hf => ?_, fun h => ?_,
      fun b hf hlen hver => ⟨fun hb => ?_, fun hb ht => ?_⟩, fun ho ht hlk hrun hh hat hpc hlb => ?_, fun hat => ?_⟩
    · rw [List.find?_eq_none] at h
      rw [Dev.oznisRetransmit_none (d := s.dev.tick n) (List.find?_eq_none.mpr fun y hy hs => h y hy (Bool.and_eq_true_iff.mp hs).1)] at hre
      exact hre
    · rw [List.find?_eq_none] at h
      rw [Dev.ackTimeout_none (d := s.dev.tick n) (List.find?_eq_none.mpr fun y hy hs => h y hy (Bool.and_eq_true_iff.mp hs).1)] at hack
      exact hack
    · rw [Dev.ackTimeout_one (d := s.dev.tick n) (x := x) hu hlate hp hr] at hack
      exact hack
    · rw [Dev.ackTimeout_none (d := s.dev.tick n) (by rw [show (s.dev.tick n).units.unacked = [(o, x)] from hu]; simp [hr])] at hack
      exact hack
    · rw [Dev.oznisRetransmit_none (d := s.dev.tick n) (by rw [show (s.dev.tick n).units.unacked = [(o, x)] from hu]; simp [ha])] at hre
      exact hre
    · obtain ⟨hun, hseq⟩ := Dev.oznisRetransmit_one (d := s.dev.tick n) (x := x) hu hlate ha hp hup
      generalize (s.dev.tick n).oznisRetransmit k = f at *
      exact hre.with fun _ _ _ _ _ => ⟨hun, hseq, rfl⟩
    · obtain ⟨hsq, hcl, hloc⟩ := Dev.beaconSend_shows (d := s.dev.tick n) ha hf
      generalize (s.dev.tick n).beaconSend = f at *
      exact hbeacon.with fun _ _ _ _ _ => ⟨hsq, hcl, hloc, rfl⟩
    · rw [Dev.beaconSend_off (d := s.dev.tick n) h] at hbeacon
      exact hbeacon
    · have hends := devRow_ends s n (·.beaconReceived b)
      rw [exec_beaconReceived]
      have hbad : (s.dev.tick n).beaconBytes (b.take 24) ≠ b := by
        rw [Dev.tick_beaconBytes]
        exact hb
      have heq := Dev.beaconReceived_bad (d := s.dev.tick n) hf hlen hver hbad
      rw [heq] at hends
      exact hends
    · have hends := devRow_ends s n (·.beaconReceived b)
      rw [exec_beaconReceived]
      have hgood : (s.dev.tick n).beaconBytes (b.take 24) = b := by
        rw [Dev.tick_beaconBytes]
        exact hb
      obtain ⟨hlast, hhigh, hdown⟩ := Dev.beaconReceived_shows (d := s.dev.tick n) hf hlen hver hgood ht
      generalize (s.dev.tick n).beaconReceived b = f at *
      exact hends.with fun _ _ _ _ _ => ⟨hlast, hhigh, hdown, rfl⟩
    · have heq : (s.dev.tick n).twinBClaim = (s.dev.tick n).firstClaim.beaconSend :=
        Dev.twinBClaim_claims ht ((s.dev.tick_tim_lockedOnce n).trans hlk) hrun hh hat hpc hlb
      obtain ⟨hholder, hc, hepoch⟩ := Dev.firstClaim_seat (d := s.dev.tick n) hh ho
      have hseat := (s.dev.tick n).firstClaim.beaconSend_seat
      rw [heq] at hclaim
      rw [show (s.dev.tick n).twinId = 1 from ht] at hc
      generalize (s.dev.tick n).firstClaim.beaconSend = f at *
      rw [← hseat] at hholder hc hepoch
      exact hclaim.with fun _ _ _ _ _ => ⟨hholder, hc, hepoch, rfl⟩
    · rw [Dev.twinBClaim_early (d := s.dev.tick n) hat] at hclaim
      exact hclaim

end Sys2Proof.Machine

/-! The exchange of a commit between twins, and the end of probation (R737, R744, R799, R807, R809; O58). -/

namespace Sys2Proof.Machine

/-! Slots. -/

section
variable (d : Dev)

@[simp] theorem Dev.nvSlot_modSlotNv_same (w : Nat) (f : Slot → Slot) : (d.modSlotNv w f).nvSlot w = f (d.nvSlot w) := by
  by_cases h : w = 0 <;> simp [Dev.modSlotNv, Dev.nvSlot, h]

theorem Dev.nvSlot_modSlotNv_other {w : Nat} (hw : w < 2) (f : Slot → Slot) : (d.modSlotNv w f).nvSlot (1 - w) = d.nvSlot (1 - w) := by
  by_cases h : w = 0
  · simp [Dev.modSlotNv, Dev.nvSlot, h]
  · have h1 : 1 - w = 0 := by omega
    simp [Dev.modSlotNv, Dev.nvSlot, h, h1]

theorem Dev.modSlotNv_eq (w : Nat) (f : Slot → Slot) : ∃ x y, d.modSlotNv w f = { d with nv := { d.nv with slot0 := x, slot1 := y } } := by
  unfold Dev.modSlotNv
  split
  · exact ⟨_, d.nv.slot1, rfl⟩
  · exact ⟨d.nv.slot0, _, rfl⟩

theorem Dev.modSlotNv_txn (w : Nat) (f : Slot → Slot) : (d.modSlotNv w f).txn = d.txn := by
  obtain ⟨_, _, h⟩ := d.modSlotNv_eq w f
  rw [h]

theorem Dev.modSlotNv_high (w : Nat) (f : Slot → Slot) : (d.modSlotNv w f).nv.instarHigh = d.nv.instarHigh := by
  obtain ⟨_, _, h⟩ := d.modSlotNv_eq w f
  rw [h]

theorem Dev.otherSlot_lt : d.otherSlot < 2 := by
  unfold Dev.otherSlot
  split <;> omega

variable {d} in
theorem Dev.nvSlot_congr {e : Dev} (h : e.nv = d.nv) (w : Nat) : e.nvSlot w = d.nvSlot w := by rw [Dev.nvSlot, Dev.nvSlot, h]

/-! Results and refusals. -/

theorem Dev.txnResult_rd (c : Nat) : (d.txnResult c).rd Reg.TXN_RESULT = w32 c := Dev.rd_wr_same _ _ _

theorem Dev.txnRefuse_result (c : Nat) : (d.txnRefuse c).rd Reg.TXN_RESULT = w32 c := (Dev.rd_raise_ne _ _ (by decide)).trans (d.txnResult_rd c)

theorem Dev.txnRefuse_told (c : Nat) : (d.txnRefuse c).flag Reg.TXN_INT_STATUS 1 = true := Dev.flag_raise _ _ _ (by decide)

/-- The machine whose transaction is open again, with all that it holds. -/
def Dev.reopened : Dev := { d with txn := { d.txn with st := .opened, lastAt := d.tim.clk, loadReset := false } }

variable {d} in
theorem Dev.reopened_congr {e : Dev} (h : e.besideRecs = d.besideRecs) : e.reopened.besideRecs = d.reopened.besideRecs := (congrArg Dev.reopened h :)

/-- A refused commit leaves its transaction open again. -/
theorem Dev.commitRefuse_besideRecs (code sect rtype ofs : Nat) : (d.commitRefuse code sect rtype ofs).besideRecs = d.reopened.besideRecs := by
  have hopen (e : Dev) (h : e.besideRecs = d.besideRecs) : (e.reopened.txnRefuse code).besideRecs = d.reopened.besideRecs :=
    (show (e.reopened.txnRefuse code).besideRecs = e.reopened.besideRecs from rfl).trans (Dev.reopened_congr h)
  exact hopen _ (Dev.record_besideRecs _ _ _)

theorem Dev.commitRefuse_result (code sect rtype ofs : Nat) : (d.commitRefuse code sect rtype ofs).rd Reg.TXN_RESULT = w32 code := Dev.txnRefuse_result _ _

theorem Dev.commitRefuse_told (code sect rtype ofs : Nat) : (d.commitRefuse code sect rtype ofs).flag Reg.TXN_INT_STATUS 1 = true := Dev.txnRefuse_told _ _

theorem Dev.commitRefuse_txn (code sect rtype ofs : Nat) :
    (d.commitRefuse code sect rtype ofs).txn = { d.txn with st := .opened, lastAt := d.tim.clk, loadReset := false } :=
  (Dev.txn_of_recs (d.commitRefuse_besideRecs code sect rtype ofs) :)

theorem Dev.commitRefuse_nv (code sect rtype ofs : Nat) : (d.commitRefuse code sect rtype ofs).nv = d.nv :=
  (Dev.nv_of_recs (d.commitRefuse_besideRecs code sect rtype ofs) :)

/-- A commit rolled back: its slot is invalid, and the transaction is open again. -/
structure Dev.RolledBack (e : Dev) (code : Nat) : Prop where
  slot : (e.nvSlot d.otherSlot).st = 3
  high : e.nv.instarHigh = d.nv.instarHigh
  txn : e.txn = { d.txn with st := .opened, lastAt := d.tim.clk, loadReset := false }
  result : e.rd Reg.TXN_RESULT = w32 code
  told : e.flag Reg.TXN_INT_STATUS 1 = true

theorem Dev.slotRefuse_rolledBack (code : Nat) : d.RolledBack ((d.slotState d.otherSlot 3).commitRefuse code 0 0 0) code := by
  have htim : (d.slotState d.otherSlot 3).tim = d.tim := by
    obtain ⟨_, _, h⟩ := d.modSlotNv_eq d.otherSlot (fun x => { x with st := 3, gen := (x.gen + 1) % 2 ^ 32 })
    rw [Dev.slotState, h]
  refine ⟨?_, ?_, ?_, Dev.commitRefuse_result _ _ _ _ _, Dev.commitRefuse_told _ _ _ _ _⟩
  · rw [Dev.nvSlot_congr (Dev.commitRefuse_nv _ _ _ _ _), Dev.slotState, Dev.nvSlot_modSlotNv_same]
  · rw [Dev.commitRefuse_nv, Dev.slotState, Dev.modSlotNv_high]
  · rw [Dev.commitRefuse_txn, htim, Dev.slotState, Dev.modSlotNv_txn]

/-! The answers of the twin. -/

variable {d} {l : Nat} {b : Bytes}

/-- Is this frame the answer to the commit that is being prepared? -/
def Dev.answers (d : Dev) (p : Bytes) (phase : Nat) : Prop := d.txn.st = .preparing ∧ byteAt p 0 = phase ∧ beAt p 4 4 = (d.nvSlot d.otherSlot).instar

theorem Dev.answers_iff {p : Bytes} {phase : Nat} :
    (decide (d.txn.st = .preparing) && decide (byteAt p 0 = phase) && beAt p 4 4 == (d.nvSlot d.otherSlot).instar) = true ↔
    d.answers p phase := by simp [Dev.answers, and_assoc]

theorem Dev.txnAck_mine (h : ozValid b 5) (hm : (d.ozReceive l b).2.answers (ozLoad b) 2) : d.txnAck l b = (d.ozReceive l b).2.commitAccept := by
  generalize hr : (d.ozReceive l b).2 = r at *
  simp only [Dev.txnAck, Dev.ozReceive_yields h hr]
  exact if_pos (Dev.answers_iff.mpr hm)

theorem Dev.txnAck_other (h : ozValid b 5) (hm : ¬ (d.ozReceive l b).2.answers (ozLoad b) 2) : d.txnAck l b = (d.ozReceive l b).2 := by
  generalize hr : (d.ozReceive l b).2 = r at *
  simp only [Dev.txnAck, Dev.ozReceive_yields h hr]
  exact if_neg (mt Dev.answers_iff.mp hm)

theorem Dev.txnNak_mine (h : ozValid b 5) (hm : (d.ozReceive l b).2.answers (ozLoad b) 3) : d.txnNak l b = (d.ozReceive l b).2.twinNak := by
  generalize hr : (d.ozReceive l b).2 = r at *
  simp only [Dev.txnNak, Dev.ozReceive_yields h hr]
  exact if_pos (Dev.answers_iff.mpr hm)

theorem Dev.txnNak_other (h : ozValid b 5) (hm : ¬ (d.ozReceive l b).2.answers (ozLoad b) 3) : d.txnNak l b = (d.ozReceive l b).2 := by
  generalize hr : (d.ozReceive l b).2 = r at *
  simp only [Dev.txnNak, Dev.ozReceive_yields h hr]
  exact if_neg (mt Dev.answers_iff.mp hm)

theorem Dev.commitAccept_shows : d.commitAccept.txn = { d.txn with st := .scheduled } ∧
    d.commitAccept.nv = { d.nv with instarHigh := max d.nv.instarHigh (d.nvSlot d.otherSlot).instar } ∧ d.commitAccept.rd Reg.TXN_RESULT = w32 1 :=
  ⟨rfl, rfl, Dev.txnResult_rd _ 1⟩

/-! PREPARE and ABORT at the standby twin. -/

variable (d) in
/-- The machine that has agreed to a commit. -/
def Dev.agreed (chain elems : List (Nat × Bytes)) (instar bound : Nat) (hash : Bytes) : Dev :=
  let e := d.slotWrite chain instar
  ({ e with
    txn := { e.txn with st := .scheduled, boundary := bound, kind := commitKind elems, source := 2 }
    nv := { e.nv with instarHigh := max e.nv.instarHigh instar } } : Dev).txnFrame 2 instar bound hash

/-- Are the elements of a commit signed, but for host deltas? -/
def Dev.elemsSigned (d : Dev) (elems : List (Nat × Bytes)) : Bool :=
  elems.all (fun e => e.1 == 2 || (match d.cfgAuthority with | some pub => imgSigned pub e.2 | none => false))

theorem Dev.elemsSigned_iff {elems : List (Nat × Bytes)} :
    d.elemsSigned elems = true ↔ ∀ x ∈ elems, x.1 = 2 ∨ ∃ pub, d.cfgAuthority = some pub ∧ imgSigned pub x.2 = true := by
  unfold Dev.elemsSigned
  rw [List.all_eq_true]
  refine forall_congr' fun x => imp_congr_right fun _ => ?_
  cases d.cfgAuthority with
  | none => simp
  | some pub => simp

/-- The conditions under which the standby twin agrees to a PREPARE. -/
def Dev.agrees (d : Dev) (p : Bytes) (elems : List (Nat × Bytes)) (roots : Bool) : Prop :=
  d.txn.st = .idle ∧ roots = true ∧ (∀ x ∈ elems, x.1 = 2 ∨ ∃ pub, d.cfgAuthority = some pub ∧ imgSigned pub x.2 = true) ∧
  Config.sha256 (chainBytes (chainWith d.chainNow elems)) = (p.drop 16).take 32 ∧ d.nv.instarHigh < beAt p 4 4 ∧
  d.breaks (cfgChain (chainWith d.chainNow elems)) false = []

/-- Does an ABORT name the commit that the standby twin has agreed to? -/
def Dev.undoes (d : Dev) (p : Bytes) : Prop := d.txn.st = .scheduled ∧ d.txn.source = 2 ∧ (d.nvSlot d.otherSlot).instar = beAt p 4 4

variable {elems : List (Nat × Bytes)} {roots : Bool}

theorem Dev.txnPrepare_active (h : ozValid b 5) (ha : (d.ozReceive l b).2.activeTwin = true) : d.txnPrepare l b elems roots = (d.ozReceive l b).2 := by
  generalize hr : (d.ozReceive l b).2 = r at *
  simp only [Dev.txnPrepare, Dev.ozReceive_yields h hr]
  exact if_pos ha

theorem Dev.agrees_iff {p : Bytes} : (decide (d.txn.st = .idle) && roots && d.elemsSigned elems &&
      Config.sha256 (chainBytes (chainWith d.chainNow elems)) == (p.drop 16).take 32 && decide (d.nv.instarHigh < beAt p 4 4) &&
      (d.breaks (cfgChain (chainWith d.chainNow elems)) false).isEmpty) = true ↔ d.agrees p elems roots := by
  rw [Dev.agrees, ← Dev.elemsSigned_iff]
  simp [and_assoc]

theorem Dev.txnPrepare_prepare (h : ozValid b 5) (ha : (d.ozReceive l b).2.activeTwin = false) (hp : byteAt (ozLoad b) 0 = 1) {r : Dev}
    (hr : (d.ozReceive l b).2 = r) : d.txnPrepare l b elems roots =
      if (decide (r.txn.st = .idle) && roots && r.elemsSigned elems && Config.sha256 (chainBytes (chainWith r.chainNow elems)) == ((ozLoad b).drop 16).take 32 &&
        decide (r.nv.instarHigh < beAt (ozLoad b) 4 4) && (r.breaks (cfgChain (chainWith r.chainNow elems)) false).isEmpty) = true then
        r.agreed (chainWith r.chainNow elems) elems (beAt (ozLoad b) 4 4) (beAt (ozLoad b) 8 8) (((ozLoad b).drop 16).take 32)
      else r.txnFrame 3 (beAt (ozLoad b) 4 4) (beAt (ozLoad b) 8 8) (((ozLoad b).drop 16).take 32) := by
  rw [hr] at ha
  simp only [Dev.txnPrepare, Dev.ozReceive_yields h hr]
  refine (if_neg (by rw [ha]; decide)).trans ((if_pos hp).trans ?_)
  rfl

theorem Dev.txnPrepare_abort (h : ozValid b 5) (ha : (d.ozReceive l b).2.activeTwin = false) (hp : byteAt (ozLoad b) 0 = 4) {r : Dev}
    (hr : (d.ozReceive l b).2 = r) (hu : r.undoes (ozLoad b)) : d.txnPrepare l b elems roots = (r.slotState r.otherSlot 3).txnDiscard := by
  rw [hr] at ha
  obtain ⟨hst, hsrc, hins⟩ := hu
  simp only [Dev.txnPrepare, Dev.ozReceive_yields h hr]
  refine (if_neg (by rw [ha]; decide)).trans ((if_neg (by rw [hp]; decide)).trans (if_pos ?_))
  simp [hp, hst, hsrc, hins]

theorem Dev.txnPrepare_still (h : ozValid b 5) (ha : (d.ozReceive l b).2.activeTwin = false) (hp : byteAt (ozLoad b) 0 = 4) {r : Dev}
    (hr : (d.ozReceive l b).2 = r) (hu : ¬ r.undoes (ozLoad b)) : d.txnPrepare l b elems roots = r := by
  rw [hr] at ha
  simp only [Dev.txnPrepare, Dev.ozReceive_yields h hr]
  refine (if_neg (by rw [ha]; decide)).trans ((if_neg (by rw [hp]; decide)).trans (if_neg fun hc => hu ?_))
  simp only [Bool.and_eq_true, decide_eq_true_eq, beq_iff_eq] at hc
  obtain ⟨⟨⟨-, hst⟩, hsrc⟩, hins⟩ := hc
  exact ⟨hst, hsrc, hins⟩

theorem Dev.txnFrame_eq (phase instar bound : Nat) (hash : Bytes) : ∃ x y z, d.txnFrame phase instar bound hash =
    ({ d with units := { d.units with lane0 := x, lane1 := y } } : Dev).emit z := d.ozSend_eq _ _ _

theorem Dev.agreed_shows (chain : List (Nat × Bytes)) (instar bound : Nat) (hash : Bytes) :
    (d.agreed chain elems instar bound hash).txn = { d.txn with st := .scheduled, boundary := bound, kind := commitKind elems, source := 2 } ∧
    (d.agreed chain elems instar bound hash).nv.instarHigh = max d.nv.instarHigh instar ∧
    ((d.agreed chain elems instar bound hash).nvSlot d.otherSlot).st = 1 ∧ ((d.agreed chain elems instar bound hash).nvSlot d.otherSlot).instar = instar ∧
    ((d.agreed chain elems instar bound hash).nvSlot d.otherSlot).elems = chain := by
  have hslot : (d.slotWrite chain instar).nvSlot d.otherSlot =
      ⟨1, instar, ((d.nvSlot (1 - d.otherSlot)).gen + 1) % 2 ^ 32, chain, Config.sha256 (chainBytes chain)⟩ := Dev.nvSlot_modSlotNv_same _ _ _
  have htxn : (d.slotWrite chain instar).txn = d.txn := Dev.modSlotNv_txn _ _ _
  have hhigh : (d.slotWrite chain instar).nv.instarHigh = d.nv.instarHigh := Dev.modSlotNv_high _ _ _
  unfold Dev.agreed
  generalize d.slotWrite chain instar = e at *
  dsimp only
  obtain ⟨x, y, z, hf⟩ := Dev.txnFrame_eq (d := { e with
    txn := { e.txn with st := .scheduled, boundary := bound, kind := commitKind elems, source := 2 }
    nv := { e.nv with instarHigh := max e.nv.instarHigh instar } }) 2 instar bound hash
  rw [hf, ← htxn, ← hhigh]
  exact ⟨rfl, rfl, congrArg Slot.st hslot, congrArg Slot.instar hslot, congrArg Slot.elems hslot⟩

theorem Dev.slotUndone_shows : ((d.slotState d.otherSlot 3).txnDiscard.nvSlot d.otherSlot).st = 3 ∧
    (d.slotState d.otherSlot 3).txnDiscard.nvSlot (1 - d.otherSlot) = d.nvSlot (1 - d.otherSlot) ∧
    (d.slotState d.otherSlot 3).txnDiscard.txn.st = .idle ∧ (d.slotState d.otherSlot 3).txnDiscard.txn.cfg = d.txn.cfg := by
  have hsame := d.nvSlot_modSlotNv_same d.otherSlot (fun x => { x with st := 3, gen := (x.gen + 1) % 2 ^ 32 })
  have hother := d.nvSlot_modSlotNv_other d.otherSlot_lt (fun x => { x with st := 3, gen := (x.gen + 1) % 2 ^ 32 })
  have htxn := d.modSlotNv_txn d.otherSlot (fun x => { x with st := 3, gen := (x.gen + 1) % 2 ^ 32 })
  exact ⟨congrArg Slot.st hsame, hother, rfl, (congrArg Txn.cfg htxn :)⟩

/-! The time-out and the end of probation. -/

theorem Dev.prepareTimeout_early (h : ¬ (d.txn.st = .preparing ∧ d.txn.prepAt + ticksMs 50 ≤ d.tim.clk)) : d.prepareTimeout = d :=
  if_neg (by simpa using h)

theorem Dev.prepareTimeout_rolledBack (h : d.txn.st = .preparing ∧ d.txn.prepAt + ticksMs 50 ≤ d.tim.clk) : d.RolledBack d.prepareTimeout 28 := by
  have heq : d.prepareTimeout = (if d.ozUp then d.txnFrame 4 (d.nvSlot d.otherSlot).instar d.txn.boundary (d.nvSlot d.otherSlot).hash else d).twinNak :=
    if_pos (by simpa using h)
  rw [heq]
  split
  · obtain ⟨x, y, z, hf⟩ := d.txnFrame_eq 4 (d.nvSlot d.otherSlot).instar d.txn.boundary (d.nvSlot d.otherSlot).hash
    rw [hf]
    obtain ⟨hslot, hhigh, htxn, hres, htold⟩ := (({ d with units := { d.units with lane0 := x, lane1 := y } } : Dev).emit z).slotRefuse_rolledBack 28
    exact ⟨hslot, hhigh, htxn, hres, htold⟩
  · exact d.slotRefuse_rolledBack 28

theorem Dev.probationEnd_early (h : d.txn.probation ≠ some 0 ∨ d.txn.probWait = true ∨ d.txn.rollback ≠ none) : d.probationEnd = d := by
  refine if_neg fun hc => ?_
  simp only [Bool.and_eq_true, decide_eq_true_eq, Bool.not_eq_true', Option.isNone_iff_eq_none] at hc
  obtain ⟨⟨hprob, hwait⟩, hroll⟩ := hc
  obtain h | h | h := h
  · exact h hprob
  · rw [hwait] at h
    exact absurd h (by decide)
  · exact h hroll

/-- The machine that confirms a slot: its header, the result and the requests. -/
def Dev.slotConfirmed (d : Dev) (f : Nat) : Dev :=
  let e := (d.slotState f 2).txnResult 3
  { e with txn := { e.txn with confirmReq := false, stayed := false } }

theorem Dev.probationRecord_besideRecs (outcome cause : Nat) : (d.probationRecord outcome cause).besideRecs =
    ({ d with txn := { d.txn with probation := none, probWait := false, confirmReq := false, rollback := none } } : Dev).besideRecs :=
  (congrArg (fun f : Dev => { f with txn := { f.txn with probation := none, probWait := false, confirmReq := false, rollback := none } })
    (d.record_besideRecs 0x1403 (be 4 d.txn.instar ++ be 1 outcome ++ be 1 cause ++ zeros 2 ++ be 8 d.wbSeq)) :)

theorem Dev.probationRecord_rd (outcome cause : Nat) {a : Nat} (h : a ≠ Reg.REC_LOST_CNT) : (d.probationRecord outcome cause).rd a = d.rd a :=
  d.record_rd_ne _ _ h

theorem Dev.probationEnd_confirms {f : Nat} (hf : d.txn.inForce = some f) (hp : d.txn.probation = some 0) (hw : d.txn.probWait = false)
    (hr : d.txn.rollback = none) : d.probationEnd = ((d.slotConfirmed f).probationRecord 0 0).raise Reg.TXN_INT_STATUS 2 := by
  have heq : d.probationEnd = d.slotConfirm 0 := if_pos (by simp [hp, hw, hr])
  rw [heq]
  simp only [Dev.slotConfirm, hf, hp]
  rfl

theorem Dev.probationEnd_shows {f : Nat} (hf : d.txn.inForce = some f) (hp : d.txn.probation = some 0) (hw : d.txn.probWait = false)
    (hr : d.txn.rollback = none) : d.probationEnd.txn.probation = none ∧ (d.probationEnd.nvSlot f).st = 2 ∧ d.probationEnd.rd Reg.TXN_RESULT = w32 3 ∧
    d.probationEnd.flag Reg.TXN_INT_STATUS 2 = true ∧ d.probationEnd.txn.cfg = d.txn.cfg ∧ d.probationEnd.txn.inForce = some f := by
  have hslot : ((d.slotConfirmed f).nvSlot f).st = 2 := congrArg Slot.st (d.nvSlot_modSlotNv_same f (fun x => { x with st := 2, gen := (x.gen + 1) % 2 ^ 32 }))
  have htxn : (d.slotConfirmed f).txn = { d.txn with confirmReq := false, stayed := false } :=
    congrArg (fun x : Txn => { x with confirmReq := false, stayed := false }) (d.modSlotNv_txn f (fun x => { x with st := 2, gen := (x.gen + 1) % 2 ^ 32 }))
  have hres : (d.slotConfirmed f).rd Reg.TXN_RESULT = w32 3 := Dev.txnResult_rd _ 3
  rw [Dev.probationEnd_confirms hf hp hw hr]
  generalize d.slotConfirmed f = e at *
  have hbeside := e.probationRecord_besideRecs 0 0
  have hrd := e.probationRecord_rd 0 0 (show Reg.TXN_RESULT ≠ Reg.REC_LOST_CNT by decide)
  generalize e.probationRecord 0 0 = g at *
  have hg := Dev.txn_of_recs hbeside
  refine ⟨congrArg Txn.probation hg, ?_, ?_, Dev.flag_raise _ _ _ (by decide), ?_, ?_⟩
  · exact (congrArg Slot.st (Dev.nvSlot_congr (Dev.nv_of_recs hbeside) f)).trans hslot
  · exact (Dev.rd_raise_ne _ _ (by decide)).trans (hrd.trans hres)
  · exact (congrArg Txn.cfg hg :).trans (congrArg Txn.cfg htxn :)
  · exact ((congrArg Txn.inForce hg :).trans (congrArg Txn.inForce htxn :)).trans hf

end

/-! The statement. -/

/-- Settles O58: a frame by what it yields to the transaction, and the two times by their conditions. -/
theorem twinCommitsAndProbation : Obligations.TwinCommitsAndProbation := by
  refine ⟨fun s n l b hl hb => ?frames, fun s n => ?times⟩
  case frames =>
    intro e r p o mine
    have hrow (f : Dev → Dev) : Ends (devRow s n (decide (l < 2)) f) { s with dev := f e } := by
      rw [decide_eq_true hl]
      exact devRow_ends s n f
    have hack := hrow (·.txnAck l b)
    have hnak := hrow (·.txnNak l b)
    rw [exec_txnAck, exec_txnNak]
    refine ⟨fun hm => ?_, fun hm => ?_, fun hm => ?_, fun hm => ?_, fun elems roots => ⟨fun ha => ?_, fun ha hp => ?_, fun ha hp => ?_⟩⟩
    · rw [Dev.txnAck_mine (d := e) hb hm] at hack
      obtain ⟨htxn, hnv, hres⟩ := Dev.commitAccept_shows (d := (e.ozReceive l b).2)
      generalize (e.ozReceive l b).2.commitAccept = f at *
      exact hack.with fun _ _ _ _ _ => ⟨(congrArg Txn.st htxn :), (congrArg Txn.boundary htxn :), congrArg BitVec.toNat hres, (congrArg (·.instarHigh) hnv :),
        (congrArg Txn.cfg htxn :), rfl⟩
    · rw [Dev.txnAck_other (d := e) hb hm] at hack
      exact hack
    · rw [Dev.txnNak_mine (d := e) hb hm] at hnak
      obtain ⟨hslot, hhigh, htxn, hres, htold⟩ := (e.ozReceive l b).2.slotRefuse_rolledBack 28
      change Ends _ { s with dev := ((e.ozReceive l b).2.slotState (e.ozReceive l b).2.otherSlot 3).commitRefuse 28 0 0 0 } at hnak
      generalize ((e.ozReceive l b).2.slotState (e.ozReceive l b).2.otherSlot 3).commitRefuse 28 0 0 0 = f at *
      exact hnak.with fun _ _ _ _ _ => ⟨(congrArg Txn.st htxn :), congrArg BitVec.toNat hres, htold, hslot, hhigh, (congrArg Txn.cfg htxn :), rfl⟩
    · rw [Dev.txnNak_other (d := e) hb hm] at hnak
      exact hnak
    · have hends := hrow (·.txnPrepare l b elems roots)
      rw [Dev.txnPrepare_active (d := e) hb ha] at hends
      exact hends
    · have hends := hrow (·.txnPrepare l b elems roots)
      intro chain agreed
      rw [exec_txnPrepare]
      rw [Dev.txnPrepare_prepare (d := e) (r := r) hb ha hp rfl] at hends
      refine ⟨fun h => ?_, fun h => ?_⟩
      · rw [if_pos (Dev.agrees_iff.mpr h)] at hends
        obtain ⟨htxn, hhigh, hst, hins, hel⟩ := Dev.agreed_shows (d := r) (elems := elems) chain (beAt p 4 4) (beAt p 8 8) ((p.drop 16).take 32)
        obtain ⟨-, -, -, -, hlt, -⟩ := h
        rw [Nat.max_eq_right (Nat.le_of_lt hlt)] at hhigh
        generalize r.agreed chain elems (beAt p 4 4) (beAt p 8 8) ((p.drop 16).take 32) = f at *
        exact hends.with fun _ _ _ _ _ => ⟨(congrArg Txn.st htxn :), (congrArg Txn.boundary htxn :), (congrArg Txn.source htxn :), hst, hins, hel, hhigh,
          (congrArg Txn.cfg htxn :), rfl⟩
      · rw [if_neg (mt Dev.agrees_iff.mp h)] at hends
        obtain ⟨x, y, z, hf⟩ := r.txnFrame_eq 3 (beAt p 4 4) (beAt p 8 8) ((p.drop 16).take 32)
        rw [hf] at hends
        exact hends.with fun _ _ _ _ _ => ⟨rfl, rfl, rfl, rfl⟩
    · have hends := hrow (·.txnPrepare l b elems roots)
      intro undo
      rw [exec_txnPrepare]
      refine ⟨fun h => ?_, fun h => ?_⟩
      · rw [Dev.txnPrepare_abort (d := e) (r := r) hb ha hp rfl h] at hends
        obtain ⟨hslot, hother, hst, hcfg⟩ := Dev.slotUndone_shows (d := r)
        generalize (r.slotState r.otherSlot 3).txnDiscard = f at *
        exact hends.with fun _ _ _ _ _ => ⟨hst, hslot, hother, hcfg, rfl⟩
      · rw [Dev.txnPrepare_still (d := e) (r := r) hb ha hp rfl h] at hends
        exact hends
  case times =>
    intro e due
    have hprep := devRow_ends s n (·.prepareTimeout)
    have hprob := devRow_ends s n (·.probationEnd)
    rw [exec_twinPrepareTimeout, exec_probationEnd]
    refine ⟨fun h => ?_, fun h => ?_, fun h => ?_, fun f hf hp hw hr => ?_⟩
    · rw [Dev.prepareTimeout_early (d := s.dev.tick n) h] at hprep
      exact hprep
    · obtain ⟨hslot, hhigh, htxn, hres, htold⟩ := Dev.prepareTimeout_rolledBack (d := s.dev.tick n) h
      generalize (s.dev.tick n).prepareTimeout = f at *
      exact hprep.with fun _ _ _ _ _ => ⟨(congrArg Txn.st htxn :), congrArg BitVec.toNat hres, htold, hslot, (congrArg Txn.staging htxn :),
        (congrArg Txn.shadows htxn :), (congrArg Txn.cfg htxn :), rfl⟩
    · rw [Dev.probationEnd_early (d := s.dev.tick n) h] at hprob
      exact hprob
    · obtain ⟨hnone, hslot, hres, htold, hcfg, hin⟩ := Dev.probationEnd_shows (d := s.dev.tick n) hf hp hw hr
      generalize (s.dev.tick n).probationEnd = g at *
      exact hprob.with fun _ _ _ _ _ => ⟨hnone, hslot, congrArg BitVec.toNat hres, htold, hcfg, hin, rfl⟩

end Sys2Proof.Machine

/-! SAF_CLEAR and the proof of an alarm output (R757, R766, R774, R775, R779; O55). -/

namespace Sys2Proof.Machine

section
variable (d : Dev)

/-! The result of a proof. -/

theorem Dev.fld_of_rd {d e : Dev} {a : Nat} (h : e.rd a = d.rd a) (hi lo : Nat) : e.fld a hi lo = d.fld a hi lo := congrArg (bits · hi lo) h

/-- A record and an interrupt leave what SAF_PROOF_STATUS shows. -/
theorem Dev.proofTold_rd (typ k : Nat) (b : Bytes) : ((d.record typ b).raise Reg.SAF_INT_STATUS k).rd Reg.SAF_PROOF_STATUS = d.rd Reg.SAF_PROOF_STATUS :=
  (Dev.rd_raise_ne _ _ (by decide)).trans (d.record_rd_ne _ _ (by decide))

theorem Dev.proofResult_besideRecs (pin res : Nat) : (d.proofResult pin res).besideRecs = d.besideRecs := by simp [Dev.proofResult]

theorem Dev.proofResult_res (pin res : Nat) (h : res < 8) : (d.proofResult pin res).fld Reg.SAF_PROOF_STATUS 2 0 = res := by
  unfold Dev.proofResult
  rw [Dev.fld_of_rd (Dev.proofTold_rd _ _ _ _), Dev.fld_putF _ _ _ _ _ (by decide)]
  exact Nat.mod_eq_of_lt h

theorem Dev.proofResult_told (pin res : Nat) : (d.proofResult pin res).flag Reg.SAF_INT_STATUS 4 = true := Dev.flag_raise _ _ _ (by decide)

theorem Dev.saf_of_recs {d e : Dev} (h : e.besideRecs = d.besideRecs) : e.saf = d.saf := (congrArg Dev.saf h :)

/-! The start of a proof. -/

/-- The start of a proof at a pin, or its refusal. -/
def Dev.proofBegin (pin : Nat) : Dev :=
  if !d.running then (d.putF Reg.SAF_PROOF_STATUS 7 4 pin).proofResult pin 5
  else if d.saf.proof.isSome then d.proofResult pin 3
  else if (d.ao pin).alarm || d.pins.aoReleased.testBit pin then (d.putF Reg.SAF_PROOF_STATUS 7 4 pin).proofResult pin 4
  else { d.putF Reg.SAF_PROOF_STATUS 7 4 pin with saf := { d.saf with proof := some (pin, d.tim.clk, none) } }

theorem Dev.proofStart_eq {w : Word} {pin : Nat} (h8 : bit w 8 = true) (hp : bits w 3 0 = pin) : d.proofStart w = d.proofBegin pin := by
  rw [Dev.proofStart, hp, h8]
  rfl

variable {d} {pin : Nat}

theorem Dev.proofBegin_idle (h : d.running = false) : d.proofBegin pin = (d.putF Reg.SAF_PROOF_STATUS 7 4 pin).proofResult pin 5 := if_pos (by simp [h])

theorem Dev.proofBegin_busy (h : d.running = true) (hp : d.saf.proof ≠ none) : d.proofBegin pin = d.proofResult pin 3 :=
  (if_neg (by simp [h])).trans (if_pos (Option.isSome_iff_ne_none.mpr hp))

theorem Dev.proofBegin_alarm (h : d.running = true) (hp : d.saf.proof = none) (ha : (d.ao pin).alarm = true ∨ d.pins.aoReleased.testBit pin = true) :
    d.proofBegin pin = (d.putF Reg.SAF_PROOF_STATUS 7 4 pin).proofResult pin 4 :=
  (if_neg (by simp [h])).trans ((if_neg (by simp [hp])).trans (if_pos (by simpa using ha)))

theorem Dev.proofBegin_starts (h : d.running = true) (hp : d.saf.proof = none) (ha : (d.ao pin).alarm = false) (hr : d.pins.aoReleased.testBit pin = false) :
    d.proofBegin pin = { d.putF Reg.SAF_PROOF_STATUS 7 4 pin with saf := { d.saf with proof := some (pin, d.tim.clk, none) } } :=
  (if_neg (by simp [h])).trans ((if_neg (by simp [hp])).trans (if_neg (by simp [ha, hr])))

theorem Dev.proofBegin_keeps : (d.proofBegin pin).loc = d.loc ∧ (d.proofBegin pin).units = d.units ∧ (d.proofBegin pin).resetCtr = d.resetCtr := by
  have hres (e : Dev) (he : e.besideRecs = d.besideRecs) (r : Nat) : (e.proofResult pin r).loc = d.loc ∧ (e.proofResult pin r).units = d.units ∧
      (e.proofResult pin r).resetCtr = d.resetCtr := by
    have h := (e.proofResult_besideRecs pin r).trans he
    exact ⟨Dev.loc_of_recs h, Dev.units_of_recs h, Dev.resetCtr_of_recs h⟩
  unfold Dev.proofBegin
  split
  · exact hres (d.putF Reg.SAF_PROOF_STATUS 7 4 pin) rfl 5
  split
  · exact hres d rfl 3
  split
  · exact hres (d.putF Reg.SAF_PROOF_STATUS 7 4 pin) rfl 4
  · exact ⟨rfl, rfl, rfl⟩

theorem safProofCtl_row : regAt Reg.SAF_PROOF_CTL = some ⟨0x440024, [], .wo, 0x0, 0x10F, 0x10F, []⟩ := by decide +kernel
theorem safClear_row : regAt Reg.SAF_CLEAR = some ⟨0x440030, [], .wo, 0x0, 0x1, 0x1, []⟩ := by decide +kernel

theorem Dev.regAct_safProofCtl (d : Dev) (i : Iface) (v : Word) : d.regAct i Reg.SAF_PROOF_CTL v = d.proofStart v := by
  rw [regAct_eq]
  rfl

theorem Dev.regAct_safClear (d : Dev) (i : Iface) (v : Word) : d.regAct i Reg.SAF_CLEAR v = d.safClear v := by
  rw [regAct_eq]
  rfl

theorem proofStart_ends {s : State} {n : Nat} {i : Iface} {v : Word} (h : s.canWrite i Reg.SAF_PROOF_CTL) :
    Ends (exec (.proofStart n i v) s) { s with dev := (s.dev.tick n).proofBegin (bits v 3 0) } := by
  rw [exec_proofStart]
  refine hostRow_masked (m := 0x10F) h safProofCtl_row (.inr (.inl rfl)) ⟨rfl, rfl⟩ (by decide) (fun w hw => ?_) (Dev.proofBegin_keeps (d := s.dev.tick n)).2.2
  have hpin : bits w 3 0 = bits v 3 0 := by
    refine bits_eq_of_bit _ _ _ _ fun k _ hk => (hw k (by omega) ?_).trans ?_
    · obtain rfl | rfl | rfl | rfl : k = 0 ∨ k = 1 ∨ k = 2 ∨ k = 3 := by omega
      all_goals decide
    · rw [bit_setBits _ _ _ _ _ (by decide), if_neg (by omega)]
  have hstart : bit w 8 = true := by
    rw [hw 8 (by decide) (by decide), bit_setBits _ _ _ _ _ (by decide)]
    rfl
  rw [Dev.regAct_safProofCtl]
  exact Dev.proofStart_eq _ hstart hpin

theorem safClear_ends {s : State} {n : Nat} {i : Iface} {v : Word} (h : s.canWrite i Reg.SAF_CLEAR) :
    Ends (exec (.safClear n i v) s) { s with dev := (s.dev.tick n).safClear v } := by
  rw [exec_safClear]
  refine hostRow_masked (m := 1) h safClear_row (.inr (.inl rfl)) ⟨rfl, rfl⟩ (by decide) (fun w hw => ?_) ?_
  · have h0 : w.getLsbD 0 = v.getLsbD 0 := hw 0 (by decide) (by decide)
    rw [Dev.regAct_safClear, Dev.safClear, h0]
    rfl
  · unfold Dev.safClear
    split <;> rfl

/-! The samples of a proof. -/

variable {c : Nat} {level : Bool}

variable (d) in
/-- The pulse of a proof in ticks. -/
def Dev.proofPulse : Nat := ticksUs (d.fld Reg.SAF_PROOF_CFG 9 0)

theorem Dev.proofSample_none (h : d.saf.proof = none) : d.proofSample level = d := by simp only [Dev.proofSample, h]

theorem Dev.proofSample_first (h : d.saf.proof = some (pin, c, none)) : d.proofSample level =
    if c + d.proofPulse / 2 ≤ d.tim.clk then
      if (d.ao pin).alarm then d.proofEnd pin 6 else { d with saf := { d.saf with proof := some (pin, c, some (!level)) } }
    else d := by
  simp only [Dev.proofSample, h]
  rfl

variable (d pin) in
/-- The machine that has stored a passed proof with its second. -/
def Dev.proofPassed : Dev := { d with nv := { d.nv with proofSec := tput d.nv.proofSec pin d.sec } }

theorem Dev.proofSample_second {ok : Bool} (h : d.saf.proof = some (pin, c, some ok)) : d.proofSample level =
    if c + d.proofPulse + d.proofPulse / 2 ≤ d.tim.clk then
      if ((d.ao pin).alarm && decide ((d.ao pin).since ≤ c + d.proofPulse)) = true then d.proofEnd pin 6
      else if (ok && level == d.aoLevel pin) = true then (d.proofPassed pin).proofEnd pin 1
      else (d.aoFail pin level).proofEnd pin 2
    else d := by
  simp only [Dev.proofSample, h]
  rfl

variable (d) in
/-- The machine without the proof that ran. -/
def Dev.proofOver : Dev := { d with saf := { d.saf with proof := none } }

theorem Dev.proofEnd_besideRecs (res : Nat) : (d.proofEnd pin res).besideRecs = d.proofOver.besideRecs := d.proofOver.proofResult_besideRecs pin res

theorem Dev.proofEnd_shows (res : Nat) (h : res < 8) : (d.proofEnd pin res).saf = { d.saf with proof := none } ∧ (d.proofEnd pin res).nv = d.nv ∧
    (d.proofEnd pin res).fld Reg.SAF_PROOF_STATUS 2 0 = res ∧ (d.proofEnd pin res).flag Reg.SAF_INT_STATUS 4 = true :=
  ⟨(Dev.saf_of_recs (Dev.proofEnd_besideRecs res) :), (Dev.nv_of_recs (Dev.proofEnd_besideRecs res) :), Dev.proofResult_res _ pin res h,
    Dev.proofResult_told _ pin res⟩

variable (d pin) in
/-- The machine with the readback fault of a pin set. -/
def Dev.aoFaulted : Dev := { d with saf := { d.saf with aoFault := d.saf.aoFault ||| 2 ^ pin } }

/-- A failed readback sets the fault of its pin, and leaves the nonvolatile store. -/
theorem Dev.aoFail_shows : (d.aoFail pin level).saf.aoFault.testBit pin = true ∧ (d.aoFail pin level).nv = d.nv := by
  have hset (e : Dev) (he : e.saf.aoFault.testBit pin = true ∧ e.nv = d.nv) :
      (if e.aoSafety pin then e.aoRelease (2 ^ pin) else e).saf.aoFault.testBit pin = true ∧ (if e.aoSafety pin then e.aoRelease (2 ^ pin) else e).nv = d.nv := by
    split
    · exact he
    · exact he
  unfold Dev.aoFail
  refine hset _ ?_
  split
  · exact ⟨‹_›, rfl⟩
  · have hrecs (b : Bytes) : (((d.aoFaulted pin).record 0x1305 b).raise Reg.SAF_INT_STATUS 3).besideRecs = (d.aoFaulted pin).besideRecs := by
      rw [Dev.raise_besideRecs, Dev.record_besideRecs]
    refine ⟨(congrArg (fun x => x.aoFault.testBit pin) (Dev.saf_of_recs (hrecs _)) :).trans ?_, (Dev.nv_of_recs (hrecs _) :)⟩
    simp [Dev.aoFaulted, Nat.testBit_or, Nat.testBit_two_pow_self]

end

/-! The statement. -/

/-- Settles O55: the writes act by their masked bits, and a sample by its time and the alarm of its pin. -/
theorem safetyProofs : Obligations.SafetyProofs := by
  refine ⟨fun s n i v h => ?clear, fun s n i v h => ?start, fun s n pin c level first hproof => ?sample, fun s n hproof level => ?none, fun s n => ?due⟩
  case clear =>
    have hends := safClear_ends (n := n) (v := v) h
    refine ⟨fun h0 hb => ?_, fun hoff => ?_⟩
    · have heq : (s.dev.tick n).safClear v = { s.dev.tick n with saf := { s.dev.saf with clearDet := true, clearWide := true } } :=
        if_pos (Bool.and_eq_true_iff.mpr ⟨h0, bne_iff_ne.mpr hb⟩)
      rw [heq] at hends
      exact hends
    · have heq : (s.dev.tick n).safClear v = s.dev.tick n := by
        refine if_neg fun hc => ?_
        obtain ⟨h0, hb⟩ := Bool.and_eq_true_iff.mp hc
        obtain hoff | hoff := hoff
        · exact absurd (hoff.symm.trans h0) (by decide)
        · exact bne_iff_ne.mp hb hoff
      rw [heq] at hends
      exact hends
  case start =>
    intro pin
    have hends := proofStart_ends (n := n) (v := v) h
    obtain ⟨hloc, hunits, -⟩ := Dev.proofBegin_keeps (d := s.dev.tick n) (pin := pin)
    have hshows (e : Dev) (he : e.besideRecs = (s.dev.tick n).besideRecs) (r : Nat) (hr : r < 8) :
        (e.proofResult pin r).fld Reg.SAF_PROOF_STATUS 2 0 = r ∧ (e.proofResult pin r).saf = s.dev.saf ∧ (e.proofResult pin r).flag Reg.SAF_INT_STATUS 4 = true :=
      ⟨e.proofResult_res pin r hr, (Dev.saf_of_recs ((e.proofResult_besideRecs pin r).trans he) :), e.proofResult_told pin r⟩
    have hidle : s.dev.running = false → ((s.dev.tick n).proofBegin pin).fld Reg.SAF_PROOF_STATUS 2 0 = 5 ∧ ((s.dev.tick n).proofBegin pin).saf = s.dev.saf ∧
        ((s.dev.tick n).proofBegin pin).flag Reg.SAF_INT_STATUS 4 = true := fun hr => by
      rw [Dev.proofBegin_idle (d := s.dev.tick n) hr]
      exact hshows ((s.dev.tick n).putF Reg.SAF_PROOF_STATUS 7 4 pin) rfl 5 (by decide)
    have hbusy : s.dev.running = true → s.dev.saf.proof ≠ none → ((s.dev.tick n).proofBegin pin).fld Reg.SAF_PROOF_STATUS 2 0 = 3 ∧
        ((s.dev.tick n).proofBegin pin).saf = s.dev.saf ∧ ((s.dev.tick n).proofBegin pin).flag Reg.SAF_INT_STATUS 4 = true := fun hr hp => by
      rw [Dev.proofBegin_busy (d := s.dev.tick n) hr hp]
      exact hshows (s.dev.tick n) rfl 3 (by decide)
    have halarm : s.dev.running = true → s.dev.saf.proof = none → ((s.dev.ao pin).alarm = true ∨ s.dev.pins.aoReleased.testBit pin = true) →
        ((s.dev.tick n).proofBegin pin).fld Reg.SAF_PROOF_STATUS 2 0 = 4 ∧ ((s.dev.tick n).proofBegin pin).saf = s.dev.saf := fun hr hp ha => by
      rw [Dev.proofBegin_alarm (d := s.dev.tick n) hr hp ha]
      obtain ⟨hres, hsaf, -⟩ := hshows ((s.dev.tick n).putF Reg.SAF_PROOF_STATUS 7 4 pin) rfl 4 (by decide)
      exact ⟨hres, hsaf⟩
    have hstart : s.dev.running = true → s.dev.saf.proof = none → (s.dev.ao pin).alarm = false → s.dev.pins.aoReleased.testBit pin = false →
        ((s.dev.tick n).proofBegin pin).saf = { s.dev.saf with proof := some (pin, max s.dev.tim.clk n, none) } ∧
        ((s.dev.tick n).proofBegin pin).fld Reg.SAF_PROOF_STATUS 7 4 = pin := fun hr hp ha hrel => by
      rw [Dev.proofBegin_starts (d := s.dev.tick n) hr hp ha hrel, Dev.tick_clk]
      refine ⟨rfl, ((s.dev.tick n).fld_putF Reg.SAF_PROOF_STATUS 7 4 pin (by decide)).trans (Nat.mod_eq_of_lt ?_)⟩
      exact bits_lt v 3 0
    generalize (s.dev.tick n).proofBegin pin = f at *
    exact hends.with fun _ _ _ _ _ => ⟨hidle, hbusy, halarm, hstart, hloc, hunits, rfl⟩
  case sample =>
    intro e pulse
    have hends := devRow_ends s n (·.proofSample level)
    rw [exec_proofSample]
    refine ⟨fun hf hc => ?_, fun hf hc ha => ?_, fun hf hc ha => ?_, fun ok hf hc => ?_, fun ok hf hc ha hs => ?_, fun ok hf hc ha => ?_⟩
    · subst hf
      rw [Dev.proofSample_first (d := s.dev.tick n) hproof, if_neg (show ¬ c + (s.dev.tick n).proofPulse / 2 ≤ (s.dev.tick n).tim.clk from Nat.not_le.mpr hc)] at hends
      exact hends
    · subst hf
      rw [Dev.proofSample_first (d := s.dev.tick n) hproof, if_pos (show c + (s.dev.tick n).proofPulse / 2 ≤ (s.dev.tick n).tim.clk from hc),
        if_neg (show ¬ ((s.dev.tick n).ao pin).alarm = true from Bool.eq_false_iff.mp ha)] at hends
      exact hends
    · subst hf
      rw [Dev.proofSample_first (d := s.dev.tick n) hproof, if_pos (show c + (s.dev.tick n).proofPulse / 2 ≤ (s.dev.tick n).tim.clk from hc),
        if_pos (show ((s.dev.tick n).ao pin).alarm = true from ha)] at hends
      obtain ⟨hsaf, -, hres, -⟩ := Dev.proofEnd_shows (d := s.dev.tick n) (pin := pin) 6 (by decide)
      generalize (s.dev.tick n).proofEnd pin 6 = f at *
      exact hends.with fun _ _ _ _ _ => ⟨congrArg Safety.proof hsaf, hres, rfl⟩
    · subst hf
      rw [Dev.proofSample_second (d := s.dev.tick n) hproof,
        if_neg (show ¬ c + (s.dev.tick n).proofPulse + (s.dev.tick n).proofPulse / 2 ≤ (s.dev.tick n).tim.clk from Nat.not_le.mpr hc)] at hends
      exact hends
    · subst hf
      rw [Dev.proofSample_second (d := s.dev.tick n) hproof,
        if_pos (show c + (s.dev.tick n).proofPulse + (s.dev.tick n).proofPulse / 2 ≤ (s.dev.tick n).tim.clk from hc),
        if_pos (show (((s.dev.tick n).ao pin).alarm && decide (((s.dev.tick n).ao pin).since ≤ c + (s.dev.tick n).proofPulse)) = true from
          Bool.and_eq_true_iff.mpr ⟨ha, decide_eq_true hs⟩)] at hends
      obtain ⟨hsaf, -, hres, -⟩ := Dev.proofEnd_shows (d := s.dev.tick n) (pin := pin) 6 (by decide)
      generalize (s.dev.tick n).proofEnd pin 6 = f at *
      exact hends.with fun _ _ _ _ _ => ⟨congrArg Safety.proof hsaf, hres, rfl⟩
    · subst hf
      have halarm : ((s.dev.tick n).ao pin).alarm = false := ha
      rw [Dev.proofSample_second (d := s.dev.tick n) hproof,
        if_pos (show c + (s.dev.tick n).proofPulse + (s.dev.tick n).proofPulse / 2 ≤ (s.dev.tick n).tim.clk from hc),
        halarm, if_neg (by rw [Bool.false_and]; decide)] at hends
      by_cases hgood : (ok && level == (s.dev.tick n).aoLevel pin) = true
      · rw [if_pos hgood] at hends
        obtain ⟨hok, hlev⟩ := Bool.and_eq_true_iff.mp hgood
        obtain ⟨hsaf, hnv, hres, htold⟩ := Dev.proofEnd_shows (d := (s.dev.tick n).proofPassed pin) (pin := pin) 1 (by decide)
        generalize ((s.dev.tick n).proofPassed pin).proofEnd pin 1 = f at *
        refine hends.with fun _ _ _ _ _ => ⟨(congrArg Safety.proof hsaf :), htold,
          fun _ _ => ⟨hres, (congrArg NvDie.proofSec hnv :), (congrArg Safety.aoFault hsaf :)⟩, fun h => ?_, rfl⟩
        obtain h | h := h
        · exact absurd (h.symm.trans hok) (by decide)
        · exact absurd (beq_iff_eq.mp hlev) h
      · rw [if_neg hgood] at hends
        obtain ⟨hfault, hnv'⟩ := Dev.aoFail_shows (d := s.dev.tick n) (pin := pin) (level := level)
        generalize (s.dev.tick n).aoFail pin level = g at *
        obtain ⟨hsaf, hnv, hres, htold⟩ := Dev.proofEnd_shows (d := g) (pin := pin) 2 (by decide)
        generalize g.proofEnd pin 2 = f at *
        have haf : f.saf.aoFault.testBit pin = true := (congrArg (fun x => x.aoFault.testBit pin) hsaf).trans hfault
        exact hends.with fun _ _ _ _ _ => ⟨congrArg Safety.proof hsaf, htold, fun hok hlev => absurd (Bool.and_eq_true_iff.mpr ⟨hok, beq_iff_eq.mpr hlev⟩) hgood,
          fun _ => ⟨hres, haf, hnv.trans hnv'⟩, rfl⟩
  case none =>
    have hends := devRow_ends s n (·.proofSample level)
    rw [exec_proofSample]
    rw [Dev.proofSample_none (d := s.dev.tick n) hproof] at hends
    exact hends
  case due =>
    have hends := devRow_ends s n (·.proofDueEvent)
    rw [exec_proofDue]
    refine ⟨fun h => ?_, fun h => ?_⟩
    · rw [Dev.proofDueEvent, if_pos h] at hends
      exact hends
    · rw [Dev.proofDueEvent, if_neg (Bool.eq_false_iff.mp h)] at hends
      exact hends

end Sys2Proof.Machine

/-! TXN_CMD: what each OP does, and its refusals (R788, R797, R799, R809, R813, R814; O56). -/

namespace Sys2Proof.Machine

/-! A write of TXN_CMD. -/

/-- A command that stands for a register write ends with the machine that its row makes. -/
theorem hostRow_done {s : State} {t : Nat} {i : Iface} {a : Nat} {v : Word} {r : RegRow} {d : Dev} (h : s.canWrite i a) (ha : a ≠ Reg.GLB_CTL)
    (hr : regAt a = some r) (hw : (s.dev.tick t).rowWrite r i a v = (0, d)) (hc : d.resetCtr = s.dev.resetCtr) :
    hostRow s t true i a v = doneS s { s with dev := d } := by
  have hwrite := write_granted (s := s.at t) v ((at_canWrite s t i a).mpr h) ha hr
  simp only [State.at_dev, hw, if_true, Dev.tick_resetCtr, hc, State.at_ctl] at hwrite
  simp only [hostRow, if_true, hwrite]
  rfl

/-- Once a cause of roll-back is noted, the watch of probation changes nothing. -/
theorem probWatch_noted {d : Dev} (old : Dev) (h : d.txn.rollback.isSome = true) : d.probWatch old = d := by
  have hstep (b : Bool) (c : Nat) : d.troubleIf b c = d := by
    unfold Dev.troubleIf Dev.trouble
    split
    · rfl
    · exact if_neg (by simp [Option.isSome_iff_ne_none.mp h])
  simp only [Dev.probWatch, hstep]

section
variable (d : Dev) (i : Iface)

/-- The machine but for its registers and its transaction. -/
def Dev.besideTrans : Dev := { d with regs := [], hw := ⟨0, []⟩, txn := State.reset.dev.txn }

/-- The machine in whose open transaction the owner has made itself heard. -/
def Dev.touched : Dev := if d.txn.st = .opened then d.txnTouch else d

/-- What the OPs of an owner do. -/
def Dev.txnDo (op : Nat) : Dev :=
  if op = 2 then d.txnCommit false
  else if op = 3 then d.txnRollback
  else if op = 4 then d.txnLoadImage
  else if op = 5 then d.txnClear
  else if op = 6 then d.txnConfirm
  else if op = 7 then d.txnRevert i
  else d.txnCommit true

/-- TXN_CMD by its OP and its RESUME. -/
def Dev.txnOp (op : Nat) (resume : Bool) : Dev :=
  if op = 0 || 8 < op then d.txnRefuse 37
  else if op = 1 then d.txnBegin i resume
  else if d.txn.st != .idle && !(d.txn.owner == some i) then d.txnRefuse 17
  else d.touched.txnDo i op

theorem Dev.txnCmd_eq (v : Word) : d.txnCmd i v = d.txnOp i (bits v 3 0) (bit v 4) := rfl

/-! What each OP leaves. -/

theorem Dev.touched_besideTrans : d.touched.besideTrans = d.besideTrans := by
  unfold Dev.touched
  split <;> rfl

theorem Dev.txnCommit_besideTrans (load : Bool) : (d.txnCommit load).besideTrans = d.besideTrans := by
  unfold Dev.txnCommit
  split
  · rfl
  split
  · rfl
  split
  · rfl
  · rfl

theorem Dev.txnRollback_besideTrans : d.txnRollback.besideTrans = d.besideTrans := by
  unfold Dev.txnRollback
  split <;> rfl

theorem Dev.txnLoadImage_besideTrans : d.txnLoadImage.besideTrans = d.besideTrans := by
  unfold Dev.txnLoadImage
  dsimp only
  split
  · rfl
  split
  · rfl
  split
  · rfl
  · rfl

theorem Dev.txnClear_besideTrans : d.txnClear.besideTrans = d.besideTrans := by
  unfold Dev.txnClear
  split <;> rfl

theorem Dev.txnConfirm_besideTrans : d.txnConfirm.besideTrans = d.besideTrans := by
  unfold Dev.txnConfirm
  split <;> rfl

theorem Dev.txnRevert_besideTrans : (d.txnRevert i).besideTrans = d.besideTrans := by
  unfold Dev.txnRevert
  dsimp only
  split
  · rfl
  split
  · split <;> rfl
  split
  · rfl
  · rfl

theorem Dev.txnDo_besideTrans (op : Nat) : (d.txnDo i op).besideTrans = d.besideTrans := by
  unfold Dev.txnDo
  split
  · exact d.txnCommit_besideTrans false
  split
  · exact d.txnRollback_besideTrans
  split
  · exact d.txnLoadImage_besideTrans
  split
  · exact d.txnClear_besideTrans
  split
  · exact d.txnConfirm_besideTrans
  split
  · exact d.txnRevert_besideTrans i
  · exact d.txnCommit_besideTrans true

theorem Dev.txnOp_besideTrans (op : Nat) (resume : Bool) : (d.txnOp i op resume).besideTrans = d.besideTrans := by
  unfold Dev.txnOp
  split
  · rfl
  split
  · unfold Dev.txnBegin
    split
    · rfl
    split
    · rfl
    · rfl
  split
  · rfl
  · rw [Dev.txnDo_besideTrans, Dev.touched_besideTrans]

end

theorem txnCmd_row : regAt Reg.TXN_CMD = some ⟨0x10004, [], .wo, 0x0, 0x1F, 0x1F, []⟩ := by decide +kernel

theorem Dev.regAct_txnCmd (d : Dev) (i : Iface) (v : Word) : d.regAct i Reg.TXN_CMD v = d.txnCmd i v := by
  rw [regAct_eq]
  rfl

/-- A granted write of TXN_CMD. -/
theorem txnCmd_done {s : State} {n : Nat} {i : Iface} {v : Word} (h : s.canWrite i Reg.TXN_CMD) : hostRow s n true i Reg.TXN_CMD v =
    doneS s { s with dev := (s.dev.tick n).txnOp i (bits v 3 0) (bit v 4) } := by
  have hm (old : Word) : (⟨0x10004, [], .wo, 0x0, 0x1F, 0x1F, []⟩ : RegRow).merge old v = ((old &&& ~~~ w32 0x1F) ||| (v &&& w32 0x1F), false) := by
    simp [RegRow.merge]
  have hw := rowWrite_act (d := s.dev.tick n) (i := i) (v := v) (r := ⟨0x10004, [], .wo, 0x0, 0x1F, 0x1F, []⟩) (.inr (.inl rfl)) (hm _)
    (a := Reg.TXN_CMD) (by decide) (by decide) (by decide)
  have hint : intVector Reg.TXN_CMD = none := by decide +kernel
  have hop (old : Word) : bits ((old &&& ~~~ w32 0x1F) ||| (v &&& w32 0x1F)) 3 0 = bits v 3 0 := by
    refine bits_held old v fun k _ hk => ⟨by omega, ?_⟩
    obtain rfl | rfl | rfl | rfl : k = 0 ∨ k = 1 ∨ k = 2 ∨ k = 3 := by omega
    all_goals decide
  have hres (old : Word) : bit ((old &&& ~~~ w32 0x1F) ||| (v &&& w32 0x1F)) 4 = bit v 4 := (bit_held _ v 0x1F (by decide)).trans (if_pos (by decide))
  rw [Dev.regAct_txnCmd, Dev.txnCmd_eq, hop, hres, Dev.intAgain, hint] at hw
  refine hostRow_done h (by decide) txnCmd_row hw ?_
  exact (congrArg Dev.resetCtr ((s.dev.tick n).txnOp_besideTrans i (bits v 3 0) (bit v 4)) :)

/-! Refusals and outcomes. -/

section
variable {d e : Dev} {i : Iface}

/-- A refusal: RESULT and its interrupt, and nothing of the transaction but the time of its owner's last word. -/
structure Dev.Refuses (d e : Dev) (code : Nat) : Prop where
  result : e.rd Reg.TXN_RESULT = w32 code
  told : e.flag Reg.TXN_INT_STATUS 1 = true
  txn : ∃ c, e.txn = { d.txn with lastAt := c }
  rest : e.besideTrans = d.besideTrans

theorem Dev.touched_eq : ∃ c, d.touched = { d with txn := { d.txn with lastAt := c } } := by
  unfold Dev.touched
  split
  · exact ⟨d.tim.clk, rfl⟩
  · exact ⟨d.txn.lastAt, rfl⟩

theorem Dev.txnRefuse_refuses (code : Nat) : d.Refuses (d.txnRefuse code) code := ⟨d.txnRefuse_result code, d.txnRefuse_told code, ⟨d.txn.lastAt, rfl⟩, rfl⟩

theorem Dev.touched_refuses (code : Nat) : d.Refuses (d.touched.txnRefuse code) code := by
  obtain ⟨c, h⟩ := d.touched_eq
  rw [h]
  exact ⟨Dev.txnRefuse_result _ code, Dev.txnRefuse_told _ code, ⟨c, rfl⟩, rfl⟩

variable (d i) in
/-- Is the transaction free for an interface? -/
def Dev.txnMine : Prop := d.txn.st = .idle ∨ d.txn.owner = some i

theorem Dev.txnOp_bad {op : Nat} {r : Bool} (h : op = 0 ∨ 8 < op) : d.txnOp i op r = d.txnRefuse 37 := if_pos (by simpa using h)

theorem Dev.txnOp_begin (r : Bool) : d.txnOp i 1 r = d.txnBegin i r := rfl

theorem Dev.txnOp_foreign {op : Nat} {r : Bool} (hop : 1 < op ∧ op ≤ 8) (hs : d.txn.st ≠ .idle) (ho : d.txn.owner ≠ some i) : d.txnOp i op r = d.txnRefuse 17 := by
  rw [Dev.txnOp, if_neg (by simp; omega), if_neg (by omega), if_pos (by simp [hs, ho])]

theorem Dev.txnOp_mine {op : Nat} {r : Bool} (hop : 1 < op ∧ op ≤ 8) (h : d.txnMine i) : d.txnOp i op r = d.touched.txnDo i op := by
  rw [Dev.txnOp, if_neg (by simp; omega), if_neg (by omega), if_neg (by obtain h | h := h <;> simp [h])]

/-- The owner's OPs that ask for an open transaction. -/
theorem Dev.txnDo_notOpen {op : Nat} (hop : op = 2 ∨ op = 3 ∨ op = 4 ∨ op = 5 ∨ op = 8) (h : d.txn.st ≠ .opened) : d.touched.txnDo i op = d.txnRefuse 16 := by
  have ht : d.touched = d := if_neg h
  rw [ht]
  obtain rfl | rfl | rfl | rfl | rfl := hop
  · exact if_pos (bne_iff_ne.mpr h)
  · exact if_neg h
  · exact if_pos (bne_iff_ne.mpr h)
  · exact if_neg h
  · exact if_pos (bne_iff_ne.mpr h)

theorem Dev.touched_open (h : d.txn.st = .opened) : d.touched = d.txnTouch := if_pos h

/-- COMMIT of an open transaction, and LOAD_RESET. -/
theorem Dev.txnCommit_open (load : Bool) (h : d.txn.st = .opened) : d.txnCommit load =
    if d.txn.probation.isSome then d.txnRefuse 27
    else if d.txn.staging = [] && d.txn.shadows = [] && d.txn.windows = [] then d.txnRefuse 34
    else ({ d with txn := { d.txn with st := .validating, loadReset := load } } : Dev).txnResult 0 := if_neg (by simp [h])

theorem Dev.staged_none (hs : d.txn.staging = []) (hsh : d.txn.shadows = []) (hw : d.txn.windows = []) :
    (decide (d.txn.staging = []) && decide (d.txn.shadows = []) && decide (d.txn.windows = [])) = true := by simp [hs, hsh, hw]

theorem Dev.staged_some (h : d.txn.staging ≠ [] ∨ d.txn.shadows ≠ [] ∨ d.txn.windows ≠ []) :
    ¬ (decide (d.txn.staging = []) && decide (d.txn.shadows = []) && decide (d.txn.windows = [])) = true := by
  simp only [Bool.and_eq_true, decide_eq_true_eq]
  rintro ⟨⟨hs, hsh⟩, hw⟩
  obtain h | h | h := h
  · exact h hs
  · exact h hsh
  · exact h hw

theorem Dev.txnLoadImage_large (h : d.txn.st = .opened) (hl : 8388608 < d.fld Reg.TXN_IMG_LEN 23 0) : d.txnLoadImage = d.txnRefuse 25 :=
  (if_neg (by simp [h])).trans (if_pos hl)

theorem Dev.txnLoadImage_loads (h : d.txn.st = .opened) (hl : d.fld Reg.TXN_IMG_LEN 23 0 ≤ 8388608) (hd : d.dma = true) : d.txnLoadImage =
    ({ d with txn := { d.txn with
      staging := d.dmaRead (d.rd64 Reg.TXN_IMG_BASE_LO Reg.TXN_IMG_BASE_HI) (d.fld Reg.TXN_IMG_LEN 23 0) } } : Dev).txnTouch.txnResult 0 :=
  (if_neg (by simp [h])).trans ((if_neg (Nat.not_lt.mpr hl)).trans (if_pos hd))

theorem Dev.txnConfirm_eq (d : Dev) : d.txnConfirm =
    { d with txn := { d.txn with confirmReq := d.txn.confirmReq || d.txn.probation.isSome || d.txn.stayed } } := by
  unfold Dev.txnConfirm
  split
  case isTrue h =>
    have hreq : (d.txn.confirmReq || d.txn.probation.isSome || d.txn.stayed) = true := by rw [Bool.or_assoc, h, Bool.or_true]
    rw [hreq]
  case isFalse h =>
    have hreq : (d.txn.confirmReq || d.txn.probation.isSome || d.txn.stayed) = d.txn.confirmReq := by rw [Bool.or_assoc, Bool.eq_false_iff.mpr h, Bool.or_false]
    rw [hreq]

/-! BEGIN. -/

variable (d i) in
/-- A transaction opened for an interface. -/
def Dev.txnOpened : Dev := { d.txnDiscard with
  txn := { d.txnDiscard.txn with st := .opened, owner := some i, lastAt := d.tim.clk, timeout := d.fld Reg.TXN_TIMEOUT 11 0 } }

variable (d i) in
/-- A restored transaction taken by an interface. -/
def Dev.txnTaken : Dev := { d with txn := { d.txn with owner := some i, lastAt := d.tim.clk, timeout := d.fld Reg.TXN_TIMEOUT 11 0 } }

theorem Dev.txnBegin_idle {r : Bool} (h : d.txn.st = .idle) : d.txnBegin i r = (d.txnOpened i).txnResult 0 := if_pos h

theorem Dev.txnBegin_takes {r : Bool} (h : d.txn.st ≠ .idle) (hr : d.txn.restored = true) (ho : d.txn.owner = none) (hv : r = true) :
    d.txnBegin i r = (d.txnTaken i).txnResult 0 := (if_neg h).trans (if_pos (by simp [hr, ho, hv]))

theorem Dev.txnBegin_busy {r : Bool} (h : d.txn.st ≠ .idle) (hr : d.txn.restored = false ∨ d.txn.owner ≠ none ∨ r = false) :
    d.txnBegin i r = d.txnRefuse 17 := by
  refine (if_neg h).trans (if_neg fun hc => ?_)
  simp only [Bool.and_eq_true, Option.isNone_iff_eq_none] at hc
  obtain ⟨⟨hres, hown⟩, hv⟩ := hc
  obtain hr | hr | hr := hr
  · exact absurd (hr.symm.trans hres) (by decide)
  · exact hr hown
  · exact absurd (hr.symm.trans hv) (by decide)

/-! REVERT. -/

theorem Dev.txnRevert_none (h : d.txn.inForce = none) : d.txnRevert i = d.txnRefuse 36 := if_pos (by simp [h])

theorem Dev.otherSlot_some {f : Nat} (h : d.txn.inForce = some f) : d.otherSlot = 1 - f := by rw [Dev.otherSlot, h]

/-- REVERT with a slot in force, in probation and outside it. -/
theorem Dev.txnRevert_some {f : Nat} (h : d.txn.inForce = some f) : d.txnRevert i =
    if d.txn.probation.isSome then
      if d.qualifies (1 - f) then { d with txn := { d.txn with rollback := some (d.txn.rollback.getD 8) } } else d.txnRefuse 36
    else if (d.nvSlot (1 - f)).st = 2 then { d with txn := { d.txn with revertReq := true, source := if i = .spi then 1 else 0 } }
    else d.txnRefuse 36 := by
  rw [Dev.txnRevert, Dev.otherSlot_some h]
  exact if_neg (by simp [h])

end

/-! The statement. -/

/-- A command of TXN_CMD ends with what its OP does. -/
theorem txnCmd_ends {s : State} {n : Nat} {i : Iface} {v : Word} (h : s.canWrite i Reg.TXN_CMD) {k : Nat} (hk : k < 16) :
    Ends (hostRow s n true i Reg.TXN_CMD (setBits v 3 0 k)) { s with dev := (s.dev.tick n).txnOp i k (bit v 4) } := by
  have hop : bits (setBits v 3 0 k) 3 0 = k := (bits_setBits v 3 0 k (by decide)).trans (Nat.mod_eq_of_lt hk)
  have hres : bit (setBits v 3 0 k) 4 = bit v 4 := (bit_setBits v 3 0 k 4 (by decide)).trans (if_neg (by decide))
  rw [txnCmd_done h, hop, hres]
  exact Ends.of_doneS s _

/-- REVERT in probation keeps the cause of roll-back that it notes. -/
theorem txnRevert_rolls {s : State} {n : Nat} {i : Iface} {v : Word} (h : s.canWrite i Reg.TXN_CMD) {e : Dev} (he : (s.dev.tick n).txnOp i 7 (bit v 4) = e)
    (hr : e.txn.rollback.isSome = true) : ∃ u p m x, exec (.txnRevert n i v) s = .next { s with dev := e.ended e.txn.rollback u p m x } := by
  have hop : bits (setBits v 3 0 7) 3 0 = 7 := bits_setBits v 3 0 7 (by decide)
  have hres : bit (setBits v 3 0 7) 4 = bit v 4 := (bit_setBits v 3 0 7 4 (by decide)).trans (if_neg (by decide))
  obtain ⟨u, p, m, x, hset⟩ := settle_eq e
  rw [exec_txnRevert, txnCmd_done h, hop, hres, he, doneS, probWatch_noted _ hr, hset]
  exact ⟨u, p, m, x, rfl⟩

/-- Settles O56: each OP by the machine that it leaves, and each refusal by `Dev.Refuses`. -/
theorem transactionCommands : Obligations.TransactionCommands := by
  intro s n i v hw x keeps held no ok c l r m k
  have hcmd (op : Nat) (hop : op < 16) := txnCmd_ends (n := n) (v := v) hw hop
  have hC : Ends c { s with dev := (s.dev.tick n).txnOp i 2 (bit v 4) } := hcmd 2 (by decide)
  have hR : Ends r { s with dev := (s.dev.tick n).txnOp i 3 (bit v 4) } := hcmd 3 (by decide)
  have hM : Ends m { s with dev := (s.dev.tick n).txnOp i 4 (bit v 4) } := hcmd 4 (by decide)
  have hK : Ends k { s with dev := (s.dev.tick n).txnOp i 5 (bit v 4) } := hcmd 5 (by decide)
  have hL : Ends l { s with dev := (s.dev.tick n).txnOp i 8 (bit v 4) } := hcmd 8 (by decide)
  have hF : Ends (exec (.txnConfirm n i v) s) { s with dev := (s.dev.tick n).txnOp i 6 (bit v 4) } := hcmd 6 (by decide)
  have hV : Ends (exec (.txnRevert n i v) s) { s with dev := (s.dev.tick n).txnOp i 7 (bit v 4) } := hcmd 7 (by decide)
  have hB : Ends (exec (.txnBegin n i v) s) { s with dev := (s.dev.tick n).txnOp i 1 (bit v 4) } := hcmd 1 (by decide)
  have hno (o : Host.Outcome State Fault Refusal) (code : Nat) (hc : code < 2 ^ 32) (e f : Dev) (hf : e = f) (href : (s.dev.tick n).Refuses f code)
      (ho : Ends o { s with dev := e }) : EndsWith o (no code) := by
    subst hf
    obtain ⟨hres, htold, ⟨a, htxn⟩, hrest⟩ := href
    have hcode : e.rdN Reg.TXN_RESULT = code := by
      rw [Dev.rdN, hres]
      exact Nat.mod_eq_of_lt hc
    exact ho.with fun _ _ _ _ _ => ⟨hcode, htold, (congrArg Txn.st htxn :), (congrArg Txn.owner htxn :), (congrArg Txn.confirmReq htxn :),
      (congrArg Txn.revertReq htxn :), ⟨(congrArg Txn.staging htxn :), (congrArg Txn.shadows htxn :), (congrArg Txn.windows htxn :)⟩,
      (congrArg Txn.cfg htxn :), (congrArg Txn.inForce htxn :), (congrArg Txn.probation htxn :), (congrArg Dev.nv hrest :), (congrArg Dev.loc hrest :), rfl⟩
  have hzero (e : Dev) : (e.txnResult 0).rdN Reg.TXN_RESULT = 0 := congrArg BitVec.toNat (e.txnResult_rd 0)
  have hop {op : Nat} {b : Bool} (h : 1 < op ∧ op ≤ 8) (hmine : x.st = .idle ∨ x.owner = some i) :
      (s.dev.tick n).txnOp i op b = (s.dev.tick n).touched.txnDo i op := Dev.txnOp_mine h hmine
  refine ⟨fun h => ?opens, fun h hr ho hv => ?takes, fun h hr => ?busy, fun h => ?bad, fun h ho o hmem => ?foreign, fun h hmine o hmem => ?closed,
    fun h ho => ?owner, fun hmine => ?requests⟩
  case opens =>
    rw [Dev.txnOp_begin, Dev.txnBegin_idle (d := s.dev.tick n) h] at hB
    exact hB.with fun _ _ _ _ _ => ⟨rfl, rfl, rfl, rfl, rfl, s.dev.tick_clk n, rfl, hzero _, rfl, rfl, rfl, rfl, rfl, rfl⟩
  case takes =>
    rw [Dev.txnOp_begin, Dev.txnBegin_takes (d := s.dev.tick n) h hr ho hv] at hB
    exact hB.with fun _ _ _ _ _ => ⟨rfl, rfl, ⟨rfl, rfl, rfl⟩, hzero _, rfl, rfl, rfl, rfl, rfl, rfl⟩
  case busy => exact hno _ 17 (by decide) _ _ (Dev.txnBegin_busy (d := s.dev.tick n) h hr) (Dev.txnRefuse_refuses 17) hB
  case bad =>
    have hok : (decide (v.toNat % 16 = 0) || decide (8 < v.toNat % 16)) = true := by simpa [bits] using h
    have hends : Ends (exec (.txnBadOp n i v) s) { s with dev := (s.dev.tick n).txnOp i (bits v 3 0) (bit v 4) } := by
      rw [exec_txnBadOp, hok, txnCmd_done hw]
      exact Ends.of_doneS s _
    exact hno _ 37 (by decide) _ _ (Dev.txnOp_bad h) (Dev.txnRefuse_refuses 37) hends
  case foreign =>
    have hforeign {op : Nat} (hop : 1 < op ∧ op ≤ 8) (ho' : Ends o { s with dev := (s.dev.tick n).txnOp i op (bit v 4) }) : EndsWith o (no 17) :=
      hno o 17 (by decide) _ _ (Dev.txnOp_foreign (d := s.dev.tick n) hop h ho) (Dev.txnRefuse_refuses 17) ho'
    simp only [List.mem_cons, List.not_mem_nil, or_false] at hmem
    obtain rfl | rfl | rfl | rfl | rfl | rfl | rfl := hmem
    · exact hforeign (by decide) hC
    · exact hforeign (by decide) hL
    · exact hforeign (by decide) hR
    · exact hforeign (by decide) hM
    · exact hforeign (by decide) hK
    · exact hforeign (by decide) hF
    · exact hforeign (by decide) hV
  case closed =>
    have hclosed {op : Nat} (hk : op = 2 ∨ op = 3 ∨ op = 4 ∨ op = 5 ∨ op = 8) (ho' : Ends o { s with dev := (s.dev.tick n).txnOp i op (bit v 4) }) :
        EndsWith o (no 16) :=
      hno o 16 (by decide) _ _ ((hop (by omega) hmine).trans (Dev.txnDo_notOpen (d := s.dev.tick n) hk h)) (Dev.txnRefuse_refuses 16) ho'
    simp only [List.mem_cons, List.not_mem_nil, or_false] at hmem
    obtain rfl | rfl | rfl | rfl | rfl := hmem
    · exact hclosed (by decide) hC
    · exact hclosed (by decide) hL
    · exact hclosed (by decide) hR
    · exact hclosed (by decide) hM
    · exact hclosed (by decide) hK
  case owner =>
    have htouch : (s.dev.tick n).touched = (s.dev.tick n).txnTouch := Dev.touched_open (d := s.dev.tick n) h
    have hrefuse (code : Nat) : (s.dev.tick n).Refuses ((s.dev.tick n).txnTouch.txnRefuse code) code := htouch ▸ Dev.touched_refuses code
    have hcommit (load : Bool) := Dev.txnCommit_open (d := (s.dev.tick n).txnTouch) load h
    rw [hop (by decide) (.inr ho), htouch] at hC hL hR hK hM
    change Ends c { s with dev := (s.dev.tick n).txnTouch.txnCommit false } at hC
    change Ends l { s with dev := (s.dev.tick n).txnTouch.txnCommit true } at hL
    refine ⟨fun hp o hmem => ?_, fun hp hs hsh hwi o hmem => ?_, fun hp hfull => ⟨?_, ?_⟩, ?_, ?_, fun hlen => ?_, fun hlen hdma => ?_⟩
    · have hprob (load : Bool) : (s.dev.tick n).txnTouch.txnCommit load = (s.dev.tick n).txnTouch.txnRefuse 27 := (hcommit load).trans (if_pos hp)
      simp only [List.mem_cons, List.not_mem_nil, or_false] at hmem
      obtain rfl | rfl := hmem
      · exact hno _ 27 (by decide) _ _ (hprob false) (hrefuse 27) hC
      · exact hno _ 27 (by decide) _ _ (hprob true) (hrefuse 27) hL
    · have hempty (load : Bool) : (s.dev.tick n).txnTouch.txnCommit load = (s.dev.tick n).txnTouch.txnRefuse 34 :=
        (hcommit load).trans ((if_neg (by rw [show (s.dev.tick n).txnTouch.txn.probation = none from hp]; decide)).trans
          (if_pos (Dev.staged_none hs hsh hwi)))
      simp only [List.mem_cons, List.not_mem_nil, or_false] at hmem
      obtain rfl | rfl := hmem
      · exact hno _ 34 (by decide) _ _ (hempty false) (hrefuse 34) hC
      · exact hno _ 34 (by decide) _ _ (hempty true) (hrefuse 34) hL
    · have hstart := (hcommit false).trans ((if_neg (by rw [show (s.dev.tick n).txnTouch.txn.probation = none from hp]; decide)).trans
        (if_neg (Dev.staged_some hfull)))
      rw [hstart] at hC
      exact hC.with fun _ _ _ _ _ => ⟨rfl, rfl, ho, ⟨rfl, rfl, rfl⟩, hzero _, rfl, rfl, rfl, rfl, rfl, rfl⟩
    · have hstart := (hcommit true).trans ((if_neg (by rw [show (s.dev.tick n).txnTouch.txn.probation = none from hp]; decide)).trans
        (if_neg (Dev.staged_some hfull)))
      rw [hstart] at hL
      exact hL.with fun _ _ _ _ _ => ⟨rfl, rfl, ho, ⟨rfl, rfl, rfl⟩, hzero _, rfl, rfl, rfl, rfl, rfl, rfl⟩
    · have hroll : (s.dev.tick n).txnTouch.txnDo i 3 = (s.dev.tick n).txnTouch.txnDiscard.txnResult 0 := if_pos h
      rw [hroll] at hR
      exact hR.with fun _ _ _ _ _ => ⟨rfl, rfl, rfl, rfl, rfl, hzero _, rfl, rfl, rfl, rfl, rfl, rfl⟩
    · have hclear : (s.dev.tick n).txnTouch.txnDo i 5 =
          ({ (s.dev.tick n).txnTouch with txn := { (s.dev.tick n).txnTouch.txn with staging := [] } } : Dev).txnTouch.txnResult 0 := if_pos h
      rw [hclear] at hK
      exact hK.with fun _ _ _ _ _ => ⟨h, ho, rfl, rfl, rfl, hzero _, rfl, rfl, rfl, rfl, rfl, rfl⟩
    · exact hno _ 25 (by decide) _ _ (Dev.txnLoadImage_large (d := (s.dev.tick n).txnTouch) h hlen) (hrefuse 25) hM
    · have hload := Dev.txnLoadImage_loads (d := (s.dev.tick n).txnTouch) h hlen hdma
      change Ends m { s with dev := (s.dev.tick n).txnTouch.txnLoadImage } at hM
      rw [hload] at hM
      exact hM.with fun _ _ _ _ _ => ⟨h, ho, rfl, rfl, hzero _, rfl, rfl, rfl, rfl, rfl, rfl⟩
  case requests =>
    have htxn : ∃ a, (s.dev.tick n).touched = { s.dev.tick n with txn := { s.dev.txn with lastAt := a } } := Dev.touched_eq
    obtain ⟨a, htouch⟩ := htxn
    have hdo := hop (op := 7) (b := bit v 4) (by decide) hmine
    change _ = (s.dev.tick n).touched.txnRevert i at hdo
    have hrefuse : (s.dev.tick n).Refuses ((s.dev.tick n).touched.txnRefuse 36) 36 := Dev.touched_refuses 36
    rw [htouch] at hdo hrefuse
    have hrev {f : Nat} (hf : x.inForce = some f) := Dev.txnRevert_some (d := { s.dev.tick n with txn := { s.dev.txn with lastAt := a } }) (i := i) hf
    refine ⟨?_, fun hf => ?_, fun f hf => ⟨fun hp hg => ?_, fun hp hst => ?_, fun hbad => ?_⟩⟩
    · rw [hop (by decide) hmine, htouch] at hF
      have hconf : ({ s.dev.tick n with txn := { s.dev.txn with lastAt := a } } : Dev).txnDo i 6 =
          { s.dev.tick n with txn := { s.dev.txn with
            lastAt := a, confirmReq := s.dev.txn.confirmReq || s.dev.txn.probation.isSome || s.dev.txn.stayed } } := Dev.txnConfirm_eq _
      rw [hconf] at hF
      exact hF.with fun _ _ _ _ _ => ⟨rfl, rfl, ⟨rfl, rfl, rfl⟩, rfl, rfl, rfl, rfl, rfl, rfl⟩
    · exact hno _ 36 (by decide) _ _ (hdo.trans (Dev.txnRevert_none hf)) hrefuse hV
    · have hsome := (hdo.trans (hrev hf)).trans ((if_pos hp).trans (if_pos hg))
      obtain ⟨u, p, q, y, heq⟩ := txnRevert_rolls hw hsome rfl
      exact ⟨_, heq, rfl, rfl, ⟨rfl, rfl, rfl⟩, rfl, rfl, rfl, rfl, rfl, rfl⟩
    · have hsome := (hdo.trans (hrev hf)).trans ((if_neg (by rw [show x.probation = none from hp]; decide)).trans (if_pos hst))
      rw [hsome] at hV
      exact hV.with fun _ _ _ _ _ => ⟨rfl, rfl, ⟨rfl, rfl, rfl⟩, rfl, rfl, rfl, rfl, rfl, rfl⟩
    · refine hno _ 36 (by decide) _ _ ((hdo.trans (hrev hf)).trans ?_) hrefuse hV
      obtain ⟨hp, hg⟩ | ⟨hp, hst⟩ := hbad
      · exact (if_pos hp).trans (if_neg (Bool.eq_false_iff.mp hg))
      · exact (if_neg (by rw [show x.probation = none from hp]; decide)).trans (if_neg hst)

end Sys2Proof.Machine

/-! Shadow writes, the staging port, the time-out, validation and the store of a commit (R797 to R803, R813; O57). -/

namespace Sys2Proof.Machine

/-! The staging port (R798, R813). -/

section
variable {d : Dev} {i : Iface}

theorem txnImgWdata_row : regAt Reg.TXN_IMG_WDATA = some ⟨0x1003C, [], .wo, 0x0, 0xFFFFFFFF, 0xFFFFFFFF, []⟩ := by decide +kernel

theorem Dev.regAct_txnImgWdata (d : Dev) (i : Iface) (v : Word) : d.regAct i Reg.TXN_IMG_WDATA v = d.imgWdata i v := by
  rw [regAct_eq]
  rfl

theorem Dev.imgWdata_besideTrans (v : Word) : (d.imgWdata i v).besideTrans = d.besideTrans := by
  unfold Dev.imgWdata
  split
  · rfl
  split
  · rfl
  split
  · rfl
  · rfl

/-- A word of which every bit is that of another is that word. -/
theorem word_eq_of_bit {w v : Word} (h : ∀ k < 32, bit w k = bit v k) : w = v := BitVec.eq_of_getLsbD_eq fun k hk => h k hk

theorem imgWdata_ends {s : State} {n : Nat} {v : Word} (h : s.canWrite i Reg.TXN_IMG_WDATA) :
    Ends (exec (.txnImgWdata n i v) s) { s with dev := (s.dev.tick n).imgWdata i v } := by
  rw [exec_txnImgWdata]
  refine hostRow_masked (m := 0xFFFFFFFF) h txnImgWdata_row (.inr (.inl rfl)) ⟨rfl, rfl⟩ (by decide) (fun w hw => ?_) ?_
  · have hmask : ∀ k < 32, (0xFFFFFFFF : Nat).testBit k = true := by decide
    rw [Dev.regAct_txnImgWdata, word_eq_of_bit fun k hk => hw k hk (hmask k hk)]
  · exact (congrArg Dev.resetCtr (Dev.imgWdata_besideTrans (d := s.dev.tick n) v) :)

theorem Dev.imgWdata_closed {v : Word} (h : d.txn.st ≠ .opened) : d.imgWdata i v = d.txnRefuse 16 := if_pos (bne_iff_ne.mpr h)

theorem Dev.imgWdata_foreign {v : Word} (h : d.txn.st = .opened) (ho : d.txn.owner ≠ some i) : d.imgWdata i v = d.txnRefuse 17 :=
  (if_neg (by simp [h])).trans (if_pos (bne_iff_ne.mpr ho))

theorem Dev.imgWdata_large {v : Word} (h : d.txn.st = .opened) (ho : d.txn.owner = some i) (hl : 8388608 < d.txn.staging.length + 4) :
    d.imgWdata i v = d.txnRefuse 25 := (if_neg (by simp [h])).trans ((if_neg (by simp [ho])).trans (if_pos hl))

theorem Dev.imgWdata_appends {v : Word} (h : d.txn.st = .opened) (ho : d.txn.owner = some i) (hl : d.txn.staging.length + 4 ≤ 8388608) :
    d.imgWdata i v = ({ d with txn := { d.txn with staging := d.txn.staging ++ be 4 v.toNat } } : Dev).txnTouch :=
  (if_neg (by simp [h])).trans ((if_neg (by simp [ho])).trans (if_neg (Nat.not_lt.mpr hl)))

/-! A shadow (R797, R798). -/

theorem txnProbation_row : regAt Reg.TXN_PROBATION = some ⟨0x10014, [], .rws, 0x258, 0xFFFF, 0x0, []⟩ := by decide +kernel

theorem Dev.rwsRefused_none (h : d.txn.st = .opened) (ho : d.txn.owner = some i) (hd : d.device = none ∨ d.hostRws = true) : d.rwsRefused i = none := by
  unfold Dev.rwsRefused
  rw [if_neg (by obtain hd | hd := hd <;> simp [hd]), if_neg (by simp [h, ho])]

variable (d) in
/-- The machine of an owner with a first shadow. -/
def Dev.shadowed (a : Nat) (v : Word) : Dev := ({ d with txn := { d.txn with shadows := d.txn.shadows ++ [(a, v)] } } : Dev).txnTouch

theorem Dev.shadowWrite_first {a : Nat} {v : Word} (hs : d.txn.shadows = []) (hw : d.txn.windows = []) :
    d.shadowWrite a v = d.shadowed a (v &&& w32 (rwsMask a)) := by
  have hlen : d.deltaLen = 0 := by simp [Dev.deltaLen, hs, hw, sumN]
  unfold Dev.shadowWrite
  dsimp only
  rw [if_neg (by simp [hs]), hlen, if_neg (by decide)]
  rfl

theorem probationMask (v : Word) : v &&& w32 (rwsMask Reg.TXN_PROBATION) = w32 (bits v 15 0) := by
  have hmask : rwsMask Reg.TXN_PROBATION = 0xFFFF := by decide +kernel
  rw [hmask]
  refine word_eq_of_bit fun k hk => ?_
  simp only [bit, w32, BitVec.getLsbD_and, BitVec.getLsbD_ofNat, bits]
  simp only [hk, decide_true, Bool.true_and, Nat.shiftRight_zero]
  rw [Nat.testBit_mod_two_pow, BitVec.testBit_toNat, show (0xFFFF : Nat) = 2 ^ 16 - 1 by decide, Nat.testBit_two_pow_sub_one, Bool.and_comm]

/-- A granted write of TXN_PROBATION by the owner of an open transaction that holds no shadow. -/
theorem probationWrite_ends {s : State} {n : Nat} {v : Word} (h : s.canWrite i Reg.TXN_PROBATION) (hst : s.dev.txn.st = .opened) (ho : s.dev.txn.owner = some i)
    (hd : s.dev.device = none ∨ s.dev.hostRws = true) (hs : s.dev.txn.shadows = []) (hw : s.dev.txn.windows = []) :
    Ends (exec (.registerWrite n i 15 Reg.TXN_PROBATION v) s) { s with dev := (s.dev.tick n).shadowed Reg.TXN_PROBATION (w32 (bits v 15 0)) } := by
  rw [exec_registerWrite_word _ _ _ _ (by decide)]
  have hact : (s.dev.tick n).actRws Reg.TXN_PROBATION v = s.dev.tick n := by
    rw [Dev.actRws, if_neg (by decide), if_neg (by decide), if_neg (by decide)]
  have hwin : (s.dev.tick n).windowOf Reg.TXN_PROBATION = none := rfl
  have hrow : (s.dev.tick n).rowWrite ⟨0x10014, [], .rws, 0x258, 0xFFFF, 0x0, []⟩ i Reg.TXN_PROBATION v =
      (0, (s.dev.tick n).shadowed Reg.TXN_PROBATION (w32 (bits v 15 0))) := by
    simp only [Dev.rowWrite, Dev.rwsWrite, hact, Dev.rwsRefused_none (d := s.dev.tick n) hst ho hd, hwin]
    rw [Dev.shadowWrite_first (d := s.dev.tick n) hs hw, probationMask]
  exact hostRow_ends h (by decide) txnProbation_row hrow rfl

end

section
variable {d : Dev}

/-! The time-out and the end of validation (R799, R801, R802). -/

theorem Dev.txnExpire_late (h : d.txn.st = .opened ∧ d.txn.owner ≠ none ∧ d.txn.lastAt + ticksSec d.txn.timeout ≤ d.tim.clk) :
    d.txnExpire = (d.txnDiscard.txnResult 32).raise Reg.TXN_INT_STATUS 4 := by
  obtain ⟨hst, hown, hlate⟩ := h
  exact if_pos (by simp [hst, hlate, Option.isSome_iff_ne_none, hown])

theorem Dev.txnExpire_early (h : ¬ (d.txn.st = .opened ∧ d.txn.owner ≠ none ∧ d.txn.lastAt + ticksSec d.txn.timeout ≤ d.tim.clk)) : d.txnExpire = d := by
  refine if_neg fun hc => h ?_
  simp only [Bool.and_eq_true, decide_eq_true_eq, Option.isSome_iff_ne_none] at hc
  obtain ⟨⟨hst, hown⟩, hlate⟩ := hc
  exact ⟨hst, hown, hlate⟩

theorem Dev.txnValidated_still (h : d.txn.st ≠ .validating ∨ d.pfHeld = true) : d.txnValidated = d := by
  refine if_pos ?_
  obtain h | h := h <;> simp [h]

theorem Dev.txnValidated_eq (h : d.txn.st = .validating) (hp : d.pfHeld = false) : d.txnValidated =
    match d.commitCheck with
    | some (c, a, b, o) => d.commitRefuse c a b o
    | none => ({ d with txn := { d.txn with st := .storing } } : Dev).modSlotNv d.otherSlot (fun x => { x with st := 0, instar := d.newInstar }) :=
  if_neg (by simp [h, hp])

variable (d) in
/-- The machine that stores a commit: the slot not in force is invalid meanwhile. -/
def Dev.storeStarted : Dev := ({ d with txn := { d.txn with st := .storing } } : Dev).modSlotNv d.otherSlot (fun x => { x with st := 0, instar := d.newInstar })

theorem Dev.storeStarted_shows : d.storeStarted.txn = { d.txn with st := .storing } ∧ (d.storeStarted.nvSlot d.otherSlot).st = 0 ∧
    d.storeStarted.nvSlot (1 - d.otherSlot) = d.nvSlot (1 - d.otherSlot) :=
  ⟨Dev.modSlotNv_txn _ _ _, congrArg Slot.st (Dev.nvSlot_modSlotNv_same _ _ _), Dev.nvSlot_modSlotNv_other _ d.otherSlot_lt _⟩

/-! The end of the store (R799, R802, R803). -/

theorem Dev.txnStoreEnd_still {good : Bool} (h : d.txn.st ≠ .storing) : d.txnStoreEnd good = d := by
  have hstored : d.txnStored good = (0, d) := if_pos (bne_iff_ne.mpr h)
  rw [Dev.txnStoreEnd, hstored]
  rfl

theorem Dev.txnStoreEnd_fails (h : d.txn.st = .storing) : d.txnStoreEnd false = d.commitRefuse 30 0 0 0 := by
  have hstored : d.txnStored false = (0, d.commitRefuse 30 0 0 0) := (if_neg (by simp [h])).trans (if_pos rfl)
  rw [Dev.txnStoreEnd, hstored]
  rfl

variable (d) in
/-- The machine whose commit lies in its slot, with its kind and its source. -/
def Dev.stored : Dev :=
  let e := d.slotWrite (chainWith d.chainNow d.newElems) d.newInstar
  { e with txn := { e.txn with kind := commitKind d.newElems, source := if e.boot = 2 then 3 else if e.txn.owner = some Iface.spi then 1 else 0 } }

theorem Dev.stored_eq : ∃ x y k r, d.stored = { d with nv := { d.nv with slot0 := x, slot1 := y }, txn := { d.txn with kind := k, source := r } } := by
  obtain ⟨x, y, h⟩ := d.modSlotNv_eq d.otherSlot
    (fun _ => ⟨1, d.newInstar, ((d.nvSlot (1 - d.otherSlot)).gen + 1) % 2 ^ 32, chainWith d.chainNow d.newElems,
      Config.sha256 (chainBytes (chainWith d.chainNow d.newElems))⟩)
  unfold Dev.stored Dev.slotWrite
  dsimp only
  rw [h]
  exact ⟨x, y, _, _, rfl⟩

theorem Dev.stored_slot : (d.stored.nvSlot d.otherSlot).st = 1 ∧ (d.stored.nvSlot d.otherSlot).instar = d.newInstar ∧
    d.stored.nvSlot (1 - d.otherSlot) = d.nvSlot (1 - d.otherSlot) := by
  have hsame : d.stored.nvSlot d.otherSlot = ⟨1, d.newInstar, ((d.nvSlot (1 - d.otherSlot)).gen + 1) % 2 ^ 32, chainWith d.chainNow d.newElems,
      Config.sha256 (chainBytes (chainWith d.chainNow d.newElems))⟩ := Dev.nvSlot_modSlotNv_same _ _ _
  exact ⟨congrArg Slot.st hsame, congrArg Slot.instar hsame, Dev.nvSlot_modSlotNv_other _ d.otherSlot_lt _⟩

variable (d) in
/-- What follows a store in RUN, given the first boundary that is not too soon: the commit is too soon, goes to the twin, or is scheduled (R803). -/
def Dev.afterStore (first : Nat) : Nat × Dev :=
  let x := d.nvSlot d.otherSlot
  let pair := d.units.paired && d.units.twinCurrent
  let at' := d.txnAt
  if at' ≠ 0 ∧ at' < first then (0, (d.slotState d.otherSlot 3).commitRefuse 33 0 0 0)
  else
    let d := { d with txn := { d.txn with boundary := max first at' } }
    if pair then
      let d := { d with txn := { d.txn with st := .preparing, prepAt := d.tim.clk } }
      (0, d.txnFrame 1 x.instar d.txn.boundary x.hash)
    else (0, d.commitAccept)

variable (d) in
/-- The time that a stored commit leaves to its twin, or to the wings alone, in ns (R803). -/
def Dev.commitWait (chain : List (Nat × Bytes)) : Nat :=
  if d.units.paired && d.units.twinCurrent then 60000000 + (10000000 + cdiv (elemsLen chain * 1000000000) 25165824) else 2000000

/-- The numbers stand in `commitWait` and the boundary is made a variable: the kernel does not count to them. -/
theorem Dev.txnStored_run (h : d.txn.st = .storing) (hl : d.stored.txn.loadReset = false) (hb : d.stored.boot ≠ 2) :
    d.txnStored true = d.stored.afterStore (firstBoundary d.stored.rate (d.stored.ns + d.stored.commitWait (chainWith d.chainNow d.newElems))) := by
  unfold Dev.txnStored
  rw [if_neg (by simp [h]), if_neg (by decide)]
  extract_lets chain kind e x source f pair store first at' g k
  have hf : d.stored = f := rfl
  rw [hf] at hl hb ⊢
  rw [if_neg (Bool.eq_false_iff.mp hl), if_neg hb]
  have hfirst : firstBoundary f.rate (f.ns + f.commitWait chain) = first := rfl
  rw [hfirst]
  clear_value first
  rfl

variable (d) in
/-- The machine of a stored commit that is scheduled. -/
def Dev.scheduled (b : Nat) : Dev := ({ d with txn := { d.txn with boundary := max b d.txnAt } } : Dev).commitAccept

theorem Dev.afterStore_alone (first : Nat) (hp : (d.units.paired && d.units.twinCurrent) = false) :
    d.afterStore first = (0, if d.txnAt ≠ 0 ∧ d.txnAt < first then (d.slotState d.otherSlot 3).commitRefuse 33 0 0 0 else d.scheduled first) := by
  simp only [Dev.afterStore, hp, Bool.false_eq_true, if_false]
  split
  · rfl
  · rfl

variable (d) in
/-- The machine whose commit its asked boundary makes too soon. -/
def Dev.tooSoon : Dev := (d.stored.slotState d.stored.otherSlot 3).commitRefuse 33 0 0 0

/-- The end of the store of a commit of a module that runs alone. -/
theorem Dev.txnStoreEnd_alone (h : d.txn.st = .storing) (hl : d.txn.loadReset = false) (hb : d.boot ≠ 2)
    (hp : d.units.paired = false ∨ d.units.twinCurrent = false) {first : Nat} (hfirst : first = firstBoundary d.rate (d.ns + 2000000)) :
    d.txnStoreEnd true = if d.txnAt ≠ 0 ∧ d.txnAt < first then d.tooSoon else d.stored.scheduled first := by
  obtain ⟨x, y, k, r, hst⟩ := d.stored_eq
  have hpair : (d.stored.units.paired && d.stored.units.twinCurrent) = false := by
    rw [hst]
    obtain hp | hp := hp <;> simp [hp]
  have hat : d.stored.txnAt = d.txnAt := by rw [hst]; rfl
  have hns : d.stored.ns = d.ns := by rw [hst]; rfl
  have hrate : d.stored.rate = d.rate := by rw [hst]; rfl
  have hwait : d.stored.commitWait (chainWith d.chainNow d.newElems) = 2000000 := by rw [Dev.commitWait, hpair, if_neg (by decide)]
  have hrun := Dev.txnStored_run h (by rw [hst]; exact hl) (by rw [hst]; exact hb)
  rw [hrate, hns, hwait, ← hfirst, Dev.afterStore_alone _ hpair, hat] at hrun
  rw [Dev.txnStoreEnd, hrun]
  rfl

theorem Dev.stored_otherSlot : d.stored.otherSlot = d.otherSlot := by
  obtain ⟨x, y, k, r, hst⟩ := d.stored_eq
  rw [hst]
  rfl

theorem Dev.stored_txn : ∃ k r, d.stored.txn = { d.txn with kind := k, source := r } ∧ d.stored.nv.instarHigh = d.nv.instarHigh ∧ d.stored.resetCtr = d.resetCtr := by
  obtain ⟨x, y, k, r, hst⟩ := d.stored_eq
  rw [hst]
  exact ⟨k, r, rfl, rfl, rfl⟩

/-- A commit that is scheduled. -/
theorem Dev.scheduled_shows (b : Nat) : (d.stored.scheduled b).txn.st = .scheduled ∧ (d.stored.scheduled b).txn.boundary = max b d.txnAt ∧
    (d.stored.scheduled b).rd Reg.TXN_RESULT = w32 1 ∧ ((d.stored.scheduled b).nvSlot d.otherSlot).st = 1 ∧
    ((d.stored.scheduled b).nvSlot d.otherSlot).instar = d.newInstar ∧ (d.stored.scheduled b).nv.instarHigh = max d.nv.instarHigh d.newInstar ∧
    (d.stored.scheduled b).nvSlot (1 - d.otherSlot) = d.nvSlot (1 - d.otherSlot) ∧ (d.stored.scheduled b).txn.cfg = d.txn.cfg ∧
    (d.stored.scheduled b).resetCtr = d.resetCtr := by
  obtain ⟨hst, hins, hother⟩ := Dev.stored_slot (d := d)
  obtain ⟨k, r, htxn, hhigh, hctr⟩ := Dev.stored_txn (d := d)
  have hslot := Dev.stored_otherSlot (d := d)
  have hat : d.stored.txnAt = d.txnAt := by
    obtain ⟨x, y, k, r, heq⟩ := d.stored_eq
    rw [heq]
    rfl
  generalize d.stored = e at *
  refine ⟨rfl, congrArg (max b) hat, Dev.txnResult_rd _ 1, hst, hins, ?_, hother, (congrArg Txn.cfg htxn :), hctr⟩
  change max e.nv.instarHigh (e.nvSlot e.otherSlot).instar = _
  rw [hhigh, hslot, hins]

theorem Dev.tooSoon_shows : d.tooSoon.txn.st = .opened ∧ d.tooSoon.rd Reg.TXN_RESULT = w32 33 ∧ d.tooSoon.flag Reg.TXN_INT_STATUS 1 = true ∧
    (d.tooSoon.nvSlot d.otherSlot).st = 3 ∧ d.tooSoon.nv.instarHigh = d.nv.instarHigh ∧ d.tooSoon.txn.cfg = d.txn.cfg ∧ d.tooSoon.resetCtr = d.resetCtr := by
  have hback : d.stored.RolledBack d.tooSoon 33 := d.stored.slotRefuse_rolledBack 33
  obtain ⟨hslot, hhigh, htxn, hres, htold⟩ := hback
  obtain ⟨k, r, hcfg, hhigh', hctr⟩ := Dev.stored_txn (d := d)
  have hctr' : d.tooSoon.resetCtr = d.stored.resetCtr := by
    obtain ⟨x, y, h⟩ := d.stored.modSlotNv_eq d.stored.otherSlot (fun x => { x with st := 3, gen := (x.gen + 1) % 2 ^ 32 })
    refine (Dev.resetCtr_of_recs (Dev.commitRefuse_besideRecs _ 33 0 0 0) :).trans ?_
    rw [Dev.slotState, h]
    rfl
  rw [Dev.stored_otherSlot] at hslot
  exact ⟨(congrArg Txn.st htxn :), hres, htold, hslot, hhigh.trans hhigh', (congrArg Txn.cfg htxn :).trans (congrArg Txn.cfg hcfg :), hctr'.trans hctr⟩

end

/-- The end of a store that resets nothing. -/
theorem storeDone_ends {s : State} {n : Nat} {good : Bool} {e : Dev} (he : (s.dev.tick n).txnStoreEnd good = e) (hc : e.resetCtr = s.dev.resetCtr) :
    Ends (exec (.txnStoreDone n good) s) { s with dev := e } := by
  have hends := resetRow_ends s n (·.txnStoreEnd good)
  rw [exec_txnStoreDone]
  simp only [he, hc, if_true] at hends
  exact hends

/-! The statement. -/

/-- Settles O57: the writes by their checks in order, and the ends of the time-out, the validation and the store by their states. -/
theorem transactionStaging : Obligations.TransactionStaging := by
  refine ⟨fun s n i v hw => ?word, fun s n i v hw hst ho hd hs hwi => ?shadow, fun s n => ?ends⟩
  case word =>
    intro x no
    have hends := imgWdata_ends (n := n) (v := v) hw
    have hno (code : Nat) (hc : code < 2 ^ 32) (h : (s.dev.tick n).imgWdata i v = (s.dev.tick n).txnRefuse code) : EndsWith (exec (.txnImgWdata n i v) s) (no code) := by
      rw [h] at hends
      have hres : ((s.dev.tick n).txnRefuse code).rdN Reg.TXN_RESULT = code := by
        rw [Dev.rdN, Dev.txnRefuse_result]
        exact Nat.mod_eq_of_lt hc
      have htold := (s.dev.tick n).txnRefuse_told code
      exact hends.with fun _ _ _ _ _ => ⟨hres, htold, rfl, rfl, rfl, rfl, rfl⟩
    refine ⟨fun h => ?_, fun h ho => ?_, fun h ho hl => ?_, fun h ho hl => ?_⟩
    · exact hno 16 (by decide) (Dev.imgWdata_closed (d := s.dev.tick n) h)
    · exact hno 17 (by decide) (Dev.imgWdata_foreign (d := s.dev.tick n) h ho)
    · exact hno 25 (by decide) (Dev.imgWdata_large (d := s.dev.tick n) h ho hl)
    · rw [Dev.imgWdata_appends (d := s.dev.tick n) h ho hl] at hends
      exact hends.with fun _ _ _ _ _ => ⟨rfl, h, ho, rfl, s.dev.tick_clk n, fun _ _ => rfl, rfl, rfl⟩
  case shadow =>
    have hends := probationWrite_ends (n := n) (v := v) hw hst ho hd hs hwi
    have hshadow : ((s.dev.tick n).shadowed Reg.TXN_PROBATION (w32 (bits v 15 0))).txn.shadows = [(Reg.TXN_PROBATION, w32 (bits v 15 0))] :=
      congrArg (· ++ [(Reg.TXN_PROBATION, w32 (bits v 15 0))]) hs
    exact hends.with fun _ _ _ _ _ => ⟨hshadow, rfl, rfl, rfl, rfl⟩
  case ends =>
    intro e x late
    have hexp := devRow_ends s n (·.txnExpire)
    have hval := devRow_ends s n (·.txnValidated)
    rw [exec_txnTimeoutExpiry, exec_txnValidationDone]
    refine ⟨fun h => ?_, fun h => ?_, fun h => ?_, fun h hp => ⟨fun code a b o hcheck hcode => ?_, fun hcheck => ?_⟩, fun good h => ?_, fun h => ?_,
      fun h hl hb hp => ?_⟩
    · rw [Dev.txnExpire_late (d := s.dev.tick n) h] at hexp
      have hres : (((s.dev.tick n).txnDiscard.txnResult 32).raise Reg.TXN_INT_STATUS 4).rdN Reg.TXN_RESULT = 32 :=
        congrArg BitVec.toNat ((Dev.rd_raise_ne _ _ (by decide)).trans (Dev.txnResult_rd _ 32))
      have htold : (((s.dev.tick n).txnDiscard.txnResult 32).raise Reg.TXN_INT_STATUS 4).flag Reg.TXN_INT_STATUS 4 = true := Dev.flag_raise _ _ _ (by decide)
      exact hexp.with fun _ _ _ _ _ => ⟨rfl, rfl, rfl, rfl, rfl, hres, htold, rfl, rfl, rfl⟩
    · rw [Dev.txnExpire_early (d := s.dev.tick n) h] at hexp
      exact hexp
    · rw [Dev.txnValidated_still (d := s.dev.tick n) h] at hval
      exact hval
    · rw [Dev.txnValidated_eq (d := s.dev.tick n) h hp, hcheck] at hval
      have htxn := (s.dev.tick n).commitRefuse_txn code a b o
      have hnv := (s.dev.tick n).commitRefuse_nv code a b o
      have htold := (s.dev.tick n).commitRefuse_told code a b o
      have hres : ((s.dev.tick n).commitRefuse code a b o).rdN Reg.TXN_RESULT = code := by
        rw [Dev.rdN, Dev.commitRefuse_result]
        exact Nat.mod_eq_of_lt (by omega)
      dsimp only at hval
      generalize (s.dev.tick n).commitRefuse code a b o = f at *
      exact hval.with fun _ _ _ _ _ => ⟨(congrArg Txn.st htxn :), (congrArg Txn.owner htxn :), (congrArg Txn.staging htxn :), (congrArg Txn.shadows htxn :),
        (congrArg Txn.windows htxn :), hres, htold, hnv, (congrArg Txn.cfg htxn :), rfl⟩
    · rw [Dev.txnValidated_eq (d := s.dev.tick n) h hp, hcheck] at hval
      obtain ⟨htxn, hst, hother⟩ := Dev.storeStarted_shows (d := s.dev.tick n)
      change Ends _ { s with dev := (s.dev.tick n).storeStarted } at hval
      generalize (s.dev.tick n).storeStarted = f at *
      exact hval.with fun _ _ _ _ _ => ⟨(congrArg Txn.st htxn :), (congrArg Txn.owner htxn :), hst, hother, (congrArg Txn.cfg htxn :), rfl⟩
    · exact storeDone_ends (Dev.txnStoreEnd_still (d := s.dev.tick n) h) rfl
    · have hends := storeDone_ends (Dev.txnStoreEnd_fails (d := s.dev.tick n) h) (Dev.resetCtr_of_recs ((s.dev.tick n).commitRefuse_besideRecs 30 0 0 0) :)
      have htxn := (s.dev.tick n).commitRefuse_txn 30 0 0 0
      have hnv := (s.dev.tick n).commitRefuse_nv 30 0 0 0
      have htold := (s.dev.tick n).commitRefuse_told 30 0 0 0
      have hres : ((s.dev.tick n).commitRefuse 30 0 0 0).rdN Reg.TXN_RESULT = 30 := congrArg BitVec.toNat ((s.dev.tick n).commitRefuse_result 30 0 0 0)
      generalize (s.dev.tick n).commitRefuse 30 0 0 0 = f at *
      exact hends.with fun _ _ _ _ _ => ⟨(congrArg Txn.st htxn :), (congrArg Txn.staging htxn :), (congrArg Txn.shadows htxn :), hres, htold, hnv, rfl⟩
    · intro first
      have halone := Dev.txnStoreEnd_alone (d := s.dev.tick n) h hl hb hp (first := first) rfl
      clear_value first
      refine ⟨fun hat => ?_, fun hne hlt => ?_⟩
      · obtain ⟨hst, hbound, hres, hslot, hins, hhigh, hother, hcfg, hctr⟩ := Dev.scheduled_shows (d := s.dev.tick n) first
        have hlate : ¬ ((s.dev.tick n).txnAt ≠ 0 ∧ (s.dev.tick n).txnAt < first) := by
          rintro ⟨hne, hlt⟩
          obtain hat | hat := hat
          · exact hne hat
          · exact Nat.not_lt.mpr hat hlt
        have hends := storeDone_ends (halone.trans (if_neg hlate)) hctr
        generalize (s.dev.tick n).stored.scheduled first = f at *
        exact hends.with fun _ _ _ _ _ => ⟨hst, hbound, congrArg BitVec.toNat hres, hslot, hins, hhigh, hother, hcfg, rfl⟩
      · obtain ⟨hst, hres, htold, hslot, hhigh, hcfg, hctr⟩ := Dev.tooSoon_shows (d := s.dev.tick n)
        have hends := storeDone_ends (halone.trans (if_pos ⟨hne, hlt⟩)) hctr
        generalize (s.dev.tick n).tooSoon = f at *
        exact hends.with fun _ _ _ _ _ => ⟨hst, congrArg BitVec.toNat hres, htold, hslot, hhigh, hcfg, rfl⟩

end Sys2Proof.Machine

/-! Power failure, and the endpoint with its resets (R820, R821, R842, R844, R852, R890; O15). -/

namespace Sys2Proof.Machine

/-! The power-fail save (R672, R842). -/

section
variable (d : Dev)

/-- The power epoch with the pins, and what the save says of its epoch. -/
def Dev.powerView : Nat × Pins × Bool × Nat := (d.nv.powerEpoch, d.pins, d.nv.save.valid, d.nv.save.epoch)

variable {d} in
theorem Dev.powerView_of_recs {e : Dev} (h : e.besideRecs = d.besideRecs) : e.powerView = d.powerView := (congrArg Dev.powerView h :)

theorem Dev.sequence_powerView (r : RecIn) : (d.sequence r).powerView = d.powerView := by
  obtain ⟨_, h⟩ := d.sequence_eq (r := r)
  exact (congrArg Dev.powerView h :)

theorem Dev.intakeTake_powerView : d.intakeTake.powerView = d.powerView := by
  by_cases h : d.evr.ready = true
  case neg => rw [Dev.intakeTake_none (.inl (Bool.eq_false_iff.mpr h))]
  match hi : d.evr.intake with
  | [] => rw [Dev.intakeTake_none (.inr hi)]
  | .record r :: q =>
    rw [Dev.intakeTake_record h hi]
    exact Dev.sequence_powerView _ _
  | .gap c k f l :: q =>
    rw [Dev.intakeTake_gap h hi]
    exact (Dev.powerView_of_recs (Dev.raise_besideRecs _ _ _)).trans (Dev.sequence_powerView _ _)

theorem Dev.gatePass_powerView (o seq : Nat) : (d.gatePass o seq).powerView = d.powerView := by
  unfold Dev.gatePass
  split <;> rfl

theorem Dev.readable_powerView : d.readable.powerView = d.powerView := by
  match hm : d.evr.mirroring with
  | [] => rw [Dev.readable_none hm]
  | x :: q =>
    by_cases hg : d.gateOpen d.active 2163 x.seq = true
    case neg => rw [Dev.readable_closed hm (Bool.eq_false_iff.mpr hg)]
    obtain ⟨fuel, h⟩ := Dev.readable_open hm hg
    rw [h]
    have hregs := Dev.recRegs_besideRegs ((evict (d.gatePass 2163 x.seq) (fuel + 1) x.size).madeReadable x q)
    have hevict := evict_besideDram (d.gatePass 2163 x.seq) (fuel + 1) x.size
    exact ((congrArg Dev.powerView hregs :).trans (congrArg Dev.powerView hevict :)).trans (d.gatePass_powerView _ _)

theorem Dev.keepWrite_powerView (okA okB : Bool) : (d.keepWrite okA okB).powerView = d.powerView := by
  match hk : d.evr.keepPending with
  | [] => rw [Dev.keepWrite_none okA okB hk]
  | x :: q =>
    rw [Dev.keepWrite_some okA okB hk]
    exact (congrArg (fun e : Dev => (d.nv.powerEpoch, e.pins, d.nv.save.valid, d.nv.save.epoch)) (d.keepTold_besideRegs q okA okB) :)

theorem Dev.recFlush_powerView : d.recFlush.powerView = d.powerView := by
  simp only [Dev.recFlush, Dev.keepFlush]
  rw [foldUp_keeps Dev.powerView _ _ (fun _ e => e.keepWrite_powerView true true), foldUp_keeps Dev.powerView _ _ (fun _ e => e.readable_powerView),
    foldUp_keeps Dev.powerView _ _ (fun _ e => e.intakeTake_powerView)]

theorem Dev.commitRefuse_powerView (code sect rtype ofs : Nat) : (d.commitRefuse code sect rtype ofs).powerView = d.powerView :=
  (congrArg Dev.powerView (d.commitRefuse_besideRecs code sect rtype ofs) :)

theorem Dev.txnPowerFail_powerView : d.txnPowerFail.powerView = d.powerView := by
  unfold Dev.txnPowerFail
  split
  · exact d.commitRefuse_powerView _ _ _ _
  · rfl

theorem Dev.saveTxn_powerView : d.saveTxn.powerView = d.powerView := by
  unfold Dev.saveTxn
  split
  · rfl
  dsimp only
  split
  · exact Dev.commitRefuse_powerView _ _ _ _ _
  · rfl

theorem Dev.pfSave_powerView : d.pfSave.powerView = (d.nv.powerEpoch, d.pins, true, d.nv.powerEpoch) := by
  unfold Dev.pfSave
  extract_lets items demands unl save
  exact Dev.saveTxn_powerView _

/-- The machine in which the quadrants are asked to enter low-power mode. -/
def Dev.lowPowerAsked : Dev := foldUp 4 (fun q (d : Dev) => d.putB Reg.CNV_LP_CTL (4 + q) true) d

theorem Dev.lowPowerAsked_powerView : d.lowPowerAsked.powerView = d.powerView := foldUp_keeps Dev.powerView 4 _ (fun _ _ => rfl) d

/-- The fall of PWRFAIL_N makes the save of its power epoch. -/
theorem Dev.pwrfailFall_powerView (h : d.boot ≠ 0) :
    d.pwrfailFall.powerView = (d.nv.powerEpoch, { d.pins with pwrfailLow := true, pwrHold := false }, true, d.nv.powerEpoch) := by
  have hsave (e : Dev) : (e.txnPowerFail.recFlush.ledgerWrite.pfSave).powerView = (e.nv.powerEpoch, e.pins, true, e.nv.powerEpoch) := by
    have hview := e.txnPowerFail.recFlush_powerView.trans e.txnPowerFail_powerView
    have hepoch : e.txnPowerFail.recFlush.nv.powerEpoch = e.nv.powerEpoch := congrArg Prod.fst hview
    have hpins : e.txnPowerFail.recFlush.pins = e.pins := congrArg (·.2.1) hview
    rw [Dev.pfSave_powerView, ← hepoch, ← hpins]
    rfl
  have hasked (e f : Dev) (hf : f.besideRecs = e.besideRecs) : (f.lowPowerAsked.txnPowerFail.recFlush.ledgerWrite.pfSave).powerView =
      (e.nv.powerEpoch, e.pins, true, e.nv.powerEpoch) := by
    have hview := f.lowPowerAsked_powerView.trans (Dev.powerView_of_recs hf)
    have hepoch : f.lowPowerAsked.nv.powerEpoch = e.nv.powerEpoch := congrArg Prod.fst hview
    have hpins : f.lowPowerAsked.pins = e.pins := congrArg (·.2.1) hview
    rw [hsave, hepoch, hpins]
  unfold Dev.pwrfailFall
  rw [if_neg h]
  exact hasked { d with pins := { d.pins with pwrfailLow := true, pwrHold := false } } _ (by simp)

/-- 100 ms after the rise, what stopped resumes at the next wingbeat boundary, at once where none falls. -/
def Dev.resumed : Dev :=
  { d with pins := { d.pins with pwrfailLow := false, pwrHold := decide (3 ≤ d.boot) && d.rate != 0 }, nv := { d.nv with save := { d.nv.save with valid := false } } }

theorem Dev.pwrfailEnd_powerView (h : d.pins.pwrfailLow = true) : d.pwrfailEnd.powerView = d.resumed.powerView := by
  unfold Dev.pwrfailEnd
  rw [if_pos h]
  exact (congrArg (fun x => x.1.powerView) (Dev.dispatchAll_besideSch _) :)

end

/-! The endpoint (R820, R821). -/

/-- A table of which only the entries of some keys are kept. -/
theorem tget_filter {α : Type} (d : α) (p : Nat → Bool) (t : List (Nat × α)) (k : Nat) :
    tget d (t.filter fun x => p x.1) k = if p k then tget d t k else d := by
  induction t with
  | nil => simp
  | cons x r ih =>
    obtain ⟨a, v⟩ := x
    by_cases hk : k = a
    · subst hk
      by_cases hp : p k = true <;> simp_all [tget]
    · by_cases hp : p a = true <;> simp_all [tget]

/-- A property of an entry of a table whose entries are all changed by a function that keeps what the property says of the default. -/
theorem tget_map {α β : Type} (d : α) (f : α → α) (g g' : α → β) (hf : ∀ x, g (f x) = g' x) (hd : g d = g' d) (t : List (Nat × α)) (k : Nat) :
    g (tget d (t.map fun x => (x.1, f x.2)) k) = g' (tget d t k) := by
  induction t with
  | nil => exact hd
  | cons x r ih =>
    obtain ⟨a, v⟩ := x
    by_cases hk : k = a
    · subst hk
      simpa [tget] using hf v
    · simpa [tget, hk] using ih

section
variable (d : Dev)

/-- Is an address one of the host rings? -/
def ringReg (a : Nat) : Bool := decide (Reg.GLB_HR_CTL 0 ≤ a) && decide (a ≤ Reg.GLB_HR_IDX_HI 7)

theorem Dev.clearRings_rd (a : Nat) : d.clearRings.rd a = if ringReg a then resetOf (a % wingOfs) else d.rd a := by
  refine (tget_filter _ (fun a => !ringReg a) d.regs a).trans ?_
  cases ringReg a <;> rfl

theorem Dev.clearRings_taken (r : Nat) : (d.clearRings.ring r).taken = (d.ring r).taken.filter (·.acked) :=
  tget_map HostRing.start (fun g => { g.dropUnacked with phase := true }) HostRing.taken (fun g => g.taken.filter (·.acked)) (fun _ => rfl) rfl _ r

/-- The endpoint in its reset, but for GLB_PCIE_STATUS. -/
def Dev.endpointCleared (flr : Bool) : Dev :=
  let e := d.clearRings
  { e with host := { e.host with msix := [], pba := 0, ringSent := 0, linkUp := d.host.linkUp && flr, d3hot := false } }

theorem Dev.endpointReset_besideRegs (flr : Bool) : (d.endpointReset flr).besideRegs = (d.endpointCleared flr).besideRegs := by
  unfold Dev.endpointReset
  dsimp only
  split <;> rfl

theorem Dev.endpointReset_rd (flr : Bool) {a : Nat} (h : a ≠ Reg.GLB_PCIE_STATUS) : (d.endpointReset flr).rd a = d.clearRings.rd a := by
  unfold Dev.endpointReset
  dsimp only
  split
  · exact Dev.rd_putF_ne _ h _ _ _
  · exact (Dev.rd_putF_ne _ h _ _ _).trans (Dev.rd_putF_ne _ h _ _ _)

/-- The link up at a speed code and a width. -/
def Dev.linkShown (speed width : Nat) : Dev :=
  (((({ d with host := { d.host with linkUp := true } }).putB Reg.GLB_PCIE_STATUS 0 true).putF Reg.GLB_PCIE_STATUS 3 1 speed).putF Reg.GLB_PCIE_STATUS 6 4 width)

theorem Dev.pcieUp_running (speed width : Nat) (h : d.boot ≠ 0) : d.pcieUp speed width = d.linkShown speed width := if_neg h

theorem Dev.linkShown_shows (speed width : Nat) :
    let e := d.linkShown speed width
    e.host.linkUp = true ∧ e.flag Reg.GLB_PCIE_STATUS 0 = true ∧ e.fld Reg.GLB_PCIE_STATUS 3 1 = speed % 8 ∧ e.fld Reg.GLB_PCIE_STATUS 6 4 = width % 8 ∧
      ∀ a, a ≠ Reg.GLB_PCIE_STATUS → e.rd a = d.rd a := by
  refine ⟨rfl, ?_, ?_, Dev.fld_putF _ _ 6 4 width (by decide), fun a ha => ?_⟩
  · simp only [Dev.linkShown, Dev.flag, Dev.rd_putF_same, bit_setBits _ _ _ _ _ (show 6 < 32 by decide), bit_setBits _ _ _ _ _ (show 3 < 32 by decide)]
    exact Dev.flag_putB_same _ _ _ true (by decide)
  · exact (Dev.fld_putF_ne _ _ _ 6 4 3 1 width (by decide) (.inr (.inl (by decide)))).trans (Dev.fld_putF _ _ 3 1 speed (by decide))
  · exact (Dev.rd_putF_ne _ ha _ _ _).trans ((Dev.rd_putF_ne _ ha _ _ _).trans (Dev.rd_putF_ne _ ha _ _ _))

/-- The endpoint in the slave's loop, its link down. -/
def Dev.slaveLoop : Dev :=
  let e := d.putB Reg.TST_PCIE_STATUS 1 true
  { e with host := { e.host with linkUp := false } }

theorem Dev.slaveLoop_shows : d.slaveLoop.host.linkUp = false ∧ d.slaveLoop.flag Reg.TST_PCIE_STATUS 1 = true ∧
    ∀ a, a ≠ Reg.TST_PCIE_STATUS → d.slaveLoop.rd a = d.rd a :=
  ⟨rfl, d.flag_putB_same Reg.TST_PCIE_STATUS 1 true (by decide), fun _ ha => d.rd_putF_ne ha 1 1 1⟩

/-- D3hot as GLB_PCIE_STATUS shows it. -/
def Dev.d3hotShown (on : Bool) : Dev := ({ d with host := { d.host with d3hot := on } }).putB Reg.GLB_PCIE_STATUS 7 on

theorem Dev.d3hot_down (on : Bool) (h : d.host.linkUp = false) : d.d3hot on = d := by
  unfold Dev.d3hot
  rw [if_neg (ne_true_of_eq_false h)]

/-- What a message of the endpoint leaves. -/
def Dev.msixView : Units × List (Nat × Word) × Bool := (d.units, d.regs, d.host.d3hot)

theorem Dev.msix_msixView (v : Nat) : (d.msix v).msixView = d.msixView := by
  unfold Dev.msix Dev.dmaWrite
  split
  · split <;> rfl
  · split <;> rfl

theorem Dev.msixPending_msixView : d.msixPending.msixView = d.msixView := by
  refine foldUp_keeps Dev.msixView 64 _ (fun v e => ?_) d
  split
  · exact Dev.msix_msixView _ v
  · rfl

theorem Dev.d3hot_up (on : Bool) (h : d.host.linkUp = true) : (d.d3hot on).msixView = (d.d3hotShown on).msixView := by
  unfold Dev.d3hot
  rw [if_pos h]
  exact Dev.msixPending_msixView _

end

/-- Settles O15: the save (`Dev.pwrfailFall_powerView`), the return of power (`Dev.pwrfailEnd_powerView`), and the endpoint, whose reset is the empty table
of its registers (`Dev.endpointReset_besideRegs`, `Dev.clearRings_rd`). -/
theorem powerFailAndEndpoint : Obligations.PowerFailAndEndpoint := by
  unfold Obligations.PowerFailAndEndpoint
  refine ⟨?fall, ?rise, ?reset, ?d3hot, ?down, ?up, ?slave⟩
  case fall =>
    intro s n hb
    have hends := devRow_ends s n Dev.pwrfailFall
    have hview := Dev.pwrfailFall_powerView (s.dev.tick n) hb
    rw [exec_pwrfailFall]
    generalize (s.dev.tick n).pwrfailFall = f at *
    injection hview with hepoch hview
    injection hview with hpins hview
    injection hview with hvalid hsave
    refine hends.with fun _ _ _ _ _ => ⟨hvalid, hsave.trans hepoch.symm, hepoch, ?_, rfl⟩
    show (f.pins.pwrfailLow || f.pins.pwrHold) = true
    rw [hpins]
    rfl
  case rise =>
    intro s n hp
    have hends := devRow_ends s n Dev.pwrfailEnd
    have hview := Dev.pwrfailEnd_powerView (s.dev.tick n) hp
    rw [exec_pwrfailEnd]
    generalize (s.dev.tick n).pwrfailEnd = f at *
    injection hview with hepoch hview
    injection hview with hpins hview
    injection hview with hvalid hsave
    refine hends.with fun _ _ _ _ _ => ⟨hvalid, congrArg Pins.pwrfailLow hpins, ?_, rfl⟩
    show (f.pins.pwrfailLow || f.pins.pwrHold) = _
    rw [hpins]
    rfl
  case reset =>
    intro s n flr
    have hends := devRow_ends s n (·.endpointReset flr)
    have hregs := Dev.endpointReset_besideRegs (s.dev.tick n) flr
    have hrd (a : Nat) (h : a ≠ Reg.GLB_PCIE_STATUS) := Dev.endpointReset_rd (s.dev.tick n) flr h
    have htaken := Dev.clearRings_taken (s.dev.tick n)
    rw [exec_endpointReset]
    generalize (s.dev.tick n).endpointReset flr = f at *
    have hrings : f.host.rings = (s.dev.tick n).clearRings.host.rings := (congrArg (fun e : Dev => e.host.rings) hregs :)
    refine hends.with fun _ _ _ _ _ => ⟨(congrArg (fun e : Dev => e.host.msix) hregs :), (congrArg (fun e : Dev => e.host.ringSent) hregs :),
      (congrArg (fun e : Dev => e.host.d3hot) hregs :), (congrArg (fun e : Dev => e.host.linkUp) hregs :), fun a h0 h1 => ?_, fun a h ha => ?_, fun r => ?_,
      (congrArg Dev.units hregs :), (congrArg Dev.loc hregs :), (congrArg Dev.sch hregs :), (congrArg Dev.cmp hregs :), (congrArg Dev.acq hregs :),
      (congrArg Dev.nv hregs :), (congrArg Dev.osc hregs :), (congrArg Dev.isl hregs :), (congrArg Dev.roost hregs :), (congrArg Dev.ing hregs :),
      (congrArg Dev.net hregs :), (congrArg Dev.evr hregs :), rfl⟩
    · have hin : ringReg a = true := by simp [ringReg, h0, h1]
      have hw : a % wingOfs = a := Nat.mod_eq_of_lt (lt_of_le_of_lt h1 (by decide))
      have hne : a ≠ Reg.GLB_PCIE_STATUS := fun e => absurd h0 (by rw [e]; decide)
      exact (hrd a hne).trans (by rw [Dev.clearRings_rd, if_pos hin, hw])
    · have hout : ringReg a ≠ true := by
        intro hin
        obtain ⟨h0, h1⟩ := Bool.and_eq_true_iff.mp hin
        exact h.elim (fun h => Nat.not_lt.mpr (of_decide_eq_true h0) h) (fun h => Nat.not_lt.mpr (of_decide_eq_true h1) h)
      exact (hrd a ha).trans (by rw [Dev.clearRings_rd, if_neg hout]; rfl)
    · show (tget HostRing.start f.host.rings r).taken = _
      rw [hrings]
      exact htaken r
  case d3hot =>
    intro s n hl
    have hup (on : Bool) (o : Host.Outcome State Fault Refusal) (ho : o = devRow s n true (·.d3hot on)) :
        EndsWith o fun t => t.dev.host.d3hot = on ∧ t.dev.flag Reg.GLB_PCIE_STATUS 7 = on ∧ t.dev.units = s.dev.units := by
      have hends := devRow_ends s n (·.d3hot on)
      have hview := Dev.d3hot_up (s.dev.tick n) on hl
      rw [ho]
      generalize (s.dev.tick n).d3hot on = f at *
      injection hview with hunits hview
      injection hview with hregs hd
      refine hends.with fun _ _ _ _ _ => ⟨hd, ?_, hunits⟩
      exact (Dev.flag_congr (Dev.rd_congr hregs _) 7).trans (Dev.flag_putB_same _ _ _ on (by decide))
    exact ⟨hup true _ (exec_d3hotEntry n s), hup false _ (exec_d3hotExit n s)⟩
  case down =>
    intro s n c hl hc
    have hdown (on : Bool) : Ends (devRow s n true (·.d3hot on)) { s with dev := s.dev.tick n } := by
      have hends := devRow_ends s n (·.d3hot on)
      have heq := Dev.d3hot_down (s.dev.tick n) on hl
      rw [heq] at hends
      exact hends
    rcases hc with rfl | rfl
    · exact hdown true
    · exact hdown false
  case up =>
    intro s n speed width hb
    have hends := devRow_ends s n (·.pcieUp speed width)
    rw [exec_pcieLinkUp]
    rw [Dev.pcieUp_running (s.dev.tick n) speed width hb] at hends
    obtain ⟨hup, hshown, hspeed, hwidth, hoff⟩ := Dev.linkShown_shows (s.dev.tick n) speed width
    generalize (s.dev.tick n).linkShown speed width = f at *
    exact hends.with fun _ _ _ _ _ => ⟨hup, hshown, hspeed, hwidth, hoff⟩
  case slave =>
    intro s n
    have hends := devRow_ends s n Dev.slaveLoop
    obtain ⟨hdown, hshown, hoff⟩ := Dev.slaveLoop_shows (s.dev.tick n)
    rw [show exec (.pcieLoopbackSlave n) s = devRow s n true Dev.slaveLoop from rfl]
    generalize (s.dev.tick n).slaveLoop = f at *
    exact hends.with fun _ _ _ _ _ => ⟨hdown, hshown, hoff⟩

end Sys2Proof.Machine

/-! Writes that start and end test loop-backs, and the outcome that they show (R871 to R877, R880, R884, R886 to R888; O59). -/

namespace Sys2Proof.Machine

/-! What a write asks of a loop-back (R871, R874). -/

section
variable (d : Dev)

/-- The loop-backs, their outcome and interrupt, and what a refusal keeps. -/
def Dev.askView : List (Nat × Loop) × Word × Word × NvDie × List CfgRec × Nat :=
  (d.tst.loops, d.rd Reg.TST_LB_RESULT, d.rd Reg.TST_INT_STATUS, d.nv, d.txn.cfg, d.resetCtr)

variable {d} in
theorem Dev.askView_of {e : Dev} (h : e.besideRegs = d.besideRegs) (hres : e.rd Reg.TST_LB_RESULT = d.rd Reg.TST_LB_RESULT)
    (hint : e.rd Reg.TST_INT_STATUS = d.rd Reg.TST_INT_STATUS) : e.askView = d.askView := by
  unfold Dev.askView
  rw [hres, hint]
  exact (congrArg (fun f : Dev => (f.tst.loops, d.rd Reg.TST_LB_RESULT, d.rd Reg.TST_INT_STATUS, f.nv, f.txn.cfg, f.resetCtr)) h :)

theorem Dev.wr_askView {a : Nat} (h : Reg.TST_LB_RESULT ≠ a ∧ Reg.TST_INT_STATUS ≠ a) (v : Word) : (d.wr a v).askView = d.askView :=
  Dev.askView_of rfl (Dev.rd_wr_ne d h.1 v) (Dev.rd_wr_ne d h.2 v)

theorem Dev.setGen_askView (p : Nat) (g : Option LoopGen) : (d.setGen p g).askView = d.askView := rfl

theorem Dev.genStep_askView (p : Nat) : (d.genStep p).askView = d.askView := by
  unfold Dev.genStep
  split
  · rfl
  split
  · rfl
  split
  · rfl
  · rfl

/-- The registers of a port's test hold neither the outcome nor the interrupt. -/
theorem portTest_ne (p : Nat) {a : Nat} (h : a = Reg.TST_PORT_CTL p ∨ a = Reg.TST_PORT_STATUS p ∨ a = Reg.TST_PORT_RX_CNT p ∨ a = Reg.TST_PORT_ERR_CNT p) :
    Reg.TST_LB_RESULT ≠ a ∧ Reg.TST_INT_STATUS ≠ a := by
  simp only [Reg.TST_PORT_CTL, Reg.TST_PORT_STATUS, Reg.TST_PORT_RX_CNT, Reg.TST_PORT_ERR_CNT, Reg.TST_LB_RESULT, Reg.TST_INT_STATUS] at *
  omega

/-- A generator as START sets it. -/
def Dev.newGen (p : Nat) : LoopGen := ⟨d.fld (Reg.TST_PORT_GEN p) 31 16, d.fld (Reg.TST_PORT_GEN p) 13 0, 0, 0, none⟩

/-- The counters and flags of a port's test cleared. -/
def Dev.testCleared (p : Nat) : Dev := ((d.wr (Reg.TST_PORT_RX_CNT p) 0).wr (Reg.TST_PORT_ERR_CNT p) 0).putF (Reg.TST_PORT_STATUS p) 6 5 0

theorem Dev.genStart_eq (p : Nat) : d.genStart p =
    if d.portLoop p = 0 then (d.setGen p (some (d.newGen p))).testCleared p else ((d.setGen p (some (d.newGen p))).testCleared p).genStep p := rfl

theorem Dev.testCleared_askView (p : Nat) : (d.testCleared p).askView = d.askView := by
  rw [Dev.testCleared, Dev.putF, Dev.wr_askView _ (portTest_ne p (.inr (.inl rfl))), Dev.wr_askView _ (portTest_ne p (.inr (.inr (.inr rfl)))),
    Dev.wr_askView _ (portTest_ne p (.inr (.inr (.inl rfl))))]

theorem Dev.genStart_askView (p : Nat) : (d.genStart p).askView = d.askView := by
  rw [Dev.genStart_eq]
  split
  · rw [Dev.testCleared_askView, Dev.setGen_askView]
  · rw [Dev.genStep_askView, Dev.testCleared_askView, Dev.setGen_askView]

/-- A loop-back is told by the table of loop-backs alone. -/
theorem Dev.loop_congr {d e : Dev} (h : e.tst.loops = d.tst.loops) (kind idx : Nat) : e.loop kind idx = d.loop kind idx := by rw [Dev.loop, h, Dev.loop]

theorem Dev.loop_modLoop_same (kind idx : Nat) (f : Loop → Loop) : (d.modLoop kind idx f).loop kind idx = f (d.loop kind idx) :=
  tget_tset_same Loop.start d.tst.loops _ _

theorem Dev.loop_modLoop_ne {kind idx kind' idx' : Nat} (h : 256 * kind' + idx' ≠ 256 * kind + idx) (f : Loop → Loop) :
    (d.modLoop kind idx f).loop kind' idx' = d.loop kind' idx' :=
  tget_tset_ne Loop.start Loop.start d.tst.loops h _

theorem Dev.lbLast_fld {v : Nat} (h : v < 8) : (d.lbLast v).fld Reg.TST_LB_RESULT 2 0 = v :=
  (Dev.fld_putF d Reg.TST_LB_RESULT 2 0 v (by decide)).trans (Nat.mod_eq_of_lt h)

/-- A refusal shows its code and raises the interrupt, and keeps the rest. -/
theorem Dev.lbRefuse_shows {v : Nat} (h : v < 8) : (d.lbRefuse v).fld Reg.TST_LB_RESULT 2 0 = v ∧ (d.lbRefuse v).flag Reg.TST_INT_STATUS 3 = true ∧
    (d.lbRefuse v).besideRegs = d.besideRegs := by
  refine ⟨?_, Dev.flag_raise _ _ _ (by decide), rfl⟩
  rw [Dev.fld, Dev.lbRefuse, Dev.rd_raise_ne _ 3 (show Reg.TST_LB_RESULT ≠ Reg.TST_INT_STATUS by decide)]
  exact d.lbLast_fld h

variable {kind idx m : Nat} {covered ovr : Bool}

/-- The end of a loop-back asked for, or one asked for withdrawn. -/
def Loop.ending (x : Loop) (clk : Nat) : Loop := if x.mode = 0 then { x with req := none } else { x with req := some (0, clk) }

/-- A mode asked for. -/
def Loop.asking (x : Loop) (m clk : Nat) (ovr : Bool) : Loop := { x with req := some (m, clk), override := ovr }

theorem Dev.loopAsk_end : d.loopAsk kind idx 0 covered ovr = (true, (d.modLoop kind idx (·.ending d.tim.clk)).lbLast 1) := rfl

theorem Dev.loopAsk_runs (hm : m ≠ 0) (hmode : (d.loop kind idx).mode = m) (hreq : (d.loop kind idx).req = none) :
    d.loopAsk kind idx m covered ovr = (true, d) := by simp [Dev.loopAsk, hm, hmode, hreq]

theorem Dev.loopAsk_busy (hm : m ≠ 0) (hmode : (d.loop kind idx).mode ≠ 0) (h : (d.loop kind idx).mode ≠ m ∨ (d.loop kind idx).req ≠ none) :
    d.loopAsk kind idx m covered ovr = (false, d.lbRefuse 2) := by
  have hne : ¬ (decide ((d.loop kind idx).mode = m) && (d.loop kind idx).req.isNone) = true := by
    simp only [Bool.and_eq_true, decide_eq_true_eq, Option.isNone_iff_eq_none, not_and_or]
    exact h
  simp only [Dev.loopAsk, if_neg hm, if_neg hne, bne_iff_ne, ne_eq, hmode, not_false_iff, if_true]

theorem Dev.loopAsk_uncovered (hm : m ≠ 0) (hmode : (d.loop kind idx).mode = 0) : d.loopAsk kind idx m false ovr = (false, d.lbRefuse 4) := by
  simp [Dev.loopAsk, hm, hmode, hm.symm]

theorem Dev.loopAsk_asks (hm : m ≠ 0) (hmode : (d.loop kind idx).mode = 0) :
    d.loopAsk kind idx m true ovr = (true, (d.modLoop kind idx (·.asking m d.tim.clk ovr)).lbLast 0) := by
  simp [Dev.loopAsk, Loop.asking, hm, hmode, hm.symm]

end

/-! The outcome of a write (R874). -/

section
variable (s : State) (n : Nat) (o : Host.Outcome State Fault Refusal)

/-- A write is refused with a code. -/
def Refuses (code : Nat) (t : State) : Prop :=
  t.dev.fld Reg.TST_LB_RESULT 2 0 = code ∧ t.dev.flag Reg.TST_INT_STATUS 3 = true ∧ t.dev.tst.loops = s.dev.tst.loops ∧ t.dev.nv = s.dev.nv ∧
    t.dev.txn.cfg = s.dev.txn.cfg ∧ t.ctl = s.ctl

/-- A write asks for a mode of a loop-back as R871, R874 and R877 say. -/
def Asks (kind idx m : Nat) (ovr covered : Bool) : Prop :=
  let x := s.dev.loop kind idx
  (m = 0 → EndsWith o (fun t => (t.dev.loop kind idx).req = (if x.mode = 0 then none else some (0, max s.dev.tim.clk n)) ∧
    (t.dev.loop kind idx).mode = x.mode ∧ t.dev.fld Reg.TST_LB_RESULT 2 0 = 1 ∧ t.dev.nv = s.dev.nv ∧ t.ctl = s.ctl)) ∧
  (m ≠ 0 → x.mode = m → x.req = none → EndsWith o (fun t => t.dev.tst.loops = s.dev.tst.loops ∧
    t.dev.rd Reg.TST_LB_RESULT = s.dev.rd Reg.TST_LB_RESULT ∧ t.ctl = s.ctl)) ∧
  (m ≠ 0 → x.mode ≠ 0 → (x.mode ≠ m ∨ x.req ≠ none) → EndsWith o (Refuses s 2)) ∧
  (m ≠ 0 → x.mode = 0 → covered = false → ovr = false → EndsWith o (Refuses s 4)) ∧
  (m ≠ 0 → x.mode = 0 → (covered = true ∨ ovr = true) → EndsWith o (fun t => (t.dev.loop kind idx).req = some (m, max s.dev.tim.clk n) ∧
    (t.dev.loop kind idx).mode = 0 ∧ (t.dev.loop kind idx).override = ovr ∧ t.dev.fld Reg.TST_LB_RESULT 2 0 = 0 ∧ t.dev.nv = s.dev.nv ∧ t.ctl = s.ctl))

variable {s n o} {e : Dev} (hends : Ends o { s with dev := e })
include hends

theorem refuses_of {code : Nat} (hc : code < 8) (h : e.askView = ((s.dev.tick n).lbRefuse code).askView) : EndsWith o (Refuses s code) := by
  obtain ⟨hlast, htold, hkeep⟩ := (s.dev.tick n).lbRefuse_shows hc
  injection h with hloops h
  injection h with hres h
  injection h with hint h
  injection h with hnv h
  injection h with hcfg _
  exact hends.with fun _ _ _ _ _ => ⟨(congrArg (bits · 2 0) hres).trans hlast, (Dev.flag_congr hint 3).trans htold, hloops, hnv, hcfg, rfl⟩

/-- A write with MODE 0 ends the loop-back that runs, or withdraws one asked for. -/
theorem asks_end_of {kind idx : Nat} {ovr covered : Bool} (hloop : e.loop kind idx = (s.dev.loop kind idx).ending (max s.dev.tim.clk n))
    (hres : e.fld Reg.TST_LB_RESULT 2 0 = 1) (hnv : e.nv = s.dev.nv) : Asks s n o kind idx 0 ovr covered := by
  refine ⟨fun _ => ?_, fun h => absurd rfl h, fun h => absurd rfl h, fun h => absurd rfl h, fun h => absurd rfl h⟩
  refine hends.with fun _ _ _ _ _ => ⟨(congrArg Loop.req hloop).trans ?_, (congrArg Loop.mode hloop).trans ?_, hres, hnv, rfl⟩
  · unfold Loop.ending
    split <;> rfl
  · unfold Loop.ending
    split <;> rfl

/-- A write that leaves what the request leaves has the outcome of the request. -/
theorem asks_of {kind idx m : Nat} {ovr covered : Bool} (h : e.askView = ((s.dev.tick n).loopAsk kind idx m (ovr || covered) ovr).2.askView) :
    Asks s n o kind idx m ovr covered := by
  by_cases h0 : m = 0
  · subst h0
    rw [Dev.loopAsk_end] at h
    injection h with hloops h
    injection h with hres h
    injection h with hint h
    injection h with hnv _
    refine asks_end_of hends ?_ ((congrArg (bits · 2 0) hres).trans (Dev.lbLast_fld _ (by decide))) hnv
    rw [← s.dev.tick_clk n]
    exact (Dev.loop_congr hloops kind idx).trans ((s.dev.tick n).loop_modLoop_same kind idx (·.ending (s.dev.tick n).tim.clk))
  refine ⟨fun hm => absurd hm h0, fun hm hmode hreq => ?_, fun hm hmode hne => ?_, fun hm hmode hcov hov => ?_, fun hm hmode hcov => ?_⟩
  · rw [Dev.loopAsk_runs (s.dev.tick n) hm hmode hreq] at h
    injection h with hloops h
    injection h with hres _
    exact hends.with fun _ _ _ _ _ => ⟨hloops, hres, rfl⟩
  · rw [Dev.loopAsk_busy (s.dev.tick n) hm hmode hne] at h
    exact refuses_of hends (by decide) h
  · rw [hcov, hov, Bool.or_false, Dev.loopAsk_uncovered (s.dev.tick n) hm hmode] at h
    exact refuses_of hends (by decide) h
  · rw [show (ovr || covered) = true from Bool.or_eq_true_iff.mpr hcov.symm, Dev.loopAsk_asks (s.dev.tick n) hm hmode] at h
    injection h with hloops h
    injection h with hres h
    injection h with hint h
    injection h with hnv _
    have hloop : e.loop kind idx = (s.dev.loop kind idx).asking m (max s.dev.tim.clk n) ovr := by
      rw [← s.dev.tick_clk n]
      exact (Dev.loop_congr hloops kind idx).trans ((s.dev.tick n).loop_modLoop_same kind idx (·.asking m (s.dev.tick n).tim.clk ovr))
    exact hends.with fun _ _ _ _ _ => ⟨congrArg Loop.req hloop, (congrArg Loop.mode hloop).trans hmode, congrArg Loop.override hloop,
      (congrArg (bits · 2 0) hres).trans (Dev.lbLast_fld _ (by decide)), hnv, rfl⟩

end

/-! The registers of the test block. -/

theorem portCtl_row : ∀ p < 8, regAt (Reg.TST_PORT_CTL p) = some ⟨0x481000, [(0x40, 8)], .rw, 0x0, 0x17, 0x8, []⟩ := by decide +kernel
theorem quadCtl_row : ∀ q < 4, regAt (Reg.TST_Q_CTL q) = some ⟨0x480100, [(0x20, 4)], .rw, 0x0, 0x7, 0x0, []⟩ := by decide +kernel
theorem ozCtl_row : ∀ l < 2, regAt (Reg.TST_OZ_CTL l) = some ⟨0x480040, [(0x10, 2)], .rw, 0x0, 0x7, 0x0, []⟩ := by decide +kernel
theorem pcieLb_row : regAt Reg.TST_PCIE_LB = some ⟨0x480030, [], .rw, 0x0, 0x1, 0x0, []⟩ := by decide +kernel
theorem ppsCtl_row : regAt Reg.TST_PPS_CTL = some ⟨0x480020, [], .rw, 0x0, 0x3, 0x0, []⟩ := by decide +kernel
theorem tstCtl_row : regAt Reg.TST_CTL = some ⟨0x480000, [], .rw, 0x0, 0x1, 0x0, []⟩ := by decide +kernel

/-- A register that neither GLB_CTL, GLB_RESET_CTL, a quota nor a generator's length is. -/
def PlainReg (a : Nat) : Prop := a ≠ Reg.GLB_CTL ∧ a ≠ Reg.GLB_RESET_CTL ∧ (∀ p < 2, a ≠ Reg.REC_RP_QUOTA p) ∧ ∀ p < 8, a ≠ Reg.TST_PORT_GEN p

theorem portCtl_plain : ∀ p < 8, PlainReg (Reg.TST_PORT_CTL p) := by unfold PlainReg; decide
theorem quadCtl_plain : ∀ q < 4, PlainReg (Reg.TST_Q_CTL q) := by unfold PlainReg; decide
theorem ozCtl_plain : ∀ l < 2, PlainReg (Reg.TST_OZ_CTL l) := by unfold PlainReg; decide

section
variable (d : Dev) (i : Iface) (v : Word)

theorem Dev.regAct_portCtl {p : Nat} (hp : p < 8) : d.regAct i (Reg.TST_PORT_CTL p) v = d.portLoopWrite p v := by
  rw [regAct_eq]
  interval_cases p
  all_goals rfl

theorem Dev.regAct_quadCtl {q : Nat} (hq : q < 4) : d.regAct i (Reg.TST_Q_CTL q) v = d.quadLoopWrite q v := by
  rw [regAct_eq]
  interval_cases q
  all_goals rfl

theorem Dev.regAct_ozCtl {l : Nat} (hl : l < 2) : d.regAct i (Reg.TST_OZ_CTL l) v = d.ozLoopWrite l v := by
  rw [regAct_eq]
  interval_cases l
  all_goals rfl

theorem Dev.regAct_pcieLb : d.regAct i Reg.TST_PCIE_LB v = (d.pcieLoopWrite i v).afterLoop d := by
  rw [regAct_eq]
  rfl

theorem Dev.regAct_ppsCtl : d.regAct i Reg.TST_PPS_CTL v = d.ppsLoopWrite v := by
  rw [regAct_eq]
  rfl

theorem Dev.regAct_tstCtl : d.regAct i Reg.TST_CTL v = d.prodWrite v := by
  rw [regAct_eq]
  rfl

end

/-! The writes (R871, R875, R877, R880, R886, R887). -/

section
variable (d : Dev)

theorem Dev.loopAsk_keeps (kind idx m : Nat) (covered ovr : Bool) : (d.loopAsk kind idx m covered ovr).2.resetCtr = d.resetCtr ∧
    ((d.loopAsk kind idx m covered ovr).2.loop kind idx).mode = (d.loop kind idx).mode := by
  unfold Dev.loopAsk
  dsimp only
  split
  · refine ⟨rfl, ?_⟩
    exact (congrArg Loop.mode (d.loop_modLoop_same kind idx (·.ending d.tim.clk))).trans (by unfold Loop.ending; split <;> rfl)
  split
  · exact ⟨rfl, rfl⟩
  split
  · exact ⟨rfl, rfl⟩
  split
  · exact ⟨rfl, rfl⟩
  · exact ⟨rfl, (congrArg Loop.mode (d.loop_modLoop_same kind idx (·.asking m d.tim.clk ovr)) :)⟩

variable {d} in
theorem Dev.resetCtr_of_ask {e : Dev} (h : e.askView = d.askView) : e.resetCtr = d.resetCtr := by
  injection h with _ h
  injection h with _ h
  injection h with _ h
  injection h with _ h
  injection h

variable {u w : Word} {p : Nat}

/-- Has a port the mode? -/
def portFits (p m : Nat) : Prop := m ≤ 1 ∨ (p < 4 ∧ m ≤ 4) ∨ (4 ≤ p ∧ m = 5)

theorem portFits_iff (p m : Nat) :
    (m != 0 && !(m == 1 || (decide (p < 4) && decide (2 ≤ m) && decide (m ≤ 4)) || (decide (4 ≤ p) && m == 5))) = true ↔ ¬ portFits p m := by
  simp only [portFits, Bool.and_eq_true, Bool.not_eq_true', Bool.or_eq_false_iff, Bool.and_eq_false_iff, bne_iff_ne, beq_eq_false_iff_ne, decide_eq_false_iff_not]
  omega

theorem Dev.portLoopWrite_bad (h : ¬ portFits p (bits u 2 0)) : d.portLoopWrite p u = d.lbRefuse 3 := by
  unfold Dev.portLoopWrite
  exact if_pos ((portFits_iff p _).mpr h)

/-- A write of a mode that the port has leaves what the request leaves. -/
theorem Dev.portLoopWrite_fits (h : portFits p (bits u 2 0)) :
    (d.portLoopWrite p u).askView = (d.loopAsk 0 p (bits u 2 0) (bit u 4 || d.portCovered p) (bit u 4)).2.askView := by
  unfold Dev.portLoopWrite
  dsimp only
  rw [if_neg fun hbad => (portFits_iff p _).mp hbad h]
  split
  · rfl
  have hwr (e : Dev) (x : Nat) : (e.wrN (Reg.TST_PORT_CTL p) x).askView = e.askView := e.wr_askView (portTest_ne p (.inl rfl)) _
  split
  · exact (Dev.genStart_askView _ p).trans (hwr _ _)
  · exact hwr _ _

theorem Dev.portLoopWrite_congr (h : ∀ k < 5, bit w k = bit u k) : d.portLoopWrite p w = d.portLoopWrite p u := by
  have hm : bits w 2 0 = bits u 2 0 := bits_eq_of_bit _ _ _ _ fun k _ hk => h k (by omega)
  simp only [Dev.portLoopWrite, hm, h 3 (by decide), h 4 (by decide)]

theorem Dev.portLoopWrite_resetCtr : (d.portLoopWrite p u).resetCtr = d.resetCtr := by
  by_cases h : portFits p (bits u 2 0)
  · exact (Dev.resetCtr_of_ask (d.portLoopWrite_fits h)).trans (d.loopAsk_keeps _ _ _ _ _).1
  · rw [d.portLoopWrite_bad h]
    rfl

theorem Dev.ozLoopWrite_asks {l : Nat} (h : bits u 1 0 ≠ 3) (hl : l < 2) : (d.ozLoopWrite l u).askView =
    (d.loopAsk 1 l (bits u 1 0) (bit u 2 || !(d.units.paired && (d.lane l).up && !(d.lane (1 - l)).up)) (bit u 2)).2.askView := by
  unfold Dev.ozLoopWrite
  dsimp only
  rw [if_neg h]
  split
  · exact Dev.wr_askView _ (by simp only [Reg.TST_OZ_CTL, Reg.TST_LB_RESULT, Reg.TST_INT_STATUS]; omega) _
  · rfl

theorem Dev.quadLoopWrite_asks {q : Nat} (h : bits u 2 0 < 6) : (d.quadLoopWrite q u).askView = (d.loopAsk 2 q (bits u 2 0) true false).2.askView := by
  unfold Dev.quadLoopWrite
  dsimp only
  rw [if_neg (Nat.not_le.mpr h)]
  split
  · exact Dev.wr_askView _ (by simp only [Reg.TST_Q_CTL, Reg.TST_LB_RESULT, Reg.TST_INT_STATUS]; omega) _
  · rfl

theorem Dev.pcieLoopWrite_asks : (d.pcieLoopWrite .spi u).askView = (d.loopAsk 3 0 (bits u 0 0) true false).2.askView := by
  unfold Dev.pcieLoopWrite
  rw [if_neg (by decide)]
  dsimp only
  split
  · exact Dev.wr_askView _ (by decide) _
  · rfl

/-- The mode of the endpoint's loop-back is changed by no write. -/
theorem Dev.pcieLoopWrite_afterLoop (i : Iface) : (d.pcieLoopWrite i u).afterLoop d = d.pcieLoopWrite i u := by
  have hmode : ((d.pcieLoopWrite i u).loop 3 0).mode = (d.loop 3 0).mode := by
    cases i with
    | pcie => rfl
    | spi =>
      have h := d.pcieLoopWrite_asks (u := u)
      injection h with hloops _
      exact (congrArg Loop.mode (Dev.loop_congr hloops 3 0)).trans (d.loopAsk_keeps _ _ _ _ _).2
  unfold Dev.afterLoop
  rw [hmode]
  by_cases h : (d.loop 3 0).mode = 0
  · simp [h]
  · simp [h]

/-- Does a domain take its time from a PPS input? -/
def Dev.ppsUsed (k : Nat) : Bool := (List.range 2).any fun j => d.domSrc j == 2 && d.domPort j == k

theorem Dev.ppsUsed_iff (k : Nat) : d.ppsUsed k = true ↔ ∃ j < 2, d.domSrc j = 2 ∧ d.domPort j = k := by
  simp [Dev.ppsUsed]

variable {k : Nat}

theorem Dev.ppsLoopWrite_used (h0 : bit u 0 = true) (hu : d.ppsUsed (bits u 1 1) = true) : d.ppsLoopWrite u = d.lbRefuse 5 := by
  unfold Dev.ppsLoopWrite
  exact if_pos (Bool.and_eq_true_iff.mpr ⟨h0, hu⟩)

theorem Dev.ppsLoopWrite_free (h : bit u 0 = false ∨ d.ppsUsed (bits u 1 1) = false) : d.ppsLoopWrite u =
    if bit u 0 && (d.loop 4 (1 - bits u 1 1)).mode != 0 then d.lbRefuse 2
    else (if bit u 0 then (d.loopAsk 4 (bits u 1 1) 1 true false).2 else ((d.loopAsk 4 0 0 true false).2.loopAsk 4 1 0 true false).2).wrN
      Reg.TST_PPS_CTL (bits u 1 0) := by
  unfold Dev.ppsLoopWrite
  refine if_neg fun hc => ?_
  obtain ⟨h0, hu⟩ := Bool.and_eq_true_iff.mp hc
  rcases h with h | h
  · exact Bool.false_ne_true (h.symm.trans h0)
  · exact Bool.false_ne_true (h.symm.trans hu)

theorem Dev.ppsLoopWrite_other (h0 : bit u 0 = true) (hu : d.ppsUsed (bits u 1 1) = false) (hm : (d.loop 4 (1 - bits u 1 1)).mode ≠ 0) :
    d.ppsLoopWrite u = d.lbRefuse 2 := by
  rw [d.ppsLoopWrite_free (.inr hu)]
  exact if_pos (Bool.and_eq_true_iff.mpr ⟨h0, bne_iff_ne.mpr hm⟩)

theorem Dev.ppsLoopWrite_asks (h0 : bit u 0 = true) (hu : d.ppsUsed (bits u 1 1) = false) (hm : (d.loop 4 (1 - bits u 1 1)).mode = 0) :
    (d.ppsLoopWrite u).askView = (d.loopAsk 4 (bits u 1 1) 1 true false).2.askView := by
  rw [d.ppsLoopWrite_free (.inr hu), if_neg (by simp [hm]), if_pos h0]
  exact Dev.wr_askView _ (by decide) _

/-- Both loops of PPS end. -/
def Dev.ppsEnded : Dev := ((d.loopAsk 4 0 0 true false).2.loopAsk 4 1 0 true false).2

theorem Dev.ppsLoopWrite_off (h0 : bit u 0 = false) : (d.ppsLoopWrite u).askView = d.ppsEnded.askView := by
  rw [d.ppsLoopWrite_free (.inl h0), if_neg (by simp [h0]), if_neg (by simp [h0])]
  exact Dev.wr_askView _ (by decide) _

theorem Dev.ppsEnded_loop (hk : k < 2) : d.ppsEnded.loop 4 k = (d.loop 4 k).ending d.tim.clk := by
  let first : Dev := (d.modLoop 4 0 (·.ending d.tim.clk)).lbLast 1
  have h : d.ppsEnded.loop 4 k = (first.modLoop 4 1 (·.ending d.tim.clk)).loop 4 k := rfl
  rw [h]
  obtain rfl | rfl : k = 0 ∨ k = 1 := by omega
  · have h0 := first.loop_modLoop_ne (kind := 4) (idx := 1) (kind' := 4) (idx' := 0) (by decide) (·.ending d.tim.clk)
    exact h0.trans (d.loop_modLoop_same 4 0 (·.ending d.tim.clk))
  · have h1 := d.loop_modLoop_ne (kind := 4) (idx := 0) (kind' := 4) (idx' := 1) (by decide) (·.ending d.tim.clk)
    exact (first.loop_modLoop_same 4 1 (·.ending d.tim.clk)).trans (congrArg (Loop.ending · d.tim.clk) h1)

theorem Dev.ppsLoopWrite_congr (h : ∀ k < 2, bit w k = bit u k) : d.ppsLoopWrite w = d.ppsLoopWrite u := by
  have h1 : bits w 1 1 = bits u 1 1 := bits_eq_of_bit _ _ _ _ fun k _ hk => h k (by omega)
  have h10 : bits w 1 0 = bits u 1 0 := bits_eq_of_bit _ _ _ _ fun k _ hk => h k (by omega)
  simp only [Dev.ppsLoopWrite, h1, h10, h 0 (by decide)]

theorem Dev.ppsLoopWrite_resetCtr : (d.ppsLoopWrite u).resetCtr = d.resetCtr := by
  have hask (e : Dev) (k m : Nat) := (e.loopAsk_keeps 4 k m true false).1
  unfold Dev.ppsLoopWrite
  dsimp only
  split
  · rfl
  split
  · rfl
  split
  · exact hask d _ 1
  · exact (hask _ 1 0).trans (hask d 0 0)

end

/-! The rows. -/

section
variable {s : State} {n : Nat} {i : Iface} {v u : Word} {o : Host.Outcome State Fault Refusal}

/-- Bits below a bound stand in the mask of its ones. -/
theorem testBit_ones : ∀ k < 5, Nat.testBit 0x1F k = true ∧ (k < 3 → Nat.testBit 7 k = true) ∧ (k < 2 → Nat.testBit 3 k = true) := by decide

theorem portWrite_ends {p : Nat} (hp : p < 8) (h : s.canWrite i (Reg.TST_PORT_CTL p)) :
    Ends (hostRow s n true i (Reg.TST_PORT_CTL p) u) { s with dev := (s.dev.tick n).portLoopWrite p u } := by
  refine hostRow_masked (m := 0x1F) h (portCtl_row p hp) (.inl rfl) ⟨rfl, rfl⟩ (portCtl_plain p hp) (fun w hw => ?_) (Dev.portLoopWrite_resetCtr _)
  rw [Dev.regAct_portCtl _ _ _ hp]
  exact Dev.portLoopWrite_congr _ fun k hk => hw k (by omega) (testBit_ones k hk).1

/-- What a write of the mode `k` to a port's test asks, or its refusal. -/
theorem portLoop_outcomes {p k : Nat} (hp : p < 8) (hk : k < 8) (h : s.canWrite i (Reg.TST_PORT_CTL p))
    (ho : o = hostRow s n true i (Reg.TST_PORT_CTL p) (setBits v 2 0 k)) :
    (¬ portFits p k → EndsWith o (Refuses s 3)) ∧ (portFits p k → Asks s n o 0 p k (bit v 4) (s.dev.portCovered p)) := by
  have hends : Ends o _ := ho ▸ portWrite_ends hp h
  have hm : bits (setBits v 2 0 k) 2 0 = k := (bits_setBits v 2 0 k (by decide)).trans (Nat.mod_eq_of_lt hk)
  have h4 : bit (setBits v 2 0 k) 4 = bit v 4 := (bit_setBits v 2 0 k 4 (by decide)).trans (if_neg (by decide))
  constructor
  · intro hfit
    exact refuses_of hends (by decide) (congrArg Dev.askView (Dev.portLoopWrite_bad _ (by rwa [hm])))
  · intro hfit
    have hview := (s.dev.tick n).portLoopWrite_fits (p := p) (u := setBits v 2 0 k) (by rwa [hm])
    rw [hm, h4] at hview
    exact asks_of hends hview

theorem ozLoop_outcomes {l k : Nat} (hl : l < 2) (hk : k < 3) (h : s.canWrite i (Reg.TST_OZ_CTL l))
    (ho : o = hostRow s n true i (Reg.TST_OZ_CTL l) (setBits v 1 0 k)) :
    Asks s n o 1 l k (bit v 2) (!(s.dev.units.paired && (s.dev.lane l).up && !(s.dev.lane (1 - l)).up)) := by
  have hm : bits (setBits v 1 0 k) 1 0 = k := (bits_setBits v 1 0 k (by decide)).trans (Nat.mod_eq_of_lt (show k < 4 by omega))
  have h2 : bit (setBits v 1 0 k) 2 = bit v 2 := (bit_setBits v 1 0 k 2 (by decide)).trans (if_neg (by decide))
  have hview := (s.dev.tick n).ozLoopWrite_asks (l := l) (u := setBits v 1 0 k) (by omega) hl
  have hctr := (Dev.resetCtr_of_ask hview).trans (Dev.loopAsk_keeps _ _ _ _ _ _).1
  have hends : Ends o { s with dev := (s.dev.tick n).ozLoopWrite l (setBits v 1 0 k) } := by
    rw [ho]
    refine hostRow_masked (m := 7) h (ozCtl_row l hl) (.inl rfl) ⟨rfl, rfl⟩ (ozCtl_plain l hl) (fun w hw => ?_) hctr
    have hbit (j : Nat) (hj : j < 3) := hw j (by omega) ((testBit_ones j (by omega)).2.1 hj)
    have hw1 := bits_eq_of_bit w (setBits v 1 0 k) 1 0 fun j _ hj => hbit j (by omega)
    have hw2 := bits_eq_of_bit w (setBits v 1 0 k) 2 0 fun j _ hj => hbit j (by omega)
    rw [Dev.regAct_ozCtl _ _ _ hl]
    simp only [Dev.ozLoopWrite, hw1, hw2, hbit 2 (by decide)]
  rw [hm, h2] at hview
  exact asks_of hends hview

theorem quadLoop_outcomes {q k : Nat} (hq : q < 4) (hk : k < 6) (h : s.canWrite i (Reg.TST_Q_CTL q))
    (ho : o = hostRow s n true i (Reg.TST_Q_CTL q) (setBits v 2 0 k)) : Asks s n o 2 q k false true := by
  have hm : bits (setBits v 2 0 k) 2 0 = k := (bits_setBits v 2 0 k (by decide)).trans (Nat.mod_eq_of_lt (show k < 8 by omega))
  have hview := (s.dev.tick n).quadLoopWrite_asks (q := q) (u := setBits v 2 0 k) (by omega)
  have hctr := (Dev.resetCtr_of_ask hview).trans (Dev.loopAsk_keeps _ _ _ _ _ _).1
  have hends : Ends o { s with dev := (s.dev.tick n).quadLoopWrite q (setBits v 2 0 k) } := by
    rw [ho]
    refine hostRow_masked (m := 7) h (quadCtl_row q hq) (.inl rfl) ⟨rfl, rfl⟩ (quadCtl_plain q hq) (fun w hw => ?_) hctr
    have hw2 := bits_eq_of_bit w (setBits v 2 0 k) 2 0 fun j _ hj => hw j (by omega) ((testBit_ones j (by omega)).2.1 (by omega))
    rw [Dev.regAct_quadCtl _ _ _ hq]
    simp only [Dev.quadLoopWrite, hw2]
  rw [hm] at hview
  exact asks_of hends hview

theorem pcieLoopWrite_resetCtr (d : Dev) : (d.pcieLoopWrite i u).resetCtr = d.resetCtr := by
  cases i with
  | pcie => rfl
  | spi => exact (Dev.resetCtr_of_ask d.pcieLoopWrite_asks).trans (d.loopAsk_keeps _ _ _ _ _).1

/-- A write of the endpoint's loop, with the pattern errors that its checker finds. -/
theorem pcieLoop_ends (h : s.canWrite i Reg.TST_PCIE_LB) (k : Nat) :
    ∃ w : Word, bit w 0 = bit v 0 ∧ Ends (exec (.pcieLoop n i v k) s) { s with dev := ((s.dev.tick n).pcieLoopWrite i w).pcieErrors k } := by
  let old := (s.dev.tick n).rd ((s.dev.tick n).copy Reg.TST_PCIE_LB)
  let w : Word := (old &&& ~~~ w32 1) ||| (v &&& w32 1)
  have hw := rowWrite_act (d := s.dev.tick n) (i := i) (v := v) (r := ⟨0x480030, [], .rw, 0x0, 0x1, 0x0, []⟩) (v' := w) (a := Reg.TST_PCIE_LB)
    (.inl rfl) rfl (by decide) (by decide) (by decide)
  rw [Dev.regAct_pcieLb, Dev.pcieLoopWrite_afterLoop] at hw
  refine ⟨w, (bit_held old v 1 (by decide)).trans (if_pos (by decide)), ?_⟩
  have hwrite := write_granted (s := s.at n) v ((at_canWrite s n i _).mpr h) (by decide) pcieLb_row
  have hctr : ((s.dev.tick n).pcieLoopWrite i w).resetCtr = s.dev.resetCtr := pcieLoopWrite_resetCtr _
  have hagain : ((s.dev.tick n).pcieLoopWrite i w).intAgain (s.dev.tick n) Reg.TST_PCIE_LB = (s.dev.tick n).pcieLoopWrite i w := rfl
  rw [hagain] at hw
  simp only [State.at_dev, hw, if_true, Dev.tick_resetCtr, hctr, State.at_ctl] at hwrite
  rw [exec_pcieLoop, hwrite]
  exact Ends.of_doneS s _

theorem Dev.pcieErrors_askView (d : Dev) (k : Nat) : (d.pcieErrors k).askView = d.askView := by
  unfold Dev.pcieErrors
  split
  · rfl
  · exact Dev.askView_of (d.inc_besideRegs _ _) (Dev.rd_inc_ne d k (by decide)) (Dev.rd_inc_ne d k (by decide))

theorem ppsLoop_ends (h : s.canWrite i Reg.TST_PPS_CTL) : Ends (exec (.ppsLoop n i v) s) { s with dev := (s.dev.tick n).ppsLoopWrite v } := by
  rw [exec_ppsLoop]
  refine hostRow_masked (m := 3) h ppsCtl_row (.inl rfl) ⟨rfl, rfl⟩ (by decide) (fun w hw => ?_) (Dev.ppsLoopWrite_resetCtr _)
  rw [Dev.regAct_ppsCtl]
  exact Dev.ppsLoopWrite_congr _ fun k hk => hw k (by omega) ((testBit_ones k (by omega)).2.2 hk)

theorem prodWrite_ends (h : s.canWrite i Reg.TST_CTL) : Ends (exec (.prodModeWrite n i v) s) { s with dev := (s.dev.tick n).prodWrite v } := by
  rw [exec_prodModeWrite]
  refine hostRow_masked (m := 1) h tstCtl_row (.inl rfl) ⟨rfl, rfl⟩ (by decide) (fun w hw => ?_) ?_
  · have h0 : bit w 0 = bit v 0 := hw 0 (by decide) (by decide)
    have hbits : bits w 0 0 = bits v 0 0 := bits_eq_of_bit _ _ _ _ fun k _ hk => by rwa [show k = 0 by omega]
    rw [Dev.regAct_tstCtl, Dev.prodWrite, Dev.prodWrite, h0, hbits]
  · unfold Dev.prodWrite
    split <;> rfl

end

/-- Settles O59: every write leaves what its request leaves (`asks_of`), and the request answers by its five cases (`Dev.loopAsk_end` to
`Dev.loopAsk_asks`). -/
theorem testRequests : Obligations.TestRequests := by
  intro s n i v
  refine ⟨fun p hp h x hx => ?port, fun l hl h x hx => ?oz, fun q hq h x hx => ?quad, fun h k => ⟨?pcie, ?spi⟩, fun h => ⟨?used, ?other, ?asked, ?off⟩,
    fun h => ⟨?refused, ?taken⟩⟩
  case port =>
    simp only [List.mem_cons, List.not_mem_nil, or_false] at hx
    rcases hx with rfl | rfl | rfl | rfl | rfl | rfl
    all_goals exact portLoop_outcomes hp (by dsimp only; decide) h (congrArg (fun b => hostRow s n b i _ _) (decide_eq_true hp))
  case oz =>
    simp only [List.mem_cons, List.not_mem_nil, or_false] at hx
    rcases hx with rfl | rfl | rfl
    all_goals exact ozLoop_outcomes hl (by dsimp only; decide) h (congrArg (fun b => hostRow s n b i _ _) (decide_eq_true hl))
  case quad =>
    simp only [List.mem_cons, List.not_mem_nil, or_false] at hx
    rcases hx with rfl | rfl | rfl | rfl | rfl | rfl
    all_goals exact quadLoop_outcomes hq (by dsimp only; decide) h (congrArg (fun b => hostRow s n b i _ _) (decide_eq_true hq))
  case pcie =>
    rintro rfl
    obtain ⟨w, -, hends⟩ := pcieLoop_ends (n := n) (v := v) h k
    exact refuses_of hends (by decide) (Dev.pcieErrors_askView _ k)
  case spi =>
    rintro rfl
    obtain ⟨w, hw, hends⟩ := pcieLoop_ends (n := n) (v := v) h k
    have hbits : bits w 0 0 = bits v 0 0 := bits_eq_of_bit _ _ _ _ fun k _ hk => by rwa [show k = 0 by omega]
    have hview := (Dev.pcieErrors_askView _ k).trans ((s.dev.tick n).pcieLoopWrite_asks (u := w))
    rw [hbits] at hview
    exact asks_of hends hview
  case used =>
    intro h0 hu
    exact refuses_of (ppsLoop_ends h) (by decide) (congrArg Dev.askView (Dev.ppsLoopWrite_used _ h0 ((s.dev.ppsUsed_iff _).mpr hu)))
  case other =>
    intro h0 hu hm
    have hfree : s.dev.ppsUsed (bits v 1 1) = false := Bool.eq_false_iff.mpr fun h => hu ((s.dev.ppsUsed_iff _).mp h)
    exact refuses_of (ppsLoop_ends h) (by decide) (congrArg Dev.askView (Dev.ppsLoopWrite_other _ h0 hfree hm))
  case asked =>
    intro h0 hu hm
    have hfree : s.dev.ppsUsed (bits v 1 1) = false := Bool.eq_false_iff.mpr fun h => hu ((s.dev.ppsUsed_iff _).mp h)
    exact asks_of (ppsLoop_ends h) (Dev.ppsLoopWrite_asks _ h0 hfree hm)
  case off =>
    intro h0
    have hview := (s.dev.tick n).ppsLoopWrite_off h0
    have hoff (k : Nat) (hk : k < 2) : Asks s n (exec (.ppsLoop n i v) s) 4 k 0 false true := by
      injection hview with hloops hview
      injection hview with hres hview
      injection hview with hint hview
      injection hview with hnv _
      refine asks_end_of (ppsLoop_ends h) ?_ ((congrArg (bits · 2 0) hres).trans (Dev.lbLast_fld _ (by decide))) hnv
      rw [← s.dev.tick_clk n]
      exact (Dev.loop_congr hloops 4 k).trans ((s.dev.tick n).ppsEnded_loop hk)
    exact ⟨hoff 0 (by decide), hoff 1 (by decide)⟩
  case refused =>
    intro h0 hroot
    have hends := prodWrite_ends (n := n) (v := v) h
    have heq : (s.dev.tick n).prodWrite v = ((s.dev.tick n).wr Reg.TST_CTL 0).lbRefuse 6 := if_pos (by rw [h0, show (s.dev.tick n).testRoot = false from hroot]; rfl)
    obtain ⟨hlast, htold, hkeep⟩ := ((s.dev.tick n).wr Reg.TST_CTL 0).lbRefuse_shows (v := 6) (by decide)
    have hctl : (((s.dev.tick n).wr Reg.TST_CTL 0).lbRefuse 6).rd Reg.TST_CTL = 0 :=
      (Dev.rd_raise_ne _ 3 (by decide)).trans ((Dev.rd_putF_ne _ (by decide) _ _ _).trans (Dev.rd_wr_same _ _ _))
    rw [← heq] at hlast htold hkeep hctl
    generalize (s.dev.tick n).prodWrite v = f at *
    exact hends.with fun _ _ _ _ _ => ⟨hctl, hlast, htold, (congrArg (fun e : Dev => e.tst.loops) hkeep :), (congrArg Dev.nv hkeep :),
      (congrArg (fun e : Dev => e.txn.cfg) hkeep :), rfl⟩
  case taken =>
    intro h0
    have hends := prodWrite_ends (n := n) (v := v) h
    have heq : (s.dev.tick n).prodWrite v = (s.dev.tick n).wrN Reg.TST_CTL (bits v 0 0) := by
      refine if_neg fun hc => ?_
      obtain ⟨hb, hr⟩ := Bool.and_eq_true_iff.mp hc
      rcases h0 with h0 | h0
      · exact Bool.false_ne_true (h0.symm.trans hb)
      · exact Bool.false_ne_true ((Bool.not_eq_true' _ ▸ hr).symm.trans h0)
    rw [heq] at hends
    refine hends.with fun _ _ _ _ _ => ⟨?_, fun a ha => Dev.rd_wrN_ne (s.dev.tick n) ha _, rfl, rfl, rfl⟩
    have hlt := bits_lt v 0 0
    refine (congrArg BitVec.toNat (Dev.rd_wr_same (s.dev.tick n) Reg.TST_CTL (w32 (bits v 0 0)))).trans ?_
    rw [w32_toNat]
    omega

end Sys2Proof.Machine

/-! The generator of a port's test, and the end of a loop-back by its time-out (R872, R878, R879, R892; O60). -/

namespace Sys2Proof.Machine

/-! The table of generators. -/

theorem find?_tput_same {α : Type} (t : List (Nat × α)) (q : Nat) (v : α) : ((tput t q v).find? (fun x => x.1 == q)).map (·.2) = some v := by
  induction t with
  | nil => simp [tput]
  | cons x r ih =>
    obtain ⟨a, w⟩ := x
    by_cases hlt : q < a
    · simp [tput, hlt]
    by_cases heq : q = a
    · simp [tput, heq]
    · have hne : (a == q) = false := beq_false_of_ne (Ne.symm heq)
      simp [tput, hlt, heq, hne, ih]

theorem find?_tdel_same {α : Type} (t : List (Nat × α)) (q : Nat) : (tdel t q).find? (fun x => x.1 == q) = none := by
  induction t with
  | nil => rfl
  | cons x r ih =>
    obtain ⟨a, w⟩ := x
    by_cases heq : q = a
    · rw [tdel, if_pos heq]
      exact ih
    · have hne : (a == q) = false := beq_false_of_ne (Ne.symm heq)
      simp [tdel, heq, hne, ih]

section
variable (d : Dev) (p : Nat)

theorem Dev.gen_setGen_some (g : LoopGen) : (d.setGen p (some g)).gen p = some g := find?_tput_same d.tst.gens p g

theorem Dev.gen_setGen_none : (d.setGen p none).gen p = none := congrArg (Option.map _) (find?_tdel_same d.tst.gens p)

variable {d} in
theorem Dev.gen_congr {e : Dev} (h : e.tst = d.tst) : e.gen p = d.gen p := by rw [Dev.gen, h, Dev.gen]

/-! START (R878). -/

/-- A generator whose first frame is due sends it. -/
theorem Dev.genStep_sends {g : LoopGen} (h : d.gen p = some g) (hlast : g.lastAt = none) (hsent : g.sent < g.count) :
    d.genStep p = (d.setGen p (some { g with sent := g.sent + 1 })).emit (.frame p (d.genFrame p g.len g.sent)) := by
  unfold Dev.genStep
  simp only [h, hlast, Option.isSome_none, Bool.false_eq_true, if_false, if_pos hsent]

variable {d p}

/-- The counters and flags of a port's test are clear. -/
def Dev.TestClear (d : Dev) (p : Nat) : Prop :=
  d.rdN (Reg.TST_PORT_RX_CNT p) = 0 ∧ d.rdN (Reg.TST_PORT_ERR_CNT p) = 0 ∧ d.flag (Reg.TST_PORT_STATUS p) 5 = false ∧ d.flag (Reg.TST_PORT_STATUS p) 6 = false

theorem Dev.TestClear.of_regs {e : Dev} (h : d.TestClear p) (hr : e.regs = d.regs) : e.TestClear p := by
  have hrd (a : Nat) : e.rd a = d.rd a := Dev.rd_congr hr a
  unfold Dev.TestClear Dev.rdN Dev.flag
  rw [hrd, hrd, hrd]
  exact h

variable (d p)

theorem Dev.testCleared_clear : (d.testCleared p).TestClear p := by
  have hne : Reg.TST_PORT_RX_CNT p ≠ Reg.TST_PORT_STATUS p ∧ Reg.TST_PORT_ERR_CNT p ≠ Reg.TST_PORT_STATUS p ∧
      Reg.TST_PORT_RX_CNT p ≠ Reg.TST_PORT_ERR_CNT p := by
    simp only [Reg.TST_PORT_RX_CNT, Reg.TST_PORT_ERR_CNT, Reg.TST_PORT_STATUS]
    omega
  obtain ⟨hrs, hes, hre⟩ := hne
  have hrx : (d.testCleared p).rd (Reg.TST_PORT_RX_CNT p) = 0 := by
    rw [Dev.testCleared, Dev.rd_putF_ne _ hrs, Dev.rd_wr_ne _ hre, Dev.rd_wr_same]
  have herr : (d.testCleared p).rd (Reg.TST_PORT_ERR_CNT p) = 0 := by
    rw [Dev.testCleared, Dev.rd_putF_ne _ hes, Dev.rd_wr_same]
  have hflag (k : Nat) (h5 : 5 ≤ k) (h6 : k ≤ 6) : (d.testCleared p).flag (Reg.TST_PORT_STATUS p) k = false := by
    rw [Dev.flag, Dev.testCleared, Dev.rd_putF_same, bit_setBits _ _ _ _ _ (by decide), if_pos ⟨h5, h6⟩, Nat.zero_testBit]
  exact ⟨by rw [Dev.rdN, hrx]; rfl, by rw [Dev.rdN, herr]; rfl, hflag 5 (by decide) (by decide), hflag 6 (by decide) (by decide)⟩

theorem Dev.testCleared_tst : (d.testCleared p).tst = d.tst := rfl

/-- A generator made and not begun. -/
def Dev.genMade : Dev := (d.setGen p (some (d.newGen p))).testCleared p

theorem Dev.genMade_gen : (d.genMade p).gen p = some (d.newGen p) := (Dev.gen_congr p (Dev.testCleared_tst _ p)).trans (d.gen_setGen_some p _)

theorem Dev.genStart_waits (h : d.portLoop p = 0) : d.genStart p = d.genMade p := if_pos h

theorem Dev.genStart_sends (h : d.portLoop p ≠ 0) (hcount : 0 < (d.newGen p).count) : (d.genStart p).gen p = some { d.newGen p with sent := 1 } ∧
    (d.genStart p).TestClear p := by
  have heq : d.genStart p = (d.genMade p).genStep p := if_neg h
  rw [heq, Dev.genStep_sends _ p (d.genMade_gen p) rfl hcount]
  exact ⟨(d.genMade p).gen_setGen_some p _, ((d.setGen p (some (d.newGen p))).testCleared_clear p).of_regs rfl⟩

variable {d p} {u : Word}

/-- A write with START of a mode that is granted starts the generator. -/
theorem Dev.portLoopWrite_starts {e : Dev} (h : portFits p (bits u 2 0)) (hm : bits u 2 0 ≠ 0 ∧ bits u 2 0 ≠ 4) (h3 : bit u 3 = true)
    (hask : d.loopAsk 0 p (bits u 2 0) (bit u 4 || d.portCovered p) (bit u 4) = (true, e)) :
    d.portLoopWrite p u = (e.wrN (Reg.TST_PORT_CTL p) (bits u 2 0 + b2n (bit u 4) * 16)).genStart p := by
  unfold Dev.portLoopWrite
  dsimp only
  rw [if_neg fun hbad => (portFits_iff p _).mp hbad h, hask]
  simp only [Bool.not_true, Bool.false_eq_true, if_false]
  exact if_pos (by simp [h3, hm.1, hm.2])

theorem Dev.newGen_congr {e : Dev} (h : e.rd (Reg.TST_PORT_GEN p) = d.rd (Reg.TST_PORT_GEN p)) : e.newGen p = d.newGen p := by
  rw [Dev.newGen, Dev.fld, Dev.fld, h, Dev.newGen, Dev.fld, Dev.fld]

end

/-! The end of a test (R879). -/

section
variable (d : Dev) (p : Nat)

/-- Does a test pass: all frames came back, without error? -/
def Dev.genPasses (g : LoopGen) : Bool := d.rdN (Reg.TST_PORT_RX_CNT p) == g.count && d.rdN (Reg.TST_PORT_ERR_CNT p) == 0

/-- A test ended, as its flags show it. -/
def Dev.testDone (pass : Bool) : Dev := ((d.setGen p none).putB (Reg.TST_PORT_STATUS p) 5 true).putB (Reg.TST_PORT_STATUS p) 6 pass

theorem Dev.loopDone_waits (h : ∀ g c, d.gen p = some g → g.lastAt = some c → d.tim.clk < c + ticksMs 1) : d.loopDone p = d := by
  unfold Dev.loopDone
  split
  · rename_i g hg
    split
    · rename_i c hc
      exact if_neg (Nat.not_le.mpr (h g c hg hc))
    · rfl
  · rfl

theorem Dev.loopDone_ends {g : LoopGen} {c : Nat} (hg : d.gen p = some g) (hc : g.lastAt = some c) (hdue : c + ticksMs 1 ≤ d.tim.clk) :
    d.loopDone p = (d.testDone p (d.genPasses p g)).loopResult 0 p (d.genPasses p g) g.sent (d.rdN (Reg.TST_PORT_RX_CNT p))
      (d.rdN (Reg.TST_PORT_ERR_CNT p)) := by
  unfold Dev.loopDone
  simp only [hg, hc, if_pos hdue]
  rfl

theorem Dev.testDone_shows (pass : Bool) : (d.testDone p pass).gen p = none ∧ (d.testDone p pass).flag (Reg.TST_PORT_STATUS p) 5 = true ∧
    (d.testDone p pass).flag (Reg.TST_PORT_STATUS p) 6 = pass :=
  ⟨d.gen_setGen_none p, (Dev.flag_putB_ne _ _ _ 6 5 pass (by decide) (.inr (by decide))).trans (Dev.flag_putB_same _ _ 5 true (by decide)),
    Dev.flag_putB_same _ _ 6 pass (by decide)⟩

/-- The record and the interrupts of a result change neither a port's test nor its generator. -/
theorem Dev.loopResult_shows (kind idx : Nat) (pass : Bool) (sent rx err : Nat) : let e := d.loopResult kind idx pass sent rx err
    e.besideRecs = d.besideRecs ∧ (∀ q, e.rd (Reg.TST_PORT_STATUS q) = d.rd (Reg.TST_PORT_STATUS q)) ∧ e.flag Reg.TST_INT_STATUS 0 = true ∧
      (pass = false → e.flag Reg.TST_INT_STATUS 1 = true) := by
  let f := d.record 0x1502 (be 1 kind ++ be 1 idx ++ be 1 (b2n pass) ++ zeros 1 ++ be 4 sent ++ be 4 rx ++ be 4 err)
  have hf : f.besideRecs = d.besideRecs := d.record_besideRecs _ _
  have hq (q : Nat) : Reg.TST_PORT_STATUS q ≠ Reg.REC_LOST_CNT ∧ Reg.TST_PORT_STATUS q ≠ Reg.TST_INT_STATUS := by
    simp only [Reg.TST_PORT_STATUS, Reg.REC_LOST_CNT, Reg.TST_INT_STATUS]
    omega
  have hrd (q : Nat) : (f.raise Reg.TST_INT_STATUS 0).rd (Reg.TST_PORT_STATUS q) = d.rd (Reg.TST_PORT_STATUS q) :=
    (Dev.rd_raise_ne _ 0 (hq q).2).trans (d.record_rd_ne _ _ (hq q).1)
  have htold : (f.raise Reg.TST_INT_STATUS 0).flag Reg.TST_INT_STATUS 0 = true := Dev.flag_raise _ _ _ (by decide)
  cases pass with
  | true => exact ⟨(Dev.raise_besideRecs _ _ _).trans hf, hrd, htold, fun h => absurd h (by decide)⟩
  | false =>
    exact ⟨((Dev.raise_besideRecs _ _ _).trans (Dev.raise_besideRecs _ _ _)).trans hf, fun q => (Dev.rd_raise_ne _ 1 (hq q).2).trans (hrd q),
      (Dev.flag_raise_ne _ (by decide) (.inr (by decide))).trans htold, fun _ => Dev.flag_raise _ _ _ (by decide)⟩

end

/-! The end of a loop-back by its time-out (R872). -/

section
variable (d : Dev)

theorem Dev.tst_of_recs {d e : Dev} (h : e.besideRecs = d.besideRecs) : e.tst = d.tst := (congrArg Dev.tst h :)

theorem Dev.record_tst (typ : Nat) (b : Bytes) : (d.record typ b).tst = d.tst := Dev.tst_of_recs (d.record_besideRecs typ b)
theorem Dev.inc_tst (a n : Nat) : (d.inc a n).tst = d.tst := Dev.tst_of_recs (d.inc_besideRecs a n)

theorem Dev.dupCheck_tst (p : Nat) : (d.dupCheck p).tst = d.tst := by
  unfold Dev.dupCheck
  dsimp only
  split
  · rfl
  · exact Dev.inc_tst _ _ _

theorem Dev.plcaReview_tst (p : Nat) : (d.plcaReview p).tst = d.tst := by
  unfold Dev.plcaReview
  dsimp only
  split
  · exact Dev.record_tst _ _ _
  split
  · unfold Dev.plcaRise
    dsimp only
    split <;> rfl
  · rfl

theorem Dev.linkRecord_tst (p : Nat) (up : Bool) : (d.linkRecord p up).tst = d.tst := Dev.record_tst _ _ _

theorem Dev.linkRises_tst (p : Nat) : (d.linkRises p).tst = d.tst := by
  have hadv (f : Dev) : (f.advertise p).tst = f.tst := by
    unfold Dev.advertise
    split <;> rfl
  have hlat (f : Dev) : (f.latLoad p).tst = f.tst := by
    unfold Dev.latLoad
    split <;> rfl
  rw [Dev.linkRises, hadv, Dev.linkRecord_tst, hlat]
  rfl

theorem Dev.linkFalls_tst (p : Nat) (x : Port) : (d.linkFalls p x).tst = d.tst := by
  have hidle : (d.idleCounts p x).tst = d.tst := by
    unfold Dev.idleCounts
    dsimp only
    split
    · split <;> rfl
    · split <;> rfl
  rw [Dev.linkFalls, Dev.linkRecord_tst, Dev.inc_tst]
  exact hidle

theorem Dev.relink_tst (p : Nat) : (d.relink p).tst = d.tst := by
  have hlost (f : Dev) : (f.loopDiscards p).tst = f.tst := by
    unfold Dev.loopDiscards
    split <;> rfl
  rw [Dev.relink_eq]
  split
  · rw [Dev.plcaReview_tst, Dev.dupCheck_tst]
  split
  · rw [Dev.plcaReview_tst, Dev.linkRises_tst, Dev.dupCheck_tst]
  · rw [Dev.plcaReview_tst, Dev.linkFalls_tst, hlost, Dev.dupCheck_tst]

theorem Dev.quadSettle_tst (q mask : Nat) : (d.quadSettle q mask).tst = d.tst := by
  have hvc (e : Dev) (v : Nat) : (e.vcFlag v 7 true).tst = e.tst := by
    unfold Dev.vcFlag
    dsimp only
    split <;> rfl
  have hstart (e : Dev) (n : Nat) : (e.settleStart n).tst = e.tst := by
    unfold Dev.settleStart
    dsimp only
    split
    · rfl
    · exact hvc _ _
  unfold Dev.quadSettle
  split
  · rfl
  refine foldUp_keeps Dev.tst 48 _ (fun j e => ?_) d
  split
  · exact hstart e _
  · rfl

theorem Dev.loopFinish_loops (kind idx mask : Nat) : (d.loopFinish kind idx mask).tst.loops = d.tst.loops := by
  unfold Dev.loopFinish
  split
  · have h := congrArg Tst.loops ((d.setGen idx none).relink_tst idx)
    exact h
  split
  · exact congrArg Tst.loops (d.quadSettle_tst idx mask)
  · rfl

/-- A loop-back ended. -/
def Loop.ended (x : Loop) : Loop := { x with mode := 0, req := none, mask := 0 }

/-- The end of a loop-back by its time-out changes no other, and raises the interrupt. -/
theorem Dev.loopEnd_timeout {kind idx : Nat} (h : (d.loop kind idx).mode ≠ 0) :
    (d.loopEnd kind idx 1).tst.loops = (d.modLoop kind idx Loop.ended).tst.loops ∧ (d.loopEnd kind idx 1).flag Reg.TST_INT_STATUS 2 = true := by
  have hloops (x : Loop) : (((d.modLoop kind idx Loop.ended).loopRecord kind idx x.mode false 1 x.override).loopFinish kind idx x.mask).tst.loops =
      (d.modLoop kind idx Loop.ended).tst.loops := (Dev.loopFinish_loops _ _ _ _).trans (congrArg Tst.loops (Dev.record_tst _ _ _))
  unfold Dev.loopEnd
  dsimp only
  rw [if_neg h, if_pos rfl]
  exact ⟨hloops _, Dev.flag_raise _ _ _ (by decide)⟩

theorem Dev.afterLoop_keeps (old : Dev) : (d.afterLoop old).tst = d.tst ∧ (d.afterLoop old).rd Reg.TST_INT_STATUS = d.rd Reg.TST_INT_STATUS := by
  unfold Dev.afterLoop
  split
  · exact ⟨(congrArg Dev.tst (d.endpointReset_besideRegs false) :),
      (d.endpointReset_rd false (by decide)).trans ((d.clearRings_rd _).trans (if_neg (by decide)))⟩
  · exact ⟨rfl, rfl⟩

/-- The machine after a time-out of a loop-back. -/
def Dev.timedOut (kind idx : Nat) : Dev := (d.loopTimeout kind idx).afterLoop d

theorem Dev.timedOut_early {kind idx : Nat} (h : ¬ ((d.loop kind idx).mode ≠ 0 ∧ (d.loop kind idx).at' + ticksSec (d.fld Reg.TST_TIMEOUT 11 0) ≤ d.tim.clk)) :
    d.timedOut kind idx = d := by
  have hno : d.loopTimeout kind idx = d := if_neg (by simpa using h)
  rw [Dev.timedOut, hno]
  refine if_neg fun hc => ?_
  obtain ⟨hne, heq⟩ := Bool.and_eq_true_iff.mp hc
  exact bne_iff_ne.mp hne (beq_iff_eq.mp heq)

theorem Dev.timedOut_ends {kind idx : Nat} (hm : (d.loop kind idx).mode ≠ 0) (hdue : (d.loop kind idx).at' + ticksSec (d.fld Reg.TST_TIMEOUT 11 0) ≤ d.tim.clk) :
    (d.timedOut kind idx).tst.loops = (d.modLoop kind idx Loop.ended).tst.loops ∧ (d.timedOut kind idx).flag Reg.TST_INT_STATUS 2 = true := by
  have hyes : d.loopTimeout kind idx = d.loopEnd kind idx 1 := if_pos (by simp [hm, hdue])
  obtain ⟨htst, hrd⟩ := (d.loopEnd kind idx 1).afterLoop_keeps d
  obtain ⟨hloops, htold⟩ := d.loopEnd_timeout hm
  rw [Dev.timedOut, hyes]
  exact ⟨(congrArg Tst.loops htst).trans hloops, (Dev.flag_congr hrd 2).trans htold⟩

end

/-- The objects with a loop-back are those that a command can name, each with a place of its own in the table. -/
theorem loopObjects_named : ∀ x ∈ loopObjects, (decide (x.1 < 5) && decide (x.2 < [8, 2, 4, 1, 2].getD x.1 0)) = true := by decide

theorem loopObjects_apart : ∀ x ∈ loopObjects, ∀ y ∈ loopObjects, y ≠ x → 256 * y.1 + y.2 ≠ 256 * x.1 + x.2 := by decide

/-! START as a command. -/

section
variable {s : State} {n p : Nat} {i : Iface} {v : Word}

/-- What START leaves of the machine besides the generator and the counters. -/
theorem generate_keeps (d : Dev) (p : Nat) : (d.genStart p).nv = d.nv ∧ (d.genStart p).tst.loops = d.tst.loops := by
  have h := d.genStart_askView p
  injection h with hloops h
  injection h with _ h
  injection h with _ h
  injection h with hnv _
  exact ⟨hnv, hloops⟩

theorem portGen_ne (p : Nat) : Reg.TST_PORT_GEN p ≠ Reg.TST_PORT_CTL p ∧ Reg.TST_PORT_GEN p ≠ Reg.TST_LB_RESULT := by
  simp only [Reg.TST_PORT_GEN, Reg.TST_PORT_CTL, Reg.TST_LB_RESULT]
  omega

/-- The modes of a port in which its generator runs. -/
theorem portFits_of_generates {m : Nat} (h : m = 1 ∨ (p < 4 ∧ 2 ≤ m ∧ m ≤ 3) ∨ (4 ≤ p ∧ m = 5)) : portFits p m ∧ m ≠ 0 ∧ m ≠ 4 := by
  unfold portFits
  omega

theorem generate_bits : bits (setBits v 3 3 1) 2 0 = bits v 2 0 ∧ bit (setBits v 3 3 1) 3 = true ∧ bit (setBits v 3 3 1) 4 = bit v 4 :=
  ⟨bits_setBits_ne v 3 3 2 0 1 (by decide) (.inl (by decide)), by rw [bit_setBits _ _ _ _ _ (by decide), if_pos (by decide)]; rfl,
    by rw [bit_setBits _ _ _ _ _ (by decide), if_neg (by decide)]⟩

variable {d : Dev} {u : Word}

/-- START in a loop-back that runs: the generator has sent its first frame. -/
theorem Dev.portLoopWrite_sends (hfit : portFits p (bits u 2 0)) (hm : bits u 2 0 ≠ 0 ∧ bits u 2 0 ≠ 4) (h3 : bit u 3 = true)
    (hmode : (d.loop 0 p).mode = bits u 2 0) (hreq : (d.loop 0 p).req = none) (hcount : 0 < (d.newGen p).count) :
    (d.portLoopWrite p u).gen p = some { d.newGen p with sent := 1 } ∧ (d.portLoopWrite p u).tst.loops = d.tst.loops ∧
      (d.portLoopWrite p u).TestClear p ∧ (d.portLoopWrite p u).nv = d.nv := by
  rw [Dev.portLoopWrite_starts hfit hm h3 (Dev.loopAsk_runs d hm.1 hmode hreq)]
  have hgen := Dev.newGen_congr (Dev.rd_wrN_ne d (portGen_ne p).1 (bits u 2 0 + b2n (bit u 4) * 16))
  obtain ⟨hnv, hloops⟩ := generate_keeps (d.wrN (Reg.TST_PORT_CTL p) (bits u 2 0 + b2n (bit u 4) * 16)) p
  obtain ⟨hsent, hclear⟩ := Dev.genStart_sends (d.wrN (Reg.TST_PORT_CTL p) (bits u 2 0 + b2n (bit u 4) * 16)) p
    (fun h0 => hm.1 (hmode.symm.trans h0)) (by rw [hgen]; exact hcount)
  rw [hgen] at hsent
  exact ⟨hsent, hloops, hclear, hnv⟩

/-- START with a loop-back that is asked for: the generator waits for it. -/
theorem Dev.portLoopWrite_waits (hfit : portFits p (bits u 2 0)) (hm : bits u 2 0 ≠ 0 ∧ bits u 2 0 ≠ 4) (h3 : bit u 3 = true)
    (hmode : (d.loop 0 p).mode = 0) (hgrant : (bit u 4 || d.portCovered p) = true) :
    (d.portLoopWrite p u).gen p = some (d.newGen p) ∧ (d.portLoopWrite p u).loop 0 p = (d.loop 0 p).asking (bits u 2 0) d.tim.clk (bit u 4) ∧
      (d.portLoopWrite p u).TestClear p ∧ (d.portLoopWrite p u).nv = d.nv := by
  let asked : Dev := (d.modLoop 0 p (·.asking (bits u 2 0) d.tim.clk (bit u 4))).lbLast 0
  let e : Dev := asked.wrN (Reg.TST_PORT_CTL p) (bits u 2 0 + b2n (bit u 4) * 16)
  have hloop : e.loop 0 p = (d.loop 0 p).asking (bits u 2 0) d.tim.clk (bit u 4) := d.loop_modLoop_same 0 p (·.asking (bits u 2 0) d.tim.clk (bit u 4))
  have hgen : e.newGen p = d.newGen p :=
    (Dev.newGen_congr (Dev.rd_wrN_ne asked (portGen_ne p).1 _)).trans (Dev.newGen_congr (Dev.rd_putF_ne _ (portGen_ne p).2 2 0 0))
  have hwaits := e.genStart_waits p ((congrArg Loop.mode hloop).trans hmode)
  obtain ⟨hnv, hloops⟩ := generate_keeps e p
  rw [Dev.portLoopWrite_starts (e := asked) hfit hm h3 (by rw [hgrant]; exact d.loopAsk_asks hm.1 hmode)]
  refine ⟨?_, (Dev.loop_congr hloops 0 p).trans hloop, ?_, hnv⟩
  · exact (congrArg (Dev.gen · p) hwaits).trans ((e.genMade_gen p).trans (congrArg some hgen))
  · exact hwaits.symm ▸ Dev.testCleared_clear _ p

end

/-- Settles O60: START makes the generator (`Dev.genMade`) and steps it in a loop-back that runs (`Dev.genStart_sends`); the result is written 1 ms after
the last frame (`Dev.loopDone_ends`), and a time-out ends its loop-back alone (`Dev.timedOut_ends`). -/
theorem testGeneratorsAndEnds : Obligations.TestGeneratorsAndEnds := by
  unfold Obligations.TestGeneratorsAndEnds
  refine ⟨fun s n p i v hp h => ?start, fun s n p hp => ⟨?early, ?done⟩, fun s n kind idx hobj => ⟨?waits, ?ends⟩⟩
  case start =>
    obtain ⟨hbits, hstart, hbit4⟩ := generate_bits (v := v)
    have hends := portWrite_ends (n := n) (u := setBits v 3 3 1) hp h
    rw [exec_portLoopGenerate, decide_eq_true hp]
    refine ⟨fun hfits hmode hreq hcount => ?_, fun hfits hmode hcov => ?_⟩
    · obtain ⟨hfit, hm⟩ := portFits_of_generates hfits
      rw [← hbits] at hfit hm hmode
      obtain ⟨hmade, hloops, ⟨hrx, herr, h5, h6⟩, hnv⟩ := Dev.portLoopWrite_sends (d := s.dev.tick n) hfit hm hstart hmode hreq hcount
      generalize (s.dev.tick n).portLoopWrite p _ = f at *
      exact hends.with fun _ _ _ _ _ => ⟨hmade, hloops, hrx, herr, h5, h6, hnv, rfl⟩
    · obtain ⟨hfit, hm⟩ := portFits_of_generates hfits
      rw [← hbits] at hfit hm
      obtain ⟨hmade, hloop, ⟨hrx, herr, h5, h6⟩, hnv⟩ := Dev.portLoopWrite_waits (d := s.dev.tick n) hfit hm hstart hmode
        (by rw [hbit4]; exact Bool.or_eq_true_iff.mpr hcov.symm)
      rw [hbits, s.dev.tick_clk n] at hloop
      generalize (s.dev.tick n).portLoopWrite p _ = f at *
      exact hends.with fun _ _ _ _ _ => ⟨hmade, congrArg Loop.req hloop, hrx, herr, h5, h6, hnv, rfl⟩
  case early =>
    intro hno
    have hends := devRow_ends s n (·.loopDone p)
    rw [exec_loopDone, decide_eq_true hp]
    have heq := (s.dev.tick n).loopDone_waits p hno
    rw [heq] at hends
    exact hends
  case done =>
    intro g c hg hc hdue
    have hends := devRow_ends s n (·.loopDone p)
    rw [exec_loopDone, decide_eq_true hp]
    have heq := (s.dev.tick n).loopDone_ends p hg hc hdue
    rw [heq] at hends
    obtain ⟨hgone, h5, h6⟩ := (s.dev.tick n).testDone_shows p ((s.dev.tick n).genPasses p g)
    have hnv : ((s.dev.tick n).testDone p ((s.dev.tick n).genPasses p g)).nv = s.dev.nv := rfl
    have hloops : ((s.dev.tick n).testDone p ((s.dev.tick n).genPasses p g)).tst.loops = s.dev.tst.loops := rfl
    have hpass : (s.dev.tick n).genPasses p g = true ↔ s.dev.rdN (Reg.TST_PORT_RX_CNT p) = g.count ∧ s.dev.rdN (Reg.TST_PORT_ERR_CNT p) = 0 := by
      rw [Dev.genPasses, Bool.and_eq_true, beq_iff_eq, beq_iff_eq]
      rfl
    generalize (s.dev.tick n).testDone p _ = e at *
    obtain ⟨hrecs, hstatus, hdone, hfail⟩ := e.loopResult_shows 0 p ((s.dev.tick n).genPasses p g) g.sent ((s.dev.tick n).rdN (Reg.TST_PORT_RX_CNT p))
      ((s.dev.tick n).rdN (Reg.TST_PORT_ERR_CNT p))
    generalize e.loopResult 0 p _ _ _ _ = f at *
    have htst := Dev.tst_of_recs hrecs
    refine hends.with fun _ _ _ _ _ => ⟨(Dev.gen_congr p htst).trans hgone, (Dev.flag_congr (hstatus p) 5).trans h5, ?_, hdone,
      fun hno => hfail (Bool.eq_false_iff.mpr fun h => hno (hpass.mp h)), (congrArg Tst.loops htst).trans hloops, (Dev.nv_of_recs hrecs).trans hnv, rfl⟩
    rw [← hpass, ← h6]
    exact iff_of_eq (congrArg (· = true) (Dev.flag_congr (hstatus p) 6))
  case waits =>
    intro hno
    have hends := devRow_ends s n (·.timedOut kind idx)
    have heq := (s.dev.tick n).timedOut_early hno
    rw [heq] at hends
    rw [exec_loopTimeout, loopObjects_named _ hobj]
    exact hends
  case ends =>
    rintro ⟨hm, hdue⟩
    have hends := devRow_ends s n (·.timedOut kind idx)
    obtain ⟨hloops, htold⟩ := (s.dev.tick n).timedOut_ends hm hdue
    rw [exec_loopTimeout, loopObjects_named _ hobj]
    have hsame := (s.dev.tick n).loop_modLoop_same kind idx Loop.ended
    have hother (o : Nat × Nat) (ho : o ∈ loopObjects) (hne : o ≠ (kind, idx)) :=
      (s.dev.tick n).loop_modLoop_ne (loopObjects_apart _ hobj o ho hne) Loop.ended
    show EndsWith (devRow s n true (·.timedOut kind idx)) _
    generalize (s.dev.tick n).timedOut kind idx = f at *
    exact hends.with fun _ _ _ _ _ => ⟨congrArg Loop.mode ((Dev.loop_congr hloops kind idx).trans hsame),
      congrArg Loop.req ((Dev.loop_congr hloops kind idx).trans hsame), htold, fun o ho hne => (Dev.loop_congr hloops o.1 o.2).trans (hother o ho hne), rfl⟩

end Sys2Proof.Machine
